-- ==== Sys2Proof/Word.lean ====
section
/-!
DEFINITION. The words of the model: raw dictionary values, indices, elements, and the small closed vocabularies
the manual names (variant, operating mode, status code, reset kind).
-/
namespace Sys2Proof

/-- The raw bits of one dictionary element, most significant byte first when it is sent (R66). One store holds
elements of 1 to 1,024 bytes, so a raw value is a number below 2 to the element's width (`Machine.EntryDef.width`). -/
abbrev Raw := Nat

/-- A 16-bit dictionary index (R5). -/
abbrev Index := Nat

/-- A 16-bit element number within an index (R7). -/
abbrev Elem := Nat

/-- The two ordering variants (R1): CDM-4810-X and CDM-4810-S. -/
inductive Variant where
  | x
  | s
  deriving DecidableEq, Repr

/-- The twelve operating modes of R44. -/
inductive Mode where
  | boot
  | commission
  | run
  | runDegraded
  | doze
  | standby
  | maintenance
  | safeHold
  | probation
  | recovery
  | holdup
  | backup
  deriving DecidableEq, Repr

/-- The mode code that `sys_mode` shows (R44). -/
def Mode.code : Mode → Nat
  | .boot => 0x0
  | .commission => 0x1
  | .run => 0x2
  | .runDegraded => 0x3
  | .doze => 0x4
  | .standby => 0x5
  | .maintenance => 0x6
  | .safeHold => 0x7
  | .probation => 0x8
  | .recovery => 0x9
  | .holdup => 0xA
  | .backup => 0xB

/-- The status codes of R14. -/
inductive Status where
  | ok
  | noSuchIndex
  | accessDenied
  | typeMismatch
  | outOfRange
  | needsTxn
  | busyRetry
  | duplicate
  | invalidDate
  | ledgerFull
  | wrongMode
  | txnConflict
  | verifyFailed
  | wrongVariant
  | zeroLength
  deriving DecidableEq, Repr

/-- The byte that carries a status (R14). -/
def Status.code : Status → Nat
  | .ok => 0x00
  | .noSuchIndex => 0x01
  | .accessDenied => 0x02
  | .typeMismatch => 0x03
  | .outOfRange => 0x04
  | .needsTxn => 0x05
  | .busyRetry => 0x06
  | .duplicate => 0x07
  | .invalidDate => 0x08
  | .ledgerFull => 0x09
  | .wrongMode => 0x0A
  | .txnConflict => 0x0B
  | .verifyFailed => 0x0C
  | .wrongVariant => 0x0D
  | .zeroLength => 0x0E

/-- The kinds of start of R49 (`sys_reset_cause`): the six reset kinds of R52, and the wake from STANDBY. -/
inductive StartKind where
  | por
  | bor
  | wdr
  | swr
  | mpr
  | act
  | wake
  deriving DecidableEq, Repr

/-- The code of `sys_reset_cause` (R49). -/
def StartKind.code : StartKind → Nat
  | .por => 0
  | .bor => 1
  | .wdr => 2
  | .swr => 3
  | .mpr => 4
  | .act => 5
  | .wake => 6

end Sys2Proof
end

