-- ==== Sys2Proof/Syntax.lean ====
section
/-!
DEFINITION. The commands of the block: one constructor per row of spec/opcode_table.json. A command that is a write of a
dictionary entry carries who writes (logical port, client ID, request ID) and what; an event of the hardware carries the
measured facts that the manual's rule for it reads.
-/
namespace Sys2Proof

/-- One item of a COP request (R68): index, first element, element count, type code, and its data bytes. -/
structure WItem where
  index : Nat
  first : Nat
  count : Nat
  ty : Nat
  data : List Nat
  deriving DecidableEq, Repr

/-- Where a request comes from, and its answer goes (R72, R73): the port kind's code, physical port, VLAN (0 untagged), source address, MAC address
and UDP port. -/
structure Source where
  kind : Nat
  phys : Nat
  vlan : Nat
  src : Nat
  mac : Nat
  udp : Nat
  deriving DecidableEq, Repr

/-- Who makes a request: logical port (R73), client ID and request ID (R68), and where it comes from. -/
structure Who where
  port : Nat
  client : Nat
  reqid : Nat
  origin : Source
  deriving DecidableEq, Repr

/-- What the management processor finds at a start (R50, R53, R364, R375, R403): which shadow banks load with an
uncorrectable line, lines corrected per bank, whether no valid bank-select copy was found, torn groups and page commits as
(region, offset), the parts that fail their self-test as `sys_health` bits, the W entries whose CRC fails, whether
the flash configuration is absent or fails its check, whether an activation copy fails its read-back three times, how many blocks
of a copy are made before a failure of power or a reset ends it (`none`: it completes), and the image slots that fail their check,
as a mask. -/
structure StartFacts where
  bad0 : Bool
  bad1 : Bool
  corr0 : Nat
  corr1 : Nat
  selBad : Nat
  torn : List (Nat × Nat)
  health : Nat
  wBad : List Nat
  flashBad : Bool
  copyBad : Bool
  copied : Option Nat
  slotBad : Nat
  deriving DecidableEq, Repr

/-- A request as it arrives: where it comes from, its T1S node or MS/TP station (R73), whether it is a fragment or carries a zero IPv4
checksum (R68), and whether the input queue of 1,024 requests is full (R69 step 4). -/
structure RxInfo extends Source where
  node : Nat
  discard : Bool
  queueFull : Bool
  deriving DecidableEq, Repr

/-- One property of a BACnet write (R83, R85): object type, instance, property (85 Present_Value, 104 Relinquish_Default, 77 Object_Name),
priority if given, and the value: `none` for NULL. `typeOk` says whether the datatype fits the property. -/
structure BacWrite where
  objType : Nat
  inst : Nat
  prop : Nat
  priority : Option Nat
  value : Option Nat
  typeOk : Bool
  deriving DecidableEq, Repr

/-- What Who-Has asks for (R82): an object, or an Object_Name in UTF-8. -/
inductive BacHas where
  | object (objType inst : Nat)
  | named (name : List Nat)
  deriving DecidableEq, Repr

/-- What an EAPOL frame from the switch does to the exchange (R76). -/
inductive EapolKind where
  /-- the exchange goes on -/
  | proceed
  /-- the exchange succeeds -/
  | success
  /-- the exchange fails -/
  | failure
  /-- the switch requests a reauthentication -/
  | reauth
  deriving DecidableEq, Repr

/-- Where a received frame goes once admitted (R19), besides the frames the uplink itself consumes. -/
inductive FrameKind where
  /-- a Macaron frame -/
  | macaron
  /-- lift traffic -/
  | lift
  /-- PTP -/
  | ptp
  /-- anything else for the module's own addresses -/
  | own
  /-- to field ports, and, in independent mode, to the other uplink -/
  | forward (ports : List Nat) (toUplinks : Bool)
  /-- a PAUSE frame -/
  | pause
  /-- a PRP supervision frame naming a remote node -/
  | supervision (node : Nat)
  deriving DecidableEq, Repr

/-- The SecTAG of a received frame (R121): SCI, packet number, and whether its ICV holds. -/
structure SecTag where
  sci : Nat
  pn : Nat
  icvOk : Bool
  deriving DecidableEq, Repr

/-- A frame received on an uplink: length with FCS, source and destination MAC, its tag's VLAN ID and PCP if it has one, the trailer's sequence number
and LAN identifier if it has one, its SecTAG if it has one (R121), and where it goes. -/
structure UplinkFrame where
  len : Nat
  src : Nat
  dst : Nat
  tag : Option (Nat × Nat)
  trailer : Option (Nat × Nat)
  sec : Option SecTag
  kind : FrameKind
  deriving DecidableEq, Repr

/-- A PTP message as the servo sees it (R118 to R120). -/
inductive PtpMsg where
  /-- Announce: grandmaster identity, its rank under the best master clock algorithm (lower is better), currentUtcOffset if flagged valid -/
  | announce (gm rank : Nat) (utc : Option Int)
  /-- a completed offset and path-delay measurement in ns, whether the servo holds lock with it, and the frequency correction it arrives at, in 10⁻⁹ -/
  | sync (offset : Int) (delay : Nat) (locked : Bool) (freq : Int)
  /-- a peer-delay request -/
  | pdelayReq
  /-- a Sync that opens a delay measurement, for which the slave sends its own request (R118) -/
  | syncRx
  deriving DecidableEq, Repr

/-- A frame received on a field bridge port (R131, R133, R145): its FCS is bad, its tag's VLAN ID if it has one (0 a priority tag) and PCP, broadcast or multicast, source and destination MAC, length,
the T1S node it is attributed to, what it is where it is for the module itself (R19), the uplink it is bridged to if any, and the field ports it is bridged to. -/
structure FieldFrame where
  fcsBad : Bool
  vid : Option Nat
  pcp : Nat
  multi : Bool
  src : Nat
  dst : Nat
  len : Nat
  node : Nat
  own : Option FrameKind
  uplink : Option Nat
  ports : List Nat
  deriving DecidableEq, Repr

/-- A Modbus reply (R150): register or coil words, an exception code, or a frame with a bad CRC. -/
inductive MbReply where
  | ok (words : List Nat)
  | exception (code : Nat)
  | crcError
  deriving DecidableEq, Repr

/-- A reply of a HART device: whether it is a burst frame, whether its check byte or parity fails, response code, device status, unique identifier (command 0),
loop current and up to four (unit, value) pairs (command 3), data bytes (pass-through). -/
structure HartReply where
  burst : Bool
  bad : Bool
  code : Nat
  dev : Nat
  uid : Nat
  current : Nat
  vars : List (Nat × Nat)
  data : List Nat
  deriving DecidableEq, Repr

/-- The averages of one range class (R190), in 10⁻⁹ V or 10⁻⁹ mA: at its positive point, its negative point and zero; `valid` is false
where no valid samples came. -/
structure CalClass where
  plus : Int
  minus : Int
  zero : Int
  valid : Bool
  deriving DecidableEq, Repr

/-- What a cross-fade starts at (R196): the next sample, a positive-going zero crossing of a voltage input, or the end of the wait for one. -/
inductive FadeCause where
  | sample
  | crossing (v : Nat)
  | timeout
  deriving DecidableEq, Repr

/-- The readings of an energy input as its converters deliver them, 16,000 a second, as F32 words in V at the terminal (R203): the number of
the first one, those of the converter that serves the input or takes it over, and those of the converter it is or was handed over from, where that lies
within them (R194). Reading n is that of the instant n × 62.5 µs of the timebase. A reading that is missing or invalid is `none` (R198). -/
structure InputStream where
  first : Nat
  served : List (Option Nat)
  former : List (Option Nat)
  deriving DecidableEq, Repr

/-- A phase's part of a line cycle: the readings of its voltage and current input, and the spacing of the phase's last two positive-going
crossings in 1/1,024 sample, if two have come. -/
structure PhaseCycle where
  v : InputStream
  i : InputStream
  spacing : Option Nat
  deriving DecidableEq, Repr

/-- A circuit's line cycle: the readings of its phases L1 to L3, with those before and after it that the filters reach (R204, R207). -/
structure LineCycle where
  circuit : Nat
  phases : List PhaseCycle
  deriving DecidableEq, Repr

/-- A positive-going crossing of a phase's high-pass filtered voltage (R205), as F32 words in V at the terminal: the lowest value since the
crossing before, the values before and after the crossing, and the number of the sample after it. -/
structure Crossing where
  phase : Nat
  low : Nat
  before : Nat
  after : Nat
  sample : Nat
  deriving DecidableEq, Repr

/-- The phase sense inputs of one channel at a tick (R261), PHA and PHB, as F32 words in V at the input. -/
structure PhaseSense where
  chan : Nat
  va : Nat
  vb : Nat
  deriving DecidableEq, Repr

/-- The data classes of a DRAM page (R26). -/
inductive PageClass where
  /-- critical, rebuilt from the configuration mirror of the Meringue store -/
  | mirrored
  /-- critical, rebuilt from the duplicate page in the other channel -/
  | duplicated
  /-- not rebuilt -/
  | nonCritical
  deriving DecidableEq, Repr

/-- A master of the fabric (R22): an initiator 0 to 13 of R42, the hardware store sequencer, or the DMA of the bulk stream port. -/
inductive FabricMaster where
  | unit (n : Nat)
  | storeSequencer
  | bspDma
  deriving DecidableEq, Repr

/-- The targets of the table of R22. -/
inductive FabricTarget where
  | praline
  | ledger
  | island
  | flash
  | proofing
  | engineMemory
  | dram
  deriving DecidableEq, Repr

/-- How a master reaches a target (R22): plainly, through commit staging, or writing an arriving block. -/
inductive FabricWay where
  | plain
  | staging
  | block
  deriving DecidableEq, Repr

/-- A motion lane mismatch (R267): whether lanes 0 and 1 pass their self-checks, and whether recomputed results agree. -/
structure LaneCheck where
  a : Bool
  b : Bool
  agree : Bool
  deriving DecidableEq, Repr

/-- What one island cycle latches (R307 to R317): the levels of SIa and SIb of pairs 0 to 15 as masks, the EDM input levels, the outputs
whose SO_H node stands at 5 V or more outside pulses, the pulses counted on each kind 7 pair as (pair, channel a, channel b), whether cores A and B
pass their check and comparison, and whether the safety oscillator finds the fabric clock good. -/
structure IslandIn where
  a : Nat
  b : Nat
  edm : Nat
  soHigh : Nat
  pulses : List (Nat × Nat × Nat)
  coreA : Bool
  coreB : Bool
  clockOk : Bool
  deriving DecidableEq, Repr

/-- A frame in STANDBY (R124): its first bytes, and whether its FCS is right. -/
structure WakeFrame where
  bytes : List Nat
  fcsOk : Bool
  deriving DecidableEq, Repr

/-- A retired page (R27), the page S that takes its place, and the writes held meanwhile, as word offset and word. -/
structure PageRetired where
  page : Nat
  spare : Nat
  held : List (Nat × Nat)
  deriving DecidableEq, Repr

/-- Who accesses what, and how (R22). -/
structure FabricAccess where
  master : FabricMaster
  target : FabricTarget
  way : FabricWay
  deriving DecidableEq, Repr

/-- A secured MKA session (R121): uplink and the peer's SCI. -/
structure MkaSession where
  uplink : Nat
  sci : Nat
  deriving DecidableEq, Repr

/-- A collision on a segment (R146), and whether the frame in transmission is the module's. -/
structure SegCollision where
  seg : Nat
  own : Bool
  deriving DecidableEq, Repr

/-- What the other MS/TP stations do (R148): those that answered as masters since the last token, whether a station polled now replies, and
how often the next station leaves the token unused. -/
structure MstpTurn where
  answered : List Nat
  reply : Bool
  unused : Nat
  deriving DecidableEq, Repr

/-- What a posted write meets: whether it directly follows a read (R154), and, for one to LBW_GO, whether the object service's input queue of
1,024 requests is full when its request arrives there (R69 step 4). -/
structure WriteFacts where
  afterRead : Bool
  queueFull : Bool
  deriving DecidableEq, Repr

/-- An output stage (R178): the delivered value, and whether the stage is at its limit. -/
structure StageReading where
  value : Nat
  limit : Bool
  deriving DecidableEq, Repr

/-- The start of a cross-fade (R196): bank, cause, and on an energy bank the number of the first faded sample. -/
structure FadeStart where
  bank : Nat
  cause : FadeCause
  first : Nat
  deriving DecidableEq, Repr

/-- A gap in a channel's samples (R198): its length in µs, and on an energy bank the number of the first sample of the converter that takes
over. -/
structure SampleGap where
  us : Nat
  first : Nat
  deriving DecidableEq, Repr

/-- The end of a line cycle (R205): the crossing and the readings. -/
structure CycleEnd where
  crossing : Crossing
  cycle : LineCycle
  deriving DecidableEq, Repr

/-- The commands, one constructor per row of spec/opcode_table.json, in the table's order within each family. -/
inductive Instr where
  /-- POWER_ON_RESET (R50): VMAIN rises through 18.0 V from absent. -/
  | powerOnReset (f : StartFacts)
  /-- BOOT_END (R48): the start-up sequence ends `ms` after the reset or wake. -/
  | bootEnd (ms : Nat)
  /-- POWER_FAIL (R60): VMAIN, in mV, has been below 17.0 V for 5 µs; the line cycles under way, each with the number of the first sample after the freeze. -/
  | powerFail (vmain : Nat) (partials : List (Nat × LineCycle))
  /-- INTERNAL_RAIL_FAULT (R52): an internal rail leaves tolerance while VMAIN, in mV, is at least 17.0 V; the line cycles under way, as for POWER_FAIL. -/
  | internalRailFault (vmain : Nat) (partials : List (Nat × LineCycle))
  /-- VMAIN_RETURN_IN_HOLDUP (R61). -/
  | vmainReturnInHoldup
  /-- HOLDUP_STORE_COMPLETE (R60): whether the copied bank fails its readback (R374), the store's duration in µs, and what a BOR that follows finds. -/
  | holdupStoreComplete (bad : Bool) (us : Nat) (f : StartFacts)
  /-- STANDBY_VMAIN_FAIL (R58). -/
  | standbyVmainFail
  /-- WATCHDOG_RESET (R52). -/
  | watchdogReset (f : StartFacts)
  /-- SOFTWARE_RESET (R52): the write of 0x01 to `sys_reset`, and the SWR that follows its acceptance. -/
  | softwareReset (w : Who) (f : StartFacts)
  /-- MPR_COMMAND (R52): the write of 0x02 to `sys_reset`, and the MPR that follows its acceptance. -/
  | mprCommand (w : Who)
  /-- APP_WATCHDOG_EXPIRY (R52). -/
  | appWatchdogExpiry
  /-- MPR_COMPLETE (R52): the object service answers again. -/
  | mprComplete
  /-- ACT_RESET (R402): the reset of an applied activation. -/
  | actReset (f : StartFacts)
  /-- MP_RESTART (R36): whether the management processor passes its ROM self-test. -/
  | mpRestart (romOk : Bool)
  /-- RESERVOIR_CHARGED (R64): reservoir 0 (on-module) or 1 (carrier) reaches 12.0 V. -/
  | reservoirCharged (r : Nat)
  /-- RESERVOIR_CHARGE_TIMEOUT (R51). -/
  | reservoirChargeTimeout (r : Nat)
  /-- RESERVOIR_CHARGE_RETRY (R51). -/
  | reservoirChargeRetry (r : Nat)
  /-- HOURLY_HOLD_TEST (R64). -/
  | hourlyHoldTest (r : Nat)
  /-- HOLD_TEST_CMD (R49): a write of `v` to `sys_hold_test`. -/
  | holdTestCmd (w : Who) (v : Nat)
  /-- HOLD_TEST_COMPLETE (R64): measured voltage step of the 1.0 A pulse, and voltage fall of the 0.30 mC sink, in mV. -/
  | holdTestComplete (stepMv sinkMv : Nat)
  /-- MODE_REQUEST (R46): a write of `code` to `sys_mode_req`. -/
  | modeRequest (w : Who) (code : Nat)
  /-- MODE_TRANSITION_START (R46): the oldest accepted request starts. -/
  | modeTransitionStart
  /-- STANDBY_ENTRY_COMPLETE (R56): the STANDBY store completes, with its duration in µs. -/
  | standbyEntryComplete (us : Nat)
  /-- WAKE_PIN (R49): WAKE_N has been low for 1 ms. -/
  | wakePin (f : StartFacts)
  /-- WAKE_TIMED (R49): the RTC is compared with `sys_wake_time`. -/
  | wakeTimed (f : StartFacts)
  /-- WAKE_PATTERN_MATCH (R124): a frame on an uplink (0 A, 1 B) is matched against the wake patterns. -/
  | wakePatternMatch (uplink : Nat) (frame : WakeFrame) (f : StartFacts)
  /-- PARITY_MISMATCH (R24): the initiator of R42, the 33-bit word received, those of the transaction's replays, the address, and, on the DRAM
  path, the class of its page (R26). -/
  | parityMismatch (initiator word : Nat) (replays : List Nat) (address : Nat) (cls : PageClass)
  /-- DRAM_PAGE_RETIRE_COMPLETE (R27). -/
  | dramPageRetireComplete (r : PageRetired)
  /-- FABRIC_ACCESS_REFUSED (R22): an access of a master to an address of a target, as the fabric checks it. -/
  | fabricAccessRefused (access : FabricAccess) (address : Nat)
  /-- FAULT_RETEST_CMD (R49): a write of `bit` to `sys_fault_retest`. -/
  | faultRetestCmd (w : Who) (bit : Nat)
  /-- FAULT_RETEST_COMPLETE (R37): whether the part passes. -/
  | faultRetestComplete (pass : Bool)
  /-- CLOCK_START (R30): time to the activation, in µs. -/
  | clockStart (aheadUs : Nat)
  /-- CLOCK_GATE (R30): time to the next scheduled activation, in µs. -/
  | clockGate (nextUs : Nat)
  /-- MP_FRAME (R34): the µs of work each of the seven classes wants in this frame. -/
  | mpFrame (demand : List Nat)
  /-- MP_LOAD_UPDATE (R35). -/
  | mpLoadUpdate
  /-- TREND_SAMPLE (R43): point n is due. -/
  | trendSample (n : Nat)
  /-- TREND_ARCHIVE_MOVE (R43): samples moved and archive capacity in samples. -/
  | trendArchiveMove (capacity : Nat)
  /-- TREND_DUMP_CMD (R43): a write of 24 bytes to `sys_trend_dump`. -/
  | trendDumpCmd (w : Who) (v : Nat)
  /-- TREND_TRANSFER_COMPLETE (R43): whether it failed under R167. -/
  | trendTransferComplete (failed : Bool)
  /-- COP_DATAGRAM_RX (R69): a datagram as it arrives. -/
  | copDatagramRx (rx : RxInfo) (bytes : List Nat)
  /-- COP_READ (R68): a READ of a classified port with its handle and items. -/
  | copRead (w : Who) (handle : Nat) (items : List WItem)
  /-- COP_WRITE (R68): a WRITE of a classified port with its handle and items. -/
  | copWrite (w : Who) (handle : Nat) (items : List WItem)
  /-- COP_DESCRIBE (R70). -/
  | copDescribe (w : Who) (handle : Nat) (items : List WItem)
  /-- TXN_BEGIN (R90). -/
  | txnBegin (w : Who)
  /-- TXN_COMMIT (R93). -/
  | txnCommit (w : Who) (handle : Nat)
  /-- TXN_ROLLBACK (R94). -/
  | txnRollback (w : Who) (handle : Nat)
  /-- COMMIT_TICK (R88). -/
  | commitTick
  /-- RESPONSE_TIMEOUT (R89): 2 ms have passed since the acceptance of `seq`. -/
  | responseTimeout (seq : Nat)
  /-- TXN_IDLE_TIMEOUT (R94): the handle has been inactive for `txn_timeout`. -/
  | txnIdleTimeout (handle : Nat)
  /-- LB_TXN_BEGIN (R96): a local-bus write of `v` to `txn_begin`, from a logical port. -/
  | lbTxnBegin (w : Who) (v : Nat)
  /-- LB_TXN_COMMIT (R96). -/
  | lbTxnCommit (w : Who) (v : Nat)
  /-- LB_TXN_ROLLBACK (R96). -/
  | lbTxnRollback (w : Who) (v : Nat)
  /-- ENTRY_WRITE (R88): a write of one element, with its type code. -/
  | entryWrite (w : Who) (index elem ty v : Nat)
  /-- POINT_SCAN (R81). -/
  | pointScan
  /-- BACNET_READ_PROPERTY (R82): how the request arrives, and the properties asked for as (object type, instance, property). -/
  | bacnetReadProperty (rx : RxInfo) (props : List (Nat × Nat × Nat))
  /-- BACNET_WRITE_PROPERTY (R82, R85): the properties to be written, one or, in a WritePropertyMultiple, several. -/
  | bacnetWriteProperty (rx : RxInfo) (rs : List BacWrite)
  /-- BACNET_SUBSCRIBE_COV (R82): whether notifications are to be confirmed, `none` to cancel the subscription, and the lifetime. -/
  | bacnetSubscribeCov (rx : RxInfo) (client process objType inst : Nat) (confirmed : Option Bool) (lifetime : Nat)
  /-- BACNET_COV_EXPIRY (R82): the subscription's client, process, object type and instance. -/
  | bacnetCovExpiry (client process objType inst : Nat)
  /-- BACNET_WHO_IS (R82): the instance range asked for. -/
  | bacnetWhoIs (rx : RxInfo) (lo hi : Nat)
  /-- BACNET_WHO_HAS (R82): the device instances asked, all without a range, and the object or the name. -/
  | bacnetWhoHas (rx : RxInfo) (range : Option (Nat × Nat)) (what : BacHas)
  /-- BACNET_UNSUPPORTED_SERVICE (R82). -/
  | bacnetUnsupportedService (rx : RxInfo) (confirmed : Bool) (invoke : Nat)
  /-- BACNET_FD_REGISTRATION (R82). -/
  | bacnetFdRegistration
  /-- EAPOL_START_REPEAT (R76): on an uplink, 0 A or 1 B, as in every uplink command. -/
  | eapolStartRepeat (u : Nat)
  /-- EAPOL_FRAME_RX (R76). -/
  | eapolFrameRx (u : Nat) (k : EapolKind)
  /-- DOT1X_EXCHANGE_TIMEOUT (R76). -/
  | dot1xExchangeTimeout (u : Nat)
  /-- DOT1X_HOLD_END (R76). -/
  | dot1xHoldEnd (u : Nat)
  /-- COMMISSION_ADMISSION (R76). -/
  | commissionAdmission (u : Nat)
  /-- UPLINK_LINK_UP (R108): negotiated speed in Mbit/s. -/
  | uplinkLinkUp (u speed : Nat)
  /-- UPLINK_LINK_DOWN (R107). -/
  | uplinkLinkDown (u : Nat)
  /-- PRP_SILENCE_TIMEOUT (R107). -/
  | prpSilenceTimeout (u : Nat)
  /-- UPLINK_FAULT_CLEAR (R37). -/
  | uplinkFaultClear (u : Nat)
  /-- UPLINK_FRAME_RX (R19). -/
  | uplinkFrameRx (u : Nat) (f : UplinkFrame)
  /-- PRP_FORGET_EXPIRY (R114): the pair of source MAC and sequence number. -/
  | prpForgetExpiry (src seq : Nat)
  /-- PRP_SUPERVISION_TX (R116). -/
  | prpSupervisionTx
  /-- PROXY_ENTRY_AGEOUT (R115). -/
  | proxyEntryAgeout (mac : Nat)
  /-- TX_FRAME_START (R110): bytes of each queue's head frame now in the queue, queues 0 to 7. -/
  | txFrameStart (u : Nat) (have_ : List Nat)
  /-- TX_UNDERRUN (R113). -/
  | txUnderrun (u : Nat)
  /-- TX_START_WRITE (R112): a write of `net_tx_start`. -/
  | txStartWrite (w : Who) (u v : Nat)
  /-- SPEED_MAX_WRITE (R108): a write of `net_speed_max`. -/
  | speedMaxWrite (w : Who) (u v : Nat)
  /-- PTP_MESSAGE_RX (R119). -/
  | ptpMessageRx (u : Nat) (m : PtpMsg)
  /-- PTP_ANNOUNCE_TIMEOUT (R119). -/
  | ptpAnnounceTimeout
  /-- MKA_SECURED (R122). -/
  | mkaSecured (session : MkaSession)
  /-- MKA_RETRY (R121). -/
  | mkaRetry (u : Nat)
  /-- MKA_B_RESTART_TIMEOUT (R122). -/
  | mkaBRestartTimeout
  /-- STANDBY_LINK_RETRY (R126). -/
  | standbyLinkRetry (u : Nat)
  /-- DOWNSHIFT_WINDOW (R127): the window's average load in kbit/s. -/
  | downshiftWindow (u load : Nat)
  /-- SPEED_SHIFT_END (R128): the new speed in Mbit/s. -/
  | speedShiftEnd (u speed : Nat)
  /-- DOWNSHIFT_DISABLE (R129): a write of `net_downshift`. -/
  | downshiftDisable (w : Who) (v : Nat)
  /-- MKA_FAILED (R121). -/
  | mkaFailed (u : Nat)
  /-- FIELD_FRAME_RX (R131): on a bridge port. -/
  | fieldFrameRx (p : Nat) (f : FieldFrame)
  /-- BCAST_WINDOW_RESET (R133). -/
  | bcastWindowReset (p : Nat)
  /-- PSE_START (R138): voltage already on the pair in mV, and whether the signature lies within the limits. -/
  | pseStart (p foreignMv : Nat) (sigOk : Bool)
  /-- PSE_CHECK_REPEAT (R138). -/
  | pseCheckRepeat (p foreignMv : Nat) (sigOk : Bool)
  /-- PSE_CLASSIFICATION_DONE (R138): a port that reaches the budget step and the others that do at the same moment, each with the class read,
  `none` after a second failed read. -/
  | pseClassificationDone (port : Nat × Option Nat) (others : List (Nat × Option Nat))
  /-- PSE_POWER_GOOD_CHECK (R138): port and source voltage in mV. -/
  | psePowerGoodCheck (p portMv sourceMv : Nat)
  /-- PSE_OVERCURRENT_TRIP (R140): current in mA. -/
  | pseOvercurrentTrip (p ma : Nat)
  /-- PSE_OVERLOAD (R140): current in mA, held for 50 ms. -/
  | pseOverload (p ma : Nat)
  /-- PSE_UNDERVOLTAGE (R140): port and source voltage in mV, held for 10 ms. -/
  | pseUndervoltage (p portMv sourceMv : Nat)
  /-- PSE_DISCONNECT (R140): current in mA, held for 300 ms. -/
  | pseDisconnect (p ma : Nat)
  /-- FIELD_PWR_OUT_OF_RANGE (R140): FIELD_PWR in mV, held for 1 ms. -/
  | fieldPwrOutOfRange (mv : Nat)
  /-- FIELD_PWR_RECOVERED (R140): FIELD_PWR in mV, held for 1 s. -/
  | fieldPwrRecovered (mv : Nat)
  /-- PSE_FAULT_RETRY (R140). -/
  | pseFaultRetry (p : Nat)
  /-- PSE_RESET_CMD (R140): a write of `v` to `fld_pse_reset`. -/
  | pseResetCmd (w : Who) (v : Nat)
  /-- PSE_INPUT_OVER_BUDGET (R142): each port's voltage in mV and current in mA, held for 100 ms. -/
  | pseInputOverBudget (measured : List (Nat × Nat))
  /-- PLCA_CYCLE (R144): how many further frames of the module were ready within the burst timer, and the mean cycle of the last 1 s in µs. -/
  | plcaCycle (seg burst meanUs : Nat)
  /-- T1S_FOREIGN_BEACON (R146). -/
  | t1sForeignBeacon (seg : Nat)
  /-- T1S_FOREIGN_CLEAR (R146). -/
  | t1sForeignClear (seg : Nat)
  /-- T1S_COLLISION (R146). -/
  | t1sCollision (collision : SegCollision)
  /-- T1S_JABBER (R146). -/
  | t1sJabber (seg : Nat)
  /-- T1S_MEDIUM_STUCK (R146). -/
  | t1sMediumStuck (seg : Nat)
  /-- T1S_BEACON_RESTART (R146). -/
  | t1sBeaconRestart (seg : Nat)
  /-- MSTP_TOKEN (R148): frames waiting, and what the other stations do. -/
  | mstpToken (p waiting : Nat) (others : MstpTurn)
  /-- MSTP_TOKEN_LOSS (R148). -/
  | mstpTokenLoss (p : Nat)
  /-- MSTP_FRAME_RX (R148): source station, whether its CRC is bad, whether it is a request to the module. -/
  | mstpFrameRx (p src : Nat) (bad request : Bool)
  /-- MSTP_DUP_CLEAR (R148). -/
  | mstpDupClear (p : Nat)
  /-- MODBUS_POLL_DUE (R150): a poll entry fell due, and the instant on the fast timebase. -/
  | modbusPollDue (p entry at_ : Nat)
  /-- MODBUS_REPLY_RX (R150). -/
  | modbusReplyRx (p : Nat) (r : MbReply)
  /-- MODBUS_REPLY_TIMEOUT (R150). -/
  | modbusReplyTimeout (p : Nat)
  /-- MODBUS_OUT_CHANGE (R150). -/
  | modbusOutChange (p entry : Nat)
  /-- RS485_BUS_FAULT (R150). -/
  | rs485BusFault (p : Nat)
  /-- RS485_BUS_IDLE (R150). -/
  | rs485BusIdle (p : Nat)
  /-- T1L_LINK_UP (R136): at 2.4 V or 1.0 V, with the signal-to-noise ratio in 0.1 dB. -/
  | t1lLinkUp (p : Nat) (high : Bool) (snr : Nat)
  /-- T1L_LINK_DOWN (R136). -/
  | t1lLinkDown (p : Nat)
  /-- PLCA_PRESENCE_AGEOUT (R145). -/
  | plcaPresenceAgeout (seg node : Nat)
  /-- MSTP_MASTER_AGEOUT (R148). -/
  | mstpMasterAgeout (p station : Nat)
  /-- LB_POSTED_WRITE (R161): word address and data, and what the write meets. -/
  | lbPostedWrite (addr v : Nat) (meets : WriteFacts)
  /-- LBW_GO (R162): the GO at the front of the posted queue is handed to the object service, whose input queue may be full (R69 step 4). -/
  | lbwGo
  /-- LBW_DONE_READ (R155). -/
  | lbwDoneRead
  /-- WAFER_REFRESH (R158): the refresh group of a period, in µs. -/
  | waferRefresh (period : Nat)
  /-- BSP_TRAIN (R165). -/
  | bspTrain
  /-- BSP_ALIGNED (R165). -/
  | bspAligned
  /-- BSP_RETRAIN (R165, R167): invalid symbols in the last second. -/
  | bspRetrain (invalid : Nat)
  /-- BSP_FRAME_RX (R166): a frame's bytes. -/
  | bspFrameRx (bytes : List Nat)
  /-- BSP_CREDIT_RX (R167): link sequence, code, and the byte that should be the code's ones' complement. -/
  | bspCreditRx (seq code comp : Nat)
  /-- BSP_CREDIT_TIMEOUT (R167). -/
  | bspCreditTimeout
  /-- BSP_ENABLE_WRITE (R169): a write of `v` to `lbs_bsp_enable`. -/
  | bspEnableWrite (w : Who) (v : Nat)
  /-- ANALOGUE_SAMPLE (R171): channel, the live converter's filtered reading before its coefficients as an F32 word in mA or V, the spare's (read during a cross-fade of the channel), and the terminal voltage. -/
  | analogueSample (c live spare term : Nat)
  /-- ANA_OUT_WRITE (R174): a write of an F32 word to `ana_out`. -/
  | anaOutWrite (w : Who) (c v : Nat)
  /-- CHANNEL_FIRST_SAMPLE (R176): channel, first reading of its converter and terminal voltage. -/
  | channelFirstSample (c m term : Nat)
  /-- ANA_CONDITION_CHANGE (R177): channel, condition bit (0 UNDER, 1 OVER, 2 OPEN, 3 SHORT), the value that has held, as an F32 word in mA or V, and whether the output stage is at its limit. -/
  | anaConditionChange (c k m : Nat) (limit : Bool)
  /-- COMPLIANCE_SET (R178): the delivered value, and whether the stage has been at its limit for 2 ms. -/
  | complianceSet (c m : Nat) (limit : Bool)
  /-- COMPLIANCE_CLEAR (R178). -/
  | complianceClear (c : Nat) (stage : StageReading)
  /-- MISWIRE_DETECT (R179): AI_LP, AI_IO and the stage's own drive voltage in mV, and the read-back in µA, held for 1 ms. -/
  | miswireDetect (c : Nat) (lp io drive readback : Int)
  /-- MISWIRE_CLEAR (R179): AI_LP and AI_IO in mV, held for 1 s. -/
  | miswireClear (c : Nat) (lp io : Int)
  /-- HART_IDENTIFY (R183). -/
  | hartIdentify (c : Nat)
  /-- HART_IDENTIFY_RETRY (R183). -/
  | hartIdentifyRetry (c : Nat)
  /-- HART_MODEM_VISIT (R184). -/
  | hartModemVisit (modem : Nat)
  /-- HART_REPLY_RX (R183, R185). -/
  | hartReplyRx (modem : Nat) (r : HartReply)
  /-- HART_REPLY_TIMEOUT (R183). -/
  | hartReplyTimeout (modem : Nat)
  /-- HART_PASSTHROUGH_REQ (R185): a write of 70 bytes to `ana_hart_req`. -/
  | hartPassthroughReq (w : Who) (c v : Nat)
  /-- REFERENCE_COMPARE (R189): differences of VREF and IREF from the band-gap, in ppm. -/
  | referenceCompare (vref iref : Int)
  /-- TURNOVER_STEP_DUE (R195). -/
  | turnoverStepDue (b : Nat)
  /-- SPARE_CALIBRATION_DONE (R190): the averages of each class, and the measured delay. -/
  | spareCalibrationDone (b : Nat) (classes : List CalClass) (delay : Int)
  /-- TURNOVER_CHECK_END (R193): mean difference, spare minus live, as an F32 word in ppm of span, and whether a converter reported over-range. -/
  | turnoverCheckEnd (b diff : Nat) (overRange : Bool)
  /-- CHECK_REPEAT (R200). -/
  | checkRepeat (b : Nat)
  /-- CROSS_FADE_START (R196). -/
  | crossFadeStart (start : FadeStart)
  /-- CROSS_FADE_END (R194). -/
  | crossFadeEnd (b : Nat)
  /-- RELEASED_CALIBRATION_DONE (R193). -/
  | releasedCalibrationDone (b : Nat) (classes : List CalClass) (delay : Int)
  /-- CAL_STEP_NOW (R201): a write of `v` to `cal_step_now`. -/
  | calStepNow (w : Who) (b v : Nat)
  /-- CAL_RUN_CLEAR (R200): a write of `v` to `cal_run`. -/
  | calRunClear (w : Who) (b v : Nat)
  /-- LIVE_CONVERTER_FAILURE (R198): bank, bank channel and gap. -/
  | liveConverterFailure (b j : Nat) (gap : SampleGap)
  /-- LINE_CYCLE_END (R205, R207). -/
  | lineCycleEnd (e : CycleEnd)
  /-- VOLTAGE_LOSS (R206): the voltage input. -/
  | voltageLoss (v : Nat)
  /-- INTERVAL_BOUNDARY (R214): the boundary's instant. -/
  | intervalBoundary (t : Nat)
  /-- PULSE_START (R218). -/
  | pulseStart (o : Nat)
  /-- PULSE_END (R218). -/
  | pulseEnd (o : Nat)
  /-- PULSE_CONST_WRITE (R216): a write of `v` to `nrg_pulse_const`. -/
  | pulseConstWrite (w : Who) (m v : Nat)
  /-- VBAT_CLEAR (R219): a write of a generation to `nrg_vbat_clear`. -/
  | vbatClear (w : Who) (gen : Nat)
  /-- CAPTURE_CMD (R220): a write of a circuit to `nrg_cap_circuit`. -/
  | captureCmd (w : Who) (c : Nat)
  /-- CAPTURE_START (R220): the number of the first captured sample. -/
  | captureStart (first : Nat)
  /-- CAPTURE_COMPLETE (R220): whether the transfer failed. -/
  | captureComplete (failed : Bool)
  /-- TIMED_LINE_CYCLE_END (R205): every phase of the group has voltage-loss. -/
  | timedLineCycleEnd (d : LineCycle)
  /-- LOOP_SAMPLE (R227): slot, and whether the two instances' results differ (R244). -/
  | loopSample (slot : Nat) (mismatch : Bool)
  /-- SELF_CHECK_DONE (R245): whether instances A and B pass, and whether their recomputed results agree. -/
  | selfCheckDone (a b agree : Bool)
  /-- ENGINE_RESYNC_COMPLETE (R246). -/
  | engineResyncComplete
  /-- SOFT_SETPOINT_WRITE (R238): a write of an F32 word to `ctl_sp_soft`. -/
  | softSetpointWrite (w : Who) (slot v : Nat)
  /-- CTL_MODE_WRITE (R237): a write of `v` to `ctl_mode`. -/
  | ctlModeWrite (w : Who) (slot v : Nat)
  /-- REP_MEMORY_CLEAR (R243): a write of `v` to `ctl_rep_clear`. -/
  | repMemoryClear (w : Who) (u v : Nat)
  /-- MOTION_TICK (R253): phase-sense results, and a lane mismatch at this tick. -/
  | motionTick (sense : List PhaseSense) (lanes : Option LaneCheck)
  /-- STEP_PULSE (R259): the channel's next step, and the time since its previous step in ns. -/
  | stepPulse (c gapNs : Nat)
  /-- IDLE_CURRENT_REDUCE (R259). -/
  | idleCurrentReduce (c : Nat)
  /-- MOT_TARGET_WRITE (R257): a write of a 64-bit word to `mot_target`. -/
  | motTargetWrite (w : Who) (c v : Nat)
  /-- REFERENCE_CMD (R263): a write of `v` to `mot_ref_cmd`. -/
  | referenceCmd (w : Who) (c v : Nat)
  /-- REFERENCE_SETTLED (R263). -/
  | referenceSettled (c : Nat)
  /-- REFERENCE_BACKOFF_DONE (R263). -/
  | referenceBackoffDone (c : Nat)
  /-- SWITCH_EDGE_LATCH (R265): car channel, input (0 DZ, 1 LVU, 2 LVD), level after the edge, and the encoder count and time of its raw transition. -/
  | switchEdgeLatch (k input : Nat) (level : Bool) (count : Int) (time : Nat)
  /-- ENCODER_ILLEGAL_TRANSITION (R265). -/
  | encoderIllegalTransition (k : Nat)
  /-- ENCODER_EDGE_COUNT (R265): upward or downward. -/
  | encoderEdgeCount (k : Nat) (up : Bool)
  /-- LIFT_CYCLE (R273). -/
  | liftCycle
  /-- DRIVE_STATUS_FRAME_RX (R279): source MAC and the bytes of a frame on a car's drive link. -/
  | driveStatusFrameRx (k src : Nat) (bytes : List Nat)
  /-- DRIVE_LINK_LOST (R280). -/
  | driveLinkLost (k : Nat)
  /-- DRIVE_LINK_RESTORED (R280). -/
  | driveLinkRestored (k : Nat)
  /-- MAGNETISE_TIMEOUT (R281). -/
  | magnetiseTimeout (k : Nat)
  /-- BRAKE_OPEN_TIMEOUT (R281). -/
  | brakeOpenTimeout (k : Nat)
  /-- FOLLOWING_ERROR (R281). -/
  | followingError (k : Nat)
  /-- BRAKE_RELEASE_DELAY (R283). -/
  | brakeReleaseDelay (k : Nat)
  /-- LEARN_RUN_CMD (R277): a write of `v` to `lft_learn`. -/
  | learnRunCmd (w : Who) (k v : Nat)
  /-- LEARN_RUN_END (R277). -/
  | learnRunEnd (k : Nat)
  /-- LIFT_FAULT_RESET (R281): a write of `v` to `lft_fault_reset`. -/
  | liftFaultReset (w : Who) (k v : Nat)
  /-- RELEVEL_START (R284). -/
  | relevelStart (k : Nat)
  /-- LIFT_CALL (R285): a write of 8 bytes to `lft_call`. -/
  | liftCall (w : Who) (k v : Nat)
  /-- LIFT_STATUS_PUBLISH (R288). -/
  | liftStatusPublish (k : Nat)
  /-- PARK_TIMEOUT (R287). -/
  | parkTimeout (k : Nat)
  /-- DOOR_DWELL_EXPIRY (R289): the dwell of a car's open doors ends. -/
  | doorDwellExpiry (k : Nat)
  /-- NUDGE_TIMEOUT (R292). -/
  | nudgeTimeout (k : Nat)
  /-- BLOCKED_OPENING_RETRY (R293): of door d. -/
  | blockedOpeningRetry (d : Nat)
  /-- ISLAND_CYCLE (R308). -/
  | islandCycle (i : IslandIn)
  /-- INPUT_TEST_PULSE (R307): on channel b or a of pair p; the levels of SIa and SIb during the pulse. -/
  | inputTestPulse (p : Nat) (b siA siB : Bool)
  /-- OUTPUT_TEST_PULSE (R315): the pulse at 0 or at P/2, node voltages in mV 250 µs later, whether another output's node moved, and whether a demand arrived during the pulse. -/
  | outputTestPulse (o : Nat) (half : Bool) (soH soL : Nat) (moved demand : Bool)
  /-- OUTPUT_OVERLOAD (R315). -/
  | outputOverload (o : Nat)
  /-- MACARON_PRODUCER_SEND (R320). -/
  | macaronProducerSend (c : Nat)
  /-- MACARON_COPY_RX (R321): LAN (0 A, 1 B), source MAC and the frame's bytes from its PDU on. -/
  | macaronCopyRx (lan src : Nat) (pdu : List Nat)
  /-- MACARON_SKEW_EXPIRY (R321). -/
  | macaronSkewExpiry (c : Nat)
  /-- MACARON_WATCHDOG (R322). -/
  | macaronWatchdog (c : Nat)
  /-- SAF_ACK (R324). -/
  | safAck (w : Who) (v : Nat)
  /-- SAF_UCM_ACK (R324). -/
  | safUcmAck (w : Who) (k v : Nat)
  /-- SAF_HOLD_EXIT (R324). -/
  | safHoldExit (w : Who) (v : Nat)
  /-- PROGRAM_CYCLE_START (R335): at an instant, TIME64. -/
  | programCycleStart (p at_ : Nat)
  /-- PROGRAM_CYCLE_END (R337): the instant of the code's return, TIME64, and what it wrote to its data as (offset, bytes). -/
  | programCycleEnd (p at_ : Nat) (writes : List (Nat × List Nat))
  /-- PROGRAM_OVERRUN (R338). -/
  | programOverrun (p : Nat)
  /-- OVERRUN_WARN_CLEAR (R338). -/
  | overrunWarnClear (p : Nat)
  /-- PROGRAM_TRAP (R339): illegal instruction or an access outside the map, and the program counter. -/
  | programTrap (p : Nat) (illegal : Bool) (pc : Nat)
  /-- PROGRAM_RUN_WRITE (R339): a write of `v` to `prg_run`. -/
  | programRunWrite (w : Who) (p v : Nat)
  /-- STAGE_CHECK_CMD (R341): a write of `v` to `prg_stage_check`. -/
  | stageCheckCmd (w : Who) (p v : Nat)
  /-- STAGE_CHECK_DONE (R341). -/
  | stageCheckDone (p : Nat)
  /-- PROGRAM_EXCHANGE (R343): a write of 8 bytes to `prg_exchange`. -/
  | programExchange (w : Who) (p v : Nat)
  /-- RTC_SECOND_BOUNDARY (R350): the rest of the present second passes, and the prescaler rolls over. -/
  | rtcSecondBoundary
  /-- RTC_SECONDS_WRITE (R355). -/
  | rtcSecondsWrite (w : Who) (v : Nat)
  /-- RTC_CAL_WRITE (R355): the eight bytes as one number. -/
  | rtcCalWrite (w : Who) (v : Nat)
  /-- RTC_SHIFT_WRITE (R357): the 16-bit word. -/
  | rtcShiftWrite (w : Who) (v : Nat)
  /-- RTC_SYNC_COMPARE (R359). -/
  | rtcSyncCompare
  /-- VBAT_SWITCH_OVER (R361). -/
  | vbatSwitchOver
  /-- VAON_SWITCH_BACK (R361). -/
  | vaonSwitchBack
  /-- VBAT_MEASURE (R362): VBAT in mV. -/
  | vbatMeasure (mv : Nat)
  /-- BACKUP_DOMAIN_BROWNOUT (R363). -/
  | backupDomainBrownout
  /-- STORE_CMD (R371): a write of `v` to `nvs_store_cmd`. -/
  | storeCmd (w : Who) (v : Nat)
  /-- STORE_START (R372): the oldest store triggered starts. -/
  | storeStart
  /-- STORE_COMPLETE (R372, R374): whether the copied bank fails its readback, and the time from trigger to release in µs. -/
  | storeComplete (bad : Bool) (us : Nat)
  /-- ALLOWANCE_REPLENISH (R371). -/
  | allowanceReplenish
  /-- RECORDER_FLUSH (R386). -/
  | recorderFlush
  /-- RECORD_MOVE (R387): a block of 128 records, or the remainder. -/
  | recordMove (rest : Bool)
  /-- REC_READ_REQUEST (R389): a write of 16 bytes to `rec_rd_req`. -/
  | recReadRequest (w : Who) (r v : Nat)
  /-- REC_CONTEXT_EXPIRY (R389). -/
  | recContextExpiry (r : Nat)
  /-- REC_DUMP (R391): a write of 16 bytes to `rec_dump`. -/
  | recDump (w : Who) (v : Nat)
  /-- REC_DUMP_ERASE_TIMEOUT (R391). -/
  | recDumpEraseTimeout
  /-- REC_DUMP_COMPLETE (R391): whether the transfer failed. -/
  | recDumpComplete (failed : Bool)
  /-- REC_CLEAR (R392): a write of `v` to `rec_clear`. -/
  | recClear (w : Who) (v : Nat)
  /-- REC_CLEAR_APPLY (R392). -/
  | recClearApply
  /-- UPD_BEGIN (R397): a write of the image length `v` to `upd_begin`. -/
  | updBegin (w : Who) (v : Nat)
  /-- UPD_BLOCK (R398): a write of 16 bytes to `upd_block`. -/
  | updBlock (w : Who) (v : Nat)
  /-- BLOCK_PROGRAMMED (R398). -/
  | blockProgrammed
  /-- BSP_IMAGE_BLOCK (R399): the oldest complete stream 0x04 transfer. -/
  | bspImageBlock
  /-- UPD_VERIFY (R401): a write of `v` to `upd_verify`. -/
  | updVerify (w : Who) (v : Nat)
  /-- VERIFY_COMPLETE (R401): whether a block fails its read-back CRC. -/
  | verifyComplete (badBlock : Bool)
  /-- UPD_ACTIVATE (R402): a write of `v` to `upd_activate`. -/
  | updActivate (w : Who) (v : Nat)
  /-- UPD_HEALTH_OK (R404): a write of `v` to `upd_health_ok`. -/
  | updHealthOk (w : Who) (v : Nat)
  /-- PROBATION_EXPIRY (R405). -/
  | probationExpiry
  /-- KEY_REPLACE (R409): a write of 152 bytes to `key_replace`. -/
  | keyReplace (w : Who) (v : Nat)
  /-- VMAIN_MEASURE (R421): VMAIN and VSAFE in mV, and the module's input power in mW averaged over 100 ms (R49). -/
  | vmainMeasure (vmain vsafe power : Nat)
  /-- VSAFE_LOW (R422): VSAFE in mV, below 19.0 V for 1 ms. -/
  | vsafeLow (mv : Nat)
  /-- VSAFE_RECOVER (R422): VSAFE in mV, at 20.0 V or more for 100 ms. -/
  | vsafeRecover (mv : Nat)
  /-- TEMP_MEASURE (R429): land temperature and hottest junction in 0.1 °C. -/
  | tempMeasure (land soc : Int)
  deriving DecidableEq, Repr

end Sys2Proof
end

