-- ==== Sys2Proof/Machine/Bits.lean ====
section
/-!
DEFINITION. Bit fields, byte order, two's complement and check values (R8, R66 and the check values the chapters name).
-/
namespace Sys2Proof.Machine

/-- Bit `b` of `w`. -/
def bitOf (w b : Nat) : Bool := w.testBit b

/-- `w` with bit `b` set or cleared. -/
def putBit (w b : Nat) (on : Bool) : Nat :=
  if on then w ||| (1 <<< b) else if w.testBit b then w - (1 <<< b) else w

/-- The `n` bits of `w` from bit `lo` up. -/
def field (w lo n : Nat) : Nat := (w >>> lo) % (2 ^ n)

/-- How many of the low `n` bits of `w` are ones. -/
def onesIn (w : Nat) : Nat → Nat
  | 0 => 0
  | n + 1 => onesIn w n + (if w.testBit n then 1 else 0)

/-- The parity bit of a 32-bit word: with it the 33 bits hold an odd number of ones (R23). -/
def parityBit (w : Nat) : Nat := 1 - onesIn w 32 % 2

/-- A 32-bit word as it crosses the fabric, with its parity bit above it (R23). -/
def withParity (w : Nat) : Nat := parityBit w * 2 ^ 32 + w % 2 ^ 32

/-- Whether the 33 bits received hold an odd number of ones (R23, R24). -/
def parityOk (w : Nat) : Bool := onesIn w 33 % 2 == 1

/-- A Boolean as the number 0 or 1. -/
def b2n (b : Bool) : Nat := if b then 1 else 0

/-- Byte `k` of an `n`-byte value, byte 0 the most significant (R66). -/
def byteAt (n v k : Nat) : Nat := (v >>> (8 * (n - 1 - k))) % 256

/-- `len` bytes of an `n`-byte value from byte `k`, as one number, most significant byte first. -/
def bytesAt (n v k len : Nat) : Nat := (v >>> (8 * (n - k - len))) % (256 ^ len)

/-- The `n` bytes of `v`, most significant first. -/
def beBytes : Nat → Nat → List Nat
  | 0, _ => []
  | n + 1, v => (v >>> (8 * n)) % 256 :: beBytes n v

/-- The number whose bytes, most significant first, are given. -/
def ofBytes (bs : List Nat) : Nat := bs.foldl (fun a b => a * 256 + b % 256) 0

/-- An `n`-byte value with the `len` bytes from byte `k` replaced by `x`. -/
def putBytes (n v k len x : Nat) : Nat :=
  let sh := 8 * (n - k - len)
  v - ((v >>> sh) % (256 ^ len)) <<< sh + (x % (256 ^ len)) <<< sh

/-- The signed number a `w`-bit two's-complement word spells (R8). -/
def toInt (w v : Nat) : Int :=
  let u := v % 2 ^ w
  if u < 2 ^ (w - 1) then (u : Int) else (u : Int) - (2 ^ w : Nat)

/-- The `w`-bit two's-complement word of a signed number, wrapped (R8). -/
def ofInt (w : Nat) (i : Int) : Nat := (i % ((2 ^ w : Nat) : Int)).toNat

/-- A signed number held within `lo` to `hi`. -/
def clampInt (lo hi i : Int) : Int := if i < lo then lo else if hi < i then hi else i

/-- One step of a bitwise, most-significant-bit-first CRC of width `w` with polynomial `poly`. -/
def crcBits (w poly : Nat) : Nat → Nat → Nat
  | 0, c => c
  | k + 1, c =>
    crcBits w poly k (if c.testBit (w - 1) then ((c <<< 1) ^^^ poly) % 2 ^ w else (c <<< 1) % 2 ^ w)

/-- A CRC without reflection over bytes. -/
def crc (w poly : Nat) (bs : List Nat) (init : Nat) : Nat :=
  bs.foldl (fun c b => crcBits w poly 8 (c ^^^ ((b % 256) <<< (w - 8)))) init

/-- One step of a bitwise, least-significant-bit-first CRC whose reflected polynomial is `poly`. -/
def crcBitsRefl (poly : Nat) : Nat → Nat → Nat
  | 0, c => c
  | k + 1, c => crcBitsRefl poly k (if c.testBit 0 then (c >>> 1) ^^^ poly else c >>> 1)

/-- A reflected CRC over bytes. -/
def crcRefl (poly : Nat) (bs : List Nat) (init : Nat) : Nat :=
  bs.foldl (fun c b => crcBitsRefl poly 8 (c ^^^ (b % 256))) init

/-- The payload digest of R99: polynomial 0x1021, initial value 0xFFFF. -/
def crc16 (bs : List Nat) : Nat := crc 16 0x1021 bs 0xFFFF

/-- The elements of a list from position `k`, `n` of them. -/
def slice {α : Type} (l : List α) (k n : Nat) : List α := (l.drop k).take n

end Sys2Proof.Machine
end

