-- ==== Sys2Proof/Machine/Crypto.lean ====
section
/-!
DEFINITION. The standard functions the key and update chapters name (R400, R409, R411): SHA-256, SHA-384 (FIPS 180-4), HMAC and HKDF
(RFC 2104, RFC 5869), and ECDSA over P-384 (FIPS 186-4). The manual names them and does not spell them out (log entry 35).
-/
namespace Sys2Proof.Machine

/-! ## SHA-2

The constants are the leading fraction bits of roots of the first primes, so they are computed. -/

/-- The primes below 410: the first 80. -/
def primes : List Nat := (List.range 410).filter (fun n => Nat.ble 2 n && (List.range 21).all (fun d => Nat.ble d 1 || Nat.ble n d || n % d != 0))

/-- The greatest c of at most `bits` more bits than `c0` whose power `e` is at most n. -/
def rootFrom (e n : Nat) : Nat → Nat → Nat
  | 0, c0 => c0
  | bits + 1, c0 => rootFrom e n bits (if (c0 + 2 ^ bits) ^ e ≤ n then c0 + 2 ^ bits else c0)

/-- The first w bits of the fraction of the root of degree e of a number below 512. -/
def rootFraction (e w n : Nat) : Nat := rootFrom e (n * 2 ^ (e * w)) (w + 5) 0 % 2 ^ w

/-- What tells SHA-256 and SHA-384 apart: the bits of a word, the rotations of the four sigma functions with the shift of the small ones, how many
rounds there are, and how many primes the initial words skip. -/
structure Sha where
  w : Nat
  bigA : List Nat
  bigE : List Nat
  near : List Nat × Nat
  far : List Nat × Nat
  rounds : Nat
  skip : Nat

/-- SHA-256. -/
def sha256p : Sha := ⟨32, [2, 13, 22], [6, 11, 25], ([7, 18], 3), ([17, 19], 10), 64, 0⟩

/-- SHA-384. -/
def sha384p : Sha := ⟨64, [28, 34, 39], [14, 18, 41], ([1, 8], 7), ([19, 61], 6), 80, 8⟩

/-- The exclusive or of rotations of a word to the right. -/
def Sha.rotations (p : Sha) (amounts : List Nat) (x : Nat) : Nat :=
  amounts.foldl (fun acc n => acc ^^^ (x / 2 ^ n + x % 2 ^ n * 2 ^ (p.w - n))) 0

/-- A small sigma: rotations and a shift. -/
def Sha.small (p : Sha) (g : List Nat × Nat) (x : Nat) : Nat := p.rotations g.1 x ^^^ x / 2 ^ g.2

/-- The computation of a block: the words a and e of the last four rounds, newest first, and the next 16 words of the schedule, next first. -/
structure ShaWork where
  a : List Nat
  e : List Nat
  next : List Nat

/-- A round with its constant: new words a and e, and the schedule one word on. -/
def Sha.turn (p : Sha) (x : ShaWork) (k : Nat) : ShaWork :=
  let at_ (l : List Nat) (n : Nat) : Nat := l.getD n 0
  let choose := (at_ x.e 0 &&& at_ x.e 1) + (at_ x.e 2 - (at_ x.e 0 &&& at_ x.e 2))
  let most := (at_ x.a 0 &&& at_ x.a 1) ||| (at_ x.a 2 &&& (at_ x.a 0 ||| at_ x.a 1))
  let sum := p.rotations p.bigE (at_ x.e 0) + choose + at_ x.e 3 + k + at_ x.next 0
  let word := p.small p.far (at_ x.next 14) + p.small p.near (at_ x.next 1) + at_ x.next 9 + at_ x.next 0
  { a := (sum + p.rotations p.bigA (at_ x.a 0) + most) % 2 ^ p.w :: x.a.take 3
    e := (sum + at_ x.a 3) % 2 ^ p.w :: x.e.take 3
    next := x.next.drop 1 ++ [word % 2 ^ p.w] }

/-- The eight words after a block of bytes. -/
def Sha.absorb (p : Sha) (ks words bytes : List Nat) : List Nat :=
  let n := p.w / 8
  let r := ks.foldl p.turn ⟨words.take 4, words.drop 4, (List.range 16).map (fun j => ofBytes (slice bytes (j * n) n))⟩
  List.zipWith (fun u v => (u + v) % 2 ^ p.w) words (r.a ++ r.e)

/-- The digest words of a message, padded to whole blocks. -/
def Sha.digest (p : Sha) (msg : List Nat) : List Nat :=
  let ks := (primes.take p.rounds).map (rootFraction 3 p.w)
  let size := 2 * p.w
  let blocks := (msg.length + p.w / 4 + size) / size
  let whole := msg ++ 0x80 :: beBytes (blocks * size - msg.length - 1) (8 * msg.length)
  (List.range blocks).foldl (fun words j => p.absorb ks words (slice whole (j * size) size)) (((primes.drop p.skip).take 8).map (rootFraction 2 p.w))

/-- SHA-256, as 32 bytes. -/
def sha256 (msg : List Nat) : List Nat := (sha256p.digest msg).flatMap (beBytes 4)

/-- SHA-384, as 48 bytes. -/
def sha384 (msg : List Nat) : List Nat := ((sha384p.digest msg).take 6).flatMap (beBytes 8)

/-! ## HMAC and HKDF with SHA-256 -/

/-- HMAC-SHA-256. -/
def hmac256 (key msg : List Nat) : List Nat :=
  let k0 := if 64 < key.length then sha256 key else key
  let k := k0 ++ List.replicate (64 - k0.length) 0
  sha256 (k.map (fun x => x ^^^ 0x5C) ++ sha256 (k.map (fun x => x ^^^ 0x36) ++ msg))

/-- HKDF-Extract. -/
def hkdfExtract (salt ikm : List Nat) : List Nat := hmac256 salt ikm

/-- HKDF-Expand to one block of 32 bytes. -/
def hkdfExpand32 (prk info : List Nat) : List Nat := hmac256 prk (info ++ [1])

/-! ## P-384 -/

/-- The field prime of P-384. -/
def p384 : Nat := 2 ^ 384 - 2 ^ 128 - 2 ^ 96 + 2 ^ 32 - 1

/-- The order of the base point. -/
def n384 : Nat := 0xffffffffffffffffffffffffffffffffffffffffffffffffc7634d81f4372ddf581a0db248b0a77aecec196accc52973

/-- The coefficient b of y² = x³ − 3x + b. -/
def b384 : Nat := 0xb3312fa7e23ee7e4988e056be3f82d19181d9c6efe8141120314088f5013875ac656398d8a2ed19d2a85c8edd3ec2aef

/-- The base point. -/
def g384 : Nat × Nat :=
  (0xaa87ca22be8b05378eb1c71ef320ad746e1d3b628ba79b9859f741e082542a385502f25dbf55296c3a545e3872760ab7,
   0x3617de4a96262c6f5d9e98bf9292dc29f8f41dbd289a147ce9da3113b5f0b8c00a60b1ce1d7e819d7a431d7c90ea0e5f)

/-- The bits of a number of at most 384 bits, most significant first. -/
def bits384 (e : Nat) : List Bool := (List.range 384).map (fun j => e.testBit (383 - j))

/-- b to the power e modulo m. -/
def powMod (m b e : Nat) : Nat := (bits384 e).foldl (fun a t => let q := a * a % m; if t then q * b % m else q) 1

/-- The inverse of a modulo a prime. -/
def invMod (m a : Nat) : Nat := powMod m a (m - 2)

/-- The right side of the curve equation. -/
def curveRhs (x : Nat) : Nat := (x * x % p384 * x + (p384 - 3) * x + b384) % p384

/-- Whether coordinates lie on the curve. -/
def onCurve (x y : Nat) : Bool := decide (x < p384) && decide (y < p384) && y * y % p384 == curveRhs x

/-- A public key of 49 or 97 bytes as a point (SEC1), if it is one. -/
def sec1Point (bs : List Nat) : Option (Nat × Nat) :=
  let x := ofBytes (slice bs 1 48)
  match bs with
  | [] => none
  | t :: _ =>
    if bs.length = 97 ∧ t = 4 then
      let y := ofBytes (slice bs 49 48)
      if onCurve x y then some (x, y) else none
    else if bs.length = 49 ∧ (t = 2 ∨ t = 3) then
      let y := powMod p384 (curveRhs x) ((p384 + 1) / 4)
      let y' := if y % 2 = t % 2 then y else (p384 - y) % p384
      if onCurve x y' then some (x, y') else none
    else none

/-- The sum of two points; `none` is the point at infinity. -/
def addPoint : Option (Nat × Nat) → Option (Nat × Nat) → Option (Nat × Nat)
  | none, q => q
  | p, none => p
  | some (x1, y1), some (x2, y2) =>
    if x1 = x2 ∧ (y1 + y2) % p384 = 0 then none
    else
      let l := if x1 = x2 then (3 * x1 * x1 + (p384 - 3)) % p384 * invMod p384 (2 * y1 % p384) % p384
        else (y2 + p384 - y1) % p384 * invMod p384 ((x2 + p384 - x1) % p384) % p384
      let x := (l * l + 2 * p384 - x1 - x2) % p384
      some (x, (l * ((x1 + p384 - x) % p384) + p384 - y1) % p384)

/-- k times a point. -/
def mulPoint (k : Nat) (p : Nat × Nat) : Option (Nat × Nat) :=
  (bits384 k).foldl (fun a t => let q := addPoint a a; if t then addPoint q (some p) else q) none

/-- ECDSA P-384 over the SHA-384 digest of a message. -/
def ecdsaVerify (key msg : List Nat) (r s : Nat) : Bool :=
  match sec1Point key with
  | none => false
  | some q =>
    if r = 0 ∨ n384 ≤ r ∨ s = 0 ∨ n384 ≤ s then false
    else
      let w := invMod n384 s
      match addPoint (mulPoint (ofBytes (sha384 msg) * w % n384) g384) (mulPoint (r * w % n384) q) with
      | none => false
      | some (x, _) => x % n384 == r

end Sys2Proof.Machine
end

