-- ==== Sys2Proof/Config.lean ====
section
/-!
DEFINITION. What the manual leaves open: free values. Each is an opaque constant with no body, so no proof and no run
can depend on the value it has; a statement that mentions one holds whatever it is.
-/
namespace Sys2Proof.Config

/-- A fresh value nothing constrains: the argument is the model's own counter `State.free` (log entry 6). -/
opaque freeValue : Nat → Nat

/-- The low byte of an event code inside a block range of R394, for one condition of that block: the manual leaves the
numbers to the vendor diagnostics range at 0x8010 (log entry 7). -/
opaque eventLow : Nat → Nat → Nat

/-- What a vendor diagnostics index of 0x8000 to 0x80FF reads as: the manual gives no contents (log entry 8). -/
opaque diagnostic : Nat → Nat

/-- What a counter entry holds after it is incremented at the top of its type, where the manual neither saturates nor
wraps it: arguments are the index and the element (log entry 9). -/
opaque counterOverflow : Nat → Nat → Nat

/-- The addresses in use on a usable uplink, element by element of `net_ip_addr` (0x1109): router advertisements, DHCP and
duplicate detection choose them (log entry 38). -/
opaque addressInUse : Nat → Nat

/-- The MAC address that a datagram to an IPv6 address, or to an IPv4 one as ::ffff:a.b.c.d, is sent to: neighbour discovery and ARP find it (log
entry 179). -/
opaque neighbourMac : Nat → Nat

/-- The Object_Name of the BACnet Device object, which the manual does not give (log entry 36). -/
opaque deviceName : List Nat

/-- How many samples the trend cache holds after it gave up the given number of pages (R28): the manual states neither its size nor how many
samples a page holds (log entry 13). -/
opaque trendCacheRoom : Nat → Nat

/-- Full scale of a range class of an analogue bank (R190), in millionths of a volt or milliampere and less one: the manual does not state
it (log entry 23). -/
opaque anaFullScale : Nat → Nat

/-- The taps of the 16-tap windowed-sinc interpolator (R204) as binary64 words, by fraction of a sample in 1/1,024 and by tap: the manual
does not state the window (log entry 48). -/
opaque sincTap : Nat → Nat → Nat

/-- What fills a missing reading of an energy input before it has had a line cycle, as a binary64 word by input and sample (R198): there is no
sample of one line cycle earlier (log entry 48). -/
opaque noEarlierReading : Nat → Int → Nat

/-- The taps of the 65-tap Hilbert filter (R207) as binary64 words: the manual does not state them (log entry 48). -/
opaque hilbertTap : Nat → Nat

/-- The share of a new value in a tick of the first-order low-pass filter of the load-angle estimator, as a binary64 word, for a time constant
in µs (R261): the manual does not state the filter's arithmetic (log entry 27). -/
opaque emfFilterGain : Nat → Nat

end Sys2Proof.Config
end

