-- ==== Sys2Proof/Machine/Float.lean ====
section
/-!
DEFINITION. IEEE 754 binary32 and binary64 values (R8) as exact fractions, and the rounding of a fraction to the
nearest value of the format, ties to even.
-/
namespace Sys2Proof.Machine

/-- An exact fraction; `den` is never 0 in the values the model makes. -/
structure Frac where
  num : Int
  den : Nat
  deriving DecidableEq, Repr

/-- A whole number as a fraction. -/
def Frac.ofInt (i : Int) : Frac := ⟨i, 1⟩
def Frac.add (a b : Frac) : Frac := ⟨a.num * b.den + b.num * a.den, a.den * b.den⟩
def Frac.neg (a : Frac) : Frac := ⟨-a.num, a.den⟩
def Frac.sub (a b : Frac) : Frac := a.add b.neg
def Frac.mul (a b : Frac) : Frac := ⟨a.num * b.num, a.den * b.den⟩
/-- Quotient; 0 where the divisor is 0 (every caller excludes it). -/
def Frac.div (a b : Frac) : Frac :=
  if b.num = 0 then ⟨0, 1⟩
  else if b.num < 0 then ⟨-(a.num * b.den), a.den * b.num.natAbs⟩ else ⟨a.num * b.den, a.den * b.num.natAbs⟩
def Frac.lt (a b : Frac) : Bool := a.num * b.den < b.num * a.den
def Frac.le (a b : Frac) : Bool := a.num * b.den ≤ b.num * a.den
def Frac.abs (a : Frac) : Frac := ⟨a.num.natAbs, a.den⟩
def Frac.max (a b : Frac) : Frac := if a.lt b then b else a
def Frac.min (a b : Frac) : Frac := if b.lt a then b else a
def Frac.clamp (lo hi a : Frac) : Frac := if a.lt lo then lo else if hi.lt a then hi else a
/-- The greatest whole number not above the fraction. -/
def Frac.floor (a : Frac) : Int := a.num / a.den
/-- The nearest whole number, half away from zero. -/
def Frac.round (a : Frac) : Int :=
  let m := (2 * a.num.natAbs + a.den) / (2 * a.den)
  if a.num < 0 then -(m : Int) else m
/-- The fraction in lowest terms. -/
def Frac.reduce (a : Frac) : Frac :=
  let g := Nat.gcd a.num.natAbs a.den
  if g ≤ 1 then a else ⟨a.num / g, a.den / g⟩

/-- A binary floating format of R8: `p` significant bits and `eb` exponent bits. -/
structure Fmt where
  p : Nat
  eb : Nat
  deriving DecidableEq, Repr

/-- binary32. -/
def fmt32 : Fmt := ⟨24, 8⟩
/-- binary64. -/
def fmt64 : Fmt := ⟨53, 11⟩

def Fmt.bias (f : Fmt) : Nat := 2 ^ (f.eb - 1) - 1
def Fmt.expOf (f : Fmt) (w : Nat) : Nat := field w (f.p - 1) f.eb
def Fmt.mantOf (f : Fmt) (w : Nat) : Nat := w % 2 ^ (f.p - 1)
def Fmt.signOf (f : Fmt) (w : Nat) : Bool := w.testBit (f.p - 1 + f.eb)
def Fmt.isNaN (f : Fmt) (w : Nat) : Bool := f.expOf w == 2 ^ f.eb - 1 && f.mantOf w != 0
def Fmt.isInf (f : Fmt) (w : Nat) : Bool := f.expOf w == 2 ^ f.eb - 1 && f.mantOf w == 0
def Fmt.finite (f : Fmt) (w : Nat) : Bool := f.expOf w != 2 ^ f.eb - 1
/-- The infinity of the format, of the given sign. -/
def Fmt.infinity (f : Fmt) (neg : Bool) : Nat :=
  (2 ^ f.eb - 1) <<< (f.p - 1) + (if neg then 1 <<< (f.p - 1 + f.eb) else 0)

/-- The exact value of a finite word of the format. -/
def Fmt.frac (f : Fmt) (w : Nat) : Frac :=
  let e := f.expOf w
  let m := if e = 0 then f.mantOf w else f.mantOf w + 2 ^ (f.p - 1)
  let e1 := if e = 0 then 1 else e
  let z : Nat := f.bias + f.p - 1
  let s : Int := if f.signOf w then -1 else 1
  if z ≤ e1 then ⟨s * (m * 2 ^ (e1 - z) : Nat), 1⟩ else ⟨s * (m : Int), 2 ^ (z - e1)⟩

/-- `a / b` rounded to the nearest whole number, ties to even. -/
def divEven (a b : Nat) : Nat :=
  let q := a / b
  let r := a % b
  if 2 * r < b then q else if b < 2 * r then q + 1 else if q % 2 = 0 then q else q + 1

/-- The word of the format nearest to a fraction, ties to even; overflow gives infinity. -/
def Fmt.ofFrac (f : Fmt) (q : Frac) : Nat :=
  if q.num = 0 then 0
  else
    let a := q.num.natAbs
    let e0 : Int := (Nat.log2 a : Int) - (Nat.log2 q.den : Int)
    let ge : Bool := if 0 ≤ e0 then q.den * 2 ^ e0.toNat ≤ a else q.den ≤ a * 2 ^ (-e0).toNat
    let e1 := if ge then e0 else e0 - 1
    let emin : Int := 1 - (f.bias : Int)
    let e := if e1 < emin then emin else e1
    let k : Int := e - ((f.p : Int) - 1)
    let m := if 0 ≤ k then divEven a (q.den * 2 ^ k.toNat) else divEven (a * 2 ^ (-k).toNat) q.den
    let bits := if m < 2 ^ (f.p - 1) then m else (e + f.bias).toNat <<< (f.p - 1) + (m - 2 ^ (f.p - 1))
    let sgn := if q.num < 0 then 1 <<< (f.p - 1 + f.eb) else 0
    if (2 ^ f.eb - 1) <<< (f.p - 1) ≤ bits then f.infinity (q.num < 0) else bits + sgn

/-- The value of a binary32 word (finite words only). -/
def f32q (w : Nat) : Frac := fmt32.frac w
/-- The binary32 word nearest to a fraction. -/
def qf32 (q : Frac) : Nat := fmt32.ofFrac q
/-- The NaN word of the manual's worked example in R162 (DEDUCED, log entry 5). -/
def f32NaN : Nat := 0x7FC0_0000
/-- Whether a word is a binary32 NaN. -/
def isNaN32 (w : Nat) : Bool := fmt32.isNaN w
/-- Whether a word is a finite binary32. -/
def finite32 (w : Nat) : Bool := fmt32.finite w
/-- The binary32 word of a whole number. -/
def f32OfInt (i : Int) : Nat := qf32 (Frac.ofInt i)

/-- A fraction rounded to binary64 (R173). -/
def r64 (q : Frac) : Frac := fmt64.frac (fmt64.ofFrac q)

/-- The greatest whole number whose square is at most `n`, by `fuel` bits from `b` down. -/
def isqrtBits (n : Nat) : Nat → Nat → Nat → Nat
  | 0, _, r => r
  | fuel + 1, b, r =>
    let r' := r + 2 ^ b
    isqrtBits n fuel (b - 1) (if r' * r' ≤ n then r' else r)

/-- The whole-number square root. -/
def isqrt (n : Nat) : Nat :=
  let b := Nat.log2 n / 2
  isqrtBits n (b + 1) b 0

/-- The binary64 value nearest to the square root of a fraction that is not negative: 62 or more bits of the root
with a sticky bit below them. -/
def sqrt64 (q : Frac) : Frac :=
  let a := q.num.natAbs
  let k := Nat.log2 q.den + 64
  let s := isqrt (a * 4 ^ k / q.den)
  let exact := s * s * q.den == a * 4 ^ k
  r64 ⟨2 * s + (if exact then 0 else 1), 2 ^ (k + 1)⟩

/-- The binary64 word nearest to a fraction. -/
def word64 (q : Frac) : Nat := fmt64.ofFrac q
/-- The value of a binary64 word. -/
def q64 (w : Nat) : Frac := fmt64.frac w

/-! ## Angles, in units of 2⁻⁶⁴ (log entry 27) -/

/-- π × 2⁶⁴. -/
def piFix : Int := 57952155664616982739

/-- A Taylor sum of the arctangent: `n` further terms from power `p` with odd index `k`, alternating. -/
def atanTerms (x2 : Int) : Nat → Int → Nat → Bool → Int
  | 0, _, _, _ => 0
  | n + 1, p, k, neg => (if neg then -(p / k) else p / k) + atanTerms x2 n (p * x2 / 2 ^ 64) (k + 2) (!neg)

/-- The arctangent of x from 0 to 1 in units of 2⁻⁶⁴: two halvings of the angle, then the series. -/
def atanFix (x : Int) : Int :=
  let half (y : Int) : Int := y * 2 ^ 64 / (2 ^ 64 + (isqrt (2 ^ 128 + (y * y).toNat) : Int))
  let y := half (half x)
  4 * atanTerms (y * y / 2 ^ 64) 24 y 1 false

/-- The angle of a point in radians, −π to +π, in units of 2⁻⁶⁴; 0 at the origin. -/
def atan2Fix (y x : Frac) : Int :=
  let ay := y.abs
  let ax := x.abs
  let q (n d : Frac) : Int := let f := n.div d; f.num * 2 ^ 64 / f.den
  let first : Int :=
    if ax.num = 0 ∧ ay.num = 0 then 0
    else if ay.le ax then atanFix (q ay ax) else piFix / 2 - atanFix (q ax ay)
  let east := if x.num < 0 then piFix - first else first
  if y.num < 0 then -east else east

/-- `n` terms of the cosine or sine series of an angle with square `x2`, from term `p` of order `k`, in units of 2⁻⁶⁴. -/
def trigSum (x2 : Int) : Nat → Int → Nat → Int
  | 0, _, _ => 0
  | n + 1, p, k => p + trigSum x2 n (-(p * x2 / 2 ^ 64) / (((k + 1) * (k + 2) : Nat) : Int)) (k + 2)

/-- The cosine and the sine of a fraction of a turn. -/
def cosSin (turn : Frac) : Frac × Frac :=
  let f := turn.sub ⟨turn.floor, 1⟩
  let a := 2 * piFix * f.num / f.den
  let x := if piFix < a then a - 2 * piFix else a
  let x2 := x * x / 2 ^ 64
  (⟨trigSum x2 24 (2 ^ 64) 0, 2 ^ 64⟩, ⟨trigSum x2 24 x 1, 2 ^ 64⟩)

end Sys2Proof.Machine
end

