-- ==== Sys2Proof/Machine/Names.lean ====
section
/-!
DEFINITION. The shape of a dictionary entry (R7, R8, R10, R12), and the index of every entry under the manual's own name for it.
-/
namespace Sys2Proof.Machine

/-- The value types of R8, with the sizes of OCT and STR. -/
inductive Ty where
  | bool | u8 | u16 | u32 | u64 | s16 | s32 | s64 | f32 | q3_28 | q16_16 | seq64 | time64
  | oct (n : Nat)
  | str (n : Nat)
  deriving DecidableEq, Repr

/-- Bytes per element (R66). -/
def Ty.size : Ty → Nat
  | .bool | .u8 => 1
  | .u16 | .s16 => 2
  | .u32 | .s32 | .f32 | .q3_28 | .q16_16 => 4
  | .u64 | .s64 | .seq64 | .time64 => 8
  | .oct n | .str n => n

/-- The type code of R66. -/
def Ty.code : Ty → Nat
  | .bool => 0x01
  | .u8 => 0x02
  | .u16 => 0x03
  | .u32 => 0x04
  | .u64 => 0x05
  | .s16 => 0x06
  | .s32 => 0x07
  | .s64 => 0x08
  | .f32 => 0x09
  | .q3_28 => 0x0A
  | .q16_16 => 0x0B
  | .seq64 => 0x0C
  | .time64 => 0x0D
  | .oct _ => 0x0E
  | .str _ => 0x0F

/-- The access codes of R10. -/
inductive Acc where
  | ro | rw | wo | rwt | rwm
  deriving DecidableEq, Repr

/-- The access code of a DESCRIBE answer (R70). -/
def Acc.code : Acc → Nat
  | .ro => 0
  | .rw => 1
  | .wo => 2
  | .rwt => 3
  | .rwm => 4

/-- The survival classes of R12. -/
inductive Kept where
  | N | W | M | B | F
  deriving DecidableEq, Repr

/-- The ASCII letter of a survival class in a DESCRIBE answer (R70). -/
def Kept.ascii : Kept → Nat
  | .N => 78
  | .W => 87
  | .M => 77
  | .B => 66
  | .F => 70

/-- The values an entry's Meaning cell admits on a write, beyond its type. -/
inductive Rng where
  /-- every value of the type -/
  | any
  /-- an unsigned range -/
  | nat (lo hi : Nat)
  /-- one of several unsigned ranges -/
  | oneOf (l : List (Nat × Nat))
  /-- a signed range -/
  | int (lo hi : Int)
  /-- only these bits may be set; the others are reserved (R13) -/
  | mask (m : Nat)
  /-- any finite F32 (R9) -/
  | f32
  /-- any finite F32, or NaN, which the Meaning cell admits -/
  | f32nan
  /-- a finite F32 from the F32 of `lo / den` to the F32 of `hi / den` -/
  | f32r (lo hi : Int) (den : Nat)
  /-- a finite F32, at least 0.0 -/
  | f32ge0
  /-- a finite F32 above 0.0 -/
  | f32gt0
  /-- valid UTF-8 (R66) -/
  | utf8
  /-- the chapter's own check states the range -/
  | hook
  deriving DecidableEq, Repr

/-- One row of an entry table: index, type, access, survival class, element count on X and on S, stride of a
flattened array (0 for none), default, admitted values. -/
structure EntryDef where
  idx : Nat
  ty : Ty
  acc : Acc
  kept : Kept
  nX : Nat
  nS : Nat
  stride : Nat
  dflt : Nat
  rng : Rng
  deriving DecidableEq, Repr

namespace Od

/-- U8 RO F, R49 -/
abbrev sys_variant : Nat := 0x1000
/-- U8 RO N, R49 -/
abbrev sys_mode : Nat := 0x1001
/-- U8 RW N, R49 -/
abbrev sys_mode_req : Nat := 0x1002
/-- U8 RO M, R49 -/
abbrev sys_last_mode : Nat := 0x1003
/-- U8 WO N, R49 -/
abbrev sys_reset : Nat := 0x1004
/-- U8 RO N, R49 -/
abbrev sys_reset_cause : Nat := 0x1005
/-- U32 RO M, R49 -/
abbrev sys_reset_count : Nat := 0x1006
/-- U16 RO N, R49 -/
abbrev sys_status : Nat := 0x1007
/-- U8 RW F, R49 -/
abbrev sys_wake_src : Nat := 0x1008
/-- U8 RO N, R49 -/
abbrev sys_wake_cause : Nat := 0x1009
/-- TIME64 RW M, R49 -/
abbrev sys_wake_time : Nat := 0x100A
/-- U16 RWM F, R49 -/
abbrev sys_wdt_timeout : Nat := 0x100B
/-- U16 RW F, R49 -/
abbrev sys_app_wdt : Nat := 0x100C
/-- U32 RO N, R49 -/
abbrev sys_boot_ms : Nat := 0x100D
/-- U16 RO N, R49 -/
abbrev sys_vmain : Nat := 0x1010
/-- U32 RO N, R49 -/
abbrev sys_power : Nat := 0x1011
/-- U8 RO N, R49 -/
abbrev sys_hold_state : Nat := 0x1012
/-- U16 RO N, R49 -/
abbrev sys_hold_cap : Nat := 0x1013
/-- U16 RO N, R49 -/
abbrev sys_hold_esr : Nat := 0x1014
/-- U16 RO N, R49 -/
abbrev sys_hold_energy : Nat := 0x1015
/-- U8 RWM N, R49 -/
abbrev sys_hold_test : Nat := 0x1016
/-- U16 RO N, R432 -/
abbrev sys_vsafe : Nat := 0x1017
/-- S16 RO N, R432 -/
abbrev sys_temp_land : Nat := 0x1018
/-- S16 RO N, R432 -/
abbrev sys_temp_soc : Nat := 0x1019
/-- S16 RO M, R432 -/
abbrev sys_temp_max : Nat := 0x101A
/-- U32 RO M, R432 -/
abbrev sys_op_hours : Nat := 0x101B
/-- U8 RO N, R432 -/
abbrev sys_env_status : Nat := 0x101C
/-- STR[16] RO F, R432 -/
abbrev sys_serial : Nat := 0x101D
/-- U32 RO N, R42 -/
abbrev sys_health : Nat := 0x1040
/-- U64 RO N, R42 -/
abbrev sys_parity_replays : Nat := 0x1041
/-- U32 RO N, R42 -/
abbrev sys_parity_persist : Nat := 0x1042
/-- U32 RO M, R42 -/
abbrev sys_fault_count : Nat := 0x1043
/-- U32 RO M, R42 -/
abbrev sys_dram_retired : Nat := 0x1044
/-- U32 RO M, R42 -/
abbrev sys_dram_spares : Nat := 0x1045
/-- U8 RO N, R42 -/
abbrev sys_mp_load : Nat := 0x1046
/-- U8 RO N, R42 -/
abbrev sys_mp_class_load : Nat := 0x1047
/-- U8 RO N, R42 -/
abbrev sys_mp_deferred : Nat := 0x1048
/-- U8 RWM N, R42 -/
abbrev sys_fault_retest : Nat := 0x1049
/-- U8 RO N, R42 -/
abbrev sys_rt_active : Nat := 0x104A
/-- U8 RO N, R42 -/
abbrev sys_clk_run : Nat := 0x104B
/-- U32 RO N, R42 -/
abbrev sys_clk_late : Nat := 0x104C
/-- U32 RO N, R42 -/
abbrev sys_access_refused : Nat := 0x104D
/-- U32 RWT F, R43 -/
abbrev sys_trend_period : Nat := 0x1060
/-- OCT[24] WO N, R43 -/
abbrev sys_trend_dump : Nat := 0x1061
/-- U8 RO N, R43 -/
abbrev sys_trend_state : Nat := 0x1062
/-- U16 RO N, R43 -/
abbrev sys_trend_transfer : Nat := 0x1063
/-- TIME64 RO N, R43 -/
abbrev sys_trend_oldest : Nat := 0x1064
/-- U8 RO N, R43 -/
abbrev sys_trend_fill : Nat := 0x1065
/-- U16 RO F, R65 -/
abbrev od_count : Nat := 0x1080
/-- OCT[8] RO F, R65 -/
abbrev od_image_id : Nat := 0x1081
/-- U16 RW F, R65 -/
abbrev od_bacnet_udp : Nat := 0x1082
/-- U32 RW F, R65 -/
abbrev od_bacnet_dev : Nat := 0x1083
/-- OCT[18] RW F, R65 -/
abbrev od_bacnet_bbmd : Nat := 0x1084
/-- U16 RO N, R65 -/
abbrev od_cov_count : Nat := 0x1085
/-- U32 RO N, R65 -/
abbrev od_unbound_drops : Nat := 0x1086
/-- U32 RO N, R65 -/
abbrev od_malformed : Nat := 0x1087
/-- U32 RO N, R65 -/
abbrev od_queue_full : Nat := 0x1088
/-- U8 RO N, R108 -/
abbrev net_link_state : Nat := 0x1100
/-- U16 RO N, R108 -/
abbrev net_speed : Nat := 0x1101
/-- U16 RW F, R108 -/
abbrev net_speed_max : Nat := 0x1102
/-- U8 RWM F, R108 -/
abbrev net_mode : Nat := 0x1103
/-- OCT[6] RO F, R108 -/
abbrev net_mac : Nat := 0x1104
/-- U8 RWT F, R108 -/
abbrev net_ip_mode : Nat := 0x1105
/-- OCT[17] RWT F, R108 -/
abbrev net_ip6_static : Nat := 0x1106
/-- OCT[5] RWT F, R108 -/
abbrev net_ip4_static : Nat := 0x1107
/-- OCT[4] RWT F, R108 -/
abbrev net_gw4 : Nat := 0x1108
/-- OCT[18] RO N, R108 -/
abbrev net_ip_addr : Nat := 0x1109
/-- U32 RO N, R108 -/
abbrev net_rx_oversize : Nat := 0x110A
/-- U32 RO N, R108 -/
abbrev net_rx_pause : Nat := 0x110B
/-- U16 RW F, R113 -/
abbrev net_tx_start : Nat := 0x1110
/-- U16 RO M, R113 -/
abbrev net_tx_thresh : Nat := 0x1111
/-- U8 RW F, R111 -/
abbrev net_q_pcp : Nat := 0x1112
/-- U8 RW F, R111 -/
abbrev net_q_own : Nat := 0x1113
/-- U16 RWT F, R111 -/
abbrev net_q_limit : Nat := 0x1114
/-- U64 RO N, R111 -/
abbrev net_q_drops : Nat := 0x1115
/-- U64 RO N, R111 -/
abbrev net_q_frames : Nat := 0x1116
/-- U32 RO M, R113 -/
abbrev net_underruns : Nat := 0x1117
/-- U16 RWT F, R117 -/
abbrev net_prp_life : Nat := 0x1120
/-- U16 RWT F, R117 -/
abbrev net_prp_forget : Nat := 0x1121
/-- U16 RWT F, R117 -/
abbrev net_prp_silence : Nat := 0x1122
/-- U64 RO N, R117 -/
abbrev net_prp_rx : Nat := 0x1123
/-- U32 RO N, R117 -/
abbrev net_prp_wrong_lan : Nat := 0x1124
/-- U64 RO N, R117 -/
abbrev net_prp_discarded : Nat := 0x1125
/-- U32 RO N, R117 -/
abbrev net_prp_single : Nat := 0x1126
/-- U16 RO N, R117 -/
abbrev net_prp_nodes : Nat := 0x1127
/-- U16 RO N, R117 -/
abbrev net_prp_proxied : Nat := 0x1128
/-- U32 RO N, R117 -/
abbrev net_prp_proxy_over : Nat := 0x1129
/-- U8 RWT F, R120 -/
abbrev net_ptp_profile : Nat := 0x1130
/-- U8 RWT F, R120 -/
abbrev net_ptp_domain : Nat := 0x1131
/-- U8 RWT F, R120 -/
abbrev net_ptp_transport : Nat := 0x1132
/-- U8 RO N, R120 -/
abbrev net_ptp_state : Nat := 0x1133
/-- U8 RO N, R120 -/
abbrev net_ptp_port : Nat := 0x1134
/-- S32 RO N, R120 -/
abbrev net_ptp_offset : Nat := 0x1135
/-- U32 RO N, R120 -/
abbrev net_ptp_delay : Nat := 0x1136
/-- OCT[8] RO N, R120 -/
abbrev net_ptp_gm : Nat := 0x1137
/-- U8 RWT F, R122 -/
abbrev net_macsec : Nat := 0x1140
/-- U8 RWT F, R122 -/
abbrev net_macsec_cak : Nat := 0x1141
/-- U32 RWT F, R122 -/
abbrev net_macsec_window : Nat := 0x1142
/-- U8 RO N, R122 -/
abbrev net_macsec_state : Nat := 0x1143
/-- U32 RO N, R122 -/
abbrev net_macsec_drops : Nat := 0x1144
/-- OCT[16] RWT F, R125 -/
abbrev net_wake_mask : Nat := 0x1150
/-- U16 RWT F, R125 -/
abbrev net_wake_check : Nat := 0x1151
/-- U16 RO N, R125 -/
abbrev net_wake_hit : Nat := 0x1152
/-- BOOL RW F, R130 -/
abbrev net_downshift : Nat := 0x1160
/-- U32 RO N, R130 -/
abbrev net_shift_count : Nat := 0x1161
/-- U32 RO N, R130 -/
abbrev net_shift_load : Nat := 0x1162
/-- U8 RO N, R76 -/
abbrev net_dot1x_state : Nat := 0x1180
/-- STR[64] RWT F, R76 -/
abbrev net_dot1x_identity : Nat := 0x1181
/-- U8 RWT F, R76 -/
abbrev net_dot1x_key : Nat := 0x1182
/-- OCT[128] RWT F, R76 -/
abbrev net_dot1x_cert : Nat := 0x1183
/-- U16 RWT F, R76 -/
abbrev net_dot1x_cert_len : Nat := 0x1184
/-- U32 RO N, R76 -/
abbrev net_dot1x_fails : Nat := 0x1185
/-- BOOL RW F, R136 -/
abbrev fld_t1l_enable : Nat := 0x1200
/-- U8 RWT F, R136 -/
abbrev fld_t1l_role : Nat := 0x1201
/-- U8 RW F, R136 -/
abbrev fld_t1l_amp : Nat := 0x1202
/-- U8 RO N, R136 -/
abbrev fld_t1l_state : Nat := 0x1203
/-- U16 RO N, R136 -/
abbrev fld_t1l_snr : Nat := 0x1204
/-- U32 RO N, R136 -/
abbrev fld_t1l_downs : Nat := 0x1205
/-- U16 RWT F, R133 -/
abbrev fld_pvid : Nat := 0x1210
/-- U8 RWT F, R133 -/
abbrev fld_pcp : Nat := 0x1211
/-- U16 RW F, R133 -/
abbrev fld_bcast_limit : Nat := 0x1212
/-- U32 RO N, R133 -/
abbrev fld_bcast_drops : Nat := 0x1213
/-- U32 RO N, R133 -/
abbrev fld_rx_discards : Nat := 0x1214
/-- U32 RO N, R133 -/
abbrev fld_tx_drops : Nat := 0x1215
/-- U64 RO N, R133 -/
abbrev fld_rx_frames : Nat := 0x1216
/-- U64 RO N, R133 -/
abbrev fld_tx_frames : Nat := 0x1217
/-- U16 RWT F, R142 -/
abbrev fld_pse_budget : Nat := 0x1220
/-- U8 RWT F, R142 -/
abbrev fld_pse_lv_eff : Nat := 0x1221
/-- BOOL RWT F, R142 -/
abbrev fld_pse_enable : Nat := 0x1222
/-- U8 RWT F, R142 -/
abbrev fld_pse_prio : Nat := 0x1223
/-- U8 RWT F, R142 -/
abbrev fld_pse_max_class : Nat := 0x1224
/-- U8 RO N, R142 -/
abbrev fld_pse_state : Nat := 0x1225
/-- U8 RO N, R142 -/
abbrev fld_pse_class : Nat := 0x1226
/-- U16 RO N, R142 -/
abbrev fld_pse_current : Nat := 0x1227
/-- U16 RO N, R142 -/
abbrev fld_pse_voltage : Nat := 0x1228
/-- U16 RO N, R142 -/
abbrev fld_pse_alloc : Nat := 0x1229
/-- U16 RO N, R142 -/
abbrev fld_pse_input : Nat := 0x122A
/-- U16 RO N, R142 -/
abbrev fld_field_pwr : Nat := 0x122B
/-- U32 RO N, R142 -/
abbrev fld_pse_faults : Nat := 0x122C
/-- U8 WO N, R142 -/
abbrev fld_pse_reset : Nat := 0x122D
/-- BOOL RW F, R146 -/
abbrev fld_t1s_enable : Nat := 0x1240
/-- U8 RWT F, R146 -/
abbrev fld_plca_count : Nat := 0x1241
/-- U8 RWT F, R146 -/
abbrev fld_plca_burst : Nat := 0x1242
/-- U8 RWT F, R146 -/
abbrev fld_plca_btimer : Nat := 0x1243
/-- U16 RO N, R146 -/
abbrev fld_plca_present : Nat := 0x1244
/-- U8 RO N, R146 -/
abbrev fld_t1s_state : Nat := 0x1245
/-- U32 RO N, R146 -/
abbrev fld_t1s_collisions : Nat := 0x1246
/-- U32 RO N, R146 -/
abbrev fld_t1s_foreign : Nat := 0x1247
/-- U32 RO N, R146 -/
abbrev fld_t1s_jabber : Nat := 0x1248
/-- U16 RO N, R146 -/
abbrev fld_t1s_cycle : Nat := 0x1249
/-- U8 RWT F, R147 -/
abbrev fld_rs_mode : Nat := 0x1260
/-- U32 RWT F, R147 -/
abbrev fld_rs_baud : Nat := 0x1261
/-- U8 RWT F, R147 -/
abbrev fld_rs_bias : Nat := 0x1262
/-- U8 RWT F, R147 -/
abbrev fld_rs_framing : Nat := 0x1263
/-- U8 RO N, R147 -/
abbrev fld_rs_state : Nat := 0x1264
/-- U32 RO N, R147 -/
abbrev fld_rs_errors : Nat := 0x1265
/-- U8 RWT F, R148 -/
abbrev fld_mstp_mac : Nat := 0x1270
/-- U8 RWT F, R148 -/
abbrev fld_mstp_max_master : Nat := 0x1271
/-- U8 RWT F, R148 -/
abbrev fld_mstp_max_info : Nat := 0x1272
/-- OCT[16] RO N, R148 -/
abbrev fld_mstp_masters : Nat := 0x1273
/-- U32 RO N, R148 -/
abbrev fld_mstp_token_loss : Nat := 0x1274
/-- U32 RO N, R148 -/
abbrev fld_mstp_dup : Nat := 0x1275
/-- OCT[12] RWT F, R150 -/
abbrev fld_mb_poll : Nat := 0x1280
/-- F32 RO N, R150 -/
abbrev fld_mb_in : Nat := 0x1281
/-- F32 RW N, R150 -/
abbrev fld_mb_out : Nat := 0x1282
/-- U16 RO N, R150 -/
abbrev fld_mb_status : Nat := 0x1283
/-- U16 RWT F, R150 -/
abbrev fld_mb_timeout : Nat := 0x1284
/-- U8 RWT F, R150 -/
abbrev fld_mb_retries : Nat := 0x1285
/-- U32 RO N, R150 -/
abbrev fld_mb_late : Nat := 0x1286
/-- U8 RWT F, R74 -/
abbrev od_port_kind : Nat := 0x1300
/-- U16 RWT F, R74 -/
abbrev od_port_phys : Nat := 0x1301
/-- U16 RWT F, R74 -/
abbrev od_port_vlan : Nat := 0x1302
/-- OCT[17] RWT F, R74 -/
abbrev od_port_src : Nat := 0x1303
/-- U8 RWT F, R74 -/
abbrev od_port_node : Nat := 0x1304
/-- U8 RWT F, R74 -/
abbrev od_port_tenant : Nat := 0x1305
/-- U64 RO N, R74 -/
abbrev od_port_hits : Nat := 0x1306
/-- STR[32] RWT F, R77 -/
abbrev od_tenant_name : Nat := 0x1320
/-- U16 RWT F, R77 -/
abbrev od_tenant_rights : Nat := 0x1321
/-- U16 RWT F, R77 -/
abbrev od_grant_lo : Nat := 0x1322
/-- U16 RWT F, R77 -/
abbrev od_grant_hi : Nat := 0x1323
/-- U8 RWT F, R77 -/
abbrev od_grant_rights : Nat := 0x1324
/-- U8 RWT F, R80 -/
abbrev od_pt_kind : Nat := 0x1340
/-- U32 RWT F, R80 -/
abbrev od_pt_inst : Nat := 0x1341
/-- U32 RWT F, R80 -/
abbrev od_pt_link : Nat := 0x1342
/-- U16 RWT F, R80 -/
abbrev od_pt_units : Nat := 0x1343
/-- STR[32] RWT F, R80 -/
abbrev od_pt_name : Nat := 0x1344
/-- F32 RWT F, R80 -/
abbrev od_pt_cov_inc : Nat := 0x1345
/-- U8 RO N, R80 -/
abbrev od_pt_flags : Nat := 0x1346
/-- U16 RW F, R97 -/
abbrev txn_timeout : Nat := 0x1400
/-- U8 WO N, R97 -/
abbrev txn_begin : Nat := 0x1401
/-- U8 WO N, R97 -/
abbrev txn_commit : Nat := 0x1402
/-- U8 WO N, R97 -/
abbrev txn_rollback : Nat := 0x1403
/-- U8 RO N, R97 -/
abbrev txn_open : Nat := 0x1404
/-- U8 RO N, R97 -/
abbrev txn_state : Nat := 0x1405
/-- OCT[5] RO N, R97 -/
abbrev txn_owner : Nat := 0x1406
/-- U16 RO N, R97 -/
abbrev txn_elements : Nat := 0x1407
/-- U16 RO N, R97 -/
abbrev txn_bytes : Nat := 0x1408
/-- U32 RO N, R97 -/
abbrev txn_idle : Nat := 0x1409
/-- OCT[16] RO M, R97 -/
abbrev txn_closure : Nat := 0x140A
/-- SEQ64 RO M, R97 -/
abbrev txn_next_seq : Nat := 0x1410
/-- SEQ64 RO M, R97 -/
abbrev txn_done_seq : Nat := 0x1411
/-- U16 RO N, R97 -/
abbrev txn_inflight : Nat := 0x1412
/-- U16 RO N, R97 -/
abbrev txn_payload_free : Nat := 0x1413
/-- SEQ64 RO N, R97 -/
abbrev txn_window_oldest : Nat := 0x1414
/-- U16 RO N, R97 -/
abbrev txn_replay_left : Nat := 0x1415
/-- U16 RO N, R97 -/
abbrev txn_replay_total : Nat := 0x1416
/-- U32 RO M, R97 -/
abbrev txn_replay_refused : Nat := 0x1417
/-- U32 RO N, R97 -/
abbrev txn_ledger_full : Nat := 0x1418
/-- U32 RO N, R97 -/
abbrev txn_duplicates : Nat := 0x1419
/-- U32 RO N, R97 -/
abbrev txn_dup_mismatch : Nat := 0x141A
/-- U32 RO N, R97 -/
abbrev txn_conflicts : Nat := 0x141B
/-- U32 RO N, R97 -/
abbrev txn_expired : Nat := 0x141C
/-- U64 RW B, R367 -/
abbrev rtc_seconds : Nat := 0x1500
/-- U16 RO B, R367 -/
abbrev rtc_subsec : Nat := 0x1501
/-- OCT[8] RW B, R367 -/
abbrev rtc_cal : Nat := 0x1502
/-- TIME64 RO N, R367 -/
abbrev rtc_time : Nat := 0x1503
/-- S16 RW B, R367 -/
abbrev rtc_tai_offset : Nat := 0x1504
/-- S16 RW B, R367 -/
abbrev rtc_shift : Nat := 0x1505
/-- U8 RO N, R367 -/
abbrev rtc_status : Nat := 0x1506
/-- BOOL RO B, R367 -/
abbrev rtc_lost : Nat := 0x1507
/-- BOOL RO B, R367 -/
abbrev rtc_cal_end : Nat := 0x1508
/-- U16 RO N, R367 -/
abbrev rtc_vbat : Nat := 0x1509
/-- BOOL RW F, R367 -/
abbrev rtc_sync : Nat := 0x150A
/-- U16 RW F, R367 -/
abbrev rtc_sync_step : Nat := 0x150B
/-- S32 RO N, R367 -/
abbrev rtc_sync_diff : Nat := 0x150C
/-- U32 RO M, R367 -/
abbrev rtc_domain_resets : Nat := 0x150D
/-- OCT[8] RW B, R367 -/
abbrev rtc_marzipan : Nat := 0x1510
/-- U8 WO N, R382 -/
abbrev nvs_store_cmd : Nat := 0x1600
/-- U8 RO M, R382 -/
abbrev nvs_allowance : Nat := 0x1601
/-- U32 RO M, R382 -/
abbrev nvs_store_count : Nat := 0x1602
/-- U8 RO N, R382 -/
abbrev nvs_active_bank : Nat := 0x1603
/-- U64 RO M, R382 -/
abbrev nvs_generation : Nat := 0x1604
/-- TIME64 RO M, R382 -/
abbrev nvs_last_store : Nat := 0x1605
/-- U8 RO M, R382 -/
abbrev nvs_last_cause : Nat := 0x1606
/-- U8 RO N, R382 -/
abbrev nvs_bank_state : Nat := 0x1607
/-- U32 RO M, R382 -/
abbrev nvs_corrected : Nat := 0x1608
/-- U8 RO N, R382 -/
abbrev nvs_wear : Nat := 0x1609
/-- U16 RO N, R382 -/
abbrev nvs_store_time : Nat := 0x160A
/-- U32 RO M, R382 -/
abbrev nvs_torn : Nat := 0x160B
/-- BOOL RO M, R382 -/
abbrev nvs_stale : Nat := 0x160C
/-- BOOL RO M, R382 -/
abbrev nvs_lost : Nat := 0x160D
/-- OCT[32] RW M, R382 -/
abbrev nvs_user : Nat := 0x1610
/-- SEQ64 RO M, R395 -/
abbrev rec_head : Nat := 0x1700
/-- SEQ64 RO M, R395 -/
abbrev rec_tail : Nat := 0x1701
/-- U16 RO N, R395 -/
abbrev rec_buffered : Nat := 0x1702
/-- U16 RO M, R395 -/
abbrev rec_unmoved : Nat := 0x1703
/-- U32 RO M, R395 -/
abbrev rec_dropped : Nat := 0x1704
/-- SEQ64 WO N, R395 -/
abbrev rec_clear : Nat := 0x1705
/-- SEQ64 RO M, R395 -/
abbrev rec_clear_seq : Nat := 0x1706
/-- OCT[16] RW N, R395 -/
abbrev rec_rd_req : Nat := 0x1710
/-- OCT[32] RO N, R395 -/
abbrev rec_rd_info : Nat := 0x1711
/-- OCT[32] RO N, R395 -/
abbrev rec_rd_data : Nat := 0x1712
/-- OCT[5] RO N, R395 -/
abbrev rec_rd_owner : Nat := 0x1713
/-- OCT[16] WO N, R395 -/
abbrev rec_dump : Nat := 0x1720
/-- U8 RO N, R395 -/
abbrev rec_dump_state : Nat := 0x1721
/-- U16 RO N, R395 -/
abbrev rec_dump_transfer : Nat := 0x1722
/-- U8 RO F, R406 -/
abbrev upd_state : Nat := 0x1800
/-- U32 RO F, R406 -/
abbrev upd_length : Nat := 0x1801
/-- U32 WO N, R406 -/
abbrev upd_begin : Nat := 0x1802
/-- OCT[1024] RW N, R406 -/
abbrev upd_blk_data : Nat := 0x1803
/-- OCT[16] WO N, R406 -/
abbrev upd_block : Nat := 0x1804
/-- OCT[120] RO F, R406 -/
abbrev upd_map : Nat := 0x1805
/-- U16 RO F, R406 -/
abbrev upd_missing : Nat := 0x1806
/-- U8 WO N, R406 -/
abbrev upd_verify : Nat := 0x1807
/-- U8 RO F, R406 -/
abbrev upd_result : Nat := 0x1808
/-- U32 RO F, R406 -/
abbrev upd_stage_id : Nat := 0x1809
/-- U32 RO F, R406 -/
abbrev upd_stage_version : Nat := 0x180A
/-- OCT[8] RO F, R406 -/
abbrev upd_stage_build : Nat := 0x180B
/-- U32 WO N, R406 -/
abbrev upd_activate : Nat := 0x180C
/-- U32 WO N, R406 -/
abbrev upd_health_ok : Nat := 0x180D
/-- U32 RW F, R406 -/
abbrev upd_probation : Nat := 0x180E
/-- U32 RO M, R406 -/
abbrev upd_probation_left : Nat := 0x180F
/-- U8 RO F, R406 -/
abbrev upd_slot_state : Nat := 0x1810
/-- U32 RO F, R406 -/
abbrev upd_slot_id : Nat := 0x1811
/-- U32 RO F, R406 -/
abbrev upd_slot_version : Nat := 0x1812
/-- U8 RO N, R406 -/
abbrev upd_running : Nat := 0x1813
/-- U32 RO N, R406 -/
abbrev upd_running_id : Nat := 0x1814
/-- U16 RO F, R406 -/
abbrev upd_epoch_floor : Nat := 0x1815
/-- U32 RO N, R406 -/
abbrev upd_blk_refused : Nat := 0x1816
/-- U32 RO F, R406 -/
abbrev upd_fallbacks : Nat := 0x1817
/-- U16 RO F, R406 -/
abbrev upd_copy_done : Nat := 0x1818
/-- U8 RO M, R413 -/
abbrev key_type : Nat := 0x1840
/-- U16 RO M, R413 -/
abbrev key_attr : Nat := 0x1841
/-- U8 RO M, R413 -/
abbrev key_tenant : Nat := 0x1842
/-- U8 RO M, R413 -/
abbrev key_len : Nat := 0x1843
/-- SEQ64 RO M, R413 -/
abbrev key_stamp : Nat := 0x1844
/-- OCT[8] RO M, R413 -/
abbrev key_fingerprint : Nat := 0x1845
/-- OCT[16] RO N, R413 -/
abbrev key_challenge : Nat := 0x1846
/-- OCT[152] WO N, R413 -/
abbrev key_replace : Nat := 0x1847
/-- STR[32] RWT F, R413 -/
abbrev key_lc_label : Nat := 0x1848
/-- BOOL RO N, R413 -/
abbrev key_lc_used : Nat := 0x1849
/-- U32 RO N, R413 -/
abbrev key_fails : Nat := 0x184A
/-- U32 RWT F, R156 -/
abbrev lbs_map_src : Nat := 0x1900
/-- U8 RWT F, R156 -/
abbrev lbs_map_part : Nat := 0x1901
/-- U16 RWT F, R156 -/
abbrev lbs_map_period : Nat := 0x1902
/-- U32 RO N, R156 -/
abbrev lbs_wr_lost : Nat := 0x1903
/-- U8 RO N, R156 -/
abbrev lbs_wr_queue : Nat := 0x1904
/-- U8 RO N, R156 -/
abbrev lbs_groups : Nat := 0x1905
/-- BOOL RW F, R169 -/
abbrev lbs_bsp_enable : Nat := 0x1910
/-- U8 RO N, R169 -/
abbrev lbs_bsp_state : Nat := 0x1911
/-- U8 RO N, R169 -/
abbrev lbs_bsp_credits : Nat := 0x1912
/-- U32 RO N, R169 -/
abbrev lbs_bsp_resends : Nat := 0x1913
/-- U32 RO N, R169 -/
abbrev lbs_bsp_crc_err : Nat := 0x1914
/-- U8 RWT F, R186 -/
abbrev ana_mode : Nat := 0x2000
/-- U8 RWT F, R186 -/
abbrev ana_rate : Nat := 0x2001
/-- U8 RWT F, R186 -/
abbrev ana_char : Nat := 0x2002
/-- F32 RWT F, R186 -/
abbrev ana_eng_lo : Nat := 0x2003
/-- F32 RWT F, R186 -/
abbrev ana_eng_hi : Nat := 0x2004
/-- F32 RWT F, R186 -/
abbrev ana_sqrt_cut : Nat := 0x2005
/-- U8 RWT F, R186 -/
abbrev ana_tab_n : Nat := 0x2006
/-- F32 RWT F, R186 -/
abbrev ana_tab_x : Nat := 0x2007
/-- F32 RWT F, R186 -/
abbrev ana_tab_f : Nat := 0x2008
/-- F32 RO N, R186 -/
abbrev ana_meas : Nat := 0x2010
/-- F32 RO N, R186 -/
abbrev ana_value : Nat := 0x2011
/-- F32 RW N, R186 -/
abbrev ana_out : Nat := 0x2012
/-- U16 RWT F, R186 -/
abbrev ana_out_src : Nat := 0x2013
/-- F32 RWT F, R186 -/
abbrev ana_out_init : Nat := 0x2014
/-- U16 RO N, R186 -/
abbrev ana_status : Nat := 0x2015
/-- BOOL RO N, R186 -/
abbrev ana_compliance : Nat := 0x2016
/-- U8 RO N, R186 -/
abbrev ana_miswire : Nat := 0x2017
/-- F32 RO N, R186 -/
abbrev ana_term_v : Nat := 0x2018
/-- U32 RO N, R186 -/
abbrev ana_faults : Nat := 0x2019
/-- BOOL RWT F, R187 -/
abbrev ana_hart_enable : Nat := 0x2020
/-- U8 RWT F, R187 -/
abbrev ana_hart_role : Nat := 0x2021
/-- U16 RWT F, R187 -/
abbrev ana_hart_poll : Nat := 0x2022
/-- F32 RO N, R187 -/
abbrev ana_hart_pv : Nat := 0x2023
/-- U8 RO N, R187 -/
abbrev ana_hart_units : Nat := 0x2024
/-- OCT[5] RO N, R187 -/
abbrev ana_hart_uid : Nat := 0x2025
/-- U8 RO N, R187 -/
abbrev ana_hart_state : Nat := 0x2026
/-- U8 RO N, R187 -/
abbrev ana_hart_dev_status : Nat := 0x2027
/-- OCT[70] RW N, R187 -/
abbrev ana_hart_req : Nat := 0x2028
/-- OCT[70] RO N, R187 -/
abbrev ana_hart_rsp : Nat := 0x2029
/-- U16 RO M, R187 -/
abbrev ana_hart_last_tag : Nat := 0x202A
/-- U8 RO F, R187 -/
abbrev ana_hart_modem : Nat := 0x202B
/-- BOOL RWM F, R201 -/
abbrev cal_run : Nat := 0x2100
/-- U16 RWM F, R201 -/
abbrev cal_turn_period : Nat := 0x2101
/-- U16 RWM F, R201 -/
abbrev cal_agree : Nat := 0x2102
/-- U8 RO N, R201 -/
abbrev cal_state : Nat := 0x2103
/-- OCT[16] RO M, R201 -/
abbrev cal_map : Nat := 0x2104
/-- U8 RO M, R201 -/
abbrev cal_spare : Nat := 0x2105
/-- U8 RO M, R201 -/
abbrev cal_next : Nat := 0x2106
/-- U8 RWM N, R201 -/
abbrev cal_step_now : Nat := 0x2107
/-- U32 RO M, R201 -/
abbrev cal_steps : Nat := 0x2108
/-- U32 RO M, R201 -/
abbrev cal_aborts : Nat := 0x2109
/-- U32 RO M, R201 -/
abbrev cal_late : Nat := 0x210A
/-- F32 RO N, R201 -/
abbrev cal_disagree : Nat := 0x210B
/-- U8 RO N, R201 -/
abbrev cal_ref : Nat := 0x210C
/-- U32 RO N, R201 -/
abbrev cal_age : Nat := 0x2110
/-- F32 RO M, R201 -/
abbrev cal_gain : Nat := 0x2111
/-- F32 RO M, R201 -/
abbrev cal_offset : Nat := 0x2112
/-- F32 RO M, R201 -/
abbrev cal_linearity : Nat := 0x2113
/-- S16 RO M, R201 -/
abbrev cal_delay : Nat := 0x2114
/-- TIME64 RO M, R201 -/
abbrev cal_time : Nat := 0x2115
/-- F32 RO M, R201 -/
abbrev cal_shift : Nat := 0x2116
/-- U8 RO M, R201 -/
abbrev cal_result : Nat := 0x2117
/-- BOOL RWT F, R223 -/
abbrev nrg_enable : Nat := 0x2400
/-- U8 RWT F, R223 -/
abbrev nrg_freq_nom : Nat := 0x2401
/-- F32 RWT F, R223 -/
abbrev nrg_v_ratio : Nat := 0x2402
/-- F32 RWT F, R223 -/
abbrev nrg_i_ratio : Nat := 0x2403
/-- U8 RWT F, R223 -/
abbrev nrg_i_kind : Nat := 0x2404
/-- S16 RWT F, R223 -/
abbrev nrg_delay : Nat := 0x2405
/-- F32 RWT F, R223 -/
abbrev nrg_ibase : Nat := 0x2406
/-- U16 RWT F, R223 -/
abbrev nrg_noload : Nat := 0x2407
/-- U16 RWT F, R223 -/
abbrev nrg_rev_cycles : Nat := 0x2408
/-- U8 RWT F, R223 -/
abbrev nrg_zc_timeout : Nat := 0x2409
/-- U8 RWT F, R223 -/
abbrev nrg_sum_mask : Nat := 0x240A
/-- U16 RWT F, R223 -/
abbrev nrg_int_period : Nat := 0x240B
/-- F32 RO N, R223 -/
abbrev nrg_pmax : Nat := 0x240C
/-- U32 RO N, R223 -/
abbrev nrg_max_read : Nat := 0x240D
/-- U64 RO M, R224 -/
abbrev nrg_acc : Nat := 0x2410
/-- U32 RO M, R224 -/
abbrev nrg_view : Nat := 0x2411
/-- U32 RO M, R224 -/
abbrev nrg_wrap : Nat := 0x2412
/-- U64 RO M, R224 -/
abbrev nrg_int_last : Nat := 0x2413
/-- TIME64 RO M, R224 -/
abbrev nrg_int_end : Nat := 0x2414
/-- F32 RO N, R225 -/
abbrev nrg_vrms : Nat := 0x2420
/-- F32 RO N, R225 -/
abbrev nrg_irms : Nat := 0x2421
/-- F32 RO N, R225 -/
abbrev nrg_p : Nat := 0x2422
/-- F32 RO N, R225 -/
abbrev nrg_q : Nat := 0x2423
/-- F32 RO N, R225 -/
abbrev nrg_freq : Nat := 0x2424
/-- F32 RO N, R225 -/
abbrev nrg_pnet : Nat := 0x2425
/-- U8 RO M, R225 -/
abbrev nrg_dir : Nat := 0x2426
/-- U16 RO N, R225 -/
abbrev nrg_status : Nat := 0x2427
/-- BOOL RO N, R225 -/
abbrev nrg_vloss : Nat := 0x2428
/-- U32 RO M, R225 -/
abbrev nrg_reversals : Nat := 0x2429
/-- U32 RO M, R225 -/
abbrev nrg_unmetered : Nat := 0x242A
/-- U32 RW F, R226 -/
abbrev nrg_pulse_const : Nat := 0x2430
/-- SEQ64 RO M, R226 -/
abbrev nrg_pulse_stamp : Nat := 0x2431
/-- U16 RWT F, R226 -/
abbrev nrg_pulse_src : Nat := 0x2432
/-- U16 RWT F, R226 -/
abbrev nrg_pulse_width : Nat := 0x2433
/-- U64 RO M, R226 -/
abbrev nrg_pulse_rem : Nat := 0x2434
/-- U32 RO M, R226 -/
abbrev nrg_pulse_backlog : Nat := 0x2435
/-- U64 RO M, R226 -/
abbrev nrg_pulse_count : Nat := 0x2436
/-- TIME64 RO B, R226 -/
abbrev nrg_first_vbat : Nat := 0x2440
/-- U16 RO B, R226 -/
abbrev nrg_vbat_gen : Nat := 0x2441
/-- U16 WO N, R226 -/
abbrev nrg_vbat_clear : Nat := 0x2442
/-- U8 WO N, R226 -/
abbrev nrg_cap_circuit : Nat := 0x2450
/-- U16 RW F, R226 -/
abbrev nrg_cap_cycles : Nat := 0x2451
/-- U8 RO N, R226 -/
abbrev nrg_cap_state : Nat := 0x2452
/-- U16 RO N, R226 -/
abbrev nrg_cap_transfer : Nat := 0x2453
/-- U32 RWT F, R248 -/
abbrev ctl_period : Nat := 0x2800
/-- U8 RWT F, R248 -/
abbrev ctl_sections : Nat := 0x2801
/-- Q3.28 RWT F, R248 -/
abbrev ctl_coef : Nat := 0x2802
/-- Q3.28 RWT F, R248 -/
abbrev ctl_gain : Nat := 0x2803
/-- U8 RWT F, R248 -/
abbrev ctl_int_sec : Nat := 0x2804
/-- U32 RWT F, R248 -/
abbrev ctl_pv_src : Nat := 0x2805
/-- F32 RWT F, R248 -/
abbrev ctl_pv_span : Nat := 0x2806
/-- U8 RWT F, R248 -/
abbrev ctl_dir : Nat := 0x2807
/-- F32 RW M, R248 -/
abbrev ctl_sp : Nat := 0x2808
/-- F32 WO N, R248 -/
abbrev ctl_sp_soft : Nat := 0x2809
/-- F32 RO N, R248 -/
abbrev ctl_sp_eff : Nat := 0x280A
/-- F32 RWT F, R248 -/
abbrev ctl_ramp_rate : Nat := 0x280B
/-- F32 RWT F, R248 -/
abbrev ctl_out_lo : Nat := 0x280C
/-- F32 RWT F, R248 -/
abbrev ctl_out_hi : Nat := 0x280D
/-- F32 RWT F, R248 -/
abbrev ctl_out_min : Nat := 0x280E
/-- F32 RWT F, R248 -/
abbrev ctl_out_max : Nat := 0x280F
/-- F32 RWT F, R248 -/
abbrev ctl_rate_max : Nat := 0x2810
/-- U8 RW N, R248 -/
abbrev ctl_mode : Nat := 0x2811
/-- F32 RW N, R248 -/
abbrev ctl_man_out : Nat := 0x2812
/-- F32 RO N, R248 -/
abbrev ctl_out : Nat := 0x2813
/-- U8 RWT F, R248 -/
abbrev ctl_safe_mode : Nat := 0x2814
/-- F32 RWT F, R248 -/
abbrev ctl_safe_out : Nat := 0x2815
/-- U8 RWT F, R248 -/
abbrev ctl_fault_act : Nat := 0x2816
/-- U16 RO N, R248 -/
abbrev ctl_status : Nat := 0x2817
/-- U32 RO N, R248 -/
abbrev ctl_sat_count : Nat := 0x2818
/-- F32 RO N, R248 -/
abbrev ctl_pv : Nat := 0x2819
/-- U8 RWT F, R248 -/
abbrev ctl_mode_init : Nat := 0x281A
/-- U16 RO N, R250 -/
abbrev ctl_load : Nat := 0x2880
/-- U8 RO N, R250 -/
abbrev ctl_instance : Nat := 0x2881
/-- U32 RO N, R250 -/
abbrev ctl_mismatches : Nat := 0x2882
/-- U32 RO N, R250 -/
abbrev ctl_transients : Nat := 0x2883
/-- U16 RWT F, R249 -/
abbrev ctl_rep_loop : Nat := 0x2900
/-- U16 RWT F, R249 -/
abbrev ctl_rep_len : Nat := 0x2901
/-- Q3.28 RWT F, R249 -/
abbrev ctl_rep_gain : Nat := 0x2902
/-- Q3.28 RWT F, R249 -/
abbrev ctl_rep_q : Nat := 0x2903
/-- U16 RWT F, R249 -/
abbrev ctl_rep_lead : Nat := 0x2904
/-- BOOL RW F, R249 -/
abbrev ctl_rep_learn : Nat := 0x2905
/-- U8 WO N, R249 -/
abbrev ctl_rep_clear : Nat := 0x2906
/-- U16 RO N, R249 -/
abbrev ctl_rep_index : Nat := 0x2907
/-- F32 RO N, R249 -/
abbrev ctl_rep_peak : Nat := 0x2908
/-- U8 RWT F, R270 -/
abbrev mot_use : Nat := 0x2C00
/-- S64 RW N, R270 -/
abbrev mot_target : Nat := 0x2C01
/-- U16 RWT F, R270 -/
abbrev mot_tgt_src : Nat := 0x2C02
/-- F32 RWT F, R270 -/
abbrev mot_v_max : Nat := 0x2C03
/-- F32 RWT F, R270 -/
abbrev mot_a_max : Nat := 0x2C04
/-- F32 RWT F, R270 -/
abbrev mot_j_max : Nat := 0x2C05
/-- F32 RWT F, R270 -/
abbrev mot_a_stop : Nat := 0x2C06
/-- S64 RWT F, R270 -/
abbrev mot_pos_min : Nat := 0x2C07
/-- S64 RWT F, R270 -/
abbrev mot_pos_max : Nat := 0x2C08
/-- F32 RWT F, R270 -/
abbrev mot_eng_lo : Nat := 0x2C09
/-- F32 RWT F, R270 -/
abbrev mot_eng_hi : Nat := 0x2C0A
/-- S64 RWT F, R270 -/
abbrev mot_cnt_lo : Nat := 0x2C0B
/-- S64 RWT F, R270 -/
abbrev mot_cnt_hi : Nat := 0x2C0C
/-- U32 RWT F, R270 -/
abbrev mot_deadband : Nat := 0x2C0D
/-- S64 RO N, R270 -/
abbrev mot_cmd_pos : Nat := 0x2C0E
/-- F32 RO N, R270 -/
abbrev mot_cmd_vel : Nat := 0x2C0F
/-- F32 RO N, R270 -/
abbrev mot_cmd_acc : Nat := 0x2C10
/-- S64 RO N, R270 -/
abbrev mot_pos : Nat := 0x2C11
/-- U8 RO N, R270 -/
abbrev mot_state : Nat := 0x2C12
/-- U16 RO N, R270 -/
abbrev mot_status : Nat := 0x2C13
/-- U16 RWT F, R270 -/
abbrev mot_usteps : Nat := 0x2C14
/-- U16 RWT F, R270 -/
abbrev mot_step_width : Nat := 0x2C15
/-- U16 RWT F, R270 -/
abbrev mot_dir_setup : Nat := 0x2C16
/-- U16 RWT F, R270 -/
abbrev mot_dir_hold : Nat := 0x2C17
/-- U32 RO N, R270 -/
abbrev mot_late_steps : Nat := 0x2C18
/-- U16 RWT F, R270 -/
abbrev mot_idle_red : Nat := 0x2C19
/-- F32 RWT F, R270 -/
abbrev mot_r_phase : Nat := 0x2C1A
/-- F32 RWT F, R270 -/
abbrev mot_l_phase : Nat := 0x2C1B
/-- F32 RWT F, R270 -/
abbrev mot_i_run : Nat := 0x2C1C
/-- F32 RWT F, R270 -/
abbrev mot_i_red : Nat := 0x2C1D
/-- F32 RWT F, R270 -/
abbrev mot_v_ratio : Nat := 0x2C1E
/-- F32 RWT F, R270 -/
abbrev mot_la_vmin : Nat := 0x2C1F
/-- U16 RWT F, R270 -/
abbrev mot_la_filter : Nat := 0x2C20
/-- F32 RO N, R270 -/
abbrev mot_load_angle : Nat := 0x2C21
/-- F32 RWT F, R270 -/
abbrev mot_la_limit : Nat := 0x2C22
/-- U16 RWT F, R270 -/
abbrev mot_la_time : Nat := 0x2C23
/-- F32 RWT F, R270 -/
abbrev mot_stall_angle : Nat := 0x2C24
/-- U16 RWT F, R270 -/
abbrev mot_stall_time : Nat := 0x2C25
/-- U8 RWT F, R270 -/
abbrev mot_stall_act : Nat := 0x2C26
/-- U32 RO N, R270 -/
abbrev mot_slips : Nat := 0x2C27
/-- U8 WO N, R270 -/
abbrev mot_ref_cmd : Nat := 0x2C28
/-- BOOL RWT F, R270 -/
abbrev mot_ref_auto : Nat := 0x2C29
/-- U8 RWT F, R270 -/
abbrev mot_ref_dir : Nat := 0x2C2A
/-- F32 RWT F, R270 -/
abbrev mot_ref_speed : Nat := 0x2C2B
/-- U32 RWT F, R270 -/
abbrev mot_ref_travel : Nat := 0x2C2C
/-- S64 RWT F, R270 -/
abbrev mot_stop_offset : Nat := 0x2C2D
/-- U32 RWT F, R270 -/
abbrev mot_ref_backoff : Nat := 0x2C2E
/-- U8 RO N, R270 -/
abbrev mot_ref_result : Nat := 0x2C2F
/-- S64 RO N, R271 -/
abbrev mot_enc_count : Nat := 0x2C40
/-- U32 RO N, R271 -/
abbrev mot_enc_err : Nat := 0x2C41
/-- U16 RWT F, R271 -/
abbrev mot_sw_filter : Nat := 0x2C42
/-- S64 RO N, R271 -/
abbrev mot_latch_count : Nat := 0x2C43
/-- TIME64 RO N, R271 -/
abbrev mot_latch_time : Nat := 0x2C44
/-- BOOL RO N, R271 -/
abbrev mot_latch_level : Nat := 0x2C45
/-- U32 RO N, R271 -/
abbrev mot_latch_seq : Nat := 0x2C46
/-- U8 RWT F, R271 -/
abbrev mot_ref_edge : Nat := 0x2C47
/-- S64 RWT F, R271 -/
abbrev mot_latch_pos : Nat := 0x2C48
/-- BOOL RWT F, R301 -/
abbrev lft_enable : Nat := 0x3000
/-- U8 RWM F, R301 -/
abbrev lft_landings : Nat := 0x3001
/-- U32 RWM F, R301 -/
abbrev lft_cpm : Nat := 0x3002
/-- U8 RO N, R301 -/
abbrev lft_state : Nat := 0x3003
/-- U8 RO N, R301 -/
abbrev lft_op_state : Nat := 0x3004
/-- F32 RO N, R301 -/
abbrev lft_pos : Nat := 0x3005
/-- F32 RO N, R301 -/
abbrev lft_speed : Nat := 0x3006
/-- U8 RO N, R301 -/
abbrev lft_landing : Nat := 0x3007
/-- U8 RO N, R301 -/
abbrev lft_dir : Nat := 0x3008
/-- U16 RO N, R301 -/
abbrev lft_status : Nat := 0x3009
/-- U8 RO N, R301 -/
abbrev lft_fault : Nat := 0x300A
/-- U8 WO N, R301 -/
abbrev lft_fault_reset : Nat := 0x300B
/-- BOOL RW M, R301 -/
abbrev lft_oos_req : Nat := 0x300C
/-- F32 RO N, R301 -/
abbrev lft_corr_last : Nat := 0x300D
/-- U32 RO N, R301 -/
abbrev lft_corr_count : Nat := 0x300E
/-- U16 RO N, R301 -/
abbrev lft_drive_fault : Nat := 0x300F
/-- OCT[8] WO N, R302 -/
abbrev lft_call : Nat := 0x3010
/-- OCT[16] RO M, R302 -/
abbrev lft_car_calls : Nat := 0x3011
/-- OCT[16] RO M, R302 -/
abbrev lft_hall_up : Nat := 0x3012
/-- OCT[16] RO M, R302 -/
abbrev lft_hall_dn : Nat := 0x3013
/-- SEQ64 RO M, R302 -/
abbrev lft_call_seq : Nat := 0x3014
/-- S64 RWM F, R302 -/
abbrev lft_land_pos : Nat := 0x3020
/-- S64 RWM F, R302 -/
abbrev lft_vane_lo : Nat := 0x3021
/-- S64 RWM F, R302 -/
abbrev lft_vane_hi : Nat := 0x3022
/-- S16 RWM F, R302 -/
abbrev lft_level_ofs : Nat := 0x3023
/-- U8 RWM F, R302 -/
abbrev lft_door_sides : Nat := 0x3024
/-- U8 WO N, R302 -/
abbrev lft_learn : Nat := 0x3025
/-- U8 RO F, R302 -/
abbrev lft_learn_result : Nat := 0x3026
/-- U8 RWT F, R302 -/
abbrev lft_fire_landing : Nat := 0x3027
/-- U8 RWT F, R302 -/
abbrev lft_park_landing : Nat := 0x3028
/-- U16 RWT F, R302 -/
abbrev lft_park_time : Nat := 0x3029
/-- F32 RWT F, R303 -/
abbrev lft_v_insp : Nat := 0x3030
/-- F32 RWT F, R303 -/
abbrev lft_v_relevel : Nat := 0x3031
/-- F32 RWT F, R303 -/
abbrev lft_v_corr : Nat := 0x3032
/-- F32 RWT F, R303 -/
abbrev lft_relevel : Nat := 0x3033
/-- F32 RWT F, R303 -/
abbrev lft_corr_max : Nat := 0x3034
/-- F32 RWT F, R303 -/
abbrev lft_follow_max : Nat := 0x3035
/-- U16 RWT F, R303 -/
abbrev lft_follow_time : Nat := 0x3036
/-- U16 RWT F, R303 -/
abbrev lft_mag_time : Nat := 0x3037
/-- U16 RWT F, R303 -/
abbrev lft_brake_time : Nat := 0x3038
/-- BOOL RWT F, R303 -/
abbrev lft_sref_enable : Nat := 0x3039
/-- F32 RWT F, R303 -/
abbrev lft_sref_scale : Nat := 0x303A
/-- OCT[6] RWT F, R303 -/
abbrev lft_drive_mac : Nat := 0x303B
/-- U32 RO N, R303 -/
abbrev lft_link_lost : Nat := 0x303C
/-- U32 RWT F, R303 -/
abbrev lft_sw_src : Nat := 0x3040
/-- OCT[18] RWT F, R303 -/
abbrev lft_pub_addr : Nat := 0x3048
/-- U16 RWT F, R303 -/
abbrev lft_pub_period : Nat := 0x3049
/-- U32 RWT F, R304 -/
abbrev lft_door_cpm : Nat := 0x3050
/-- S64 RWT F, R304 -/
abbrev lft_door_open_pos : Nat := 0x3051
/-- F32 RWT F, R304 -/
abbrev lft_door_mass : Nat := 0x3052
/-- F32 RWT F, R304 -/
abbrev lft_door_kf : Nat := 0x3053
/-- F32 RWT F, R304 -/
abbrev lft_door_fmax : Nat := 0x3054
/-- F32 RWT F, R304 -/
abbrev lft_door_v_close : Nat := 0x3055
/-- F32 RWT F, R304 -/
abbrev lft_door_v_nudge : Nat := 0x3056
/-- U8 RWT F, R304 -/
abbrev lft_door_lc : Nat := 0x3057
/-- F32 RWT F, R304 -/
abbrev lft_door_end_zone : Nat := 0x3058
/-- U16 RWT F, R304 -/
abbrev lft_door_dwell : Nat := 0x3059
/-- U16 RWT F, R304 -/
abbrev lft_reopen_dwell : Nat := 0x305A
/-- U16 RWT F, R304 -/
abbrev lft_nudge_time : Nat := 0x305B
/-- U8 RO N, R304 -/
abbrev lft_door_state : Nat := 0x305C
/-- F32 RO N, R304 -/
abbrev lft_door_force : Nat := 0x305D
/-- U32 RO N, R304 -/
abbrev lft_door_obstr : Nat := 0x305E
/-- U16 RO N, R331 -/
abbrev saf_state : Nat := 0x3400
/-- U16 RO N, R331 -/
abbrev saf_trip_cause : Nat := 0x3401
/-- U16 RO M, R331 -/
abbrev saf_trip_gen : Nat := 0x3402
/-- U16 WO N, R331 -/
abbrev saf_hold_exit : Nat := 0x3403
/-- U16 RO M, R331 -/
abbrev saf_latch_gen : Nat := 0x3404
/-- U16 WO N, R331 -/
abbrev saf_ack : Nat := 0x3405
/-- U16 WO N, R331 -/
abbrev saf_ucm_ack : Nat := 0x3406
/-- U32 RO N, R331 -/
abbrev saf_cfg_crc : Nat := 0x3407
/-- U32 RW F, R331 -/
abbrev saf_cfg_expect : Nat := 0x3408
/-- U16 RWM F, R331 -/
abbrev saf_skew : Nat := 0x3409
/-- U8 RWM F, R332 -/
abbrev saf_in_kind : Nat := 0x3410
/-- U8 RWM F, R332 -/
abbrev saf_in_type : Nat := 0x3411
/-- BOOL RWM F, R332 -/
abbrev saf_in_tp : Nat := 0x3412
/-- U16 RWM F, R332 -/
abbrev saf_in_filter : Nat := 0x3413
/-- U16 RWM F, R332 -/
abbrev saf_in_disc : Nat := 0x3414
/-- U8 RWM F, R332 -/
abbrev saf_in_restart : Nat := 0x3415
/-- U8 RWM F, R332 -/
abbrev saf_in_reset : Nat := 0x3416
/-- BOOL RWM F, R332 -/
abbrev saf_in_trip : Nat := 0x3417
/-- F32 RWM F, R332 -/
abbrev saf_speed_ppm : Nat := 0x3418
/-- BOOL RO N, R332 -/
abbrev saf_in_result : Nat := 0x3419
/-- U8 RO N, R332 -/
abbrev saf_in_status : Nat := 0x341A
/-- F32 RO N, R332 -/
abbrev saf_speed : Nat := 0x341B
/-- U32 RO N, R332 -/
abbrev saf_in_faults : Nat := 0x341C
/-- U8 RO M, R332 -/
abbrev saf_in_latch : Nat := 0x341D
/-- U8 RWM F, R333 -/
abbrev saf_out_kind : Nat := 0x3440
/-- OCT[16] RWM F, R333 -/
abbrev saf_out_mask : Nat := 0x3441
/-- BOOL RW N, R333 -/
abbrev saf_out_req : Nat := 0x3442
/-- U16 RWM F, R333 -/
abbrev saf_tp_period : Nat := 0x3443
/-- U8 RWM F, R333 -/
abbrev saf_edm_in : Nat := 0x3444
/-- U16 RWM F, R333 -/
abbrev saf_edm_time : Nat := 0x3445
/-- U8 RO N, R333 -/
abbrev saf_out_state : Nat := 0x3446
/-- U8 RO M, R333 -/
abbrev saf_out_fault : Nat := 0x3447
/-- BOOL RO N, R333 -/
abbrev saf_edm_level : Nat := 0x3448
/-- U32 RO N, R333 -/
abbrev saf_out_faults : Nat := 0x3449
/-- U8 RWM F, R334 -/
abbrev saf_mac_dir : Nat := 0x3480
/-- U16 RWM F, R334 -/
abbrev saf_mac_id : Nat := 0x3481
/-- OCT[6] RWM F, R334 -/
abbrev saf_mac_peer : Nat := 0x3482
/-- U8 RWM F, R334 -/
abbrev saf_mac_len : Nat := 0x3483
/-- U16 RWM F, R334 -/
abbrev saf_mac_period : Nat := 0x3484
/-- U16 RWM F, R334 -/
abbrev saf_mac_wd : Nat := 0x3485
/-- U8 RWM F, R334 -/
abbrev saf_mac_restart : Nat := 0x3486
/-- U8 RWM F, R334 -/
abbrev saf_prod_sig : Nat := 0x3487
/-- U16 RWM F, R334 -/
abbrev saf_rsig_src : Nat := 0x3488
/-- U8 RO N, R334 -/
abbrev saf_mac_state : Nat := 0x3489
/-- U32 RO N, R334 -/
abbrev saf_mac_seq : Nat := 0x348A
/-- U32 RO N, R334 -/
abbrev saf_mac_rx : Nat := 0x348B
/-- U32 RO N, R334 -/
abbrev saf_mac_missing : Nat := 0x348C
/-- U32 RO N, R334 -/
abbrev saf_mac_crc_err : Nat := 0x348D
/-- U32 RO N, R334 -/
abbrev saf_mac_gap : Nat := 0x348E
/-- BOOL RO M, R334 -/
abbrev saf_mac_latch : Nat := 0x348F
/-- U8 RWM F, R334 -/
abbrev saf_lift_pair : Nat := 0x34C0
/-- U8 RO N, R349 -/
abbrev prg_state : Nat := 0x3800
/-- BOOL RW F, R349 -/
abbrev prg_run : Nat := 0x3801
/-- U32 RW F, R349 -/
abbrev prg_max_cycle : Nat := 0x3802
/-- U32 RW F, R349 -/
abbrev prg_min_cycle : Nat := 0x3803
/-- U16 RW F, R349 -/
abbrev prg_overrun_limit : Nat := 0x3804
/-- U8 RO F, R349 -/
abbrev prg_tenant : Nat := 0x3805
/-- U32 RO F, R349 -/
abbrev prg_image_crc : Nat := 0x3806
/-- OCT[8] RO F, R349 -/
abbrev prg_build : Nat := 0x3807
/-- OCT[8] WO N, R349 -/
abbrev prg_exchange : Nat := 0x3808
/-- SEQ64 RO M, R349 -/
abbrev prg_stamp : Nat := 0x3809
/-- U16 RO N, R349 -/
abbrev prg_status : Nat := 0x380A
/-- U64 RO N, R349 -/
abbrev prg_cycles : Nat := 0x380B
/-- U32 RO N, R349 -/
abbrev prg_overruns : Nat := 0x380C
/-- U32 RO N, R349 -/
abbrev prg_cycle_last : Nat := 0x380D
/-- U32 RO N, R349 -/
abbrev prg_cycle_max : Nat := 0x380E
/-- U32 RO N, R349 -/
abbrev prg_interval_max : Nat := 0x380F
/-- U8 RO N, R349 -/
abbrev prg_fault : Nat := 0x3810
/-- U32 RO N, R349 -/
abbrev prg_out_refused : Nat := 0x3811
/-- OCT[1024] RW N, R349 -/
abbrev prg_stage_data : Nat := 0x3820
/-- U32 RW N, R349 -/
abbrev prg_stage_len : Nat := 0x3821
/-- U8 WO N, R349 -/
abbrev prg_stage_check : Nat := 0x3822
/-- U8 RO F, R349 -/
abbrev prg_stage_state : Nat := 0x3823
/-- U8 RO F, R349 -/
abbrev prg_stage_result : Nat := 0x3824
/-- U32 RO F, R349 -/
abbrev prg_stage_crc : Nat := 0x3825
/-- U16 RO N, R349 -/
abbrev prg_x_carried : Nat := 0x3830
/-- U16 RO N, R349 -/
abbrev prg_x_new : Nat := 0x3831
/-- U16 RO N, R349 -/
abbrev prg_x_removed : Nat := 0x3832
/-- U16 RO N, R349 -/
abbrev prg_x_changed : Nat := 0x3833
/-- U32 RO N, R349 -/
abbrev prg_x_removed_id : Nat := 0x3834
/-- U8 RO N, R349 -/
abbrev prg_rt_share : Nat := 0x3840
/-- U32 RO N, R349 -/
abbrev prg_takeovers : Nat := 0x3841
/-- Index of point 0; point n is at 0x4000 + n (R5, R80). -/
abbrev od_point : Nat := 0x4000
end Od

end Sys2Proof.Machine
end

