-- ==== Sys2Proof/Machine/Catalogue.lean ====
section
/-!
DEFINITION. The object dictionary as the entry tables of the manual give it (R5, R7, R8, R10, R12 and the entry table of each chapter):
one row per entry, in the tables' own columns, generated from the tables of spec/.
-/
namespace Sys2Proof.Machine

/-- Entries of page 0x1000, part 0. -/
def cat10_0 : List EntryDef := [
  ⟨0x1000, .u8, .ro, .F, 1, 1, 0, 0, .any⟩,
  ⟨0x1001, .u8, .ro, .N, 1, 1, 0, 0, .any⟩,
  ⟨0x1002, .u8, .rw, .N, 1, 1, 0, 255, .oneOf [(1, 1), (2, 2), (4, 4), (5, 5), (6, 6)]⟩,
  ⟨0x1003, .u8, .ro, .M, 1, 1, 0, 15, .any⟩,
  ⟨0x1004, .u8, .wo, .N, 1, 1, 0, 0, .nat 1 2⟩,
  ⟨0x1005, .u8, .ro, .N, 1, 1, 0, 0, .any⟩,
  ⟨0x1006, .u32, .ro, .M, 6, 6, 0, 0, .any⟩,
  ⟨0x1007, .u16, .ro, .N, 1, 1, 0, 0, .any⟩,
  ⟨0x1008, .u8, .rw, .F, 1, 0, 0, 15, .nat 1 15⟩,
  ⟨0x1009, .u8, .ro, .N, 1, 0, 0, 0, .any⟩,
  ⟨0x100A, .time64, .rw, .M, 1, 0, 0, 0, .any⟩,
  ⟨0x100B, .u16, .rwm, .F, 1, 1, 0, 100, .nat 10 1000⟩,
  ⟨0x100C, .u16, .rw, .F, 1, 1, 0, 2000, .nat 100 10000⟩,
  ⟨0x100D, .u32, .ro, .N, 1, 1, 0, 0, .any⟩,
  ⟨0x1010, .u16, .ro, .N, 1, 1, 0, 0, .any⟩,
  ⟨0x1011, .u32, .ro, .N, 1, 1, 0, 0, .any⟩,
  ⟨0x1012, .u8, .ro, .N, 1, 1, 0, 0, .any⟩,
  ⟨0x1013, .u16, .ro, .N, 2, 2, 0, 0, .any⟩,
  ⟨0x1014, .u16, .ro, .N, 2, 2, 0, 0, .any⟩,
  ⟨0x1015, .u16, .ro, .N, 2, 2, 0, 0, .any⟩,
  ⟨0x1016, .u8, .rwm, .N, 1, 1, 0, 0, .oneOf [(1, 1)]⟩,
  ⟨0x1017, .u16, .ro, .N, 1, 1, 0, 0, .any⟩,
  ⟨0x1018, .s16, .ro, .N, 1, 1, 0, 0, .any⟩,
  ⟨0x1019, .s16, .ro, .N, 1, 1, 0, 0, .any⟩,
  ⟨0x101A, .s16, .ro, .M, 1, 1, 0, 65136, .any⟩,
  ⟨0x101B, .u32, .ro, .M, 1, 1, 0, 0, .any⟩,
  ⟨0x101C, .u8, .ro, .N, 1, 1, 0, 0, .any⟩,
  ⟨0x101D, (.str 16), .ro, .F, 1, 1, 0, 0, .any⟩,
  ⟨0x1040, .u32, .ro, .N, 1, 1, 0, 0, .any⟩,
  ⟨0x1041, .u64, .ro, .N, 15, 15, 0, 0, .any⟩]

/-- Entries of page 0x1000, part 1. -/
def cat10_1 : List EntryDef := [
  ⟨0x1042, .u32, .ro, .N, 15, 15, 0, 0, .any⟩,
  ⟨0x1043, .u32, .ro, .M, 1, 1, 0, 0, .any⟩,
  ⟨0x1044, .u32, .ro, .M, 1, 1, 0, 0, .any⟩,
  ⟨0x1045, .u32, .ro, .M, 1, 1, 0, 4096, .any⟩,
  ⟨0x1046, .u8, .ro, .N, 1, 1, 0, 0, .any⟩,
  ⟨0x1047, .u8, .ro, .N, 7, 7, 0, 0, .any⟩,
  ⟨0x1048, .u8, .ro, .N, 1, 1, 0, 0, .any⟩,
  ⟨0x1049, .u8, .rwm, .N, 1, 1, 0, 0, .nat 6 15⟩,
  ⟨0x104A, .u8, .ro, .N, 1, 1, 0, 0, .any⟩,
  ⟨0x104B, .u8, .ro, .N, 1, 1, 0, 0, .any⟩,
  ⟨0x104C, .u32, .ro, .N, 1, 1, 0, 0, .any⟩,
  ⟨0x104D, .u32, .ro, .N, 1, 1, 0, 0, .any⟩,
  ⟨0x1060, .u32, .rwt, .F, 8192, 2048, 0, 0, .nat 0 86400⟩,
  ⟨0x1061, (.oct 24), .wo, .N, 1, 1, 0, 0, .any⟩,
  ⟨0x1062, .u8, .ro, .N, 1, 1, 0, 0, .any⟩,
  ⟨0x1063, .u16, .ro, .N, 1, 1, 0, 0, .any⟩,
  ⟨0x1064, .time64, .ro, .N, 1, 1, 0, 0, .any⟩,
  ⟨0x1065, .u8, .ro, .N, 1, 1, 0, 0, .any⟩,
  ⟨0x1080, .u16, .ro, .F, 1, 1, 0, 10880, .any⟩,
  ⟨0x1081, (.oct 8), .ro, .F, 1, 1, 0, 0, .any⟩,
  ⟨0x1082, .u16, .rw, .F, 1, 1, 0, 47808, .oneOf [(1, 23711), (23713, 65535)]⟩,
  ⟨0x1083, .u32, .rw, .F, 1, 1, 0, 4194303, .nat 0 4194303⟩,
  ⟨0x1084, (.oct 18), .rw, .F, 1, 1, 0, 0, .any⟩,
  ⟨0x1085, .u16, .ro, .N, 1, 1, 0, 0, .any⟩,
  ⟨0x1086, .u32, .ro, .N, 7, 7, 0, 0, .any⟩,
  ⟨0x1087, .u32, .ro, .N, 1, 1, 0, 0, .any⟩,
  ⟨0x1088, .u32, .ro, .N, 1, 1, 0, 0, .any⟩]

/-- Entries of page 0x1100, part 0. -/
def cat11_0 : List EntryDef := [
  ⟨0x1100, .u8, .ro, .N, 2, 2, 0, 0, .any⟩,
  ⟨0x1101, .u16, .ro, .N, 2, 2, 0, 0, .any⟩,
  ⟨0x1102, .u16, .rw, .F, 2, 2, 0, 10000, .oneOf [(100, 100), (1000, 1000), (2500, 2500), (5000, 5000), (10000, 10000)]⟩,
  ⟨0x1103, .u8, .rwm, .F, 1, 1, 0, 1, .nat 0 1⟩,
  ⟨0x1104, (.oct 6), .ro, .F, 2, 2, 0, 0, .any⟩,
  ⟨0x1105, .u8, .rwt, .F, 1, 1, 0, 9, .hook⟩,
  ⟨0x1106, (.oct 17), .rwt, .F, 2, 2, 0, 0, .hook⟩,
  ⟨0x1107, (.oct 5), .rwt, .F, 2, 2, 0, 0, .hook⟩,
  ⟨0x1108, (.oct 4), .rwt, .F, 2, 2, 0, 0, .any⟩,
  ⟨0x1109, (.oct 18), .ro, .N, 8, 8, 0, 0, .any⟩,
  ⟨0x110A, .u32, .ro, .N, 2, 2, 0, 0, .any⟩,
  ⟨0x110B, .u32, .ro, .N, 2, 2, 0, 0, .any⟩,
  ⟨0x1110, .u16, .rw, .F, 2, 2, 0, 512, .nat 64 2048⟩,
  ⟨0x1111, .u16, .ro, .M, 2, 2, 0, 512, .any⟩,
  ⟨0x1112, .u8, .rw, .F, 8, 8, 0, 0, .nat 0 4⟩,
  ⟨0x1113, .u8, .rw, .F, 4, 4, 0, 0, .nat 0 4⟩,
  ⟨0x1114, .u16, .rwt, .F, 16, 16, 8, 256, .nat 16 1024⟩,
  ⟨0x1115, .u64, .ro, .N, 16, 16, 8, 0, .any⟩,
  ⟨0x1116, .u64, .ro, .N, 16, 16, 8, 0, .any⟩,
  ⟨0x1117, .u32, .ro, .M, 2, 2, 0, 0, .any⟩,
  ⟨0x1120, .u16, .rwt, .F, 1, 1, 0, 2000, .nat 100 10000⟩,
  ⟨0x1121, .u16, .rwt, .F, 1, 1, 0, 400, .nat 10 10000⟩,
  ⟨0x1122, .u16, .rwt, .F, 1, 1, 0, 6000, .nat 1000 60000⟩,
  ⟨0x1123, .u64, .ro, .N, 2, 2, 0, 0, .any⟩,
  ⟨0x1124, .u32, .ro, .N, 2, 2, 0, 0, .any⟩,
  ⟨0x1125, .u64, .ro, .N, 1, 1, 0, 0, .any⟩,
  ⟨0x1126, .u32, .ro, .N, 2, 2, 0, 0, .any⟩,
  ⟨0x1127, .u16, .ro, .N, 1, 1, 0, 0, .any⟩,
  ⟨0x1128, .u16, .ro, .N, 1, 1, 0, 0, .any⟩,
  ⟨0x1129, .u32, .ro, .N, 1, 1, 0, 0, .any⟩]

/-- Entries of page 0x1100, part 1. -/
def cat11_1 : List EntryDef := [
  ⟨0x1130, .u8, .rwt, .F, 1, 1, 0, 1, .nat 0 3⟩,
  ⟨0x1131, .u8, .rwt, .F, 1, 1, 0, 0, .nat 0 127⟩,
  ⟨0x1132, .u8, .rwt, .F, 1, 1, 0, 0, .nat 0 2⟩,
  ⟨0x1133, .u8, .ro, .N, 1, 1, 0, 0, .any⟩,
  ⟨0x1134, .u8, .ro, .N, 1, 1, 0, 255, .any⟩,
  ⟨0x1135, .s32, .ro, .N, 2, 2, 0, 0, .any⟩,
  ⟨0x1136, .u32, .ro, .N, 2, 2, 0, 0, .any⟩,
  ⟨0x1137, (.oct 8), .ro, .N, 1, 1, 0, 0, .any⟩,
  ⟨0x1140, .u8, .rwt, .F, 1, 1, 0, 0, .nat 0 4⟩,
  ⟨0x1141, .u8, .rwt, .F, 1, 1, 0, 0, .nat 0 63⟩,
  ⟨0x1142, .u32, .rwt, .F, 1, 1, 0, 0, .nat 0 1024⟩,
  ⟨0x1143, .u8, .ro, .N, 2, 2, 0, 0, .any⟩,
  ⟨0x1144, .u32, .ro, .N, 2, 2, 0, 0, .any⟩,
  ⟨0x1150, (.oct 16), .rwt, .F, 64, 0, 32, 0, .any⟩,
  ⟨0x1151, .u16, .rwt, .F, 64, 0, 32, 0, .any⟩,
  ⟨0x1152, .u16, .ro, .N, 1, 0, 0, 65535, .any⟩,
  ⟨0x1160, .bool, .rw, .F, 1, 1, 0, 1, .nat 0 1⟩,
  ⟨0x1161, .u32, .ro, .N, 2, 2, 0, 0, .any⟩,
  ⟨0x1162, .u32, .ro, .N, 2, 2, 0, 0, .any⟩,
  ⟨0x1180, .u8, .ro, .N, 2, 2, 0, 0, .any⟩,
  ⟨0x1181, (.str 64), .rwt, .F, 1, 1, 0, 0, .utf8⟩,
  ⟨0x1182, .u8, .rwt, .F, 1, 1, 0, 255, .oneOf [(1, 63), (255, 255)]⟩,
  ⟨0x1183, (.oct 128), .rwt, .F, 16, 16, 0, 0, .any⟩,
  ⟨0x1184, .u16, .rwt, .F, 1, 1, 0, 0, .nat 0 2048⟩,
  ⟨0x1185, .u32, .ro, .N, 2, 2, 0, 0, .any⟩]

/-- Entries of page 0x1200, part 0. -/
def cat12_0 : List EntryDef := [
  ⟨0x1200, .bool, .rw, .F, 16, 8, 0, 1, .nat 0 1⟩,
  ⟨0x1201, .u8, .rwt, .F, 16, 8, 0, 0, .nat 0 2⟩,
  ⟨0x1202, .u8, .rw, .F, 16, 8, 0, 0, .nat 0 2⟩,
  ⟨0x1203, .u8, .ro, .N, 16, 8, 0, 0, .any⟩,
  ⟨0x1204, .u16, .ro, .N, 16, 8, 0, 0, .any⟩,
  ⟨0x1205, .u32, .ro, .N, 16, 8, 0, 0, .any⟩,
  ⟨0x1210, .u16, .rwt, .F, 24, 24, 0, 1, .nat 1 4094⟩,
  ⟨0x1211, .u8, .rwt, .F, 24, 24, 0, 0, .nat 0 7⟩,
  ⟨0x1212, .u16, .rw, .F, 24, 24, 0, 500, .nat 0 10000⟩,
  ⟨0x1213, .u32, .ro, .N, 24, 24, 0, 0, .any⟩,
  ⟨0x1214, .u32, .ro, .N, 24, 24, 0, 0, .any⟩,
  ⟨0x1215, .u32, .ro, .N, 24, 24, 0, 0, .any⟩,
  ⟨0x1216, .u64, .ro, .N, 24, 24, 0, 0, .any⟩,
  ⟨0x1217, .u64, .ro, .N, 24, 24, 0, 0, .any⟩,
  ⟨0x1220, .u16, .rwt, .F, 1, 1, 0, 0, .nat 0 4000⟩,
  ⟨0x1221, .u8, .rwt, .F, 1, 1, 0, 90, .nat 50 100⟩,
  ⟨0x1222, .bool, .rwt, .F, 16, 8, 0, 0, .nat 0 1⟩,
  ⟨0x1223, .u8, .rwt, .F, 16, 8, 0, 2, .nat 0 3⟩,
  ⟨0x1224, .u8, .rwt, .F, 16, 8, 0, 15, .nat 10 15⟩,
  ⟨0x1225, .u8, .ro, .N, 16, 8, 0, 0, .any⟩,
  ⟨0x1226, .u8, .ro, .N, 16, 8, 0, 0, .any⟩,
  ⟨0x1227, .u16, .ro, .N, 16, 8, 0, 0, .any⟩,
  ⟨0x1228, .u16, .ro, .N, 16, 8, 0, 0, .any⟩,
  ⟨0x1229, .u16, .ro, .N, 1, 1, 0, 0, .any⟩,
  ⟨0x122A, .u16, .ro, .N, 1, 1, 0, 0, .any⟩,
  ⟨0x122B, .u16, .ro, .N, 1, 1, 0, 0, .any⟩,
  ⟨0x122C, .u32, .ro, .N, 16, 8, 0, 0, .any⟩,
  ⟨0x122D, .u8, .wo, .N, 1, 1, 0, 0, .nat 0 15⟩,
  ⟨0x1240, .bool, .rw, .F, 8, 4, 0, 1, .nat 0 1⟩,
  ⟨0x1241, .u8, .rwt, .F, 8, 4, 0, 8, .nat 2 16⟩]

/-- Entries of page 0x1200, part 1. -/
def cat12_1 : List EntryDef := [
  ⟨0x1242, .u8, .rwt, .F, 8, 4, 0, 3, .any⟩,
  ⟨0x1243, .u8, .rwt, .F, 8, 4, 0, 128, .any⟩,
  ⟨0x1244, .u16, .ro, .N, 8, 4, 0, 1, .any⟩,
  ⟨0x1245, .u8, .ro, .N, 8, 4, 0, 0, .any⟩,
  ⟨0x1246, .u32, .ro, .N, 8, 4, 0, 0, .any⟩,
  ⟨0x1247, .u32, .ro, .N, 8, 4, 0, 0, .any⟩,
  ⟨0x1248, .u32, .ro, .N, 8, 4, 0, 0, .any⟩,
  ⟨0x1249, .u16, .ro, .N, 8, 4, 0, 0, .any⟩,
  ⟨0x1260, .u8, .rwt, .F, 4, 2, 0, 0, .nat 0 2⟩,
  ⟨0x1261, .u32, .rwt, .F, 4, 2, 0, 38400, .oneOf [(9600, 9600), (19200, 19200), (38400, 38400), (57600, 57600), (76800, 76800), (115200, 115200)]⟩,
  ⟨0x1262, .u8, .rwt, .F, 4, 2, 0, 0, .mask 3⟩,
  ⟨0x1263, .u8, .rwt, .F, 4, 2, 0, 0, .nat 0 3⟩,
  ⟨0x1264, .u8, .ro, .N, 4, 2, 0, 0, .any⟩,
  ⟨0x1265, .u32, .ro, .N, 4, 2, 0, 0, .any⟩,
  ⟨0x1270, .u8, .rwt, .F, 4, 2, 0, 0, .nat 0 127⟩,
  ⟨0x1271, .u8, .rwt, .F, 4, 2, 0, 127, .nat 1 127⟩,
  ⟨0x1272, .u8, .rwt, .F, 4, 2, 0, 4, .nat 1 255⟩,
  ⟨0x1273, (.oct 16), .ro, .N, 4, 2, 0, 0, .any⟩,
  ⟨0x1274, .u32, .ro, .N, 4, 2, 0, 0, .any⟩,
  ⟨0x1275, .u32, .ro, .N, 4, 2, 0, 0, .any⟩,
  ⟨0x1280, (.oct 12), .rwt, .F, 1024, 512, 256, 0, .any⟩,
  ⟨0x1281, .f32, .ro, .N, 1024, 512, 256, 2143289344, .any⟩,
  ⟨0x1282, .f32, .rw, .N, 1024, 512, 256, 2143289344, .f32nan⟩,
  ⟨0x1283, .u16, .ro, .N, 1024, 512, 256, 0, .any⟩,
  ⟨0x1284, .u16, .rwt, .F, 4, 2, 0, 200, .nat 10 2000⟩,
  ⟨0x1285, .u8, .rwt, .F, 4, 2, 0, 2, .nat 0 5⟩,
  ⟨0x1286, .u32, .ro, .N, 4, 2, 0, 0, .any⟩]

/-- Entries of page 0x1300, part 0. -/
def cat13_0 : List EntryDef := [
  ⟨0x1300, .u8, .rwt, .F, 256, 256, 0, 0, .nat 0 6⟩,
  ⟨0x1301, .u16, .rwt, .F, 256, 256, 0, 0, .nat 0 15⟩,
  ⟨0x1302, .u16, .rwt, .F, 256, 256, 0, 65535, .oneOf [(0, 4094), (65535, 65535)]⟩,
  ⟨0x1303, (.oct 17), .rwt, .F, 256, 256, 0, 0, .any⟩,
  ⟨0x1304, .u8, .rwt, .F, 256, 256, 0, 255, .oneOf [(0, 127), (255, 255)]⟩,
  ⟨0x1305, .u8, .rwt, .F, 256, 256, 0, 0, .nat 0 63⟩,
  ⟨0x1306, .u64, .ro, .N, 256, 256, 0, 0, .any⟩,
  ⟨0x1320, (.str 32), .rwt, .F, 64, 64, 0, 0, .utf8⟩,
  ⟨0x1321, .u16, .rwt, .F, 64, 64, 0, 0, .mask 0x00FF⟩,
  ⟨0x1322, .u16, .rwt, .F, 2048, 2048, 32, 0, .any⟩,
  ⟨0x1323, .u16, .rwt, .F, 2048, 2048, 32, 0, .any⟩,
  ⟨0x1324, .u8, .rwt, .F, 2048, 2048, 32, 0, .mask 3⟩,
  ⟨0x1340, .u8, .rwt, .F, 8192, 2048, 0, 0, .nat 0 9⟩,
  ⟨0x1341, .u32, .rwt, .F, 8192, 2048, 0, 0, .nat 0 4194302⟩,
  ⟨0x1342, .u32, .rwt, .F, 8192, 2048, 0, 0, .any⟩,
  ⟨0x1343, .u16, .rwt, .F, 8192, 2048, 0, 95, .any⟩,
  ⟨0x1344, (.str 32), .rwt, .F, 8192, 2048, 0, 0, .utf8⟩,
  ⟨0x1345, .f32, .rwt, .F, 8192, 2048, 0, 0, .f32ge0⟩,
  ⟨0x1346, .u8, .ro, .N, 8192, 2048, 0, 0, .any⟩]

/-- Entries of page 0x1400, part 0. -/
def cat14_0 : List EntryDef := [
  ⟨0x1400, .u16, .rw, .F, 1, 1, 0, 60, .nat 1 3600⟩,
  ⟨0x1401, .u8, .wo, .N, 1, 1, 0, 0, .oneOf [(1, 1)]⟩,
  ⟨0x1402, .u8, .wo, .N, 1, 1, 0, 0, .oneOf [(1, 1)]⟩,
  ⟨0x1403, .u8, .wo, .N, 1, 1, 0, 0, .oneOf [(1, 1)]⟩,
  ⟨0x1404, .u8, .ro, .N, 1, 1, 0, 0, .any⟩,
  ⟨0x1405, .u8, .ro, .N, 8, 8, 0, 0, .any⟩,
  ⟨0x1406, (.oct 5), .ro, .N, 8, 8, 0, 0, .any⟩,
  ⟨0x1407, .u16, .ro, .N, 8, 8, 0, 0, .any⟩,
  ⟨0x1408, .u16, .ro, .N, 8, 8, 0, 0, .any⟩,
  ⟨0x1409, .u32, .ro, .N, 8, 8, 0, 0, .any⟩,
  ⟨0x140A, (.oct 16), .ro, .M, 32, 32, 0, 0, .any⟩,
  ⟨0x1410, .seq64, .ro, .M, 1, 1, 0, 1, .any⟩,
  ⟨0x1411, .seq64, .ro, .M, 1, 1, 0, 0, .any⟩,
  ⟨0x1412, .u16, .ro, .N, 1, 1, 0, 0, .any⟩,
  ⟨0x1413, .u16, .ro, .N, 1, 1, 0, 63488, .any⟩,
  ⟨0x1414, .seq64, .ro, .N, 1, 1, 0, 0, .any⟩,
  ⟨0x1415, .u16, .ro, .N, 1, 1, 0, 0, .any⟩,
  ⟨0x1416, .u16, .ro, .N, 1, 1, 0, 0, .any⟩,
  ⟨0x1417, .u32, .ro, .M, 1, 1, 0, 0, .any⟩,
  ⟨0x1418, .u32, .ro, .N, 1, 1, 0, 0, .any⟩,
  ⟨0x1419, .u32, .ro, .N, 1, 1, 0, 0, .any⟩,
  ⟨0x141A, .u32, .ro, .N, 1, 1, 0, 0, .any⟩,
  ⟨0x141B, .u32, .ro, .N, 1, 1, 0, 0, .any⟩,
  ⟨0x141C, .u32, .ro, .N, 1, 1, 0, 0, .any⟩]

/-- Entries of page 0x1500, part 0. -/
def cat15_0 : List EntryDef := [
  ⟨0x1500, .u64, .rw, .B, 1, 1, 0, 0, .nat 0 12622780799⟩,
  ⟨0x1501, .u16, .ro, .B, 1, 1, 0, 0, .any⟩,
  ⟨0x1502, (.oct 8), .rw, .B, 1, 1, 0, 562951057227907078, .any⟩,
  ⟨0x1503, .time64, .ro, .N, 1, 1, 0, 0, .any⟩,
  ⟨0x1504, .s16, .rw, .B, 1, 1, 0, 37, .nat 0 1000⟩,
  ⟨0x1505, .s16, .rw, .B, 1, 1, 0, 0, .int (-32767) (32767)⟩,
  ⟨0x1506, .u8, .ro, .N, 1, 1, 0, 0, .any⟩,
  ⟨0x1507, .bool, .ro, .B, 1, 1, 0, 0, .any⟩,
  ⟨0x1508, .bool, .ro, .B, 1, 1, 0, 0, .any⟩,
  ⟨0x1509, .u16, .ro, .N, 1, 1, 0, 0, .any⟩,
  ⟨0x150A, .bool, .rw, .F, 1, 1, 0, 1, .nat 0 1⟩,
  ⟨0x150B, .u16, .rw, .F, 1, 1, 0, 2, .nat 1 3600⟩,
  ⟨0x150C, .s32, .ro, .N, 1, 1, 0, 0, .any⟩,
  ⟨0x150D, .u32, .ro, .M, 1, 1, 0, 0, .any⟩,
  ⟨0x1510, (.oct 8), .rw, .B, 8, 8, 0, 0, .any⟩]

/-- Entries of page 0x1600, part 0. -/
def cat16_0 : List EntryDef := [
  ⟨0x1600, .u8, .wo, .N, 1, 1, 0, 0, .oneOf [(1, 1)]⟩,
  ⟨0x1601, .u8, .ro, .M, 1, 1, 0, 32, .any⟩,
  ⟨0x1602, .u32, .ro, .M, 2, 2, 0, 0, .any⟩,
  ⟨0x1603, .u8, .ro, .N, 1, 1, 0, 0, .any⟩,
  ⟨0x1604, .u64, .ro, .M, 1, 1, 0, 0, .any⟩,
  ⟨0x1605, .time64, .ro, .M, 1, 1, 0, 0, .any⟩,
  ⟨0x1606, .u8, .ro, .M, 1, 1, 0, 0, .any⟩,
  ⟨0x1607, .u8, .ro, .N, 2, 2, 0, 0, .any⟩,
  ⟨0x1608, .u32, .ro, .M, 2, 2, 0, 0, .any⟩,
  ⟨0x1609, .u8, .ro, .N, 2, 2, 0, 0, .any⟩,
  ⟨0x160A, .u16, .ro, .N, 1, 1, 0, 0, .any⟩,
  ⟨0x160B, .u32, .ro, .M, 1, 1, 0, 0, .any⟩,
  ⟨0x160C, .bool, .ro, .M, 1, 1, 0, 0, .any⟩,
  ⟨0x160D, .bool, .ro, .M, 1, 1, 0, 0, .any⟩,
  ⟨0x1610, (.oct 32), .rw, .M, 3584, 3584, 0, 0, .any⟩]

/-- Entries of page 0x1700, part 0. -/
def cat17_0 : List EntryDef := [
  ⟨0x1700, .seq64, .ro, .M, 1, 1, 0, 0, .any⟩,
  ⟨0x1701, .seq64, .ro, .M, 1, 1, 0, 0, .any⟩,
  ⟨0x1702, .u16, .ro, .N, 1, 1, 0, 0, .any⟩,
  ⟨0x1703, .u16, .ro, .M, 1, 1, 0, 0, .any⟩,
  ⟨0x1704, .u32, .ro, .M, 1, 1, 0, 0, .any⟩,
  ⟨0x1705, .seq64, .wo, .N, 1, 1, 0, 0, .any⟩,
  ⟨0x1706, .seq64, .ro, .M, 1, 1, 0, 0, .any⟩,
  ⟨0x1710, (.oct 16), .rw, .N, 8, 8, 0, 0, .any⟩,
  ⟨0x1711, (.oct 32), .ro, .N, 8, 8, 0, 0, .any⟩,
  ⟨0x1712, (.oct 32), .ro, .N, 256, 256, 32, 0, .any⟩,
  ⟨0x1713, (.oct 5), .ro, .N, 8, 8, 0, 0, .any⟩,
  ⟨0x1720, (.oct 16), .wo, .N, 1, 1, 0, 0, .any⟩,
  ⟨0x1721, .u8, .ro, .N, 1, 1, 0, 0, .any⟩,
  ⟨0x1722, .u16, .ro, .N, 1, 1, 0, 0, .any⟩]

/-- Entries of page 0x1800, part 0. -/
def cat18_0 : List EntryDef := [
  ⟨0x1800, .u8, .ro, .F, 1, 1, 0, 0, .any⟩,
  ⟨0x1801, .u32, .ro, .F, 1, 1, 0, 0, .any⟩,
  ⟨0x1802, .u32, .wo, .N, 1, 1, 0, 0, .any⟩,
  ⟨0x1803, (.oct 1024), .rw, .N, 64, 64, 0, 0, .any⟩,
  ⟨0x1804, (.oct 16), .wo, .N, 1, 1, 0, 0, .any⟩,
  ⟨0x1805, (.oct 120), .ro, .F, 1, 1, 0, 0, .any⟩,
  ⟨0x1806, .u16, .ro, .F, 1, 1, 0, 0, .any⟩,
  ⟨0x1807, .u8, .wo, .N, 1, 1, 0, 0, .oneOf [(1, 1)]⟩,
  ⟨0x1808, .u8, .ro, .F, 1, 1, 0, 0, .any⟩,
  ⟨0x1809, .u32, .ro, .F, 1, 1, 0, 0, .any⟩,
  ⟨0x180A, .u32, .ro, .F, 1, 1, 0, 0, .any⟩,
  ⟨0x180B, (.oct 8), .ro, .F, 1, 1, 0, 0, .any⟩,
  ⟨0x180C, .u32, .wo, .N, 1, 1, 0, 0, .any⟩,
  ⟨0x180D, .u32, .wo, .N, 1, 1, 0, 0, .any⟩,
  ⟨0x180E, .u32, .rw, .F, 1, 1, 0, 600, .nat 60 86400⟩,
  ⟨0x180F, .u32, .ro, .M, 1, 1, 0, 0, .any⟩,
  ⟨0x1810, .u8, .ro, .F, 2, 2, 0, 0, .any⟩,
  ⟨0x1811, .u32, .ro, .F, 2, 2, 0, 0, .any⟩,
  ⟨0x1812, .u32, .ro, .F, 2, 2, 0, 0, .any⟩,
  ⟨0x1813, .u8, .ro, .N, 1, 1, 0, 0, .any⟩,
  ⟨0x1814, .u32, .ro, .N, 1, 1, 0, 0, .any⟩,
  ⟨0x1815, .u16, .ro, .F, 1, 1, 0, 0, .any⟩,
  ⟨0x1816, .u32, .ro, .N, 1, 1, 0, 0, .any⟩,
  ⟨0x1817, .u32, .ro, .F, 1, 1, 0, 0, .any⟩,
  ⟨0x1818, .u16, .ro, .F, 1, 1, 0, 0, .any⟩,
  ⟨0x1840, .u8, .ro, .M, 64, 64, 0, 0, .any⟩,
  ⟨0x1841, .u16, .ro, .M, 64, 64, 0, 0, .any⟩,
  ⟨0x1842, .u8, .ro, .M, 64, 64, 0, 0, .any⟩,
  ⟨0x1843, .u8, .ro, .M, 64, 64, 0, 0, .any⟩,
  ⟨0x1844, .seq64, .ro, .M, 64, 64, 0, 0, .any⟩]

/-- Entries of page 0x1800, part 1. -/
def cat18_1 : List EntryDef := [
  ⟨0x1845, (.oct 8), .ro, .M, 64, 64, 0, 0, .any⟩,
  ⟨0x1846, (.oct 16), .ro, .N, 64, 64, 0, 0, .any⟩,
  ⟨0x1847, (.oct 152), .wo, .N, 1, 1, 0, 0, .any⟩,
  ⟨0x1848, (.str 32), .rwt, .F, 64, 64, 0, 0, .utf8⟩,
  ⟨0x1849, .bool, .ro, .N, 64, 64, 0, 0, .any⟩,
  ⟨0x184A, .u32, .ro, .N, 1, 1, 0, 0, .any⟩]

/-- Entries of page 0x1900, part 0. -/
def cat19_0 : List EntryDef := [
  ⟨0x1900, .u32, .rwt, .F, 4096, 4096, 0, 0, .any⟩,
  ⟨0x1901, .u8, .rwt, .F, 4096, 4096, 0, 0, .any⟩,
  ⟨0x1902, .u16, .rwt, .F, 4096, 4096, 0, 1000, .nat 10 60000⟩,
  ⟨0x1903, .u32, .ro, .N, 1, 1, 0, 0, .any⟩,
  ⟨0x1904, .u8, .ro, .N, 1, 1, 0, 0, .any⟩,
  ⟨0x1905, .u8, .ro, .N, 1, 1, 0, 0, .any⟩,
  ⟨0x1910, .bool, .rw, .F, 1, 1, 0, 1, .nat 0 1⟩,
  ⟨0x1911, .u8, .ro, .N, 1, 1, 0, 0, .any⟩,
  ⟨0x1912, .u8, .ro, .N, 2, 2, 0, 0, .any⟩,
  ⟨0x1913, .u32, .ro, .N, 2, 2, 0, 0, .any⟩,
  ⟨0x1914, .u32, .ro, .N, 2, 2, 0, 0, .any⟩]

/-- Entries of page 0x2000, part 0. -/
def cat20_0 : List EntryDef := [
  ⟨0x2000, .u8, .rwt, .F, 32, 16, 0, 0, .nat 0 9⟩,
  ⟨0x2001, .u8, .rwt, .F, 32, 16, 0, 3, .nat 0 3⟩,
  ⟨0x2002, .u8, .rwt, .F, 32, 16, 0, 0, .nat 0 2⟩,
  ⟨0x2003, .f32, .rwt, .F, 32, 16, 0, 0, .f32⟩,
  ⟨0x2004, .f32, .rwt, .F, 32, 16, 0, 1120403456, .f32⟩,
  ⟨0x2005, .f32, .rwt, .F, 32, 16, 0, 0, .f32r (0) (20) 1⟩,
  ⟨0x2006, .u8, .rwt, .F, 32, 16, 0, 2, .nat 2 32⟩,
  ⟨0x2007, .f32, .rwt, .F, 1024, 512, 32, 0, .f32r (-1) (5) 4⟩,
  ⟨0x2008, .f32, .rwt, .F, 1024, 512, 32, 0, .f32r (-1) (5) 4⟩,
  ⟨0x2010, .f32, .ro, .N, 32, 16, 0, 2143289344, .any⟩,
  ⟨0x2011, .f32, .ro, .N, 32, 16, 0, 2143289344, .any⟩,
  ⟨0x2012, .f32, .rw, .N, 32, 16, 0, 0, .f32⟩,
  ⟨0x2013, .u16, .rwt, .F, 32, 16, 0, 65535, .oneOf [(0, 1023), (65535, 65535)]⟩,
  ⟨0x2014, .f32, .rwt, .F, 32, 16, 0, 0, .f32⟩,
  ⟨0x2015, .u16, .ro, .N, 32, 16, 0, 256, .any⟩,
  ⟨0x2016, .bool, .ro, .N, 32, 16, 0, 0, .any⟩,
  ⟨0x2017, .u8, .ro, .N, 32, 16, 0, 0, .any⟩,
  ⟨0x2018, .f32, .ro, .N, 32, 16, 0, 2143289344, .any⟩,
  ⟨0x2019, .u32, .ro, .N, 32, 16, 0, 0, .any⟩,
  ⟨0x2020, .bool, .rwt, .F, 32, 16, 0, 0, .nat 0 1⟩,
  ⟨0x2021, .u8, .rwt, .F, 1, 1, 0, 0, .nat 0 1⟩,
  ⟨0x2022, .u16, .rwt, .F, 32, 16, 0, 10, .nat 0 3600⟩,
  ⟨0x2023, .f32, .ro, .N, 160, 80, 5, 2143289344, .any⟩,
  ⟨0x2024, .u8, .ro, .N, 160, 80, 5, 0, .any⟩,
  ⟨0x2025, (.oct 5), .ro, .N, 32, 16, 0, 0, .any⟩,
  ⟨0x2026, .u8, .ro, .N, 32, 16, 0, 0, .any⟩,
  ⟨0x2027, .u8, .ro, .N, 32, 16, 0, 0, .any⟩,
  ⟨0x2028, (.oct 70), .rw, .N, 32, 16, 0, 0, .any⟩,
  ⟨0x2029, (.oct 70), .ro, .N, 32, 16, 0, 0, .any⟩,
  ⟨0x202A, .u16, .ro, .M, 32, 16, 0, 0, .any⟩]

/-- Entries of page 0x2000, part 1. -/
def cat20_1 : List EntryDef := [
  ⟨0x202B, .u8, .ro, .F, 32, 16, 0, 0, .any⟩]

/-- Entries of page 0x2100, part 0. -/
def cat21_0 : List EntryDef := [
  ⟨0x2100, .bool, .rwm, .F, 6, 5, 0, 1, .nat 0 1⟩,
  ⟨0x2101, .u16, .rwm, .F, 6, 5, 0, 600, .nat 90 600⟩,
  ⟨0x2102, .u16, .rwm, .F, 6, 5, 0, 200, .nat 20 1000⟩,
  ⟨0x2103, .u8, .ro, .N, 6, 5, 0, 0, .any⟩,
  ⟨0x2104, (.oct 16), .ro, .M, 6, 5, 0, 0, .any⟩,
  ⟨0x2105, .u8, .ro, .M, 6, 5, 0, 0, .any⟩,
  ⟨0x2106, .u8, .ro, .M, 6, 5, 0, 0, .any⟩,
  ⟨0x2107, .u8, .rwm, .N, 6, 5, 0, 0, .oneOf [(1, 1)]⟩,
  ⟨0x2108, .u32, .ro, .M, 6, 5, 0, 0, .any⟩,
  ⟨0x2109, .u32, .ro, .M, 6, 5, 0, 0, .any⟩,
  ⟨0x210A, .u32, .ro, .M, 6, 5, 0, 0, .any⟩,
  ⟨0x210B, .f32, .ro, .N, 6, 5, 0, 0, .any⟩,
  ⟨0x210C, .u8, .ro, .N, 1, 1, 0, 0, .any⟩,
  ⟨0x2110, .u32, .ro, .N, 96, 80, 16, 0, .any⟩,
  ⟨0x2111, .f32, .ro, .M, 384, 320, 4, 1065353216, .any⟩,
  ⟨0x2112, .f32, .ro, .M, 384, 320, 4, 0, .any⟩,
  ⟨0x2113, .f32, .ro, .M, 384, 320, 4, 0, .any⟩,
  ⟨0x2114, .s16, .ro, .M, 384, 320, 4, 0, .any⟩,
  ⟨0x2115, .time64, .ro, .M, 384, 320, 4, 0, .any⟩,
  ⟨0x2116, .f32, .ro, .M, 384, 320, 4, 0, .any⟩,
  ⟨0x2117, .u8, .ro, .M, 384, 320, 4, 0, .any⟩]

/-- Entries of page 0x2400, part 0. -/
def cat24_0 : List EntryDef := [
  ⟨0x2400, .bool, .rwt, .F, 8, 4, 0, 0, .nat 0 1⟩,
  ⟨0x2401, .u8, .rwt, .F, 1, 1, 0, 50, .oneOf [(50, 50), (60, 60)]⟩,
  ⟨0x2402, .f32, .rwt, .F, 6, 3, 0, 1137180672, .f32r (1) (10000) 1⟩,
  ⟨0x2403, .f32, .rwt, .F, 24, 12, 0, 1120403456, .f32r (1) (1000000) 10⟩,
  ⟨0x2404, .u8, .rwt, .F, 24, 12, 0, 0, .nat 0 1⟩,
  ⟨0x2405, .s16, .rwt, .F, 30, 18, 0, 0, .int (-4096) (4096)⟩,
  ⟨0x2406, .f32, .rwt, .F, 8, 4, 0, 1084227584, .f32gt0⟩,
  ⟨0x2407, .u16, .rwt, .F, 8, 4, 0, 100, .nat 10 1000⟩,
  ⟨0x2408, .u16, .rwt, .F, 8, 4, 0, 10, .nat 1 3000⟩,
  ⟨0x2409, .u8, .rwt, .F, 1, 1, 0, 25, .nat 15 100⟩,
  ⟨0x240A, .u8, .rwt, .F, 4, 4, 0, 0, .any⟩,
  ⟨0x240B, .u16, .rwt, .F, 1, 1, 0, 900, .nat 60 3600⟩,
  ⟨0x240C, .f32, .ro, .N, 12, 12, 0, 0, .any⟩,
  ⟨0x240D, .u32, .ro, .N, 12, 12, 0, 0, .any⟩,
  ⟨0x2410, .u64, .ro, .M, 72, 72, 6, 0, .any⟩,
  ⟨0x2411, .u32, .ro, .M, 72, 72, 6, 0, .any⟩,
  ⟨0x2412, .u32, .ro, .M, 72, 72, 6, 0, .any⟩,
  ⟨0x2413, .u64, .ro, .M, 72, 72, 6, 0, .any⟩,
  ⟨0x2414, .time64, .ro, .M, 1, 1, 0, 0, .any⟩,
  ⟨0x2420, .f32, .ro, .N, 6, 3, 0, 2143289344, .any⟩,
  ⟨0x2421, .f32, .ro, .N, 24, 12, 0, 2143289344, .any⟩,
  ⟨0x2422, .f32, .ro, .N, 24, 12, 0, 2143289344, .any⟩,
  ⟨0x2423, .f32, .ro, .N, 24, 12, 0, 2143289344, .any⟩,
  ⟨0x2424, .f32, .ro, .N, 2, 1, 0, 2143289344, .any⟩,
  ⟨0x2425, .f32, .ro, .N, 12, 12, 0, 2143289344, .any⟩,
  ⟨0x2426, .u8, .ro, .M, 8, 4, 0, 0, .any⟩,
  ⟨0x2427, .u16, .ro, .N, 8, 4, 0, 0, .any⟩,
  ⟨0x2428, .bool, .ro, .N, 6, 3, 0, 0, .any⟩,
  ⟨0x2429, .u32, .ro, .M, 8, 4, 0, 0, .any⟩,
  ⟨0x242A, .u32, .ro, .M, 1, 1, 0, 0, .any⟩]

/-- Entries of page 0x2400, part 1. -/
def cat24_1 : List EntryDef := [
  ⟨0x2430, .u32, .rw, .F, 12, 12, 0, 0, .nat 0 100000000⟩,
  ⟨0x2431, .seq64, .ro, .M, 12, 12, 0, 0, .any⟩,
  ⟨0x2432, .u16, .rwt, .F, 8, 4, 0, 65535, .any⟩,
  ⟨0x2433, .u16, .rwt, .F, 8, 4, 0, 30, .nat 10 250⟩,
  ⟨0x2434, .u64, .ro, .M, 8, 4, 0, 0, .any⟩,
  ⟨0x2435, .u32, .ro, .M, 8, 4, 0, 0, .any⟩,
  ⟨0x2436, .u64, .ro, .M, 8, 4, 0, 0, .any⟩,
  ⟨0x2440, .time64, .ro, .B, 1, 1, 0, 0, .any⟩,
  ⟨0x2441, .u16, .ro, .B, 1, 1, 0, 0, .any⟩,
  ⟨0x2442, .u16, .wo, .N, 1, 1, 0, 0, .any⟩,
  ⟨0x2450, .u8, .wo, .N, 1, 1, 0, 0, .nat 0 7⟩,
  ⟨0x2451, .u16, .rw, .F, 1, 1, 0, 10, .nat 1 500⟩,
  ⟨0x2452, .u8, .ro, .N, 1, 1, 0, 0, .any⟩,
  ⟨0x2453, .u16, .ro, .N, 1, 1, 0, 0, .any⟩]

/-- Entries of page 0x2800, part 0. -/
def cat28_0 : List EntryDef := [
  ⟨0x2800, .u32, .rwt, .F, 1024, 256, 0, 0, .nat 0 1920000⟩,
  ⟨0x2801, .u8, .rwt, .F, 1024, 256, 0, 0, .nat 0 8⟩,
  ⟨0x2802, .q3_28, .rwt, .F, 40960, 10240, 40, 0, .any⟩,
  ⟨0x2803, .q3_28, .rwt, .F, 1024, 256, 0, 268435456, .any⟩,
  ⟨0x2804, .u8, .rwt, .F, 1024, 256, 0, 255, .oneOf [(0, 7), (255, 255)]⟩,
  ⟨0x2805, .u32, .rwt, .F, 1024, 256, 0, 0, .any⟩,
  ⟨0x2806, .f32, .rwt, .F, 1024, 256, 0, 1120403456, .f32gt0⟩,
  ⟨0x2807, .u8, .rwt, .F, 1024, 256, 0, 0, .nat 0 1⟩,
  ⟨0x2808, .f32, .rw, .M, 1024, 256, 0, 0, .f32⟩,
  ⟨0x2809, .f32, .wo, .N, 1024, 256, 0, 0, .f32⟩,
  ⟨0x280A, .f32, .ro, .N, 1024, 256, 0, 0, .any⟩,
  ⟨0x280B, .f32, .rwt, .F, 1024, 256, 0, 0, .f32ge0⟩,
  ⟨0x280C, .f32, .rwt, .F, 1024, 256, 0, 0, .f32⟩,
  ⟨0x280D, .f32, .rwt, .F, 1024, 256, 0, 1120403456, .f32⟩,
  ⟨0x280E, .f32, .rwt, .F, 1024, 256, 0, 0, .f32⟩,
  ⟨0x280F, .f32, .rwt, .F, 1024, 256, 0, 1120403456, .f32⟩,
  ⟨0x2810, .f32, .rwt, .F, 1024, 256, 0, 0, .f32ge0⟩,
  ⟨0x2811, .u8, .rw, .N, 1024, 256, 0, 0, .nat 0 2⟩,
  ⟨0x2812, .f32, .rw, .N, 1024, 256, 0, 0, .f32⟩,
  ⟨0x2813, .f32, .ro, .N, 1024, 256, 0, 0, .any⟩,
  ⟨0x2814, .u8, .rwt, .F, 1024, 256, 0, 0, .nat 0 1⟩,
  ⟨0x2815, .f32, .rwt, .F, 1024, 256, 0, 0, .f32⟩,
  ⟨0x2816, .u8, .rwt, .F, 1024, 256, 0, 0, .nat 0 2⟩,
  ⟨0x2817, .u16, .ro, .N, 1024, 256, 0, 0, .any⟩,
  ⟨0x2818, .u32, .ro, .N, 1024, 256, 0, 0, .any⟩,
  ⟨0x2819, .f32, .ro, .N, 1024, 256, 0, 2143289344, .any⟩,
  ⟨0x281A, .u8, .rwt, .F, 1024, 256, 0, 1, .nat 0 2⟩,
  ⟨0x2880, .u16, .ro, .N, 1, 1, 0, 0, .any⟩,
  ⟨0x2881, .u8, .ro, .N, 1, 1, 0, 0, .any⟩,
  ⟨0x2882, .u32, .ro, .N, 1, 1, 0, 0, .any⟩]

/-- Entries of page 0x2800, part 1. -/
def cat28_1 : List EntryDef := [
  ⟨0x2883, .u32, .ro, .N, 1, 1, 0, 0, .any⟩]

/-- Entries of page 0x2900, part 0. -/
def cat29_0 : List EntryDef := [
  ⟨0x2900, .u16, .rwt, .F, 64, 16, 0, 65535, .oneOf [(0, 1023), (65535, 65535)]⟩,
  ⟨0x2901, .u16, .rwt, .F, 64, 16, 0, 16, .nat 16 4096⟩,
  ⟨0x2902, .q3_28, .rwt, .F, 64, 16, 0, 0, .int (0) (0x1000_0000)⟩,
  ⟨0x2903, .q3_28, .rwt, .F, 320, 80, 5, 0, .any⟩,
  ⟨0x2904, .u16, .rwt, .F, 64, 16, 0, 0, .any⟩,
  ⟨0x2905, .bool, .rw, .F, 64, 16, 0, 1, .nat 0 1⟩,
  ⟨0x2906, .u8, .wo, .N, 64, 16, 0, 0, .oneOf [(1, 1)]⟩,
  ⟨0x2907, .u16, .ro, .N, 64, 16, 0, 0, .any⟩,
  ⟨0x2908, .f32, .ro, .N, 64, 16, 0, 0, .any⟩]

/-- Entries of page 0x2C00, part 0. -/
def cat2C_0 : List EntryDef := [
  ⟨0x2C00, .u8, .rwt, .F, 16, 8, 0, 0, .nat 0 9⟩,
  ⟨0x2C01, .s64, .rw, .N, 16, 8, 0, 0, .any⟩,
  ⟨0x2C02, .u16, .rwt, .F, 16, 8, 0, 65535, .oneOf [(0, 1023), (65535, 65535)]⟩,
  ⟨0x2C03, .f32, .rwt, .F, 16, 8, 0, 1148846080, .hook⟩,
  ⟨0x2C04, .f32, .rwt, .F, 16, 8, 0, 1176256512, .hook⟩,
  ⟨0x2C05, .f32, .rwt, .F, 16, 8, 0, 1203982336, .hook⟩,
  ⟨0x2C06, .f32, .rwt, .F, 16, 8, 0, 1184645120, .hook⟩,
  ⟨0x2C07, .s64, .rwt, .F, 16, 8, 0, 18446744071562067968, .any⟩,
  ⟨0x2C08, .s64, .rwt, .F, 16, 8, 0, 2147483647, .any⟩,
  ⟨0x2C09, .f32, .rwt, .F, 16, 8, 0, 0, .f32⟩,
  ⟨0x2C0A, .f32, .rwt, .F, 16, 8, 0, 1120403456, .f32⟩,
  ⟨0x2C0B, .s64, .rwt, .F, 16, 8, 0, 0, .any⟩,
  ⟨0x2C0C, .s64, .rwt, .F, 16, 8, 0, 10000, .any⟩,
  ⟨0x2C0D, .u32, .rwt, .F, 16, 8, 0, 0, .any⟩,
  ⟨0x2C0E, .s64, .ro, .N, 16, 8, 0, 0, .any⟩,
  ⟨0x2C0F, .f32, .ro, .N, 16, 8, 0, 0, .any⟩,
  ⟨0x2C10, .f32, .ro, .N, 16, 8, 0, 0, .any⟩,
  ⟨0x2C11, .s64, .ro, .N, 16, 8, 0, 0, .any⟩,
  ⟨0x2C12, .u8, .ro, .N, 16, 8, 0, 0, .any⟩,
  ⟨0x2C13, .u16, .ro, .N, 16, 8, 0, 0, .any⟩,
  ⟨0x2C14, .u16, .rwt, .F, 16, 8, 0, 16, .nat 1 256⟩,
  ⟨0x2C15, .u16, .rwt, .F, 16, 8, 0, 500, .nat 100 10000⟩,
  ⟨0x2C16, .u16, .rwt, .F, 16, 8, 0, 1000, .nat 100 50000⟩,
  ⟨0x2C17, .u16, .rwt, .F, 16, 8, 0, 1000, .nat 100 50000⟩,
  ⟨0x2C18, .u32, .ro, .N, 16, 8, 0, 0, .any⟩,
  ⟨0x2C19, .u16, .rwt, .F, 16, 8, 0, 500, .any⟩,
  ⟨0x2C1A, .f32, .rwt, .F, 16, 8, 0, 1065353216, .f32gt0⟩,
  ⟨0x2C1B, .f32, .rwt, .F, 16, 8, 0, 990057071, .f32ge0⟩,
  ⟨0x2C1C, .f32, .rwt, .F, 16, 8, 0, 1065353216, .f32gt0⟩,
  ⟨0x2C1D, .f32, .rwt, .F, 16, 8, 0, 1050253722, .f32gt0⟩]

/-- Entries of page 0x2C00, part 1. -/
def cat2C_1 : List EntryDef := [
  ⟨0x2C1E, .f32, .rwt, .F, 16, 8, 0, 1101004800, .f32r (1) (100) 1⟩,
  ⟨0x2C1F, .f32, .rwt, .F, 16, 8, 0, 1128792064, .f32⟩,
  ⟨0x2C20, .u16, .rwt, .F, 16, 8, 0, 1000, .nat 100 10000⟩,
  ⟨0x2C21, .f32, .ro, .N, 16, 8, 0, 2143289344, .any⟩,
  ⟨0x2C22, .f32, .rwt, .F, 16, 8, 0, 1114636288, .f32r (10) (170) 1⟩,
  ⟨0x2C23, .u16, .rwt, .F, 16, 8, 0, 2, .nat 1 1000⟩,
  ⟨0x2C24, .f32, .rwt, .F, 16, 8, 0, 1117782016, .f32r (30) (170) 1⟩,
  ⟨0x2C25, .u16, .rwt, .F, 16, 8, 0, 5, .nat 1 1000⟩,
  ⟨0x2C26, .u8, .rwt, .F, 16, 8, 0, 1, .nat 0 1⟩,
  ⟨0x2C27, .u32, .ro, .N, 16, 8, 0, 0, .any⟩,
  ⟨0x2C28, .u8, .wo, .N, 16, 8, 0, 0, .oneOf [(1, 1)]⟩,
  ⟨0x2C29, .bool, .rwt, .F, 16, 8, 0, 1, .nat 0 1⟩,
  ⟨0x2C2A, .u8, .rwt, .F, 16, 8, 0, 0, .nat 0 1⟩,
  ⟨0x2C2B, .f32, .rwt, .F, 16, 8, 0, 1137180672, .f32⟩,
  ⟨0x2C2C, .u32, .rwt, .F, 16, 8, 0, 20000, .nat 1 0xFFFF_FFFF⟩,
  ⟨0x2C2D, .s64, .rwt, .F, 16, 8, 0, 0, .any⟩,
  ⟨0x2C2E, .u32, .rwt, .F, 16, 8, 0, 64, .any⟩,
  ⟨0x2C2F, .u8, .ro, .N, 16, 8, 0, 0, .any⟩,
  ⟨0x2C40, .s64, .ro, .N, 2, 0, 0, 0, .any⟩,
  ⟨0x2C41, .u32, .ro, .N, 2, 0, 0, 0, .any⟩,
  ⟨0x2C42, .u16, .rwt, .F, 2, 0, 0, 200, .nat 1 10000⟩,
  ⟨0x2C43, .s64, .ro, .N, 6, 0, 3, 0, .any⟩,
  ⟨0x2C44, .time64, .ro, .N, 6, 0, 3, 0, .any⟩,
  ⟨0x2C45, .bool, .ro, .N, 6, 0, 3, 0, .any⟩,
  ⟨0x2C46, .u32, .ro, .N, 6, 0, 3, 0, .any⟩,
  ⟨0x2C47, .u8, .rwt, .F, 2, 0, 0, 1, .oneOf [(0, 0), (1, 1), (2, 2), (4, 4), (5, 5), (6, 6)]⟩,
  ⟨0x2C48, .s64, .rwt, .F, 2, 0, 0, 0, .any⟩]

/-- Entries of page 0x3000, part 0. -/
def cat30_0 : List EntryDef := [
  ⟨0x3000, .bool, .rwt, .F, 2, 0, 0, 0, .nat 0 1⟩,
  ⟨0x3001, .u8, .rwm, .F, 2, 0, 0, 2, .nat 2 128⟩,
  ⟨0x3002, .u32, .rwm, .F, 2, 0, 0, 10000, .nat 1000 800000⟩,
  ⟨0x3003, .u8, .ro, .N, 2, 0, 0, 0, .any⟩,
  ⟨0x3004, .u8, .ro, .N, 2, 0, 0, 0, .any⟩,
  ⟨0x3005, .f32, .ro, .N, 2, 0, 0, 2143289344, .any⟩,
  ⟨0x3006, .f32, .ro, .N, 2, 0, 0, 0, .any⟩,
  ⟨0x3007, .u8, .ro, .N, 2, 0, 0, 255, .any⟩,
  ⟨0x3008, .u8, .ro, .N, 2, 0, 0, 0, .any⟩,
  ⟨0x3009, .u16, .ro, .N, 2, 0, 0, 0, .any⟩,
  ⟨0x300A, .u8, .ro, .N, 2, 0, 0, 0, .any⟩,
  ⟨0x300B, .u8, .wo, .N, 2, 0, 0, 0, .oneOf [(1, 1)]⟩,
  ⟨0x300C, .bool, .rw, .M, 2, 0, 0, 0, .nat 0 1⟩,
  ⟨0x300D, .f32, .ro, .N, 2, 0, 0, 0, .any⟩,
  ⟨0x300E, .u32, .ro, .N, 2, 0, 0, 0, .any⟩,
  ⟨0x300F, .u16, .ro, .N, 2, 0, 0, 0, .any⟩,
  ⟨0x3010, (.oct 8), .wo, .N, 2, 0, 0, 0, .any⟩,
  ⟨0x3011, (.oct 16), .ro, .M, 2, 0, 0, 0, .any⟩,
  ⟨0x3012, (.oct 16), .ro, .M, 2, 0, 0, 0, .any⟩,
  ⟨0x3013, (.oct 16), .ro, .M, 2, 0, 0, 0, .any⟩,
  ⟨0x3014, .seq64, .ro, .M, 768, 0, 384, 0, .any⟩,
  ⟨0x3020, .s64, .rwm, .F, 256, 0, 128, 0, .any⟩,
  ⟨0x3021, .s64, .rwm, .F, 256, 0, 128, 0, .any⟩,
  ⟨0x3022, .s64, .rwm, .F, 256, 0, 128, 0, .any⟩,
  ⟨0x3023, .s16, .rwm, .F, 256, 0, 128, 0, .int (-500) (500)⟩,
  ⟨0x3024, .u8, .rwm, .F, 256, 0, 128, 1, .mask 3⟩,
  ⟨0x3025, .u8, .wo, .N, 2, 0, 0, 0, .oneOf [(1, 1)]⟩,
  ⟨0x3026, .u8, .ro, .F, 2, 0, 0, 0, .any⟩,
  ⟨0x3027, .u8, .rwt, .F, 2, 0, 0, 0, .any⟩,
  ⟨0x3028, .u8, .rwt, .F, 2, 0, 0, 255, .any⟩]

/-- Entries of page 0x3000, part 1. -/
def cat30_1 : List EntryDef := [
  ⟨0x3029, .u16, .rwt, .F, 2, 0, 0, 300, .nat 10 3600⟩,
  ⟨0x3030, .f32, .rwt, .F, 2, 0, 0, 1050253722, .f32r (5) (63) 100⟩,
  ⟨0x3031, .f32, .rwt, .F, 2, 0, 0, 1028443341, .f32r (1) (30) 100⟩,
  ⟨0x3032, .f32, .rwt, .F, 2, 0, 0, 1048576000, .f32r (5) (63) 100⟩,
  ⟨0x3033, .f32, .rwt, .F, 2, 0, 0, 1092616192, .f32r (3) (50) 1⟩,
  ⟨0x3034, .f32, .rwt, .F, 2, 0, 0, 1101004800, .f32r (1) (200) 1⟩,
  ⟨0x3035, .f32, .rwt, .F, 2, 0, 0, 1112014848, .f32r (5) (1000) 1⟩,
  ⟨0x3036, .u16, .rwt, .F, 2, 0, 0, 100, .nat 10 2000⟩,
  ⟨0x3037, .u16, .rwt, .F, 2, 0, 0, 200, .nat 10 5000⟩,
  ⟨0x3038, .u16, .rwt, .F, 2, 0, 0, 300, .nat 50 2000⟩,
  ⟨0x3039, .bool, .rwt, .F, 2, 0, 0, 1, .nat 0 1⟩,
  ⟨0x303A, .f32, .rwt, .F, 2, 0, 0, 1092616192, .f32r (5) (120) 10⟩,
  ⟨0x303B, (.oct 6), .rwt, .F, 2, 0, 0, 0, .any⟩,
  ⟨0x303C, .u32, .ro, .N, 2, 0, 0, 0, .any⟩,
  ⟨0x3040, .u32, .rwt, .F, 16, 0, 8, 0, .any⟩,
  ⟨0x3048, (.oct 18), .rwt, .F, 1, 0, 0, 0, .any⟩,
  ⟨0x3049, .u16, .rwt, .F, 1, 0, 0, 0, .oneOf [(0, 0), (20, 10000)]⟩,
  ⟨0x3050, .u32, .rwt, .F, 4, 0, 0, 32000, .nat 1000 1000000⟩,
  ⟨0x3051, .s64, .rwt, .F, 4, 0, 0, 0, .any⟩,
  ⟨0x3052, .f32, .rwt, .F, 4, 0, 0, 1120403456, .f32r (5) (1000) 1⟩,
  ⟨0x3053, .f32, .rwt, .F, 4, 0, 0, 1120403456, .f32gt0⟩,
  ⟨0x3054, .f32, .rwt, .F, 4, 0, 0, 1119092736, .f32⟩,
  ⟨0x3055, .f32, .rwt, .F, 4, 0, 0, 1048576000, .f32gt0⟩,
  ⟨0x3056, .f32, .rwt, .F, 4, 0, 0, 1041865114, .f32gt0⟩,
  ⟨0x3057, .u8, .rwt, .F, 4, 0, 0, 255, .any⟩,
  ⟨0x3058, .f32, .rwt, .F, 4, 0, 0, 1092616192, .f32r (0) (30) 1⟩,
  ⟨0x3059, .u16, .rwt, .F, 4, 0, 0, 3000, .nat 500 60000⟩,
  ⟨0x305A, .u16, .rwt, .F, 4, 0, 0, 2000, .nat 500 60000⟩,
  ⟨0x305B, .u16, .rwt, .F, 4, 0, 0, 20, .nat 5 120⟩,
  ⟨0x305C, .u8, .ro, .N, 4, 0, 0, 0, .any⟩]

/-- Entries of page 0x3000, part 2. -/
def cat30_2 : List EntryDef := [
  ⟨0x305D, .f32, .ro, .N, 4, 0, 0, 2143289344, .any⟩,
  ⟨0x305E, .u32, .ro, .N, 4, 0, 0, 0, .any⟩]

/-- Entries of page 0x3400, part 0. -/
def cat34_0 : List EntryDef := [
  ⟨0x3400, .u16, .ro, .N, 1, 1, 0, 0, .any⟩,
  ⟨0x3401, .u16, .ro, .N, 1, 1, 0, 0, .any⟩,
  ⟨0x3402, .u16, .ro, .M, 1, 1, 0, 0, .any⟩,
  ⟨0x3403, .u16, .wo, .N, 1, 1, 0, 0, .any⟩,
  ⟨0x3404, .u16, .ro, .M, 1, 1, 0, 0, .any⟩,
  ⟨0x3405, .u16, .wo, .N, 1, 1, 0, 0, .any⟩,
  ⟨0x3406, .u16, .wo, .N, 2, 0, 0, 0, .any⟩,
  ⟨0x3407, .u32, .ro, .N, 1, 1, 0, 0, .any⟩,
  ⟨0x3408, .u32, .rw, .F, 1, 1, 0, 0, .any⟩,
  ⟨0x3409, .u16, .rwm, .F, 1, 1, 0, 5, .nat 1 100⟩,
  ⟨0x3410, .u8, .rwm, .F, 16, 8, 0, 0, .nat 0 8⟩,
  ⟨0x3411, .u8, .rwm, .F, 16, 8, 0, 0, .nat 0 1⟩,
  ⟨0x3412, .bool, .rwm, .F, 16, 8, 0, 1, .nat 0 1⟩,
  ⟨0x3413, .u16, .rwm, .F, 16, 8, 0, 1000, .nat 500 50000⟩,
  ⟨0x3414, .u16, .rwm, .F, 16, 8, 0, 100, .nat 10 5000⟩,
  ⟨0x3415, .u8, .rwm, .F, 16, 8, 0, 1, .nat 0 1⟩,
  ⟨0x3416, .u8, .rwm, .F, 16, 8, 0, 255, .oneOf [(0, 95), (255, 255)]⟩,
  ⟨0x3417, .bool, .rwm, .F, 16, 8, 0, 0, .nat 0 1⟩,
  ⟨0x3418, .f32, .rwm, .F, 16, 8, 0, 1148846080, .f32r (10) (100000) 1⟩,
  ⟨0x3419, .bool, .ro, .N, 16, 8, 0, 0, .any⟩,
  ⟨0x341A, .u8, .ro, .N, 16, 8, 0, 0, .any⟩,
  ⟨0x341B, .f32, .ro, .N, 16, 8, 0, 2143289344, .any⟩,
  ⟨0x341C, .u32, .ro, .N, 16, 8, 0, 0, .any⟩,
  ⟨0x341D, .u8, .ro, .M, 16, 8, 0, 0, .any⟩,
  ⟨0x3440, .u8, .rwm, .F, 8, 4, 0, 0, .nat 0 5⟩,
  ⟨0x3441, (.oct 16), .rwm, .F, 8, 4, 0, 0, .any⟩,
  ⟨0x3442, .bool, .rw, .N, 8, 4, 0, 0, .nat 0 1⟩,
  ⟨0x3443, .u16, .rwm, .F, 8, 4, 0, 1000, .nat 100 60000⟩,
  ⟨0x3444, .u8, .rwm, .F, 16, 8, 2, 255, .oneOf [(0, 7), (255, 255)]⟩,
  ⟨0x3445, .u16, .rwm, .F, 8, 4, 0, 300, .nat 20 2000⟩]

/-- Entries of page 0x3400, part 1. -/
def cat34_1 : List EntryDef := [
  ⟨0x3446, .u8, .ro, .N, 8, 4, 0, 0, .any⟩,
  ⟨0x3447, .u8, .ro, .M, 8, 4, 0, 0, .any⟩,
  ⟨0x3448, .bool, .ro, .N, 8, 4, 0, 0, .any⟩,
  ⟨0x3449, .u32, .ro, .N, 8, 4, 0, 0, .any⟩,
  ⟨0x3480, .u8, .rwm, .F, 32, 32, 0, 0, .nat 0 2⟩,
  ⟨0x3481, .u16, .rwm, .F, 32, 32, 0, 0, .any⟩,
  ⟨0x3482, (.oct 6), .rwm, .F, 32, 32, 0, 0, .any⟩,
  ⟨0x3483, .u8, .rwm, .F, 32, 32, 0, 1, .nat 1 8⟩,
  ⟨0x3484, .u16, .rwm, .F, 32, 32, 0, 10, .nat 4 500⟩,
  ⟨0x3485, .u16, .rwm, .F, 32, 32, 0, 40, .nat 12 1000⟩,
  ⟨0x3486, .u8, .rwm, .F, 32, 32, 0, 0, .nat 0 1⟩,
  ⟨0x3487, .u8, .rwm, .F, 2048, 2048, 64, 255, .any⟩,
  ⟨0x3488, .u16, .rwm, .F, 64, 64, 0, 65535, .any⟩,
  ⟨0x3489, .u8, .ro, .N, 32, 32, 0, 0, .any⟩,
  ⟨0x348A, .u32, .ro, .N, 32, 32, 0, 0, .any⟩,
  ⟨0x348B, .u32, .ro, .N, 32, 32, 0, 0, .any⟩,
  ⟨0x348C, .u32, .ro, .N, 64, 64, 2, 0, .any⟩,
  ⟨0x348D, .u32, .ro, .N, 32, 32, 0, 0, .any⟩,
  ⟨0x348E, .u32, .ro, .N, 32, 32, 0, 0, .any⟩,
  ⟨0x348F, .bool, .ro, .M, 32, 32, 0, 0, .any⟩,
  ⟨0x34C0, .u8, .rwm, .F, 12, 0, 6, 255, .any⟩]

/-- Entries of page 0x3800, part 0. -/
def cat38_0 : List EntryDef := [
  ⟨0x3800, .u8, .ro, .N, 4, 4, 0, 0, .any⟩,
  ⟨0x3801, .bool, .rw, .F, 4, 4, 0, 1, .nat 0 1⟩,
  ⟨0x3802, .u32, .rw, .F, 4, 4, 0, 10000, .nat 50 1000000⟩,
  ⟨0x3803, .u32, .rw, .F, 4, 4, 0, 50, .nat 50 1000000⟩,
  ⟨0x3804, .u16, .rw, .F, 4, 4, 0, 0, .any⟩,
  ⟨0x3805, .u8, .ro, .F, 4, 4, 0, 255, .any⟩,
  ⟨0x3806, .u32, .ro, .F, 4, 4, 0, 0, .any⟩,
  ⟨0x3807, (.oct 8), .ro, .F, 4, 4, 0, 0, .any⟩,
  ⟨0x3808, (.oct 8), .wo, .N, 4, 4, 0, 0, .any⟩,
  ⟨0x3809, .seq64, .ro, .M, 4, 4, 0, 0, .any⟩,
  ⟨0x380A, .u16, .ro, .N, 4, 4, 0, 0, .any⟩,
  ⟨0x380B, .u64, .ro, .N, 4, 4, 0, 0, .any⟩,
  ⟨0x380C, .u32, .ro, .N, 4, 4, 0, 0, .any⟩,
  ⟨0x380D, .u32, .ro, .N, 4, 4, 0, 0, .any⟩,
  ⟨0x380E, .u32, .ro, .N, 4, 4, 0, 0, .any⟩,
  ⟨0x380F, .u32, .ro, .N, 4, 4, 0, 0, .any⟩,
  ⟨0x3810, .u8, .ro, .N, 4, 4, 0, 0, .any⟩,
  ⟨0x3811, .u32, .ro, .N, 4, 4, 0, 0, .any⟩,
  ⟨0x3820, (.oct 1024), .rw, .N, 1024, 1024, 256, 0, .any⟩,
  ⟨0x3821, .u32, .rw, .N, 4, 4, 0, 0, .nat 0 262144⟩,
  ⟨0x3822, .u8, .wo, .N, 4, 4, 0, 0, .oneOf [(1, 1)]⟩,
  ⟨0x3823, .u8, .ro, .F, 4, 4, 0, 0, .any⟩,
  ⟨0x3824, .u8, .ro, .F, 4, 4, 0, 0, .any⟩,
  ⟨0x3825, .u32, .ro, .F, 4, 4, 0, 0, .any⟩,
  ⟨0x3830, .u16, .ro, .N, 4, 4, 0, 0, .any⟩,
  ⟨0x3831, .u16, .ro, .N, 4, 4, 0, 0, .any⟩,
  ⟨0x3832, .u16, .ro, .N, 4, 4, 0, 0, .any⟩,
  ⟨0x3833, .u16, .ro, .N, 4, 4, 0, 0, .any⟩,
  ⟨0x3834, .u32, .ro, .N, 1024, 1024, 256, 0, .any⟩,
  ⟨0x3840, .u8, .ro, .N, 1, 1, 0, 0, .any⟩]

/-- Entries of page 0x3800, part 1. -/
def cat38_1 : List EntryDef := [
  ⟨0x3841, .u32, .ro, .N, 1, 1, 0, 0, .any⟩]

/-- The rows of one 256-index page of the dictionary. -/
def catPage (p : Nat) : List EntryDef :=
  match p with
  | 0x10 => cat10_0 ++ cat10_1
  | 0x11 => cat11_0 ++ cat11_1
  | 0x12 => cat12_0 ++ cat12_1
  | 0x13 => cat13_0
  | 0x14 => cat14_0
  | 0x15 => cat15_0
  | 0x16 => cat16_0
  | 0x17 => cat17_0
  | 0x18 => cat18_0 ++ cat18_1
  | 0x19 => cat19_0
  | 0x20 => cat20_0 ++ cat20_1
  | 0x21 => cat21_0
  | 0x24 => cat24_0 ++ cat24_1
  | 0x28 => cat28_0 ++ cat28_1
  | 0x29 => cat29_0
  | 0x2C => cat2C_0 ++ cat2C_1
  | 0x30 => cat30_0 ++ cat30_1 ++ cat30_2
  | 0x34 => cat34_0 ++ cat34_1
  | 0x38 => cat38_0 ++ cat38_1
  | _ => []

end Sys2Proof.Machine
end

