-- ==== Sys2Proof/Machine/State.lean ====
section
/-!
DEFINITION. The state of the module: plain data. Dictionary entries (every entry of the entry tables, R5 to R12) are held
in one sparse store `od`; what the manual gives the machine besides its entries is held in one structure per chapter.
-/
namespace Sys2Proof.Machine

/-- One dictionary element that differs from its default. -/
structure Cell where
  index : Nat
  elem : Nat
  value : Nat
  deriving DecidableEq, Repr

/-- A sparse table from number to value, in ascending order of key. -/
abbrev Tab (α : Type) := List (Nat × α)

/-! ## Meringue contents besides class-M entries (R98, R368) -/

/-- One staged or accepted element write: index, element, raw value. -/
structure ElemW where
  index : Nat
  elem : Nat
  value : Nat
  deriving DecidableEq, Repr

/-- A ledger record with its payload (R86, R99). `ordDone` and `specDone` say whether the ordinary items and the item of
kind 0x2 to 0x7 are done, `begun` whether an item of kind 0x5 to 0x7 has begun; `crystal` and `lossGen` are the RTC capture of R356. -/
structure LedgerRec where
  seq : Nat
  kind : Nat
  port : Nat
  client : Nat
  reqid : Nat
  digest : Nat
  size : Nat
  completed : Bool
  outcome : Nat
  writes : List ElemW
  ordDone : Bool
  specDone : Bool
  begun : Bool
  crystal : Nat
  lossGen : Nat
  deriving DecidableEq, Repr

/-- A transaction descriptor as the Meringue store holds it (R98). -/
structure TxnDesc where
  handle : Nat
  port : Nat
  client : Nat
  openReq : Nat
  commitSeq : Nat
  commitReq : Nat
  deriving DecidableEq, Repr

/-- A recorder record (R383), without its CRC, which follows from the other fields. -/
structure Rec where
  seq : Nat
  code : Nat
  inst : Nat
  flags : Nat
  payload : Nat
  deriving DecidableEq, Repr

/-- The pending half of a Praline slot (R407, R410): type, attributes, tenant, material and the first 8 bytes of K_v. -/
structure KeyHalf where
  ty : Nat
  attr : Nat
  tenant : Nat
  mat : List Nat
  tag : Nat
  deriving DecidableEq, Repr

/-- A slot of the ledger's counter group (R98, R379): head and tail generation, next and done sequence, head and tail of the payload ring. -/
structure CtrSlot where
  head : Nat := 0
  tail : Nat := 0
  next : Nat := 1
  done : Nat := 0
  ringHead : Nat := 0
  ringTail : Nat := 0
  deriving DecidableEq, Repr

/-- The two slots of a counter group (R379). In an empty store slot A is current (log entry 152). -/
structure CtrGroup where
  a : CtrSlot := { head := 1, tail := 1 }
  b : CtrSlot := {}
  deriving DecidableEq, Repr

/-- What takes the place of a retired DRAM page (R26, R28): the page its content moved to, if any, and whether the trend cache gave
up a page for it. -/
structure PageMove where
  into : Option Nat
  trend : Bool
  deriving DecidableEq, Repr

/-- A structure under page commit (R378): its two copies, whether the commit word names the second, and the word's generation. The length and the
CRC-32C of the word are those of the copy it names. -/
structure Paged (α : Type) where
  copy0 : List α := []
  copy1 : List α := []
  second : Bool := false
  gen : Nat := 0
  deriving DecidableEq, Repr

/-- What the SRAM of the Meringue store holds besides class-M entries: the ledger with the group stamps of R101, the
transaction descriptors, the recorder region, operating seconds (R98) and the other chapters' non-volatile state. -/
structure Meringue where
  recs : List LedgerRec := []
  seqGroup : CtrGroup := {}
  stamps : Tab Nat := []
  descs : List TxnDesc := []
  region : List Rec := []
  opSecs : Nat := 0
  /-- the store of these contents records a power failure or a STANDBY entry (R49) -/
  ended : Bool := false
  /-- the retired-page map (R26): each retired page with what took its place -/
  retired : Tab PageMove := []
  /-- the configuration mirror (R26, R368): the configuration entries, as the last commit left them -/
  mirror : Paged Cell := {}
  /-- the words of critical DRAM pages that the mirror holds, by page and offset (R26) -/
  mirrorWords : Tab (Tab Nat) := []
  /-- the calibration coefficients of each converter: gain, offset, residual and delay, class after class (R190) -/
  cal : Tab (Paged Nat) := []
  /-- 32-bit fractions below 1 µWh of the accumulators (R211) -/
  nrgFrac : Tab Nat := []
  /-- accumulators at the last interval boundary (R214) -/
  nrgBase : Tab Nat := []
  /-- reversal run of each circuit (R210) -/
  nrgRun : Tab Nat := []
  /-- `rtc_seconds` when metering stopped (R221) -/
  meterStop : Option Nat := none
  /-- door sides of registered calls, by element of `lft_call_seq` (R285, R286) -/
  callSides : Tab Nat := []
  /-- cars whose UCM latch is set (R296) -/
  ucm : List Nat := []
  /-- the backup domain's own record of a switch-over in HOLDUP: `nrg_vbat_gen` and `nrg_first_vbat` (R366) -/
  domain : Nat × Nat := (0, 0)
  /-- codes latched on an output before the one `saf_out_fault` shows (R316, R317) -/
  outEarlier : Tab (List Nat) := []
  /-- the retain area of each program (R342) -/
  retain : Tab (Paged Nat) := []
  /-- the Praline slots: the current half is the copy that the commit word names, the pending half the other (R407, R410) -/
  keys : Tab (Paged KeyHalf) := []
  deriving DecidableEq, Repr

/-- One shadow bank: class-M entries and the rest of the SRAM, as of the store that wrote it (R372). -/
structure Bank where
  cells : List Cell
  mer : Meringue
  gen : Nat
  deriving DecidableEq, Repr

/-- A reservoir of R62: charging since a start or retry, holding 12.0 V, failed to charge, passed its last test since the
start, tested since the start. -/
structure Reservoir where
  charging : Bool := false
  charged : Bool := false
  chargeFailed : Bool := false
  passed : Bool := false
  tested : Bool := false
  deriving DecidableEq, Repr

/-- A DRAM page under retirement (R27): its class (R26) and the word offset of the stalled read. -/
structure Retiring where
  page : Nat
  cls : PageClass
  off : Nat
  deriving DecidableEq, Repr

/-- The words that commands have put into DRAM (R17, R26): by page and offset, and those of the duplicate pages in the other channel; a word
not listed reads 0 (log entry 145). -/
structure DramState where
  pages : Tab (Tab Nat) := []
  dup : Tab (Tab Nat) := []
  deriving DecidableEq, Repr

/-- Mode machine, power and health (R44 to R64, R37, R49). -/
structure SysState where
  /-- the kind of the start under way or last made -/
  start : StartKind := .por
  /-- a safety trip occurred in the present BOOT (R45, R48) -/
  tripInBoot : Bool := false
  /-- what steps 2 to 6 of R48 selected at the end of the last BOOT -/
  selected : Mode := .run
  /-- the mode SAFE_HOLD was entered from (R47); `.boot` for an entry at the end of BOOT -/
  heldFrom : Mode := .run
  /-- the mode RUN_DEGRADED was entered from (R39) -/
  degradedFrom : Mode := .run
  /-- a STANDBY entry is under way (R56) -/
  standbyEntry : Bool := false
  /-- a wake that occurred during STANDBY entry (R57): wake-cause bits, wake hit, and what its start finds -/
  wakeDuringEntry : Option (Nat × Nat × StartFacts) := none
  res0 : Reservoir := {}
  res1 : Reservoir := {}
  /-- a reservoir has qualified since the start (R51) -/
  qualified : Bool := false
  /-- what the SRAM holds as long as nothing may write it: its contents as the start left them, until a reservoir qualifies (R51) -/
  sram : Option Bank := none
  /-- the reservoir under test now, and whether the test is a commanded one (R64) -/
  testing : Option (Nat × Bool) := none
  /-- tests waiting for the one that runs, in order -/
  testQueue : List (Nat × Bool) := []
  /-- whether a reservoir failed in the commanded test under way -/
  cmdFailed : Bool := false
  /-- the object service serves (R52) -/
  appUp : Bool := false
  /-- a reset whose command is accepted and which has not begun (R52) -/
  resetDue : Option StartKind := none
  /-- the management processor failed its ROM self-test and is held in reset (R36) -/
  mpHeld : Bool := false
  /-- VMAIN returned during HOLDUP (R61), or the power failure was an internal rail's (R52) -/
  vmainBack : Bool := false
  /-- mode requests accepted and not yet started: acceptance number and code (R46) -/
  modeReqs : List (Nat × Nat) := []
  /-- the part under retest (R42) -/
  retest : Option Nat := none
  /-- the DRAM pages being retired (R27) -/
  retiring : List Retiring := []
  /-- 10 ms frames run since the load last reached 60 % with classes deferred, and the load window (R35) -/
  lowFrames : Nat := 0
  loadWindow : List Nat := []
  classWindow : List (List Nat) := []
  /-- the replay of R102 is to run at the next commit tick up to this number -/
  replayTo : Option Nat := none
  deriving DecidableEq, Repr

/-- A response not yet sent to accepted work (R89). -/
structure Waiting where
  seq : Nat
  op : Nat
  who : Who
  handle : Nat
  items : List WItem
  deriving DecidableEq, Repr

/-- A request that waits, while a store freezes the SRAM (R372) or for the object service to serve (R161): its last field says that its descriptor breaks
a range of R162. -/
structure Held where
  op : Nat
  who : Who
  handle : Nat
  items : List WItem
  bad : Bool
  deriving DecidableEq, Repr

/-- The volatile part of an open transaction (R90 to R93). -/
structure TxnOpen where
  handle : Nat
  committing : Bool := false
  staged : List ElemW := []
  versions : Tab Nat := []
  last : Nat := 0
  deriving DecidableEq, Repr

/-- Transactions and the object service (R90 to R103). -/
structure TxnState where
  opens : List TxnOpen := []
  versions : Tab Nat := []
  waiting : List Waiting := []
  held : List Held := []
  deriving DecidableEq, Repr

/-- One copy of the bank-select word (R373): its fields, with the 16 reserved bytes as one number. A blank copy holds zeros. -/
structure SelWord where
  magic : Nat := 0
  state : Nat := 0
  bank : Nat := 0
  gen : Nat := 0
  reserved : Nat := 0
  crc : Nat := 0
  deriving DecidableEq, Repr

/-- The store sequencer, the shadow banks and the bank-select word (R370 to R376). -/
structure NvsState where
  /-- the two copies of the bank-select word (R373) -/
  sel0 : SelWord := {}
  sel1 : SelWord := {}
  bank0 : Option Bank := none
  bank1 : Option Bank := none
  /-- the store in progress: cause, target bank, contents as of the freeze -/
  storing : Option (Nat × Bank) := none
  target : Nat := 1
  inPlace : Bool := false
  /-- stores triggered and not yet started, in order: cause, and RTC time of the trigger -/
  queued : List (Nat × Nat) := []
  deriving DecidableEq, Repr

/-- A reader context's binding (R389) and a dump (R391). -/
structure RecState where
  buf : List Rec := []
  flash : List Rec := []
  next : Nat := 1
  tail : Nat := 1
  /-- events dropped since the last OVERFLOW record (R388) -/
  dropped : Nat := 0
  /-- highest sequence number moved to flash -/
  moved : Nat := 0
  /-- records copied into the Meringue region by the last flush are those up to this number -/
  flushed : Nat := 0
  owned : Tab Bool := []
  /-- the recorder clear waiting to apply: acceptance number and head X (R392) -/
  clears : List (Nat × Nat) := []
  /-- records of the running dump, oldest first -/
  dump : List Rec := []
  eraseWaits : Bool := false
  deriving DecidableEq, Repr

/-- The backup domain besides its entries (R350 to R364). -/
structure RtcState where
  /-- crystal counts the prescaler still holds at 32,767 for a negative shift (R357) -/
  hold : Nat := 0
  /-- the CRC held with the count (R364) -/
  crc : Nat := 0
  /-- the domain's reset flag -/
  resetFlag : Bool := false
  /-- how many times the domain was lost -/
  lossGen : Nat := 0
  /-- the supply is VBAT -/
  onVbat : Bool := false
  /-- a step of R359 waits for the timebase's next second boundary -/
  stepDue : Bool := false
  /-- an internal shift is the pending one -/
  shiftInternal : Bool := false
  deriving DecidableEq, Repr

/-- A trend sample (R43): time, point, flags, value. -/
structure TrendSample where
  time : Nat
  point : Nat
  flags : Nat
  value : Nat
  deriving DecidableEq, Repr

/-- The trend cache, the eMMC archive and the transfer under way (R43). -/
structure TrendState where
  cache : List TrendSample := []
  archive : List TrendSample := []
  /-- points whose next sample carries the GAP flag -/
  gaps : List Nat := []
  /-- how many samples the archive holds when full -/
  capacity : Nat := 400000000
  deriving DecidableEq, Repr

/-- A COV subscription (R82): who and where, for which object, the lifetime asked for in s (0 indefinite), and the value and flags sent last. -/
structure CovSub where
  port : Nat
  client : Nat
  dest : Source
  process : Nat
  objType : Nat
  inst : Nat
  confirmed : Bool
  lifetime : Nat
  value : Nat
  flags : Nat
  deriving DecidableEq, Repr

/-- Points besides their entries (R81): COV subscriptions, points whose value is due at the next consumer boundary, points whose last
transfer was refused. -/
structure PtsState where
  covs : List CovSub := []
  dirty : List Nat := []
  failed : List Nat := []
  deriving DecidableEq, Repr

/-- The BACnet errors of R84, and those the services of R82 need besides. -/
inductive BacErr where
  | unknownObject
  | readAccessDenied
  | writeAccessDenied
  | invalidDataType
  | valueOutOfRange
  | deviceBusy
  | unknownProperty
  /-- no room for another COV subscription -/
  | noSpace
  deriving DecidableEq, Repr

/-- A property value or error in a BACnet answer: a number or enumeration or F32 word, octets, or the 16 priorities (`none` NULL). -/
inductive BacVal where
  | num (v : Nat)
  | text (bytes : List Nat)
  | prios (l : List (Option Nat))
  | error (e : BacErr)
  deriving DecidableEq, Repr

/-- What a frame in a transmit queue is, as R76, R118 and R122 tell frames apart: EAPOL, MKA, a PTP event message (with a two-step message to
follow it or not), or other traffic. -/
inductive TxKind where
  | traffic
  | eapol
  | mka
  | ptpEvent (followUp : Bool)
  deriving DecidableEq, Repr

/-- A frame in a transmit queue (R110 to R113): its length on the wire, its redundancy control trailer if it has one (R114), and its kind. -/
structure TxFrame where
  len : Nat
  trailer : Option Nat := none
  kind : TxKind := .traffic
  /-- sent again after an underrun, store-and-forward -/
  resend : Bool := false
  deriving DecidableEq, Repr

/-- A first copy in the duplicate table (R114): source MAC, sequence number, LAN it came on, second copy seen. -/
structure DupEntry where
  src : Nat
  seq : Nat
  lan : Nat
  second : Bool
  deriving DecidableEq, Repr

/-- One uplink's state besides its entries. -/
structure UplinkState where
  queues : List (List TxFrame) := [[], [], [], [], [], [], [], []]
  /-- the frame on the wire and its queue -/
  started : Option (Nat × TxFrame) := none
  /-- fast-timebase instant since which the uplink has been up and, under PRP, authorised -/
  usableSince : Option Nat := none
  /-- instant of the last speed shift -/
  lastShift : Option Nat := none
  /-- the 100BASE-TX link of STANDBY is up (R126) -/
  standbyLink : Bool := false
  /-- the best Announce data heard: grandmaster and rank -/
  master : Option (Nat × Nat) := none
  /-- a rise to `net_speed_max` after the downshift was disabled is due (R129) -/
  raiseDue : Bool := false
  /-- the speeds advertised since the PHY last began auto-negotiation (R105) -/
  advertised : List Nat := []
  /-- a reauthentication of the authorised uplink is under way (R76) -/
  reauth : Bool := false
  /-- the egress time stamp of the PTP event message started last (R113, R118) -/
  egress : Option Nat := none
  /-- MACsec (R121): the peer's SCI, the next packet number expected of it, and the next one of the module's own -/
  peerSci : Option Nat := none
  rxPn : Nat := 1
  txPn : Nat := 1
  deriving DecidableEq, Repr

/-- The uplinks (R105 to R130). -/
structure NetState where
  a : UplinkState := {}
  b : UplinkState := {}
  dup : List DupEntry := []
  nodes : List Nat := []
  proxies : List Nat := []
  /-- next PRP sequence number per destination MAC (R114) -/
  prpSeq : Tab Nat := []
  /-- MKA on uplink B waits for uplink A (R122) -/
  mkaBWaits : Bool := false
  /-- offset still to be slewed, in ns, and the frequency correction in force, in 10⁻⁹, which holdover keeps (R32, R119) -/
  slew : Int := 0
  freq : Int := 0
  /-- RUN has been entered since the last start (R32) -/
  ran : Bool := false
  /-- the PTP port in use has changed from one uplink to the other, which only slewing absorbs (R120) -/
  switched : Bool := false
  deriving DecidableEq, Repr

/-- The one outstanding Modbus request of a port (R150): entry, retries left, whether the last reply had a bad CRC. -/
structure MbOut where
  entry : Nat
  left : Nat
  crcBad : Bool
  deriving DecidableEq, Repr

/-- A frame in a field port's queue (R132): when it entered, its length, and how often a collision made it be sent again (R146). -/
structure PortFrame where
  at_ : Nat
  len : Nat
  tries : Nat
  deriving DecidableEq, Repr

/-- A bridge port's two transmit queues, oldest first, and the instant its line is free from (R132). -/
structure FieldTx where
  high : List PortFrame := []
  low : List PortFrame := []
  busy : Nat := 0
  /-- on T1S, the frames of the module's present transmit opportunity (R144, R146) -/
  sent : List PortFrame := []
  deriving DecidableEq, Repr

/-- An MS/TP master node (R148): tokens used since the last poll for masters, and the station polled last, none before the first poll. -/
structure MstpNode where
  tokens : Nat := 0
  polled : Option Nat := none
  deriving DecidableEq, Repr

/-- Field ports besides their entries (R131 to R151). -/
structure FldState where
  tx : Tab FieldTx := []
  mstp : Tab MstpNode := []
  /-- due Modbus entries of a port that wait, as (due time, entry), and the instant until which its bus stays silent (R150) -/
  mbDue : Tab (List (Nat × Nat)) := []
  mbQuiet : Tab Nat := []
  /-- broadcast and multicast frames admitted in the present 1 s window, per bridge port -/
  bcast : Tab Nat := []
  /-- instants of a port's faults (R140) -/
  faultTimes : Tab (List Nat) := []
  /-- ports that detect, with whether the signature they meet is within its limits (R138) -/
  detects : Tab Bool := []
  /-- denied ports still to be revisited, in order, behind the one under way (R142) -/
  revisit : List Nat := []
  /-- FIELD_PWR is out of range -/
  pwrBad : Bool := false
  /-- beaconing is stopped on a segment (R146) -/
  beaconStopped : Tab Bool := []
  mbOut : Tab MbOut := []
  /-- stations that failed every retry, as port × 256 + station, and when (R150) -/
  mbFailed : Tab Nat := []
  deriving DecidableEq, Repr

/-- A local-bus status slot (R162). -/
structure LbSlot where
  reqid : Nat
  state : Nat
  status : Nat
  seq : Nat
  deriving DecidableEq, Repr

/-- A frame of the bulk stream port (R166), without its CRC. -/
structure BspFrame where
  stream : Nat
  last : Bool
  seq : Nat
  xfer : Nat
  off : Nat
  payload : List Nat
  deriving DecidableEq, Repr

/-- An outbound transfer: the bytes still to be sent and how many have been. -/
structure BspXfer where
  stream : Nat
  xfer : Nat
  off : Nat
  rest : List Nat
  deriving DecidableEq, Repr

/-- A posted write that waits (R161): word address, word, and what its request would meet at the object service (R69 step 4). -/
structure BusWrite where
  addr : Nat
  value : Nat
  queueFull : Bool
  deriving DecidableEq, Repr

/-- Local bus, Wafer window and bulk stream port (R152 to R169). -/
structure LbsState where
  /-- the posted-write queue, oldest first: word address and data -/
  queue : List BusWrite := []
  /-- descriptor words as the drained writes left them -/
  regs : Tab Nat := []
  slots : Tab LbSlot := []
  /-- LBW_DONE -/
  done : Nat := 0
  /-- refreshed window words -/
  words : Tab Nat := []
  /-- refresh count of each group, by period -/
  gens : Tab Nat := []
  /-- words whose mapping changed since their group's last refresh (R160) -/
  pendingW : List Nat := []
  txSeq : Nat := 0
  rxSeq : Nat := 0
  /-- frames sent and not acknowledged, oldest first -/
  unacked : List BspFrame := []
  xfers : List BspXfer := []
  timeouts : Nat := 0
  /-- inbound credits withheld during an MPR: sequence and code -/
  withheld : List (Nat × Nat) := []
  /-- sequences of inbound frames that a NAK has asked for again, and of the 16 accepted last: their next arrival is a resend (R167) -/
  discarded : List Nat := []
  accepted : List Nat := []
  /-- the stream 0x04 transfer arriving: its ID and bytes so far -/
  imgIn : Option (Nat × List Nat) := none
  /-- complete stream 0x04 transfers not yet checked (R399), oldest first -/
  imgDone : List (List Nat) := []
  deriving DecidableEq, Repr

/-- A HART transaction under way: channel, kind (0 identify, 1 command 3, 2 pass-through), already retried. -/
structure HartTx where
  chan : Nat
  kind : Nat
  retried : Bool
  deriving DecidableEq, Repr

/-- Analogue channels and HART besides their entries (R170 to R187). -/
structure AnaState where
  /-- the F32 command in mA or V that an output terminal is driven with; a channel not listed is off -/
  drive : Tab Nat := []
  /-- the transaction of each modem, and the channel it visited last -/
  hartTx : Tab HartTx := []
  visited : Tab Nat := []
  /-- fast-timebase instant of a channel's last cyclic read -/
  lastPoll : Tab Nat := []
  /-- queued pass-through requests -/
  pass : Tab Nat := []
  /-- channels under reconfiguration (R176) -/
  reconf : List Nat := []
  /-- the mis-wiring codes of R179 of a channel's AI_LP and AI_IO, 0 for none -/
  wires : Tab (Nat × Nat) := []
  deriving DecidableEq, Repr

/-- A bank's step besides its entries (R193, R200). -/
structure TurnBank where
  /-- the spare is being calibrated for the second time in a row -/
  second : Bool := false
  /-- the check exceeded `cal_agree` once in this step -/
  aborted : Bool := false
  /-- over-range repeats of the check made; a repeat is due -/
  repeats : Nat := 0
  repeatDue : Bool := false
  /-- faded samples delivered -/
  faded : Nat := 0
  /-- the converter released by the fade -/
  released : Nat := 0
  /-- the next step fell due during this one (R192) -/
  due : Bool := false
  /-- the step was abandoned for a reconfiguration of its channel, and the instant from which it is repeated (R200) -/
  again : Bool := false
  againAt : Option Nat := none
  deriving DecidableEq, Repr

/-- A hand-over of an energy channel: the number of its first sample, the converter before it and the one after it, and whether it is a fade of 64 samples
or a switch. -/
structure Handover where
  first : Nat
  old : Nat
  new : Nat
  fade : Bool
  deriving DecidableEq, Repr

/-- The Turnover sequencer (R188 to R201). -/
structure TurnState where
  banks : Tab TurnBank := []
  /-- consecutive failed comparisons of VREF and IREF (R189) -/
  vrefBad : Nat := 0
  irefBad : Nat := 0
  /-- the sequencer or a reference has failed (R198) -/
  stopped : Bool := false
  /-- channels without a converter, as bank × 16 + j (R198) -/
  dead : List Nat := []
  /-- analogue channels in the gap of a converter failure, by the same number (R198) -/
  gap : List Nat := []
  /-- the last hand-over of each energy channel, by the same number (R194, R198) -/
  handed : Tab Handover := []
  deriving DecidableEq, Repr

/-- What a line cycle is computed with: the configuration committed when it began (R212, R222). -/
structure NrgCfg where
  enable : Bool
  vRatio : List Nat
  iRatio : List Nat
  iKind : List Nat
  /-- fractional delays of the voltage and of the current inputs, in 1/1,024 sample (R204) -/
  vDelay : List Int
  iDelay : List Int
  ibase : Nat
  noload : Nat
  /-- the sum meters that name the circuit -/
  sums : List Nat
  deriving DecidableEq, Repr

/-- Per-phase values of the cycles of the present averaging window, as sums of binary64 words (R207). -/
structure NrgWin where
  cycles : Nat
  p : List Nat
  q : List Nat
  v : List Nat
  i : List Nat
  f : Nat
  /-- phases of which a voltage, or a current, came from an input without a converter (R198) -/
  vBad : List Bool
  iBad : List Bool
  deriving DecidableEq, Repr

/-- The cycle in progress of a circuit: the phase whose crossing began it, and its beginning in 1/3,072 sample (R205, log entry 48). -/
structure CycleRef where
  phase : Nat
  start : Nat
  deriving DecidableEq, Repr

/-- A waveform capture under way (R220): circuit, cycles still to come, number and time of its first sample, and the values taken. -/
structure Capture where
  circuit : Nat
  left : Nat
  first : Nat
  time : Nat
  words : List Nat
  deriving DecidableEq, Repr

/-- The metrology engine besides its entries and the Meringue groups (R202 to R226). -/
structure NrgState where
  cfg : Tab NrgCfg := []
  win : Tab NrgWin := []
  /-- Rogowski integrators: u and the last x, as binary64 words -/
  integ : Tab (Nat × Nat) := []
  /-- pulse outputs whose switch is closed -/
  closed : List Nat := []
  /-- cycles in progress -/
  ref : Tab CycleRef := []
  /-- the readings of each input in its last three complete cycles, newest first, from the number of the first, as binary64 words (R198) -/
  prev : Tab (List (Nat × List Nat)) := []
  /-- circuit of the capture armed last, the least number of its first sample, and the capture whose cycles are being taken -/
  capCircuit : Nat := 0
  capFrom : Nat := 0
  cap : Option Capture := none
  deriving DecidableEq, Repr

/-- A loop slot's states (R229 to R240), signals in units of 2⁻⁴⁰. -/
structure LoopState where
  s1 : List Int := []
  s2 : List Int := []
  /-- the next automatic sample is a transfer from the output delivered last (R239) -/
  transfer : Bool := false
  /-- the next automatic sample starts soft-start (R238) -/
  soft : Bool := false
  /-- effective set-point, a binary64 word -/
  spEff : Nat := 0
  /-- the tick of the latest sample -/
  last : Option Nat := none
  deriving DecidableEq, Repr

/-- A repetitive unit (R242): memory words that are not 0, index, Q-filter states, whether it is to be zeroed, largest word
of the present period. -/
structure RepUnit where
  mem : Tab Int := []
  idx : Nat := 0
  q1 : Int := 0
  q2 : Int := 0
  clear : Bool := false
  deriving DecidableEq, Repr

/-- The control-law engine (R227 to R250). -/
structure CtlState where
  slots : Tab LoopState := []
  reps : Tab RepUnit := []
  /-- self-checks are running (R244) -/
  checking : Bool := false
  deriving DecidableEq, Repr

/-- A motion channel's commanded state and referencing (R253 to R266). Words are binary64. -/
structure MotChan where
  x : Nat := 0
  v : Nat := 0
  a : Nat := 0
  /-- remaining segments: duration and jerk -/
  plan : List (Nat × Nat) := []
  /-- the count the plan ends at exactly -/
  goal : Option Int := none
  /-- target in force, and a replan is due at the next tick -/
  tgt : Int := 0
  replan : Bool := false
  /-- a limit has changed and takes effect at the next tick (R256) -/
  relim : Bool := false
  /-- shift of the position due at the next tick (R275) -/
  shift : Int := 0
  /-- velocity limit the lift logic gives in place of `mot_v_max` -/
  vcap : Option Nat := none
  /-- referencing: 0 none, 1 stopping, 2 settling, 3 moving to the stop, 4 backing off, 5 car moving to its edge -/
  phase : Nat := 0
  /-- position at which the reference move began -/
  refFrom : Nat := 0
  /-- ticks without a valid load angle since the reference speed was reached -/
  noDelta : Nat := 0
  loadUp : Nat := 0
  loadDown : Nat := 0
  stallUp : Nat := 0
  lastDelta : Option Nat := none
  /-- filtered back-EMF components e_A and e_B (R261) -/
  ea : Nat := 0
  eb : Nat := 0
  /-- count as sent in steps, and the direction of the last step -/
  sent : Int := 0
  lastUp : Bool := true
  /-- encoder position minus encoder count (R266) -/
  encOff : Int := 0
  deriving DecidableEq, Repr

/-- The motion and step generator (R251 to R271). -/
structure MotState where
  chans : Tab MotChan := []
  /-- a retested lane takes the other's state at the next tick (R267) -/
  resync : Bool := false
  deriving DecidableEq, Repr

/-- A run of a car (R278, R283, R284). Kinds: 0 to a landing, 1 correction, 2 learning, 3 relevel, 4 relevel with doors open, 5 inspection,
6 levelling at `lft_v_corr`, 7 fault stop, 8 stop on the brake. Steps: 0 permit and drive output, 1 magnetising, 2 brake opening, 3 moving,
4 stopped, 5 brake released, 6 ended. -/
structure LiftRun where
  kind : Nat
  dest : Nat
  step : Nat := 0
  /-- correction: 0 up off TERM_DN, 1 down to TERM_DN, 2 reference move, 3 levelling at landing 0, 4 learning upward, 5 TERM_UP reached,
  6 slowing after it -/
  phase : Nat := 0
  /-- edges recorded when TERM_UP became active (R277) -/
  mark : Nat := 0
  up : Bool := false
  noOpen : Bool := false
  thenHeld : Bool := false
  deriving DecidableEq, Repr

/-- What the lift logic has yet to do at its next cycle, the only time it changes `lft_state` (R282): the action of a fault code taken, a
relevelling, a run to the park landing, a learning run, the states after an entry into SAFE_HOLD. -/
inductive LiftDue where
  | fault (code : Nat)
  | relevel
  | park
  | learn
  | hold
  deriving DecidableEq, Repr

/-- A car besides its entries (R272 to R299). -/
structure LiftCar where
  brakeReq : Bool := false
  driveReq : Bool := false
  bridge : Bool := false
  /-- control word of the command frame: ENABLE, RUN, FAULT_RESET -/
  enable : Bool := false
  runBit : Bool := false
  resetBit : Bool := false
  run : Option LiftRun := none
  /-- status word of the drive, command frames unanswered, link lost and not restored -/
  drive : Nat := 0
  missed : Nat := 3
  lost : Bool := false
  cmdSeq : Nat := 0
  pubSeq : Nat := 0
  /-- `mot_latch_seq` of the last DZ edge examined -/
  vaneSeq : Nat := 0
  /-- encoder counts of the last cycles, newest first -/
  window : List Int := []
  fire2 : Bool := false
  safeHeld : Bool := false
  resetAsked : Bool := false
  levelDue : Bool := false
  openDue : Bool := false
  nudgeRun : Bool := false
  nudge : Bool := false
  /-- DZ edges of a learning run, oldest first: rising, count -/
  edges : List (Bool × Int) := []
  learnDone : Bool := false
  /-- what the logic has yet to do at its next cycle (R282) -/
  due : List LiftDue := []
  /-- SREF in units of 20 V / 65,536 -/
  sref : Int := 0
  deriving DecidableEq, Repr

/-- A door besides its entries (R289 to R293). `held` says why it is HELD: 1 obstruction, 2 DOOR_PERMIT, 3 SAFE_HOLD, 4 blocked opening, 5 inspection, 6 a retried opening
that is due. -/
structure LiftDoor where
  blocked : Nat := 0
  needRef : Bool := false
  forceUp : Nat := 0
  /-- the force has stood at `lft_door_fmax` for two ticks since the last cycle (R291) -/
  forceHit : Bool := false
  held : Nat := 0
  /-- referenced against its closed stop and not opened since (R289) -/
  fresh : Bool := false
  /-- phase II: the stroke is a reversed one and goes on to its end (R297) -/
  reversed : Bool := false
  deriving DecidableEq, Repr

/-- Lift car and door control (R272 to R304). -/
structure LiftState where
  cars : Tab LiftCar := []
  doors : Tab LiftDoor := []
  /-- calls applied and not yet entered in the table: acceptance number, car, value -/
  calls : List (Nat × Nat × Nat) := []
  deriving DecidableEq, Repr

/-- An input pair besides its entries (R309 to R312). -/
structure PairState where
  /-- cycles the channels have disagreed; those of hand 2 of a two-hand control (R310) -/
  disc : Nat := 0
  disc2 : Nat := 0
  /-- steps of R309 passed since the latch was set -/
  phase : Nat := 0
  /-- cycles the reset source has been 1 -/
  rst : Nat := 0
  /-- cycles each hand has been actuated -/
  h1 : Option Nat := none
  h2 : Option Nat := none
  sync : Bool := false
  /-- pulses of the last 40 cycles, cycles since a pulse, and pulses since the other channel's last pulse -/
  winA : List Nat := []
  winB : List Nat := []
  quietA : Nat := 0
  quietB : Nat := 0
  sinceA : Nat := 0
  sinceB : Nat := 0
  slow : Bool := false
  /-- levels that passed the input filter, and the cycles in a row each input has stood otherwise (R307) -/
  a : Bool := false
  b : Bool := false
  offA : Nat := 0
  offB : Nat := 0
  deriving DecidableEq, Repr

/-- A safety output besides its entries (R314 to R317). -/
structure OutState where
  on : Bool := false
  /-- EDM: 0 settled off, 1 switching off, 2 pulling in, 3 on -/
  stage : Nat := 0
  timer : Nat := 0
  /-- the latest readback failed -/
  bad : Bool := false
  /-- pulses of the first test after VSAFE_LOW still to be passed (R422) -/
  tests : Nat := 0
  deriving DecidableEq, Repr

/-- The island's view of a car (R294 to R296) as of its last cycle. -/
structure CarPermit where
  dz : Bool := false
  slow : Bool := false
  run : Bool := false
  door : Bool := false
  deriving DecidableEq, Repr

/-- A message accepted from one copy (R321): number, PDU, absent LAN, and its place in the count of accepted messages. -/
structure MacSingle where
  num : Nat
  pdu : List Nat
  absent : Nat
  place : Nat
  deriving DecidableEq, Repr

/-- A Macaron connection besides its entries (R320 to R322). -/
structure MacConn where
  /-- last number sent or accepted -/
  last : Option Nat := none
  /-- the copies held, in the order they came: LAN, number, PDU -/
  held : List (Nat × Nat × List Nat) := []
  singles : List MacSingle := []
  /-- data bits applied as remote signals -/
  applied : Nat := 0
  needAck : Bool := false
  deriving DecidableEq, Repr

/-- The safety island (R305 to R334). -/
structure SafState where
  pairs : Tab PairState := []
  outs : Tab OutState := []
  cars : Tab CarPermit := []
  conns : Tab MacConn := []
  /-- SAFE_HOLD is to be left (R324) -/
  exitDue : Bool := false
  deriving DecidableEq, Repr

/-- A program slot besides its entries (R335 to R348). Images and data are bytes. -/
structure PrgSlot where
  /-- running image and flash staging slot, both in flash -/
  image : List Nat := []
  staged : List Nat := []
  /-- committed data -/
  data : List Nat := []
  /-- data of the cycle under way, with its inputs latched -/
  cyc : Option (List Nat) := none
  started : Bool := false
  /-- TIME64 of the last cycle start -/
  startAt : Nat := 0
  /-- accepted exchanges not yet applied, in order: acceptance number and operation -/
  pend : List (Nat × Nat) := []
  /-- applied exchange whose first new cycle has not ended -/
  first : Option Nat := none
  /-- consecutive overruns -/
  overruns : Nat := 0
  /-- logical port whose check runs -/
  checkPort : Nat := 0
  /-- outputs due at the next commit tick -/
  due : List ElemW := []
  deriving DecidableEq, Repr

/-- Cyclic programs (R335 to R349). -/
structure PrgState where
  slots : Tab PrgSlot := []
  /-- the program whose cycle started last, and the one whose cycle ended normally last (R336, R346) -/
  turn : Nat := 3
  ended : Nat := 3
  /-- the next acceptance number when the data returned to its defaults (R345) -/
  bootSeq : Nat := 0
  /-- cycles of the last second: end on the fast timebase, and cycle time in µs -/
  hist : List (Nat × Nat) := []
  deriving DecidableEq, Repr

/-- Firmware update (R396 to R405). Images are held as their blocks. -/
structure UpdState where
  /-- the Proofing area -/
  proof : Tab (List Nat) := []
  /-- the block in the program buffer: number and bytes -/
  prog : Option (Nat × List Nat) := none
  /-- type, attributes and material of the key a running verification uses -/
  verKey : Nat × Nat × List Nat := (0, 0, [])
  /-- the slot the boot record names, and the images of the slots -/
  boot : Nat := 0
  slots : Tab (Tab (List Nat)) := []
  /-- the last start runs the fall-back image; it found no image to start -/
  fellBack : Bool := false
  noImage : Bool := false
  /-- nanoseconds of the present second of PROBATION -/
  probNs : Nat := 0
  deriving DecidableEq, Repr

/-- Key challenges (R409): the number of the free value of slot 0 at the last start, and of each challenge renewed since. -/
structure KeyState where
  base : Nat := 0
  renewed : Tab Nat := []
  deriving DecidableEq, Repr


/-- One item of a COP response. -/
structure RespItem where
  index : Nat
  first : Nat
  count : Nat
  ty : Nat
  status : Nat
  data : List Nat
  deriving DecidableEq, Repr

/-- What the module sends out. -/
inductive Out where
  /-- a COP response (R68): to whom and on which physical ports (R72), operation, frame status, handle, DEGRADED flag, acceptance number, items -/
  | cop (client : Who) (ports : List Nat) (op status handle : Nat) (degraded : Bool) (seq : Nat) (items : List RespItem)
  /-- I-Am (R82): device instance and the largest APDU of the port's data link (R85) -/
  | bacIAm (port dev maxApdu : Nat)
  /-- I-Have (R82) -/
  | bacIHave (port dev objType inst : Nat) (name : List Nat)
  /-- the values of a ReadProperty or ReadPropertyMultiple, in the order asked -/
  | bacValues (port : Nat) (vals : List BacVal)
  /-- Simple-ACK of a write (with the acceptance number it follows, R85) or of a subscription (0) -/
  | bacAck (port seq : Nat)
  | bacError (port : Nat) (e : BacErr)
  /-- Reject of reason unrecognized-service -/
  | bacReject (port invoke : Nat)
  /-- Abort: the answer would need segmentation (R85) -/
  | bacAbort (port : Nat)
  /-- a COV notification: port, client, process, object type and instance, confirmed, value, flags -/
  | bacCov (port client process objType inst : Nat) (confirmed : Bool) (value flags : Nat)
  /-- foreign-device registration with a BBMD: address and UDP port, time-to-live in s -/
  | bacRegister (bbmd ttl : Nat)
  /-- EAPOL-Start on an uplink (R76) -/
  | eapolStart (u : Nat)
  /-- a supervision frame on a LAN for a node; 0 is the module itself (R115, R116) -/
  | supervision (u node : Nat)
  /-- a received frame handed to an internal port (R19): its kind and length -/
  | routed (k : FrameKind) (len : Nat)
  /-- a two-step peer-delay response (R118) on the transport of `net_ptp_transport` -/
  | pdelayResp (u transport : Nat)
  /-- the message that follows a two-step one, with the egress time stamp of that one (R118) -/
  | pdelayFollowUp (u stamp : Nat)
  /-- a delay request, or a peer-delay request, of the slave (R118) -/
  | delayReq (u : Nat) (peer : Bool) (transport : Nat)
  /-- an MKA frame: key-server priority and SCI (R121) -/
  | mka (u priority sci : Nat)
  /-- a frame put on the wire: uplink, queue, length, resend, its redundancy control trailer (R114), SCI and packet number of its SecTAG (R121) -/
  | txStart (u queue len : Nat) (resend : Bool) (trailer : Option Nat) (secTag : Option (Nat × Nat))
  /-- a frame ended with an inverted FCS (R113) -/
  | txAborted (u queue : Nat)
  /-- auto-negotiation restarted, advertising the given speeds, with Energy-Efficient Ethernet or without (R105, R126) -/
  | negotiate (u : Nat) (speeds : List Nat) (eee : Bool)
  /-- a BEACON on a T1S segment (R143) -/
  | beacon (seg : Nat)
  /-- frames the module sends on a field port (R144) -/
  | fieldTx (port count : Nat)
  /-- MS/TP frames sent on a token, and the station the token passes to (R148) -/
  | mstpSent (p count next : Nat)
  /-- a station polled for being a master, and the token sent once more (R148) -/
  | mstpPoll (p station : Nat)
  | mstpRetry (p next : Nat)
  /-- a Modbus request: station, function, address and data words (R149) -/
  | modbus (p station func addr : Nat) (data : List Nat)
  /-- a BSP frame sent -/
  | bspFrame (f : BspFrame)
  /-- a BSP credit returned: sequence, code 0x00 ACK or 0x01 NAK -/
  | bspCredit (seq code : Nat)
  /-- LBW_DONE as a bus read returns it -/
  | lbwDone (bits : Nat)
  /-- a HART request (R182 to R185): channel, whether as the secondary master, long-frame address or none for polling address 0, command, data -/
  | hart (c : Nat) (secondary : Bool) (addr : Option Nat) (cmd : Nat) (data : List Nat)
  /-- a step pulse of a channel, upward or downward (R259) -/
  | step (c : Nat) (up : Bool)
  /-- a command frame on a car's drive link (R279): T1L port, destination, payload -/
  | driveCmd (k port mac : Nat) (bytes : List Nat)
  /-- a car status datagram (R288) -/
  | liftStatus (k : Nat) (bytes : List Nat)
  /-- the error of a refused fabric access, returned to its master (R22) -/
  | fabricError (master : FabricMaster) (address : Nat)
  /-- a stalled DRAM read completes (R27): page, word offset, word -/
  | dramRead (page off word : Nat)
  /-- a Macaron message of a connection (R320): number and PDU, once on each LAN -/
  | macaron (c peer num : Nat) (pdu : List Nat)
  deriving DecidableEq, Repr

/-- The state of the module. -/
structure State where
  variant : Variant
  /-- commands waiting, first in, first out -/
  pending : List Instr
  /-- the model's own counter: how many free values have been taken (log entry 6) -/
  free : Nat
  mode : Mode
  /-- the fast timebase, TIME64 (R32) -/
  now : Nat
  /-- periods of the 32.768 kHz crystal since the model's start (R350) -/
  crystal : Nat
  /-- the flash configuration is present and passes its check (R48) -/
  flashValid : Bool
  od : List Cell
  /-- what has been sent, newest first -/
  out : List Out
  mer : Meringue
  sys : SysState
  txn : TxnState
  nvs : NvsState
  recd : RecState
  rtc : RtcState
  trend : TrendState
  pts : PtsState
  net : NetState
  fld : FldState
  lbs : LbsState
  /-- transfer IDs given out (R166) -/
  nextXfer : Nat
  ana : AnaState
  turn : TurnState
  nrg : NrgState
  ctl : CtlState
  mot : MotState
  lft : LiftState
  saf : SafState
  prg : PrgState
  upd : UpdState
  keys : KeyState
  dram : DramState
  deriving DecidableEq, Repr

/-- Why the machine stops with a fault. No rule of the manual stops the module without an effect, so nothing raises it. -/
inductive Fault where
  /-- raised by nothing: every fault the manual describes is a state the module goes on from (safe) -/
  | none
  deriving DecidableEq, Repr

/-- Why a command is refused by the model. -/
inductive Refusal where
  /-- the command has no meaning in the model yet (safe) -/
  | notModelled (mnemonic : String)
  deriving DecidableEq, Repr

/-- The module right after reset: in BOOT, every entry at its default, nothing sent, no command waiting. The variant X
and a valid flash configuration are the model's choice (log entries 1 and 2). -/
def State.reset : State where
  variant := .x
  pending := []
  free := 64
  mode := .boot
  now := 0
  crystal := 0
  flashValid := true
  od := []
  out := []
  mer := {}
  sys := { sram := some ⟨[], {}, 0⟩ }
  txn := {}
  nvs := {}
  recd := {}
  rtc := {}
  trend := {}
  pts := {}
  net := {}
  fld := {}
  lbs := {}
  nextXfer := 0
  ana := {}
  turn := {}
  nrg := {}
  ctl := {}
  mot := {}
  lft := {}
  saf := {}
  prg := {}
  upd := {}
  keys := {}
  dram := {}

end Sys2Proof.Machine
end

