-- ==== Sys2Proof/Machine/Ops.lean ====
section
/-!
DEFINITION. The named operations every chapter uses: the sparse store of dictionary elements, sparse tables, free values,
the clock views, recorder events, mode changes and faults.
-/
namespace Sys2Proof.Machine

/-! ## Sparse tables -/

/-- The entry of a table at `k`, or `d`. -/
def tabGet {α : Type} (d : α) (k : Nat) : Tab α → α
  | [] => d
  | p :: ps => if p.1 = k then p.2 else tabGet d k ps

/-- A table with `k` set to `v`, keys ascending. -/
def tabPut {α : Type} (k : Nat) (v : α) : Tab α → Tab α
  | [] => [(k, v)]
  | p :: ps => if p.1 = k then (k, v) :: ps else if k < p.1 then (k, v) :: p :: ps else p :: tabPut k v ps

/-- A table without `k`. -/
def tabDel {α : Type} (k : Nat) (t : Tab α) : Tab α := t.filter (fun p => p.1 != k)

/-- A list with position `k` changed. -/
def modAt {α : Type} (f : α → α) : Nat → List α → List α
  | _, [] => []
  | 0, a :: as => f a :: as
  | k + 1, a :: as => a :: modAt f k as

/-! ## The dictionary: which elements exist (R2, R5, R6, R7) -/

/-- The row of an index, `none` where the module defines none (R6). A point index is one row of 18 F32 elements (R80);
a vendor diagnostics index is one U32 element, whose type the manual does not state (log entry 8). The indices that no table of the spec lists
are left undefined, though R5 counts them (log entry 194). -/
def entryDef? (i : Nat) : Option EntryDef :=
  if 0x4000 ≤ i ∧ i ≤ 0x5FFF then some ⟨i, .f32, .rw, .N, 18, if i < 0x4800 then 18 else 0, 0, 0, .f32nan⟩
  else if 0x8000 ≤ i ∧ i ≤ 0x80FF then some ⟨i, .u32, .ro, .N, 1, 1, 0, 0, .any⟩
  else (catPage (i / 256)).find? (fun d => d.idx == i)

/-- The access code of an element (R10); the elements of a point differ (R80). -/
def accOf (d : EntryDef) (e : Nat) : Acc := if 0x4000 ≤ d.idx ∧ d.idx ≤ 0x5FFF ∧ e = 0 then .ro else d.acc

/-- The survival class of an element (R12); the elements of a point differ (R80). -/
def keptOf (i e : Nat) : Kept :=
  if 0x4000 ≤ i ∧ i ≤ 0x5FFF then (if e = 0 then .N else if e ≤ 16 then .W else .F)
  else match entryDef? i with
    | some d => d.kept
    | none => .N

/-- Elements of S that a bare count does not describe: `some true` where the variant lacks the resource. -/
def absentSpecial (i e : Nat) : Option Bool :=
  if 0x1210 ≤ i ∧ i ≤ 0x1217 then some (!(e < 8 || (16 ≤ e && e < 20)))
  else if i = Od.nrg_delay then some ((decide (3 ≤ e) && decide (e < 6)) || decide (18 ≤ e))
  else if i = Od.nrg_pmax ∨ i = Od.nrg_max_read ∨ i = Od.nrg_pnet ∨ i = Od.nrg_pulse_const ∨ i = Od.nrg_pulse_stamp then
    some (decide (4 ≤ e) && decide (e < 8))
  else if 0x2410 ≤ i ∧ i ≤ 0x2413 then some (decide (24 ≤ e) && decide (e < 48))
  else if 0x2100 ≤ i ∧ i ≤ 0x210B then some (e == 2 || e == 3 || decide (5 ≤ e))
  else if i = 0x2110 then some (e / 16 == 2 || e / 16 == 3 || decide (5 ≤ e / 16))
  else if 0x2111 ≤ i ∧ i ≤ 0x2117 then some (e / 64 == 2 || e / 64 == 3 || decide (5 ≤ e / 64))
  else none

/-- The source prefix fe80::/10 of factory logical port 1 (R77), in the layout of `od_port_src`. -/
def linkLocalPrefix : Nat := 0xFE80 * 256 ^ 15 + 10

/-- The label "slot-" and n in two decimal digits of R406, padded to 32 bytes. -/
def slotLabel (n : Nat) : Nat := ofBytes [0x73, 0x6C, 0x6F, 0x74, 0x2D, 0x30 + n / 10 % 10, 0x30 + n % 10] * 256 ^ 25

/-- The factory assignment of a bank: converter j serves channel j (log entry 22). -/
def factoryMap (b : Nat) : Nat := ofBytes ((List.range 16).map (fun j => if j < (if b < 4 then 8 else 15) then j else 0xFF))

/-- Whether an element of the per-converter-class entries names a converter and class of its bank (R188, R201). -/
def calClassExists (e : Nat) : Bool :=
  if e / 64 < 4 then decide (e / 4 % 16 ≤ 8) && decide (e % 4 ≤ 2) else decide (e % 4 ≤ 1)

/-- Defaults that the tables give by formula or by element (R77, R80, R104, R188 and others). -/
def dfltSpecial (v : Variant) (i e : Nat) : Option Nat :=
  if i = Od.sys_variant then some (match v with | .x => 0 | .s => 1)
  else if i = Od.od_port_kind then some (if e = 0 then 5 else if e = 1 then 1 else 0)
  else if i = Od.od_port_phys then some (if e = 1 then 2 else 0)
  else if i = Od.od_port_src then some (if e = 1 then linkLocalPrefix else 0)
  else if i = Od.od_tenant_rights then some (if e = 0 then 0x00FF else if e = 1 then 0x0002 else if e = 2 then 0x0042 else 0)
  else if i = Od.od_grant_lo then some (if e = 0 then 0x1000 else if e = 32 then 0x2400 else if e = 64 then 0x3000 else 0)
  else if i = Od.od_grant_hi then some (if e = 0 then 0x80FF else if e = 32 then 0x27FF else if e = 64 then 0x37FF else 0)
  else if i = Od.od_grant_rights then some (if e = 0 ∨ e = 32 ∨ e = 64 then 3 else 0)
  else if i = Od.od_pt_inst then some e
  else if i = Od.net_speed_max then some (match v with | .x => 10000 | .s => 2500)
  else if i = Od.net_q_pcp then some (([0, 0, 1, 1, 2, 3, 4, 4] : List Nat).getD e 0)
  else if i = Od.net_q_own then some (([4, 3, 1, 4] : List Nat).getD e 0)
  else if i = Od.ana_hart_modem then some (match v with | .x => e % 8 | .s => e % 4)
  else if i = Od.cal_map then some (factoryMap e)
  else if i = Od.cal_spare then some (if e < 4 then 8 else 15)
  else if i = Od.cal_gain then some (if calClassExists e then 0x3F80_0000 else 0)
  else if i = Od.ctl_rep_q then some (if e % 5 = 0 then 0x1000_0000 else 0)
  else if i = Od.upd_slot_state then some 1
  else if i = Od.key_lc_label then some (slotLabel e)
  else none


/-- Whether an element describes a resource the variant lacks (R2, R3). -/
def absent (v : Variant) (d : EntryDef) (e : Nat) : Bool :=
  match v with
  | .x => d.idx == Od.net_downshift || d.idx == Od.net_shift_count || d.idx == Od.net_shift_load
  | .s => match absentSpecial d.idx e with
    | some b => b
    | none => decide (d.nS ≤ e)

/-- The default of an element (R12, the Default column), with the defaults that the tables give by formula. -/
def dfltOf (v : Variant) (i e : Nat) : Nat :=
  if 0x4000 ≤ i ∧ i ≤ 0x5FFF then (if 1 ≤ e ∧ e ≤ 16 then f32NaN else 0)
  else match entryDef? i with
    | some d => (dfltSpecial v i e).getD d.dflt
    | none => 0

/-- Bits of an element. -/
def widthOf (i : Nat) : Nat :=
  match entryDef? i with
  | some d => 8 * d.ty.size
  | none => 0

/-! ## The sparse store -/

/-- The listed value of an element. -/
def odGet (i e : Nat) : List Cell → Option Nat
  | [] => none
  | c :: cs => if c.index = i ∧ c.elem = e then some c.value else odGet i e cs

/-- Whether element `(i, e)` comes before cell `c`. -/
def cellBefore (i e : Nat) (c : Cell) : Bool := i < c.index || (i == c.index && e < c.elem)

/-- A cell put at its place. -/
def odInsert (i e v : Nat) : List Cell → List Cell
  | [] => [⟨i, e, v⟩]
  | c :: cs => if cellBefore i e c then ⟨i, e, v⟩ :: c :: cs else c :: odInsert i e v cs

/-- The store with an element set: the old cell goes, and a new one is listed unless the value is the default `d`. -/
def odPut (d i e v : Nat) (cs : List Cell) : List Cell :=
  let rest := cs.filter (fun c => !(c.index == i && c.elem == e))
  if v = d then rest else odInsert i e v rest

/-- The committed value of element `e` of index `i`. -/
def State.rd (s : State) (i : Nat) (e : Nat := 0) : Nat :=
  match odGet i e s.od with
  | some v => v
  | none => dfltOf s.variant i e

/-- The state with element `e` of index `i` holding `v`, cut to the element's width. -/
def State.wr (s : State) (i : Nat) (v : Nat) (e : Nat := 0) : State :=
  { s with od := odPut (dfltOf s.variant i e) i e (v % 2 ^ widthOf i) s.od }

/-- The state with an element back at its default. -/
def State.toDefault (s : State) (i : Nat) (e : Nat := 0) : State := s.wr i (dfltOf s.variant i e) e

/-- The canonical form of the store: strictly rising, no cell at its default, no value beyond its element's width. -/
def odWf (v : Variant) : List Cell → Bool
  | [] => true
  | c :: cs =>
    (match cs with
      | [] => true
      | c' :: _ => cellBefore c.index c.elem c') &&
    c.value != dfltOf v c.index c.elem && decide (c.value < 2 ^ widthOf c.index) && odWf v cs

/-- The elements `0` to `n - 1` of an index changed by `f`. -/
def State.wrAll (s : State) (i n v : Nat) : State := (List.range n).foldl (fun s e => s.wr i v e) s

/-- A signed element. -/
def State.rdInt (s : State) (i : Nat) (e : Nat := 0) : Int := toInt (widthOf i) (s.rd i e)

/-- A signed value written to an element. -/
def State.wrInt (s : State) (i : Nat) (v : Int) (e : Nat := 0) : State := s.wr i (ofInt (widthOf i) v) e

/-- A finite F32 element as an exact fraction. -/
def State.rdQ (s : State) (i : Nat) (e : Nat := 0) : Frac := f32q (s.rd i e)

/-- An F32 element set to the nearest binary32 value of a fraction. -/
def State.wrQ (s : State) (i : Nat) (q : Frac) (e : Nat := 0) : State := s.wr i (qf32 q) e

/-- A counter entry increased by `n`. Where the count passes the top of its type and the manual states neither a
saturation nor a wrap, the value is free (log entry 9). -/
def State.count (s : State) (i : Nat) (e : Nat := 0) (n : Nat := 1) : State :=
  let v := s.rd i e + n
  s.wr i (if v < 2 ^ widthOf i then v else Config.counterOverflow i e) e

/-- A counter entry increased by one, saturating at the top of its type. -/
def State.countSat (s : State) (i : Nat) (e : Nat := 0) : State :=
  let v := s.rd i e + 1
  s.wr i (if v < 2 ^ widthOf i then v else 2 ^ widthOf i - 1) e

/-- A counter entry increased by one, modulo its width. -/
def State.countMod (s : State) (i : Nat) (e : Nat := 0) : State := s.wr i (s.rd i e + 1) e

/-- One bit of an entry set or cleared. -/
def State.wrBit (s : State) (i b : Nat) (on : Bool) (e : Nat := 0) : State := s.wr i (putBit (s.rd i e) b on) e

/-- One bit of an entry. -/
def State.rdBit (s : State) (i b : Nat) (e : Nat := 0) : Bool := (s.rd i e).testBit b

/-! ## Free values -/

/-- The next free value. -/
def State.freeVal (s : State) : Nat := Config.freeValue s.free

/-- The state after one free value has been taken. -/
def State.tookFree (s : State) (n : Nat := 1) : State := { s with free := s.free + n }

/-! ## Sending -/

/-- The state after something has been sent. -/
def State.send (s : State) (o : Out) : State := { s with out := o :: s.out }

/-! ## Clock views (R351) -/

/-- `rtc_time`: (`rtc_seconds` + `rtc_tai_offset`) × 10⁹ + floor(`rtc_subsec` × 10⁹ / 32,768), in 64 bits (R351). -/
def rtcTime (s : State) : Nat :=
  (((s.rd Od.rtc_seconds : Int) + s.rdInt Od.rtc_tai_offset) * 1000000000 +
    ((s.rd Od.rtc_subsec * 1000000000 / 32768 : Nat) : Int)).toNat % 2 ^ 64

/-! ## Recorder (R383 to R388, R394) -/

/-- A 16-byte payload from (size, value) fields in order, unused bytes 0 (R383). -/
def pay (l : List (Nat × Nat)) : Nat :=
  let r := l.foldl (fun (p : Nat × Nat) f => (p.1 + f.1, p.2 * 256 ^ f.1 + f.2 % 256 ^ f.1)) (0, 0)
  r.2 * 256 ^ (16 - r.1)

/-- The code of an event in a block range of R394; which number a condition has is not stated (log entry 7). -/
def blockCode (hi tag : Nat) : Nat := hi * 256 + Config.eventLow hi tag % 256

/-- Room in the volatile buffer of R386. -/
def recRoom (s : State) : Bool := decide (s.recd.buf.length < 1024)

/-- A record enters the volatile buffer with the next number, or is counted as dropped (R384, R388). The recorder takes
no record in STANDBY and BACKUP (R385). -/
def recordEvent (s : State) (code inst flags payload : Nat) : State :=
  if s.mode = .standby ∨ s.mode = .backup then s
  else if recRoom s then
    { s with recd := { s.recd with buf := ⟨s.recd.next, code, inst, flags, payload⟩ :: s.recd.buf, next := s.recd.next + 1 } }
  else { s.count Od.rec_dropped with recd := { s.recd with dropped := s.recd.dropped + 1 } }

/-- An event of a block range, severity 0 to 3, SET or cleared. -/
def blockEvent (s : State) (hi tag inst : Nat) (sev : Nat) (set : Bool) (payload : Nat := 0) : State :=
  recordEvent s (blockCode hi tag) inst (sev + 4 * b2n set) payload

/-- An anchor record (R385). -/
def anchor (s : State) (cause : Nat) : State :=
  recordEvent s 0x0002 cause (if cause = 5 then 4 * s.rd Od.rtc_lost else 0) (pay [(8, rtcTime s), (8, s.now)])

/-- The records of a buffer copied into the recorder region as far as unmoved records leave slots (R386, R387); the
copied records leave the buffer. -/
def flushRecords (s : State) : State :=
  let unmoved := (s.mer.region.filter (fun r => decide (s.recd.moved < r.seq))).length
  let room := 2048 - unmoved
  let n := s.recd.buf.length
  let k := if n ≤ room then n else room
  let copied := s.recd.buf.drop (n - k)
  { s with
    mer := { s.mer with region := (copied ++ s.mer.region).take 2048 }
    recd := { s.recd with buf := s.recd.buf.take (n - k), flushed := match copied with
      | [] => s.recd.flushed
      | r :: _ => r.seq } }

/-- The OVERFLOW record of R388, once the buffer has room and no recorder clear waits for it (R392). -/
def overflowRecord (s : State) : State :=
  if s.recd.dropped ≠ 0 ∧ recRoom s ∧ s.recd.clears = [] then
    let n := s.recd.dropped
    recordEvent { s with recd := { s.recd with dropped := 0 } } 0x0004 0xFF 1 (pay [(4, n)])
  else s

/-! ## Parts of `sys_health` (R42) -/

def bitEngineA : Nat := 8
def bitEngineB : Nat := 9
def bitMetLane : Nat := 10
def bitMotLane : Nat := 11
def bitAppCore : Nat := 12
def bitFswBank : Nat := 13
def bitSafetyCore : Nat := 14
def bitTurnover : Nat := 15

/-! ## Mode and faults (R39, R44, R45) -/

/-- The MODE event of R394: instance the new mode, payload old mode and cause; the numbers of the causes are not stated
(log entry 7). -/
def modeEvent (s : State) (new : Mode) (old : Nat) (cause : Nat) : State :=
  recordEvent s 0x0100 new.code 0 (pay [(1, old), (1, Config.eventLow 0x01 cause % 256)])

/-- The mode changes, with its MODE event, taken where the recorder takes records in either mode (R385); the first entry of RUN ends the stepping of the fast timebase (R32). -/
def enterMode (s : State) (m : Mode) (cause : Nat := 0) : State :=
  if s.mode = m then s
  else
    let s0 := if s.mode = .standby ∨ s.mode = .backup then { s with mode := m } else s
    let s1 := { modeEvent s0 m s.mode.code cause with mode := m }
    if m = .run then { s1 with net := { s1.net with ran := true } } else s1

/-- A STANDBY entry has begun: loops are stopped and outputs are off (R56). -/
def entryOff (s : State) : Bool := s.sys.standbyEntry && !(s.sys.modeReqs.any (fun q => q.2 == 5))

/-- Whether any bit of `sys_health` is set. -/
def degraded (s : State) : Bool := s.rd Od.sys_health != 0

/-- A part becomes outstanding (R39, R45, R56): its bit is set, the fault counted and recorded, and from RUN or DOZE the
module enters RUN_DEGRADED, unless a STANDBY entry is under way. -/
def raiseFault (s : State) (bit : Nat) (detail : Nat := 0) : State :=
  if s.rdBit Od.sys_health bit then s
  else
    let s1 := ((s.wrBit Od.sys_health bit true).countSat Od.sys_fault_count)
    let s2 := recordEvent s1 0x0101 bit 6 (pay [(4, detail)])
    if (s.mode = .run ∨ s.mode = .doze) ∧ !s.sys.standbyEntry then
      let s3 := enterMode s2 .runDegraded
      { s3 with sys := { s3.sys with degradedFrom := s.mode } }
    else s2

/-- A part's fault clears; with no bit left RUN_DEGRADED is left into the mode it was entered from (R39). -/
def clearFault (s : State) (bit : Nat) : State :=
  if s.rdBit Od.sys_health bit then
    let s1 := recordEvent (s.wrBit Od.sys_health bit false) 0x0101 bit 2 0
    if s1.mode = .runDegraded ∧ !degraded s1 then
      enterMode s1 (if s1.sys.degradedFrom = .doze then .doze else .run)
    else s1
  else s

/-- RUN, or RUN_DEGRADED with a fault outstanding (R46, R47, R404). -/
def enterRun (s : State) (cause : Nat := 0) : State :=
  if degraded s then
    let s1 := enterMode s .runDegraded cause
    { s1 with sys := { s1.sys with degradedFrom := .run } }
  else enterMode s .run cause

/-! ## Environment status (R432) -/

def envFIELD_PWR : Nat := 0
def envVSAFE_LOW : Nat := 1
def envVMAIN_HIGH : Nat := 2
def envTEMP_HIGH : Nat := 3

/-- A bit of `sys_env_status` is set or cleared, with a recorder event (R432), whose code the manual does not state (log entry 7). -/
def setEnv (s : State) (b : Nat) (on : Bool) : State :=
  if s.rdBit Od.sys_env_status b = on then s
  else recordEvent (s.wrBit Od.sys_env_status b on) (Config.eventLow 256 b % 65536) 0xFF (1 + 4 * b2n on) 0

/-- VSAFE_LOW is set (R422). -/
def vsafeLow (s : State) : Bool := s.rdBit Od.sys_env_status envVSAFE_LOW

/-- The modes in which VMAIN powers the module. -/
def powered (s : State) : Bool := s.mode != .standby && s.mode != .holdup && s.mode != .backup

/-- The modes of R44 in which the module runs "as RUN" or RUN itself, outside BOOT. -/
def running (s : State) : Bool := powered s && s.mode != .boot

/-! ## Page commits (R378) -/

/-- The copy that the commit word names. -/
def Paged.current {α : Type} (p : Paged α) : List α := if p.second then p.copy1 else p.copy0

/-- The copy that it does not name. -/
def Paged.other {α : Type} (p : Paged α) : List α := if p.second then p.copy0 else p.copy1

/-- Step 1: new content written into the copy that is not current. -/
def Paged.fill {α : Type} (p : Paged α) (l : List α) : Paged α := if p.second then { p with copy0 := l } else { p with copy1 := l }

/-- Step 2: the commit word names that copy, with the generation plus one. -/
def Paged.flip {α : Type} (p : Paged α) : Paged α := { p with second := !p.second, gen := (p.gen + 1) % 2 ^ 32 }

/-- An update of the structure. -/
def Paged.commit {α : Type} (p : Paged α) (l : List α) : Paged α := (p.fill l).flip

/-- A load that finds the CRC of the commit word wrong takes the other copy. -/
def Paged.torn {α : Type} (p : Paged α) : Paged α := { p with second := !p.second }

/-- Whether a cell is configuration that the mirror holds (R17, R26): flash entries but for those of the point table, which is duplicated in the
DRAM (log entry 171). -/
def isConfig (c : Cell) : Bool :=
  keptOf c.index c.elem == .F && !(decide (Od.od_pt_kind ≤ c.index) && decide (c.index ≤ 0x134F)) && decide (c.index < 0x4000)

/-- The configuration mirror follows the configuration by page commit, once the SRAM may be written (R26, R51, R368). -/
def mirrorCommit (s : State) : State :=
  let cs := s.od.filter isConfig
  if !s.sys.qualified || s.mer.mirror.current == cs then s
  else { s with mer := { s.mer with mirror := s.mer.mirror.commit cs } }

/-- A record once its call to car `k` is done: it leaves a commit, whose other special items stay to be done. -/
def withoutCall (k : Nat) (r : LedgerRec) : LedgerRec :=
  let ws := r.writes.filter (fun w => !(w.index == Od.lft_call && w.elem == k))
  { r with writes := ws, specDone := !ws.any (fun w => w.index == Od.nrg_pulse_const || w.index == Od.lft_call) }

/-- A lift call to car `k` of a record of kind 0x2 or of a commit is done (R86, R91). -/
def callDone (s : State) (seq k : Nat) : State :=
  let f (r : LedgerRec) : LedgerRec :=
    if r.seq = seq ∧ r.kind = 2 then { r with specDone := true }
    else if r.seq = seq ∧ r.kind = 1 then withoutCall k r
    else r
  { s with mer := { s.mer with recs := s.mer.recs.map f } }

/-- The special item of a record of a kind 0x2 to 0x7 is done (R86). -/
def specialDone (s : State) (seq kind : Nat) : State :=
  let f (r : LedgerRec) : LedgerRec := if r.seq = seq ∧ r.kind = kind then { r with specDone := true } else r
  { s with mer := { s.mer with recs := s.mer.recs.map f } }

/-- Whether a variant count is the X count: the number of one resource on the variant in hand. -/
def State.perVariant (s : State) (x n : Nat) : Nat := if s.variant = .x then x else n

end Sys2Proof.Machine
end

