-- ==== Sys2Proof/Machine/Operands.lean ====
section
/-!
DEFINITION. The operand forms of the commands: the values of an item (R66), the admitted values of an entry (R8, R9, R13),
who may read and write (R77 to R79), and the matching of a request to a logical port (R73).
-/
namespace Sys2Proof.Machine

/-! ## Values (R8, R9, R13, R66) -/

/-- One step of a UTF-8 check: the continuation bytes still expected and the bounds of the next one; `none` after an error. -/
def utf8Step (st : Option (Nat × Nat × Nat)) (b : Nat) : Option (Nat × Nat × Nat) :=
  match st with
  | none => none
  | some (0, _, _) =>
    if b < 0x80 then some (0, 0, 0)
    else if b < 0xC2 then none
    else if b < 0xE0 then some (1, 0x80, 0xBF)
    else if b = 0xE0 then some (2, 0xA0, 0xBF)
    else if b = 0xED then some (2, 0x80, 0x9F)
    else if b < 0xF0 then some (2, 0x80, 0xBF)
    else if b = 0xF0 then some (3, 0x90, 0xBF)
    else if b < 0xF4 then some (3, 0x80, 0xBF)
    else if b = 0xF4 then some (3, 0x80, 0x8F)
    else none
  | some (n + 1, lo, hi) => if lo ≤ b ∧ b ≤ hi then some (n, 0x80, 0xBF) else none

/-- Whether bytes are valid UTF-8 (R66). -/
def utf8Valid (bs : List Nat) : Bool :=
  match bs.foldl utf8Step (some (0, 0, 0)) with
  | some (0, _, _) => true
  | _ => false

/-- Whether a raw value of a type lies in the range an entry states (R8, R9, R13). -/
def rngOk (t : Ty) (r : Rng) (v : Nat) : Bool :=
  let fin := finite32 v
  let base : Bool := match t with
    | .bool => decide (v ≤ 1)
    | .str n => utf8Valid (beBytes n v)
    | .f32 => fin || (match r with
      | .f32nan => isNaN32 v
      | _ => false)
    | _ => true
  base && match r with
    | .any | .hook | .utf8 | .f32 | .f32nan => true
    | .nat lo hi => decide (lo ≤ v) && decide (v ≤ hi)
    | .oneOf l => l.any (fun p => decide (p.1 ≤ v) && decide (v ≤ p.2))
    | .int lo hi => decide (lo ≤ toInt (8 * t.size) v) && decide (toInt (8 * t.size) v ≤ hi)
    | .mask m => v ||| m == m
    | .f32r lo hi den => (f32q (qf32 ⟨lo, den⟩)).le (f32q v) && (f32q v).le (f32q (qf32 ⟨hi, den⟩))
    | .f32ge0 => decide (0 ≤ (f32q v).num)
    | .f32gt0 => decide (0 < (f32q v).num)

/-- The `k`-th value of an item's data, for elements of `n` bytes (R66). -/
def itemVal (n k : Nat) (data : List Nat) : Nat := ofBytes (slice data (k * n) n)

/-- The data bytes of a list of values of `n` bytes each. -/
def valsData (n : Nat) (vs : List Nat) : List Nat := vs.flatMap (fun v => beBytes n v)

/-- The item that writes one element. -/
def oneItem (i e ty v : Nat) : WItem := ⟨i, e, 1, ty, beBytes (widthOf i / 8) v⟩

/-- The item that writes one element in the entry's own type. -/
def entryItem (i e v : Nat) : WItem :=
  match entryDef? i with
  | some d => ⟨i, e, 1, d.ty.code, beBytes d.ty.size v⟩
  | none => ⟨i, e, 1, 0, []⟩

/-! ## Authorisation (R77 to R79) -/

/-- The tenant-wide rights of R77, as bits of `od_tenant_rights`. -/
def rightMODE : Nat := 0
def rightTXN : Nat := 1
def rightCLEARLOG : Nat := 2
def rightUPDATE : Nat := 3
def rightKEY : Nat := 4
def rightEXCHANGE : Nat := 5
def rightLIFTCALL : Nat := 6
def rightDIAG : Nat := 7

/-- The tenant a logical port binds (R73, R77). -/
def tenantOf (s : State) (port : Nat) : Nat := s.rd Od.od_port_tenant port

/-- Whether a tenant holds a right (R77). -/
def hasRight (s : State) (tenant right : Nat) : Bool := s.rdBit Od.od_tenant_rights right tenant

/-- Whether one of a tenant's 32 grants covers an index with the right bit (0 READ, 1 WRITE) (R79). -/
def granted (s : State) (tenant bit i : Nat) : Bool :=
  (List.range 32).any (fun g =>
    let e := tenant * 32 + g
    decide (s.rd Od.od_grant_lo e ≤ i) && decide (i ≤ s.rd Od.od_grant_hi e) && s.rdBit Od.od_grant_rights bit e)

/-- The call entries of the lift chapter (R285), which LIFT_CALL admits. -/
def isCallEntry (i : Nat) : Bool := i == Od.lft_call

/-- The writes R78 reserves to fixed tenants. -/
def writeAdmitted (s : State) (tenant i : Nat) : Bool :=
  if 0x1300 ≤ i ∧ i ≤ 0x13FF then tenant == 0
  else if 0x2400 ≤ i ∧ i ≤ 0x27FF then tenant == 1
  else if 0x3000 ≤ i ∧ i ≤ 0x33FF then tenant == 2 || (isCallEntry i && hasRight s tenant rightLIFTCALL)
  else if 0x3400 ≤ i ∧ i ≤ 0x37FF then tenant == 0 || tenant == 2
  else !(decide (0x8000 ≤ i) && decide (i ≤ 0x80FF))

/-- The right of R77 a write of an index needs. -/
def rightForWrite (i : Nat) : Option Nat :=
  if i = Od.sys_mode_req ∨ i = Od.sys_reset ∨ i = Od.sys_hold_test ∨ i = Od.sys_fault_retest then some rightMODE
  else if i = Od.rec_clear then some rightCLEARLOG
  else if 0x1800 ≤ i ∧ i ≤ 0x183F then some rightUPDATE
  else if 0x1840 ≤ i ∧ i ≤ 0x187F then some rightKEY
  else if 0x3800 ≤ i ∧ i ≤ 0x3BFF then some rightEXCHANGE
  else if isCallEntry i then some rightLIFTCALL
  else none

/-- Whether a tenant may write an index (R78, R79). -/
def mayWriteTenant (s : State) (tenant i : Nat) : Bool :=
  granted s tenant 1 i && writeAdmitted s tenant i &&
    (match rightForWrite i with
      | some r => hasRight s tenant r
      | none => true)

/-- Whether a tenant may read an index (R78, R79). -/
def mayReadTenant (s : State) (tenant i : Nat) : Bool :=
  granted s tenant 0 i && (!(i == Od.nrg_first_vbat || i == Od.nrg_vbat_gen) || tenant == 1) &&
    (!(decide (0x8000 ≤ i) && decide (i ≤ 0x80FF)) || hasRight s tenant rightDIAG)

/-- The retest of R325: value 14 in SAFE_HOLD from a port of tenant 0 or 2, whatever its grants, MODE right and the mode check. -/
def coreRetest (s : State) (port i v : Nat) : Bool :=
  i == Od.sys_fault_retest && v == 14 && s.mode == .safeHold && (tenantOf s port == 0 || tenantOf s port == 2)

/-- The kind of accepted work an entry gives a WRITE that addresses it (R86). -/
def entryKind (i : Nat) : Nat :=
  if i = Od.lft_call then 2
  else if i = Od.nrg_pulse_const then 3
  else if i = Od.key_replace then 4
  else if i = Od.rec_clear then 5
  else if i = Od.prg_exchange then 6
  else if i = Od.sys_mode_req ∨ i = Od.sys_reset ∨ i = Od.sys_hold_test ∨ i = Od.sys_fault_retest then 7
  else 0

/-! ## What a chapter adds to the checks of R11 -/

/-- How a write arrives: who, in which transaction (0 none), whether it is a replay, a commit's recheck or a point's link
transfer (then ACCESS_DENIED and NEEDS_TXN are not checked: R81, R93, R102), whether it came over BACnet, and at a replay the
generation of the backup domain captured with it (R356). -/
structure Ctx where
  port : Nat
  client : Nat
  handle : Nat
  recheck : Bool
  bacnet : Bool
  lossGen : Option Nat := none
  deriving DecidableEq, Repr

/-- A chapter's own refusals of one element write, each at the step of its status (R11); `late` follows step 7. -/
structure Extra where
  variant : Bool := false
  denied : Bool := false
  mode : Bool := false
  range : Bool := false
  late : Status := .ok
  deriving DecidableEq, Repr

/-- Whether accepted work that waits for its tick writes an element. -/
def awaits (s : State) (i e : Nat) : Bool :=
  s.mer.recs.any (fun r => !r.completed && !r.ordDone && r.writes.any (fun w => w.index == i && w.elem == e))

/-- Whether a STANDBY request has been accepted while a replay is due, so that its entry has not begun yet (R103, R434). -/
def standbyWaits (s : State) : Bool :=
  s.mer.recs.any (fun r => !r.completed && !r.begun && s.sys.replayTo.any (fun n => decide (n < r.seq)) &&
    r.writes.any (fun w => w.index == Od.sys_mode_req && w.value == 5))

/-- Whether the module is between the acceptance of a STANDBY request and its end (R56, R434). -/
def standbyAccepted (s : State) : Bool := s.sys.standbyEntry || standbyWaits s

/-- Whether no work is accepted: before a reservoir qualifies, and from the acceptance of a STANDBY request on (R51, R434). -/
def noWork (s : State) : Bool := !s.sys.qualified || standbyAccepted s

/-- No refusal of a chapter's own. -/
def Extra.none : Extra := {}

/-! ## Logical ports (R73) -/

/-- Whether a source address lies within a port's prefix, in the layout of `od_port_src`. -/
def prefixMatch (prefixWord src : Nat) : Bool :=
  let len := prefixWord % 256
  (prefixWord / 256) >>> (128 - len) == src >>> (128 - len)

/-- Whether a VLAN matches `od_port_vlan`. -/
def vlanMatch (want vlan : Nat) : Bool := want == 0xFFFF || want == vlan

/-- MACsec is configured on an uplink. After a commit that turns it on, uplink B keeps to its operation without it until its turn comes, so that one
LAN carries traffic throughout (R122, log entry 174). -/
def macsecOn (s : State) (u : Nat) : Bool :=
  s.rd Od.net_macsec != 0 && !(s.net.mkaBWaits && u != 0 && s.rd Od.net_macsec_state u == 0)

/-- The session of an uplink is secured, where MACsec is configured on it. -/
def secureEnough (s : State) (u : Nat) : Bool := !macsecOn s u || s.rd Od.net_macsec_state u == 2

/-- Whether logical port n takes a request of the given origin (R73, R76, R122, R131, R136). Under PRP a port of uplink A or B matches
frames of either LAN; on a bridge port the VLAN is `fld_pvid`, and none matches on a dedicated port, on an RS-485 port out of MS/TP mode, or on an unsecured
uplink. -/
def portMatch (s : State) (rx : RxInfo) (n : Nat) : Bool :=
  let kind := s.rd Od.od_port_kind n
  let phys := s.rd Od.od_port_phys n
  let node := s.rd Od.od_port_node n
  let ip := prefixMatch (s.rd Od.od_port_src n) rx.src
  let vlan (v : Nat) : Bool := vlanMatch (s.rd Od.od_port_vlan n) v
  kind == rx.kind && kind != 0 &&
    (if kind = 1 then
      let st := s.rd Od.net_dot1x_state rx.phys
      let linkLocal := prefixMatch linkLocalPrefix rx.src
      let srcLink := prefixMatch linkLocalPrefix (s.rd Od.od_port_src n / 256) && decide (10 ≤ s.rd Od.od_port_src n % 256)
      (phys == 2 || phys == rx.phys || s.rd Od.net_mode == 1) && ip && vlan rx.vlan &&
        secureEnough s rx.phys &&
        (st == 3 || (st == 5 && s.mode == .commission && linkLocal && srcLink))
    else if kind = 2 then phys == rx.phys && ip && vlan (s.rd Od.fld_pvid rx.phys) && s.rd Od.fld_t1l_role rx.phys == 0
    else if kind = 3 then phys == rx.phys && (node == 0xFF || node == rx.node) && ip && vlan (s.rd Od.fld_pvid (16 + rx.phys))
    else if kind = 4 then phys == rx.phys && (node == 0xFF || node == rx.node) && s.rd Od.fld_rs_mode rx.phys == 1
    else true)

/-- The local bus as the origin of a request (R162). -/
def localBus : Source := ⟨5, 0, 0, 0, 0, 0⟩

/-- The lowest-numbered logical port that matches (R73). -/
def classify (s : State) (rx : RxInfo) : Option Nat := (List.range 256).find? (portMatch s rx)

end Sys2Proof.Machine
end

