-- ==== Sys2Proof/Machine/Reservoir.lean ====
section
/-!
DEFINITION. Hold-up reservoirs (R51, R62 to R64), the management processor's scheduler and clocks (R30 to R36), fabric
refusals (R22), page retirement (R27, R28) and trend samples (R43).
-/
namespace Sys2Proof.Machine

abbrev StepOut := Host.Outcome State Fault Refusal

/-! ## Reservoirs -/

/-- The reservoir r: 0 on-module, anything else the carrier capacitor. -/
def resOf (s : State) (r : Nat) : Reservoir := if r = 0 then s.sys.res0 else s.sys.res1

/-- Reservoir r changed. -/
def putRes (s : State) (r : Nat) (x : Reservoir) : State :=
  if r = 0 then { s with sys := { s.sys with res0 := x } } else { s with sys := { s.sys with res1 := x } }

/-- Whether a waiting test may start: the carrier's waits for the on-module reservoir's start test (R64). -/
def testReady (s : State) (t : Nat × Bool) : Bool :=
  t.1 == 0 || s.sys.res0.tested || s.sys.res0.chargeFailed

/-- With no test running, the first waiting test that may start, starts (R64). -/
def startNextTest (s : State) : State :=
  match s.sys.testing with
  | some _ => s
  | none =>
    match s.sys.testQueue.find? (testReady s) with
    | none => s
    | some t => { s with sys := { s.sys with testing := some t, testQueue := s.sys.testQueue.erase t } }

/-- A test of a reservoir falls due: it runs, or waits for the one that runs (R64). -/
def queueTest (s : State) (t : Nat × Bool) : State :=
  startNextTest { s with sys := { s.sys with testQueue := s.sys.testQueue ++ [t] } }

/-- RESERVOIR_CHARGED (R50, R51, R64): the reservoir holds 12.0 V after a start or a retry, and its test is run. -/
def reservoirCharged (r : Nat) (s : State) : State :=
  let x := resOf s r
  if powered s ∧ (x.charging ∨ (x.charged ∧ !x.tested) ∨ (s.mode = .boot ∧ !x.charged)) then
    queueTest (putRes s r { x with charging := false, charged := true, chargeFailed := false }) (if r = 0 then 0 else 1, false)
  else s

/-- RESERVOIR_CHARGE_TIMEOUT (R51): a reservoir short of 12.0 V after 2 s is failed. -/
def reservoirChargeTimeout (r : Nat) (s : State) : State :=
  let x := resOf s r
  if powered s ∧ (x.charging ∨ (s.mode = .boot ∧ !x.charged ∧ !x.chargeFailed)) then
    startNextTest (raiseFault (putRes s r { x with charging := false, charged := false, chargeFailed := true, passed := false }) (if r = 0 then 0 else 1))
  else s

/-- RESERVOIR_CHARGE_RETRY (R51): charging of a failed reservoir is tried again. -/
def reservoirChargeRetry (r : Nat) (s : State) : State :=
  let x := resOf s r
  if powered s ∧ x.chargeFailed ∧ !x.charging then putRes s r { x with charging := true } else s

/-- HOURLY_HOLD_TEST (R64). -/
def hourlyHoldTest (r : Nat) (s : State) : State :=
  if powered s ∧ (resOf s r).tested then queueTest s (if r = 0 then 0 else 1, false) else s

/-- The capacitance of R64 in µF, 0.30 mC over the voltage fall, rounded to the nearest; a fall of 0 or a result beyond
the entry has no stated value (log entry 12). -/
def holdCap (s : State) (sinkMv : Nat) : Nat :=
  let c := (2 * 300000 + sinkMv) / (2 * sinkMv)
  if sinkMv = 0 ∨ 65535 < c then s.freeVal % 65536 else c

/-- The deliverable energy of R62 in mJ: 0.85 × ½ × C × 119 V², to the nearest mJ. -/
def holdEnergy (cap : Nat) : Nat := (50575 * cap + 500000) / 1000000

/-- Whether a reservoir qualifies (R62): E of at least 60 mJ and an ESR within its limit. -/
def holdQualifies (r cap esr : Nat) : Bool :=
  decide (60 * 1000000 ≤ 50575 * cap) && decide (esr ≤ if r = 0 then 150 else 300)

/-- A reservoir qualifies, and the SRAM may be written (R51): the first time since the start, the records that the start kept are flushed (R53,
R386) unless a store freezes it, and the mirror takes the configuration that the start loaded (R26). -/
def sramOpened (s : State) : State :=
  let t := { s with sys := { s.sys with qualified := true, sram := none } }
  if s.sys.qualified then t else mirrorCommit (if s.nvs.storing.isNone && !s.sys.mpHeld then overflowRecord (flushRecords t) else t)

/-- HOLD_TEST_COMPLETE (R64): results stored, the reservoir qualified or failed, the next test started. -/
def holdTestComplete (stepMv sinkMv : Nat) (s : State) : State :=
  match s.sys.testing with
  | none => s
  | some (r, cmd) =>
    let cap := holdCap s sinkMv
    let s0 := if sinkMv = 0 ∨ 65535 < (2 * 300000 + sinkMv) / (2 * sinkMv) then s.tookFree else s
    let ok := holdQualifies r cap stepMv
    let s1 := ((s0.wr Od.sys_hold_cap cap r).wr Od.sys_hold_esr stepMv r).wr Od.sys_hold_energy (holdEnergy cap) r
    let s2 := recordEvent s1 0x0105 r (if ok then 0 else 2) (pay [(2, cap), (2, stepMv), (2, holdEnergy cap)])
    let s3 := putRes s2 r { resOf s2 r with tested := true, passed := ok }
    let s4 := if ok then clearFault (sramOpened s3) r else raiseFault s3 r
    let failed := s4.sys.cmdFailed || (cmd && !ok)
    let s5 := { s4 with sys := { s4.sys with testing := none, cmdFailed := failed } }
    let s6 := if cmd ∧ !(s5.sys.testQueue.any (fun t => t.2)) then s5.wr Od.sys_hold_test (if failed then 3 else 2) else s5
    startNextTest s6

/-- A write of 1 to `sys_hold_test` starts: both reservoirs are tested one after the other (R49). -/
def startHoldTest (s : State) : State :=
  let s1 := (s.wr Od.sys_hold_test 1)
  let s2 := { s1 with sys := { s1.sys with cmdFailed := false } }
  queueTest (queueTest s2 (0, true)) (1, true)

/-! ## Management processor (R34 to R36) -/

/-- The shares of R34 in µs of a 10 ms frame, classes 2 to 7. -/
def mpShares : List Nat := [1000, 3000, 1500, 1500, 1500, 1500]

/-- Each class first gets what it wants up to its share. -/
def mpFirst : Nat → List Nat → List Nat → List Nat
  | _, [], _ => []
  | _, _, [] => []
  | left, d :: ds, sh :: shs =>
    let g := min (min d sh) left
    g :: mpFirst (left - g) ds shs

/-- Time left over passes to the classes that still have work, in table order. -/
def mpSecond : Nat → List Nat → List Nat → List Nat
  | _, [], _ => []
  | _, _, [] => []
  | left, d :: ds, g :: gs =>
    let x := min (d - g) left
    (g + x) :: mpSecond (left - x) ds gs

/-- The µs each of the seven classes gets in one frame (R34); deferred classes get none (R35). -/
def mpGrants (deferred : Nat) (demand : List Nat) : List Nat :=
  let d0 := min (demand.getD 0 0) 10000
  let ds := (List.range 6).map (fun k =>
    if (k = 4 ∧ deferred.testBit 0) ∨ (k = 5 ∧ deferred.testBit 1) then 0 else demand.getD (k + 1) 0)
  let g1 := mpFirst (10000 - d0) ds mpShares
  d0 :: mpSecond (10000 - d0 - g1.foldl (· + ·) 0) ds g1

/-- The management processor works: VMAIN powers it, and it is not held in reset (R36). -/
def mpRuns (s : State) : Bool := powered s && !s.sys.mpHeld

/-- MP_FRAME (R34): the frame's grants enter the trailing 100 ms. A processor held in
reset (R36) runs no frame. -/
def mpFrame (demand : List Nat) (s : State) : State :=
  if powered s ∧ !s.sys.mpHeld then
    let g := mpGrants (s.rd Od.sys_mp_deferred) demand
    { s with sys := { s.sys with
        loadWindow := (g.foldl (· + ·) 0 :: s.sys.loadWindow).take 10
        classWindow := (g :: s.sys.classWindow).take 10 } }
  else s

/-- The load of the classes that a deferral leaves running, in % rounded down (R35, log entry 147). -/
def runningLoad (s : State) : Nat :=
  s.sys.classWindow.foldl (fun a g => a + (g.take 5).foldl (· + ·) 0) 0 / 1000

/-- The window starts anew at a reset (R35). -/
def loadRestart (s : State) : State := { s with sys := { s.sys with loadWindow := [], classWindow := [], lowFrames := 0 } }

/-- MP_LOAD_UPDATE (R35): loads over the trailing 100 ms, rounded down (log entry 147), deferral above 85 %, resumption after 1 s below 60 %
of the classes still running. -/
def mpLoadUpdate (s : State) : State :=
  if powered s ∧ !s.sys.mpHeld then
    let load := s.sys.loadWindow.foldl (· + ·) 0 / 1000
    let s1 := (List.range 7).foldl (fun t k =>
      t.wr Od.sys_mp_class_load ((s.sys.classWindow.foldl (fun a g => a + g.getD k 0) 0) / 1000) k) (s.wr Od.sys_mp_load load)
    if 85 < load then
      { s1.wr Od.sys_mp_deferred 3 with sys := { s1.sys with lowFrames := 0 } }
    else if s1.rd Od.sys_mp_deferred ≠ 0 ∧ runningLoad s < 60 then
      if 100 ≤ s1.sys.lowFrames then { s1.wr Od.sys_mp_deferred 0 with sys := { s1.sys with lowFrames := 0 } }
      else { s1 with sys := { s1.sys with lowFrames := s1.sys.lowFrames + 1 } }
    else { s1 with sys := { s1.sys with lowFrames := 0 } }
  else s

/-- MP_RESTART (R36): every class resumes from its durable state, so nothing of the state changes; a processor that
fails its ROM self-test is held in reset. -/
def mpRestart (romOk : Bool) (s : State) : State :=
  if powered s ∧ !romOk then { s with sys := { s.sys with mpHeld := true } } else s

/-! ## Clocks (R29 to R31) -/

/-- What keeps the real-time and engine clocks running without gating (R30). A lift car is active while it is enabled and not out of service
(log entry 195). -/
def clocksHeld (s : State) : Bool :=
  s.od.any (fun c =>
    (c.index == Od.ctl_period && decide (1 ≤ c.value) && decide (c.value ≤ 8)) ||
    (c.index == Od.prg_state && c.value != 0) ||
    (c.index == Od.lft_enable && c.value == 1 && s.rd Od.lft_op_state c.elem != 5) ||
    (c.index == Od.mot_state && decide (2 ≤ c.value) && decide (c.value ≤ 4)))

/-- CLOCK_START (R30, R31): both clocks run; an activation less than 60 µs ahead of gated clocks starts late. -/
def clockStart (aheadUs : Nat) (s : State) : State :=
  if running s ∧ !s.sys.mpHeld then
    let gated := !(s.rdBit Od.sys_clk_run 2 && s.rdBit Od.sys_clk_run 3)
    let s1 := (s.wrBit Od.sys_clk_run 2 true).wrBit Od.sys_clk_run 3 true
    if gated ∧ aheadUs < 60 then s1.count Od.sys_clk_late else s1
  else s

/-- CLOCK_GATE (R30): gated when the next activation begins more than 200 µs later and nothing keeps the clocks running. -/
def clockGate (nextUs : Nat) (s : State) : State :=
  if running s ∧ !s.sys.mpHeld ∧ 200 < nextUs ∧ !clocksHeld s then (s.wrBit Od.sys_clk_run 2 false).wrBit Od.sys_clk_run 3 false else s

/-! ## Fabric and DRAM (R22, R26 to R28) -/

/-- The fabric and the management processor run (R29, R60): in every mode but STANDBY and BACKUP. -/
def fabricRuns (s : State) : Bool := s.mode != .standby && s.mode != .backup

/-- An application core. -/
def masterIsApp : FabricMaster → Bool
  | .unit n => decide (n < 4)
  | _ => false

/-- The masters each target admits (R22). -/
def fabricAdmits (m : FabricMaster) (t : FabricTarget) (w : FabricWay) : Bool :=
  match t with
  | .praline | .flash => m == .unit 13
  | .ledger => masterIsApp m || m == .unit 13 || m == .storeSequencer
  | .island => m == .unit 11
  | .proofing => m == .unit 13 || (w == .block && (masterIsApp m || m == .bspDma))
  | .engineMemory => m == .unit 6 || m == .unit 7 || (w == .staging && masterIsApp m)
  | .dram => m != .unit 11

/-- The instance of an ACCESS_REFUSED event: the initiator's number of R42; those of the two masters without one are the model's (log entry 146). -/
def masterCode : FabricMaster → Nat
  | .unit n => n
  | .storeSequencer => 15
  | .bspDma => 16

/-- FABRIC_ACCESS_REFUSED (R22): an access that the table admits is none of the fabric's refusals and changes nothing. -/
def fabricAccessRefused (m : FabricMaster) (t : FabricTarget) (w : FabricWay) (address : Nat) (s : State) : State :=
  if fabricRuns s && !(fabricAdmits m t w) then
    (recordEvent (s.count Od.sys_access_refused) 0x0104 (masterCode m) 1 (pay [(8, address)])).send (.fabricError m address)
  else s

/-- A page of the DRAM is marked retiring (R27), unless it is retired or retiring. -/
def startRetire (address : Nat) (cls : PageClass) (s : State) : State :=
  let page := address / 4096
  if s.mer.retired.any (fun p => p.1 == page) || s.sys.retiring.any (fun r => r.page == page) then s
  else raiseFault { s with sys := { s.sys with retiring := s.sys.retiring ++ [⟨page, cls, address % 4096 / 4⟩] } } 16 page

/-- How many pages the trend cache gave up (R28). -/
def trendLost (s : State) : Nat := (s.mer.retired.filter (fun p => p.2.trend)).length

/-- The samples that survive the loss of a non-critical page: how many of the cache's samples the page held is not stated
(log entry 13), and each point that lost one shows a gap (R26, R43). -/
def loseTrendPage (s : State) : State :=
  let n := s.freeVal % (s.trend.cache.length + 1)
  let lost := s.trend.cache.drop n
  { s.tookFree with trend := { s.trend with cache := s.trend.cache.take n, gaps := s.trend.gaps ++ lost.map (·.point) } }

/-- What a page is rebuilt from (R26): the configuration mirror, the duplicate page, or zeros. -/
def rebuildSource (s : State) (r : Retiring) : Tab Nat :=
  match r.cls with
  | .mirrored => tabGet [] r.page s.mer.mirrorWords
  | .duplicated => tabGet [] r.page s.dram.dup
  | .nonCritical => []

/-- The held writes applied to a page's words, in order (R27). -/
def heldApplied (held : List (Nat × Nat)) (c : Tab Nat) : Tab Nat :=
  held.foldl (fun t w => tabPut (w.1 % 1024) (w.2 % 2 ^ 32) t) c

/-- A page's words and those of the source it is kept in move from one page to another (R26, R27). -/
def movePage (s : State) (r : Retiring) (spare : Nat) (c : Tab Nat) : State :=
  let d1 := { s.dram with pages := tabPut spare c (tabDel r.page s.dram.pages) }
  match r.cls with
  | .mirrored => { s with dram := d1, mer := { s.mer with mirrorWords := tabPut spare c (tabDel r.page s.mer.mirrorWords) } }
  | .duplicated => { s with dram := { d1 with dup := tabPut spare c (tabDel r.page d1.dup) } }
  | .nonCritical => { s with dram := d1 }

/-- Whether a page may take the place of another: it is not retired and has not been taken before. -/
def spareFree (s : State) (page spare : Nat) : Bool :=
  spare != page && !(s.mer.retired.any (fun p => p.1 == spare || p.2.into == some spare))

/-- The map, the counters and the event of a retirement (R27, R28): the event is a warning where no spare is left (log entry 10). -/
def noteRetired (s : State) (page spares : Nat) (m : PageMove) : State :=
  let s1 := { s with
    sys := { s.sys with retiring := s.sys.retiring.filter (fun r => r.page != page) }
    mer := { s.mer with retired := tabPut page m s.mer.retired } }
  recordEvent ((s1.count Od.sys_dram_retired).wr Od.sys_dram_spares (spares - 1)) 0x0103 0xFF (if spares = 0 then 1 else 0)
    (pay [(4, page), (4, spares - 1)])

/-- A page under retirement is replaced (R27, R28): by a spare, or, with none left, by a page of the trend cache where its class is critical
and by nothing where it is not; the stalled read completes, and DRAM_PAGE clears with the last page. -/
def retirePage (s : State) (r : Retiring) (spare : Nat) (held : List (Nat × Nat)) : State :=
  let spares := s.rd Od.sys_dram_spares
  let c := heldApplied held (rebuildSource s r)
  let gone := spares == 0 && r.cls == .nonCritical
  let s1 := if gone then { s with dram := { s.dram with pages := tabDel r.page s.dram.pages } } else movePage s r spare c
  let s2 := noteRetired s1 r.page spares ⟨if gone then none else some spare, spares == 0⟩
  let s3 := (if r.cls == .nonCritical || spares == 0 then loseTrendPage s2 else s2).send (.dramRead r.page r.off (tabGet 0 r.off c))
  if s3.sys.retiring = [] then clearFault s3 16 else s3

/-- DRAM_PAGE_RETIRE_COMPLETE (R27, R28). -/
def dramPageRetireComplete (page spare : Nat) (held : List (Nat × Nat)) (s : State) : State :=
  match s.sys.retiring.find? (fun r => r.page == page) with
  | none => s
  | some r => if fabricRuns s && spareFree s page spare then retirePage s r spare held else s

/-! ## Trend (R43) -/

/-- Points of the variant in hand (R1). -/
def pointCount (s : State) : Nat := s.perVariant 8192 2048

/-- `sys_trend_oldest` and `sys_trend_fill` as the archive stands (R43); whole percent, rounded down (log entry 196). -/
def trendEntries (s : State) : State :=
  let oldest := match s.trend.archive.getLast? with
    | some x => x.time
    | none => 0
  (s.wr Od.sys_trend_oldest oldest).wr Od.sys_trend_fill (min 100 (s.trend.archive.length * 100 / s.trend.capacity))

/-- Whether trend housekeeping may run: the management processor is not held (R36), and the class is not deferred (R35). -/
def housekeeping (s : State) : Bool := running s && !s.sys.mpHeld && !(s.rdBit Od.sys_mp_deferred 1)

/-- TREND_ARCHIVE_MOVE (R43): the cache's samples enter the archive, which holds at least 4 × 10⁸, and a full archive loses its oldest. -/
def trendArchiveMove (capacity : Nat) (s : State) : State :=
  if housekeeping s ∧ 400000000 ≤ capacity then
    trendEntries { s with trend := { s.trend with
      archive := (s.trend.cache ++ s.trend.archive).take capacity, cache := [], capacity := capacity } }
  else s

end Sys2Proof.Machine
end

