-- ==== Sys2Proof/Machine/Egress.lean ====
section
/-!
DEFINITION. The transmit queues of the field bridge ports (R18, R131, R132, R144, R146).
-/
namespace Sys2Proof.Machine

/-- T1L ports of the variant (R1). -/
def t1lCount (s : State) : Nat := s.perVariant 16 8
/-- T1S segments of the variant (R1). -/
def t1sCount (s : State) : Nat := s.perVariant 8 4
/-- RS-485 ports of the variant (R1). -/
def rsCount (s : State) : Nat := s.perVariant 4 2

/-- Whether a bridge port exists on the variant in hand and is not dedicated to a hoist drive (R131, R136). -/
def bridgePort (s : State) (p : Nat) : Bool :=
  if p < 16 then decide (p < t1lCount s) && s.rd Od.fld_t1l_role p == 0 else decide (p - 16 < t1sCount s) && decide (p < 24)

/-- The queues of a bridge port. -/
def txOf (s : State) (p : Nat) : FieldTx := tabGet {} p s.fld.tx

/-- The queues of a bridge port changed. -/
def putTx (s : State) (p : Nat) (x : FieldTx) : State := { s with fld := { s.fld with tx := tabPut p x s.fld.tx } }

/-- Bytes in a queue. -/
def txBytes (l : List PortFrame) : Nat := l.foldl (fun a f => a + f.len) 0

/-- A frame enters its queue of 32 KiB on a bridge port of its VLAN, the high one for PCP 4 to 7, or is dropped and counted (R131, R132). -/
def fieldSend (s : State) (vlan pcp len p : Nat) : State :=
  if !bridgePort s p || s.rd Od.fld_pvid p != vlan then s
  else
    let x := txOf s p
    let f : PortFrame := ⟨s.now, len, 0⟩
    if 4 ≤ pcp then
      (if txBytes x.high + len ≤ 32768 then putTx s p { x with high := x.high ++ [f] } else s.count Od.fld_tx_drops p)
    else if txBytes x.low + len ≤ 32768 then putTx s p { x with low := x.low ++ [f] }
    else s.count Od.fld_tx_drops p

/-- A frame sent to bridge ports of its VLAN (R131, R132). -/
def fieldEgress (s : State) (vlan pcp len : Nat) (ports : List Nat) : State := ports.foldl (fun t p => fieldSend t vlan pcp len p) s

/-- The next frame of a port's queues under strict priority (R132), and the queues without it. -/
def txNext (x : FieldTx) : Option (PortFrame × FieldTx) :=
  match x.high, x.low with
  | f :: fs, _ => some (f, { x with high := fs })
  | [], f :: fs => some (f, { x with low := fs })
  | [], [] => none

/-- What a 10BASE-T1L port sends up to an instant, one frame after another at 10 Mbit/s with 20 bytes of preamble and gap for each (log entry
148): the queues left, and how many frames began. -/
def txDrain (now : Nat) : Nat → FieldTx → FieldTx × Nat
  | 0, x => (x, 0)
  | k + 1, x =>
    match txNext x with
    | none => (x, 0)
    | some (f, y) =>
      let start := max x.busy f.at_
      if now < start then (x, 0)
      else
        let r := txDrain now k { y with busy := start + (f.len + 20) * 800 }
        (r.1, r.2 + 1)

/-- A linked T1L port sends what its line has had time for (R132). -/
def t1lSend (s : State) (p : Nat) : State :=
  let x := txOf s p
  if p < 16 ∧ 3 ≤ s.rd Od.fld_t1l_state p then
    let r := txDrain s.now (x.high.length + x.low.length) x
    if r.2 = 0 then s else (putTx s p r.1).count Od.fld_tx_frames p r.2
  else s

/-- Every T1L port with frames queued sends. -/
def t1lSendAll (s : State) : State := (s.fld.tx.map (·.1)).foldl t1lSend s

/-- The first `n` frames of a port's queues under strict priority, in order, and what is left. -/
def txTake : Nat → FieldTx → List PortFrame × FieldTx
  | 0, x => ([], x)
  | n + 1, x =>
    match txNext x with
    | none => ([], x)
    | some (f, y) =>
      let r := txTake n y
      (f :: r.1, r.2)

end Sys2Proof.Machine
end

