-- ==== Sys2Proof/Machine/Uplinks.lean ====
section
/-!
DEFINITION. The uplinks: 802.1X, links, queues, PRP, PTP, MACsec, wake patterns and speed shifts (R76, R105 to R130).
-/
namespace Sys2Proof.Machine

/-- Uplink u: 0 A, anything else B. -/
def upOf (s : State) (u : Nat) : UplinkState := if u = 0 then s.net.a else s.net.b

/-- Uplink u changed. -/
def putUp (s : State) (u : Nat) (x : UplinkState) : State :=
  if u = 0 then { s with net := { s.net with a := x } } else { s with net := { s.net with b := x } }

/-- The health bit of an uplink (R42). -/
def upBit (u : Nat) : Nat := if u = 0 then 4 else 5

/-- An uplink fault becomes outstanding (R107). -/
def upFault (s : State) (u : Nat) : State := raiseFault s (upBit u)

/-- PRP is in use (R108, `net_mode`). -/
def prp (s : State) : Bool := s.rd Od.net_mode == 1

/-- The uplink carries traffic: link up, authorised and, where configured, secured (R76, R107, R122). -/
def upUsable (s : State) (u : Nat) : Bool :=
  s.rd Od.net_link_state u == 2 && s.rd Od.net_dot1x_state u == 3 && secureEnough s u

/-- The instant since which the uplink has been up, and under PRP authorised, brought up to date (R128). -/
def stampUsable (s : State) (u : Nat) : State :=
  let ok := s.rd Od.net_link_state u == 2 && (!prp s || s.rd Od.net_dot1x_state u == 3)
  let x := upOf s u
  match ok, x.usableSince with
  | true, none => putUp s u { x with usableSince := some s.now }
  | false, some _ => putUp s u { x with usableSince := none }
  | _, _ => s

/-! ## Transmit queues (R109 to R113) -/

/-- The limit of a queue in bytes; halved, to a whole KiB, while a buffer bank is failed (R111). -/
def queueLimit (s : State) (u q : Nat) : Nat :=
  let k := s.rd Od.net_q_limit (u * 8 + q)
  (if s.rdBit Od.sys_health 13 then k / 2 else k) * 1024

/-- Bytes queued. -/
def queueBytes (q : List TxFrame) : Nat := q.foldl (fun a f => a + f.len) 0

/-- The commissioning admission holds (R76): it admits logical ports alone, and none while MACsec is configured and unsecured (R122). -/
def admitted (s : State) (u : Nat) : Bool :=
  s.rd Od.net_dot1x_state u == 5 && s.rd Od.net_link_state u == 2 && secureEnough s u

/-- Whether an uplink may send a frame: EAPOL always, MKA once authorised, everything else on a usable uplink or under the commissioning admission (R76,
R122). -/
def maySend (s : State) (u : Nat) (k : TxKind) : Bool :=
  match k with
  | .eapol => true
  | .mka => s.rd Od.net_dot1x_state u == 3
  | _ => upUsable s u || admitted s u

/-- Whether MACsec protects a frame (R121): every frame but EAPOL and MKA. -/
def secured (s : State) (u : Nat) (k : TxKind) : Bool := macsecOn s u && k != .eapol && k != .mka

/-- A frame's length on the wire: its trailer adds 6 bytes (R114), a SecTAG with SCI and the ICV 32 (R106, R121, log entry 149). -/
def wireLen (s : State) (u : Nat) (f : TxFrame) : Nat :=
  f.len + (if f.trailer.isSome then 6 else 0) + (if secured s u f.kind then 32 else 0)

/-- A frame enters a queue, or is dropped on entry and counted (R111, R18). One longer than 2,048 bytes on the wire is not sent (R106), and none
that the uplink may not send (R76, R122). -/
def enqueue (s : State) (u q : Nat) (f : TxFrame) : State :=
  let x := upOf s u
  let n := wireLen s u f
  if 2048 < n || !maySend s u f.kind then s
  else if queueBytes (x.queues.getD q []) + n ≤ queueLimit s u q then
    putUp s u { x with queues := modAt (fun l => l ++ [{ f with len := n }]) q x.queues }
  else s.count Od.net_q_drops (u * 8 + q)

/-- The redundancy control trailer of a frame of `len` bytes with its FCS (R114): sequence number, LAN identifier, size of the LSDU with the trailer
itself (log entry 149), and the suffix. -/
def trailerOf (seq lan len : Nat) : Nat := ofBytes (beBytes 2 seq) * 2 ^ 32 + (0xA + lan) * 2 ^ 28 + (len - 12) % 4096 * 2 ^ 16 + 0x88FB

/-- A frame sent on the uplinks: under PRP once on each LAN with the same sequence number of its destination in the trailer, otherwise on the named
uplink (R114, R117). -/
def sendUp (s : State) (u q len dst : Nat) : State :=
  if prp s then
    let n := tabGet 0 dst s.net.prpSeq
    let s1 := { s with net := { s.net with prpSeq := tabPut dst ((n + 1) % 65536) s.net.prpSeq } }
    enqueue (enqueue s1 0 q { len := len, trailer := some (trailerOf n 0 len) }) 1 q { len := len, trailer := some (trailerOf n 1 len) }
  else enqueue s u q { len := len }

/-- The uplink of a datagram that answers no request, where PRP does not send it on both: A, or B where A may not send (log entry 18). -/
def hostUplink (s : State) : Nat := if maySend s 0 .traffic then 0 else 1

/-- What a datagram of the module's host carries, where an uplink may send it (R76, R122). -/
def hostOut (s : State) (o : Out) : State := if maySend s 0 .traffic || maySend s 1 .traffic then s.send o else s

/-- A datagram of `n` bytes of payload to an address and port laid out as `od_bacnet_bbmd` is: UDP, IP and Ethernet headers and the FCS (log entry
18). The destination MAC address is the neighbour's, which the manual does not fix (R114, log entry 179). -/
def hostDatagram (s : State) (q n addr : Nat) (o : Out) : State :=
  let len := max 64 (n + 8 + (if addr / 256 ^ 6 = 0xFFFF then 20 else 40) + 18)
  sendUp (hostOut s o) (hostUplink s) q len (Config.neighbourMac (addr / 65536))

/-- A frame of the module's own traffic of a class of `net_q_own` (R109). -/
def sendOwn (s : State) (u cls len dst : Nat) : State := sendUp s u (s.rd Od.net_q_own cls) len dst

/-- What the module sends on an uplink that may send it (R76, R122). -/
def offer (s : State) (u : Nat) (k : TxKind) (o : Out) : State := if maySend s u k then s.send o else s

/-- A frame of one link alone, which PRP does not duplicate, and what it carries: EAPOL and MKA in the network-control class, PTP in queue 6 (R109, R120,
log entry 150). -/
def sendLink (s : State) (u len : Nat) (k : TxKind) (o : Out) : State :=
  let q : Nat := match k with
    | .ptpEvent _ | .traffic => 6
    | _ => s.rd Od.net_q_own 3
  enqueue (offer s u k o) u q { len := len, kind := k }

/-- Whether the head frame of a queue is ready (R112): a resend when complete, any other at the live threshold or complete. -/
def headReady (s : State) (u have_ : Nat) (f : TxFrame) : Bool :=
  decide (f.len ≤ have_) || (!f.resend && s.rd Od.net_tx_thresh u != 2048 && decide (s.rd Od.net_tx_thresh u ≤ have_))

/-- The highest-numbered queue with a ready head frame (R110). -/
def pickQueue (s : State) (u : Nat) (have_ : List Nat) : Option (Nat × TxFrame) :=
  ([7, 6, 5, 4, 3, 2, 1, 0] : List Nat).findSome? (fun q =>
    match ((upOf s u).queues.getD q []).head? with
    | some f => if headReady s u (have_.getD q 0) f then some (q, f) else none
    | none => none)

/-- The length of a PTP message of `n` bytes over the transport of `net_ptp_transport`, which profile 3 ignores (R118, log entry 149). -/
def ptpLen (s : State) (n : Nat) : Nat :=
  n + 18 + (if s.rd Od.net_ptp_profile = 3 then 0 else if s.rd Od.net_ptp_transport = 1 then 28 else if s.rd Od.net_ptp_transport = 2 then 50 else 0)

/-- The transport in use: that of `net_ptp_transport`, Ethernet under profile 3 (R118). -/
def ptpTransport (s : State) : Nat := if s.rd Od.net_ptp_profile = 3 then 0 else s.rd Od.net_ptp_transport

/-- A two-step event message that has gone out is followed by its time stamp (R118), and frames the uplink may no longer send leave its queues
(R76, R122). -/
def frameBoundary (s : State) (u : Nat) : State :=
  let x := upOf s u
  let s1 := putUp s u { x with egress := none, started := none, queues := x.queues.map (fun l => l.filter (fun f => maySend s u f.kind)) }
  match x.started, x.egress with
  | some (_, ⟨_, _, .ptpEvent true, _⟩), some t => sendLink s1 u (ptpLen s 54) .traffic (.pdelayFollowUp u t)
  | _, _ => s1

/-- The SCI of an uplink: its MAC address and port 1 (R121, log entry 149). -/
def ownSci (s : State) (u : Nat) : Nat := s.rd Od.net_mac (if prp s then 0 else u) * 65536 + 1

/-- A frame starts (R110): an event message takes its egress time stamp (R113), a protected one the next packet number (R121). -/
def startFrame (s : State) (u q : Nat) (f : TxFrame) : State :=
  let x := upOf s u
  let event : Bool := match f.kind with
    | .ptpEvent _ => true
    | _ => false
  let sec := secured s u f.kind
  let y := { x with
    started := some (q, f)
    queues := modAt (fun l => l.drop 1) q x.queues
    egress := if event then some s.now else none
    txPn := if sec then x.txPn + 1 else x.txPn }
  ((putUp s u y).count Od.net_q_frames (u * 8 + q)).send
    (.txStart u q f.len f.resend f.trailer (if sec then some (ownSci s u, x.txPn) else none))

/-- TX_FRAME_START (R110, R112), on a link that is up. -/
def txFrameStart (u : Nat) (have_ : List Nat) (s : State) : State :=
  if running s ∧ s.rd Od.net_speed u ≠ 0 then
    let s1 := frameBoundary s u
    match pickQueue s1 u have_ with
    | none => s1
    | some (q, f) => startFrame s1 u q f
  else s

/-- TX_UNDERRUN (R113): the frame ends with an inverted FCS and loses its time stamp, the threshold rises by 256 up to 2,048, the underrun is
counted and recorded, and the frame returns to the head of its queue, store-and-forward. A resend cannot underrun. -/
def txUnderrun (u : Nat) (s : State) : State :=
  match (upOf s u).started with
  | none => s
  | some (q, f) =>
    if f.resend then s
    else
      let x := upOf s u
      let s1 := (putUp s u { x with started := none, egress := none, queues := modAt (fun l => { f with resend := true } :: l) q x.queues }).send
        (.txAborted u q)
      let s2 := s1.wr Od.net_tx_thresh (min (s.rd Od.net_tx_thresh u + 256) 2048) u
      blockEvent (s2.count Od.net_underruns u) 0x03 1 u 1 true (pay [(1, q)])

/-! ## 802.1X (R76) -/

/-- The supplicant enters the connecting state and sends EAPOL-Start (R76). -/
def eapolStart (s : State) (u : Nat) : State := sendLink (s.wr Od.net_dot1x_state 1 u) u 64 .eapol (.eapolStart u)

/-- EAPOL_START_REPEAT (R76). -/
def eapolStartRepeat (u : Nat) (s : State) : State :=
  if running s ∧ s.rd Od.net_dot1x_state u = 1 then sendLink s u 64 .eapol (.eapolStart u) else s

/-- No reauthentication is under way. -/
def reauthDone (s : State) (u : Nat) : State := putUp s u { upOf s u with reauth := false }

/-- A failed or abandoned exchange (R76, R107). -/
def dot1xFail (s : State) (u : Nat) : State :=
  stampUsable (upFault (reauthDone ((s.wr Od.net_dot1x_state 4 u).count Od.net_dot1x_fails u) u) u) u

/-- MKA negotiates on an uplink (R121), which is not secured until it succeeds (R107): where the slot `net_macsec_cak` names is empty, a Layer cake
key stands in for it (R411). The key-server priority is 255, so that the switch becomes key server. -/
def startMka (s : State) (u : Nat) : State :=
  let n := s.rd Od.net_macsec_cak
  let s1 := s.wr Od.net_macsec_state 1 u
  let s2 := if n ≠ 0 ∧ s.rd Od.key_type n = 0 then s1.wr Od.key_lc_used 1 n else s1
  upFault (sendLink s2 u 128 .mka (.mka u 255 (ownSci s u))) u

/-- A successful exchange; without a supplicant key no uplink can be authorised (R76), and MACsec negotiates next (R121). -/
def dot1xSucceed (s : State) (u : Nat) : State :=
  if s.rd Od.net_dot1x_key = 0xFF then dot1xFail s u
  else
    let s1 := reauthDone (s.wr Od.net_dot1x_state 3 u) u
    stampUsable (if s1.rd Od.net_macsec ≠ 0 ∧ s.rd Od.net_dot1x_state u ≠ 3 then startMka s1 u else s1) u

/-- EAPOL_FRAME_RX (R76). A reauthentication of an authorised uplink leaves it authorised until it fails (log entry 14). -/
def eapolFrameRx (u : Nat) (k : EapolKind) (s : State) : State :=
  let st := s.rd Od.net_dot1x_state u
  if running s ∧ s.rd Od.net_link_state u ≠ 0 then
    let s1 := if st = 1 ∨ st = 5 ∨ st = 0 then s.wr Od.net_dot1x_state 2 u else s
    if st = 4 then s
    else match k with
      | .proceed => s1
      | .reauth => if st = 3 then putUp s1 u { upOf s1 u with reauth := true } else s1
      | .success => dot1xSucceed s1 u
      | .failure => dot1xFail s1 u
  else s

/-- DOT1X_EXCHANGE_TIMEOUT (R76): an exchange not completed within 30 s is abandoned, a reauthentication too. -/
def dot1xExchangeTimeout (u : Nat) (s : State) : State :=
  if s.rd Od.net_dot1x_state u = 2 ∨ (s.rd Od.net_dot1x_state u = 3 ∧ (upOf s u).reauth) then dot1xFail s u else s

/-- DOT1X_HOLD_END (R76). -/
def dot1xHoldEnd (u : Nat) (s : State) : State :=
  if s.rd Od.net_dot1x_state u = 4 then eapolStart s u else s

/-- COMMISSION_ADMISSION (R76). -/
def commissionAdmission (u : Nat) (s : State) : State :=
  if s.mode = .commission ∧ s.rd Od.net_dot1x_state u = 1 then s.wr Od.net_dot1x_state 5 u else s

/-- The commissioning admission ends at any exit from COMMISSION (R76). -/
def endAdmission (s : State) : State :=
  [0, 1].foldl (fun t u => if t.rd Od.net_dot1x_state u = 5 then eapolStart t u else t) s

/-! ## Links (R107, R108, R126) -/

/-- The highest speed of the variant (R1). -/
def speedLimit (v : Variant) : Nat :=
  match v with
  | .x => 10000
  | .s => 2500

/-- An uplink's PHY advertises every speed up to `net_speed_max` again, from its next negotiation on (R105). -/
def offerAll (s : State) (u : Nat) : State := putUp s u { upOf s u with advertised := [] }

/-- The link of an uplink is lost: no speed, no admission, no secure session, and an uplink fault. -/
def linkLost (s : State) (u linkState : Nat) : State :=
  let s1 := offerAll (reauthDone (((s.wr Od.net_link_state linkState u).wr Od.net_speed 0 u).wr Od.net_dot1x_state 0 u) u) u
  let s2 := s1.wr Od.net_macsec_state (if s.rd Od.net_macsec = 0 then 0 else 1) u
  stampUsable (upFault s2 u) u

/-- The speeds up to a limit (R105). -/
def speedsUpTo (n : Nat) : List Nat := ([100, 1000, 2500, 5000, 10000] : List Nat).filter (fun v => decide (v ≤ n))

/-- The speeds an uplink advertises outside STANDBY and speed shifts (R105). -/
def allSpeeds (s : State) (u : Nat) : List Nat := speedsUpTo (s.rd Od.net_speed_max u)

/-- An uplink's PHY begins auto-negotiation, advertising the given speeds (R105). -/
def negotiate (s : State) (u : Nat) (speeds : List Nat) (eee : Bool) : State :=
  (putUp s u { upOf s u with advertised := speeds }).send (.negotiate u speeds eee)

/-- An uplink restarts auto-negotiation (R105, R108). -/
def renegotiate (s : State) (u : Nat) : State := negotiate (linkLost s u 1) u (allSpeeds s u) false

/-- Whether a link may come up at a speed: one that the PHY advertises (R105), all of them where it names none. -/
def speedOffered (s : State) (u speed : Nat) : Bool :=
  match (upOf s u).advertised with
  | [] => (allSpeeds s u).contains speed
  | l => l.contains speed

/-- UPLINK_LINK_UP (R108, R76, R126). A link that comes up during a speed shift stays in state 3 until the shift ends; an uplink that is up and not
yet authorised is a fault (R107). -/
def uplinkLinkUp (u speed : Nat) (s : State) : State :=
  if s.mode = .standby then
    if speed = 100 then putUp s u { upOf s u with standbyLink := true } else s
  else if powered s ∧ speedOffered s u speed then
    let st := s.rd Od.net_link_state u
    if st = 2 then s
    else
      let s1 := (s.wr Od.net_link_state (if st = 3 then 3 else 2) u).wr Od.net_speed speed u
      upFault (stampUsable (eapolStart s1 u) u) u
  else s

/-- The uplinks at the end of BOOT (R107, R108): a PHY that has no link begins to negotiate, and an uplink that is not up, authorised and, where configured,
secured is a fault. -/
def uplinksBoot (s : State) : State :=
  [0, 1].foldl (fun t u =>
    let t1 := if t.rd Od.net_link_state u = 0 then negotiate (t.wr Od.net_link_state 1 u) u (allSpeeds t u) false else t
    if upUsable t1 u then t1 else upFault t1 u) s

/-- UPLINK_LINK_DOWN (R107). -/
def uplinkLinkDown (u : Nat) (s : State) : State :=
  if s.mode = .standby then putUp s u { upOf s u with standbyLink := false }
  else if powered s then linkLost s u 0 else s

/-- PRP_SILENCE_TIMEOUT (R107): counted only under PRP on an uplink that is authorised and, where configured, secured. -/
def prpSilenceTimeout (u : Nat) (s : State) : State :=
  if powered s ∧ prp s ∧ upUsable s u then upFault s u else s

/-- UPLINK_FAULT_CLEAR (R37): frames have been received on the authorised uplink for 10 s. -/
def uplinkFaultClear (u : Nat) (s : State) : State :=
  if powered s ∧ upUsable s u then clearFault s (upBit u) else s

/-! ## Received frames (R19, R106, R114 to R117, R121) -/

/-- A frame passes duplicate discard: `none` where it is a second copy (R114). The full table loses its oldest pair. A third copy of a pair not yet
forgotten, of which R114 says nothing, is delivered (log entry 175). -/
def dupCheck (s : State) (u src seq : Nat) : Option State :=
  match s.net.dup.find? (fun d => d.src == src && d.seq == seq) with
  | some d => if d.second then some s else none
  | none => some { s with net := { s.net with dup := (⟨src, seq, u, false⟩ :: s.net.dup).take 8192 } }

/-- The second copy has been seen. -/
def dupSeen (s : State) (src seq : Nat) : State :=
  { s with net := { s.net with dup := s.net.dup.map (fun d => if d.src = src ∧ d.seq = seq then { d with second := true } else d) } }

/-- A remote node of a supervision frame is recorded, up to 1,024 (R116). -/
def recordNode (s : State) (node : Nat) : State :=
  if s.net.nodes.contains node ∨ 1024 ≤ s.net.nodes.length then s
  else { s.wr Od.net_prp_nodes (s.net.nodes.length + 1) with net := { s.net with nodes := s.net.nodes ++ [node] } }

/-- A frame's VLAN on the uplinks and its PCP: an untagged frame has PCP 0 (R109) and belongs to VLAN 1 (log entry 151). -/
def vlanOf (f : UplinkFrame) : Nat × Nat :=
  match f.tag with
  | some (v, p) => (if v = 0 then 1 else v, p)
  | none => (1, 0)

/-- A delivered frame reaches its port (R19), or is forwarded (R109, R132). -/
def deliver (s : State) (u : Nat) (f : UplinkFrame) : State :=
  match f.kind with
  | .supervision node => recordNode s node
  | .forward ports toUplinks =>
    let s1 := fieldEgress s (vlanOf f).1 (vlanOf f).2 f.len ports
    if toUplinks ∧ !prp s then enqueue s1 (1 - u) (s.rd Od.net_q_pcp (vlanOf f).2) { len := f.len } else s1
  | k => s.send (.routed k f.len)

/-- Whether MACsec refuses a frame (R121): a bad ICV, an unknown SCI, a packet number below what the replay window admits, or no SecTAG at all, of which
R121 says nothing (log entry 176). -/
def macsecRefuses (s : State) (u : Nat) (f : UplinkFrame) : Bool :=
  let x := upOf s u
  match f.sec with
  | none => true
  | some t => !t.icvOk || x.peerSci != some t.sci || decide (t.pn + s.rd Od.net_macsec_window < x.rxPn)

/-- The packet number of an accepted frame moves the window (R121). -/
def notePn (s : State) (u : Nat) (f : UplinkFrame) : State :=
  match f.sec with
  | none => s
  | some t => putUp s u { upOf s u with rxPn := max (upOf s u).rxPn (t.pn + 1) }

/-- An accepted frame passes duplicate discard under PRP and is delivered (R114, R117); a Macaron frame is diverted before it (R319). -/
def acceptFrame (s : State) (u : Nat) (f : UplinkFrame) : State :=
  if !prp s then deliver s u f
  else match f.trailer with
    | none => deliver s u f
    | some (seq, lan) =>
      let s1 := s.count Od.net_prp_rx u
      let s2 := if lan = 0xA + u then s1 else s1.count Od.net_prp_wrong_lan u
      if f.kind = .macaron then deliver s2 u f
      else match dupCheck s2 u f.src seq with
        | some s3 => deliver s3 u f
        | none => dupSeen (s2.count Od.net_prp_discarded) f.src seq

/-- UPLINK_FRAME_RX (R19, R76, R106, R114, R121). -/
def uplinkFrameRx (u : Nat) (f : UplinkFrame) (s : State) : State :=
  if !running s then s
  else if 2048 < f.len then s.count Od.net_rx_oversize u
  else if f.kind = .pause then s.count Od.net_rx_pause u
  else if macsecOn s u ∧ s.rd Od.net_macsec_state u = 2 then
    if macsecRefuses s u f then s.count Od.net_macsec_drops u
    else if upUsable s u || (admitted s u && f.kind == .own) then acceptFrame (notePn s u f) u f
    else s
  else if upUsable s u || (admitted s u && f.kind == .own) then acceptFrame s u f
  else s

/-- PRP_FORGET_EXPIRY (R114): a first copy whose second copy did not arrive is counted on its LAN. -/
def prpForgetExpiry (src seq : Nat) (s : State) : State :=
  match s.net.dup.find? (fun d => d.src == src && d.seq == seq) with
  | none => s
  | some d =>
    let s1 := { s with net := { s.net with dup := s.net.dup.erase d } }
    if d.second then s1 else s1.count Od.net_prp_single d.lan

/-- PRP_SUPERVISION_TX (R115, R116). -/
def prpSupervisionTx (s : State) : State :=
  if running s ∧ prp s then
    (0 :: s.net.proxies).foldl (fun t n =>
      sendOwn (offer (offer t 0 .traffic (.supervision 0 n)) 1 .traffic (.supervision 1 n)) 0 3 64 0x01154E000100) s
  else s

/-- PROXY_ENTRY_AGEOUT (R115). -/
def proxyEntryAgeout (mac : Nat) (s : State) : State :=
  let ps := s.net.proxies.filter (· != mac)
  { s.wr Od.net_prp_proxied ps.length with net := { s.net with proxies := ps } }

/-- A frame forwarded from the field side to the LANs, tagged with its VLAN, which adds 4 bytes (R109, R115, R117, R131, log entry 151). -/
def forwardUp (s : State) (src pcp len0 dst u : Nat) : State :=
  let q := s.rd Od.net_q_pcp pcp
  let len := len0 + 4
  if !prp s then enqueue s u q { len := len }
  else if s.net.proxies.contains src then sendUp s 0 q len dst
  else if s.net.proxies.length < 4096 then
    let ps := s.net.proxies ++ [src]
    sendUp { s.wr Od.net_prp_proxied ps.length with net := { s.net with proxies := ps } } 0 q len dst
  else enqueue (s.count Od.net_prp_proxy_over) 0 q { len := len }

/-! ## PTP (R32, R118 to R120, R360) -/

/-- The uplink with the better master; LAN A wins a tie (R120). -/
def bestPort (s : State) : Nat :=
  match s.net.a.master, s.net.b.master with
  | none, none => 0xFF
  | some _, none => 0
  | none, some _ => 1
  | some x, some y => if y.2 < x.2 then 1 else 0

/-- The grandmaster of the port in use. -/
def gmOf (s : State) (p : Nat) : Nat :=
  match (if p = 0xFF then none else (upOf s p).master) with
  | some m => m.1
  | none => 0

/-- The port in use is chosen again; a first master leads to state 2, and a change of port is absorbed by slewing alone (R119, R120). -/
def chooseMaster (s : State) : State :=
  let p := bestPort s
  let old := s.rd Od.net_ptp_port
  let s0 := if old ≠ 0xFF ∧ p ≠ old then { s with net := { s.net with switched := true } } else s
  let s1 := (s0.wr Od.net_ptp_port p).wr Od.net_ptp_gm (gmOf s p)
  if p ≠ 0xFF ∧ (s.rd Od.net_ptp_state = 1 ∨ s.rd Od.net_ptp_state = 4) then s1.wr Od.net_ptp_state 2 else s1

/-- `rtc_tai_offset` follows a valid currentUtcOffset while synchronised and locked (R360), with an anchor (R385). -/
def followUtc (s : State) (utc : Option Int) : State :=
  match utc with
  | none => s
  | some v =>
    if s.rd Od.rtc_sync = 1 ∧ s.rd Od.net_ptp_state = 3 ∧ s.rdInt Od.rtc_tai_offset ≠ v then
      anchor (s.wrInt Od.rtc_tai_offset v) 4
    else s

/-- The servo takes an offset and a frequency correction of at most ±100 ppm: a step before RUN is first entered, slewing from then on and after a change
of port (R32, R119, R120). Both corrections change how long a tick of the timebase lasts and no instant of it, since every activation is taken from the
timebase itself (R32, log entry 177). -/
def servo (s0 : State) (offset freq : Int) : State :=
  let s := { s0 with net := { s0.net with freq := clampInt (-100000) 100000 freq } }
  if s.net.ran || s.net.switched then { s with net := { s.net with slew := -offset } }
  else { s with now := (((s.now : Int) - offset) % 2 ^ 64).toNat }

/-- PTP begins anew, at the start of the parts and when its profile or domain changes: no master, listening unless the profile is off
(R118, `net_ptp_state`). -/
def ptpRestart (s : State) : State :=
  let s1 := putUp (putUp s 0 { upOf s 0 with master := none }) 1 { upOf s 1 with master := none }
  let s2 := (s1.wr Od.net_ptp_state (if s.rd Od.net_ptp_profile = 0 then 0 else 1)).wr Od.net_ptp_port 0xFF
  { s2.wr Od.net_ptp_gm 0 with net := { s2.net with slew := 0, switched := false } }

/-- PTP_MESSAGE_RX (R118 to R120, R360), on an uplink that carries traffic (R76, R122). In holdover the last correction stands until an Announce message
comes (R119). -/
def ptpMessageRx (u : Nat) (m : PtpMsg) (s : State) : State :=
  if !running s ∨ s.rd Od.net_ptp_profile = 0 ∨ !upUsable s u then s
  else match m with
    | .announce gm rank utc =>
      let s1 := chooseMaster (putUp s u { upOf s u with master := some (gm, rank) })
      if s1.rd Od.net_ptp_port = u then followUtc s1 utc else s1
    | .sync offset delay locked freq =>
      let s1 := (s.wrInt Od.net_ptp_offset (clampInt (-2147483647) 2147483647 offset) u).wr Od.net_ptp_delay delay u
      if s.rd Od.net_ptp_port = u ∧ (s.rd Od.net_ptp_state = 2 ∨ s.rd Od.net_ptp_state = 3) then
        servo (s1.wr Od.net_ptp_state (if locked then 3 else 2)) offset freq
      else s1
    | .pdelayReq =>
      if 2 ≤ s.rd Od.net_ptp_profile then sendLink s u (ptpLen s 54) (.ptpEvent true) (.pdelayResp u (ptpTransport s)) else s
    | .syncRx =>
      let peer := decide (2 ≤ s.rd Od.net_ptp_profile)
      sendLink s u (ptpLen s (if peer then 54 else 44)) (.ptpEvent false) (.delayReq u peer (ptpTransport s))

/-- PTP_ANNOUNCE_TIMEOUT (R119): holdover, keeping the last frequency correction. -/
def ptpAnnounceTimeout (s : State) : State :=
  let p := s.rd Od.net_ptp_port
  if running s ∧ p ≠ 0xFF then
    let s1 := putUp s p { upOf s p with master := none }
    if bestPort s1 = 0xFF then s1.wr Od.net_ptp_state 4 else chooseMaster s1
  else s

/-! ## MACsec (R121, R122) -/

/-- MKA restarts on an uplink: unsecured until the session is secured again (R107, R122). -/
def mkaRestart (s : State) (u : Nat) : State :=
  if s.rd Od.net_macsec = 0 then s.wr Od.net_macsec_state 0 u else startMka s u

/-- The waiting restart on uplink B is made (R122). -/
def mkaRestartB (s : State) : State :=
  if s.net.mkaBWaits then mkaRestart { s with net := { s.net with mkaBWaits := false } } 1 else s

/-- A commit that changes `net_macsec` or `net_macsec_cak` restarts MKA on uplink A first (R122). -/
def macsecChanged (s : State) : State :=
  let s0 := mkaRestart s 0
  let s1 := { s0 with net := { s0.net with mkaBWaits := true } }
  if s1.rd Od.net_macsec = 0 then mkaRestartB s1 else s1

/-- What a commit does besides storing the uplink entries (R122): MKA restarts where its configuration changed. -/
def netCommitted (old s : State) (touched : List (Nat × Nat)) : State :=
  if running s && touched.any (fun t => t.1 == Od.net_macsec || t.1 == Od.net_macsec_cak) &&
      (s.rd Od.net_macsec != old.rd Od.net_macsec || s.rd Od.net_macsec_cak != old.rd Od.net_macsec_cak) then macsecChanged s
  else s

/-- MKA_SECURED (R121, R122): packet numbers begin anew with the peer's SCI. -/
def mkaSecured (u sci : Nat) (s : State) : State :=
  if running s ∧ s.rd Od.net_macsec ≠ 0 ∧ s.rd Od.net_macsec_state u = 1 then
    let s0 := putUp s u { upOf s u with peerSci := some sci, rxPn := 1, txPn := 1 }
    let s1 := s0.wr Od.net_macsec_state 2 u
    if u = 0 then mkaRestartB s1 else s1
  else s

/-- MKA_FAILED (R121). -/
def mkaFailed (u : Nat) (s : State) : State :=
  if running s ∧ s.rd Od.net_macsec ≠ 0 then upFault (s.wr Od.net_macsec_state 3 u) u else s

/-- MKA_RETRY (R121). -/
def mkaRetry (u : Nat) (s : State) : State :=
  if running s ∧ s.rd Od.net_macsec_state u = 3 then startMka s u else s

/-- MKA_B_RESTART_TIMEOUT (R122). -/
def mkaBRestartTimeout (s : State) : State := if running s then mkaRestartB s else s

/-! ## STANDBY links and wake patterns (R123 to R126) -/

/-- STANDBY_LINK_RETRY (R126). -/
def standbyLinkRetry (u : Nat) (s : State) : State :=
  if s.mode = .standby ∧ !(upOf s u).standbyLink then negotiate s u [100] true else s

/-- Whether mask bit j of mask byte k selects frame byte 8k + j (R123). -/
def maskBit (mask i : Nat) : Bool := (byteAt 16 mask (i / 8)).testBit (i % 8)

/-- The frame offsets a mask selects, ascending. -/
def maskOffsets (mask : Nat) : List Nat := (List.range 128).filter (maskBit mask)

/-- Whether a frame, whose FCS is right, matches a wake pattern (R123). -/
def wakeMatch (mask check : Nat) (frame : List Nat) : Bool :=
  let offs := maskOffsets mask
  match offs.getLast? with
  | none => false
  | some top => decide (top < frame.length) && crc16 (offs.map (fun o => frame.getD o 0)) == check

/-- The first matching pattern of an uplink. -/
def wakeHit (s : State) (u : Nat) (frame : List Nat) : Option Nat :=
  (List.range 32).find? (fun p => wakeMatch (s.rd Od.net_wake_mask (u * 32 + p)) (s.rd Od.net_wake_check (u * 32 + p)) frame)

/-! ## Speed downshift (R127 to R130) -/

/-- The speed R127 moves to from the present speed and window load in kbit/s. -/
def shiftTarget (speed load : Nat) : Option Nat :=
  if speed = 2500 then (if load < 100000 then some 1000 else none)
  else if speed = 1000 then (if load < 10000 then some 100 else if 600000 ≤ load then some 2500 else none)
  else if speed = 100 then (if 60000 ≤ load then some 1000 else none)
  else none

/-- The conditions of R128 and R129 for a shift to start. -/
def shiftAllowed (s : State) (u : Nat) : Bool :=
  (running s && s.mode != .safeHold) && putBit (s.rd Od.sys_health) (upBit u) false == 0 &&
    (match (upOf s (1 - u)).usableSince with
      | some t => decide (t + 10000000000 ≤ s.now)
      | none => false) &&
    (match (upOf s u).lastShift with
      | some t => decide (t + 60000000000 ≤ s.now)
      | none => true) &&
    s.rd Od.net_link_state u == 2

/-- A shift starts (R127, R128): state 3, no link, an uplink fault while it runs; only the new speed is advertised, or all of them for the step up to
`net_speed_max`. -/
def shiftStart (s : State) (u target : Nat) : State :=
  let s1 := (linkLost s u 3).count Od.net_shift_count u
  negotiate (putUp s1 u { upOf s1 u with lastShift := some s.now, raiseDue := false }) u
    (if target = s.rd Od.net_speed_max u then allSpeeds s u else [target]) false

/-- Whether a rise of an uplink to `net_speed_max` is still due (R129): one that is up at that speed needs none. -/
def riseNeeded (s : State) (u : Nat) : Bool :=
  (upOf s u).raiseDue && decide (s.rd Od.net_speed u < s.rd Od.net_speed_max u) && shiftAllowed s u

/-- A rise to `net_speed_max` that is due is started, one uplink at a time (R129). -/
def raiseDue (s : State) : State :=
  if s.variant = .s then
    if riseNeeded s 0 then shiftStart s 0 (s.rd Od.net_speed_max 0)
    else if riseNeeded s 1 then shiftStart s 1 (s.rd Od.net_speed_max 1)
    else s
  else s

/-- DOWNSHIFT_WINDOW (R127, R128). -/
def downshiftWindow (u load : Nat) (s : State) : State :=
  if s.variant = .s ∧ running s then
    let s1 := raiseDue (s.wr Od.net_shift_load load u)
    if s1.rd Od.net_downshift = 1 ∧ shiftAllowed s1 u then
      match shiftTarget (s1.rd Od.net_speed u) load with
      | some t => if t ≤ s1.rd Od.net_speed_max u then shiftStart s1 u t else s1
      | none => s1
    else s1
  else s

/-- SPEED_SHIFT_END (R128): the new link is up at the speed and 802.1X has completed on it. The fault clears as R37 states. -/
def speedShiftEnd (u speed : Nat) (s : State) : State :=
  if running s ∧ s.rd Od.net_link_state u = 3 ∧ s.rd Od.net_speed u = speed ∧ speed ≠ 0 ∧ s.rd Od.net_dot1x_state u = 3 then
    raiseDue (offerAll (stampUsable (s.wr Od.net_link_state 2 u) u) u)
  else s

/-- `net_downshift` has been set to 0 (R129): each uplink is to rise to `net_speed_max`, unless it stands there. -/
def downshiftOff (s : State) : State :=
  let due (t : State) (u : Nat) : State := putUp t u { upOf t u with raiseDue := t.rd Od.net_speed u != t.rd Od.net_speed_max u }
  raiseDue (due (due s 0) 1)

/-! ## Checks and effects of uplink entries -/

/-- The chapter's own refusals (R76, R108, R121). -/
def netExtra (s : State) (i v : Nat) : Extra :=
  if i = Od.net_speed_max then { range := decide (speedLimit s.variant < v) }
  else if i = Od.net_ip_mode then { range := decide (31 < v) }
  else if i = Od.net_ip6_static then { range := v % 256 == 0 || decide (128 < v % 256) }
  else if i = Od.net_ip4_static then { range := v % 256 == 0 || decide (32 < v % 256) }
  else if i = Od.net_dot1x_key then { range := v != 0xFF && !(s.rd Od.key_attr v).testBit 0 }
  else if i = Od.net_macsec_cak then { range := v != 0 && !(s.rd Od.key_attr v).testBit 4 }
  else {}

/-- The checks of R108, R111 and the PRP table on what a commit leaves. -/
def netLeaves (s : State) : Bool :=
  !(s.rdBit Od.net_ip_mode 4 && s.rdBit Od.net_ip_mode 3) &&
    [0, 1].all (fun u => decide (((List.range 8).foldl (fun a q => a + s.rd Od.net_q_limit (u * 8 + q)) 0) ≤ 2048)) &&
    decide (2 * s.rd Od.net_prp_life ≤ s.rd Od.net_prp_silence)

/-- An applied write of an uplink entry, with its effect at the commit boundary. A rise still due when `net_downshift` is set to 1 again stays due
(log entry 178). -/
def netApply (s : State) (i e v : Nat) : Option State :=
  if i = Od.net_tx_start then some ((s.wr i v e).wr Od.net_tx_thresh v e)
  else if i = Od.net_speed_max then some (if s.rd i e = v then s else renegotiate (s.wr i v e) e)
  else if i = Od.net_mode then some (if s.rd i = v then s else renegotiate (renegotiate (s.wr i v) 0) 1)
  else if i = Od.net_downshift then
    some (if v = 0 ∧ s.rd i = 1 then downshiftOff (s.wr i 0) else s.wr i v)
  else if i = Od.net_ptp_profile ∨ i = Od.net_ptp_domain then
    some (if s.rd i = v ∨ !running s then s.wr i v else ptpRestart (s.wr i v))
  else none

end Sys2Proof.Machine
end

