-- ==== Sys2Proof/Machine/Field.lean ====
section
/-!
DEFINITION. Field segments: bridge ports, 10BASE-T1L links, power over the data pair, 10BASE-T1S segments, MS/TP and
Modbus RTU (R131 to R151).
-/
namespace Sys2Proof.Machine

/-- A field event (R394). -/
def fieldEvent (s : State) (tag port : Nat) : State := blockEvent s 0x03 tag port 1 true

/-! ## Bridge ports (R131 to R133, R145) -/

/-- A frame admitted into its VLAN goes on (R19, R131, R109, R115). Its length is counted without a tag, so that a priority-tagged frame is counted here as
an untagged one is (log entry 180). -/
def fieldForward (s : State) (p : Nat) (f : FieldFrame) : State :=
  let pcp := match f.vid with
    | none => s.rd Od.fld_pcp p
    | some _ => f.pcp
  let s1 := fieldEgress s (s.rd Od.fld_pvid p) pcp f.len f.ports
  let s2 := match f.uplink with
    | some u => forwardUp s1 f.src pcp f.len f.dst u
    | none => s1
  match f.own with
  | some k => s2.send (.routed k f.len)
  | none => s2

/-- A frame on a T1S segment is attributed to its node (R145). -/
def noteNode (s : State) (p : Nat) (f : FieldFrame) : State :=
  if 16 ≤ p then s.wrBit Od.fld_plca_present f.node true (p - 16) else s

/-- Whether a frame can arrive at all: a node of a T1S segment whose ID is not below the node count is never given an opportunity (R144). -/
def fieldCanSend (s : State) (p : Nat) (f : FieldFrame) : Bool := decide (p < 16) || decide (f.node < s.rd Od.fld_plca_count (p - 16))

/-- FIELD_FRAME_RX (R131, R133, R144, R145). -/
def fieldFrameRx (p : Nat) (f : FieldFrame) (s0 : State) : State :=
  if !running s0 ∨ !bridgePort s0 p ∨ !fieldCanSend s0 p f then s0
  else
    let s := noteNode s0 p f
    let wrongVlan : Bool := match f.vid with
      | none => false
      | some v => v != 0 && v != s.rd Od.fld_pvid p
    if f.fcsBad || wrongVlan then s.count Od.fld_rx_discards p
    else
      let n := tabGet 0 p s.fld.bcast
      if f.multi ∧ s.rd Od.fld_bcast_limit p ≤ n then s.count Od.fld_bcast_drops p
      else
        let s1 := if f.multi then { s with fld := { s.fld with bcast := tabPut p (n + 1) s.fld.bcast } } else s
        fieldForward (s1.count Od.fld_rx_frames p) p f

/-- BCAST_WINDOW_RESET (R133). -/
def bcastWindowReset (p : Nat) (s : State) : State := { s with fld := { s.fld with bcast := tabDel p s.fld.bcast } }

/-- PLCA_PRESENCE_AGEOUT (R145): bit 0 is always set. -/
def plcaPresenceAgeout (seg node : Nat) (s : State) : State :=
  if seg < t1sCount s ∧ node ≠ 0 ∧ node < 16 then s.wrBit Od.fld_plca_present node false seg else s

/-! ## 10BASE-T1L links (R134 to R136) -/

/-- T1L_LINK_UP (R136): an enabled port comes up at an amplitude its setting admits. -/
def t1lLinkUp (p : Nat) (high : Bool) (snr : Nat) (s : State) : State :=
  let amp := s.rd Od.fld_t1l_amp p
  if running s ∧ p < t1lCount s ∧ s.rd Od.fld_t1l_enable p = 1 ∧ (amp = 0 ∨ (amp = 1 ∧ !high) ∨ (amp = 2 ∧ high)) then
    (s.wr Od.fld_t1l_state (if high then 4 else 3) p).wr Od.fld_t1l_snr snr p
  else s

/-- A T1L port returns to `st`, counting a loss of link (R136). -/
def t1lDown (s : State) (p st : Nat) : State :=
  let s1 := (s.wr Od.fld_t1l_state st p).wr Od.fld_t1l_snr 0 p
  if 3 ≤ s.rd Od.fld_t1l_state p then s1.count Od.fld_t1l_downs p else s1

/-- T1L_LINK_DOWN (R136). -/
def t1lLinkDown (p : Nat) (s : State) : State :=
  if p < t1lCount s ∧ 3 ≤ s.rd Od.fld_t1l_state p then t1lDown s p 1 else s

/-! ## Power over the data pair (R137 to R142) -/

/-- Whether a class draws from the carrier rail (R139). -/
def classRail (c : Nat) : Bool := decide (c ≤ 12)

/-- The current limit of a class in mA (R139). -/
def classLimit (c : Nat) : Nat := ([92, 240, 632, 231, 600, 1579] : List Nat).getD (c - 10) 0

/-- The allocation of a class at the port, in 0.01 W (R139). -/
def classAlloc (c : Nat) : Nat := ([276, 720, 1896, 1317, 3420, 9000] : List Nat).getD (c - 10) 0

/-- The allocation counted against the budget, in 0.01 W: a rail allocation divided by the rail's efficiency (R139). -/
def countedAlloc (s : State) (c : Nat) : Frac :=
  if classRail c then ⟨classAlloc c * 100, s.rd Od.fld_pse_lv_eff⟩ else ⟨classAlloc c, 1⟩

/-- Whether a port holds an allocation: state 6 or 7 (R141). -/
def psePowered (s : State) (p : Nat) : Bool := s.rd Od.fld_pse_state p == 6 || s.rd Od.fld_pse_state p == 7

/-- `allocated` of R141, in 0.01 W. -/
def pseAllocated (s : State) : Frac :=
  (List.range (t1lCount s)).foldl (fun a p => if psePowered s p then a.add (countedAlloc s (s.rd Od.fld_pse_class p)) else a) ⟨0, 1⟩

/-- `fld_pse_alloc` in 0.1 W, to the nearest. -/
def pseNoteAlloc (s : State) : State := s.wr Od.fld_pse_alloc ((pseAllocated s).div ⟨10, 1⟩).round.toNat

/-- The budget in 0.01 W. -/
def pseBudget (s : State) : Frac := ⟨s.rd Od.fld_pse_budget * 10, 1⟩

/-- Ports in an order: by `fld_pse_prio`, then port number, ascending; or both descending (R138, R141). -/
def pseOrder (s : State) (descending : Bool) : List Nat :=
  let asc := [0, 1, 2, 3].flatMap (fun pr => (List.range (t1lCount s)).filter (fun p => s.rd Od.fld_pse_prio p == pr))
  if descending then asc.reverse else asc

/-- A port returns to the start of R138, if it is enabled and not latched: off, until its check for foreign voltage (PSE_START). -/
def pseRestart (s : State) (p : Nat) : State :=
  if s.rd Od.fld_pse_enable p = 1 ∧ s.rd Od.fld_pse_state p ≠ 9 then (s.wr Od.fld_pse_state 0 p).wr Od.fld_pse_class 0 p else s

/-- Whether a port is on its way through R138, from its start to the end of its classification. -/
def pseUnderWay (s : State) (p : Nat) : Bool :=
  s.rd Od.fld_pse_enable p == 1 && (s.rd Od.fld_pse_state p == 0 || s.rd Od.fld_pse_state p == 2 || s.rd Od.fld_pse_state p == 4)

/-- The first port of a revisit that is still denied takes its turn (R142). -/
def pseTurn (s : State) (ports : List Nat) : State :=
  let waiting := ports.dropWhile (fun p => s.rd Od.fld_pse_state p != 5)
  let s1 := { s with fld := { s.fld with revisit := waiting } }
  match waiting with
  | [] => s1
  | p :: _ => pseRestart s1 p

/-- Denied ports are revisited in order of priority and then port number, each from the start of R138 once the one before it has been through it (R142, log
entry 182). -/
def pseRevisit (s : State) : State :=
  let denied := (pseOrder s false).filter (fun p => s.rd Od.fld_pse_state p == 5)
  pseNoteAlloc (match s.fld.revisit with
    | [] => pseTurn s denied
    | p :: _ => if pseUnderWay s p then { s with fld := { s.fld with revisit := p :: denied } } else pseTurn s denied)

/-- The next port of a revisit takes its turn when the one before it has been through R138 (R142). -/
def pseNext (s : State) : State :=
  match s.fld.revisit with
  | [] => s
  | p :: ps => if pseUnderWay s p then s else pseTurn s ps

/-- A powered port is shed: its gate opens and it is denied (R141). -/
def pseShed (s : State) (p : Nat) : State := s.wr Od.fld_pse_state 5 p

/-- The victims of R141 in order, until what they free covers the need. -/
def pseChoose (s : State) (free need : Frac) : List Nat → Frac → List Nat → List Nat × Frac
  | [], freed, chosen => (chosen, freed)
  | q :: qs, freed, chosen =>
    if need.le (free.add freed) then (chosen, freed)
    else pseChoose s free need qs (freed.add (countedAlloc s (s.rd Od.fld_pse_class q))) (chosen ++ [q])

/-- `admit` of R141: the state after a grant or a denial. -/
def pseAdmit (s : State) (p c : Nat) : State :=
  if s.rd Od.fld_pse_max_class p < c then s.wr Od.fld_pse_state 5 p
  else
    let need := countedAlloc s c
    let free := (pseBudget s).sub (pseAllocated s)
    let grant (t : State) : State := pseNoteAlloc ((t.wr Od.fld_pse_state 6 p).wr Od.fld_pse_class c p)
    if need.le free then grant s
    else
      let victims := (pseOrder s true).filter (fun q => psePowered s q && decide (s.rd Od.fld_pse_prio p < s.rd Od.fld_pse_prio q))
      let r := pseChoose s free need victims ⟨0, 1⟩ []
      if (free.add r.2).lt need then s.wr Od.fld_pse_state 5 p
      else pseRevisit (grant (r.1.foldl pseShed s))

/-- The check for foreign voltage of 3.0 V or more, after which detection is applied and meets a signature (R138). A denied port waits for its turn
(R142). -/
def pseDetect (s : State) (p foreignMv : Nat) (sigOk : Bool) : State :=
  if running s ∧ p < t1lCount s ∧ s.rd Od.fld_pse_enable p = 1 ∧ !s.fld.pwrBad ∧ !entryOff s ∧ s.rd Od.fld_pse_state p ≠ 9 ∧
      s.rd Od.fld_pse_state p ≠ 5 ∧ !psePowered s p then
    if 3000 ≤ foreignMv then s.wr Od.fld_pse_state 1 p
    else { s.wr Od.fld_pse_state 2 p with fld := { s.fld with detects := tabPut p sigOk s.fld.detects } }
  else s

/-- The detections under way end by the next tick, which is within their 10 ms (R138): a valid signature is followed by classification. -/
def pseDetected (s : State) : State :=
  s.fld.detects.foldl (fun t d => if t.rd Od.fld_pse_state d.1 = 2 then t.wr Od.fld_pse_state (if d.2 then 4 else 3) d.1 else t)
    { s with fld := { s.fld with detects := [] } }

/-- PSE_START (R138). -/
def pseStart (p foreignMv : Nat) (sigOk : Bool) (s : State) : State := pseDetect s p foreignMv sigOk

/-- PSE_CHECK_REPEAT (R138): of a foreign voltage or an invalid signature. -/
def pseCheckRepeat (p foreignMv : Nat) (sigOk : Bool) (s : State) : State :=
  if s.rd Od.fld_pse_state p = 1 ∨ s.rd Od.fld_pse_state p = 3 then pseDetect s p foreignMv sigOk else s

/-- A port reaches the budget step with its class (R138, R141). Classes 0 to 9 are refused (R134). -/
def pseClassified (p : Nat) (cls : Option Nat) (s : State) : State :=
  if running s ∧ p < t1lCount s ∧ s.rd Od.fld_pse_state p = 4 then
    match cls with
    | none => s.wr Od.fld_pse_state 3 p
    | some c => if c < 10 ∨ 15 < c then s.wr Od.fld_pse_state 5 p else pseAdmit s p c
  else s

/-- PSE_CLASSIFICATION_DONE (R138): ports that reach the budget step at the same moment are taken by `fld_pse_prio` and then port number. -/
def pseClassificationDone (done : List (Nat × Option Nat)) (s : State) : State :=
  (pseOrder s false).foldl (fun t p =>
    match done.find? (fun d => d.1 == p) with
    | some d => pseClassified p d.2 t
    | none => t) s

/-- A port fault (R140): the gate opens, the fault is counted and recorded, and the third within 10 min latches the port. -/
def pseFault (s : State) (p tag : Nat) : State :=
  let recent := (tabGet [] p s.fld.faultTimes).filter (fun t => decide (s.now < t + 600000000000))
  let times := s.now :: recent
  let s1 := (s.wr Od.fld_pse_state (if 3 ≤ times.length then 9 else 8) p).count Od.fld_pse_faults p
  pseRevisit (fieldEvent { s1 with fld := { s1.fld with faultTimes := tabPut p times s1.fld.faultTimes } } tag p)

/-- Whether a port voltage is below 90 % of its source (R138, R140). -/
def underSource (portMv sourceMv : Nat) : Bool := decide (portMv * 10 < sourceMv * 9)

/-- PSE_POWER_GOOD_CHECK (R138). -/
def psePowerGoodCheck (p portMv sourceMv : Nat) (s : State) : State :=
  if p < t1lCount s ∧ s.rd Od.fld_pse_state p = 6 then
    let s1 := s.wr Od.fld_pse_voltage (portMv / 10) p
    if underSource portMv sourceMv then pseFault s1 p 1
    else
      let s2 := s1.wr Od.fld_pse_state 7 p
      if s2.rd Od.fld_t1l_enable p = 1 ∧ s2.rd Od.fld_t1l_state p = 1 then s2.wr Od.fld_t1l_state 2 p else s2
  else s

/-- The comparator's threshold of a class in mA (R140). -/
def tripLimit (c : Nat) : Nat := if c = 15 then 1900 else 2 * classLimit c

/-- The measured current of a port, from 0 to 2,000 mA (R137). -/
def notePseCurrent (s : State) (p ma : Nat) : State := s.wr Od.fld_pse_current (min ma 2000) p

/-- PSE_OVERCURRENT_TRIP (R140). -/
def pseOvercurrentTrip (p ma : Nat) (s : State) : State :=
  if p < t1lCount s ∧ psePowered s p ∧ tripLimit (s.rd Od.fld_pse_class p) ≤ ma then pseFault (notePseCurrent s p ma) p 2 else s

/-- PSE_OVERLOAD (R140): above 1.1 times the class limit for 50 ms. -/
def pseOverload (p ma : Nat) (s : State) : State :=
  if p < t1lCount s ∧ psePowered s p ∧ 11 * classLimit (s.rd Od.fld_pse_class p) < 10 * ma then
    pseFault (notePseCurrent s p ma) p 3
  else s

/-- PSE_UNDERVOLTAGE (R140). -/
def pseUndervoltage (p portMv sourceMv : Nat) (s : State) : State :=
  if p < t1lCount s ∧ s.rd Od.fld_pse_state p = 7 ∧ underSource portMv sourceMv then
    pseFault (s.wr Od.fld_pse_voltage (portMv / 10) p) p 1
  else s

/-- PSE_DISCONNECT (R140): not a fault; detection restarts. -/
def pseDisconnect (p ma : Nat) (s : State) : State :=
  if p < t1lCount s ∧ s.rd Od.fld_pse_state p = 7 ∧ ma < 5 then
    pseRevisit (pseRestart (notePseCurrent s p ma) p)
  else s

/-- FIELD_PWR_OUT_OF_RANGE (R140): every gate opens. -/
def fieldPwrOutOfRange (mv : Nat) (s : State) : State :=
  if powered s ∧ (mv < 42000 ∨ 58000 < mv) then
    let s1 := (List.range (t1lCount s)).foldl (fun t p => if t.rd Od.fld_pse_state p = 9 then t else t.wr Od.fld_pse_state 0 p)
      (s.wr Od.fld_field_pwr (mv / 10))
    pseNoteAlloc (setEnv { s1 with fld := { s1.fld with pwrBad := true } } envFIELD_PWR true)
  else s

/-- FIELD_PWR_RECOVERED (R140): every enabled port restarts. -/
def fieldPwrRecovered (mv : Nat) (s : State) : State :=
  if powered s ∧ s.fld.pwrBad ∧ 44000 ≤ mv ∧ mv ≤ 57000 then
    let s1 := s.wr Od.fld_field_pwr (mv / 10)
    (List.range (t1lCount s)).foldl pseRestart (setEnv { s1 with fld := { s1.fld with pwrBad := false } } envFIELD_PWR false)
  else s

/-- PSE_FAULT_RETRY (R140). -/
def pseFaultRetry (p : Nat) (s : State) : State :=
  if p < t1lCount s ∧ s.rd Od.fld_pse_state p = 8 ∧ !entryOff s then pseRestart s p else s

/-- Ports are shed in an order until a condition holds. -/
def pseShedUntil (done : State → Bool) : List Nat → State → State
  | [], s => s
  | q :: qs, s => if done s then s else pseShedUntil done qs (if psePowered s q then pseShed s q else s)

/-- The budget fell below the allocation: powered ports are shed in victim order until it fits (R142). -/
def pseFitBudget (s : State) : State :=
  pseNoteAlloc (pseShedUntil (fun t => (pseAllocated t).le (pseBudget t)) (pseOrder s true) s)

/-- The power of a port as its input counts (R141), in mW: that of a rail port divided by the rail's efficiency. -/
def portInput (s : State) (m : List (Nat × Nat)) (p : Nat) : Frac :=
  let x := m.getD p (0, 0)
  let w := x.1 * min x.2 2000
  if classRail (s.rd Od.fld_pse_class p) then ⟨w, s.rd Od.fld_pse_lv_eff * 10⟩ else ⟨w, 1000⟩

/-- The measured input of the powered ports, in 0.1 W to the nearest. -/
def pseInput (s : State) (m : List (Nat × Nat)) : Nat :=
  let sum : Frac := (List.range (t1lCount s)).foldl (fun (a : Frac) p => if psePowered s p then a.add (portInput s m p) else a) ⟨0, 1⟩
  (sum.div ⟨100, 1⟩).round.toNat

/-- The measured voltage and current of every port (R137). -/
def notePse (s : State) (m : List (Nat × Nat)) : State :=
  (List.range (t1lCount s)).foldl (fun t p =>
    notePseCurrent (t.wr Od.fld_pse_voltage (min ((m.getD p (0, 0)).1 / 10) 65535) p) p (m.getD p (0, 0)).2) s

/-- PSE_INPUT_OVER_BUDGET (R142): shed until the input no longer exceeds the budget by more than 5 %. -/
def pseInputOverBudget (measured : List (Nat × Nat)) (s : State) : State :=
  let fits (t : State) : Bool := decide (pseInput t measured * 100 ≤ t.rd Od.fld_pse_budget * 105)
  let s1 := pseShedUntil fits (pseOrder s true) (notePse s measured)
  pseNoteAlloc (s1.wr Od.fld_pse_input (min (pseInput s1 measured) 65535))

/-! ### The pins of a port's power stage (R137, R138) -/

/-- PSE_G: high closes the source switch, in states 6 and 7. -/
def pseGate (s : State) (p : Nat) : Bool := psePowered s p

/-- PSE_DET: high connects the detection circuit, while a port detects or classifies. -/
def pseDet (s : State) (p : Nat) : Bool := s.rd Od.fld_pse_state p == 2 || s.rd Od.fld_pse_state p == 4

/-- PSE_LV: high takes the carrier's rail, for a powered port of classes 10 to 12. -/
def pseLv (s : State) (p : Nat) : Bool := psePowered s p && classRail (s.rd Od.fld_pse_class p)

/-! ## 10BASE-T1S (R143 to R146) -/

/-- PLCA_CYCLE (R143, R144, R146): BEACON, up to burst + 1 frames of the module's queues, and a stuck segment clears at the first
cycle that completes. A frame sent again is not counted again, and a burst ends where no frame is ready within the burst timer. -/
def plcaCycle (seg burst meanUs : Nat) (s : State) : State :=
  if running s ∧ seg < t1sCount s ∧ s.rd Od.fld_t1s_enable seg = 1 ∧ !tabGet false seg s.fld.beaconStopped then
    let r := txTake (min burst (s.rd Od.fld_plca_burst seg) + 1) (txOf s (16 + seg))
    let s0 := putTx s (16 + seg) { r.2 with sent := r.1 }
    let s1 := ((s0.send (.beacon seg)).send (.fieldTx (16 + seg) r.1.length)).count Od.fld_tx_frames (16 + seg)
      (r.1.filter (fun f => f.tries == 0)).length
    let s2 := s1.wr Od.fld_t1s_cycle meanUs seg
    if s2.rd Od.fld_t1s_state seg = 3 then s2.wr Od.fld_t1s_state 1 seg else s2
  else s

/-- Whether a segment runs. -/
def t1sRuns (s : State) (seg : Nat) : Bool := running s && decide (seg < t1sCount s) && s.rd Od.fld_t1s_enable seg == 1

/-- T1S_FOREIGN_BEACON (R146). -/
def t1sForeignBeacon (seg : Nat) (s : State) : State :=
  if t1sRuns s seg then fieldEvent ((s.count Od.fld_t1s_foreign seg).wr Od.fld_t1s_state 2 seg) 4 (16 + seg) else s

/-- T1S_FOREIGN_CLEAR (R146). -/
def t1sForeignClear (seg : Nat) (s : State) : State :=
  if t1sRuns s seg ∧ s.rd Od.fld_t1s_state seg = 2 then s.wr Od.fld_t1s_state 1 seg else s

/-- The frame of the module that collided is sent again, up to 15 times (R146): the first of those sent and not yet sent again, which goes ahead of what
waits, whatever its priority (log entry 181). -/
def t1sRetry (s : State) (seg : Nat) : State :=
  let x := txOf s (16 + seg)
  match x.sent with
  | [] => s
  | f :: fs => putTx s (16 + seg) (if f.tries < 15 then { x with high := { f with tries := f.tries + 1 } :: x.high, sent := fs } else { x with sent := fs })

/-- T1S_COLLISION (R146). -/
def t1sCollision (seg : Nat) (own : Bool) (s : State) : State :=
  if t1sRuns s seg then
    let s1 := fieldEvent (s.count Od.fld_t1s_collisions seg) 5 (16 + seg)
    if own then t1sRetry s1 seg else s1
  else s

/-- T1S_JABBER (R146). -/
def t1sJabber (seg : Nat) (s : State) : State :=
  if t1sRuns s seg then fieldEvent (s.count Od.fld_t1s_jabber seg) 6 (16 + seg) else s

/-- T1S_MEDIUM_STUCK (R146). -/
def t1sMediumStuck (seg : Nat) (s : State) : State :=
  if t1sRuns s seg then
    let s1 := fieldEvent (s.wr Od.fld_t1s_state 3 seg) 7 (16 + seg)
    { s1 with fld := { s1.fld with beaconStopped := tabPut seg true s1.fld.beaconStopped } }
  else s

/-- T1S_BEACON_RESTART (R146). -/
def t1sBeaconRestart (seg : Nat) (s : State) : State :=
  { s with fld := { s.fld with beaconStopped := tabDel seg s.fld.beaconStopped } }

/-! ## MS/TP (R148) -/

/-- Whether a port runs in an RS-485 mode. -/
def rsRuns (s : State) (p mode : Nat) : Bool :=
  running s && decide (p < rsCount s) && s.rd Od.fld_rs_mode p == mode && s.rd Od.fld_rs_state p != 0

/-- A station's bit of `fld_mstp_masters`: bit n mod 8, least significant first, of byte n / 8 (R148). -/
def stationBit (n : Nat) : Nat := 8 * (15 - n / 8) + n % 8

/-- The station after the module's own that answers as a master; the module itself where none does. -/
def nextMaster (s : State) (p : Nat) : Nat :=
  let own := s.rd Od.fld_mstp_mac p
  match ((List.range 127).map (fun k => (own + 1 + k) % 128)).find? (fun n => s.rdBit Od.fld_mstp_masters (stationBit n) p) with
  | some n => n
  | none => own

/-- Npoll and Nretry_token of R148. -/
def mstpPollEvery : Nat := 50
def mstpRetries : Nat := 1

/-- An MS/TP node of a port. -/
def mstpOf (s : State) (p : Nat) : MstpNode := tabGet {} p s.fld.mstp

/-- An MS/TP node changed. -/
def putMstp (s : State) (p : Nat) (x : MstpNode) : State := { s with fld := { s.fld with mstp := tabPut p x s.fld.mstp } }

/-- The station polled last for being a master; polling begins behind the module's own. -/
def polledLast (s : State) (p : Nat) : Nat := (mstpOf s p).polled.getD (s.rd Od.fld_mstp_mac p)

/-- The station polled next for being a master: the one after that polled last, from 0 again above `fld_mstp_max_master` (R148). -/
def pollNext (s : State) (p : Nat) (after : Nat) : Nat := if after < s.rd Od.fld_mstp_max_master p then after + 1 else 0

/-- A station is polled for being a master; one that replies is the next to have the token. -/
def mstpPollOne (s : State) (p station : Nat) (reply : Bool) : State :=
  let s1 := (putMstp s p { tokens := 0, polled := some station }).send (.mstpPoll p station)
  if reply then s1.wrBit Od.fld_mstp_masters (stationBit station) true p else s1

/-- Every 50 tokens the node polls one station between itself and the next master (R148). -/
def mstpPolls (s : State) (p : Nat) (reply : Bool) : State :=
  let x := mstpOf s p
  if x.tokens + 1 < mstpPollEvery then putMstp s p { x with tokens := x.tokens + 1 }
  else
    let q := pollNext s p (polledLast s p)
    if q = nextMaster s p ∨ q = s.rd Od.fld_mstp_mac p then putMstp s p { tokens := 0, polled := none } else mstpPollOne s p q reply

/-- The token is passed: once more where the next station leaves it unused, and after that to none, and the station after it is polled (R148). -/
def mstpPass (s : State) (p : Nat) (reply : Bool) (unused : Nat) : State :=
  let n := nextMaster s p
  if unused = 0 ∨ n = s.rd Od.fld_mstp_mac p then s
  else
    let s1 := s.send (.mstpRetry p n)
    if unused ≤ mstpRetries then s1 else mstpPollOne (s1.wrBit Od.fld_mstp_masters (stationBit n) false p) p (pollNext s p n) reply

/-- MSTP_TOKEN (R148): up to `fld_mstp_max_info` frames, stations that answered noted up to `fld_mstp_max_master`, a poll when one is due, the
token passed on. -/
def mstpToken (p waiting : Nat) (answered : List Nat) (reply : Bool) (unused : Nat) (s : State) : State :=
  if rsRuns s p 1 then
    let s1 := answered.foldl (fun t n => if n ≤ t.rd Od.fld_mstp_max_master p then t.wrBit Od.fld_mstp_masters (stationBit n) true p else t) s
    let s2 := mstpPolls s1 p reply
    mstpPass (s2.send (.mstpSent p (min waiting (s2.rd Od.fld_mstp_max_info p)) (nextMaster s2 p))) p reply unused
  else s

/-- MSTP_TOKEN_LOSS (R148): the loss is counted, and the node makes a new token and polls for its next station, as ASHRAE 135 Clause 9 has it (log entry
183). -/
def mstpTokenLoss (p : Nat) (s : State) : State :=
  if rsRuns s p 1 then mstpPollOne (s.count Od.fld_mstp_token_loss p) p (pollNext s p (s.rd Od.fld_mstp_mac p)) false else s

/-- A request is classified: it counts for its logical port, or is dropped for its kind (R69, R74). -/
def countClassified (s : State) (rx : RxInfo) : State :=
  match classify s rx with
  | some n => s.count Od.od_port_hits n
  | none => s.count Od.od_unbound_drops rx.kind

/-- MSTP_FRAME_RX (R148, R73). -/
def mstpFrameRx (p src : Nat) (bad request : Bool) (s : State) : State :=
  if rsRuns s p 1 then
    if bad then s.count Od.fld_rs_errors p
    else if src = s.rd Od.fld_mstp_mac p then
      fieldEvent ((s.count Od.fld_mstp_dup p).wr Od.fld_rs_state 3 p) 8 p
    else if request ∧ s.sys.appUp then countClassified s ⟨⟨4, p, 0, 0, 0, 0⟩, src, false, false⟩
    else s
  else s

/-- MSTP_DUP_CLEAR (R148). -/
def mstpDupClear (p : Nat) (s : State) : State :=
  if rsRuns s p 1 ∧ s.rd Od.fld_rs_state p = 3 then s.wr Od.fld_rs_state 1 p else s

/-- MSTP_MASTER_AGEOUT (R148). -/
def mstpMasterAgeout (p station : Nat) (s : State) : State :=
  if p < rsCount s ∧ station < 128 then s.wrBit Od.fld_mstp_masters (stationBit station) false p else s

/-! ## Modbus RTU (R149, R150) -/

/-- The fields of a poll entry (R149). -/
structure MbEntry where
  station : Nat
  func : Nat
  addr : Nat
  fmt : Nat
  flags : Nat
  period : Nat
  scale : Nat
  deriving DecidableEq, Repr

def mbDecode (v : Nat) : MbEntry :=
  ⟨byteAt 12 v 0, byteAt 12 v 1, bytesAt 12 v 2 2, byteAt 12 v 4, byteAt 12 v 5, bytesAt 12 v 6 2, bytesAt 12 v 8 4⟩

def mbEntry (s : State) (p k : Nat) : MbEntry := mbDecode (s.rd Od.fld_mb_poll (p * 256 + k))

/-- Whether a function writes (R149). -/
def mbWrites (f : Nat) : Bool := f == 5 || f == 6 || f == 16

/-- The values of R149's table for one entry as written. -/
def mbEntryOk (v : Nat) : Bool :=
  let m := mbDecode v
  decide (m.flags ≤ 1) && finite32 m.scale && (m.period == 0 || (decide (10 ≤ m.period) && decide (m.period ≤ 60000) &&
    decide (m.fmt ≤ 6) && (m.func == 1 || m.func == 2 || m.func == 3 || m.func == 4 || mbWrites m.func) &&
    decide (m.station ≤ 247) && (m.station != 0 || mbWrites m.func)))

/-- What R149 refuses of a used entry that a commit leaves. -/
def mbEntryLeaves (v : Nat) : Bool :=
  let m := mbDecode v
  m.period == 0 ||
    (!(m.fmt == 0 && !(m.func == 1 || m.func == 2 || m.func == 5)) &&
      !(decide (1 ≤ m.fmt) && (m.func == 1 || m.func == 2 || m.func == 5)) &&
      !(decide (3 ≤ m.fmt) && m.func == 6) && (f32q m.scale).num != 0)

/-- The words a write sends for a scaled whole value, `none` where the format cannot hold it (R149, R150). -/
def mbEncode (fmt : Nat) (x : Int) : Option (List Nat) :=
  if fmt = 0 then (if x = 0 then some [0x0000] else if x = 1 then some [0xFF00] else none)
  else if fmt = 1 then (if 0 ≤ x ∧ x < 65536 then some [x.toNat] else none)
  else if fmt = 2 then (if -32768 ≤ x ∧ x < 32768 then some [ofInt 16 x] else none)
  else
    let word : Option Nat :=
      if fmt ≤ 4 then (if 0 ≤ x ∧ x < 4294967296 then some x.toNat else none)
      else if finite32 (f32OfInt x) then some (f32OfInt x) else none
    word.map (fun w => if fmt = 3 ∨ fmt = 5 then [w / 65536, w % 65536] else [w % 65536, w / 65536])

/-- The two registers of a 32-bit format, in the order of the format (R149). -/
def mbWord (fmt : Nat) (ws : List Nat) : Nat :=
  let a := ws.getD 0 0 % 65536
  let b := ws.getD 1 0 % 65536
  if fmt = 3 ∨ fmt = 5 then a * 65536 + b else b * 65536 + a

/-- The raw value a read returned, as an exact fraction (R149, R150); `none` for a word that is not a finite F32. -/
def mbRaw (fmt : Nat) (ws : List Nat) : Option Frac :=
  let a := ws.getD 0 0 % 65536
  if fmt = 0 then some ⟨if a = 0 then 0 else 1, 1⟩
  else if fmt = 1 then some ⟨a, 1⟩
  else if fmt = 2 then some ⟨toInt 16 a, 1⟩
  else
    let w := mbWord fmt ws
    if fmt ≤ 4 then some ⟨w, 1⟩ else if finite32 w then some (f32q w) else none

/-- `fld_mb_in` of a read whose word is no finite F32: NaN, or an infinity times the scale. -/
def mbSpecial (w scale : Nat) : Nat := if isNaN32 w then f32NaN else 0x7F80_0000 + (w / 2 ^ 31 + scale / 2 ^ 31) % 2 * 2 ^ 31

/-- The low byte of an entry's status; the high byte keeps the last exception code (R150). -/
def mbStatus (s : State) (p k code : Nat) : State :=
  s.wr Od.fld_mb_status (s.rd Od.fld_mb_status (p * 256 + k) / 256 * 256 + code) (p * 256 + k)

/-- The words a poll entry sends: its count for a read, its value for a write (`none`: nothing to send). -/
def mbRequest (s : State) (p k : Nat) (m : MbEntry) : Option (Option (List Nat)) :=
  if mbWrites m.func then
    let v := s.rd Od.fld_mb_out (p * 256 + k)
    if isNaN32 v then none
    else some (mbEncode m.fmt ((f32q v).div (f32q m.scale)).round)
  else some (some [if 3 ≤ m.fmt then 2 else 1])

/-- An entry is sent as the single outstanding request, counted where it starts more than one period late; a broadcast awaits no reply and is followed by
100 ms of silence (R150). -/
def mbSend (s : State) (p k due : Nat) : State :=
  let m := mbEntry s p k
  if m.period = 0 ∨ (mbWrites m.func ∧ s.mode = .safeHold) then s
  else match mbRequest s p k m with
    | none => s
    | some none => mbStatus s p k 5
    | some (some ws) =>
      let s0 := if due + m.period * 1000000 < s.now then s.count Od.fld_mb_late p else s
      let s1 := s0.send (.modbus p m.station m.func m.addr ws)
      if m.station = 0 then mbStatus { s1 with fld := { s1.fld with mbQuiet := tabPut p (s.now + 100000000) s1.fld.mbQuiet } } p k 1
      else { s1 with fld := { s1.fld with mbOut := tabPut p ⟨k, s.rd Od.fld_mb_retries p, false⟩ s1.fld.mbOut } }

/-- The outstanding request of a port. -/
def mbOutOf (s : State) (p : Nat) : Option MbOut := (s.fld.mbOut.find? (fun x => x.1 == p)).map (·.2)

/-- A station that failed every retry is left alone for 10 s from then (R150, log entry 129). -/
def mbHeld (s : State) (p station : Nat) : Bool :=
  match s.fld.mbFailed.find? (fun x => x.1 == p * 256 + station) with
  | some x => decide (s.now < x.2 + 10000000000)
  | none => false

/-- A due entry put at its place, by due time and then entry (R150); one that waits already waits once. -/
def dueInsert (x : Nat × Nat) : List (Nat × Nat) → List (Nat × Nat)
  | [] => [x]
  | y :: ys => if x.1 < y.1 ∨ (x.1 = y.1 ∧ x.2 < y.2) then x :: y :: ys else y :: dueInsert x ys

/-- Whether a port may start a request (R150): it runs, none is outstanding, and no silence after a broadcast holds. -/
def mbReady (s : State) (p : Nat) : Bool :=
  rsRuns s p 2 && s.rd Od.fld_rs_state p == 1 && (mbOutOf s p).isNone && decide (tabGet 0 p s.fld.mbQuiet ≤ s.now)

/-- The first due entry of a port starts, where the port may start one; one whose station is left alone is passed over (R150). -/
def mbStart (p : Nat) (s : State) : State :=
  match tabGet [] p s.fld.mbDue with
  | [] => s
  | d :: ds =>
    if mbReady s p then
      let s1 := { s with fld := { s.fld with mbDue := tabPut p ds s.fld.mbDue } }
      if mbHeld s p (mbEntry s p d.2).station then s1 else mbSend s1 p d.2 d.1
    else s

/-- The due entries of a port start, as far as they may (R150). -/
def mbNext (s : State) (p : Nat) : State := (tabGet [] p s.fld.mbDue).foldl (fun t _ => mbStart p t) s

/-- The due entries of every port start, as far as they may. -/
def mbNextAll (s : State) : State := (s.fld.mbDue.map (·.1)).foldl mbNext s

/-- An entry falls due at an instant: it waits for its turn unless it waits already or its station is left alone (R150). -/
def mbFallsDue (s : State) (p k at_ : Nat) : State :=
  let l := tabGet [] p s.fld.mbDue
  if mbHeld s p (mbEntry s p k).station || l.any (fun d => d.2 == k) then s
  else mbNext { s with fld := { s.fld with mbDue := tabPut p (dueInsert (at_, k) l) s.fld.mbDue } } p

/-- MODBUS_POLL_DUE (R150): due at an instant that is not ahead. -/
def modbusPollDue (p entry at_ : Nat) (s : State) : State :=
  if rsRuns s p 2 ∧ s.rd Od.fld_rs_state p = 1 ∧ entry < 256 ∧ (mbEntry s p entry).period ≠ 0 then mbFallsDue s p entry (min at_ s.now) else s

/-- MODBUS_OUT_CHANGE (R150): a changed `fld_mb_out` of a used entry with ON_CHANGE. -/
def modbusOutChange (p entry : Nat) (s : State) : State :=
  let m := mbEntry s p entry
  if rsRuns s p 2 ∧ s.rd Od.fld_rs_state p = 1 ∧ entry < 256 ∧ m.period ≠ 0 ∧ m.flags.testBit 0 ∧ mbWrites m.func then mbFallsDue s p entry s.now
  else s

/-- The outstanding request is done with. -/
def mbDone (s : State) (p : Nat) : State := { s with fld := { s.fld with mbOut := tabDel p s.fld.mbOut } }

/-- A station answered: it is no longer a failed one. -/
def mbAnswered (s : State) (p station : Nat) : State :=
  { s with fld := { s.fld with mbFailed := tabDel (p * 256 + station) s.fld.mbFailed } }

/-- A read's words as `fld_mb_in` (R150). -/
def mbStore (s : State) (p k : Nat) (m : MbEntry) (ws : List Nat) : State :=
  match mbRaw m.fmt ws with
  | none => s.wr Od.fld_mb_in (mbSpecial (mbWord m.fmt ws) m.scale) (p * 256 + k)
  | some q => s.wrQ Od.fld_mb_in (if m.fmt = 0 then q else q.mul (f32q m.scale)) (p * 256 + k)

/-- What a reply does to its request (R150). A reply with a bad CRC is counted, and the request waits on for its timeout. -/
def mbReply (s : State) (p : Nat) (o : MbOut) (r : MbReply) : State :=
  let m := mbEntry s p o.entry
  match r with
  | .crcError =>
    let s1 := mbStatus (s.count Od.fld_rs_errors p) p o.entry 4
    { s1 with fld := { s1.fld with mbOut := tabPut p { o with crcBad := true } s1.fld.mbOut } }
  | .exception c => (mbAnswered (mbDone s p) p m.station).wr Od.fld_mb_status (c % 256 * 256 + 3) (p * 256 + o.entry)
  | .ok ws =>
    let s1 := mbStatus (mbAnswered (mbDone s p) p m.station) p o.entry 1
    if mbWrites m.func then s1 else mbStore s1 p o.entry m ws

/-- MODBUS_REPLY_RX (R150): the next due entry follows. -/
def modbusReplyRx (p : Nat) (r : MbReply) (s : State) : State :=
  match mbOutOf s p with
  | none => s
  | some o => if rsRuns s p 2 then mbNext (mbReply s p o r) p else s

/-- A retry of the outstanding request, or the station is marked as failed (R150); SAFE_HOLD suspends writes (R151). -/
def mbRetry (s : State) (p : Nat) (o : MbOut) : State :=
  let m := mbEntry s p o.entry
  if mbWrites m.func ∧ s.mode = .safeHold then mbDone s p
  else if 0 < o.left then
    match mbRequest s p o.entry m with
    | some (some ws) =>
      let s1 := s.send (.modbus p m.station m.func m.addr ws)
      { s1 with fld := { s1.fld with mbOut := tabPut p ⟨o.entry, o.left - 1, false⟩ s1.fld.mbOut } }
    | _ => mbDone s p
  else
    let s1 := mbStatus (mbDone s p) p o.entry (if o.crcBad then 4 else 2)
    { s1 with fld := { s1.fld with mbFailed := tabPut (p * 256 + m.station) s1.now s1.fld.mbFailed } }

/-- MODBUS_REPLY_TIMEOUT (R150). -/
def modbusReplyTimeout (p : Nat) (s : State) : State :=
  match mbOutOf s p with
  | none => s
  | some o => if rsRuns s p 2 then mbNext (mbRetry s p o) p else s

/-- RS485_BUS_FAULT (R150): polling stops. -/
def rs485BusFault (p : Nat) (s : State) : State :=
  if running s ∧ p < rsCount s ∧ s.rd Od.fld_rs_mode p ≠ 0 then mbDone (fieldEvent (s.wr Od.fld_rs_state 2 p) 9 p) p else s

/-- RS485_BUS_IDLE (R150): polling resumes. -/
def rs485BusIdle (p : Nat) (s : State) : State :=
  if running s ∧ p < rsCount s ∧ s.rd Od.fld_rs_state p = 2 then s.wr Od.fld_rs_state 1 p else s

/-! ## Entries of the chapter -/

/-- An RS-485 port starts again in its mode (R151). -/
def rsRestart (s : State) (p : Nat) : State := mbDone (s.wr Od.fld_rs_state (if s.rd Od.fld_rs_mode p = 0 then 0 else 1) p) p

/-- A T1S segment starts again (R151). -/
def t1sRestart (s : State) (g : Nat) : State :=
  { s.wr Od.fld_t1s_state (if s.rd Od.fld_t1s_enable g = 1 then 1 else 0) g with
    fld := { s.fld with beaconStopped := tabDel g s.fld.beaconStopped } }

/-- The field ports when BOOT ends (R151): T1L and T1S restart, enabled PoDL ports start at R138, RS-485 ports run. -/
def fieldStart (s : State) : State :=
  let s1 := (List.range (t1lCount s)).foldl (fun t p =>
    pseRestart (t.wr Od.fld_t1l_state (if t.rd Od.fld_t1l_enable p = 1 then 1 else 0) p) p) s
  let s2 := (List.range (t1sCount s)).foldl t1sRestart s1
  (List.range (rsCount s)).foldl rsRestart s2

/-- The field ports off (R151): no links, no segments and no RS-485 port run, and what waited in them is lost. -/
def fieldOff (s : State) : State :=
  let s1 := (List.range (t1lCount s)).foldl (fun t p => (t.wr Od.fld_t1l_state 0 p).wr Od.fld_t1l_snr 0 p) s
  let s2 := (List.range (t1sCount s)).foldl (fun t g => t.wr Od.fld_t1s_state 0 g) s1
  let s3 := (List.range (rsCount s)).foldl (fun t p => t.wr Od.fld_rs_state 0 p) s2
  { s3 with fld := { s3.fld with tx := [], mstp := [], mbDue := [], mbQuiet := [], mbOut := [], detects := [], revisit := [] } }

/-- What the field ports do at a tick: detections end and the next denied port takes its turn, T1L ports send, and waiting Modbus entries start (R132,
R138, R142, R150). -/
def fieldTick (s : State) : State := mbNextAll (t1lSendAll (pseNext (pseDetected s)))

/-- The chapter's own refusals (R136, R140, R149). -/
def fldExtra (s : State) (i v : Nat) : Extra :=
  if i = Od.fld_t1l_role then { variant := s.variant == .s && (v == 1 || v == 2) }
  else if i = Od.fld_pse_budget then { range := s.variant == .s && decide (2000 < v) }
  else if i = Od.fld_pse_reset then { range := decide (t1lCount s ≤ v) }
  else if i = Od.fld_mb_poll then { range := !mbEntryOk v }
  else {}

/-- The checks of R136, R148 and R149 on what a commit leaves, for the poll elements it touched. -/
def fldLeaves (s : State) (touched : List (Nat × Nat)) : Bool :=
  let ports := List.range (t1lCount s)
  let roleOk := [1, 2].all (fun r => decide ((ports.filter (fun p => s.rd Od.fld_t1l_role p == r)).length ≤ 1))
  let pseOk := ports.all (fun p => s.rd Od.fld_t1l_role p == 0 || s.rd Od.fld_pse_enable p == 0)
  let mstpOk := (List.range (rsCount s)).all (fun p => decide (s.rd Od.fld_mstp_mac p ≤ s.rd Od.fld_mstp_max_master p))
  roleOk && pseOk && mstpOk && touched.all (fun t => t.1 != Od.fld_mb_poll || mbEntryLeaves (s.rd Od.fld_mb_poll t.2))

/-- An applied write of a field entry, with its effect at the commit boundary (R142, R151). -/
def fldApply (s : State) (i e v : Nat) : Option State :=
  let old := s.rd i e
  let s1 := s.wr i v e
  if i = Od.fld_t1l_enable then
    some (if old = v then s else t1lDown s1 e (if v = 1 ∧ running s then 1 else 0))
  else if i = Od.fld_t1l_amp ∨ i = Od.fld_t1l_role then
    some (if old = v ∨ s.rd Od.fld_t1l_enable e = 0 ∨ !running s then s1 else t1lDown s1 e 1)
  else if i = Od.fld_pse_budget then
    some (if v < old then pseFitBudget s1 else if old < v then pseRevisit s1 else s1)
  else if i = Od.fld_pse_lv_eff then some (pseNoteAlloc s1)
  else if i = Od.fld_pse_enable then
    some (if old = v then s
      else if s.rd Od.fld_pse_state e = 9 then s1
      else if v = 1 then (if running s ∧ !s.fld.pwrBad then pseRestart s1 e else s1)
      else pseRevisit ((s1.wr Od.fld_pse_state 0 e).wr Od.fld_pse_class 0 e))
  else if i = Od.fld_pse_reset then
    some (if s.rd Od.fld_pse_state v = 9 then
      let s2 := { s.wr Od.fld_pse_state 0 v with fld := { s.fld with faultTimes := tabDel v s.fld.faultTimes } }
      if s.fld.pwrBad then s2 else pseRestart s2 v
    else s)
  else if i = Od.fld_t1s_enable ∨ i = Od.fld_plca_count then
    some (if old = v ∨ !running s then s1 else t1sRestart s1 e)
  else if i = Od.fld_rs_mode ∨ i = Od.fld_rs_baud then
    some (if old = v ∨ !running s then s1 else rsRestart s1 e)
  else none

end Sys2Proof.Machine
end

