-- ==== Sys2Proof/Machine/LocalBus.lean ====
section
/-!
DEFINITION. The local bus, the Wafer window's mapping and the bulk stream port (R152 to R169).
-/
namespace Sys2Proof.Machine

/-! ## Posted writes (R152 to R155, R161) -/

/-- Whether the module serves the local bus (R163). A start takes BOOT through its configuration row (log entry 20). -/
def lbServed (s : State) : Bool := powered s

/-- Whether a word address takes writes (R155). -/
def lbWritable (a : Nat) : Bool := decide (0x2000 ≤ a) && (decide (a ≤ 0x2003) || (decide (0x2010 ≤ a) && decide (a ≤ 0x201F)))

/-- Descriptor writes at the front of the queue drain; a GO stays until its request is handed over (R161). -/
def lbDrain : List BusWrite → Tab Nat → List BusWrite × Tab Nat
  | [], r => ([], r)
  | w :: q, r => if w.addr = 0x2003 then (w :: q, r) else lbDrain q (tabPut w.addr w.value r)

/-- The queue drained as far as it can be. -/
def lbDrained (s : State) : State :=
  let d := lbDrain s.lbs.queue s.lbs.regs
  { s with lbs := { s.lbs with queue := d.1, regs := d.2 } }

/-- LB_POSTED_WRITE (R154, R155, R161, R163). -/
def lbPostedWrite (addr v : Nat) (meets : WriteFacts) (s : State) : State :=
  if !lbServed s then s
  else if meets.afterRead ∨ !lbWritable addr ∨ 64 ≤ s.lbs.queue.length then s.count Od.lbs_wr_lost
  else lbDrained { s with lbs := { s.lbs with queue := s.lbs.queue ++ [⟨addr, v % 2 ^ 32, meets.queueFull⟩] } }

/-- LB_QFULL (R152, R161). -/
def lbQfull (s : State) : Bool := decide (56 ≤ s.lbs.queue.length)

/-- LB_RDY_N and LB_IRQ_N are low (R152). -/
def lbReady (s : State) : Bool := lbServed s
def lbIrq (s : State) : Bool := s.lbs.done != 0

/-- A descriptor register; it holds 0 before its first write, and after a reset or STANDBY (log entry 184). -/
def lbReg (s : State) (a : Nat) : Nat := tabGet 0 a s.lbs.regs

/-- What a bus read of a descriptor word returns: the last value written, even while that write waits, but 0 at LBW_GO (R155) and at reserved
bits (R13). -/
def lbRead (s : State) (a : Nat) : Nat :=
  let v := match s.lbs.queue.reverse.find? (fun w => w.addr == a) with
    | some w => w.value
    | none => lbReg s a
  if a = 0x2003 then 0 else if a = 0x2002 then v % 128 + v / 65536 % 256 * 65536 else v

/-- Word k of status slot n (R162). -/
def lbSlotWord (s : State) (n k : Nat) : Nat :=
  let x := tabGet ⟨0, 0, 0, 0⟩ n s.lbs.slots
  match k with
  | 0 => x.reqid
  | 1 => x.state * 2 ^ 24 + x.status % 256 * 2 ^ 16
  | 2 => x.seq / 2 ^ 32 % 2 ^ 32
  | _ => x.seq % 2 ^ 32

/-- LBW_DONE_READ (R155). -/
def lbwDoneRead (s : State) : State :=
  if lbServed s then ({ s with lbs := { s.lbs with done := 0 } }).send (.lbwDone s.lbs.done) else s

/-- A status slot becomes pending (R162). -/
def lbPending (s : State) (reqid : Nat) : State :=
  { s with lbs := { s.lbs with slots := tabPut (reqid % 16) ⟨reqid, 1, 0, 0⟩ s.lbs.slots } }

/-- A status slot is completed and its LBW_DONE bit set (R162); the status of a request that another has overwritten is lost. -/
def lbComplete (s : State) (reqid status seq : Nat) : State :=
  let x := tabGet ⟨0, 0, 0, 0⟩ (reqid % 16) s.lbs.slots
  if x.reqid = reqid ∧ x.state = 1 then
    { s with lbs := { s.lbs with
        slots := tabPut (reqid % 16) ⟨reqid, 2, status, seq⟩ s.lbs.slots
        done := putBit s.lbs.done (reqid % 16) true } }
  else s

/-- The item a GO launches from the descriptor: 0x2000 index and element, 0x2002 type and length, 0x2010 on the data (R155, R162). A length
that is no whole number of elements leaves the last one short, so that the item fails with TYPE_MISMATCH at its step. -/
def lbItem (s : State) : WItem :=
  let t := lbReg s 0x2000
  let c := lbReg s 0x2002
  let len := c % 128
  let bytes := (List.range 16).flatMap (fun j => beBytes 4 (lbReg s (0x2010 + j)))
  let size := match entryDef? (t / 65536) with
    | some d => d.ty.size
    | none => 1
  ⟨t / 65536, t % 65536, (len + size - 1) / size, field c 16 8, (bytes ++ List.replicate 64 0).take len⟩

/-! ## Wafer window mapping (R156 to R160) -/

/-- The mapped words: word and source. -/
def lbMapped (s : State) : List (Nat × Nat) :=
  s.od.filterMap (fun c => if c.index = Od.lbs_map_src ∧ c.value ≠ 0 then some (c.elem, c.value) else none)

/-- The parts of a source type (R157). -/
def lbParts (t : Ty) : Nat :=
  match t with
  | .u64 | .s64 | .seq64 | .time64 => 2
  | .oct n | .str n => (n + 3) / 4
  | _ => 1

/-- The word content of R157. -/
def lbWord (t : Ty) (part v : Nat) : Nat :=
  match t with
  | .u64 | .s64 | .seq64 | .time64 => if part = 0 then v / 2 ^ 32 % 2 ^ 32 else v % 2 ^ 32
  | .oct n | .str n => ofBytes ((List.range 4).map (fun j => if 4 * part + j < n then byteAt n v (4 * part + j) else 0))
  | .s16 => ofInt 32 (toInt 16 v)
  | _ => v % 2 ^ 32

/-- The distinct periods of mapped words. -/
def lbPeriods (s : State) : List Nat := ((lbMapped s).map (fun m => s.rd Od.lbs_map_period m.1)).eraseDups

/-- The failure of R156 that a commit leaves for one mapped word, if any. -/
def lbWordLeaves (s : State) (m : Nat × Nat) : Option Status :=
  let i := m.2 / 65536
  let e := m.2 % 65536
  match entryDef? i with
  | none => some .noSuchIndex
  | some d =>
    if d.nX ≤ e then some .noSuchIndex
    else if accOf d e == .wo || !mayReadTenant s 0 i then some .accessDenied
    else if lbParts d.ty ≤ s.rd Od.lbs_map_part m.1 then some .outOfRange
    else none

/-- The failure of R156 that a commit leaves, if any: that of the first word that has one, and the checks of the periods after every word (log entry
185). -/
def lbsLeaves (s : State) : Option Status :=
  let ms := lbMapped s
  match ms.findSome? (lbWordLeaves s) with
  | some st => some st
  | none =>
    if ms.any (fun a => ms.any (fun b => a.2 == b.2 && s.rd Od.lbs_map_period a.1 != s.rd Od.lbs_map_period b.1)) then some .outOfRange
    else if 16 < (lbPeriods s).length then some .outOfRange
    else none

/-- A word whose mapping a commit changed waits for its new group's next refresh (R160). -/
def lbMapChanged (s : State) (w : Nat) : State :=
  let p := s.lbs.pendingW.filter (· != w)
  { s with lbs := { s.lbs with
      words := tabDel w s.lbs.words
      pendingW := if s.rd Od.lbs_map_src w = 0 then p else w :: p } }

/-- A group that a whole commit leaves no word of is gone (R158, R160). -/
def lbsCommitted (s : State) (touched : List (Nat × Nat)) : State :=
  if touched.any (fun t => t.1 == Od.lbs_map_src || t.1 == Od.lbs_map_period) then
    let used := lbPeriods s
    { s with lbs := { s.lbs with gens := s.lbs.gens.filter (fun g => used.contains g.1) } }
  else s

/-- The companion of a word (R158). -/
def lbCompanion (s : State) (w : Nat) : Nat :=
  let src := s.rd Od.lbs_map_src w
  let gen := tabGet 0 (s.rd Od.lbs_map_period w) s.lbs.gens
  let absentSrc := match entryDef? (src / 65536) with
    | some d => absent s.variant d (src % 65536)
    | none => false
  if src = 0 then 2 <<< 14
  else gen <<< 16 + (if s.lbs.pendingW.contains w then 3 else if absentSrc then 1 else 0) <<< 14

/-- The window word a bus read returns (R157, R160). -/
def lbWindow (s : State) (w : Nat) : Nat := if s.lbs.pendingW.contains w then 0 else tabGet 0 w s.lbs.words

/-- What a bus read of a word address returns (R155, R163); that of LBW_DONE also clears what it returned. -/
def lbBusRead (s : State) (a : Nat) : Nat :=
  if !lbServed s then 0
  else if a ≤ 0x0FFF then lbWindow s a
  else if a ≤ 0x1FFF then lbCompanion s (a - 0x1000)
  else if lbWritable a then lbRead s a
  else if a = 0x2080 then s.lbs.done
  else if 0x2100 ≤ a ∧ a ≤ 0x213F then lbSlotWord s ((a - 0x2100) / 4) ((a - 0x2100) % 4)
  else 0

/-! ## Bulk stream port (R164 to R169) -/

/-- CRC-32C (R166). -/
def crc32c (bs : List Nat) : Nat := crcRefl 0x82F63B78 bs 0xFFFFFFFF ^^^ 0xFFFFFFFF

/-- The object service is absent in an MPR: the posted queue stands behind a GO, outbound streams pause and no credit is returned (R161, R163). -/
def servicePaused (s : State) : Bool := running s && !s.sys.appUp

/-- The link is up (R169). -/
def bspUp (s : State) : Bool := s.rd Od.lbs_bsp_state == 2

/-- The next frame of a transfer. -/
def bspNext (x : BspXfer) (seq : Nat) : BspFrame :=
  ⟨x.stream, decide (x.rest.length ≤ 2032), seq, x.xfer, x.off, x.rest.take 2032⟩

/-- One frame of the oldest transfer is sent where a credit and the link allow it (R163, R167). -/
def bspSend1 (s : State) : State :=
  match s.lbs.xfers with
  | [] => s
  | x :: xs =>
    let c := s.rd Od.lbs_bsp_credits 0
    if bspUp s ∧ !servicePaused s ∧ c ≠ 0 then
      if x.rest = [] then { s with lbs := { s.lbs with xfers := xs } }
      else
        let f := bspNext x s.lbs.txSeq
        let xs' := if f.last then xs else { x with off := x.off + 2032, rest := x.rest.drop 2032 } :: xs
        (({ s with lbs := { s.lbs with
            xfers := xs', txSeq := (s.lbs.txSeq + 1) % 65536, unacked := s.lbs.unacked ++ [f] } }).wr Od.lbs_bsp_credits (c - 1) 0).send (.bspFrame f)
    else s

/-- Frames are sent while credits last: at most one for each of the 16 credits, and one pass for each empty transfer. -/
def bspPump (s : State) : State := (List.range 20).foldl (fun t _ => bspSend1 t) s

/-- A transfer starts: it takes the next transfer ID. -/
def bspStart (s : State) (stream : Nat) (bytes : List Nat) : State :=
  let id := s.nextXfer % 65536
  bspPump { s with nextXfer := id + 1, lbs := { s.lbs with xfers := s.lbs.xfers ++ [⟨stream, id, 0, bytes⟩] } }

/-- The transfer of a stream is over: nothing more of it is sent. -/
def bspDrop (s : State) (stream : Nat) : State :=
  { s with lbs := { s.lbs with xfers := s.lbs.xfers.filter (fun x => x.stream != stream) } }

/-- The entry that shows a stream's transfer state (R43, R220, R391). -/
def bspOwner (stream : Nat) : Nat := if stream = 1 then Od.nrg_cap_state else if stream = 2 then Od.sys_trend_state else Od.rec_dump_state

/-- Whether a stream's transfer is in progress: its owner shows it as running. -/
def bspRunning (s : State) (stream : Nat) : Bool :=
  s.rd (bspOwner stream) == (if stream = 1 then 2 else 1)

/-- Outbound transfers are reported failed to their owners, and the link forgets them (R163, R167, R169). -/
def bspFail (s : State) : State :=
  let s1 := [1, 2, 3].foldl (fun t k => if bspRunning s k then t.wr (bspOwner k) 3 else t) s
  { s1 with lbs := { s1.lbs with xfers := [], unacked := [] }, recd := { s1.recd with dump := [] } }

/-- BSP_TRAIN (R165). -/
def bspTrain (s : State) : State :=
  if lbServed s ∧ s.rd Od.lbs_bsp_enable = 1 ∧ s.rd Od.lbs_bsp_state = 0 then s.wr Od.lbs_bsp_state 1 else s

/-- BSP_ALIGNED (R165, R167): each end holds the credits its outstanding frames leave. -/
def bspAligned (s : State) : State :=
  if lbServed s ∧ (s.rd Od.lbs_bsp_state = 1 ∨ s.rd Od.lbs_bsp_state = 3) then
    bspPump (((s.wr Od.lbs_bsp_state 2).wr Od.lbs_bsp_credits (16 - s.lbs.unacked.length) 0).wr Od.lbs_bsp_credits (16 - s.lbs.withheld.length) 1)
  else s

/-- BSP_RETRAIN (R165, R167): after 1,000 invalid symbols in a second, or 8 timeouts in a row, which also fail the transfers. -/
def bspRetrain (invalid : Nat) (s : State) : State :=
  if bspUp s ∧ (1000 ≤ invalid ∨ 8 ≤ s.lbs.timeouts) then
    let s1 := ((s.wr Od.lbs_bsp_state 3).wr Od.lbs_bsp_credits 0 0).wr Od.lbs_bsp_credits 0 1
    let s2 := if 8 ≤ s.lbs.timeouts then bspFail s1 else s1
    { s2 with lbs := { s2.lbs with timeouts := 0 } }
  else s

/-- Frames are sent again, each counted (R167). -/
def bspResend (s : State) (fs : List BspFrame) : State :=
  fs.foldl (fun t f => (t.count Od.lbs_bsp_resends 0).send (.bspFrame f)) s

/-- BSP_CREDIT_RX (R165, R167). The credit a NAK returns is taken by the resend of the frame it refused (log entry 21). -/
def bspCreditRx (seq code comp : Nat) (s : State) : State :=
  if bspUp s ∧ comp = 255 - code ∧ code ≤ 1 then
    let s0 := { s with lbs := { s.lbs with timeouts := 0 } }
    if code = 0 then
      if s.lbs.unacked.any (fun f => f.seq == seq) then
        let u := s.lbs.unacked.filter (fun f => f.seq != seq)
        bspPump ({ s0 with lbs := { s0.lbs with unacked := u } }.wr Od.lbs_bsp_credits (min 16 (s.rd Od.lbs_bsp_credits 0 + 1)) 0)
      else s0
    else bspResend (s0.count Od.lbs_bsp_crc_err 0) (s.lbs.unacked.dropWhile (fun f => f.seq != seq))
  else s

/-- BSP_CREDIT_TIMEOUT (R167). -/
def bspCreditTimeout (s : State) : State :=
  if bspUp s ∧ s.lbs.unacked ≠ [] then
    bspResend { s with lbs := { s.lbs with timeouts := s.lbs.timeouts + 1 } } (s.lbs.unacked.take 1)
  else s

/-- A credit is returned, or withheld while the object service is absent in an MPR (R163, R167). -/
def bspReturn (s : State) (seq code : Nat) : State :=
  if !servicePaused s then s.send (.bspCredit seq code)
  else { s.wr Od.lbs_bsp_credits (s.rd Od.lbs_bsp_credits 1 - 1) 1 with lbs := { s.lbs with withheld := s.lbs.withheld ++ [(seq, code)] } }

/-- The credits withheld during an MPR are returned, and outbound streams go on (R163). -/
def bspResume (s : State) : State :=
  let s1 := s.lbs.withheld.foldl (fun t c => t.send (.bspCredit c.1 c.2)) s
  let s2 := { s1 with lbs := { s1.lbs with withheld := [] } }
  if bspUp s2 then bspPump (s2.wr Od.lbs_bsp_credits 16 1) else s2

/-- The payload of a stream 0x04 frame joins its transfer, which is complete with its last frame (R399). -/
def bspImage (s : State) (xfer off : Nat) (last : Bool) (payload : List Nat) : State :=
  let sofar : Option (List Nat) :=
    if off = 0 then some []
    else match s.lbs.imgIn with
      | some (x, bs) => if x = xfer ∧ bs.length = off then some bs else none
      | none => none
  match sofar with
  | none => { s with lbs := { s.lbs with imgIn := none } }
  | some bs =>
    if last then { s with lbs := { s.lbs with imgIn := none, imgDone := s.lbs.imgDone ++ [bs ++ payload] } }
    else { s with lbs := { s.lbs with imgIn := some (xfer, bs ++ payload) } }

/-- Whether a received frame's length and CRC check (R166). -/
def bspGood (bs : List Nat) : Bool :=
  let n := ofBytes (slice bs 2 2)
  decide (n ≤ 2032) && bs.length == 16 + n && crc32c (bs.take (12 + n)) == ofBytes (bs.drop (12 + n))

/-- Whether a link sequence comes again: a NAK asked for it, or it is one of the 16 accepted last. -/
def bspSeen (s : State) (seq : Nat) : Bool := s.lbs.discarded.contains seq || s.lbs.accepted.contains seq

/-- A frame is discarded and answered with a NAK for the expected sequence, from which on the carrier sends again what it has sent: at least to the frame
that came (R167). -/
def bspDiscard (s : State) (seq : Nat) : State :=
  let ahead := (seq + 65536 - s.lbs.rxSeq) % 65536
  let again := if ahead ≤ 16 then (List.range (ahead + 1)).map (fun k => (s.lbs.rxSeq + k) % 65536) else [s.lbs.rxSeq]
  bspReturn { s with lbs := { s.lbs with discarded := (again ++ s.lbs.discarded).eraseDups } } s.lbs.rxSeq 1

/-- The tenant of the logical port of kind 6 (R168). -/
def bspTenant (s : State) : Option Nat :=
  ((List.range 256).find? (fun n => s.rd Od.od_port_kind n == 6)).map (fun n => tenantOf s n)

/-- A good frame in sequence (R65, R166, R168): an empty one changes nothing, one of an unknown stream is counted, and one that no logical port of
kind 6 matches is discarded. -/
def bspTaken (bs : List Nat) (s : State) : State :=
  let n := ofBytes (slice bs 2 2)
  if n = 0 then s
  else if bs.getD 0 0 ≠ 4 then s.count Od.lbs_bsp_crc_err 1
  else if (bspTenant s).isNone then s.count Od.od_unbound_drops 6
  else bspImage s (ofBytes (slice bs 6 2)) (ofBytes (slice bs 8 4)) (bitOf (bs.getD 1 0) 0) (slice bs 12 n)

/-- BSP_FRAME_RX (R166 to R168): a frame whose sequence has come before is one resent by the carrier. -/
def bspFrameRx (bs : List Nat) (s0 : State) : State :=
  if !bspUp s0 ∨ s0.rd Od.lbs_bsp_credits 1 = 0 then s0
  else
    let want := s0.lbs.rxSeq
    let seq := ofBytes (slice bs 4 2)
    let s := if bspSeen s0 seq then s0.count Od.lbs_bsp_resends 1 else s0
    if !bspGood bs then bspDiscard (s.count Od.lbs_bsp_crc_err 1) want
    else if seq ≠ want then bspDiscard s seq
    else
      let s2 := { s with lbs := { s.lbs with
        rxSeq := (want + 1) % 65536, discarded := s.lbs.discarded.filter (· != seq), accepted := (seq :: s.lbs.accepted).take 16 } }
      bspReturn (bspTaken bs s2) seq 0

/-- Whether the tenant of the logical port of kind 6 holds a READ grant covering an index (R220, R391). -/
def bspMayRead (s : State) (i : Nat) : Bool :=
  match bspTenant s with
  | some t => granted s t 0 i
  | none => false

/-- The BSP is off: its transfers fail to their owners, and each direction starts anew when it trains again (R163, R169). -/
def bspOff (s : State) : State :=
  let s1 := bspFail s
  let s2 := { s1 with lbs := { s1.lbs with txSeq := 0, rxSeq := 0, timeouts := 0, withheld := [], discarded := [], accepted := [], imgIn := none, imgDone := [] } }
  ((s2.wr Od.lbs_bsp_state 0).wr Od.lbs_bsp_credits 0 0).wr Od.lbs_bsp_credits 0 1

/-- STANDBY and HOLDUP: the posted queue is discarded and the BSP off (R163). -/
def lbsOff (s : State) : State := { bspOff s with lbs := {} }

/-- An applied write of a local-bus or BSP entry, with its effect at the commit boundary (R160, R169). -/
def lbsApply (s : State) (i e v : Nat) : Option State :=
  if i = Od.lbs_map_src ∨ i = Od.lbs_map_part ∨ i = Od.lbs_map_period then
    some (if s.rd i e = v then s else lbMapChanged (s.wr i v e) e)
  else if i = Od.lbs_bsp_enable then
    let s1 := s.wr i v
    some (if s.rd i = v then s
      else if v = 1 then (if lbServed s then s1.wr Od.lbs_bsp_state 1 else s1)
      else bspOff s1)
  else none

/-- TREND_TRANSFER_COMPLETE (R43). -/
def trendTransferComplete (failed : Bool) (s : State) : State :=
  if s.rd Od.sys_trend_state = 1 then bspDrop (s.wr Od.sys_trend_state (if failed then 3 else 2)) 2 else s

end Sys2Proof.Machine
end

