-- ==== Sys2Proof/Machine/Turnover.lean ====
section
/-!
DEFINITION. Turnover: the rotating calibration of the converter banks (R188 to R201).
-/
namespace Sys2Proof.Machine

/-! ## Banks (R188) -/

/-- Whether a bank is present on the variant. -/
def bankExists (s : State) (b : Nat) : Bool :=
  if s.variant = .x then decide (b < 6) else b == 0 || b == 1 || b == 4

/-- Channels of a bank. -/
def bankChannels (b : Nat) : Nat := if b < 4 then 8 else 15

/-- Range classes of a bank. -/
def bankClasses (b : Nat) : Nat := if b < 4 then 3 else 2

/-- The converter that serves bank channel j. -/
def servingConv (s : State) (b j : Nat) : Nat := byteAt 16 (s.rd Od.cal_map b) j

/-- A bank's hidden state. -/
def bankOf (s : State) (b : Nat) : TurnBank := tabGet {} b s.turn.banks

/-- A bank's hidden state changed. -/
def putBank (s : State) (b : Nat) (x : TurnBank) : State :=
  { s with turn := { s.turn with banks := tabPut b x s.turn.banks } }

/-- Whether a bank is not rotating (R172). -/
def calHold (s : State) (b : Nat) : Bool := s.rd Od.cal_run b == 0 || s.rd Od.cal_state b == 7 || s.turn.stopped

/-- The element of the per-converter-class entries. -/
def calElem (b k cls : Nat) : Nat := (b * 16 + k) * 4 + cls

/-- An event of the chapter: converter number, and payload (R394). -/
def calEvent (s : State) (tag conv sev : Nat) (set : Bool) (payload : Nat) : State := blockEvent s 0x04 tag conv sev set payload

/-- `cal_age`, in s: the time since the calibration of the converter that serves the channel (R201). -/
def calAge (s : State) (b j : Nat) : Nat :=
  if j < bankChannels b then (s.now - s.rd Od.cal_time (calElem b (servingConv s b j) 0)) / 1000000000 % 2 ^ 32 else 0

/-! ## Calibration results (R190) -/

/-- The reference value of a range class, in V or mA (R189). -/
def refPoint (b cls : Nat) : Frac :=
  if 4 ≤ b then (if cls = 0 then ⟨5, 8⟩ else ⟨5, 16⟩) else if cls = 0 then ⟨5, 1⟩ else ⟨20, 1⟩

/-- Full scale of a range class, in V or mA: of an energy class the terminal value of the full-scale peak of R203, of an analogue class
not stated (log entry 23). -/
def classFull (b cls : Nat) : Frac :=
  if 4 ≤ b then (if cls = 0 then ⟨9, 10⟩ else ⟨1, 2⟩) else ⟨Config.anaFullScale cls + 1, 1000000⟩

/-- The results of one class: gain, offset and linearity in ppm, the error at class full scale in ppm, and `cal_result`. -/
structure CalResult where
  gain : Frac
  offset : Frac
  lin : Frac
  err : Frac
  result : Nat
  deriving DecidableEq, Repr

/-- The error at class full scale, in ppm, of a converter whose gain correction has the given reciprocal, with an offset (log entry 23). -/
def fullScaleError (inv o : Frac) : Frac := ((inv.sub ⟨1, 1⟩).mul ⟨1000000, 1⟩).add o

/-- The gain verdict, the offset verdict and the others of R190, in the order of `cal_result`. -/
def classVerdict (energy : Bool) (delay : Int) (gainOk : Bool) (o l : Frac) : Nat :=
  if !gainOk then 2
  else if (Frac.mk 2000 1).lt o.abs then 3
  else if (Frac.mk 20 1).lt l.abs then 4
  else if energy ∧ 512 < delay.natAbs then 5
  else 1

/-- A class judged by the limits of R190. Equal outer averages have no gain correction within the limit. -/
def judgeClass (b cls : Nat) (delay : Int) (c : CalClass) : CalResult :=
  if !c.valid then ⟨⟨1, 1⟩, ⟨0, 1⟩, ⟨0, 1⟩, ⟨0, 1⟩, 6⟩
  else
    let inv := ((Frac.mk (c.plus - c.minus) 2000000000).div (refPoint b cls)).reduce
    let ppm (x : Frac) : Frac := ((x.div (classFull b cls)).mul ⟨1000000, 1⟩).reduce
    let o := ppm ⟨c.plus + c.minus, 2000000000⟩
    let l := (ppm ⟨c.zero, 1000000000⟩).sub o
    let g := if inv.num = 0 then ⟨0, 1⟩ else (Frac.mk 1 1).div inv
    ⟨g, o, l, fullScaleError inv o,
      classVerdict (decide (4 ≤ b)) delay (inv.num != 0 && (g.sub ⟨1, 1⟩).abs.le ⟨5, 1000⟩) o l⟩

/-- The change of the error at full scale against the converter's previous coefficients (R201). -/
def shiftOf (s : State) (el : Nat) (r : CalResult) : Frac :=
  (r.err.sub (fullScaleError ((Frac.mk 1 1).div (s.rdQ Od.cal_gain el)) (s.rdQ Od.cal_offset el))).reduce

/-- One class's outcome recorded: its shift and result, and its coefficients where the whole calibration passed (R190). -/
def recordClass (s : State) (b k cls : Nat) (r : CalResult) (result delay : Nat) (passed : Bool) : State :=
  let el := calElem b k cls
  let shift := if r.result = 6 then 0 else qf32 (shiftOf s el r)
  let s1 := if passed then
      ((((s.wrQ Od.cal_gain r.gain el).wrQ Od.cal_offset r.offset el).wrQ Od.cal_linearity r.lin el).wr
        Od.cal_delay (if b < 4 then 0 else delay) el).wr Od.cal_time s.now el
    else s
  let s2 := (if r.result = 6 then s1 else s1.wr Od.cal_shift shift el).wr Od.cal_result result el
  calEvent s2 1 (b * 16 + k) (if result = 1 then 0 else 1) false (pay [(1, cls), (1, result), (4, shift)])

/-- The coefficients of a converter, class after class: gain, offset, residual and delay. -/
def calWords (s : State) (b k : Nat) : List Nat :=
  (List.range (bankClasses b)).flatMap (fun c =>
    let el := calElem b k c
    [s.rd Od.cal_gain el, s.rd Od.cal_offset el, s.rd Od.cal_linearity el, s.rd Od.cal_delay el])

/-- The coefficients of a converter stored by page commit (R190). -/
def calStore (s : State) (b k : Nat) : State :=
  { s with mer := { s.mer with cal := tabPut (b * 16 + k) ((tabGet {} (b * 16 + k) s.mer.cal).commit (calWords s b k)) s.mer.cal } }

/-- A calibration of converter k recorded: whether it passed the limits of R190, and, of a released converter, the shift
limit of R198. -/
def recordCalibration (s : State) (b k : Nat) (classes : List CalClass) (delay : Int) (released : Bool) : State × Bool :=
  let n := bankClasses b
  let rs := (List.range n).map (fun c => judgeClass b c delay (classes.getD c ⟨0, 0, 0, false⟩))
  let passed := rs.all (fun r => r.result == 1)
  let exceeds (c : Nat) (r : CalResult) : Bool := released && (Frac.mk 250 1).lt (shiftOf s (calElem b k c) r).abs
  let fin := (List.range n).map (fun c =>
    let r := rs.getD c ⟨⟨1, 1⟩, ⟨0, 1⟩, ⟨0, 1⟩, ⟨0, 1⟩, 6⟩
    (c, r, if r.result = 1 ∧ exceeds c r then 7 else r.result))
  let done := fin.foldl (fun t f => recordClass t b k f.1 f.2.1 f.2.2 (ofInt 16 delay) passed) s
  (if passed then calStore done b k else done, fin.all (fun f => f.2.2 == 1))

/-! ## Samples of a converter (R194, R197, R203) -/

/-- A reading of a converter with its class's coefficients applied: the gain correction of what the reading is above the offset. -/
def calibrated (s : State) (b k cls : Nat) (x : Frac) : Frac :=
  let el := calElem b k cls
  let o := s.rdQ Od.cal_offset el
  (s.rdQ Od.cal_gain el).mul (if o.num = 0 then x else x.sub ((o.mul (classFull b cls)).div ⟨1000000, 1⟩))

/-- The weight of the new converter at sample n of a fade, n from 0 to 63 (R194). -/
def fadeWeight (n : Nat) : Frac := ⟨2 * n + 1, 128⟩

/-- The faded sample of R194, n-th of 64. -/
def faded (n : Nat) (a b : Frac) : Frac := (((Frac.mk 1 1).sub (fadeWeight n)).mul a).add ((fadeWeight n).mul b)

/-- The converter delay D of R190, in 1/1,024 sample. -/
def convDelay (s : State) (b k : Nat) : Int := if b < 4 then 0 else s.rdInt Od.cal_delay (calElem b k 0)

/-! ## Failures (R198) -/

/-- A bank stops rotating because a converter failed: it has no spare, and TURNOVER is set. -/
def converterFailed (s : State) (b k : Nat) : State :=
  putBank (raiseFault ((s.wr Od.cal_spare 0xFF b).wr Od.cal_state 7 b) bitTurnover (b * 16 + k)) b {}

/-- The sequencer or a reference failed: rotation stops in every bank, and each channel keeps its converter. -/
def sequencerStop (s : State) : State :=
  let s1 := (List.range 6).foldl (fun t b => if bankExists t b then putBank (t.wr Od.cal_state 7 b) b {} else t) s
  raiseFault { s1 with turn := { s1.turn with stopped := true } } bitTurnover

/-- The state of a bank that runs no step. -/
def restState (s : State) (b : Nat) : Nat :=
  if s.turn.stopped ∨ s.rd Od.cal_spare b = 0xFF then 7 else if s.rd Od.cal_run b = 1 then 1 else 0

/-- A step starts with the calibration of the spare. -/
def startStep (s : State) (b : Nat) : State :=
  if bankExists s b ∧ running s ∧ s.rd Od.cal_run b = 1 ∧ s.rd Od.cal_state b = 1 then putBank (s.wr Od.cal_state 2 b) b {} else s

/-- A bank's step ends; a step that fell due meanwhile starts (R192). -/
def bankRest (s : State) (b : Nat) : State :=
  let t := putBank (s.wr Od.cal_state (restState s b) b) b {}
  if (bankOf s b).due then startStep t b else t

/-- The failed converter of a bank without a spare: the one its map does not name. -/
def failedConv (s : State) (b : Nat) : Option Nat :=
  (List.range (bankChannels b + 1)).find? (fun k => !((List.range (bankChannels b)).any (fun j => servingConv s b j == k)))

/-- A free value held to the limits of R190: at most d from c (log entry 24). -/
def freeWithin (s : State) (n : Nat) (c d : Frac) : Frac := Frac.clamp (c.sub d) (c.add d) (f32q (Config.freeValue (s.free + n)))

/-- The results of a passing recalibration: within the limits of R190, and otherwise measured, so free values (log entry 24). -/
def recalResult (s : State) (cls : Nat) : CalResult :=
  let g := freeWithin s (3 * cls) ⟨1, 1⟩ ⟨5, 1000⟩
  let o := freeWithin s (3 * cls + 1) ⟨0, 1⟩ ⟨2000, 1⟩
  ⟨g, o, freeWithin s (3 * cls + 2) ⟨0, 1⟩ ⟨20, 1⟩, fullScaleError ((Frac.mk 1 1).div g) o, 1⟩

/-- A failed converter recalibrated by a retest (R198): every class and its delay, recorded as every completed calibration is (R201). -/
def recalibrate (s : State) (b k : Nat) : State :=
  let d := ofInt 16 ((Config.freeValue (s.free + 9) % 1025 : Nat) - 512 : Int)
  ((List.range (bankClasses b)).foldl (fun t c => recordClass t b k c (recalResult s c) 1 d true) s).tookFree 10

/-- What a passing retest does in a bank (R198): a channel without a converter has its own again, and the failed converter that serves no
channel becomes the spare. -/
def bankRetested (s : State) (b : Nat) : State :=
  let s1 := (List.range (bankChannels b)).foldl (fun t j => if s.turn.dead.contains (b * 16 + j) then recalibrate t b (servingConv t b j) else t) s
  let s2 := if s1.rd Od.cal_spare b = 0xFF then
      match failedConv s1 b with
      | some k => recalibrate (s1.wr Od.cal_spare k b) b k
      | none => s1
    else s1
  { s2 with turn := { s2.turn with dead := s2.turn.dead.filter (fun x => x / 16 != b) } }

/-- A passing retest of TURNOVER (R189, R198): every bank rotates again. -/
def turnoverRetested (s : State) : State :=
  let s1 := { s.wr Od.cal_ref 0 with turn := { s.turn with stopped := false, vrefBad := 0, irefBad := 0 } }
  (List.range 6).foldl (fun t b =>
    if !bankExists t b then t
    else
      let t1 := bankRetested t b
      if t1.rd Od.cal_state b = 7 then bankRest t1 b else t1) s1

/-- REFERENCE_COMPARE (R189): a reference 0.1 % off for three comparisons in a row is a reference fault. -/
def referenceCompare (vref iref : Int) (s : State) : State :=
  if powered s then
    let v := if 1000 < vref.natAbs then s.turn.vrefBad + 1 else 0
    let i := if 1000 < iref.natAbs then s.turn.irefBad + 1 else 0
    let s1 := { s with turn := { s.turn with vrefBad := v, irefBad := i } }
    let bits := (if 3 ≤ v then 1 else 0) ||| (if 3 ≤ i then 2 else 0)
    if bits ≠ 0 then sequencerStop (s1.wr Od.cal_ref (s1.rd Od.cal_ref ||| bits)) else s1
  else s

/-! ## The step (R192 to R196, R200) -/

/-- The target channel of a bank's step. -/
def stepTarget (s : State) (b : Nat) : Nat := s.rd Od.cal_next b

/-- TURNOVER_STEP_DUE (R192, R195): a step that falls due during one waits for its end; an abandoned step that is to be repeated is the next
step (R200). -/
def turnoverStepDue (b : Nat) (s : State) : State :=
  let x := bankOf s b
  let st := s.rd Od.cal_state b
  if x.again ∨ x.againAt.isSome then s
  else if running s ∧ bankExists s b ∧ 2 ≤ st ∧ st ≤ 6 then putBank s b { x with due := true }
  else startStep s b

/-- SPARE_CALIBRATION_DONE (R190, R193, R198): on a pass the spare is connected; a first failure is calibrated again. -/
def spareCalibrationDone (b : Nat) (classes : List CalClass) (delay : Int) (s : State) : State :=
  if running s ∧ bankExists s b ∧ s.rd Od.cal_state b = 2 then
    let k := s.rd Od.cal_spare b
    let r := recordCalibration s b k classes delay false
    let x := bankOf s b
    if r.2 then putBank (r.1.wr Od.cal_state 3 b) b { x with second := false, repeats := 0, repeatDue := false }
    else if x.second ∨ x.aborted then converterFailed r.1 b k
    else putBank r.1 b { x with second := true }
  else s

/-- TURNOVER_CHECK_END (R193, R200). -/
def turnoverCheckEnd (b diff : Nat) (overRange : Bool) (s : State) : State :=
  let x := bankOf s b
  if running s ∧ bankExists s b ∧ s.rd Od.cal_state b = 3 ∧ !x.repeatDue then
    if overRange then
      if x.repeats = 3 then bankRest (s.count Od.cal_late b) b
      else putBank s b { x with repeats := x.repeats + 1, repeatDue := true }
    else
      let s1 := s.wr Od.cal_disagree diff b
      if (f32q diff).abs.le ⟨s.rd Od.cal_agree b, 1⟩ ∨ x.aborted then s1.wr Od.cal_state 4 b
      else
        let s2 := calEvent (s1.count Od.cal_aborts b) 2 (b * 16 + s.rd Od.cal_spare b) 1 false (pay [(1, 2), (4, diff)])
        putBank (s2.wr Od.cal_state 2 b) b { x with aborted := true }
  else s

/-- CHECK_REPEAT (R200): the check runs again 100 ms after an over-range. -/
def checkRepeat (b : Nat) (s : State) : State :=
  let x := bankOf s b
  if running s ∧ s.rd Od.cal_state b = 3 ∧ x.repeatDue then putBank s b { x with repeatDue := false } else s

/-- The voltage input that is the reference voltage of an energy bank's channel (R196). -/
def fadeReference (b j : Nat) : Nat := (b - 4) * 3 + j % 3

/-- Whether a cross-fade may start at a cause (R193, R196): on an analogue bank at the next sample; on an energy bank at a crossing of the
reference voltage, after the wait for one, or at once while the reference has raised voltage-loss. -/
def fadeMayStart (s : State) (b : Nat) (cause : FadeCause) : Bool :=
  let v := fadeReference b (stepTarget s b)
  match cause with
  | .sample => decide (b < 4) || s.rd Od.nrg_vloss v == 1
  | .crossing k => decide (4 ≤ b) && k == v
  | .timeout => decide (4 ≤ b)

/-- A hand-over of an energy channel is noted. -/
def handOver (s : State) (b j : Nat) (h : Handover) : State :=
  { s with turn := { s.turn with handed := tabPut (b * 16 + j) h s.turn.handed } }

/-- CROSS_FADE_START (R193, R196). -/
def crossFadeStart (b : Nat) (cause : FadeCause) (first : Nat) (s : State) : State :=
  if running s ∧ bankExists s b ∧ s.rd Od.cal_state b = 4 ∧ fadeMayStart s b cause then
    let j := stepTarget s b
    let s1 := putBank (s.wr Od.cal_state 5 b) b { bankOf s b with faded := 0 }
    if b < 4 then s1 else handOver s1 b j ⟨first, servingConv s b j, s.rd Od.cal_spare b, true⟩
  else s

/-- The assignment word changes in one write: the spare serves channel j, and the former converter is the spare (R193, R200). -/
def assignSpare (s : State) (b j : Nat) : State :=
  let old := servingConv s b j
  let m := putBytes 16 (s.rd Od.cal_map b) j 1 (s.rd Od.cal_spare b)
  (s.wr Od.cal_map m b).wr Od.cal_spare old b

/-- Whether the 64 samples of a fade have been delivered, where each is a sample of the channel: on an analogue channel at rate 0 that
delivers samples (R171, log entry 22). -/
def fadeComplete (s : State) (b : Nat) : Bool :=
  let c := b * 8 + stepTarget s b
  decide (4 ≤ b) || s.rd Od.ana_rate c != 0 || s.rd Od.ana_mode c == 0 || decide (64 ≤ (bankOf s b).faded)

/-- CROSS_FADE_END (R193, R194): the map names the spare, and the former converter is released. -/
def crossFadeEnd (b : Nat) (s : State) : State :=
  if running s ∧ bankExists s b ∧ s.rd Od.cal_state b = 5 ∧ fadeComplete s b then
    let j := stepTarget s b
    let old := servingConv s b j
    let s1 := (assignSpare s b j).wr Od.cal_next ((j + 1) % bankChannels b) b
    putBank (s1.wr Od.cal_state 6 b) b { bankOf s b with released := old }
  else s

/-- RELEASED_CALIBRATION_DONE (R193, R198): the step completes, or the released converter has failed. -/
def releasedCalibrationDone (b : Nat) (classes : List CalClass) (delay : Int) (s : State) : State :=
  if running s ∧ bankExists s b ∧ s.rd Od.cal_state b = 6 then
    let k := (bankOf s b).released
    let r := recordCalibration s b k classes delay true
    if r.2 then bankRest (r.1.count Od.cal_steps b) b else converterFailed r.1 b k
  else s

/-- The switch to the spare: an analogue channel is in a gap until its next sample, an energy channel changes converter at a sample (R198). -/
def openGap (s : State) (b j first : Nat) : State :=
  if b < 4 then { s with turn := { s.turn with gap := (b * 16 + j) :: s.turn.gap.filter (· != b * 16 + j) } }
  else handOver s b j ⟨first, servingConv s b j, s.rd Od.cal_spare b, false⟩

/-- LIVE_CONVERTER_FAILURE (R198): the spare takes the channel at once; without a spare the channel has no converter. -/
def liveConverterFailure (b j gapUs first : Nat) (s : State) : State :=
  if bankExists s b ∧ j < bankChannels b ∧ (running s ∨ s.mode = .boot) ∧ !s.turn.dead.contains (b * 16 + j) then
    let k := servingConv s b j
    let s1 := calEvent s 3 (b * 16 + k) 2 true (pay [(1, 3), (4, gapUs)])
    if s.rd Od.cal_spare b = 0xFF then
      raiseFault { s1 with turn := { s1.turn with dead := (b * 16 + j) :: s1.turn.dead } } bitTurnover (b * 16 + k)
    else converterFailed (assignSpare (openGap s1 b j first) b j) b k
  else s

/-- A channel reconfigured during steps 2 to 4 abandons the step: the spare stays spare, and the step is to be repeated (R200). A channel that
is reconfigured again before its step is repeated puts the repeat off. A fade under way is undone. -/
def abandonStep (s : State) (b j : Nat) : State :=
  let st := s.rd Od.cal_state b
  let x := bankOf s b
  if stepTarget s b = j ∧ (st = 3 ∨ st = 4 ∨ st = 5) then
    let s1 := putBank (s.wr Od.cal_state (restState s b) b) b { again := true }
    if st = 5 then { s1 with turn := { s1.turn with handed := tabDel (b * 16 + j) s1.turn.handed } } else s1
  else if stepTarget s b = j ∧ x.againAt.isSome then putBank s b { x with again := true, againAt := none }
  else s

/-- The reconfiguration of a channel completes: an abandoned step on it is repeated 20 ms later (R200). -/
def stepAgain (s : State) (b j : Nat) : State :=
  let x := bankOf s b
  if x.again ∧ stepTarget s b = j then putBank s b { x with again := false, againAt := some (s.now + 20000000) } else s

/-- The abandoned steps whose time to be repeated has come, at a tick (R200). `cal_run` does not hold back a step that has begun. -/
def turnoverTick (s : State) : State :=
  s.turn.banks.foldl (fun t p =>
    match p.2.againAt with
    | some at_ => if at_ ≤ t.now ∧ t.rd Od.cal_state p.1 ≤ 1 then putBank (t.wr Od.cal_state 2 p.1) p.1 {} else t
    | none => t) s

/-- The banks at the end of BOOT (R200). -/
def turnoverStart (s : State) : State :=
  (List.range 6).foldl (fun t b => if bankExists t b then bankRest t b else t) s

/-! ## Entries (R201) -/

/-- The chapter's own refusals. A start of a step that is accepted and waits for its tick counts as a step. -/
def calExtra (s : State) (replayed : Bool) (i e : Nat) : Extra :=
  if i = Od.cal_step_now then
    let st := s.rd Od.cal_state e
    { late := if (2 ≤ st ∧ st ≤ 6) ∨ (!replayed ∧ awaits s i e) then .busyRetry else .ok }
  else {}

/-- An applied write of a Turnover entry. -/
def calApply (s : State) (i e v : Nat) : Option State :=
  if i = Od.cal_step_now then some (startStep s e)
  else if i = Od.cal_run then
    let s1 := s.wr i v e
    let st := s1.rd Od.cal_state e
    some (if (st = 0 ∨ st = 1) ∧ running s then s1.wr Od.cal_state (restState s1 e) e else s1)
  else none

end Sys2Proof.Machine
end

