-- ==== Sys2Proof/Machine/Analogue.lean ====
section
/-!
DEFINITION. Analogue channels, their detections and protection, and HART (R170 to R187).
-/
namespace Sys2Proof.Machine

/-- Analogue channels of the variant (R1). -/
def anaCount (s : State) : Nat := s.perVariant 32 16

/-- Loop slots of the variant (R1). -/
def loopCount (s : State) : Nat := s.perVariant 1024 256

/-! ## Modes (R170) -/

/-- Whether a mode is an output. -/
def anaOutMode (m : Nat) : Bool := m == 3 || m == 5 || m == 7 || m == 9

/-- lo and hi of a mode, in mA or V. -/
def anaRange (m : Nat) : Int × Int :=
  if m = 1 ∨ m = 2 ∨ m = 3 then (4, 20)
  else if m = 4 ∨ m = 5 then (0, 20)
  else if m = 6 ∨ m = 7 then (0, 10)
  else (2, 10)

/-- The highest command of an output mode; the lowest is 0 (R170). -/
def anaTop (m : Nat) : Frac := if m = 3 ∨ m = 5 then ⟨22, 1⟩ else ⟨21, 2⟩

/-- What a channel measures of a value in a mode: an input reads no further than its measured range (R170). -/
def anaMeasured (m : Nat) (x : Frac) : Frac :=
  if m = 1 ∨ m = 2 ∨ m = 4 then Frac.clamp ⟨0, 1⟩ ⟨25, 1⟩ x
  else if m = 6 ∨ m = 8 then Frac.clamp ⟨-1, 2⟩ ⟨11, 1⟩ x
  else x

/-- Span of a mode. -/
def anaSpan (m : Nat) : Frac := Frac.ofInt ((anaRange m).2 - (anaRange m).1)

/-- The terminal value of an engineering command: the line of R174. -/
def anaLine (s : State) (c mode : Nat) (y : Frac) : Frac :=
  let lo := s.rdQ Od.ana_eng_lo c
  let hi := s.rdQ Od.ana_eng_hi c
  (Frac.ofInt (anaRange mode).1).add (((y.sub lo).div (hi.sub lo)).mul (anaSpan mode))

/-- Whether a command lies in the commandable range of an output mode (R174). -/
def anaCommandable (s : State) (c mode y : Nat) : Bool :=
  let m := anaLine s c mode (f32q y)
  finite32 y && (Frac.mk 0 1).le m && m.le (anaTop mode)

/-! ## Characteristics (R173) -/

/-- The table characteristic over points given in order. -/
def anaTable (x : Frac) : List (Frac × Frac) → Frac
  | [] => ⟨0, 1⟩
  | [p] => p.2
  | p :: q :: ps =>
    if x.lt p.1 then p.2
    else if x.lt q.1 then r64 (p.2.add (r64 ((r64 ((r64 (x.sub p.1)).mul (r64 (q.2.sub p.2)))).div (r64 (q.1.sub p.1)))))
    else anaTable x (q :: ps)

/-- The points of a channel's table in use. -/
def anaPoints (s : State) (c : Nat) : List (Frac × Frac) :=
  (List.range (s.rd Od.ana_tab_n c)).map (fun i => (s.rdQ Od.ana_tab_x (c * 32 + i), s.rdQ Od.ana_tab_f (c * 32 + i)))

/-- The characteristic f of a channel, each operation in binary64. -/
def anaChar (s : State) (c : Nat) (x : Frac) : Frac :=
  match s.rd Od.ana_char c with
  | 0 => x
  | 1 =>
    if x.num ≤ 0 then ⟨0, 1⟩
    else
      let r := sqrt64 x
      if (r64 ((s.rdQ Od.ana_sqrt_cut c).div ⟨100, 1⟩)).le r then r else ⟨0, 1⟩
  | _ => anaTable x (anaPoints s c)

/-- The engineering value of a measured value, in binary64 and then rounded to F32 (R173, and R174 for a read-back). -/
def anaValue (s : State) (c mode : Nat) (m : Frac) : Nat :=
  let lo := s.rdQ Od.ana_eng_lo c
  let hi := s.rdQ Od.ana_eng_hi c
  let x := r64 ((r64 (m.sub (Frac.ofInt (anaRange mode).1))).div (anaSpan mode))
  let f := if anaOutMode mode then x else anaChar s c x
  qf32 (r64 (lo.add (r64 (f.mul (r64 (hi.sub lo))))))

/-! ## Status bits (R186) -/

def anaUNDER : Nat := 0
def anaOVER : Nat := 1
def anaOPEN : Nat := 2
def anaSHORT : Nat := 3
def anaCOMPLIANCE : Nat := 4
def anaMISWIRE : Nat := 5
def anaHARTFAULT : Nat := 6
def anaNOTREADY : Nat := 8

/-- A bit of `ana_status`. -/
def anaBit (s : State) (c b : Nat) : Bool := s.rdBit Od.ana_status b c

/-- Whether a channel has lost its converter (R198). -/
def anaDead (s : State) (c : Nat) : Bool := s.turn.dead.contains (c / 8 * 16 + c % 8)

/-- Whether a channel has no value to show (R180, R198). -/
def anaVoid (s : State) (c : Nat) : Bool :=
  anaBit s c anaMISWIRE || anaBit s c anaSHORT || anaBit s c anaOPEN || anaBit s c anaNOTREADY || anaDead s c

/-- Whether consumers see the channel's samples as faulted: while it has no value, and in the gap of a converter failure, in which the last
valid sample repeats (R180, R198). -/
def anaFaulted (s : State) (c : Nat) : Bool := anaVoid s c || s.turn.gap.contains (c / 8 * 16 + c % 8)

/-- Whether a channel reports a fault for R81 (R180). -/
def anaPointFault (s : State) (c : Nat) : Bool :=
  [anaMISWIRE, anaSHORT, anaOPEN, anaCOMPLIANCE, anaNOTREADY].any (anaBit s c)

/-- A condition bit changes. Every set and clear of MISWIRE, SHORT, OPEN and COMPLIANCE is an event, every set is counted, and
`ana_compliance` follows its bit (R178, R180, R186). -/
def anaPut (s : State) (c b : Nat) (on : Bool) (forceEvent : Bool := false) : State :=
  if anaBit s c b = on then s
  else
    let s1 := s.wrBit Od.ana_status b on c
    let s2 := if b = anaCOMPLIANCE then s1.wr Od.ana_compliance (b2n on) c else s1
    let logged := decide (2 ≤ b)
    let s3 := if on ∧ logged then s2.count Od.ana_faults c else s2
    if logged ∨ forceEvent then blockEvent s3 0x04 (16 + b) c (if on then 2 else 0) on (pay [(1, 16 + b)]) else s3

/-- `ana_value`: NaN while a channel has none, else the value last delivered (R180). -/
def anaValueView (s : State) (c : Nat) : Nat := if anaVoid s c then f32NaN else s.rd Od.ana_value c

/-- A condition sets, with the precedence of R180. -/
def anaSet (s : State) (c b : Nat) : State :=
  if anaBit s c anaMISWIRE ∧ b < 5 then s
  else if b = anaCOMPLIANCE ∧ (anaBit s c anaSHORT ∨ anaBit s c anaOPEN) then s
  else
    let s1 := anaPut s c b true
    let s2 := if b = anaMISWIRE then
        [anaUNDER, anaOVER, anaOPEN, anaSHORT, anaCOMPLIANCE].foldl (fun t k => anaPut t c k false true) s1
      else if b = anaSHORT ∨ b = anaOPEN then anaPut s1 c anaCOMPLIANCE false
      else s1
    s2

/-! ## Thresholds (R177) -/

/-- Threshold of UNDER or OVER of a mode, in thousandths of mA or V; `none` where the mode has none. -/
def anaLimit (mode k : Nat) : Option Int :=
  if k = anaUNDER then (if mode = 1 ∨ mode = 2 then some 3600 else if mode = 6 then some (-200) else if mode = 8 then some 1600 else none)
  else if mode = 1 ∨ mode = 2 ∨ mode = 4 then some 21000
  else if mode = 6 ∨ mode = 8 then some 10500
  else none

/-- Hysteresis of UNDER and OVER of a mode, in the same thousandths. -/
def anaHyst (mode : Nat) : Int := if mode ≤ 5 then 100 else 50

/-- What a measured value does to a condition: `some true` sets it, `some false` clears it, `none` leaves it (R177). -/
def anaJudge (s : State) (c k : Nat) (m : Frac) (limit : Bool) : Option Bool :=
  let mode := s.rd Od.ana_mode c
  let at_ (t : Int) : Frac := ⟨t, 1000⟩
  let band (on clear : Bool) : Option Bool := if on then some true else if clear then some false else none
  let cmd := f32q (tabGet 0 c s.ana.drive)
  if k = anaUNDER then
    match anaLimit mode k with
    | some t => band (m.lt (at_ t)) ((at_ (t + anaHyst mode)).le m)
    | none => some false
  else if k = anaOVER then
    match anaLimit mode k with
    | some t => band ((at_ t).lt m) (m.le (at_ (t - anaHyst mode)))
    | none => some false
  else if k = anaOPEN then
    if mode = 1 ∨ mode = 2 ∨ mode = 8 then band (m.lt (at_ 500)) ((at_ 700).le m)
    else if mode = 3 ∨ mode = 5 then
      band ((at_ 1000).le cmd && m.lt (at_ 200) && limit) ((at_ 400).le m || cmd.lt (at_ 800) || !limit)
    else some false
  else
    if mode = 1 ∨ mode = 2 ∨ mode = 4 then band ((at_ 24500).le m) (m.le (at_ 24300))
    else if mode = 7 ∨ mode = 9 then band (limit && m.lt (at_ 500)) ((at_ 700).le m || !limit)
    else some false

/-- A condition judged. -/
def anaApply1 (s : State) (c k : Nat) (m : Frac) (limit : Bool) : State :=
  match anaJudge s c k m limit with
  | some true => anaSet s c k
  | some false => anaPut s c k false
  | none => s

/-! ## Samples and outputs -/

/-- What `ctl_out` shows: `ctl_safe_out` while the slot is disabled and until BOOT ends (R228, R237). -/
def loopOut (s : State) (slot : Nat) : Nat :=
  if s.rd Od.ctl_period slot = 0 ∨ s.mode = .boot then s.rd Od.ctl_safe_out slot else s.rd Od.ctl_out slot

/-- The command an output channel aims at (R174): `ana_out`, or the loop slot's `ctl_out`. -/
def anaSource (s : State) (c : Nat) : Nat :=
  let src := s.rd Od.ana_out_src c
  if src = 0xFFFF then s.rd Od.ana_out c else loopOut s src

/-- The mis-wiring codes of a channel's AI_LP and AI_IO (R179). -/
def wiresOf (s : State) (c : Nat) : Nat × Nat := tabGet (0, 0) c s.ana.wires

/-- Whether a channel's output stage is connected and on (R56, R176, R179, R181). -/
def anaOn (s : State) (c : Nat) : Bool :=
  running s && !entryOff s && decide (c < anaCount s) && anaOutMode (s.rd Od.ana_mode c) && !anaBit s c anaNOTREADY && (wiresOf s c).2 == 0

/-- Whether a channel's AI_LP switch is on: in mode 1 alone (R170), but for the spans of R176, R179 and R181. -/
def anaLp (s : State) (c : Nat) : Bool :=
  running s && !entryOff s && decide (c < anaCount s) && s.rd Od.ana_mode c == 1 && !s.ana.reconf.contains c && (wiresOf s c).1 == 0

/-- A channel's terminal is driven with its command, clamped to the commandable range, or is off. -/
def anaDrive (s : State) (c : Nat) : State :=
  let mode := s.rd Od.ana_mode c
  let on := tabPut c (qf32 (Frac.clamp ⟨0, 1⟩ (anaTop mode) (anaLine s c mode (f32q (anaSource s c))))) s.ana.drive
  let d := if anaOn s c then on else tabDel c s.ana.drive
  { s with ana := { s.ana with drive := d } }

/-- Every channel fed by a loop slot takes the slot's output (R174). -/
def anaFromLoop (s : State) (slot : Nat) : State :=
  (List.range (anaCount s)).foldl (fun t c => if t.rd Od.ana_out_src c = slot ∧ anaOutMode (t.rd Od.ana_mode c) then anaDrive t c else t) s

/-- Every output is off; AI_LP follows the mode (R56, R60, R181, `anaLp`). -/
def anaOff (s : State) : State := { s with ana := { s.ana with drive := [] } }

/-- A value is delivered: measured and engineering values, and UNDER and OVER judged on it (R173, R177, R180). -/
def anaDeliver (s : State) (c m : Nat) : State :=
  let mode := s.rd Od.ana_mode c
  let s1 := (s.wr Od.ana_meas m c).wr Od.ana_value (anaValue s c mode (f32q m)) c
  anaApply1 (anaApply1 s1 c anaUNDER (f32q m) false) c anaOVER (f32q m) false

/-- Whether a channel's bank is fading it, and the faded sample's number. -/
def anaFade (s : State) (c : Nat) : Option Nat :=
  if s.rd Od.cal_state (c / 8) = 5 ∧ stepTarget s (c / 8) = c % 8 then some (bankOf s (c / 8)).faded else none

/-- The range class in which a converter serves a channel (R188): voltage, current with the 50 Ω burden, current with the 250 Ω burden of
HART in modes 1 and 2 (R170). -/
def anaClass (s : State) (c : Nat) : Nat :=
  let mode := s.rd Od.ana_mode c
  if mode = 0 ∨ 6 ≤ mode then 0 else if (mode = 1 ∨ mode = 2) ∧ s.rd Od.ana_hart_enable c = 1 then 2 else 1

/-- A reading of converter k as the channel's measurement, with the converter's coefficients (R194). -/
def anaReading (s : State) (c k x : Nat) : Frac := anaMeasured (s.rd Od.ana_mode c) (calibrated s (c / 8) k (anaClass s c) (f32q x))

/-- Conversions at 32 kHz for one delivered sample (R171). -/
def anaDecimation (s : State) (c : Nat) : Nat := ([1, 8, 32, 320] : List Nat).getD (s.rd Od.ana_rate c) 1

/-- The sample of a channel that a converter serves, and outside a fade the only one (R194). Of a decimated sample the last conversion's
weight counts (log entry 22). -/
def anaTake (s : State) (c live spare : Nat) : State :=
  let a := anaReading s c (servingConv s (c / 8) (c % 8)) live
  match anaFade s c with
  | none => anaDeliver s c (qf32 a)
  | some n =>
    let b := anaReading s c (s.rd Od.cal_spare (c / 8)) spare
    let k := n + anaDecimation s c
    anaDeliver (putBank s (c / 8) { bankOf s (c / 8) with faded := k }) c (qf32 (if k ≤ 64 then faded (k - 1) a b else b))

/-- A valid sample ends the gap of a converter failure (R198). -/
def closeGap (s : State) (c : Nat) : State :=
  { s with turn := { s.turn with gap := s.turn.gap.filter (· != c / 8 * 16 + c % 8) } }

/-- Whether the converters of a channel's bank are sampled (R181). -/
def anaSampling (s : State) (c : Nat) : Bool := (running s || s.mode == .boot) && decide (c < anaCount s)

/-- ANALOGUE_SAMPLE (R171, R173, R180, R194): the terminal voltage is measured in every mode; a channel that is off or not ready delivers no
sample, one without a converter NaN. -/
def analogueSample (c live spare term : Nat) (s : State) : State :=
  if anaSampling s c ∧ finite32 live ∧ finite32 spare then
    let s1 := s.wr Od.ana_term_v term c
    if s.rd Od.ana_mode c = 0 ∨ anaBit s c anaNOTREADY then s1
    else if anaDead s c then (s1.wr Od.ana_meas f32NaN c).wr Od.ana_value f32NaN c
    else anaTake (closeGap s1 c) c live spare
  else s

/-- A reconfiguration completes (R176): AI_LP follows the mode again, and an abandoned step of Turnover is to be repeated (R200). -/
def anaConfigured (s : State) (c : Nat) : State :=
  stepAgain { s with ana := { s.ana with reconf := s.ana.reconf.filter (· != c) } } (c / 8) (c % 8)

/-- CHANNEL_FIRST_SAMPLE (R176). -/
def channelFirstSample (c m term : Nat) (s : State) : State :=
  if anaSampling s c ∧ s.rd Od.ana_mode c ≠ 0 ∧ anaBit s c anaNOTREADY ∧ !anaDead s c ∧ finite32 m then
    let s1 := anaConfigured ((s.wrBit Od.ana_status anaNOTREADY false c).wr Od.ana_term_v term c) c
    anaDrive (anaDeliver s1 c (qf32 (anaReading s1 c (servingConv s1 (c / 8) (c % 8)) m))) c
  else s

/-- ANA_CONDITION_CHANGE (R177). -/
def anaConditionChange (c k m : Nat) (limit : Bool) (s : State) : State :=
  if anaSampling s c ∧ k ≤ 3 ∧ !anaBit s c anaNOTREADY ∧ finite32 m then anaApply1 s c k (f32q m) limit else s

/-- COMPLIANCE_SET (R178): a current stage short of its command by more than 0.1 % of span, a voltage stage at its
limit with 0.5 V or more. -/
def complianceSet (c m : Nat) (limit : Bool) (s : State) : State :=
  let mode := s.rd Od.ana_mode c
  let short : Bool := if mode = 3 ∨ mode = 5 then ((f32q m).add ((anaSpan mode).div ⟨1000, 1⟩)).lt (f32q (tabGet 0 c s.ana.drive))
    else (Frac.mk 1 2).le (f32q m)
  if c < anaCount s ∧ anaOn s c ∧ finite32 m ∧ limit ∧ short then anaSet s c anaCOMPLIANCE else s

/-- COMPLIANCE_CLEAR (R178): the stage has left its limit, and delivers within 0.05 % of span of the command. -/
def complianceClear (c m : Nat) (limit : Bool) (s : State) : State :=
  let mode := s.rd Od.ana_mode c
  if c < anaCount s ∧ anaOn s c ∧ finite32 m ∧ !limit ∧
      ((f32q m).sub (f32q (tabGet 0 c s.ana.drive))).abs.le ((anaSpan mode).div ⟨2000, 1⟩) then
    anaPut s c anaCOMPLIANCE false
  else s

/-- The mis-wiring code of AI_LP, 0 where neither condition of R179 holds. -/
def miswireLp (lp : Int) : Nat := if 26000 < lp then 1 else if lp < -2000 then 2 else 0

/-- The mis-wiring code of AI_IO, 0 where no condition of R179 holds. -/
def miswireIo (s : State) (c : Nat) (io drive readback : Int) : Nat :=
  let mode := s.rd Od.ana_mode c
  if 26000 < io then 3
  else if io < -2000 then 4
  else if (mode = 3 ∨ mode = 5) ∧ drive + 1000 ≤ io ∧ readback < 200 then 5
  else 0

/-- The mis-wiring of a channel is shown, AI_LP's code first (log entry 45); MISWIRE stands while a terminal has a code, and the terminals
are switched to match (R179). -/
def putWires (s : State) (c : Nat) (w : Nat × Nat) : State :=
  let s1 := ({ s with ana := { s.ana with wires := tabPut c w s.ana.wires } } : State).wr Od.ana_miswire (if w.1 ≠ 0 then w.1 else w.2) c
  anaDrive (if w = (0, 0) then anaPut s1 c anaMISWIRE false else anaSet s1 c anaMISWIRE) c

/-- MISWIRE_DETECT (R179): the code is shown, and the terminal or stage is disconnected. A terminal with a code keeps it. -/
def miswireDetect (c : Nat) (lp io drive readback : Int) (s : State) : State :=
  let w := wiresOf s c
  let w1 := (if w.1 = 0 then miswireLp lp else w.1, if w.2 = 0 then miswireIo s c io drive readback else w.2)
  if anaSampling s c ∧ w1 ≠ w then putWires s c w1 else s

/-- Whether a mis-wiring code clears at a terminal voltage (R179). -/
def miswireGone (code : Nat) (v : Int) : Bool := if code = 5 then decide (v < 1000) else decide (-2000 ≤ v) && decide (v ≤ 26000)

/-- MISWIRE_CLEAR (R179): the terminal is connected again, and an output drives its command. -/
def miswireClear (c : Nat) (lp io : Int) (s : State) : State :=
  let w := wiresOf s c
  let w1 := (if miswireGone w.1 lp then 0 else w.1, if miswireGone w.2 io then 0 else w.2)
  if anaSampling s c ∧ w1 ≠ w then putWires s c w1 else s

/-! ## HART (R182 to R185) -/

/-- The modem of a channel (R184). -/
def hartModem (s : State) (c : Nat) : Nat := c % s.perVariant 8 4

/-- A channel's HART state, with HART_FAULT in `ana_status` (R183, R187). -/
def hartState (s : State) (c st : Nat) : State :=
  (s.wr Od.ana_hart_state st c).wrBit Od.ana_status anaHARTFAULT (st == 3 || st == 4) c

/-- Whether HART runs on a channel. -/
def hartOn (s : State) (c : Nat) : Bool := running s && decide (c < anaCount s) && s.rd Od.ana_hart_enable c == 1

/-- The transaction of a modem. -/
def hartTxOf (s : State) (m : Nat) : Option HartTx := (s.ana.hartTx.find? (fun p => p.1 == m)).map (·.2)

/-- The tag, command and data of a pass-through request (R185). -/
def hartTag (v : Nat) : Nat := bytesAt 70 v 0 2
def hartCmd (v : Nat) : Nat := bytesAt 70 v 2 2
def hartData (v : Nat) : List Nat := (List.range (byteAt 70 v 4)).map (fun k => byteAt 70 v (6 + k))

/-- A request goes out with the module's role (R182), with the device's long-frame address from its identification on (R183). -/
def hartOut (s : State) (c : Nat) (long : Bool) (cmd : Nat) (data : List Nat) : State :=
  s.send (.hart c (s.rd Od.ana_hart_role == 1) (if long then some (s.rd Od.ana_hart_uid c) else none) cmd data)

/-- The request of a transaction is sent: command 0, command 3, or the pass-through command, through command 31 above 255. -/
def hartSend (s : State) (c kind : Nat) : State :=
  if kind = 0 then hartOut s c false 0 []
  else if kind = 1 then hartOut s c true 3 []
  else
    let v := tabGet 0 c s.ana.pass
    let cmd := hartCmd v
    if 255 < cmd then hartOut s c true 31 (beBytes 2 cmd ++ hartData v) else hartOut s c true cmd (hartData v)

/-- A pass-through response: tag, state, response code, device status and data, at most 64 bytes (R185). -/
def hartRsp (tag st code dev : Nat) (data : List Nat) : Nat :=
  let d := data.take 64
  ofBytes (beBytes 2 tag ++ [st, code, dev, d.length] ++ d ++ List.replicate (64 - d.length) 0)

/-- The response state of a channel. -/
def hartRspState (s : State) (c : Nat) : Nat := byteAt 70 (s.rd Od.ana_hart_rsp c) 2

/-- A transaction starts on a channel's modem. -/
def hartBegin (s : State) (c kind : Nat) : State :=
  let s1 := if kind = 2 then
      let tag := hartTag (tabGet 0 c s.ana.pass)
      (s.wr Od.ana_hart_last_tag tag c).wr Od.ana_hart_rsp (hartRsp tag 2 0 0 []) c
    else if kind = 1 then { s with ana := { s.ana with lastPoll := tabPut c s.now s.ana.lastPoll } }
    else s
  hartSend { s1 with ana := { s1.ana with hartTx := tabPut (hartModem s c) ⟨c, kind, false⟩ s1.ana.hartTx } } c kind

/-- HART_IDENTIFY (R183): command 0 to polling address 0. -/
def hartIdentify (c : Nat) (s : State) : State :=
  if hartOn s c ∧ s.rd Od.ana_hart_state c = 1 ∧ hartTxOf s (hartModem s c) = none then hartBegin s c 0 else s

/-- HART_IDENTIFY_RETRY (R183): every 10 s while no device answers. -/
def hartIdentifyRetry (c : Nat) (s : State) : State :=
  if hartOn s c ∧ s.rd Od.ana_hart_state c = 3 ∧ hartTxOf s (hartModem s c) = none then hartBegin s c 0 else s

/-- The HART-enabled channels of a modem, ascending. -/
def hartChannels (s : State) (m : Nat) : List Nat :=
  (List.range (anaCount s)).filter (fun c => hartModem s c == m && s.rd Od.ana_hart_enable c == 1)

/-- HART_MODEM_VISIT (R184): the next enabled channel runs its pass-through request, or a cyclic read that is due. -/
def hartModemVisit (m : Nat) (s : State) : State :=
  if !running s ∨ hartTxOf s m ≠ none then s
  else
    let cs := hartChannels s m
    let last := tabGet 0xFFFF m s.ana.visited
    match (match cs.find? (fun c => last != 0xFFFF && decide (last < c)) with
      | some c => some c
      | none => cs.head?) with
    | none => s
    | some c =>
      let s1 := { s with ana := { s.ana with visited := tabPut m c s.ana.visited } }
      let st := s.rd Od.ana_hart_state c
      let poll := s.rd Od.ana_hart_poll c
      if st ≠ 2 ∧ st ≠ 4 then s1
      else if hartRspState s c = 1 then hartBegin s1 c 2
      else
        let due : Bool := match s.ana.lastPoll.find? (fun p => p.1 == c) with
          | none => true
          | some p => decide (p.2 + poll * 1000000000 ≤ s.now)
        if poll != 0 && due then hartBegin s1 c 1 else s1

/-- A modem's transaction is over. -/
def hartEnd (s : State) (m : Nat) : State := { s with ana := { s.ana with hartTx := tabDel m s.ana.hartTx } }

/-- What a finished transaction leaves in the HART state: nothing on a channel whose HART has been switched off meanwhile, and only an
identification ends state 1 (R183, R184, log entry 130). -/
def hartResult (s : State) (t : HartTx) (st : Nat) : State :=
  if s.rd Od.ana_hart_enable t.chan = 1 ∧ (t.kind = 0 ∨ s.rd Od.ana_hart_state t.chan ≠ 1) then hartState s t.chan st else s

/-- A request without a good reply: one retry, then a failure (R183). -/
def hartFail (s : State) (m : Nat) (t : HartTx) (rspState : Nat) : State :=
  if !t.retried then hartSend { s with ana := { s.ana with hartTx := tabPut m { t with retried := true } s.ana.hartTx } } t.chan t.kind
  else
    let s1 := hartResult (hartEnd s m) t (if t.kind = 0 then 3 else 4)
    if t.kind = 2 then s1.wr Od.ana_hart_rsp (hartRsp (hartTag (tabGet 0 t.chan s.ana.pass)) rspState 0 0 []) t.chan else s1

/-- The dynamic variables of a command 3 reply (R187). -/
def hartVars (s : State) (c : Nat) (r : HartReply) : State :=
  (List.range 4).foldl (fun t k =>
    match r.vars[k]? with
    | some (u, v) => (t.wr Od.ana_hart_units u (c * 5 + k + 1)).wr Od.ana_hart_pv v (c * 5 + k + 1)
    | none => t) (s.wr Od.ana_hart_pv r.current (c * 5))

/-- HART_REPLY_RX (R182, R183, R185). Burst frames are discarded. -/
def hartReplyRx (m : Nat) (r : HartReply) (s : State) : State :=
  match hartTxOf s m with
  | none => s
  | some t =>
    if !running s ∨ r.burst then s
    else if r.bad then hartFail s m t 5
    else
      let s1 := (hartResult (hartEnd s m) t 2).wr Od.ana_hart_dev_status r.dev t.chan
      if t.kind = 0 then s1.wr Od.ana_hart_uid r.uid t.chan
      else if t.kind = 1 then hartVars s1 t.chan r
      else s1.wr Od.ana_hart_rsp (hartRsp (hartTag (tabGet 0 t.chan s.ana.pass)) 3 r.code r.dev r.data) t.chan

/-- HART_REPLY_TIMEOUT (R183): no valid reply within 305 ms. -/
def hartReplyTimeout (m : Nat) (s : State) : State :=
  match hartTxOf s m with
  | none => s
  | some t => if running s then hartFail s m t 4 else s

/-- HART is off (R181): no transaction runs, no request waits, and no device is held. -/
def hartOff (s : State) : State :=
  let s1 := { s with ana := { s.ana with hartTx := [], pass := [] } }
  (List.range (anaCount s)).foldl (fun t c => if t.rd Od.ana_hart_state c = 0 then t else hartState t c 0) s1

/-! ## Checks and effects of the entries -/

/-- Whether a pass-through request is a no-op: tag 0, or the tag last sent (R185). -/
def hartNoop (s : State) (c v : Nat) : Bool := hartTag v == 0 || hartTag v == s.rd Od.ana_hart_last_tag c

/-- The chapter's own refusals (R174, R185). A request accepted that waits for its tick is queued, but for its own replay. -/
def anaExtra (s : State) (replayed : Bool) (i e v : Nat) : Extra :=
  if i = Od.ana_out then
    let mode := s.rd Od.ana_mode e
    { range := anaOutMode mode && !anaCommandable s e mode v }
  else if i = Od.ana_hart_req then
    let malformed := decide (64 < byteAt 70 v 4) || byteAt 70 v 5 != 0
    let st := s.rd Od.ana_hart_state e
    if hartNoop s e v then { range := malformed }
    else
      { range := malformed || s.rd Od.ana_hart_enable e == 0 || st == 3
        late := if st = 1 ∨ hartRspState s e = 1 ∨ hartRspState s e = 2 ∨ (!replayed ∧ awaits s i e) then .busyRetry else .ok }
  else {}

/-- The state a commit leaves one channel in (R175). -/
def anaChannelOk (s : State) (c : Nat) : Bool :=
  let mode := s.rd Od.ana_mode c
  let ch := s.rd Od.ana_char c
  let src := s.rd Od.ana_out_src c
  let rising (ps : List (Frac × Frac)) : Bool := (ps.zip (ps.drop 1)).all (fun pq => pq.1.1.lt pq.2.1)
  !((f32q (s.rd Od.ana_eng_hi c)).le (f32q (s.rd Od.ana_eng_lo c)) && (f32q (s.rd Od.ana_eng_lo c)).le (f32q (s.rd Od.ana_eng_hi c))) &&
    !(ch != 0 && (mode == 0 || anaOutMode mode)) &&
    (ch != 2 || rising (anaPoints s c)) &&
    (src == 0xFFFF || decide (src < loopCount s)) &&
    (s.rd Od.ana_hart_enable c == 0 || ((mode == 1 || mode == 2 || mode == 3) && decide (2 ≤ s.rd Od.ana_rate c))) &&
    (!anaOutMode mode || anaCommandable s c mode (s.rd Od.ana_out_init c))

/-- The channels a commit touched. -/
def anaTouched (touched : List (Nat × Nat)) : List Nat :=
  (touched.filterMap (fun t =>
    if t.1 = Od.ana_tab_x ∨ t.1 = Od.ana_tab_f then some (t.2 / 32)
    else if 0x2000 ≤ t.1 ∧ t.1 ≤ 0x20FF ∧ t.1 ≠ Od.ana_hart_role then some t.2
    else none)).eraseDups

/-- The checks of R175 on the channels a commit touched. -/
def anaLeaves (s : State) (touched : List (Nat × Nat)) : Bool := (anaTouched touched).all (anaChannelOk s)

/-- A channel comes under reconfiguration, in which AI_LP is off (R176). -/
def underReconf (s : State) (c : Nat) : State := { s with ana := { s.ana with reconf := c :: s.ana.reconf.filter (· != c) } }

/-- A channel is reconfigured (R176): off, NOT_READY, no value, the conditions of the old mode gone; a new output mode
starts from `ana_out_init`, and a step on the channel is abandoned (R200). A HART transaction under way runs to its end (R184). Mode 0
delivers no sample to wait for. -/
def anaReconfigure (old s : State) (c : Nat) : State :=
  let mode := s.rd Od.ana_mode c
  let s1 := [anaUNDER, anaOVER, anaOPEN, anaSHORT, anaCOMPLIANCE].foldl (fun t k => anaPut t c k false) s
  let s2 := (((underReconf s1 c).wrBit Od.ana_status anaNOTREADY true c).wr Od.ana_meas f32NaN c).wr Od.ana_value f32NaN c
  let s3 := if mode ≠ old.rd Od.ana_mode c ∧ anaOutMode mode then s2.wr Od.ana_out (s.rd Od.ana_out_init c) c else s2
  let s4 := if old.rd Od.ana_hart_enable c = s.rd Od.ana_hart_enable c then s3
    else hartState s3 c (if s.rd Od.ana_hart_enable c = 1 then 1 else 0)
  let s5 := abandonStep s4 (c / 8) (c % 8)
  anaDrive (if mode = 0 then anaConfigured s5 c else s5) c

/-- What a commit that touched analogue entries does besides storing them (R174, R176). -/
def anaCommitted (old s : State) (touched : List (Nat × Nat)) : State :=
  (anaTouched touched).foldl (fun t c =>
    if old.rd Od.ana_mode c ≠ s.rd Od.ana_mode c ∨ old.rd Od.ana_rate c ≠ s.rd Od.ana_rate c ∨
        old.rd Od.ana_hart_enable c ≠ s.rd Od.ana_hart_enable c then anaReconfigure old t c
    else anaDrive t c) s

/-- An applied write of an analogue entry. -/
def anaApply (s : State) (i e v : Nat) : Option State :=
  if i = Od.ana_out then some (anaDrive (s.wr i v e) e)
  else if i = Od.ana_hart_req then
    some (if hartNoop s e v then s
      else
        let s1 := (s.wr i v e).wr Od.ana_hart_rsp (hartRsp (hartTag v) 1 0 0 []) e
        { s1 with ana := { s1.ana with pass := tabPut e v s1.ana.pass } })
  else none

/-- The channels when BOOT ends (R174, R181, R183). -/
def anaStart (s : State) : State :=
  (List.range (anaCount s)).foldl (fun t c =>
    let t1 := t.wr Od.ana_out (t.rd Od.ana_out_init c) c
    let t2 := if t1.rd Od.ana_hart_enable c = 1 then hartState t1 c 1 else t1
    anaDrive t2 c) s

end Sys2Proof.Machine
end

