-- ==== Sys2Proof/Machine/Energy.lean ====
section
/-!
DEFINITION. Tenant energy metering: cycle energies, accumulators, sums, pulses, capture (R202 to R226).
-/
namespace Sys2Proof.Machine

/-! ## Circuits and meters (R202) -/

/-- Circuits of the variant. -/
def circuitCount (s : State) : Nat := s.perVariant 8 4

/-- Voltage input of phase p of circuit c. -/
def voltOf (c p : Nat) : Nat := c / 4 * 3 + p

/-- Current input of phase p of circuit c. -/
def currOf (c p : Nat) : Nat := c * 3 + p

/-- The sum meters whose mask names a circuit. -/
def sumsOf (s : State) (c : Nat) : List Nat := (List.range 4).filter (fun k => s.rdBit Od.nrg_sum_mask c k)

/-- An energy event (R394). -/
def nrgEvent (s : State) (tag inst old new : Nat) : State := blockEvent s 0x05 tag inst 0 false (pay [(1, tag), (4, old), (4, new)])

/-- The configuration in force for a cycle that begins now. -/
def nrgCfgNow (s : State) (c : Nat) : NrgCfg where
  enable := s.rd Od.nrg_enable c == 1
  vRatio := (List.range 3).map (fun p => s.rd Od.nrg_v_ratio (voltOf c p))
  iRatio := (List.range 3).map (fun p => s.rd Od.nrg_i_ratio (currOf c p))
  iKind := (List.range 3).map (fun p => s.rd Od.nrg_i_kind (currOf c p))
  vDelay := (List.range 3).map (fun p => s.rdInt Od.nrg_delay (voltOf c p))
  iDelay := (List.range 3).map (fun p => s.rdInt Od.nrg_delay (6 + currOf c p))
  ibase := s.rd Od.nrg_ibase c
  noload := s.rd Od.nrg_noload c
  sums := sumsOf s c

/-- The configuration of a circuit's present cycle: the committed one where no cycle has begun since the start. -/
def nrgCfg (s : State) (c : Nat) : NrgCfg :=
  match s.nrg.cfg.find? (fun p => p.1 == c) with
  | some p => p.2
  | none => nrgCfgNow s c

/-! ## The samples of an input (R194, R197, R198, R203, R204) -/

/-- Bank and bank channel of a voltage input, and of a current input (R188). -/
def voltBank (v : Nat) : Nat × Nat := (4 + v / 3, v % 3)
def currBank (i : Nat) : Nat × Nat := (4 + i / 12, 3 + i % 12)

/-- Bank and bank channel of an input: 0 to 5 the voltages, 6 + n current n, as `nrg_delay` numbers them (R223). -/
def inputBank (k : Nat) : Nat × Nat := if k < 6 then voltBank k else currBank (k - 6)

/-- The range class of an input (R188). -/
def inputClass (k : Nat) : Nat := if k < 6 then 0 else 1

/-- Where an input clips, in V at the terminal (R203). -/
def clipAt (k : Nat) : Frac := if k < 6 then ⟨19, 20⟩ else ⟨53, 100⟩

/-- Whether an input has lost its converter (R198). -/
def inputDead (s : State) (k : Nat) : Bool := s.turn.dead.contains ((inputBank k).1 * 16 + (inputBank k).2)

/-- Reading n among those kept of complete cycles. -/
def keptAt (l : List (Nat × List Nat)) (n : Int) : Option Nat := l.findSome? (fun e => if (e.1 : Int) ≤ n then e.2[(n - e.1).toNat]? else none)

/-- The length in samples of the line cycle that was complete before reading n. -/
def cycleBefore (l : List (Nat × List Nat)) (n : Int) : Option Nat :=
  (l.find? (fun e => decide ((e.1 : Int) + e.2.length ≤ n) && e.2 != [])).map (fun e => e.2.length)

/-- What fills a missing reading: the input's own one line cycle earlier (R198), and where that one is missing too the one before it. -/
def fillReading (s : State) (k : Nat) (raw : Int → Option Frac) : Nat → Int → Frac
  | 0, n => fmt64.frac (Config.noEarlierReading k n)
  | f + 1, n =>
    let l := tabGet [] k s.nrg.prev
    match cycleBefore l n with
    | none => fmt64.frac (Config.noEarlierReading k n)
    | some len =>
      match raw (n - len), keptAt l (n - len) with
      | some q, _ => q
      | none, some w => fmt64.frac w
      | none, none => fillReading s k raw f (n - len)

/-- Reading n that a converter x delivered, with the converter's coefficients (R203); `none` where it is missing or invalid. -/
def delivered (s : State) (k x first : Nat) (l : List (Option Nat)) (n : Int) : Option Frac :=
  (if (first : Int) ≤ n then (l[(n - first).toNat]?).getD none else none).map (fun w => calibrated s (inputBank k).1 x (inputClass k) (f32q w))

/-- Reading n of an input by converter x, one that is missing filled from at most 64 cycles earlier (R198, R203). -/
def reading (s : State) (k x first : Nat) (l : List (Option Nat)) (n : Int) : Frac :=
  (delivered s k x first l n).getD (fillReading s k (delivered s k x first l) 64 n)

/-- A reading as far as the input is not clipped (R203). -/
def clipped (k : Nat) (x : Frac) : Frac := Frac.clamp (Frac.mk 0 1 |>.sub (clipAt k)) (clipAt k) x

/-- A stream delayed by d of 1/1,024 sample, at sample n: the interpolator of R204, which at whole samples moves the stream alone. -/
def delayed (d : Int) (f : Int → Frac) (n : Int) : Frac :=
  let whole := d / 1024
  let part := (d % 1024).toNat
  if part = 0 then f (n - whole)
  else (List.range 16).foldl (fun a t =>
    r64 (a.add (r64 ((fmt64.frac (Config.sincTap part t)).mul (f (n - whole - 8 + t)))))) ⟨0, 1⟩

/-- The stream of converter x on an input, corrected by the input's delay and by the converter's (R197). -/
def corrected (s : State) (k x : Nat) (delta : Int) (first : Nat) (l : List (Option Nat)) (n : Int) : Frac :=
  delayed (delta + convDelay s (inputBank k).1 x) (fun m => clipped k (reading s k x first l m)) n

/-- The last hand-over of an input. -/
def handedOf (s : State) (k : Nat) : Option Handover :=
  (s.turn.handed.find? (fun p => p.1 == (inputBank k).1 * 16 + (inputBank k).2)).map (·.2)

/-- Sample n of an input: of the converter that serves it, before a hand-over of the one before, and within a fade of both, each corrected by
itself and then weighted (R194, R197). -/
def inputAt (s : State) (k : Nat) (delta : Int) (x : InputStream) (n : Int) : Frac :=
  let now := servingConv s (inputBank k).1 (inputBank k).2
  match handedOf s k with
  | none => corrected s k now delta x.first x.served n
  | some h =>
    if n < h.first then corrected s k h.old delta x.first x.former n
    else if h.fade ∧ n < h.first + 64 then
      faded (n - h.first).toNat (corrected s k h.old delta x.first x.former n) (corrected s k h.new delta x.first x.served n)
    else corrected s k h.new delta x.first x.served n

/-- Reading n of an input by the converter that then served it. -/
def readingAt (s : State) (k : Nat) (x : InputStream) (n : Int) : Frac :=
  let now := servingConv s (inputBank k).1 (inputBank k).2
  match handedOf s k with
  | none => reading s k now x.first x.served n
  | some h => if n < h.first then reading s k h.old x.first x.former n else reading s k h.new x.first x.served n

/-- The numbers of the samples from instant a to before instant b, in 1/3,072 sample: each sample belongs to one cycle (R205). -/
def samplesFrom (a : Nat) : Nat := (a + 3071) / 3072

/-! ## Cycle energies (R203, R207, R208), in binary64 (log entry 25) -/

/-- 2π in binary64. -/
def twoPi : Frac := fmt64.frac 0x401921FB54442D18

/-- The currents of a phase in primary A from the samples of its input, and the integrator after them (R203). -/
def currents (kind : Nat) (ratio : Frac) (fnom : Nat) (st : Frac × Frac) : List Frac → List Frac × (Frac × Frac)
  | [] => ([], st)
  | q :: xs =>
    if kind = 0 then
      let r := currents kind ratio fnom st xs
      (r64 (ratio.mul q) :: r.1, r.2)
    else
      let u := r64 ((r64 ((Frac.mk 16383 16384).mul st.1)).add (r64 ((r64 (q.add st.2)).mul ⟨1, 32000⟩)))
      let r := currents kind ratio fnom (u, q) xs
      (r64 ((r64 (ratio.mul (r64 (twoPi.mul ⟨fnom, 1⟩)))).mul u) :: r.1, r.2)

/-- The Hilbert filter over a window of 65 samples, oldest first (R207). -/
def hilbertAt (w : List Frac) : Frac :=
  ((List.range 65).zip w).foldl (fun a p => r64 (a.add (r64 ((fmt64.frac (Config.hilbertTap (64 - p.1))).mul p.2)))) ⟨0, 1⟩

/-- The filtered copy of a stream whose first and last 32 samples only surround it: v and i are delayed by 32 samples to match (R207). -/
def hilbert (n : Nat) (l : List Frac) : List Frac := (List.range n).map (fun k => hilbertAt ((l.drop k).take 65))

/-- The sum of products of two sample streams. -/
def dot (a b : List Frac) : Frac := (a.zip b).foldl (fun t x => r64 (t.add (r64 (x.1.mul x.2)))) ⟨0, 1⟩

/-- What a phase yields in a cycle: active and reactive energy in W·s, rms values, the integrator after it, its voltages and currents, whether
an input clipped, and whether its voltage or its current has no converter. -/
structure PhaseResult where
  ep : Frac
  eq : Frac
  v : Frac
  i : Frac
  integ : Frac × Frac
  vs : List Frac
  is : List Frac
  clip : Bool
  vDead : Bool
  iDead : Bool

/-- The voltages of a phase in primary V, n samples from a, with 32 before and 32 after them. -/
def phaseVolts (s : State) (cfg : NrgCfg) (c p : Nat) (d : PhaseCycle) (a n : Nat) : List Frac :=
  (List.range (n + 64)).map (fun (k : Nat) =>
    r64 ((f32q (cfg.vRatio.getD p 0)).mul (inputAt s (voltOf c p) (cfg.vDelay.getD p 0) d.v ((a : Int) + (k : Int) - 32))))

/-- The samples of a phase's current input, n from a. -/
def phaseAmps (s : State) (cfg : NrgCfg) (c p : Nat) (d : PhaseCycle) (a n : Nat) : List Frac :=
  (List.range n).map (fun (k : Nat) => inputAt s (6 + currOf c p) (cfg.iDelay.getD p 0) d.i ((a : Int) + (k : Int)))

/-- Whether a reading of an input lies beyond where it clips. -/
def inputClips (s : State) (k : Nat) (x : InputStream) (a n : Nat) : Bool :=
  (List.range n).any (fun (j : Nat) => (clipAt k).lt (readingAt s k x ((a : Int) + (j : Int))).abs)

/-- A phase's energies and rms values over the n samples of a cycle from a (R207). -/
def phaseResult (s : State) (cfg : NrgCfg) (st : Frac × Frac) (c p : Nat) (d : PhaseCycle) (a n : Nat) : PhaseResult :=
  let w := phaseVolts s cfg c p d a n
  let v := (w.drop 32).take n
  let ir := currents (cfg.iKind.getD p 0) (f32q (cfg.iRatio.getD p 0)) (s.rd Od.nrg_freq_nom) st (phaseAmps s cfg c p d a n)
  let rms (l : List Frac) : Frac := if n = 0 then ⟨0, 1⟩ else sqrt64 (r64 ((dot l l).div ⟨n, 1⟩))
  let ts : Frac := ⟨1, 16000⟩
  { ep := r64 (ts.mul (dot v ir.1)), eq := r64 (ts.mul (dot (hilbert n w) ir.1)), v := rms v, i := rms ir.1, integ := ir.2, vs := v, is := ir.1
    clip := inputClips s (voltOf c p) d.v a n || inputClips s (6 + currOf c p) d.i a n
    vDead := inputDead s (voltOf c p), iDead := inputDead s (6 + currOf c p) }

/-- Whether a phase passes the no-load rule (R208). A phase without a converter has no energy to add (R198, log entry 48). -/
def phaseLoaded (cfg : NrgCfg) (r : PhaseResult) : Bool :=
  !r.vDead && !r.iDead && ((Frac.mk cfg.noload 100000).mul (f32q cfg.ibase)).le r.i

/-- An energy in W·s as a whole number of 2⁻³² µWh, without its sign (R207, R211). -/
def energyUnits (e : Frac) : Nat := ((e.abs.mul ⟨1000000 * 2 ^ 32, 3600⟩).round).toNat

/-! ## Accumulators and pulses (R209, R211, R212, R217) -/

/-- An accumulator takes an increment; the answer also says by how much its whole part changed. -/
def accAdd (s : State) (m q units : Nat) : State × Nat :=
  let e := m * 6 + q
  let t := tabGet 0 e s.mer.nrgFrac + units
  let whole := t / 2 ^ 32
  ({ s.wr Od.nrg_acc (s.rd Od.nrg_acc e + whole) e with mer := { s.mer with nrgFrac := tabPut e (t % 2 ^ 32) s.mer.nrgFrac } }, whole)

/-- Pulse outputs assigned to a meter spill at its cycle end; `inc` is what each quantity's accumulator rose by (R217). -/
def spill (s : State) (m : Nat) (inc : Nat → Nat) : State :=
  (List.range (s.perVariant 8 4)).foldl (fun t o =>
    let k := s.rd Od.nrg_pulse_const m
    let src := t.rd Od.nrg_pulse_src o
    if src / 256 = m ∧ src ≠ 0xFFFF ∧ k ≠ 0 then
      let r := t.rd Od.nrg_pulse_rem o + inc (src % 256)
      let n := r / (1000 * k)
      (t.wr Od.nrg_pulse_rem (r - n * 1000 * k) o).wr Od.nrg_pulse_backlog (t.rd Od.nrg_pulse_backlog o + n) o
    else t) s

/-- A meter's active and reactive quantity take their increments and spill them. -/
def meterAdd (s : State) (m pq p qq q : Nat) : State :=
  let r1 := accAdd s m pq p
  let r2 := accAdd r1.1 m qq q
  spill r2.1 m (fun k => if k = pq then r1.2 else if k = qq then r2.2 else 0)

/-- The reactive quantity of the signs of a cycle's net energies, a zero counted as positive (R202, R209). -/
def quadrant (p q : Frac) : Nat :=
  if 0 ≤ q.num then (if 0 ≤ p.num then 2 else 3) else (if 0 ≤ p.num then 5 else 4)

/-- A cycle's net energies accumulate on the circuit and on its sums (R209, R212). -/
def accumulate (s : State) (meters : List Nat) (p q : Frac) : State :=
  meters.foldl (fun t m => meterAdd t m (if 0 ≤ p.num then 0 else 1) (energyUnits p) (quadrant p q) (energyUnits q)) s

/-- A cycle that adds nothing ends for its meters all the same (R217). -/
def spillNothing (s : State) (meters : List Nat) : State := meters.foldl (fun t m => spill t m (fun _ => 0)) s

/-- The direction state of a circuit after a cycle with load (R210). -/
def reversal (s : State) (c : Nat) (negative : Bool) : State :=
  let dir := s.rd Od.nrg_dir c
  let putRun (t : State) (n : Nat) : State := { t with mer := { t.mer with nrgRun := tabPut c n t.mer.nrgRun } }
  if b2n negative = dir then putRun s 0
  else
    let n := tabGet 0 c s.mer.nrgRun + 1
    if s.rd Od.nrg_rev_cycles c ≤ n then
      nrgEvent (putRun ((s.wr Od.nrg_dir (1 - dir) c).count Od.nrg_reversals c) 0) 1 c dir (1 - dir)
    else putRun s n

/-! ## Pulse constants (R216) -/

/-- Whether a record has a pulse constant of a meter waiting. -/
def constWaits (m : Nat) (r : LedgerRec) : Bool :=
  (r.kind == 3 || r.kind == 1) && !r.specDone && r.writes.any (fun w => w.index == Od.nrg_pulse_const && w.elem == m)

/-- A record's waiting constant of a meter is taken out. -/
def constTaken (m : Nat) (r : LedgerRec) : LedgerRec :=
  let ws := r.writes.filter (fun w => !(w.index == Od.nrg_pulse_const && w.elem == m))
  { r with writes := ws, specDone := !ws.any (fun w => w.index == Od.nrg_pulse_const || w.index == Od.lft_call) }

/-- The version of an index rises by one (R92). -/
def raiseVersion (s : State) (i : Nat) : State :=
  { s with txn := { s.txn with versions := tabPut i ((tabGet 0 i s.txn.versions + 1) % 2 ^ 32) s.txn.versions } }

/-- Accepted constants of a meter take effect at its cycle end, in order of acceptance, and are stamped. -/
def constsDue (s : State) (m : Nat) : State :=
  s.mer.recs.foldl (fun t r =>
    if s.sys.replayTo.isNone ∧ constWaits m r then
      let v := match (r.writes.filter (fun w => w.index == Od.nrg_pulse_const && w.elem == m)).getLast? with
        | some w => w.value
        | none => 0
      let t1 := raiseVersion ((t.wr Od.nrg_pulse_const v m).wr Od.nrg_pulse_stamp r.seq m) Od.nrg_pulse_const
      { t1 with mer := { t1.mer with recs := t1.mer.recs.map (fun x => if x.seq = r.seq then constTaken m x else x) } }
    else t) s

/-! ## Windows (R207) -/

/-- A binary64 word of a fraction. -/
def w64 (q : Frac) : Nat := fmt64.ofFrac q

/-- Two lists of binary64 words added. -/
def addWords (a b : List Nat) : List Nat := (a.zip b).map (fun x => w64 ((fmt64.frac x.1).add (fmt64.frac x.2)))

/-- The net active power of a circuit: the sum of its phases, NaN where one has none. -/
def netPower (s : State) (c : Nat) : Nat :=
  let ps := (List.range 3).map (fun p => s.rd Od.nrg_p (currOf c p))
  if ps.any isNaN32 then f32NaN else qf32 (ps.foldl (fun a w => a.add (f32q w)) ⟨0, 1⟩)

/-- Per-phase values are averaged over 10 cycles at 50 Hz or 12 at 60 Hz, and shown at the window's end; NaN where an input had no converter
(R198). A disabled circuit adds to no sum (R223). -/
def windowEnd (s : State) (c : Nat) (w : NrgWin) : State :=
  let n : Frac := ⟨w.cycles, 1⟩
  let avg (l : List Nat) (bad : Bool) (p : Nat) : Nat := if bad then f32NaN else qf32 ((fmt64.frac (l.getD p 0)).div n)
  let s1 := (List.range 3).foldl (fun t p =>
    let vb := w.vBad.getD p false
    let ib := w.iBad.getD p false
    (((t.wr Od.nrg_p (avg w.p (vb || ib) p) (currOf c p)).wr Od.nrg_q (avg w.q (vb || ib) p) (currOf c p)).wr Od.nrg_irms (avg w.i ib p) (currOf c p)).wr
      Od.nrg_vrms (avg w.v vb p) (voltOf c p)) s
  let s2 := (s1.wr Od.nrg_freq (qf32 ((fmt64.frac w.f).div n)) (c / 4)).wr Od.nrg_pnet (netPower s1 c) c
  (List.range 4).foldl (fun t k =>
    if t.rdBit Od.nrg_sum_mask c k then
      t.wrQ Od.nrg_pnet ((List.range (circuitCount t)).foldl (fun a j =>
        if t.rd Od.nrg_enable j = 1 ∧ t.rdBit Od.nrg_sum_mask j k ∧ finite32 (t.rd Od.nrg_pnet j) then a.add (f32q (t.rd Od.nrg_pnet j)) else a) (Frac.ofInt 0)) (8 + k)
    else t) s2

/-- The flags of two lists joined. -/
def orFlags (a b : List Bool) : List Bool := (a.zip b).map (fun x => x.1 || x.2)

/-- A cycle's values join the window; the period is in 1/3,072 sample. -/
def windowAdd (s : State) (c period : Nat) (rs : List (PhaseResult × Bool)) : State :=
  let zero : NrgWin := ⟨0, [0, 0, 0], [0, 0, 0], [0, 0, 0], [0, 0, 0], 0, [false, false, false], [false, false, false]⟩
  let w := tabGet zero c s.nrg.win
  let dur : Frac := ⟨period, 49152000⟩
  let part (f : PhaseResult → Frac) (loadOnly : Bool) (r : PhaseResult × Bool) : Nat := if loadOnly ∧ !r.2 then 0 else w64 (f r.1)
  let w1 : NrgWin :=
    ⟨w.cycles + 1,
      addWords w.p (rs.map (part (fun r => r.ep.div dur) true)),
      addWords w.q (rs.map (part (fun r => r.eq.div dur) true)),
      addWords w.v (rs.map (part (·.v) false)), addWords w.i (rs.map (part (·.i) false)),
      w64 ((fmt64.frac w.f).add (Frac.div ⟨49152000, 1⟩ ⟨period, 1⟩)),
      orFlags w.vBad (rs.map (·.1.vDead)), orFlags w.iBad (rs.map (·.1.iDead))⟩
  let need := if s.rd Od.nrg_freq_nom = 60 then 12 else 10
  if need ≤ w1.cycles then
    let s1 := windowEnd s c w1
    { s1 with nrg := { s1.nrg with win := tabDel c s1.nrg.win } }
  else { s with nrg := { s.nrg with win := tabPut c w1 s.nrg.win } }

/-! ## Waveform capture (R220) -/

/-- A capture is complete: header and samples are sent, or the transfer fails where the stream does not run. -/
def captureSend (s : State) (x : Capture) : State :=
  let s1 := { s with nrg := { s.nrg with cap := none } }
  let head := [x.circuit, 0, 0, 0] ++ beBytes 4 (x.words.length / 6) ++ beBytes 8 x.time ++ List.replicate 16 0
  if bspUp s then bspStart (s1.wr Od.nrg_cap_transfer (s1.nextXfer % 65536)) 1 (head ++ valsData 4 x.words) else s1.wr Od.nrg_cap_state 3

/-- The words of a cycle's samples: for each, V L1 to L3 and then I L1 to L3 as F32. -/
def captureWords (n : Nat) (rs : List PhaseResult) : List Nat :=
  (List.range n).flatMap (fun k => rs.map (fun r => qf32 (r.vs.getD k ⟨0, 1⟩)) ++ rs.map (fun r => qf32 (r.is.getD k ⟨0, 1⟩)))

/-- A capture takes a cycle of its circuit whose first sample, a, is not before its own; the time of its first sample is that of the first it takes. -/
def captureTake (s : State) (c a n : Nat) (rs : List PhaseResult) : State :=
  match s.nrg.cap with
  | none => s
  | some x =>
    if s.rd Od.nrg_cap_state ≠ 2 then { s with nrg := { s.nrg with cap := none } }
    else if x.circuit = c ∧ x.first ≤ a then
      let y : Capture := { x with
        left := x.left - 1, words := x.words ++ captureWords n rs, time := if x.words = [] then a * 62500 % 2 ^ 64 else x.time }
      if y.left = 0 then captureSend s y else { s with nrg := { s.nrg with cap := some y } }
    else s

/-! ## Line cycles -/

/-- Whether a crossing spacing, in 1/3,072 sample, is that of 45 to 65 Hz. -/
def inLineRange (period : Nat) : Bool := decide (period * 45 ≤ 49152000) && decide (49152000 ≤ period * 65)

/-- The results of the three phases of a cycle of n samples from a, and whether each passes the no-load rule. -/
def cycleResults (s : State) (d : LineCycle) (a n : Nat) : List (PhaseResult × Bool) :=
  let cfg := nrgCfg s d.circuit
  (List.range 3).map (fun p =>
    let st := tabGet (0, 0) (currOf d.circuit p) s.nrg.integ
    let r := phaseResult s cfg (fmt64.frac st.1, fmt64.frac st.2) d.circuit p (d.phases.getD p ⟨⟨0, [], []⟩, ⟨0, [], []⟩, none⟩) a n
    (r, phaseLoaded cfg r))

/-- The net of one energy over the phases that pass. -/
def netOf (f : PhaseResult → Frac) (rs : List (PhaseResult × Bool)) : Frac :=
  rs.foldl (fun a r => if r.2 then r64 (a.add (f r.1)) else a) ⟨0, 1⟩

/-- Voltage-loss of a phase clears after two crossings at a valid spacing (R206). -/
def clearLoss (s : State) (v : Nat) (spacing : Option Nat) : State :=
  match spacing with
  | some k => if s.rd Od.nrg_vloss v = 1 ∧ inLineRange (3 * k) then nrgEvent (s.wr Od.nrg_vloss 0 v) 2 v 1 0 else s
  | none => s

/-- A phase's cycle, none where the command gives none. -/
def phaseOf (d : LineCycle) (p : Nat) : PhaseCycle := d.phases.getD p ⟨⟨0, [], []⟩, ⟨0, [], []⟩, none⟩

/-- What the next cycle of a circuit needs: the integrators, the readings that may fill a gap (R198), and the configuration in force (R222). -/
def cycleKept (s : State) (d : LineCycle) (a n : Nat) (rs : List (PhaseResult × Bool)) : State :=
  let c := d.circuit
  let words (k : Nat) (x : InputStream) : Nat × List Nat := (a, (List.range n).map (fun (j : Nat) => w64 (readingAt s k x ((a : Int) + (j : Int)))))
  let integ := (List.range 3).foldl (fun m k =>
    match rs[k]? with
    | some r => tabPut (currOf c k) (w64 r.1.integ.1, w64 r.1.integ.2) m
    | none => m) s.nrg.integ
  let kept (k : Nat) (x : InputStream) (m : Tab (List (Nat × List Nat))) : Tab (List (Nat × List Nat)) :=
    tabPut k ((words k x :: (tabGet [] k m).filter (fun e => e.1 != a)).take 3) m
  let prev := (List.range 3).foldl (fun m k => kept (6 + currOf c k) (phaseOf d k).i (kept (voltOf c k) (phaseOf d k).v m)) s.nrg.prev
  { s with nrg := { s.nrg with cfg := tabPut c (nrgCfgNow s c) s.nrg.cfg, integ := integ, prev := prev } }

/-- The energies of a cycle, and its end for the meters it counts in (R208 to R212, R216, R217). -/
def cycleEnergy (s : State) (c : Nat) (rs : List (PhaseResult × Bool)) : State :=
  let cfg := nrgCfg s c
  let p := netOf (·.ep) rs
  let loaded := rs.any (·.2)
  let meters := c :: cfg.sums.map (· + 8)
  let s1 := if cfg.enable ∧ loaded then reversal (accumulate s meters p (netOf (·.eq) rs)) c (decide (p.num < 0)) else spillNothing s meters
  meters.foldl constsDue s1

/-- A complete line cycle of a circuit from instant `a` to instant `b`, in 1/3,072 sample (R205 to R212, R216, R217). FREQ stands for a timed
cycle and for a spacing of crossings outside 45 to 65 Hz; a cycle that a change of reference ends shows no spacing. -/
def lineCycle (timed sameRef : Bool) (d : LineCycle) (a b : Nat) (s : State) : State :=
  let c := d.circuit
  let first := samplesFrom a
  let n := samplesFrom b - first
  let rs := cycleResults s d first n
  let s2 := cycleEnergy s c rs
  let freq := if timed then true else if sameRef then !inLineRange (b - a) else s.rdBit Od.nrg_status 3 c
  let s3 := ((s2.wrBit Od.nrg_status 0 (!(rs.any (·.2))) c).wrBit Od.nrg_status 3 freq c).wrBit Od.nrg_status 6 (rs.any (·.1.clip)) c
  let s4 := captureTake (windowAdd s3 c (b - a) rs) c first n (rs.map (·.1))
  let s5 := (List.range 3).foldl (fun t k => clearLoss t (voltOf c k) (phaseOf d k).spacing) s4
  cycleKept s5 d first n rs

/-- The reference phase of a circuit's voltage group: L1, under its voltage-loss L2, under that too L3 (R205). -/
def refPhase (s : State) (c : Nat) : Option Nat := (List.range 3).find? (fun p => s.rd Od.nrg_vloss (voltOf c p) == 0)

/-- The instant of a crossing in 1/3,072 sample, interpolated to 1/1,024 sample (R205). -/
def crossingAt (x : Crossing) : Nat :=
  let f := ((Frac.mk 0 1).sub (f32q x.before)).mul ⟨1024, 1⟩ |>.div ((f32q x.after).sub (f32q x.before))
  ((x.sample - 1) * 1024 + f.floor.toNat) * 3

/-- Whether the values are a positive-going crossing, with the hysteresis of 2 % of full scale (R205). -/
def isCrossing (x : Crossing) : Bool :=
  finite32 x.low && finite32 x.before && finite32 x.after && decide (1 ≤ x.sample) &&
    (f32q x.low).le ⟨-18, 1000⟩ && (f32q x.before).lt ⟨0, 1⟩ && (Frac.mk 0 1).le (f32q x.after)

/-- The cycle in progress of a circuit. -/
def cycleOf (s : State) (c : Nat) : Option CycleRef := (s.nrg.ref.find? (fun p => p.1 == c)).map (·.2)

/-- A cycle of a circuit begins. -/
def cycleBegins (s : State) (c phase at_ : Nat) : State :=
  { s with nrg := { s.nrg with ref := tabPut c ⟨phase, at_⟩ s.nrg.ref, cfg := tabPut c (nrgCfgNow s c) s.nrg.cfg } }

/-- LINE_CYCLE_END (R205, R207): a crossing of the group's reference ends the cycle in progress and begins the next; the first one after a start
only begins a cycle. -/
def lineCycleEnd (x : Crossing) (d : LineCycle) (s : State) : State :=
  let c := d.circuit
  if running s ∧ c < circuitCount s ∧ refPhase s c = some x.phase ∧ isCrossing x then
    match cycleOf s c with
    | none => cycleBegins s c x.phase (crossingAt x)
    | some r =>
      if r.start < crossingAt x then cycleBegins (lineCycle false (r.phase == x.phase) d r.start (crossingAt x) s) c x.phase (crossingAt x) else s
  else s

/-- The nominal period in 1/3,072 sample (R205). -/
def nominalPeriod (s : State) : Nat := 49152000 / s.rd Od.nrg_freq_nom

/-- TIMED_LINE_CYCLE_END (R205): only while every phase of the group has voltage-loss; timed from the last crossing, or, without one, from
the beginning of metering. -/
def timedLineCycleEnd (d : LineCycle) (s : State) : State :=
  let c := d.circuit
  if running s ∧ c < circuitCount s ∧ refPhase s c = none then
    let r := (cycleOf s c).getD ⟨0, 0⟩
    let stop := r.start + nominalPeriod s
    cycleBegins (lineCycle true false d r.start stop s) c r.phase stop
  else s

/-- The partial cycle in progress at the freeze, up to sample `stop`, added by its own sign (R211, R222). -/
def partialCycle (s : State) (stop : Nat) (d : LineCycle) : State :=
  let cfg := nrgCfg s d.circuit
  match cycleOf s d.circuit with
  | none => s
  | some r =>
    let first := samplesFrom r.start
    let rs := cycleResults s d first (stop - first)
    if circuitCount s ≤ d.circuit ∨ !cfg.enable ∨ !rs.any (·.2) then s
    else accumulate s (d.circuit :: cfg.sums.map (· + 8)) (netOf (·.ep) rs) (netOf (·.eq) rs)

/-- VOLTAGE_LOSS (R206). -/
def voltageLoss (v : Nat) (s : State) : State :=
  if running s ∧ v < s.perVariant 6 3 ∧ s.rd Od.nrg_vloss v = 0 then nrgEvent (s.wr Od.nrg_vloss 1 v) 2 v 0 1 else s

/-- The interval that ends at t is closed with each meter's increments since the last boundary, or with none where it lies in an unmetered span as a whole. -/
def closeInterval (s : State) (t : Nat) (metered : Bool) : State :=
  let s1 := (List.range 72).foldl (fun u e =>
    let acc := u.rd Od.nrg_acc e
    let last := if metered then (acc + 2 ^ 64 - tabGet 0 e u.mer.nrgBase) % 2 ^ 64 else 0
    if acc = 0 ∧ u.rd Od.nrg_int_last e = 0 then u
    else { u.wr Od.nrg_int_last last e with mer := { u.mer with nrgBase := tabPut e acc u.mer.nrgBase } }) s
  s1.wr Od.nrg_int_end t

/-- INTERVAL_BOUNDARY (R214): at a whole multiple of the period. -/
def intervalBoundary (t : Nat) (s : State) : State :=
  if powered s ∧ t % (s.rd Od.nrg_int_period * 1000000000) = 0 then closeInterval s t true else s

/-- The last interval boundary within the `span` seconds before now, which no one has closed, is closed when metering resumes (R222): its interval holds what
was metered before the span, where it began before it (log entry 202). -/
def closeMissed (s : State) (span : Nat) : State :=
  let p := s.rd Od.nrg_int_period * 1000000000
  let b := s.now / p * p
  let stop := s.now - span * 1000000000
  if stop < b ∧ s.rd Od.nrg_int_end < b then closeInterval s b (decide (b - p < stop)) else s

/-! ## Pulse outputs (R218) -/

/-- PULSE_START (R218). -/
def pulseStart (o : Nat) (s : State) : State :=
  if running s ∧ o < s.perVariant 8 4 ∧ s.rd Od.nrg_pulse_backlog o ≠ 0 ∧ !s.nrg.closed.contains o then
    { s with nrg := { s.nrg with closed := o :: s.nrg.closed } }
  else s

/-- PULSE_END (R218). -/
def pulseEnd (o : Nat) (s : State) : State :=
  if s.nrg.closed.contains o then
    let s1 := { s with nrg := { s.nrg with closed := s.nrg.closed.filter (· != o) } }
    (s1.countMod Od.nrg_pulse_count o).wr Od.nrg_pulse_backlog (s.rd Od.nrg_pulse_backlog o - 1) o
  else s

/-! ## Views (R213, R225) -/

/-- P_max of a circuit in W: half the product of the full-scale peaks of each phase (R203, R213). -/
def circuitPmax (s : State) (c : Nat) : Frac :=
  (List.range 3).foldl (fun a p => (a.add (((Frac.mk 9 10).mul (s.rdQ Od.nrg_v_ratio (voltOf c p))).mul
    ((Frac.mk 1 4).mul (s.rdQ Od.nrg_i_ratio (currOf c p))))).reduce) ⟨0, 1⟩

/-- P_max of a meter (R213). -/
def meterPmax (s : State) (m : Nat) : Frac :=
  if m < 8 then (if m < circuitCount s then circuitPmax s m else ⟨0, 1⟩)
  else (List.range (circuitCount s)).foldl (fun a c =>
    if s.rdBit Od.nrg_sum_mask c (m - 8) then (a.add (circuitPmax s c)).reduce else a) ⟨0, 1⟩

/-- `nrg_max_read` (R213, R223). -/
def maxRead (s : State) (m : Nat) : Nat :=
  let p := meterPmax s m
  if p.num ≤ 0 then 0xFFFFFFFF else min 0xFFFFFFFF ((Frac.div ⟨2 ^ 32 * 3600, 1⟩ p).floor).toNat

/-- `nrg_view` and `nrg_wrap` of an accumulator (R213). -/
def nrgView (s : State) (e : Nat) : Nat := s.rd Od.nrg_acc e / 1000000 % 2 ^ 32
def nrgWrap (s : State) (e : Nat) : Nat := s.rd Od.nrg_acc e / (1000000 * 2 ^ 32) % 2 ^ 32

/-- `nrg_status`, with the bits that follow from other state (R199, R225). -/
def nrgStatus (s : State) (c : Nat) : Nat :=
  let inputs := (List.range 3).flatMap (fun p => [voltBank (voltOf c p), currBank (currOf c p)])
  let held := calHold s (4 + c / 4)
  let lost := held && inputs.any (fun x => decide (8 * 86400 ≤ calAge s x.1 x.2))
  let vloss := (List.range 3).any (fun p => s.rd Od.nrg_vloss (voltOf c p) == 1)
  s.rd Od.nrg_status c ||| (2 * s.rd Od.nrg_dir c) ||| (4 * b2n vloss) ||| (16 * b2n held) ||| (32 * b2n lost)

/-! ## Capture (R220) -/

/-- CAPTURE_START (R220): at the next crossing of the group's reference after the write, whose cycle begins with sample `first`: the cycle in progress at the
write, and any before it, is not captured. -/
def captureStart (first : Nat) (s : State) : State :=
  if running s ∧ s.rd Od.nrg_cap_state = 1 ∧ s.nrg.capFrom ≤ first then
    { s.wr Od.nrg_cap_state 2 with nrg := { s.nrg with cap := some ⟨s.nrg.capCircuit, s.rd Od.nrg_cap_cycles, s.nrg.capFrom, s.now, []⟩ } }
  else s

/-- CAPTURE_COMPLETE (R220). -/
def captureComplete (failed : Bool) (s : State) : State :=
  if s.rd Od.nrg_cap_state = 2 ∧ s.nrg.cap = none then bspDrop (s.wr Od.nrg_cap_state (if failed then 3 else 0)) 1 else s

/-! ## Metered spans (R221) -/

/-- Metering stops. -/
def meteringStops (s : State) : State :=
  let s1 := if s.mer.meterStop = none then { s with mer := { s.mer with meterStop := some (s.rd Od.rtc_seconds) } } else s
  { s1 with nrg := { s1.nrg with closed := [] } }

/-- Metering resumes: the span is added to `nrg_unmetered` with an event; a span the RTC lost cannot be measured (log entry 26). An interval boundary within
the span has closed its interval (R222). -/
def meteringResumes (s : State) : State :=
  match s.mer.meterStop with
  | none => s
  | some t =>
    let lost := decide (s.rd Od.rtc_lost = 1) || decide (s.rd Od.rtc_seconds < t)
    let span := if lost then s.freeVal % 2 ^ 32 else s.rd Od.rtc_seconds - t
    let s1 := if lost then s.tookFree else s
    let s2 := { s1.count Od.nrg_unmetered 0 span with mer := { s1.mer with meterStop := none } }
    nrgEvent (if lost then s2 else closeMissed s2 span) 3 0xFF 0 span

/-! ## Entries -/

/-- Whether a meter's constant and one output's width pass the pulse-rate limit of R216. -/
def pulseRateOk (s : State) (m const width : Nat) : Bool :=
  const == 0 || ((meterPmax s m).mul ⟨1000, 3600 * const⟩).le ⟨400, width⟩

/-- The constants of a meter that accepted work has waiting for its cycle end. -/
def constsWaiting (s : State) (m : Nat) : List Nat :=
  (s.mer.recs.filter (constWaits m)).flatMap (fun r => (r.writes.filter (fun w => w.index == Od.nrg_pulse_const && w.elem == m)).map (·.value))

/-- Whether every output assigned to a meter passes, with a given constant. -/
def meterRateOk (s : State) (m const : Nat) : Bool :=
  (List.range (s.perVariant 8 4)).all (fun o =>
    s.rd Od.nrg_pulse_src o / 256 != m || s.rd Od.nrg_pulse_src o == 0xFFFF || pulseRateOk s m const (s.rd Od.nrg_pulse_width o))

/-- Whether a pulse assignment names a meter and a quantity (R226). -/
def pulseSrcOk (v : Nat) : Bool := v == 0xFFFF || (decide (v / 256 ≤ 11) && decide (v % 256 ≤ 5))

/-- The chapter's own refusals (R214, R216, R220). A constant that is part of a transaction is judged with all that the commit leaves; a
capture that is accepted and waits for its tick runs. -/
def nrgExtra (s : State) (replayed staged : Bool) (i e v : Nat) : Extra :=
  if i = Od.nrg_pulse_const then { range := !staged && !meterRateOk s e v }
  else if i = Od.nrg_int_period then { range := v != 0 && 3600 % v != 0 }
  else if i = Od.nrg_pulse_src then { range := !pulseSrcOk v }
  else if i = Od.nrg_cap_circuit then
    { denied := !bspMayRead s 0x2420
      mode := !bspUp s
      range := decide (circuitCount s ≤ v)
      late := if s.rd Od.nrg_cap_state = 1 ∨ s.rd Od.nrg_cap_state = 2 ∨ (!replayed ∧ awaits s i e) then .busyRetry else .ok }
  else {}

/-- The checks of R215 and R216 on what a commit leaves, with the constants that wait for their cycle end. -/
def nrgLeaves (s : State) : Bool :=
  (List.range (circuitCount s)).all (fun c => (List.range 3).all (fun p =>
    let ifs := (Frac.mk 1 2).mul (s.rdQ Od.nrg_i_ratio (currOf c p))
    let need := (Frac.mk 12 10).mul (s.rdQ Od.nrg_ibase c)
    ((need.mul need).mul ⟨2, 1⟩).le (ifs.mul ifs))) &&
  (List.range 12).all (fun m => (s.rd Od.nrg_pulse_const m :: constsWaiting s m).all (meterRateOk s m))

/-- The entries whose change is an event with the old and new values (R222). -/
def nrgLogged (i : Nat) : Bool :=
  i == Od.nrg_v_ratio || i == Od.nrg_i_ratio || i == Od.nrg_delay || i == Od.nrg_ibase || i == Od.nrg_noload

/-- The events of a commit that touched energy entries (R222). -/
def nrgCommitted (old s : State) (touched : List (Nat × Nat)) : State :=
  touched.foldl (fun t x =>
    if nrgLogged x.1 ∧ old.rd x.1 x.2 ≠ s.rd x.1 x.2 then nrgEvent t (4 + x.1 % 256) x.2 (old.rd x.1 x.2) (s.rd x.1 x.2) else t) s

/-- An applied write of an energy entry (R217, R219, R220). -/
def nrgApply (s : State) (i e v : Nat) : Option State :=
  if i = Od.nrg_pulse_src then
    some (if s.rd i e = v then s
      else ((s.wr i v e).wr Od.nrg_pulse_rem 0 e) |> (fun t => blockEvent t 0x05 5 e 0 false (pay [(1, 5), (8, s.rd Od.nrg_pulse_rem e)])))
  else if i = Od.nrg_vbat_clear then some (if s.rd Od.nrg_vbat_gen = v then s.wr Od.nrg_first_vbat 0 else s)
  else if i = Od.nrg_cap_circuit then
    let from_ := match cycleOf s v with
      | some r => samplesFrom r.start + 1
      | none => 0
    some { s.wr Od.nrg_cap_state 1 with nrg := { s.nrg with capCircuit := v, capFrom := from_ } }
  else none

end Sys2Proof.Machine
end

