-- ==== Sys2Proof/Machine/Control.lean ====
section
/-!
DEFINITION. The control-law engine: cascades, modes of a loop, repetitive units and duplex operation (R227 to R250).
-/
namespace Sys2Proof.Machine

/-! ## Fixed-point arithmetic (R229, R230) -/

/-- A quotient rounded to nearest, ties away from zero. -/
def roundAway (num : Int) (den : Nat) : Int := (Frac.mk num den).round

/-- A value of the 48-bit signal format, and whether it was clamped. -/
def sigClamp (x : Int) : Int × Bool :=
  let y := clampInt (-(2 ^ 47)) (2 ^ 47 - 1) x
  (y, y != x)

/-- A value of the 56-bit accumulator, and whether it was clamped. -/
def accClamp (x : Int) : Int × Bool :=
  let y := clampInt (-(2 ^ 55)) (2 ^ 55 - 1) x
  (y, y != x)

/-- A product of a coefficient (2⁻²⁸) and a signal (2⁻⁴⁰) as it enters the accumulator (2⁻⁴⁸). -/
def accProd (c x : Int) : Int × Bool := accClamp (roundAway (c * x) (2 ^ 20))

/-- A sum in the accumulator. -/
def accSum (a b : Int × Bool) : Int × Bool :=
  let r := accClamp (a.1 + b.1)
  (r.1, a.2 || b.2 || r.2)

/-- An accumulator result rounded to the signal LSB. -/
def accOut (a : Int × Bool) : Int × Bool :=
  let r := sigClamp (roundAway a.1 (2 ^ 8))
  (r.1, a.2 || r.2)

/-- A signal as it stands in the accumulator. -/
def accOfSig (x : Int) : Int × Bool := (x * 2 ^ 8, false)

/-- The coefficients of a section: b0, b1, b2, a1, a2. -/
structure Biquad where
  b0 : Int
  b1 : Int
  b2 : Int
  a1 : Int
  a2 : Int
  deriving DecidableEq, Repr

/-- One section on one input (R230): output, new states, and whether anything clamped. -/
def biquad (k : Biquad) (s1 s2 x : Int) : Int × Int × Int × Bool :=
  let y := accOut (accSum (accProd k.b0 x) (accOfSig s1))
  let n1 := accOut (accSum (accSum (accProd k.b1 x) (accProd (-k.a1) y.1)) (accOfSig s2))
  let n2 := accOut (accSum (accProd k.b2 x) (accProd (-k.a2) y.1))
  (y.1, n1.1, n2.1, y.2 || n1.2 || n2.2)

/-- What a cascade yields: output, new states, each section's input, and whether anything clamped. -/
structure Cascade where
  out : Int
  s1 : List Int
  s2 : List Int
  ins : List Int
  sat : Bool

/-- Sections one after another. -/
def cascade : List Biquad → List Int → List Int → Int → Cascade
  | [], _, _, x => ⟨x, [], [], [], false⟩
  | k :: ks, s1, s2, x =>
    let r := biquad k (s1.headD 0) (s2.headD 0) x
    let t := cascade ks (s1.drop 1) (s2.drop 1) r.1
    ⟨t.out, r.2.1 :: t.s1, r.2.2.1 :: t.s2, x :: t.ins, r.2.2.2 || t.sat⟩

/-! ## Slots -/

/-- Repetitive units of the variant. -/
def repCount (s : State) : Nat := s.perVariant 64 16

/-- A slot's states. -/
def slotOf (s : State) (k : Nat) : LoopState := tabGet {} k s.ctl.slots

/-- A slot's states changed. -/
def putSlot (s : State) (k : Nat) (x : LoopState) : State := { s with ctl := { s.ctl with slots := tabPut k x s.ctl.slots } }

/-- The slots whose period is not 0. -/
def enabledSlots (s : State) : List Nat :=
  s.od.filterMap (fun c => if c.index = Od.ctl_period ∧ c.value ≠ 0 then some c.elem else none)

/-- A coefficient set from an index whose element is the first of five. -/
def biquadAt (s : State) (i e : Nat) : Biquad :=
  ⟨s.rdInt i e, s.rdInt i (e + 1), s.rdInt i (e + 2), s.rdInt i (e + 3), s.rdInt i (e + 4)⟩

/-- The sections of a slot. -/
def sectionsOf (s : State) (k : Nat) : List Biquad :=
  (List.range (s.rd Od.ctl_sections k)).map (fun j => biquadAt s Od.ctl_coef (k * 40 + j * 5))

/-- `ctl_mode` as it reads: 0 while the period is 0, `ctl_mode_init` until BOOT ends (R228, R248). -/
def loopMode (s : State) (k : Nat) : Nat :=
  if s.rd Od.ctl_period k = 0 then 0 else if s.mode = .boot then s.rd Od.ctl_mode_init k else s.rd Od.ctl_mode k

/-- `ctl_man_out` as it reads. -/
def loopManOut (s : State) (k : Nat) : Nat := if s.mode = .boot then s.rd Od.ctl_safe_out k else s.rd Od.ctl_man_out k

/-- `ctl_sp_eff`: the ramp's value while it runs, `ctl_sp` otherwise (R238). -/
def loopSpEff (s : State) (k : Nat) : Nat :=
  if s.rdBit Od.ctl_status 5 k then qf32 (fmt64.frac (slotOf s k).spEff) else s.rd Od.ctl_sp k

/-- A control event (R394): the instance is the low byte of the slot, the payload holds the whole number. -/
def ctlEvent (s : State) (tag slot sev : Nat) (set : Bool) : State := blockEvent s 0x06 tag (slot % 256) sev set (pay [(1, tag), (2, slot)])

/-! ## Process value (R227, R240) -/

/-- The numeric value of a raw element; `none` for a NaN or a type that is not numeric. -/
def numVal (t : Ty) (v : Nat) : Option Frac :=
  match t with
  | .f32 => if isNaN32 v then none else some (f32q v)
  | .s16 | .s32 | .s64 => some ⟨toInt (8 * t.size) v, 1⟩
  | .q3_28 => some ⟨toInt 32 v, 2 ^ 28⟩
  | .q16_16 => some ⟨toInt 32 v, 2 ^ 16⟩
  | .oct _ | .str _ => none
  | _ => some ⟨v, 1⟩

/-- The PV of a source in the committed image; `none` while it is faulted. -/
def loopPv (read : State → Nat → Nat → Nat) (s : State) (src : Nat) : Option Frac :=
  let i := src / 65536
  let e := src % 65536
  match entryDef? i with
  | none => none
  | some d =>
    if absent s.variant d e then none
    else if (i = Od.ana_meas ∨ i = Od.ana_value) ∧ anaFaulted s e then none
    else numVal d.ty (read s i e)

/-! ## Set-point (R238) -/

/-- The time of one sample period in s. -/
def periodSecs (s : State) (k : Nat) : Frac := ⟨s.rd Od.ctl_period k, 32000⟩

/-- SP_eff at an automatic sample: the new value and whether a ramp runs on. -/
def spAdvance (s : State) (k : Nat) (pv : Frac) : Frac × Bool :=
  let x := slotOf s k
  let sp := s.rdQ Od.ctl_sp k
  let rate := s.rdQ Od.ctl_ramp_rate k
  if rate.num = 0 then (sp, false)
  else if x.soft then (pv, !(pv.le sp && sp.le pv))
  else if !s.rdBit Od.ctl_status 5 k then (sp, false)
  else
    let cur := fmt64.frac x.spEff
    let step := r64 (rate.mul (periodSecs s k))
    let next := if cur.lt sp then Frac.min sp (r64 (cur.add step)) else Frac.max sp (r64 (cur.sub step))
    (next, !(next.le sp && sp.le next))

/-! ## Output conversion (R233) -/

/-- What output conversion yields. -/
structure OutConv where
  y0 : Frac
  y : Frac
  lo : Bool
  hi : Bool
  rate : Bool

/-- A normalised output (2⁻⁴⁰) converted, limited and rate-limited. -/
def outConv (s : State) (k : Nat) (v : Int) : OutConv :=
  let lo := s.rdQ Od.ctl_out_lo k
  let hi := s.rdQ Od.ctl_out_hi k
  let mn := s.rdQ Od.ctl_out_min k
  let mx := s.rdQ Od.ctl_out_max k
  let y0 := r64 (lo.add (r64 ((Frac.mk v (2 ^ 40)).mul (r64 (hi.sub lo)))))
  let y1 := Frac.clamp mn mx y0
  let rate := s.rdQ Od.ctl_rate_max k
  let prev := s.rdQ Od.ctl_out k
  let d := r64 (rate.mul (periodSecs s k))
  let y := if 0 < rate.num then Frac.clamp (r64 (prev.sub d)) (r64 (prev.add d)) y1 else y1
  ⟨y0, y, y0.lt mn, mx.lt y0, !(y.le y1 && y1.le y)⟩

/-- An output in normalised units. -/
def normOut (s : State) (k : Nat) (y : Frac) : Frac :=
  let lo := s.rdQ Od.ctl_out_lo k
  r64 ((r64 (y.sub lo)).div (r64 ((s.rdQ Od.ctl_out_hi k).sub lo)))

/-! ## The preset of R239 -/

/-- A binary64 value rounded to the state format. -/
def toSig (q : Frac) : Int := (sigClamp (roundAway (q.num * 2 ^ 40) q.den)).1

/-- The DC gain of a section. -/
def dcGain (k : Biquad) : Frac := r64 ((Frac.ofInt (k.b0 + k.b1 + k.b2)).div (Frac.ofInt (2 ^ 28 + k.a1 + k.a2)))

/-- A coefficient as a fraction. -/
def coefQ (c : Int) : Frac := ⟨c, 2 ^ 28⟩

/-- The states of the sections after the integrating one for a constant input. -/
def settled : List Biquad → Frac → List Int × List Int
  | [], _ => ([], [])
  | b :: bs, x =>
    let y := r64 (x.mul (dcGain b))
    let t := settled bs y
    (toSig (r64 (y.sub (r64 ((coefQ b.b0).mul x)))) :: t.1,
      toSig (r64 ((r64 ((coefQ b.b2).mul x)).sub (r64 ((coefQ b.a2).mul y)))) :: t.2)

/-- The preset states of a slot for a last manual output u and a first error e₀. -/
def preset (secs : List Biquad) (k : Nat) (u : Frac) (e0 : Int) : List Int × List Int :=
  let after := secs.drop (k + 1)
  let g := after.foldl (fun a b => r64 (a.mul (dcGain b))) ⟨1, 1⟩
  let xc := r64 (u.div g)
  let tail := settled after xc
  let zeros := List.replicate k (0 : Int)
  let a2 := match secs[k]? with
    | some b => b.a2
    | none => 0
  let s2 := zeros ++ toSig (r64 ((coefQ (-a2)).mul xc)) :: tail.2
  let beta := (cascade secs (zeros ++ 0 :: tail.1) s2 e0).out
  let alpha := after.foldl (fun a b => r64 (a.mul (coefQ b.b0))) ⟨1, 1⟩
  (zeros ++ toSig (r64 ((r64 (u.sub ⟨beta, 2 ^ 40⟩)).div alpha)) :: tail.1, s2)

/-! ## Repetitive units (R242, R243) -/

/-- The units attached to a slot. -/
def repsOf (s : State) (slot : Nat) : List Nat :=
  s.od.filterMap (fun c => if c.index = Od.ctl_rep_loop ∧ c.value = slot ∧ c.elem < repCount s then some c.elem else none)

/-- A unit's state, zeroed where a clear is due. -/
def repOf (s : State) (u : Nat) : RepUnit :=
  let x := tabGet {} u s.ctl.reps
  if x.clear then {} else x

/-- A memory word. -/
def repWord (x : RepUnit) (j : Nat) : Int := tabGet 0 j x.mem

/-- A unit at one automatic sample: its new state, and whether anything clamped. -/
def repSample (s : State) (u : Nat) (learn : Bool) (e : Int) : RepUnit × Bool :=
  let x := repOf s u
  let n := s.rd Od.ctl_rep_len u
  let j := (x.idx + n - s.rd Od.ctl_rep_lead u % n) % n
  let x1 : RepUnit × Bool :=
    if learn then
      let a := accOut (accSum (accOfSig (repWord x j)) (accProd (s.rdInt Od.ctl_rep_gain u) e))
      let q := biquad (biquadAt s Od.ctl_rep_q (u * 5)) x.q1 x.q2 a.1
      ({ x with mem := if q.1 = 0 then tabDel j x.mem else tabPut j q.1 x.mem, q1 := q.2.1, q2 := q.2.2.1 }, a.2 || q.2.2.2)
    else (x, false)
  ({ x1.1 with idx := (x.idx + 1) % n }, x1.2)

/-- A unit's new state stored; its index, and its peak at the end of a period. -/
def putRep (s : State) (u : Nat) (x : RepUnit) : State :=
  let s1 := { s with ctl := { s.ctl with reps := tabPut u x s.ctl.reps } }
  let s2 := s1.wr Od.ctl_rep_index x.idx u
  if x.idx = 0 then
    s2.wrQ Od.ctl_rep_peak ⟨x.mem.foldl (fun m p => max m p.2.natAbs) 0, 2 ^ 40⟩ u
  else s2

/-! ## The sample (R227) -/

/-- The status bits of a sample: SAT, INT_FROZEN, LIM_LO, LIM_HI, RATE_LIM, RAMPING, LEARN_FROZEN (R248). -/
def sampleBits (s : State) (k : Nat) (sat frozen lo hi rate ramp learn : Bool) : State :=
  s.wr Od.ctl_status (s.rd Od.ctl_status k / 128 * 128 +
    (b2n sat + 2 * b2n frozen + 4 * b2n lo + 8 * b2n hi + 16 * b2n rate + 32 * b2n ramp + 64 * b2n learn)) k

/-- A slot's output is delivered (R174, R227); in automatic `ctl_man_out` tracks it (R237). -/
def deliverLoop (s : State) (k y : Nat) : State := anaFromLoop ((s.wr Od.ctl_out y k).wr Od.ctl_man_out y k) k

/-- Lists of states cut or padded with zeros to n sections (R236). -/
def fitStates (n : Nat) (l : List Int) : List Int := l.take n ++ List.replicate (n - l.length) 0

/-- An automatic sample with a good PV (R227 to R233, R239, R242 to R244). -/
def autoSample (s : State) (k : Nat) (pv : Frac) (held : Bool) : State :=
  let x := slotOf s k
  let sp := spAdvance s k pv
  let d : Int := if s.rd Od.ctl_dir k = 0 then 1 else -1
  let eq := ((sp.1.sub pv).mul (Frac.ofInt d)).div (s.rdQ Od.ctl_pv_span k)
  let e := sigClamp (roundAway (eq.num * 2 ^ 40) eq.den)
  let secs := sectionsOf s k
  let n := secs.length
  let isec := s.rd Od.ctl_int_sec k
  let presets := x.transfer && decide (isec < n)
  let um := normOut s k (s.rdQ Od.ctl_out k)
  let st : List Int × List Int :=
    if presets then preset secs isec um e.1
    else if x.transfer then (List.replicate n 0, List.replicate n 0)
    else (fitStates n x.s1, fitStates n x.s2)
  let c : Cascade :=
    if n = 0 then
      let p := accOut (accProd (s.rdInt Od.ctl_gain k) e.1)
      ⟨p.1, [], [], [], p.2⟩
    else cascade secs st.1 st.2 e.1
  let units := repsOf s k
  let r := if x.transfer then 0 else units.foldl (fun a u => a + repWord (repOf s u) (repOf s u).idx) 0
  let v := sigClamp (c.out + r)
  let o := outConv s k v.1
  let limited := o.lo || o.hi || o.rate
  let yn := normOut s k o.y
  let gap := (Frac.mk v.1 (2 ^ 40)).sub yn
  let xk := c.ins.getD isec 0
  let freeze := !presets && decide (isec < n) && limited && (xk == 0 || decide (xk.sign = gap.num.sign))
  let keep (old new : List Int) : List Int := if freeze then modAt (fun _ => old.getD isec 0) isec new else new
  let clean := !x.transfer && !limited && !held
  let learns (u : Nat) : Bool := clean && s.rd Od.ctl_rep_learn u == 1
  let reps := units.map (fun u => (u, repSample s u (learns u) e.1))
  let sat := e.2 || c.sat || v.2 || reps.any (fun p => p.2.2)
  let frozenLearn := units.any (fun u => !learns u)
  let s1 := putSlot s k { x with
    s1 := keep st.1 c.s1, s2 := keep st.2 c.s2, transfer := false, soft := false, spEff := w64 sp.1 }
  let s2 := reps.foldl (fun t p => putRep t p.1 p.2.1) s1
  let s3 := sampleBits s2 k sat freeze o.lo o.hi o.rate sp.2 frozenLearn
  let s4 := if sat then s3.count Od.ctl_sat_count k else s3
  if held then s4 else deliverLoop s4 k (if presets then s.rd Od.ctl_out k else qf32 o.y)

/-- LEARN_FROZEN at a sample at which no attached unit learns (R243, R248). -/
def noLearning (s : State) (k : Nat) : State := s.wrBit Od.ctl_status 6 (!(repsOf s k).isEmpty) k

/-- The units of a slot whose clear is due are zeroed at its sample, whatever its mode (R243). -/
def clearReps (s : State) (k : Nat) : State :=
  (repsOf s k).foldl (fun t u => if (tabGet {} u t.ctl.reps).clear then putRep t u {} else t) s

/-- No section saturates, freezes or limits at a sample that computes nothing; a ramp stands where it is (R240, R248). -/
def restBits (s : State) (k : Nat) : State := noLearning (sampleBits s k false false false false false (s.rdBit Od.ctl_status 5 k) false) k

/-- A PV becomes faulted, or stays so (R240). A sample `held` for a mismatch delivers nothing (R244). -/
def faultedSample (s0 : State) (k : Nat) (held : Bool) : State :=
  let s := restBits s0 k
  let s1 := if s.rdBit Od.ctl_status 7 k then s else ctlEvent (s.wrBit Od.ctl_status 7 true k) 1 k 1 true
  if s1.rd Od.ctl_mode k ≠ 2 then s1
  else
    let x := slotOf s1 k
    match s1.rd Od.ctl_fault_act k with
    | 0 => putSlot s1 k { x with transfer := true, soft := true }
    | 1 =>
      let s2 := putSlot s1 k { x with transfer := true, soft := true }
      if held then s2 else deliverLoop s2 k (s1.rd Od.ctl_safe_out k)
    | _ => (s1.wr Od.ctl_mode 1 k).wr Od.ctl_man_out (s1.rd Od.ctl_out k) k

/-- A manual slot's sample: `ctl_man_out` within the limits (R237). -/
def manualSample (s : State) (k : Nat) (held : Bool) : State :=
  let mn := s.rdQ Od.ctl_out_min k
  let mx := s.rdQ Od.ctl_out_max k
  let y := s.rdQ Od.ctl_man_out k
  let s1 := noLearning (sampleBits s k false false (y.lt mn) (mx.lt y) false false false) k
  if held then s1 else anaFromLoop (s1.wrQ Od.ctl_out (Frac.clamp mn mx y) k) k

/-- An off slot's sample: nothing is computed, and no bit of a sample stands (R237). -/
def offSample (s : State) (k : Nat) (held : Bool) : State :=
  let s1 := noLearning (sampleBits s k false false false false false false false) k
  if held then s1 else anaFromLoop (s1.wr Od.ctl_out (s.rd Od.ctl_safe_out k) k) k

/-- A mismatch of the two instances (R244): it is counted and self-checks start. -/
def engineMismatch (s : State) : State := { s.count Od.ctl_mismatches with ctl := { s.ctl with checking := true } }

/-- Whether a slot samples now (R228): at a commit tick whose count on the fast timebase is a whole multiple of the period, and at each once. -/
def sampleDue (s : State) (k : Nat) : Bool :=
  let p := s.rd Od.ctl_period k
  p != 0 && s.now % (31250 * p) == 0 && (slotOf s k).last != some s.now

/-- A slot's sample by its mode (R227, R237, R240); `read` reads the committed image `from_`, in COMMISSION an automatic slot holds (R237), and nothing is
delivered of a sample `held` for a mismatch (R244). -/
def sampleOf (read : State → Nat → Nat → Nat) (from_ s : State) (k : Nat) (held : Bool) : State :=
  let m := s.rd Od.ctl_mode k
  if m = 0 then offSample s k held
  else if m = 2 ∧ s.mode = .commission then putSlot (restBits s k) k { slotOf s k with transfer := true, soft := true }
  else
    match loopPv read from_ (from_.rd Od.ctl_pv_src k) with
    | none =>
      let s1 := faultedSample (s.wr Od.ctl_pv f32NaN k) k held
      if m = 1 then manualSample s1 k held else s1
    | some pv =>
      let s0 := s.wrQ Od.ctl_pv pv k
      let s1 := if s0.rdBit Od.ctl_status 7 k then ctlEvent (s0.wrBit Od.ctl_status 7 false k) 1 k 0 false else s0
      if m = 1 then manualSample s1 k held else autoSample s1 k pv held

/-- LOOP_SAMPLE (R227, R228, R237, R240, R244). In SAFE_HOLD every slot is frozen (R241), and in a STANDBY entry the loops stop (R56). A mismatch of the two
instances is one of any slot's sample, whatever its mode. -/
def loopSample (read : State → Nat → Nat → Nat) (k : Nat) (mismatch : Bool) (from_ : State) : State :=
  if !running from_ ∨ entryOff from_ ∨ from_.mode = .safeHold ∨ loopCount from_ ≤ k ∨ !sampleDue from_ k ∨ from_.rd Od.ctl_instance = 4 then from_
  else
    let s := clearReps (putSlot from_ k { slotOf from_ k with last := some from_.now }) k
    let held := mismatch && s.rd Od.ctl_instance == 0
    let t := sampleOf read from_ s k held
    if held then engineMismatch t else t

/-! ## Duplex operation (R244 to R246) -/

/-- An instance has failed: its bit is set and the other runs alone; with both failed none runs. -/
def engineFailed (s : State) (a b : Bool) : State :=
  let s1 := if a then raiseFault s bitEngineA else s
  let s2 := if b then raiseFault s1 bitEngineB else s1
  let fa := s2.rdBit Od.sys_health bitEngineA
  let fb := s2.rdBit Od.sys_health bitEngineB
  s2.wr Od.ctl_instance (if fa && fb then 4 else if fa then 2 else if fb then 1 else 0)

/-- The verdict of the self-checks (R245): the state, and whether both instances are lost. -/
def selfCheck (a b agree : Bool) (s : State) : State × Bool :=
  if !s.ctl.checking then (s, false)
  else
    let s1 := { s with ctl := { s.ctl with checking := false } }
    let duplex := s.rd Od.ctl_instance == 0
    let aOk := a && s.rd Od.ctl_instance != 2
    let bOk := b && s.rd Od.ctl_instance != 1
    if aOk && bOk then
      if agree || !duplex then (s1.count Od.ctl_transients, false) else (engineFailed s1 true true, true)
    else if aOk then (engineFailed s1 false true, false)
    else if bOk then (engineFailed s1 true false, false)
    else (engineFailed s1 true true, true)

/-- A retest of an instance passes while the other runs (R246). -/
def engineRetested (s : State) : State := if s.rd Od.ctl_instance = 4 then s else s.wr Od.ctl_instance 3

/-- The copy to the retested instance is complete (R246). -/
def engineResynced (s : State) : State :=
  if s.rd Od.ctl_instance = 3 then
    let fa := s.rdBit Od.sys_health bitEngineA
    let fb := s.rdBit Od.sys_health bitEngineB
    s.wr Od.ctl_instance (if fa then 2 else if fb then 1 else 0)
  else s

/-! ## SAFE_HOLD and BOOT (R237, R241) -/

/-- A slot in automatic or manual delivers its safe output, and its units learn nothing (R241, R243). -/
def holdSlot (s : State) (k : Nat) : State :=
  let y := if s.rd Od.ctl_safe_mode k = 0 then s.rd Od.ctl_out k else s.rd Od.ctl_safe_out k
  deliverLoop (noLearning (s.wrBit Od.ctl_status 8 true k) k) k y

/-- What a slot delivers in SAFE_HOLD, which `ctl_man_out` tracks (R241): one that is off or disabled `ctl_safe_out`. -/
def slotInHold (s : State) (k : Nat) : State :=
  if s.rd Od.ctl_period k = 0 ∨ s.rd Od.ctl_mode k = 0 then s.wr Od.ctl_man_out (s.rd Od.ctl_safe_out k) k else holdSlot s k

/-- The disabled slots with a manual or a safe output of their own. -/
def disabledSlots (s : State) : List Nat :=
  ((s.od.filterMap (fun c => if c.index = Od.ctl_safe_out ∨ c.index = Od.ctl_man_out then some c.elem else none)).eraseDups).filter
    (fun k => s.rd Od.ctl_period k == 0)

/-- Every slot in automatic and manual delivers its safe output (R241). -/
def ctlSafeHold (s : State) : State := (enabledSlots s ++ disabledSlots s).foldl slotInHold s

/-- Automatic slots return by a transfer from the held output, with soft-start (R237, R241). -/
def ctlReturn (s : State) : State :=
  (enabledSlots s).foldl (fun t k =>
    if t.rd Od.ctl_mode k = 2 then putSlot t k { slotOf t k with transfer := true, soft := true } else t) s

/-- SAFE_HOLD is left (R241): automatic slots return by a transfer from the safe output, with soft-start. -/
def ctlSafeExit (s : State) : State :=
  ctlReturn ((enabledSlots s).foldl (fun t k => t.wrBit Od.ctl_status 8 false k) s)

/-- The slots with a safe output of their own: until a sample they deliver it and `ctl_man_out` holds it (R228, R248). -/
def safeOutputs (s : State) : State :=
  (s.od.filterMap (fun c => if c.index = Od.ctl_safe_out then some (c.elem, c.value) else none)).foldl
    (fun t p => (t.wr Od.ctl_man_out p.2 p.1).wr Od.ctl_out p.2 p.1) s

/-- The slots when BOOT ends (R237): `ctl_mode_init`, from `ctl_safe_out`; the instances as their self-tests left them. -/
def ctlStart (s : State) : State :=
  let fa := s.rdBit Od.sys_health bitEngineA
  let fb := s.rdBit Od.sys_health bitEngineB
  let s0 := (safeOutputs s).wr Od.ctl_instance (if fa && fb then 4 else if fa then 2 else if fb then 1 else 0)
  (enabledSlots s0).foldl (fun t k =>
    let y := t.rd Od.ctl_safe_out k
    let m := t.rd Od.ctl_mode_init k
    let t1 := ((t.wr Od.ctl_mode m k).wr Od.ctl_man_out y k).wr Od.ctl_out y k
    if m = 2 then putSlot t1 k { slotOf t1 k with transfer := true, soft := true } else t1) s0

/-! ## Load and configuration rules (R234, R235, R249) -/

/-- The load of R234 in evaluations per tick. -/
def engineLoad (s : State) : Frac :=
  (enabledSlots s).foldl (fun a k =>
    (a.add ⟨max (s.rd Od.ctl_sections k) 1 + 2 * (repsOf s k).length, min (s.rd Od.ctl_period k) 32⟩).reduce) ⟨0, 1⟩

/-- `ctl_load`: the load rounded up. -/
def loadView (s : State) : Nat := (-(engineLoad s).neg.floor).toNat

/-- The slots a commit touched. -/
def ctlTouched (touched : List (Nat × Nat)) : List Nat :=
  (touched.filterMap (fun t =>
    if t.1 = Od.ctl_coef then some (t.2 / 40) else if 0x2800 ≤ t.1 ∧ t.1 ≤ 0x287F then some t.2 else none)).eraseDups

/-- The failure of R235 that a commit leaves in a slot, the first in the order of R11. -/
def slotLeaves (s : State) (tenant : Option Nat) (k : Nat) : Status :=
  let src := s.rd Od.ctl_pv_src k
  let d := entryDef? (src / 65536)
  let n := s.rd Od.ctl_sections k
  let isec := s.rd Od.ctl_int_sec k
  let secs := sectionsOf s k
  let noRead : Bool := match tenant with
    | some t => !mayReadTenant s t (src / 65536)
    | none => false
  let mn := s.rdQ Od.ctl_out_min k
  let mx := s.rdQ Od.ctl_out_max k
  let so := s.rdQ Od.ctl_safe_out k
  let lo := s.rdQ Od.ctl_out_lo k
  let hi := s.rdQ Od.ctl_out_hi k
  let srcBad : Option Status :=
    if src = 0 then (if s.rd Od.ctl_period k = 0 then none else some .outOfRange)
    else match d with
      | none => some .noSuchIndex
      | some d =>
        if d.nX ≤ src % 65536 then some .noSuchIndex
        else if noRead || accOf d (src % 65536) == .wo then some .accessDenied
        else match d.ty with
          | .oct _ | .str _ => some .typeMismatch
          | _ => none
  let polesBad : Bool :=
    if isec = 0xFF then false
    else if n ≤ isec then true
    else
      (match secs[isec]? with
        | some b => b.a1 + b.a2 != -(2 ^ 28)
        | none => true) ||
      (secs.drop (isec + 1)).any (fun b => 2 ^ 28 + b.a1 + b.a2 == 0 || b.b0 + b.b1 + b.b2 == 0 || b.b0 == 0)
  match srcBad with
  | some st => st
  | none =>
    if polesBad || (s.rdQ Od.ctl_pv_span k).num ≤ 0 || (lo.le hi && hi.le lo) || mx.lt mn || so.lt mn || mx.lt so then .outOfRange
    else .ok

/-- Whether the phase lead of a repetitive unit lies below its length (R249). -/
def repOk (s : State) (u : Nat) : Bool := decide (s.rd Od.ctl_rep_lead u < s.rd Od.ctl_rep_len u)

/-- Whether a unit that a commit attaches is attached to an enabled slot, or to none (R249). -/
def attachOk (s : State) (u : Nat) : Bool :=
  s.rd Od.ctl_rep_loop u == 0xFFFF || (decide (s.rd Od.ctl_rep_loop u < loopCount s) && s.rd Od.ctl_period (s.rd Od.ctl_rep_loop u) != 0)

/-- What a commit leaves in the slots it touched and in the engine's configuration, a status each (R234, R235, R249). -/
def ctlLeaves (s : State) (tenant : Option Nat) (touched : List (Nat × Nat)) : List Status :=
  (if (List.range (repCount s)).all (repOk s) && touched.all (fun t => t.1 != Od.ctl_rep_loop || attachOk s t.2) && (engineLoad s).le ⟨2000, 1⟩
    then .ok else .outOfRange) ::
    (ctlTouched touched).map (slotLeaves s tenant)

/-! ## Entries -/

/-- The chapter's own refusals (R237). -/
def ctlExtra (s : State) (i e v : Nat) : Extra :=
  if i = Od.ctl_mode then { range := v != 0 && s.rd Od.ctl_period e == 0 } else {}

/-- `ctl_mode` written in SAFE_HOLD, where no slot samples: a slot switched off delivers `ctl_safe_out`, and one switched on its safe
output (R237, R241). -/
def modeInHold (s : State) (k old new : Nat) : State :=
  if s.mode ≠ .safeHold then s
  else if new = 0 then deliverLoop (s.wrBit Od.ctl_status 8 false k) k (s.rd Od.ctl_safe_out k)
  else if old = 0 then holdSlot s k
  else s

/-- An applied write of an engine entry (R237, R238, R241, R243). -/
def ctlApply (s : State) (i e v : Nat) : Option State :=
  let x := slotOf s e
  if i = Od.ctl_mode then
    let old := s.rd Od.ctl_mode e
    let s1 := s.wr i v e
    some (modeInHold (if v = 2 ∧ old ≠ 2 then putSlot s1 e { x with transfer := true, soft := true }
      else if v = 0 then putSlot s1 e {}
      else s1) e old v)
  else if i = Od.ctl_man_out then
    some (if s.rd Od.ctl_mode e = 2 ∨ s.mode = .safeHold then s else s.wr i v e)
  else if i = Od.ctl_sp then some ((s.wr i v e).wrBit Od.ctl_status 5 false e)
  else if i = Od.ctl_sp_soft then some (putSlot (s.wr Od.ctl_sp v e) e { x with soft := true })
  else if i = Od.ctl_rep_clear then
    some { s with ctl := { s.ctl with reps := tabPut e { tabGet {} e s.ctl.reps with clear := true } s.ctl.reps } }
  else none

/-- What a commit that touched engine entries does besides storing them (R228, R236, R237, R243): a disabled slot shows no PV fault any more, with the event
of its clear (R240), and in SAFE_HOLD a new safe output is delivered at once (R241). -/
def ctlCommitted (old s : State) (touched : List (Nat × Nat)) : State :=
  touched.foldl (fun t x =>
    let k := x.2
    let was := old.rd x.1 k
    let is := s.rd x.1 k
    if was = is then t
    else if x.1 = Od.ctl_period then
      if is = 0 then
        let t1 := if t.rdBit Od.ctl_status 7 k then ctlEvent t 1 k 0 false else t
        let t2 := putSlot ((t1.wr Od.ctl_mode 0 k).wr Od.ctl_status 0 k) k {}
        anaFromLoop (if t2.mode = .safeHold then slotInHold t2 k else t2) k
      else if was = 0 then putSlot ((t.wr Od.ctl_mode 0 k).wr Od.ctl_out (t.rd Od.ctl_safe_out k) k) k {}
      else t
    else if x.1 = Od.ctl_safe_out ∨ x.1 = Od.ctl_safe_mode then
      let t1 := if t.mode = .safeHold then slotInHold t k else t
      if t1.rd Od.ctl_period k = 0 then anaFromLoop t1 k
      else if t1.mode = .safeHold ∧ t1.rd Od.ctl_mode k = 0 then deliverLoop t1 k (t1.rd Od.ctl_safe_out k)
      else t1
    else if x.1 = Od.ctl_int_sec ∧ t.rd Od.ctl_mode k = 2 then putSlot t k { slotOf t k with transfer := true }
    else if x.1 = Od.ctl_rep_loop ∨ x.1 = Od.ctl_rep_len then
      { t with ctl := { t.ctl with reps := tabPut k { tabGet {} k t.ctl.reps with clear := true } t.ctl.reps } }
    else t) s

end Sys2Proof.Machine
end

