-- ==== Sys2Proof/Machine/Motion.lean ====
section
/-!
DEFINITION. Motion profiles, load angle, referencing and car channels (R251 to R271).
-/
namespace Sys2Proof.Machine

/-! ## Profiles (R253, R255) -/

/-- A commanded state: position, velocity, acceleration. -/
structure Kin where
  x : Frac
  v : Frac
  a : Frac

/-- A segment: duration and jerk. -/
structure Seg where
  dur : Frac
  j : Frac

/-- A whole number as a fraction. -/
def nq (n : Int) : Frac := ⟨n, 1⟩

/-- The state a time τ into a segment of jerk j (R253). -/
def segAt (k : Kin) (j τ : Frac) : Kin :=
  let t2 := r64 (τ.mul τ)
  let t3 := r64 (t2.mul τ)
  ⟨r64 ((r64 (k.x.add (r64 (k.v.mul τ)))).add (r64 ((r64 ((r64 (k.a.mul t2)).div (nq 2))).add (r64 ((r64 (j.mul t3)).div (nq 6)))))),
    r64 ((r64 (k.v.add (r64 (k.a.mul τ)))).add (r64 ((r64 (j.mul t2)).div (nq 2)))),
    r64 (k.a.add (r64 (j.mul τ)))⟩

/-- The state at the end of a list of segments. -/
def segsEnd (k : Kin) (l : List Seg) : Kin := l.foldl (fun s g => segAt s g.j g.dur) k

/-- The sign of a fraction. -/
def sgn (q : Frac) : Int := q.num.sign

/-- The transition of R255 from (v₀, a₀) to (v₁, 0) under limits A and J. -/
def transition (v0 a0 v1 A J : Frac) : List Seg :=
  let vr := r64 (v0.add (r64 ((r64 (a0.mul a0.abs)).div (r64 (J.mul (nq 2))))))
  let σ := sgn (v1.sub vr)
  if σ = 0 then (if a0.num = 0 then [] else [⟨r64 (a0.abs.div J), (nq (-(sgn a0))).mul J⟩])
  else
    let rad := r64 ((r64 ((nq σ).mul (r64 (J.mul (r64 (v1.sub v0)))))).add (r64 ((r64 (a0.mul a0)).div (nq 2))))
    let peak := if rad.num ≤ 0 then nq 0 else sqrt64 rad
    let ap := (nq σ).mul (if A.lt peak then A else peak)
    let t1 := r64 ((r64 (ap.sub a0)).abs.div J)
    let t3 := r64 (ap.abs.div J)
    let va := r64 (v0.add (r64 ((r64 ((r64 (a0.add ap)).mul t1)).div (nq 2))))
    let rest := r64 ((r64 (v1.sub va)).sub (r64 ((r64 (ap.mul t3)).div (nq 2))))
    let t2 := if A.lt peak then Frac.max (nq 0) (r64 (rest.div ap)) else nq 0
    [⟨t1, (nq (sgn (ap.sub a0))).mul J⟩, ⟨t2, nq 0⟩, ⟨t3, (nq (-σ)).mul J⟩]

/-- The displacement D of a transition. -/
def dist (v0 a0 v1 A J : Frac) : Frac := (segsEnd ⟨nq 0, v0, a0⟩ (transition v0 a0 v1 A J)).x

/-- The 24 halvings of R255's plan. -/
def planSearch (fits : Frac → Bool) : Nat → Frac → Frac → Frac
  | 0, lo, _ => lo
  | n + 1, lo, hi =>
    let mid := r64 ((r64 (lo.add hi)).div (nq 2))
    if fits mid then planSearch fits n mid hi else planSearch fits n lo mid

/-- The plan of R255 to rest at a target, under limits V, A and J. -/
def planMove (k : Kin) (xt V A J : Frac) : List Seg :=
  let xs := r64 (k.x.add (dist k.v k.a (nq 0) A J))
  let s := sgn (xt.sub xs)
  if s = 0 then transition k.v k.a (nq 0) A J
  else
    let sq := nq s
    let need := r64 (sq.mul (r64 (xt.sub k.x)))
    let used (vp : Frac) : Frac := r64 (sq.mul (r64 ((dist k.v k.a (sq.mul vp) A J).add (dist (sq.mul vp) (nq 0) (nq 0) A J))))
    let vp := if (used V).le need then V else planSearch (fun m => (used m).le need) 24 (nq 0) V
    let cruise := if vp.num = 0 then nq 0 else r64 ((r64 (need.sub (used vp))).div vp)
    transition k.v k.a (sq.mul vp) A J ++ [⟨cruise, nq 0⟩] ++ transition (sq.mul vp) (nq 0) (nq 0) A J

/-! ## Channels -/

/-- Motion channels of the variant (R1). -/
def motCount (s : State) : Nat := s.perVariant 16 8

/-- A channel's commanded state. -/
def chanOf (s : State) (c : Nat) : MotChan := tabGet {} c s.mot.chans

/-- A channel's commanded state changed. -/
def putChan (s : State) (c : Nat) (x : MotChan) : State := { s with mot := { s.mot with chans := tabPut c x s.mot.chans } }

/-- The use of a channel (R251). -/
def useOf (s : State) (c : Nat) : Nat := s.rd Od.mot_use c

/-- Whether a channel runs a hoist. -/
def carUse (s : State) (c : Nat) : Bool := useOf s c == 8 || useOf s c == 9

/-- The channels in use. -/
def usedChans (s : State) : List Nat :=
  s.od.filterMap (fun c => if c.index = Od.mot_use ∧ c.value ≠ 0 ∧ c.elem < motCount s then some c.elem else none)

def motREFERENCED : Nat := 0
def motMOVING : Nat := 1
def motLAVALID : Nat := 2
def motSTALL : Nat := 3
def motLOAD : Nat := 4
def motHELD : Nat := 5
def motCURRED : Nat := 6

/-- A bit of `mot_status`. -/
def motBit (s : State) (c b : Nat) : Bool := s.rdBit Od.mot_status b c

/-- A bit of `mot_status` changed. -/
def motPut (s : State) (c b : Nat) (on : Bool) : State := s.wrBit Od.mot_status b on c

/-- A signed 64-bit count in an entry. -/
def cnt (i : Int) : Nat := ofInt 64 i

/-- x rounded to the nearest count, a half toward +∞ (R253). -/
def countOf (x : Frac) : Int := (x.add ⟨1, 2⟩).floor

/-- The kinematic state of a channel. -/
def kinOf (m : MotChan) : Kin := ⟨q64 m.x, q64 m.v, q64 m.a⟩

/-- A channel with a kinematic state. -/
def withKin (m : MotChan) (k : Kin) : MotChan := { m with x := word64 k.x, v := word64 k.v, a := word64 k.a }

/-- The commanded count of a channel. -/
def cmdCount (m : MotChan) : Int := countOf (q64 m.x)

/-- The encoder position of a car channel (R266). -/
def encPos (s : State) (c : Nat) : Int := toInt 64 (s.rd Od.mot_enc_count (c - 14)) + (chanOf s c).encOff

/-- `mot_pos` (R266, R270). -/
def motPos (s : State) (c : Nat) : Int := if carUse s c then encPos s c else cmdCount (chanOf s c)

/-- The commanded entries follow the commanded state. -/
def showChan (s : State) (c : Nat) : State :=
  let m := chanOf s c
  motPut ((((s.wr Od.mot_cmd_pos (cnt (cmdCount m)) c).wrQ Od.mot_cmd_vel (q64 m.v) c).wrQ Od.mot_cmd_acc (q64 m.a) c)) c motMOVING (m.plan != [])

/-- A motion event (R394): condition and position. -/
def motEvent (s : State) (tag c sev : Nat) (set : Bool) : State :=
  blockEvent s 0x07 tag c sev set (pay [(1, tag), (8, cnt (motPos s c))])

/-- A plan as it is stored. -/
def storePlan (l : List Seg) : List (Nat × Nat) := (l.filter (fun g => 0 < g.dur.num)).map (fun g => (word64 g.dur, word64 g.j))

/-- The velocity, acceleration and jerk limits of a channel; the lift logic may give a lower velocity. -/
def limV (s : State) (c : Nat) : Frac :=
  match (chanOf s c).vcap with
  | some w => Frac.min (q64 w) (s.rdQ Od.mot_v_max c)
  | none => s.rdQ Od.mot_v_max c
def limA (s : State) (c : Nat) : Frac := s.rdQ Od.mot_a_max c
def limJ (s : State) (c : Nat) : Frac := s.rdQ Od.mot_j_max c

/-- A channel plans a move to a count from its present state (R255, R256). -/
def planTo (s : State) (c : Nat) (xt : Int) (V : Frac) : State :=
  let m := chanOf s c
  let p := storePlan (planMove (kinOf m) (nq xt) V (limA s c) (limJ s c))
  let s1 := putChan s c { m with plan := p, goal := some xt, replan := false, relim := false }
  let s2 := if p = [] then s1 else motPut s1 c motCURRED false
  showChan s2 c

/-- A move to a count begins: the channel moves, or is idle where it stands there already. -/
def moveTo (s : State) (c : Nat) (xt : Int) (V : Frac) : State :=
  let s1 := planTo s c xt V
  s1.wr Od.mot_state (if (chanOf s1 c).plan = [] then 1 else 2) c

/-- A channel plans its stop ramp (R258). -/
def stopRamp (s : State) (c : Nat) : State :=
  let m := chanOf s c
  let k := kinOf m
  showChan (putChan s c { m with
    plan := storePlan (transition k.v k.a (nq 0) (s.rdQ Od.mot_a_stop c) (limJ s c)), goal := none, replan := false, relim := false }) c

/-- A channel comes to rest on its stop ramp: `mot_state` 3 until it stands (R258, R270). -/
def rampDown (s : State) (c : Nat) : State :=
  let s1 := stopRamp s c
  if (chanOf s1 c).plan = [] then s1.wr Od.mot_state (if useOf s1 c = 0 then 0 else 1) c else s1.wr Od.mot_state 3 c

/-- A channel halts at once at its last commanded count (R262). -/
def haltChan (s : State) (c : Nat) : State :=
  let m := chanOf s c
  showChan (putChan s c { withKin m ⟨nq (cmdCount m), nq 0, nq 0⟩ with plan := [], goal := none, replan := false, relim := false }) c

/-- A channel halts at once and is idle (R270). -/
def haltIdle (s : State) (c : Nat) : State := (haltChan s c).wr Od.mot_state (if useOf s c = 0 then 0 else 1) c

/-- A new target in force: the channel replans at the next tick, or holds it until referenced (R256, R257). -/
def newTarget (s : State) (c : Nat) (t : Int) : State :=
  let m := chanOf s c
  if t = m.tgt ∧ m.plan ≠ [] ∧ !m.replan then s
  else
    let s1 := putChan s c { m with tgt := t, replan := true }
    if motBit s c motREFERENCED then s1 else motPut s1 c motHELD true

/-! ## Referencing (R263, R264, R266) -/

/-- Referencing starts: a moving channel stops first (R263, R266). -/
def refStart (s : State) (c : Nat) : State :=
  let s0 := motPut (s.wr Od.mot_state 4 c) c motREFERENCED false
  if carUse s c then
    let m := chanOf s0 c
    let dir : Int := if s.rd Od.mot_ref_dir c = 0 then -1 else 1
    planTo (putChan s0 c { m with phase := 5, refFrom := m.x }) c (countOf (q64 m.x) + dir * s.rd Od.mot_ref_travel c) (s.rdQ Od.mot_ref_speed c)
  else
    let s1 := stopRamp s0 c
    let m := chanOf s1 c
    if m.plan = [] then motPut (putChan s1 c { m with phase := 2 }) c motCURRED true
    else putChan s1 c { m with phase := 1 }

/-- Referencing fails with a result (R264). -/
def refFail (s : State) (c result : Nat) : State :=
  let s1 := haltChan s c
  let s2 := putChan s1 c { chanOf s1 c with phase := 0 }
  motEvent (motPut ((s2.wr Od.mot_state 6 c).wr Od.mot_ref_result result c) c motCURRED false) 2 c 1 true

/-- Referencing completes: the channel moves to the target in force at the next tick (R263, R266). -/
def refDone (s : State) (c : Nat) : State :=
  let s1 := (s.wr Od.mot_ref_result 1 c).wr Od.mot_state 1 c
  let s2 := motPut (motPut (motPut s1 c motREFERENCED true) c motSTALL false) c motHELD false
  let m := chanOf s2 c
  putChan s2 c { m with phase := 0, replan := m.tgt != cmdCount m }

/-- A stall during the reference move (R263 steps 4 to 6, R264). -/
def refStall (s : State) (c : Nat) : State :=
  let m := chanOf s c
  let travelled := ((q64 m.x).sub (q64 m.refFrom)).abs
  if travelled.lt (nq (4 * s.rd Od.mot_usteps c)) then refFail s c 4
  else
    let off := toInt 64 (s.rd Od.mot_stop_offset c)
    let dir : Int := if s.rd Od.mot_ref_dir c = 0 then -1 else 1
    let s1 := putChan s c { withKin m ⟨nq off, nq 0, nq 0⟩ with plan := [], goal := none, sent := off, phase := 4 }
    let s2 := planTo s1 c (off - dir * s.rd Od.mot_ref_backoff c) (limV s c)
    motPut s2 c motCURRED true

/-- REFERENCE_SETTLED (R263): after 50 ms at reduced current the channel moves toward the stop. -/
def referenceSettled (c : Nat) (s : State) : State :=
  let m := chanOf s c
  if m.phase = 2 ∧ running s ∧ s.mode ≠ .safeHold then
    let dir : Int := if s.rd Od.mot_ref_dir c = 0 then -1 else 1
    let s1 := putChan s c { m with phase := 3, refFrom := m.x, noDelta := 0, stallUp := 0, lastDelta := none }
    motPut (planTo s1 c (cmdCount m + dir * s.rd Od.mot_ref_travel c) (s.rdQ Od.mot_ref_speed c)) c motCURRED true
  else s

/-- REFERENCE_BACKOFF_DONE (R263). -/
def referenceBackoffDone (c : Nat) (s : State) : State :=
  let m := chanOf s c
  if m.phase = 4 ∧ m.plan = [] then refDone (motPut s c motCURRED false) c else s

/-! ## Load angle and stalls (R261, R262) -/

/-- An angle in units of 2⁻⁶⁴ rad as degrees. -/
def degrees (a : Int) : Frac := ⟨a * 180, piFix.toNat⟩

/-- An angle in degrees mapped into −180° to +180°. -/
def wrapDeg (q : Frac) : Frac :=
  let k := ((q.add (nq 180)).div (nq 360)).floor
  q.sub (nq (360 * k))

/-- The commanded electrical angle θ_c of a channel, as a fraction of a turn (R261). -/
def commandedTurn (s : State) (c : Nat) : Frac := (q64 (chanOf s c).x).div (nq (4 * s.rd Od.mot_usteps c))

/-- The back-EMF of both windings for the voltages at the sense inputs (R261): the winding voltage less what the commanded current drops in
resistance and inductance; the current follows the commanded angle. -/
def backEmf (s : State) (c : Nat) (va vb : Frac) : Frac × Frac :=
  let cur := s.rdQ (if motBit s c motCURRED then Od.mot_i_red else Od.mot_i_run) c
  let t := cosSin (commandedTurn s c)
  let w := ((Frac.mk (2 * piFix) (2 ^ 64)).mul (q64 (chanOf s c).v)).div (nq (4 * s.rd Od.mot_usteps c))
  let e (v i di : Frac) : Frac :=
    r64 (((v.mul (s.rdQ Od.mot_v_ratio c)).sub ((s.rdQ Od.mot_r_phase c).mul i)).sub ((s.rdQ Od.mot_l_phase c).mul di))
  (e va (cur.mul t.1) ((cur.mul w).mul t.2).neg, e vb (cur.mul t.2) ((cur.mul w).mul t.1))

/-- The sense inputs of a tick pass the filter of `mot_la_filter` (R261). -/
def senseFilter (s : State) (c : Nat) (va vb : Frac) : State :=
  let m := chanOf s c
  let e := backEmf s c va vb
  let g := fmt64.frac (Config.emfFilterGain (s.rd Od.mot_la_filter c))
  let step (y : Nat) (x : Frac) : Nat := word64 (r64 ((q64 y).add (r64 (g.mul (r64 (x.sub (q64 y)))))))
  putChan s c { m with ea := step m.ea e.1, eb := step m.eb e.2 }

/-- The load angle of a channel for filtered back-EMF components, `none` while it is not valid (R261). -/
def loadAngle (s : State) (c : Nat) (ea eb : Frac) : Option Frac :=
  let m := chanOf s c
  let v := q64 m.v
  let mag2 := (ea.mul ea).add (eb.mul eb)
  if carUse s c ∨ v.abs.lt (s.rdQ Od.mot_la_vmin c) ∨ mag2.lt ⟨1, 100⟩ then none
  else
    let turn := commandedTurn s c
    let θc := (turn.sub (nq turn.floor)).mul (nq 360)
    let d := nq (sgn v)
    let θr := (degrees (atan2Fix eb ea)).sub (d.mul (nq 90))
    some (d.mul (wrapDeg (θc.sub θr)))

/-- A stall (R262): reported, and with `mot_stall_act` 1 or on a stop ramp the channel halts (R269); on the stop ramp that begins a
reference, the reference goes on (R263). -/
def stallChan (s : State) (c : Nat) : State :=
  let s1 := motEvent (motPut (motPut s c motSTALL true) c motREFERENCED false) 1 c 1 true
  let m := chanOf s1 c
  let s2 := putChan s1 c { m with stallUp := 0 }
  if m.phase = 3 then refStall (haltChan s2 c) c
  else if m.phase = 1 then haltChan s2 c
  else if s.rd Od.mot_stall_act c = 1 ∨ s.rd Od.mot_state c = 3 then
    let s3 := haltChan s2 c
    let s4 := putChan s3 c { chanOf s3 c with phase := 0 }
    (if m.phase = 4 then motPut s4 c motCURRED false else s4).wr Od.mot_state 5 c
  else s2

/-- The watch on δ at one tick (R262). -/
def watchAngle (s : State) (c : Nat) (δ : Option Frac) : State :=
  let m := chanOf s c
  match δ with
  | none =>
    motPut ((putChan s c { m with loadUp := 0, loadDown := 0, stallUp := 0, lastDelta := none }).wr Od.mot_load_angle f32NaN c) c motLAVALID false
  | some q =>
    let lim := s.rdQ Od.mot_la_limit c
    let atLimit := lim.le q
    let below := q.le (lim.sub (nq 5))
    let up := if atLimit then m.loadUp + 1 else 0
    let down := if below then m.loadDown + 1 else 0
    let st := if (s.rdQ Od.mot_stall_angle c).le q then m.stallUp + 1 else 0
    let need := s.rd Od.mot_la_time c * 32
    let slip : Bool := match m.lastDelta with
      | some w => (nq 180).lt ((q64 w).sub q).abs
      | none => false
    let s1 := putChan s c { m with loadUp := up, loadDown := down, stallUp := st, lastDelta := some (word64 q) }
    let s2 := motPut (s1.wrQ Od.mot_load_angle q c) c motLAVALID true
    let s3 := if need ≤ up then motPut s2 c motLOAD true else if need ≤ down then motPut s2 c motLOAD false else s2
    let s4 := if slip then s3.count Od.mot_slips c else s3
    if slip ∨ s.rd Od.mot_stall_time c * 32 ≤ st then stallChan s4 c else s4

/-! ## The tick (R253, R256) -/

/-- A channel's state a time later along its plan. -/
def advance : List (Nat × Nat) → Kin → Frac → Kin × List (Nat × Nat)
  | [], k, _ => (k, [])
  | (d, j) :: r, k, dt =>
    let dq := q64 d
    if dq.le dt then advance r (segAt k (q64 j) dq) (r64 (dt.sub dq))
    else (segAt k (q64 j) dt, (word64 (r64 (dq.sub dt)), j) :: r)

/-- A channel moves on by one tick of 31.25 µs; a plan that ends stands exactly at its goal. -/
def moveOn (s : State) (c : Nat) : State :=
  let m := chanOf s c
  if m.plan = [] then s
  else
    let r := advance m.plan (kinOf m) ⟨1, 32000⟩
    if r.2 = [] then
      let x := match m.goal with
        | some g => nq g
        | none => r.1.x
      let s1 := putChan s c { withKin m ⟨x, nq 0, nq 0⟩ with plan := [], goal := none }
      let st := s.rd Od.mot_state c
      showChan (if st = 2 ∨ st = 3 then s1.wr Od.mot_state (if useOf s c = 0 then 0 else 1) c else s1) c
    else showChan (putChan s c { withKin m r.1 with plan := r.2 }) c

/-- What referencing does at a tick once its move has ended (R263, R264, R266). The reference speed counts as reached within one part in
2²⁰ of it, as ticks add up a rounded velocity (log entry 188). -/
def refTick (s : State) (c : Nat) (valid : Bool) : State :=
  let m := chanOf s c
  if m.phase = 1 ∧ m.plan = [] then motPut (putChan s c { m with phase := 2 }) c motCURRED true
  else if m.phase = 3 then
    if m.plan = [] then refFail s c 2
    else
      let speed := s.rdQ Od.mot_ref_speed c
      let atSpeed := (speed.sub (speed.div (nq (2 ^ 20)))).le (q64 m.v).abs
      let n := if valid then 0 else if atSpeed ∨ m.noDelta ≠ 0 then m.noDelta + 1 else 0
      if 16000 ≤ n then refFail s c 3 else putChan s c { m with noDelta := n }
  else if m.phase = 5 ∧ m.plan = [] then refFail s c 2
  else s

/-- Whether a channel may act on its target (R257, R258, R268). The lift logic moves its channels before they are referenced too
(R278, R293). -/
def mayMove (s : State) (c : Nat) : Bool :=
  running s && !entryOff s && s.mode != .safeHold && useOf s c != 0 && (motBit s c motREFERENCED || decide (4 ≤ useOf s c)) &&
    (chanOf s c).phase == 0

/-- The velocity limit of the move a channel makes: its reference speed on a reference move (R263, R266). -/
def moveV (s : State) (c : Nat) : Frac :=
  let p := (chanOf s c).phase
  if p = 3 ∨ p = 5 then s.rdQ Od.mot_ref_speed c else limV s c

/-- A changed limit takes effect (R256): the channel plans again to where its move ends, or to rest. -/
def replanLimits (s : State) (c : Nat) : State :=
  let m := chanOf s c
  let s1 := putChan s c { m with relim := false }
  if m.plan = [] then s1
  else
    let s2 := match m.goal with
      | some g => planTo s1 c g (moveV s c)
      | none =>
        if m.phase = 1 ∨ s.rd Od.mot_state c = 3 then stopRamp s1 c
        else
          let k := kinOf m
          showChan (putChan s1 c { m with plan := storePlan (transition k.v k.a (nq 0) (limA s c) (limJ s c)), relim := false }) c
    putChan s2 c { chanOf s2 c with replan := m.replan }

/-- The position and the commanded state of a car channel are shifted together (R266, R275). -/
def shiftCar (s : State) (c : Nat) (d : Int) : State :=
  let m := chanOf s c
  showChan (putChan s c { m with
    encOff := m.encOff + d, x := word64 (r64 ((q64 m.x).add (nq d))), goal := m.goal.map (· + d) }) c

/-- A vane correction that is due shifts the channel (R275): its target stays where it was, and the channel plans again to it; one on a
stop ramp goes on with that. -/
def dueShift (s : State) (c : Nat) : State :=
  let m := chanOf s c
  if m.shift = 0 then s
  else
    let s1 := shiftCar (putChan s c { m with shift := 0 }) c m.shift
    let x := chanOf s1 c
    if m.plan = [] then putChan s1 c { x with replan := m.replan || m.tgt == cmdCount m }
    else putChan s1 c { x with goal := m.goal, relim := m.relim || m.goal.isSome }

/-- One channel at a tick. -/
def chanTick (sense : List PhaseSense) (s : State) (c : Nat) : State :=
  let s0 := dueShift (moveOn s c) c
  let s1 := match sense.find? (fun p => p.chan == c) with
    | some p => if finite32 p.va ∧ finite32 p.vb ∧ !carUse s0 c then senseFilter s0 c (f32q p.va) (f32q p.vb) else s0
    | none => s0
  let δ := if sense.any (fun p => p.chan == c) then loadAngle s1 c (q64 (chanOf s1 c).ea) (q64 (chanOf s1 c).eb) else none
  let s2 := if carUse s1 c then s1 else watchAngle s1 c δ
  let s3 := refTick s2 c δ.isSome
  let m := chanOf s3 c
  if m.replan ∧ mayMove s3 c then moveTo s3 c m.tgt (limV s3 c) else if m.relim then replanLimits s3 c else s3

/-- Channels that have a commanded state or a use. -/
def liveChans (s : State) : List Nat := (List.range (motCount s)).filter (fun c => useOf s c != 0 || (chanOf s c).plan != [])

/-- A lane mismatch (R267): the state, and whether both lanes are lost. While one lane is lost, and until a retested one has taken the
other's state, they are not compared. -/
def laneVerdict (s : State) (l : Option LaneCheck) : State × Bool :=
  match l with
  | none => (s, false)
  | some l =>
    if s.rdBit Od.sys_health bitMotLane ∨ s.mot.resync then (s, !(l.a || l.b))
    else if l.a && l.b then (if l.agree then (s, false) else (raiseFault s bitMotLane, true))
    else if l.a || l.b then (raiseFault s bitMotLane, false)
    else (raiseFault s bitMotLane, true)

/-- Every channel halts at once at its last scheduled step (R267); one that was moving is idle, one that referenced is aborted by the
entry into SAFE_HOLD that follows (R264). -/
def motHaltAll (s : State) : State :=
  (liveChans s).foldl (fun t c => if t.rd Od.mot_state c = 2 ∨ t.rd Od.mot_state c = 3 then haltIdle t c else haltChan t c) s

/-- A retested lane is resynchronised at the next tick (R246, R267; log entry 189). -/
def laneRetested (s : State) : State := { s with mot := { s.mot with resync := true } }

/-- MOTION_TICK (R253, R256, R261, R262, R267): the state, and whether SAFE_HOLD follows. -/
def motionTick (sense : List PhaseSense) (lanes : Option LaneCheck) (s : State) : State × Bool :=
  if running s then
    let r := laneVerdict s lanes
    let s1 := { r.1 with mot := { r.1.mot with resync := false } }
    if r.2 then (motHaltAll s1, true) else ((liveChans s1).foldl (chanTick sense) s1, false)
  else (s, false)

/-! ## Steps (R259, R260) -/

/-- STEP_PULSE (R259, R260): the next step toward the commanded count; one that a reversal or the minimum spacing delays is
counted. -/
def stepPulse (c gapNs : Nat) (s : State) : State :=
  let m := chanOf s c
  let want := cmdCount m
  if !running s ∨ entryOff s ∨ motCount s ≤ c ∨ carUse s c ∨ want = m.sent then s
  else
    let up := decide (m.sent < want)
    let w := s.rd Od.mot_step_width c
    let need := if up = m.lastUp then 2 * w else w + s.rd Od.mot_dir_hold c + s.rd Od.mot_dir_setup c
    let s1 := (putChan s c { m with sent := m.sent + (if up then 1 else -1), lastUp := up }).send (.step c up)
    if gapNs < need then s1.count Od.mot_late_steps c else s1

/-- ENn (R56, R259, R268): high while the channel has a use and the mode admits motion. -/
def motEn (s : State) (c : Nat) : Bool := running s && !entryOff s && useOf s c != 0

/-- IDLE_CURRENT_REDUCE (R259). -/
def idleCurrentReduce (c : Nat) (s : State) : State :=
  if running s ∧ c < motCount s ∧ useOf s c ≠ 0 ∧ (chanOf s c).plan = [] ∧ (chanOf s c).phase = 0 ∧ s.rd Od.mot_idle_red c ≠ 0 then
    motPut s c motCURRED true
  else s

/-! ## Targets from loops (R257) -/

/-- The count a loop output maps to. -/
def loopCount_ (s : State) (c y : Nat) : Int :=
  let lo := s.rdQ Od.mot_eng_lo c
  let hi := s.rdQ Od.mot_eng_hi c
  let cl := toInt 64 (s.rd Od.mot_cnt_lo c)
  let ch := toInt 64 (s.rd Od.mot_cnt_hi c)
  let x := countOf ((nq cl).add ((((f32q y).sub lo).div (hi.sub lo)).mul (nq (ch - cl))))
  clampInt (toInt 64 (s.rd Od.mot_pos_min c)) (toInt 64 (s.rd Od.mot_pos_max c)) x

/-- Channels that follow a loop slot take its output; a change within the deadband is ignored. -/
def motFromLoop (s : State) (slot : Nat) : State :=
  (usedChans s).foldl (fun t c =>
    if t.rd Od.mot_tgt_src c = slot then
      let x := loopCount_ t c (loopOut t slot)
      if (x - (chanOf t c).tgt).natAbs ≤ t.rd Od.mot_deadband c then t else newTarget t c x
    else t) s

/-! ## Car channels (R265, R266) -/

/-- ENCODER_EDGE_COUNT (R265). -/
def encoderEdgeCount (k : Nat) (up : Bool) (s : State) : State :=
  if powered s ∧ s.variant = .x ∧ k < 2 then s.wr Od.mot_enc_count (cnt (toInt 64 (s.rd Od.mot_enc_count k) + (if up then 1 else -1))) k else s

/-- ENCODER_ILLEGAL_TRANSITION (R265). -/
def encoderIllegalTransition (k : Nat) (s : State) : State :=
  if powered s ∧ s.variant = .x ∧ k < 2 then s.count Od.mot_enc_err k else s

/-- The selected edge of a reference move (R266): the position is assigned, and the channel stops on its normal plan. -/
def carEdge (s : State) (c input : Nat) (level : Bool) (count : Int) : State :=
  let k := c - 14
  let sel := s.rd Od.mot_ref_edge k
  let m := chanOf s c
  if m.phase = 5 ∧ sel % 4 = input ∧ level = (sel / 4 % 2 == 0) then
    let n := toInt 64 (s.rd Od.mot_enc_count k)
    let pos := toInt 64 (s.rd Od.mot_latch_pos k) + (n - count)
    let s1 := shiftCar s c (pos - encPos s c)
    let m1 := chanOf s1 c
    let kin := kinOf m1
    let s2 := putChan s1 c { m1 with plan := storePlan (transition kin.v kin.a (nq 0) (limA s c) (limJ s c)), goal := none, phase := 0, replan := false, relim := false }
    let s3 := (s2.wr Od.mot_ref_result 1 c).wr Od.mot_state 2 c
    motPut (motPut (motPut s3 c motREFERENCED true) c motSTALL false) c motHELD false
  else s

/-- SWITCH_EDGE_LATCH (R265, R266). -/
def switchEdgeLatch (k input : Nat) (level : Bool) (count : Int) (time : Nat) (s : State) : State :=
  if powered s ∧ s.variant = .x ∧ k < 2 ∧ input < 3 then
    let e := k * 3 + input
    let s1 := (((s.wr Od.mot_latch_count (cnt count) e).wr Od.mot_latch_time time e).wr Od.mot_latch_level (b2n level) e).count Od.mot_latch_seq e
    if carUse s (14 + k) then carEdge s1 (14 + k) input level count else s1
  else s

/-! ## Modes (R258, R263, R264, R268) -/

/-- SAFE_HOLD: referencing is aborted, and moving channels take their stop ramps. -/
def motSafeHold (s : State) : State :=
  (liveChans s).foldl (fun t c =>
    let m := chanOf t c
    if m.phase ≠ 0 then refFail t c 5
    else if m.plan = [] then t
    else rampDown t c) s

/-- Whether a channel references by itself (R263, R270). -/
def autoRef (s : State) (c : Nat) : Bool := s.rd Od.mot_ref_auto c == 1 && decide (1 ≤ useOf s c) && decide (useOf s c ≤ 3)

/-- SAFE_HOLD is left: channels resume toward their targets, or reference; the targets of lift channels come from the lift logic alone
(R251). -/
def motSafeExit (s : State) : State :=
  (usedChans s).foldl (fun t c =>
    let m := chanOf t c
    if 4 ≤ useOf t c then t
    else if motBit t c motREFERENCED then putChan t c { m with replan := m.replan || m.tgt != cmdCount m || m.plan != [] }
    else if autoRef t c then refStart t c else t) s

/-- The channels when BOOT ends: idle, unreferenced, referencing where they do so by themselves (R268). -/
def motStart (s : State) : State :=
  (usedChans s).foldl (fun t c =>
    let t1 := t.wr Od.mot_state 1 c
    if autoRef t1 c then refStart t1 c else t1) s

/-- Motion stops within 10 µs without a ramp (R60, R268). -/
def motOff (s : State) : State := { s with mot := {} }

/-! ## Checks and effects of the entries -/

/-- The limits of R254 and the rules of R252 and R257 for one channel, as the failure they give. -/
def chanLeaves (s : State) (c : Nat) : Option Status :=
  let u := useOf s c
  let car := u == 8 || u == 9
  let V := s.rdQ Od.mot_v_max c
  let A := s.rdQ Od.mot_a_max c
  let J := s.rdQ Od.mot_j_max c
  let stop := s.rdQ Od.mot_a_stop c
  let refV := s.rdQ Od.mot_ref_speed c
  let src := s.rd Od.mot_tgt_src c
  let lo := s.rdQ Od.mot_eng_lo c
  let hi := s.rdQ Od.mot_eng_hi c
  let vOk := decide (0 < V.num) && (if car then V.le (nq 8000000)
    else V.le (nq 1000000) && (V.mul (nq (2 * s.rd Od.mot_step_width c))).le (nq 1000000000))
  let useOk := !(decide (4 ≤ u) && decide (u ≤ 7) && decide (14 ≤ c)) && !(u == 8 && c != 14) && !(u == 9 && c != 15)
  let ok := vOk && useOk && decide (0 < A.num) && A.le (nq 1000000000) && decide (0 < J.num) && J.le (nq 1000000000000) &&
    A.le stop && stop.le (nq 1000000000) && decide (0 < refV.num) && refV.le V && (s.rdQ Od.mot_la_vmin c).le refV &&
    decide (toInt 64 (s.rd Od.mot_pos_min c) < toInt 64 (s.rd Od.mot_pos_max c)) &&
    (s.rdQ Od.mot_i_red c).le (s.rdQ Od.mot_i_run c) &&
    !(lo.le hi && hi.le lo) && (src == 0xFFFF || (decide (src < loopCount s) && decide (u < 4)))
  if s.variant = .s ∧ 4 ≤ u then some .wrongVariant else if ok then none else some .outOfRange

/-- What a commit leaves in the channels it touched and in their uses, a status each (R252, R254, R257). -/
def motLeaves (s : State) (touched : List (Nat × Nat)) : List Status :=
  let cs := ((touched.filter (fun t => decide (0x2C00 ≤ t.1) && decide (t.1 ≤ 0x2C3F))).map (·.2)).eraseDups
  let uses := (List.range (motCount s)).map (useOf s)
  (if (List.range 6).any (fun j => decide (1 < (uses.filter (fun u => u == 4 + j)).length)) then .outOfRange else .ok) ::
    cs.map (fun c => (chanLeaves s c).getD .ok)

/-- The chapter's own refusals (R257, R263, R266). A reference that is accepted and waits for its tick runs. -/
def motExtra (s : State) (replayed : Bool) (i e v : Nat) : Extra :=
  if i = Od.mot_target then
    { denied := decide (4 ≤ useOf s e)
      range := decide (toInt 64 v < toInt 64 (s.rd Od.mot_pos_min e)) || decide (toInt 64 (s.rd Od.mot_pos_max e) < toInt 64 v) }
  else if i = Od.mot_ref_cmd then
    { mode := carUse s e && s.mode != .maintenance
      late := if (chanOf s e).phase ≠ 0 ∨ (!replayed ∧ awaits s i e) then .busyRetry else .ok }
  else {}

/-- An applied write of a motion entry (R257, R263). The targets of lift channels come from the lift logic alone. -/
def motApply (s : State) (i e v : Nat) : Option State :=
  if i = Od.mot_target then
    let s1 := s.wr i v e
    some (if 4 ≤ useOf s e then s else if s.rd Od.mot_tgt_src e = 0xFFFF ∧ useOf s e ≠ 0 then newTarget s1 e (toInt 64 v) else s1)
  else if i = Od.mot_ref_cmd then
    some (if useOf s e = 0 then s
      else if s.mode = .safeHold ∨ !running s then s.wr Od.mot_ref_result 5 e
      else refStart s e)
  else none

/-- A channel whose use changes comes to rest and loses its reference; one that was referencing has failed (R252, R258, R264). -/
def useStops (s : State) (c : Nat) : State :=
  let m := chanOf s c
  let s1 := if m.phase ≠ 0 then refFail s c 5 else rampDown s c
  motPut (putChan s1 c { chanOf s1 c with replan := false, vcap := none }) c motREFERENCED false

/-- The load-angle entries of a car channel read NaN and 0 (R266). -/
def noLoadAngle (s : State) (c : Nat) : State :=
  let s1 := putChan s c { chanOf s c with loadUp := 0, loadDown := 0, stallUp := 0, lastDelta := none }
  motPut (motPut ((s1.wr Od.mot_load_angle f32NaN c).wr Od.mot_slips 0 c) c motLAVALID false) c motLOAD false

/-- A change of use (R252): the new use has its own source of targets (R251, R257) and its own steps (R259, R266). -/
def useChanged (old s : State) (c : Nat) : State :=
  let s1 := useStops s c
  let u := useOf s c
  let s2 := if u = 8 ∨ u = 9 then noLoadAngle s1 c
    else if carUse old c then putChan s1 c { chanOf s1 c with sent := cmdCount (chanOf s1 c) } else s1
  let t := toInt 64 (s.rd Od.mot_target c)
  if 1 ≤ u ∧ u ≤ 3 ∧ s.rd Od.mot_tgt_src c = 0xFFFF ∧ t ≠ (chanOf s2 c).tgt then newTarget s2 c t else s2

/-- What a commit that touched motion entries does besides storing them (R252, R256, R258, R259). -/
def motCommitted (old s : State) (touched : List (Nat × Nat)) : State :=
  touched.foldl (fun t x =>
    let c := x.2
    if old.rd x.1 c = s.rd x.1 c then t
    else if x.1 = Od.mot_use then useChanged old t c
    else if x.1 = Od.mot_v_max ∨ x.1 = Od.mot_a_max ∨ x.1 = Od.mot_j_max then
      (if (chanOf t c).plan = [] then t else putChan t c { chanOf t c with relim := true })
    else if x.1 = Od.mot_idle_red then (if s.rd x.1 c = 0 ∧ (chanOf t c).phase = 0 then motPut t c motCURRED false else t)
    else if x.1 = Od.mot_tgt_src ∧ s.rd x.1 c = 0xFFFF ∧ useOf s c ≠ 0 then newTarget t c (toInt 64 (s.rd Od.mot_target c))
    else t) s

end Sys2Proof.Machine
end

