-- ==== Sys2Proof/Machine/Island.lean ====
section
/-!
DEFINITION. The safety island: input pairs, permits, outputs, Macaron connections, trips and acknowledgement (R294 to R296,
R305 to R334).
-/
namespace Sys2Proof.Machine

/-! ## Resources and latches -/

def safPairs (s : State) : Nat := s.perVariant 16 8
def safOuts (s : State) : Nat := s.perVariant 8 4

def pairOf (s : State) (p : Nat) : PairState := tabGet {} p s.saf.pairs
def putPair (s : State) (p : Nat) (x : PairState) : State := { s with saf := { s.saf with pairs := tabPut p x s.saf.pairs } }
def outOf (s : State) (o : Nat) : OutState := tabGet {} o s.saf.outs
def putOut (s : State) (o : Nat) (x : OutState) : State := { s with saf := { s.saf with outs := tabPut o x s.saf.outs } }
def permitOf (s : State) (k : Nat) : CarPermit := tabGet {} k s.saf.cars
def putPermit (s : State) (k : Nat) (x : CarPermit) : State := { s with saf := { s.saf with cars := tabPut k x s.saf.cars } }
def connOf (s : State) (c : Nat) : MacConn := tabGet {} c s.saf.conns
def putConn (s : State) (c : Nat) (x : MacConn) : State := { s with saf := { s.saf with conns := tabPut c x s.saf.conns } }

/-- A lift car's state as the lift logic holds it (R273). -/
def liftCar (s : State) (k : Nat) : LiftCar := tabGet {} k s.lft.cars

/-- A safety event (R394): latch code and generation. -/
def safEvent (s : State) (tag inst sev code : Nat) (set : Bool := true) : State :=
  blockEvent s 0x09 tag inst sev set (pay [(1, code), (2, s.rd Od.saf_latch_gen)])

/-- A latch is set: the latch generation rises (R331). -/
def latchSet (s : State) : State := s.countMod Od.saf_latch_gen

/-- A cause of R323 is set: the trip generation rises, and a trip in BOOT is remembered (R45). -/
def setTrip (s : State) (b : Nat) : State :=
  if s.rdBit Od.saf_trip_cause b then s
  else
    let s1 := (s.wrBit Od.saf_trip_cause b true).countMod Od.saf_trip_gen
    let s2 := blockEvent s1 0x09 5 0xFF 3 true (pay [(1, b), (2, s1.rd Od.saf_trip_gen)])
    if s2.mode = .boot then { s2 with sys := { s2.sys with tripInBoot := true } } else s2

/-- A cause of R323 clears. -/
def clearTrip (s : State) (b : Nat) : State := if s.rdBit Od.saf_trip_cause b then s.wrBit Od.saf_trip_cause b false else s

def tripCORE : Nat := 0
def tripOUTPUT : Nat := 1
def tripEDM : Nat := 2
def tripUCM : Nat := 3
def tripINPUT : Nat := 5
def tripENGINES : Nat := 6
def tripCONFIG : Nat := 7

/-- Output fault codes that are module latches of the stage, and those of EDM (R316, R317). -/
def stageModule (code : Nat) : Bool := (decide (1 ≤ code) && decide (code ≤ 4)) || code == 6
def edmModule (code : Nat) : Bool := code == 7 || code == 10
def edmCode (code : Nat) : Bool := decide (7 ≤ code) && decide (code ≤ 10)

/-- The codes latched on an output, the one `saf_out_fault` shows first (log entry 191). -/
def codesOf (s : State) (o : Nat) : List Nat :=
  let c := s.rd Od.saf_out_fault o
  if c = 0 then [] else c :: tabGet [] o s.mer.outEarlier

/-- Latched codes of the outputs. -/
def outCodes (s : State) : List Nat := (List.range (safOuts s)).flatMap (codesOf s)

/-- A safety latch that makes BOOT end in SAFE_HOLD (R48, R323): a module latch of an output, or UCM. -/
def moduleLatch (s : State) : Bool := (outCodes s).any (fun c => stageModule c || edmModule c) || s.mer.ucm != []

/-- The causes that latches establish at BOOT (R323). -/
def causesOfLatches (s : State) : Nat :=
  2 * b2n ((outCodes s).any stageModule) + 4 * b2n ((outCodes s).any edmModule) + 8 * b2n (s.mer.ucm.contains 0) + 16 * b2n (s.mer.ucm.contains 1)

/-- At least one latch awaits acknowledgement. -/
def anyLatch (s : State) : Bool :=
  s.od.any (fun c => (c.index == Od.saf_in_latch || c.index == Od.saf_out_fault || c.index == Od.saf_mac_latch) && c.value != 0) || s.mer.ucm != []

/-! ## Configuration integrity (R326) -/

/-- The configuration entries of the chapter: RWM, 0x3400 to 0x37FF. -/
def safConfigDefs : List EntryDef := (catPage 0x34).filter (fun d => d.acc == .rwm)

/-- `saf_cfg_crc`: the CRC of R319 over the raw values of every RWM entry, in index and element order. -/
def cfgCrc (s : State) : Nat :=
  crc 32 0xF4AC_FB13 (safConfigDefs.flatMap (fun d =>
    (List.range (match s.variant with | .x => d.nX | .s => d.nS)).flatMap (fun e => beBytes d.ty.size (s.rd d.idx e)))) 0xFFFF_FFFF

/-- CONFIG_MISMATCH. -/
def cfgMismatch (s : State) : Bool := s.rd Od.saf_cfg_expect != 0 && s.rd Od.saf_cfg_expect != cfgCrc s

/-- `saf_state` (R331). -/
def safStateView (s : State) : Nat :=
  s.rd Od.saf_state % 8 + 8 * b2n (s.mode == .safeHold) + 16 * b2n (anyLatch s) + 32 * b2n (cfgMismatch s)

/-! ## Signals (R306) -/

/-- The pair of a car's lift function (R313). -/
def carPair (s : State) (k f : Nat) : Nat := s.rd Od.saf_lift_pair (k * 6 + f)

/-- The result of a pair. -/
def pairRes (s : State) (p : Nat) : Bool := decide (p < safPairs s) && s.rd Od.saf_in_result p == 1

/-- The result of a car's lift function; an unmapped function reads 0. -/
def carIn (s : State) (k f : Nat) : Bool := s.variant == .x && pairRes s (carPair s k f)

/-- INSP: an inspection switch is in the inspection position; with no pair mapped there is none (R313). -/
def carInsp (s : State) (k : Nat) : Bool := decide (carPair s k 4 < safPairs s) && s.variant == .x && !(carIn s k 4)

/-- A safety signal. -/
def signal (s : State) (n : Nat) : Bool :=
  if n < 16 then pairRes s n
  else if n < 24 then decide (n - 16 < safOuts s) && !((codesOf s (n - 16)).any edmCode)
  else if n < 32 then false
  else if n < 96 then
    let src := s.rd Od.saf_rsig_src (n - 32)
    src != 0xFFFF && (connOf s (src / 64)).applied.testBit (src % 64)
  else if n < 104 then
    let k := (n - 96) / 4
    let c := permitOf s k
    s.variant == .x && (match (n - 96) % 4 with
      | 0 => c.run
      | 1 => c.door
      | 2 => !(s.mer.ucm.contains k)
      | _ => c.slow)
  else if n = 104 then s.mode != .safeHold
  else n == 127

/-- The signals a mask of R314 selects. -/
def maskSignals (m : Nat) : List Nat := (List.range 128).filter (fun n => (byteAt 16 m (n / 8)).testBit (n % 8))

/-! ## Input pairs (R307 to R312) -/

/-- What the channels of a pair say in one cycle. -/
structure PairView where
  /-- every channel in its normal state -/
  ok : Bool
  demand : Bool
  both : Bool
  disagree : Bool
  /-- hand 2 of a two-hand control (R310) -/
  disagree2 : Bool := false

/-- The view of a pair of kinds 1, 2, 4, 5, 6 and 8, from its levels. -/
def levelView (kind ty : Nat) (a b : Bool) : PairView :=
  if kind = 6 then ⟨true, false, !a, false, false⟩
  else if kind = 8 then ⟨a != b, a == b, !a && !b, false, false⟩
  else
    let bn := if (kind = 2 ∨ kind = 5) ∧ ty = 1 then !b else b
    ⟨a && bn, !(a && bn), !a && !bn, a != bn, false⟩

/-- The 500 ms of R310 and the 100 ms and 5 s of R311 in island cycles. -/
def cycles500ms : Nat := 2000
def cycles100ms : Nat := 400
def cycles5s : Nat := 20000

/-- The hands of a two-hand control (R310). -/
def handsStep (x : PairState) (a1 b1 a2 b2 : Bool) : PairState × PairView :=
  let act1 := a1 && !b1
  let act2 := a2 && !b2
  let age (h : Option Nat) (act : Bool) : Option Nat := if act then some (min (match h with | some n => n + 1 | none => 0) (2 * cycles5s)) else none
  let h1 := age x.h1 act1
  let h2 := age x.h2 act2
  let late : Bool := match h1, h2 with
    | some n, some m => decide (cycles500ms < n - m) || decide (cycles500ms < m - n)
    | some n, none => decide (cycles500ms < n)
    | none, some m => decide (cycles500ms < m)
    | none, none => false
  let released := !a1 && b1 && !a2 && b2
  let sync := if released then false else x.sync || late
  ({ x with h1 := h1, h2 := h2, sync := sync },
    ⟨act1 && act2 && !sync, !(act1 && act2), released, a1 == b1, a2 == b2⟩)

/-- A channel speed in m/s from the pulses of its 10 ms window (R312). -/
def winSpeed (w : List Nat) (ppm : Frac) : Frac := (Frac.mk (100 * (w.foldl (· + ·) 0 : Nat)) 1).div ppm

/-- The speed sensors of a kind 7 pair (R312). -/
def speedStep (s : State) (p : Nat) (x : PairState) (pa pb : Nat) : PairState × PairView × Frac :=
  let wa := (pa :: x.winA).take 40
  let wb := (pb :: x.winB).take 40
  let ppm := s.rdQ Od.saf_speed_ppm p
  let va := winSpeed wa ppm
  let vb := winSpeed wb ppm
  let hi := Frac.max va vb
  let differ := ((hi.mul ⟨1, 10⟩).add ⟨2, 100⟩).lt ((va.sub vb).abs)
  let qa := if pa = 0 then min (x.quietA + 1) cycles5s else 0
  let qb := if pb = 0 then min (x.quietB + 1) cycles5s else 0
  let na := if pb = 0 then x.sinceA + pa else 0
  let nb := if pa = 0 then x.sinceB + pb else 0
  let silent := (decide (8000 ≤ qa) && decide (20 < nb)) || (decide (8000 ≤ qb) && decide (20 < na))
  let cnt := if differ then x.disc + 1 else 0
  let bad := decide (4 * s.rd Od.saf_in_disc p < cnt) || silent
  let slow := va.lt ⟨3, 10⟩ && vb.lt ⟨3, 10⟩ && !bad && s.rd Od.saf_in_latch p == 0
  ({ x with winA := wa, winB := wb, quietA := qa, quietB := qb, sinceA := na, sinceB := nb, slow := slow },
    ⟨!bad, bad, !bad, differ, false⟩, hi)

/-- A pair takes a latch, 1 discrepancy or 2 test pulse (R309). -/
def latchPair (s : State) (p code : Nat) : State :=
  let bit := if code = 1 then 3 else 4
  if s.rdBit Od.saf_in_status bit p then s
  else
    let s1 := ((s.wrBit Od.saf_in_status bit true p).wr Od.saf_in_latch code p).count Od.saf_in_faults p
    let s2 := safEvent (latchSet s1) 1 p 2 code
    putPair (s2.wr Od.saf_in_result 0 p) p { pairOf s2 p with phase := 0 }

/-- The input filter (R307): a level that has stood otherwise than the passed one in `off` cycles before this one passes once that is
`saf_in_filter` (log entry 157). -/
def passLevel (us : Nat) (level : Bool) (off : Nat) (raw : Bool) : Bool × Nat :=
  if raw = level then (level, 0) else if us ≤ 250 * off then (raw, 0) else (level, off + 1)

/-- A pair with the levels its filter passes in this cycle. -/
def filtered (i : IslandIn) (s : State) (p : Nat) : PairState :=
  let x := pairOf s p
  let fa := passLevel (s.rd Od.saf_in_filter p) x.a x.offA (i.a.testBit p)
  let fb := passLevel (s.rd Od.saf_in_filter p) x.b x.offB (i.b.testBit p)
  { x with a := fa.1, offA := fa.2, b := fb.1, offB := fb.2 }

/-- The level of a reset source (R311). -/
def resetLevel (s : State) (n : Nat) : Bool :=
  if n < 16 then (if s.rd Od.saf_in_kind n = 6 then (pairOf s n).a else signal s n) else decide (n ≠ 0xFF) && signal s n

/-- The result and the status of a pair follow its view (R308, R309, R311). -/
def pairResult (s : State) (p : Nat) (x : PairState) (v : PairView) (level a b : Bool) : State :=
  let kind := s.rd Od.saf_in_kind p
  let latch := s.rd Od.saf_in_latch p
  let phase := if latch = 0 then 0 else if x.phase = 0 ∧ v.both then 1 else if x.phase = 1 ∧ v.ok then 2 else x.phase
  let reset := !level && decide (cycles100ms ≤ x.rst) && decide (x.rst ≤ cycles5s)
  let free := s.rd Od.saf_in_restart p == 0 || s.rd Od.saf_in_result p == 1
  let may := latch == 0 && v.ok && kind != 6
  let res := may && (free || reset)
  let wait := may && !res
  let st := b2n a + 2 * b2n b + 4 * b2n v.demand + 8 * b2n (s.rdBit Od.saf_in_status 3 p) + 16 * b2n (s.rdBit Od.saf_in_status 4 p) +
    32 * b2n x.sync + 64 * b2n wait
  putPair ((s.wr Od.saf_in_result (b2n res) p).wr Od.saf_in_status st p) p
    { x with phase := phase, rst := if level then min (x.rst + 1) (cycles5s + 1) else 0 }

/-- One pair in one cycle (R308 to R312). While VSAFE_LOW is set, a pair fed by its test-pulse outputs reads low (R422). -/
def evalPair (i : IslandIn) (s : State) (p : Nat) : State :=
  let kind := s.rd Od.saf_in_kind p
  let dark (q : Nat) : Bool := vsafeLow s && s.rd Od.saf_in_tp q == 1 && kind != 7
  let a := (pairOf s p).a && !(dark p)
  let b := (pairOf s p).b && !(dark p)
  if kind = 0 then
    let latched := 8 * b2n (s.rdBit Od.saf_in_status 3 p) + 16 * b2n (s.rdBit Od.saf_in_status 4 p)
    ((s.wr Od.saf_in_result 0 p).wr Od.saf_in_status (b2n a + 2 * b2n b + latched) p).wr Od.saf_speed f32NaN p
  else
    let x := pairOf s p
    let r : PairState × PairView × Nat :=
      if kind = 3 then
        let h := handsStep x a b ((pairOf s (p + 1)).a && !(dark (p + 1))) ((pairOf s (p + 1)).b && !(dark (p + 1)))
        (h.1, h.2, f32NaN)
      else if kind = 7 then
        let n := (i.pulses.find? (fun t => t.1 == p)).getD (p, 0, 0)
        let h := speedStep s p x n.2.1 n.2.2
        (h.1, h.2.1, qf32 h.2.2)
      else (x, levelView kind (s.rd Od.saf_in_type p) a b, f32NaN)
    let v : PairView := if dark p then ⟨false, true, r.2.1.both, false, false⟩ else r.2.1
    let up (differs : Bool) (n : Nat) : Nat := if differs then min (n + 1) (cycles5s + 1) else 0
    let x1 := { r.1 with disc := up v.disagree r.1.disc, disc2 := up v.disagree2 r.1.disc2 }
    let s1 := putPair (s.wr Od.saf_speed r.2.2 p) p x1
    let s2 := if 4 * s.rd Od.saf_in_disc p < max x1.disc x1.disc2 then latchPair s1 p 1 else s1
    pairResult s2 p (pairOf s2 p) v (resetLevel s (s.rd Od.saf_in_reset p)) a b

/-- A test-pulse fault (R307): the channel's own input stays high through its pulse, or the other channel falls during it. -/
def pulseFault (x : PairState) (b siA siB : Bool) : Bool := if b then siB || (x.a && !siA) else siA || (x.b && !siB)

/-- The pair that evaluates the channels of a pair: hand 2 of a two-hand control belongs to the pair before it (R308, R310; log entry 190). -/
def judgeOf (s : State) (p : Nat) : Nat := if p % 2 = 1 ∧ s.rd Od.saf_in_kind p = 0 ∧ s.rd Od.saf_in_kind (p - 1) = 3 then p - 1 else p

/-- INPUT_TEST_PULSE (R307, R309, R312), suspended by VSAFE_LOW (R422). -/
def inputTestPulse (p : Nat) (b siA siB : Bool) (s : State) : State :=
  let q := judgeOf s p
  let kind := s.rd Od.saf_in_kind q
  if powered s ∧ p < safPairs s ∧ s.rd Od.saf_in_tp p = 1 ∧ kind ≠ 0 ∧ kind ≠ 7 ∧ !(vsafeLow s) ∧ pulseFault (pairOf s p) b siA siB then latchPair s q 2
  else s

/-! ## Cars (R294 to R296) -/

/-- The outputs of one kind. -/
def outsOfKind (s : State) (kind : Nat) : List Nat := (List.range (safOuts s)).filter (fun o => s.rd Od.saf_out_kind o == kind)

/-- Whether a car's brake output is on. -/
def brakeOn (s : State) (k : Nat) : Bool := (outsOfKind s (2 + 2 * k)).any (fun o => (outOf s o).on)

/-- Whether a car's drive-contactor output is on. -/
def driveOn (s : State) (k : Nat) : Bool := (outsOfKind s (3 + 2 * k)).any (fun o => (outOf s o).on)

/-- RUN_PERMIT (R294). -/
def runPermit (schain lock dz slow bridge ucm hold : Bool) : Bool :=
  schain && !ucm && !hold && (lock || (dz && slow && bridge))

/-- DOOR_PERMIT (R295). -/
def doorPermit (dz slow insp : Bool) : Bool := dz && slow && !insp

/-- UCM (R296), from the signals of the last cycle and of this one: `brake` says that the brake output is on, or that the car has none. -/
def ucmDetected (lock dzOld dz slowOld slow brake : Bool) : Bool :=
  (!lock && dzOld && !dz) || (!brake && ((slowOld && !slow) || (dzOld && !dz)))

/-- One car in one cycle: UCM, then the permits. -/
def evalCar (s : State) (k : Nat) : State :=
  let c := permitOf s k
  let lock := carIn s k 1
  let dz := carIn s k 2
  let p := carPair s k 3
  let slow := decide (p < safPairs s) && s.variant == .x && (pairOf s p).slow
  let hasBrake := outsOfKind s (2 + 2 * k) != []
  let hit := !(s.mer.ucm.contains k) && ucmDetected lock c.dz dz c.slow slow (!hasBrake || brakeOn s k)
  let s1 := if hit then
      let t := latchSet { s with mer := { s.mer with ucm := s.mer.ucm ++ [k] } }
      setTrip (safEvent t 8 k 3 1) (tripUCM + k)
    else s
  let ucm := s1.mer.ucm.contains k
  putPermit s1 k ⟨dz, slow, runPermit (carIn s k 0) lock dz slow (liftCar s k).bridge ucm (s.mode == .safeHold),
    doorPermit dz slow (carInsp s k)⟩

/-! ## Outputs (R314 to R317) -/

/-- The EDM inputs an output names. -/
def edmOf (s : State) (o : Nat) : List Nat := ([s.rd Od.saf_edm_in (2 * o), s.rd Od.saf_edm_in (2 * o + 1)]).filter (· != 0xFF)

/-- The two switches of an output open. -/
def switchOff (s : State) (o : Nat) : State :=
  let x := outOf s o
  if x.on then putOut s o { x with on := false, stage := if edmOf s o = [] then 0 else 1, timer := 0 } else s

/-- `saf_out_state` follows. -/
def showOut (s : State) (o : Nat) : State :=
  s.wr Od.saf_out_state (if (outOf s o).on then 1 else if s.rd Od.saf_out_fault o ≠ 0 then 2 else 0) o

/-- Every safety output is off. -/
def outsOff (s : State) : State := (List.range (safOuts s)).foldl (fun t o => showOut (switchOff t o) o) s

/-- The code an output shows makes room for another. -/
def noteCode (s : State) (o : Nat) : State :=
  { s with mer := { s.mer with outEarlier := match codesOf s o with
      | [] => tabDel o s.mer.outEarlier
      | cs => tabPut o cs s.mer.outEarlier } }

/-- An output latches a fault code (R316, R317), on top of another that it holds already; a code held is not latched again. -/
def latchOut (s : State) (o code : Nat) : State :=
  let s0 := switchOff s o
  let s1 := if stageModule code then putOut s0 o { outOf s0 o with bad := true } else s0
  if (codesOf s1 o).contains code then showOut s1 o
  else
    let s2 := latchSet (((noteCode s1 o).wr Od.saf_out_fault code o).count Od.saf_out_faults o)
    let s3 := safEvent s2 (if edmCode code then 3 else 2) o 2 code
    let s4 := if stageModule code then setTrip s3 tripOUTPUT else if edmModule code then setTrip s3 tripEDM else s3
    showOut s4 o

/-- Whether an output is requested (R314 point 3). -/
def outRequested (s : State) (o : Nat) : Bool :=
  let kind := s.rd Od.saf_out_kind o
  if kind = 1 then s.rd Od.saf_out_req o == 1
  else
    let k := (kind - 2) / 2
    decide (2 ≤ kind) && (permitOf s k).run && (if kind % 2 = 0 then (liftCar s k).brakeReq else (liftCar s k).driveReq)

/-- The conditions of R314 but for the EDM check before switch-on. -/
def outPermitted (s : State) (o : Nat) : Bool :=
  s.rd Od.saf_out_kind o != 0 && s.rd Od.saf_out_fault o == 0 && (maskSignals (s.rd Od.saf_out_mask o)).all (signal s) &&
    outRequested s o && running s && s.mode != .safeHold && s.rd Od.saf_trip_cause == 0 && !(cfgMismatch s)

/-- One output in one cycle (R314, R315, R317). -/
def evalOut (i : IslandIn) (s : State) (o : Nat) : State :=
  let x := outOf s o
  let ins := edmOf s o
  let allHigh := ins.all (fun n => i.edm.testBit n)
  let allLow := ins.all (fun n => !(i.edm.testBit n))
  let lim := 4 * s.rd Od.saf_edm_time o
  let perm := outPermitted s o
  if x.on then
    if !perm then showOut (switchOff s o) o
    else if allLow then putOut s o { x with stage := 3 }
    else if x.stage = 3 then latchOut s o 9
    else if lim < x.timer + 1 then latchOut s o 8
    else putOut s o { x with timer := x.timer + 1 }
  else if i.soHigh.testBit o ∧ !(vsafeLow s) then latchOut s o 1
  else
    let s1 := if (codesOf s o).contains 1 then putOut s o { x with bad := false } else s
    if x.stage = 1 then
      if allHigh then putOut s1 o { outOf s1 o with stage := 0 }
      else if lim < x.timer + 1 then latchOut (putOut s1 o { outOf s1 o with stage := 0 }) o 10
      else putOut s1 o { outOf s1 o with timer := x.timer + 1 }
    else if perm ∧ x.tests = 0 then
      if allHigh then showOut (putOut s1 o { outOf s1 o with on := true, stage := if ins = [] then 3 else 2, timer := 0 }) o
      else latchOut s1 o 7
    else s1

/-- OUTPUT_TEST_PULSE (R315, R316, R328): the readback rules of the pulse, 5,000 and 19,000 mV; suspended by VSAFE_LOW (R422). -/
def outputTestPulse (o : Nat) (half : Bool) (soH soL : Nat) (moved demand : Bool) (s : State) : State :=
  if powered s ∧ o < safOuts s ∧ !demand ∧ !(vsafeLow s) then
    let on := (outOf s o).on
    let code :=
      if on then (if half then (if 19000 < soL then 0 else 2) else if soH < 5000 then 0 else 1)
      else if half then (if soL < 5000 then 0 else 4) else if 19000 < soH then 0 else 3
    if code ≠ 0 then latchOut s o code
    else if moved then latchOut s o 6
    else putOut s o { outOf s o with bad := false, tests := (outOf s o).tests - 1 }
  else s

/-- OUTPUT_OVERLOAD (R315). -/
def outputOverload (o : Nat) (s : State) : State := if powered s ∧ o < safOuts s then latchOut s o 5 else s

/-! ## The cycle -/

/-- A safety island core fault, or a clock fault the safety oscillator sees: every output off, CORE set (R25, R323). -/
def islandFault (s : State) : State := outsOff (setTrip (raiseFault s bitSafetyCore) tripCORE)

/-- The causes that follow a present condition (R323). -/
def liveCauses (s : State) : State :=
  let trips := (List.range (safPairs s)).any (fun p => s.rd Od.saf_in_trip p == 1 && s.rd Od.saf_in_result p == 0)
  let s1 := if trips then setTrip s tripINPUT else clearTrip s tripINPUT
  let mis := cfgMismatch s1
  if mis ∧ s1.mode ≠ .maintenance ∧ s1.mode ≠ .commission then setTrip s1 tripCONFIG
  else if mis then s1 else clearTrip s1 tripCONFIG

/-- ISLAND_CYCLE (R305 to R317, R323, R326, R327). -/
def islandCycle (i : IslandIn) (s : State) : State :=
  if powered s then
    let s0 := s.wr Od.saf_state (1 + 2 * b2n i.coreA + 4 * b2n i.coreB)
    let sf := (List.range (safPairs s)).foldl (fun t p => putPair t p (filtered i t p)) s0
    let s1 := (List.range (safPairs s)).foldl (evalPair i) sf
    let s2 := if s.variant = .x then evalCar (evalCar s1 0) 1 else s1
    let s3 := liveCauses s2
    let s4 := if i.coreA ∧ i.coreB ∧ i.clockOk then s3 else islandFault s3
    let s5 := (List.range (safOuts s)).foldl (fun t e => t.wr Od.saf_edm_level (b2n (i.edm.testBit e)) e) s4
    (List.range (safOuts s)).foldl (evalOut i) s5
  else s

/-! ## Macaron connections (R319 to R322) -/

/-- A connection's direction. -/
def macDir (s : State) (c : Nat) : Nat := s.rd Od.saf_mac_dir c

/-- A connection opens: state 1, or 4 while its mismatch latch is set (R327); with `saf_mac_restart` 1 it awaits an acknowledgement
(R322). -/
def openConn (s : State) (c : Nat) : State :=
  let s1 := putConn s c { needAck := s.rd Od.saf_mac_restart c == 1 }
  (s1.wr Od.saf_mac_state (if macDir s c = 0 then 0 else if s.rd Od.saf_mac_latch c = 1 then 4 else 1) c).wr Od.saf_mac_seq 0 c

/-- The data of a producer message (R320). -/
def macData (s : State) (c : Nat) : List Nat :=
  let bit (i : Nat) : Bool :=
    let n := s.rd Od.saf_prod_sig (c * 64 + i)
    n != 0xFF && !(s.rdBit Od.saf_trip_cause tripCORE) && signal s n
  (List.range (s.rd Od.saf_mac_len c)).map (fun j => (List.range 8).foldl (fun a b => a + 2 ^ b * b2n (bit (j * 8 + b))) 0)

/-- A PDU (R319). -/
def macPdu (id num : Nat) (data : List Nat) : List Nat :=
  let head := [1, 1] ++ beBytes 2 id ++ beBytes 4 num ++ beBytes 2 data.length ++ [0, 0] ++ data
  head ++ beBytes 4 (crc 32 0xF4AC_FB13 head 0xFFFF_FFFF)

/-- The number after a number (R319). -/
def macNext (n : Nat) : Nat := if n = 0xFFFF_FFFF then 1 else n + 1

/-- MACARON_PRODUCER_SEND (R320, R327): the next message, once on each LAN from queue 7. -/
def macaronProducerSend (c : Nat) (s : State) : State :=
  if running s ∧ c < 32 ∧ macDir s c = 1 ∧ (upUsable s 0 ∨ upUsable s 1) then
    let num := match (connOf s c).last with
      | some n => macNext n
      | none => 1
    let pdu := macPdu (s.rd Od.saf_mac_id c) num (macData s c)
    let dst := s.rd Od.saf_mac_peer c
    let s1 := if prp s then sendUp s 0 7 64 dst else enqueue (enqueue s 0 7 { len := 64 }) 1 7 { len := 64 }
    let s2 := putConn s1 c { connOf s1 c with last := some num }
    ((s2.wr Od.saf_mac_state 2 c).wr Od.saf_mac_seq num c).send (.macaron c dst num pdu)
  else s

/-- The consumer connection of an ID. -/
def consumerOf (s : State) (id : Nat) : Option Nat := (List.range 32).find? (fun c => macDir s c == 2 && s.rd Od.saf_mac_id c == id)

/-- The PDU bytes of a copy, without padding and trailer. -/
def copyPdu (s : State) (c : Nat) (bytes : List Nat) : List Nat := bytes.take (16 + s.rd Od.saf_mac_len c)

/-- Whether a copy is valid (R321). -/
def copyValid (s : State) (c src : Nat) (pdu : List Nat) : Bool :=
  let n := s.rd Od.saf_mac_len c
  pdu.length == 16 + n && src == s.rd Od.saf_mac_peer c && pdu.getD 0 0 == 1 && pdu.getD 1 0 == 1 &&
    ofBytes (slice pdu 2 2) == s.rd Od.saf_mac_id c && ofBytes (slice pdu 4 4) != 0 && ofBytes (slice pdu 8 2) == n &&
    ofBytes (slice pdu (12 + n) 4) == crc 32 0xF4AC_FB13 (pdu.take (12 + n)) 0xFFFF_FFFF

/-- The data bits of a PDU: bit i is bit i mod 8 of byte i / 8. -/
def pduBits (pdu : List Nat) : Nat := (slice pdu 12 (pdu.length - 16)).reverse.foldl (fun a b => a * 256 + b) 0

/-- A connection goes to its safe state, 3 (R322). -/
def macSafe (s : State) (c : Nat) : State :=
  if s.rd Od.saf_mac_state c = 4 then s
  else putConn (s.wr Od.saf_mac_state 3 c) c { connOf s c with applied := 0, needAck := s.rd Od.saf_mac_restart c == 1 }

/-- Whether a number is past another (R319, R321). -/
def macPast (last : Option Nat) (num : Nat) : Bool :=
  match last with
  | none => true
  | some l => num == macNext l || decide (l < num)

/-- A connection with a message done with: its number is the last one, and copies of earlier messages are held no more; the numbers skipped
are counted (R321, log entry 192). -/
def macDone (s : State) (c num : Nat) : State :=
  let x := connOf s c
  let s1 := match x.last with
    | some l => if l < num ∧ num ≠ macNext l then s.count Od.saf_mac_gap c (num - macNext l) else s
    | none => s
  putConn s1 c { x with last := some num, held := x.held.filter (fun h => macPast (some num) h.2.1) }

/-- A content mismatch (R321). -/
def macMismatch (s : State) (c : Nat) : State :=
  let s1 := putConn s c { connOf s c with applied := 0 }
  safEvent (latchSet ((s1.wr Od.saf_mac_latch 1 c).wr Od.saf_mac_state 4 c)) 4 c 2 1

/-- A message is accepted, from both copies or, where `absent` names a LAN, from one (R321, R322). -/
def macAccept (s : State) (c num : Nat) (pdu : List Nat) (absent : Option Nat) : State :=
  let st := s.rd Od.saf_mac_state c
  let s1 := ((macDone s c num).count Od.saf_mac_rx c).wr Od.saf_mac_seq num c
  let x := connOf s1 c
  let place := s1.rd Od.saf_mac_rx c
  let x1 := { x with singles := x.singles.filter (fun m => decide (place ≤ m.place + 4)) }
  match absent with
  | none =>
    let s2 := (s1.wr Od.saf_mac_missing 0 (c * 2)).wr Od.saf_mac_missing 0 (c * 2 + 1)
    if st = 2 ∨ ((st = 1 ∨ st = 3) ∧ !x.needAck) then putConn (s2.wr Od.saf_mac_state 2 c) c { x1 with applied := pduBits pdu }
    else putConn s2 c x1
  | some lan =>
    let s2 := (s1.wr Od.saf_mac_missing 0 (c * 2 + (1 - lan))).count Od.saf_mac_missing (c * 2 + lan)
    let x2 := { x1 with singles := x1.singles ++ [⟨num, pdu, lan, place⟩] }
    let s3 := putConn s2 c (if st = 2 then { x2 with applied := pduBits pdu } else x2)
    if 4 ≤ s3.rd Od.saf_mac_missing (c * 2 + lan) then macSafe s3 c else s3

/-- MACARON_SKEW_EXPIRY (R321): the window of the copy held longest. -/
def macaronSkewExpiry (c : Nat) (s : State) : State :=
  match (connOf s c).held with
  | (lan, num, pdu) :: _ => if running s ∧ macDir s c = 2 then macAccept s c num pdu (some (1 - lan)) else s
  | [] => s

/-- A copy with a new number: safe-ward changes are applied at once, and the copy is held (R321). -/
def macHold (s : State) (c lan num : Nat) (pdu : List Nat) : State :=
  let x := connOf s c
  putConn s c { x with held := x.held ++ [(lan, num, pdu)], applied := x.applied &&& pduBits pdu }

/-- A copy of a message of which no copy is held (R321). -/
def macFresh (s : State) (c lan num : Nat) (pdu : List Nat) : State :=
  let x := connOf s c
  match x.singles.find? (fun m => m.num == num && m.absent == lan) with
  | some m =>
    if m.pdu = pdu then putConn s c { x with singles := x.singles.erase m } else macMismatch s c
  | none =>
    match x.last with
    | none => macHold s c lan num pdu
    | some l =>
      if macPast x.last num then macHold s c lan num pdu
      else if num = 1 ∧ 1 < l then
        let s1 := if s.rd Od.saf_mac_state c = 4 then s else s.wr Od.saf_mac_state 1 c
        macHold (putConn s1 c { needAck := x.needAck || s.rd Od.saf_mac_restart c == 1 }) c lan num pdu
      else s.count Od.saf_mac_gap c

/-- MACARON_COPY_RX (R319, R321): on an uplink that carries traffic (R76, R122). -/
def macaronCopyRx (lan src : Nat) (bytes : List Nat) (s : State) : State :=
  if running s ∧ lan < 2 ∧ upUsable s lan then
    match consumerOf s (ofBytes (slice bytes 2 2)) with
    | none => s
    | some c =>
      let pdu := copyPdu s c bytes
      if !(copyValid s c src pdu) then s.count Od.saf_mac_crc_err c
      else
        let num := ofBytes (slice pdu 4 4)
        match (connOf s c).held.find? (fun h => h.2.1 == num) with
        | none => macFresh s c lan num pdu
        | some (l, _, p) =>
          if l = lan then s.count Od.saf_mac_gap c
          else if p = pdu then macAccept s c num pdu none
          else macMismatch (macDone s c num) c
  else s

/-- MACARON_WATCHDOG (R322). -/
def macaronWatchdog (c : Nat) (s : State) : State :=
  if running s ∧ c < 32 ∧ macDir s c = 2 ∧ s.rd Od.saf_mac_state c ≠ 0 then macSafe s c else s

/-! ## Acknowledgement (R323, R324) -/

/-- Whether the cause of an output's latch has cleared: the output is off and its latest readback met the rules; the
codes of R317 need every contact closed, as an output that is off has them (R316, R317). -/
def outCauseGone (s : State) (o : Nat) : Bool :=
  !(outOf s o).on && !(outOf s o).bad &&
    (!((codesOf s o).any edmCode) || (edmOf s o).all (fun n => s.rd Od.saf_edm_level n == 1))

/-- `saf_ack`: every latch whose cause has cleared is acknowledged (R324). -/
def ackLatches (s : State) : State :=
  let s1 := (List.range (safPairs s)).foldl (fun t p =>
    if t.rd Od.saf_in_latch p ≠ 0 ∧ (pairOf t p).phase = 2 then
      putPair (((t.wr Od.saf_in_latch 0 p).wrBit Od.saf_in_status 3 false p).wrBit Od.saf_in_status 4 false p) p { pairOf t p with phase := 0, disc := 0, disc2 := 0 }
    else t) s
  let s2 := (List.range (safOuts s)).foldl (fun t o =>
    if t.rd Od.saf_out_fault o ≠ 0 ∧ outCauseGone t o then
      showOut ({ t with mer := { t.mer with outEarlier := tabDel o t.mer.outEarlier } }.wr Od.saf_out_fault 0 o) o
    else t) s1
  let s3 := (List.range 32).foldl (fun t c =>
    let t0 := if t.rd Od.saf_mac_latch c = 1 then t.wr Od.saf_mac_latch 0 c else t
    let t1 := if t.rd Od.saf_mac_latch c = 1 ∧ t.rd Od.saf_mac_state c = 4 then t0.wr Od.saf_mac_state 1 c else t0
    if macDir t c = 2 then putConn t1 c { connOf t1 c with needAck := false } else t1) s2
  let s4 := if (outCodes s3).any stageModule then s3 else clearTrip s3 tripOUTPUT
  let s5 := if (outCodes s4).any edmModule then s4 else clearTrip s4 tripEDM
  safEvent s5 6 0xFF 0 0 false

/-- `saf_ucm_ack` (R324). -/
def ackUcm (s : State) (k : Nat) : State :=
  if s.mer.ucm.contains k then
    safEvent (clearTrip { s with mer := { s.mer with ucm := s.mer.ucm.erase k } } (tripUCM + k)) 8 k 0 0 false
  else s

/-- A reserved signal (R306). -/
def reservedSignal (n : Nat) : Bool := (decide (24 ≤ n) && decide (n ≤ 31)) || (decide (105 ≤ n) && decide (n ≤ 126))

/-- The chapter's own refusals (R305, R314, R324). -/
def safExtra (s : State) (port i e v : Nat) : Extra :=
  if i = Od.saf_out_kind then { variant := s.variant == .s && decide (2 ≤ v) && decide (v ≤ 5) }
  else if i = Od.saf_out_mask then { range := (maskSignals v).any reservedSignal }
  else if i = Od.saf_out_req then { denied := s.rd Od.saf_out_kind e != 1 }
  else if i = Od.saf_ucm_ack then
    { denied := tenantOf s port != 2
      mode := brakeOn s e || driveOn s e || (s.rdQ Od.lft_speed e).num != 0 }
  else {}

/-- An applied write of a safety entry (R324). -/
def safApply (s : State) (i e v : Nat) : Option State :=
  if i = Od.saf_ack then some (if v = s.rd Od.saf_latch_gen then ackLatches s else s)
  else if i = Od.saf_ucm_ack then some (if v = s.rd Od.saf_latch_gen then ackUcm s e else s)
  else if i = Od.saf_hold_exit then
    some (if v = s.rd Od.saf_trip_gen ∧ s.rd Od.saf_trip_cause = 0 ∧ s.mode = .safeHold then { s with saf := { s.saf with exitDue := true } } else s)
  else none

/-! ## Commits (R310, R311, R313, R314, R317, R322, R326) -/

/-- Pairwise difference of a list. -/
def noRepeats : List Nat → Bool
  | [] => true
  | x :: xs => !(xs.contains x) && noRepeats xs

/-- The rules for one input pair. An unused pair is held to a reset source where the commit wrote its restart or its source
(R311, log entry 193). -/
def pairLegal (s : State) (touched : List (Nat × Nat)) (p : Nat) : Bool :=
  let kind := s.rd Od.saf_in_kind p
  let src := s.rd Od.saf_in_reset p
  let needs := s.rd Od.saf_in_restart p == 1 && (kind != 0 || touched.contains (Od.saf_in_restart, p) || touched.contains (Od.saf_in_reset, p))
  (kind != 3 || (p % 2 == 0 && s.rd Od.saf_in_kind (p + 1) == 0)) &&
    (!needs || (decide (src < safPairs s) && s.rd Od.saf_in_kind src == 6) || (decide (32 ≤ src) && decide (src ≤ 95)))

/-- The pair kind of a lift function (R313). -/
def liftKind (f : Nat) : Nat := if f = 3 then 7 else if f = 5 then 8 else 5

/-- The rules for one output. -/
def outLegal (s : State) (o : Nat) : Bool :=
  let kind := s.rd Od.saf_out_kind o
  let sel := maskSignals (s.rd Od.saf_out_mask o)
  (kind != 1 || sel != []) && !(sel.any reservedSignal) &&
    (kind < 2 || (List.range 4).all (fun f => s.rd Od.saf_lift_pair ((kind - 2) / 2 * 6 + f) != 0xFF)) &&
    (edmOf s o).all (fun n => decide (n < safOuts s))

/-- The rules for one connection and for one remote signal (R322): the ID is an enabled connection's, the watchdog's limits are every
connection's. -/
def connLegal (s : State) (c : Nat) : Bool :=
  (macDir s c == 0 || s.rd Od.saf_mac_id c != 0) && decide (3 * s.rd Od.saf_mac_period c ≤ s.rd Od.saf_mac_wd c) &&
    decide (s.rd Od.saf_skew < s.rd Od.saf_mac_wd c)
def remoteLegal (s : State) (r : Nat) : Bool :=
  let src := s.rd Od.saf_rsig_src r
  src == 0xFFFF || (decide (src / 64 < 32) && macDir s (src / 64) == 2 && decide (src % 64 < s.rd Od.saf_mac_len (src / 64) * 8))

/-- Whether a commit leaves a refused safety configuration. -/
def safLeaves (s : State) (touched : List (Nat × Nat)) : Bool :=
  let mapped := if s.variant = .x then ((List.range 12).filter (fun e => s.rd Od.saf_lift_pair e != 0xFF)) else []
  let kinds := ((List.range (safOuts s)).map (fun o => s.rd Od.saf_out_kind o)).filter (fun k => decide (2 ≤ k))
  let edms := (List.range (safOuts s)).flatMap (fun o => (edmOf s o).eraseDups)
  let enabled := (List.range 32).filter (fun c => macDir s c != 0)
  !((List.range (safPairs s)).all (pairLegal s touched) && (List.range (safOuts s)).all (outLegal s) && noRepeats kinds && noRepeats edms &&
    mapped.all (fun e => decide (s.rd Od.saf_lift_pair e < 16) && s.rd Od.saf_in_kind (s.rd Od.saf_lift_pair e) == liftKind (e % 6)) &&
    noRepeats (mapped.map (fun e => s.rd Od.saf_lift_pair e)) &&
    (s.variant == .s || (List.range 4).all (fun d => s.rd Od.lft_door_lc d == 0xFF || (decide (s.rd Od.lft_door_lc d < 16) && s.rd Od.saf_in_kind (s.rd Od.lft_door_lc d) == 4))) &&
    (List.range 32).all (connLegal s) && noRepeats (enabled.map (fun c => s.rd Od.saf_mac_id c * 4 + macDir s c)) && (List.range 64).all (remoteLegal s))

/-- The signals whose configuration a changed entry belongs to (R326). -/
def signalsOf (s : State) (i e : Nat) : List Nat :=
  let car (k : Nat) : List Nat := [96 + 4 * k, 97 + 4 * k, 98 + 4 * k, 99 + 4 * k]
  let remote (c : Nat) : List Nat := ((List.range 64).filter (fun r => s.rd Od.saf_rsig_src r != 0xFFFF && s.rd Od.saf_rsig_src r / 64 == c)).map (· + 32)
  if 0x3410 ≤ i ∧ i ≤ 0x3418 then
    [e] ++ (if e % 2 = 1 ∧ s.rd Od.saf_in_kind (e - 1) = 3 then [e - 1] else []) ++
      (List.range 2).flatMap (fun k => if (List.range 6).any (fun f => carPair s k f == e) then car k else [])
  else if i = Od.saf_edm_in then [16 + e / 2]
  else if i = Od.saf_edm_time then [16 + e]
  else if i = Od.saf_rsig_src then [32 + e]
  else if i = Od.saf_skew then (List.range 32).flatMap remote
  else if (0x3480 ≤ i ∧ i ≤ 0x3486) then remote e
  else if i = Od.saf_lift_pair then car (e / 6)
  else []

/-- Whether a changed entry configures output `o` itself (R326). -/
def configuresOut (i e o : Nat) : Bool :=
  ((i == Od.saf_out_kind || i == Od.saf_out_mask || i == Od.saf_tp_period) && e == o) || (i == Od.saf_edm_in && e / 2 == o)

/-- What a commit that changed safety configuration does (R326): outputs off, an event, changed connections reopened. -/
def safCommitted (old s : State) (touched : List (Nat × Nat)) : State :=
  let changed := touched.filter (fun t => decide (0x3400 ≤ t.1) && decide (t.1 ≤ 0x37FF) && old.rd t.1 t.2 != s.rd t.1 t.2 && safConfigDefs.any (fun d => d.idx == t.1))
  if changed = [] then s
  else
    let sigs := changed.flatMap (fun t => signalsOf old t.1 t.2 ++ signalsOf s t.1 t.2)
    let s1 := (List.range (safOuts s)).foldl (fun t o =>
      let kind := s.rd Od.saf_out_kind o
      let reads := maskSignals (s.rd Od.saf_out_mask o) ++ (if 2 ≤ kind then [96 + 4 * ((kind - 2) / 2)] else [])
      if changed.any (fun x => configuresOut x.1 x.2 o) || reads.any (fun n => sigs.contains n) then showOut (switchOff t o) o else t) s
    let s2 := changed.foldl (fun t x =>
      if 0x3410 ≤ x.1 ∧ x.1 ≤ 0x3418 then
        let y := pairOf t x.2
        putPair t x.2 { a := y.a, b := y.b, offA := y.offA, offB := y.offB }
      else t) s1
    let conns := (changed.filterMap (fun x => if 0x3480 ≤ x.1 ∧ x.1 ≤ 0x3483 then some x.2 else none)).eraseDups
    safEvent (conns.foldl openConn s2) 7 0xFF 0 0

/-! ## Starts (R323, R327) -/

/-- The island when a start begins: everything volatile cleared, causes as the latches establish them, the status bits of latched pairs. -/
def islandBoot (s : State) : State :=
  let s1 := ({ s with saf := {} }).wr Od.saf_trip_cause (causesOfLatches s)
  (List.range (safPairs s)).foldl (fun t p =>
    let l := t.rd Od.saf_in_latch p
    if l = 1 then t.wrBit Od.saf_in_status 3 true p else if l = 2 then t.wrBit Od.saf_in_status 4 true p else t) (outsOff s1)

/-- The connections open when BOOT ends. -/
def islandStart (s : State) : State := (List.range 32).foldl (fun t c => if macDir t c = 0 then t else openConn t c) s

/-- Every safety output goes off at once, and the island halts (R60, R327). -/
def islandOff (s : State) : State := ({ outsOff s with saf := {} }).wr Od.saf_state 0

/-! ## Faults of an entry's own channel (R81, R297) -/

/-- The channel of an element of an entry with `n` channels. -/
def chanElem (d : EntryDef) (n e : Nat) : Nat := e * n / d.nX

/-- Whether the linked entry's own channel reports a fault in its chapter (R81, R180, R262, R264, R312, R326): which chapters'
channels these are is the model's reading (log entry 37). -/
def linkFault (s : State) (l : Nat × Nat) : Bool :=
  match entryDef? l.1 with
  | none => false
  | some d =>
    if l.1 / 256 = 0x20 ∧ d.nX % 32 = 0 ∧ d.nX ≠ 0 then anaPointFault s (chanElem d 32 l.2)
    else if l.1 = Od.fld_mb_in then s.rd Od.fld_mb_status l.2 % 256 != 1
    else if l.1 / 256 = 0x2C ∧ d.nX = 16 then decide (5 ≤ s.rd Od.mot_state l.2)
    else if Od.saf_in_kind ≤ l.1 ∧ l.1 ≤ Od.saf_in_latch ∧ d.nX = 16 then s.rd Od.saf_in_latch l.2 != 0
    else false

end Sys2Proof.Machine
end

