-- ==== Sys2Proof/Machine/Lift.lean ====
section
/-!
DEFINITION. Lift car and door control (R272 to R304).
-/
namespace Sys2Proof.Machine

/-! ## Parts of a car -/

def carChan (k : Nat) : Nat := 14 + k
def putCar (s : State) (k : Nat) (x : LiftCar) : State := { s with lft := { s.lft with cars := tabPut k x s.lft.cars } }
def doorOf (s : State) (d : Nat) : LiftDoor := tabGet {} d s.lft.doors
def putDoor (s : State) (d : Nat) (x : LiftDoor) : State := { s with lft := { s.lft with doors := tabPut d x s.lft.doors } }

/-- The channel of a door (R272): the one whose use is 4 + d. -/
def doorChan (s : State) (d : Nat) : Option Nat := (List.range (motCount s)).find? (fun c => useOf s c == 4 + d)

/-- The doors of a car that have a channel. -/
def carDoors (s : State) (k : Nat) : List Nat := ([2 * k, 2 * k + 1]).filter (fun d => (doorChan s d).isSome)

/-- The T1L port of a car's drive link (R136, R279). -/
def liftPort (s : State) (k : Nat) : Option Nat := (List.range 16).find? (fun p => s.rd Od.fld_t1l_role p == k + 1)

def landings (s : State) (k : Nat) : Nat := s.rd Od.lft_landings k
def landPos (s : State) (k l : Nat) : Int := toInt 64 (s.rd Od.lft_land_pos (k * 128 + l))
def vaneLo (s : State) (k l : Nat) : Int := toInt 64 (s.rd Od.lft_vane_lo (k * 128 + l))
def vaneHi (s : State) (k l : Nat) : Int := toInt 64 (s.rd Od.lft_vane_hi (k * 128 + l))

/-- `lft_land_pos` strictly increasing over the landings. -/
def landsRising (s : State) (k : Nat) : Bool := (List.range (landings s k - 1)).all (fun l => decide (landPos s k l < landPos s k (l + 1)))

/-- A landing table that passed a learning run or was written whole (log entry 30). -/
def tableWhole (s : State) (k : Nat) : Bool :=
  s.rd Od.lft_learn_result k == 1 ||
    (landsRising s k && (List.range (landings s k)).all (fun l => decide (vaneLo s k l < vaneHi s k l)))

/-- The channel and link conditions of R272. -/
def carWired (s : State) (k : Nat) : Bool :=
  s.variant == .x && s.rd Od.lft_enable k == 1 && useOf s (carChan k) == 8 + k && (liftPort s k).isSome

/-- The car is in service (R272); a learning run comes before its table. -/
def inService (s : State) (k : Nat) : Bool :=
  carWired s k && (tableWhole s k || (liftCar s k).due.contains .learn || (match (liftCar s k).run with
    | some r => r.kind == 2
    | none => false))

def cpm (s : State) (k : Nat) : Frac := nq (s.rd Od.lft_cpm k)
def mmOf (s : State) (k : Nat) (c : Int) : Frac := ((nq c).mul (nq 1000)).div (cpm s k)
def carPos (s : State) (k : Nat) : Int := motPos s (carChan k)
def refd (s : State) (k : Nat) : Bool := motBit s (carChan k) motREFERENCED

/-- `lft_pos` (R274): mm above the floor of landing 0, NaN while unreferenced. -/
def liftPosView (s : State) (k : Nat) : Nat :=
  if s.variant = .x ∧ refd s k ∧ useOf s (carChan k) = 8 + k then qf32 (mmOf s k (carPos s k - landPos s k 0)) else f32NaN

/-- A lift event (R394): fault code or count. -/
def liftEvent (s : State) (tag k sev : Nat) (set : Bool) (code count : Nat) : State :=
  blockEvent s 0x08 tag k sev set (pay [(1, code), (2, count)])

def lsState (s : State) (k : Nat) : Nat := s.rd Od.lft_state k
def setLs (s : State) (k st : Nat) : State := s.wr Od.lft_state st k
def stBit (s : State) (k b : Nat) : Bool := s.rdBit Od.lft_status b k
def doorPermitted (s : State) (k : Nat) : Bool := (permitOf s k).door
def runPermitted (s : State) (k : Nat) : Bool := (permitOf s k).run
def opOf (s : State) (k : Nat) : Nat := s.rd Od.lft_op_state k

/-- The brake's feedback contacts: the EDM inputs of the brake output (R300); without any the output itself (log entry 31). -/
def brakeContacts (s : State) (k : Nat) : List Nat := (outsOfKind s (2 + 2 * k)).flatMap (edmOf s)
def brakeOpen (s : State) (k : Nat) : Bool :=
  if brakeContacts s k = [] then brakeOn s k else (brakeContacts s k).all (fun n => s.rd Od.saf_edm_level n == 0)
def brakeClosed (s : State) (k : Nat) : Bool :=
  if brakeContacts s k = [] then !(brakeOn s k) else (brakeContacts s k).all (fun n => s.rd Od.saf_edm_level n == 1)

/-! ## Moving the car -/

/-- A speed limit in m/s as the channel's velocity cap. -/
def capOf (s : State) (k : Nat) (v : Option Frac) : Option Nat := v.map (fun q => word64 (q.mul (cpm s k)))

/-- A car channel gets a count to move to at a speed of at most `v` m/s; `mot_target` shows it (R257), and the channel replans at the next
tick (R256, R273). -/
def carGo (s : State) (k : Nat) (t : Int) (v : Option Frac) : State :=
  let c := carChan k
  (putChan s c { chanOf s c with vcap := capOf s k v, tgt := t, replan := true }).wr Od.mot_target (cnt t) c

/-- A standing car channel's commanded state is its encoder position. -/
def carSync (s : State) (k : Nat) : State :=
  let c := carChan k
  let m := chanOf s c
  if m.plan = [] then showChan (putChan s c (withKin { m with replan := false } ⟨nq (encPos s c), nq 0, nq 0⟩)) c else s

/-- The car is moving under its reference, or coasting to its brake. -/
def carMoving (s : State) (k : Nat) : Bool :=
  match (liftCar s k).run with
  | some r => r.step == 3 || r.kind == 8
  | none => false

/-- The requests of a car withdrawn. -/
def dropRequests (x : LiftCar) : LiftCar := { x with brakeReq := false, driveReq := false, bridge := false, enable := false, runBit := false }

/-- What an abandoned learning run leaves (R277). -/
def learnAborted (s : State) (k : Nat) : State :=
  match (liftCar s k).run with
  | some r => if r.kind = 2 ∧ !(liftCar s k).learnDone then s.wr Od.lft_learn_result 4 k else s
  | none => s

/-- A car's run ends at once: requests withdrawn and nothing due. -/
def dropRun (s : State) (k : Nat) : State :=
  let s1 := haltIdle (learnAborted s k) (carChan k)
  putCar s1 k { dropRequests (liftCar s1 k) with run := none, openDue := false }

/-- The run is abandoned at a standstill: HELD (R281, R282). -/
def abandonRun (s : State) (k : Nat) : State := setLs (dropRun s k) k 10

/-- A car goes onto its brake: requests withdrawn, reference 0 at once (R280, R281, R298). -/
def toBrake (s : State) (k : Nat) : State :=
  let s1 := haltIdle (learnAborted s k) (carChan k)
  putCar s1 k { dropRequests (liftCar s1 k) with run := some { kind := 8, dest := 0, step := 5 } }

/-- A stop on the brake (R281). -/
def brakeStop (s : State) (k : Nat) : State := setLs (toBrake s k) k 9

/-- A fault stop: the reference ramps to zero at `mot_a_stop`, then the brake closes (R281). -/
def rampStop (s : State) (k : Nat) : State :=
  let s1 := rampDown (learnAborted s k) (carChan k)
  setLs (putCar s1 k { liftCar s1 k with run := some { kind := 7, dest := 0, step := 3 } }) k 9

/-- A fault code is taken (R281). -/
def takeFault (s : State) (k code : Nat) : State := liftEvent (s.wr Od.lft_fault code k) 1 k 2 true code 0

/-- The action of a fault (R281, R282): a moving car stops, on its brake where `onBrake` says so, and another is held. -/
def faultAction (s : State) (k : Nat) (onBrake : Bool) : State :=
  if carMoving s k then (if onBrake then brakeStop s k else if lsState s k = 9 then s else rampStop s k)
  else if lsState s k = 0 then s else abandonRun s k

/-- A fault of R281 with its action; a car that is OFF takes none. -/
def carFault (s : State) (k code : Nat) (onBrake : Bool) : State :=
  if lsState s k = 0 then s else faultAction (takeFault s k code) k onBrake

/-- A run begins at step 0: the drive-contactor output is requested (R283). -/
def startRun (s : State) (k st : Nat) (r : LiftRun) : State :=
  let s1 := carSync s k
  setLs (putCar s1 k { liftCar s1 k with driveReq := true, bridge := r.kind == 4, run := some { r with step := 0 } }) k st

/-- LOCK and RUN_PERMIT. -/
def mayRun (s : State) (k : Nat) : Bool := stBit s k 1 && runPermitted s k

/-! ## Doors (R289 to R293) -/

def doorState (s : State) (d : Nat) : Nat := s.rd Od.lft_door_state d
def setDoor (s : State) (d st : Nat) : State := s.wr Od.lft_door_state st d
def doorOpenPos (s : State) (d : Nat) : Int := toInt 64 (s.rd Od.lft_door_open_pos d)
def doorShutPos (s : State) (c : Nat) : Int := toInt 64 (s.rd Od.mot_stop_offset c)

/-- The target a door takes once it is referenced, with a velocity cap; `mot_target` shows it (R257). -/
def doorTarget (s : State) (c : Nat) (t : Int) (cap : Option Nat) : State :=
  (putChan s c { chanOf s c with tgt := t, vcap := cap }).wr Od.mot_target (cnt t) c

/-- A door channel's target and velocity cap (in m/s); an unreferenced door moves without one (R293). -/
def doorGo (s : State) (d c : Nat) (t : Int) (v : Option Frac) : State :=
  let cap := v.map (fun q => word64 (q.mul (nq (s.rd Od.lft_door_cpm d))))
  (putChan s c { chanOf s c with vcap := cap, tgt := t, replan := true }).wr Od.mot_target (cnt t) c

/-- A door begins to open, or reopens from a closing stroke. -/
def doorOpenNow (s : State) (d st : Nat) : State :=
  match doorChan s d with
  | some c => setDoor (putDoor (doorGo s d c (doorOpenPos s d) none) d { doorOf s d with held := 0, forceUp := 0, forceHit := false, fresh := false, reversed := false }) d st
  | none => s

/-- A door begins to close, at closing or nudging speed; after a stall by a reference (R289). -/
def doorCloseNow (s : State) (d : Nat) (nudge : Bool) : State :=
  match doorChan s d with
  | some c =>
    let x := doorOf s d
    if x.needRef then setDoor (putDoor (refStart (doorTarget s c (doorShutPos s c) (chanOf s c).vcap) c) d { x with held := 0, needRef := false, reversed := false }) d 2
    else
      let v := s.rdQ (if nudge then Od.lft_door_v_nudge else Od.lft_door_v_close) d
      setDoor (putDoor (doorGo s d c (doorShutPos s c) (some v)) d { x with held := 0, forceUp := 0, forceHit := false, reversed := false }) d
        (if nudge then 8 else 6)
  | none => s

/-- A door is held on its stop ramp (R258, R289). -/
def doorHold (s : State) (d why : Nat) : State :=
  match doorChan s d with
  | some c => setDoor (putDoor (rampDown s c) d { doorOf s d with held := why, reversed := false }) d 9
  | none => s

/-- A door references against its closed stop (R289). -/
def doorRef (s : State) (d : Nat) : State :=
  match doorChan s d with
  | some c => setDoor (refStart (doorTarget s c (doorShutPos s c) (some (word64 ((s.rdQ Od.lft_door_v_close d).mul (nq (s.rd Od.lft_door_cpm d)))))) c) d 2
  | none => s

/-- The light curtain of a door reports an interruption (R291). -/
def curtainBroken (s : State) (d : Nat) : Bool := s.rd Od.lft_door_lc d != 0xFF && !(pairRes s (s.rd Od.lft_door_lc d))

/-- Distance of a door from its closed position, in mm. -/
def doorGapMm (s : State) (d c : Nat) : Frac :=
  ((nq (motPos s c - doorShutPos s c)).abs.mul (nq 1000)).div (nq (s.rd Od.lft_door_cpm d))

/-- A closing door is obstructed (R291, R292). -/
def obstructed (s : State) (d c : Nat) (nudging : Bool) : Bool :=
  (s.rdQ Od.lft_door_end_zone d).lt (doorGapMm s d c) &&
    ((!nudging && curtainBroken s d) || motBit s c motLOAD || (doorOf s d).forceHit)

/-- A Taylor sum of the sine of x in units of 2⁻⁶⁴ rad, |x| ≤ π/2. -/
def sinTerms (x2 : Int) : Nat → Int → Nat → Int
  | 0, _, _ => 0
  | n + 1, t, k => t + sinTerms x2 n (-(t * x2 / 2 ^ 64 / (k * (k + 1) : Nat))) (k + 2)

/-- The sine of an angle in degrees from −180 to 180 (log entry 27). -/
def sinDeg (q : Frac) : Frac :=
  let a := q.abs
  let b := if (nq 90).lt a then (nq 180).sub a else a
  let x := b.num * piFix / (180 * b.den : Nat)
  let y := sinTerms (x * x / 2 ^ 64) 12 x 2
  ⟨if q.num < 0 then -y else y, 2 ^ 64⟩

/-- The door force at a motion tick (R291): F from the load angle, the ticks it has stood at `lft_door_fmax` or more, and whether that were
two at any time since the last cycle. -/
def doorForceTick (s : State) : State :=
  if s.variant = .s then s
  else (List.range 4).foldl (fun t d =>
    match doorChan t d with
    | none => t
    | some c =>
      let w := t.rd Od.mot_load_angle c
      if isNaN32 w then (putDoor t d { doorOf t d with forceUp := 0 }).wr Od.lft_door_force f32NaN d
      else
        let i := t.rdQ (if motBit t c motCURRED then Od.mot_i_red else Od.mot_i_run) c
        let f := ((t.rdQ Od.lft_door_kf d).mul i).mul (sinDeg (f32q w))
        let up := if (t.rdQ Od.lft_door_fmax d).le f then (doorOf t d).forceUp + 1 else 0
        (putDoor t d { doorOf t d with forceUp := up, forceHit := (doorOf t d).forceHit || decide (2 ≤ up) }).wrQ Od.lft_door_force f d) s

/-- A cycle has read what the force detectors reported since the last one (R291). -/
def forceRead (s : State) (d : Nat) : State :=
  if (doorOf s d).forceHit then putDoor s d { doorOf s d with forceHit := false } else s

/-- The car's doors stand referenced at their closed stop, not opened since (R289). -/
def doorsFresh (s : State) (k : Nat) : Bool := (carDoors s k).all (fun d => doorState s d == 3 && (doorOf s d).fresh)

/-- Closed doors that have opened since their reference are referenced again (R289). -/
def refDoors (s : State) (k : Nat) : State :=
  (carDoors s k).foldl (fun t d => if doorState t d = 3 ∧ !(doorOf t d).fresh then doorRef t d else t) s

/-- The doors that are shut: CLOSED, or without a channel. -/
def doorsShut (s : State) (k : Nat) : Bool := (carDoors s k).all (fun d => doorState s d == 3)

/-- Nudging applies outside independent operation and phase II (R292). -/
def nudgeAllowed (s : State) (k : Nat) : Bool := opOf s k != 1 && opOf s k != 4

/-- The next close of a car's doors runs at nudging speed (R292). -/
def nudging (s : State) (k : Nat) : Bool := (liftCar s k).nudge && nudgeAllowed s k

/-- The nudging timer starts (R292). -/
def nudgeStart (s : State) (k : Nat) : State :=
  if nudgeAllowed s k then putCar s k { liftCar s k with nudgeRun := true } else s

/-! ## Calls (R285 to R287) -/

/-- The call bitmap of type t: 0 car, 1 up, 2 down. -/
def callEntry (t : Nat) : Nat := if t = 0 then Od.lft_car_calls else if t = 1 then Od.lft_hall_up else Od.lft_hall_dn
def hasCall (s : State) (k t l : Nat) : Bool := (byteAt 16 (s.rd (callEntry t) k) (l / 8)).testBit (l % 8)
def seqElem (k t l : Nat) : Nat := k * 384 + t * 128 + l

/-- A bit of a call bitmap set or cleared. -/
def putCall (s : State) (k t l : Nat) (on : Bool) : State :=
  s.wr (callEntry t) (putBit (s.rd (callEntry t) k) (8 * (15 - l / 8) + l % 8) on) k

/-- The door sides a call asks for: byte 2, or every side served (R285). -/
def callSide (s : State) (k l sides : Nat) : Nat := if sides = 0 then s.rd Od.lft_door_sides (k * 128 + l) else sides

/-- A call enters the table (R285, R286). -/
def registerCall (s : State) (k t l sides seq : Nat) : State :=
  let e := seqElem k t l
  let want := tabGet 0 e s.mer.callSides ||| callSide s k l sides
  let s1 := { s with mer := { s.mer with callSides := tabPut e want s.mer.callSides } }
  if hasCall s k t l then s1 else (putCall s1 k t l true).wr Od.lft_call_seq seq e

/-- A call leaves the table. -/
def removeCall (s : State) (k t l : Nat) : State :=
  let e := seqElem k t l
  if hasCall s k t l then
    (putCall { s with mer := { s.mer with callSides := tabDel e s.mer.callSides } } k t l false).wr Od.lft_call_seq 0 e
  else s

/-- The landings with a call of a type. -/
def callsOf (s : State) (k t : Nat) : List Nat := (List.range (landings s k)).filter (hasCall s k t)

/-- Any call at a landing. -/
def anyCall (s : State) (k l : Nat) : Bool := hasCall s k 0 l || hasCall s k 1 l || hasCall s k 2 l

/-- The landings with any call. -/
def called (s : State) (k : Nat) : List Nat := (List.range (landings s k)).filter (anyCall s k)

/-- Calls of the given types are cleared on a change of operating state, with an event giving their number (R286). -/
def clearCalls (s : State) (k : Nat) (types : List Nat) : State :=
  let n := types.foldl (fun a t => a + (callsOf s k t).length) 0
  let s1 := types.foldl (fun u t => (callsOf s k t).foldl (fun w l => removeCall w k t l) u) s
  liftEvent s1 2 k 0 true 0 n

/-- The operating state admits a call type (R297). -/
def callAccepted (op ty : Nat) : Bool :=
  if op = 0 then true else if op = 1 ∨ op = 4 then ty == 1 || ty == 4 else false

/-- The nearest of a list of landings to a position; of two equally near, the higher (R287). -/
def nearest (s : State) (k : Nat) (x : Frac) : List Nat → Option Nat
  | [] => none
  | l :: ls =>
    match nearest s k x ls with
    | none => some l
    | some m =>
      let dl := ((nq (landPos s k l)).sub x).abs
      let dm := ((nq (landPos s k m)).sub x).abs
      if dl.lt dm then some l else some m

/-- Direction a car at landing l leaves in: as now while calls lie ahead, reversed while they lie behind; without a direction, that of the
nearest call; else none (R287). -/
def nextDir (s : State) (k l : Nat) : Nat :=
  let up := (called s k).any (fun m => decide (l < m))
  let dn := (called s k).any (fun m => decide (m < l))
  let d := s.rd Od.lft_dir k
  if d = 2 then (if dn then 2 else if up then 1 else 0)
  else if d = 1 then (if up then 1 else if dn then 2 else 0)
  else match nearest s k (nq (carPos s k)) ((called s k).filter (· != l)) with
    | some m => if l < m then 1 else 2
    | none => 0

/-- The calls the opening doors clear (R286). -/
def clearServed (s : State) (k l : Nat) : State :=
  let d := s.rd Od.lft_dir k
  let nd := nextDir s k l
  let none_ := if d = 1 then !((called s k).any (fun m => decide (l < m))) else if d = 2 then !((called s k).any (fun m => decide (m < l)))
    else !((called s k).any (fun m => m != l))
  let s1 := removeCall s k 0 l
  let s2 := if nd = 1 ∨ none_ then removeCall s1 k 1 l else s1
  let s3 := if nd = 2 ∨ none_ then removeCall s2 k 2 l else s2
  s3.wr Od.lft_dir nd k

/-- The door sides to open at a landing: those of its calls, or every side served. -/
def sidesAt (s : State) (k l : Nat) : Nat :=
  let m := ([0, 1, 2]).foldl (fun a t => if hasCall s k t l then a ||| tabGet 0 (seqElem k t l) s.mer.callSides else a) 0
  if m = 0 then s.rd Od.lft_door_sides (k * 128 + l) else m

/-- The doors of a landing begin to open; phase II clears every car call (R286, R297). -/
def openAt (s : State) (k : Nat) : State :=
  let l := s.rd Od.lft_landing k
  let sides := sidesAt s k l
  let s1 := if l < landings s k then clearServed s k l else s
  let s2 := if opOf s k = 4 then (callsOf s1 k 0).foldl (fun t m => removeCall t k 0 m) s1 else s1
  let s3 := putCar s2 k { liftCar s2 k with openDue := false }
  if opOf s k = 4 then s3
  else (carDoors s k).foldl (fun t d =>
    if sides.testBit (d % 2) ∨ (carDoors s k).length = 1 then
      let st := doorState t d
      if st = 3 ∨ st = 9 then doorOpenNow t d 4 else if st = 6 ∨ st = 8 then doorOpenNow t d 7 else t
    else t) s3

/-- The doors are to open: at once under DOOR_PERMIT, otherwise when it comes. -/
def wantOpen (s : State) (k : Nat) : State :=
  if doorPermitted s k then openAt s k else putCar s k { liftCar s k with openDue := true }

/-- Normal lift service runs: in COMMISSION it does not (R44), and a call in operating state 0 then waits in the table (R298, log entry 63). -/
def serviceRuns (s : State) (k : Nat) : Bool := s.mode != .commission || opOf s k != 0

/-- A call for the present landing while the doors are open or closing, or the run has not got its brake, opens them again (R287). -/
def callHere (s : State) (k : Nat) : State :=
  let st := lsState s k
  let early : Bool := match (liftCar s k).run with
    | some r => r.kind == 0 && decide (r.step < 2)
    | none => false
  if !(serviceRuns s k) then s
  else if st = 4 then wantOpen s k
  else if st = 5 ∧ early then wantOpen (setLs (putCar s k { dropRequests (liftCar s k) with run := none }) k 4) k
  else s

/-- One applied call is entered (R285). -/
def enterCall (s : State) (k v seq : Nat) : State :=
  let l := byteAt 8 v 0
  let ty := byteAt 8 v 1
  if 1 ≤ ty ∧ ty ≤ 3 then
    let s1 := registerCall s k (ty - 1) l (byteAt 8 v 2) seq
    if l = s.rd Od.lft_landing k then callHere s1 k else s1
  else removeCall s k (ty - 4) l

/-- Whether an applied call is complete at once (R285): already registered, or a cancel of one that is not. -/
def callDoneAtOnce (s : State) (k v : Nat) : Bool :=
  let l := byteAt 8 v 0
  let ty := byteAt 8 v 1
  if ty ≤ 3 then hasCall s k (ty - 1) l else !(hasCall s k (ty - 4) l)

/-- Whether the call table holds a call of car `k` under an acceptance number (R86, R285). -/
def callHeld (s : State) (seq k v : Nat) : Bool :=
  let ty := byteAt 8 v 1
  decide (1 ≤ ty) && decide (ty ≤ 3) && hasCall s k (ty - 1) (byteAt 8 v 0) && s.rd Od.lft_call_seq (k * 384 + (ty - 1) * 128 + byteAt 8 v 0) == seq

/-- The calls waiting are entered, in order, and their records' items are done (R285). -/
def enterCalls (s : State) : State :=
  let s1 := s.lft.calls.foldl (fun t c => callDone (enterCall t c.2.1 c.2.2 c.1) c.1 c.2.1) s
  { s1 with lft := { s1.lft with calls := [] } }

/-- A call for the same landing waits to be entered. -/
def callAhead (s : State) (k v : Nat) : Bool := s.lft.calls.any (fun c => c.2.1 == k && byteAt 8 c.2.2 0 == byteAt 8 v 0)

/-- A call waits for the next cycle. -/
def queueCall (s : State) (seq k v : Nat) : State := { s with lft := { s.lft with calls := s.lft.calls ++ [(seq, k, v)] } }

/-- An applied call (R285): complete at once where the table already says it, or at the next cycle. A call already registered reopens the
doors at that cycle too (R282, R287). -/
def applyCall (s : State) (seq k v : Nat) : State :=
  if callDoneAtOnce s k v ∧ !(callAhead s k v) then
    callDone (if byteAt 8 v 1 ≤ 3 then queueCall s seq k v else s) seq k
  else queueCall s seq k v

/-! ## Scheduling (R287) -/

/-- The stop at the head of travel in direction D among landings at or beyond x: the first with a car call or a hall call in
direction D, else the farthest call. -/
def stopAhead (s : State) (k d : Nat) (ahead : List Nat) : Option Nat :=
  let mine := ahead.filter (fun l => hasCall s k 0 l || hasCall s k (if d = 1 then 1 else 2) l)
  if d = 1 then (match mine with | l :: _ => some l | [] => ahead.getLast?)
  else match mine.getLast? with
    | some l => some l
    | none => ahead.head?

/-- The next stop of a standing car and its direction (R287). -/
def nextStop (s : State) (k : Nat) : Option (Nat × Nat) :=
  let here := s.rd Od.lft_landing k
  let cs := (called s k).filter (· != here)
  let x := nq (carPos s k)
  let up := cs.filter (fun l => decide (here < l))
  let dn := cs.filter (fun l => decide (l < here))
  let go (d : Nat) : Option (Nat × Nat) := (stopAhead s k d (if d = 1 then up else dn)).map (fun l => (l, d))
  if s.rd Od.lft_dir k = 1 then (if up = [] then go 2 else go 1)
  else if s.rd Od.lft_dir k = 2 then (if dn = [] then go 1 else go 2)
  else match nearest s k x cs with
    | some l => go (if here < l then 1 else 2)
    | none => none

/-- The point at which the car channel can stop: x + D(v, a, 0) (R255, R287). -/
def stopPoint (s : State) (k : Nat) : Frac :=
  let c := carChan k
  let q := kinOf (chanOf s c)
  r64 (q.x.add (dist q.v q.a (nq 0) (limA s c) (limJ s c)))

/-- Landings a moving car can still stop at. -/
def reachable (s : State) (k : Nat) (up : Bool) : List Nat :=
  let x := stopPoint s k
  (List.range (landings s k)).filter (fun l => if up then x.le (nq (landPos s k l)) else (nq (landPos s k l)).le x)

/-- The first landing a moving car can stop at. -/
def firstReachable (s : State) (k : Nat) (up : Bool) : Option Nat := if up then (reachable s k up).head? else (reachable s k up).getLast?

/-- The stop of a moving car, with the calls as they stand (R287). -/
def nextWhileMoving (s : State) (k : Nat) (r : LiftRun) : Nat :=
  let ahead := (reachable s k r.up).filter (anyCall s k)
  match stopAhead s k (if r.up then 1 else 2) ahead with
  | some l => l
  | none => r.dest

/-! ## Inputs of a cycle -/

/-- A switch source (R297): active when its value is not 0; a faulted FIRE1 reads active. -/
def switchOn (read : State → Nat → Nat → Nat) (s : State) (k f : Nat) : Bool :=
  let w := s.rd Od.lft_sw_src (k * 8 + f)
  let i := w / 65536
  let e := w % 65536
  if w = 0 then false
  else match entryDef? i with
    | none => f == 0
    | some d =>
      let faulted := absent s.variant d e || linkFault s (i, e) ||
        (decide (0x4000 ≤ i) && decide (i ≤ 0x5FFF) && (read s Od.od_pt_flags (i - 0x4000)).testBit 1)
      if faulted then f == 0
      else if d.ty = .f32 then !(isNaN32 (read s i e)) && (!(finite32 (read s i e)) || (f32q (read s i e)).num != 0)
      else read s i e != 0

/-- The landing the car stands at or passes: its position lies within the landing's vane. -/
def landingAt (s : State) (k : Nat) : Option Nat :=
  (List.range (landings s k)).find? (fun l => decide (vaneLo s k l ≤ carPos s k) && decide (carPos s k ≤ vaneHi s k l))

/-- The present landing; the blocked openings of another are over (R293). -/
def setLanding (s : State) (k l : Nat) : State :=
  if s.rd Od.lft_landing k = l then s
  else ([2 * k, 2 * k + 1]).foldl (fun t d => if (doorOf t d).blocked = 0 then t else putDoor t d { doorOf t d with blocked := 0 }) (s.wr Od.lft_landing l k)

/-- `lft_status`, `lft_speed` and `lft_landing` as latched at the start of a cycle (R274, R301). The velocity is that of the encoder's own
count, which no correction of the position moves. -/
def latchCar (s : State) (k : Nat) : State :=
  let x := liftCar s k
  let n := toInt 64 (s.rd Od.mot_enc_count k)
  let w := (n :: x.window).take 5
  let span := match w.getLast? with
    | some o => n - o
    | none => 0
  let steps := w.length - 1
  let v := if steps = 0 then nq 0 else ((nq (span * 4000)).div (nq steps)).div (cpm s k)
  let link := decide (x.missed < 3) && !x.lost && s.rd Od.lft_drive_mac k != 0
  let bits := b2n (refd s k) + 2 * b2n (carIn s k 1) + 4 * b2n (carIn s k 0) + 8 * b2n (carIn s k 2) + 16 * b2n (runPermitted s k) +
    32 * b2n (doorPermitted s k) + 64 * b2n (brakeOpen s k) + 128 * b2n link + 256 * b2n (x.lost && s.rd Od.lft_sref_enable k == 1) +
    512 * b2n (s.mer.ucm.contains k) + 1024 * b2n (nudging s k)
  let s1 := ((putCar s k { x with window := w }).wr Od.lft_status bits k).wrQ Od.lft_speed v k
  match (if refd s k then landingAt s k else none) with
  | some l => setLanding s1 k l
  | none => s1

/-! ## Vane corrections (R275, R277) -/

/-- The vane edge an accepted DZ edge is matched to: its landing and expected count. -/
def vaneEdge (s : State) (k : Nat) (lower : Bool) (count : Int) : Option Int :=
  let edges := (List.range (landings s k)).map (fun l => if lower then vaneLo s k l else vaneHi s k l)
  edges.foldl (fun best e => match best with
    | none => some e
    | some b => if (e - count).natAbs < (b - count).natAbs then some e else some b) none

/-- A DZ edge accepted since the last cycle is recorded by a learning run, or corrects the position at the next tick. -/
def vaneStep (s : State) (k : Nat) : State :=
  let c := carChan k
  let x := liftCar s k
  let seq := s.rd Od.mot_latch_seq (k * 3)
  if seq = x.vaneSeq then s
  else
    let s1 := putCar s k { x with vaneSeq := seq }
    let rising := s.rd Od.mot_latch_level (k * 3) == 1
    let count := toInt 64 (s.rd Od.mot_latch_count (k * 3)) + (chanOf s c).encOff
    let v := s.rdQ Od.lft_speed k
    let fast := (Frac.mk 5 100).le v.abs
    let learning : Bool := match x.run with
      | some r => r.kind == 2 && decide (4 ≤ r.phase)
      | none => false
    if learning then (if x.learnDone then s1 else putCar s1 k { liftCar s1 k with edges := x.edges ++ [(rising, count)] })
    else if !(refd s k) ∨ !fast then s1
    else
      match vaneEdge s k (rising == decide (0 < v.num)) count with
      | none => s1
      | some e =>
        let d := e - count
        if (mmOf s k d).abs.le (s.rdQ Od.lft_corr_max k) then
          let s2 := putChan s1 c { chanOf s1 c with shift := (chanOf s1 c).shift + d }
          (s2.wrQ Od.lft_corr_last (mmOf s k d) k).count Od.lft_corr_count k
        else carFault (motPut s1 c motREFERENCED false) k 3 false

/-! ## Operating states (R297) -/

/-- The doors stand open. -/
def doorsOpen (s : State) (k : Nat) : Bool := (carDoors s k).any (fun d => doorState s d == 5)

/-- The operating state, by precedence. -/
def opNext (read : State → Nat → Nat → Nat) (s : State) (k : Nat) : Nat × Bool :=
  let sw := switchOn read s k
  let atFire := s.rd Od.lft_landing k == s.rd Od.lft_fire_landing k && doorsOpen s k && (liftCar s k).run == none
  let two := if (liftCar s k).fire2 then !(!(sw 1) && atFire) else sw 0 && sw 1 && atFire
  if carInsp s k then (2, (liftCar s k).fire2)
  else if two then (4, true)
  else if sw 0 then (3, false)
  else if sw 3 || s.rd Od.lft_oos_req k == 1 || lsState s k == 10 then (5, false)
  else if sw 2 then (1, false)
  else (0, false)

/-- A speed of the corrections and levelling runs (R278, R297). -/
def vCorr (s : State) (k : Nat) : Option Frac := some (s.rdQ Od.lft_v_corr k)

/-- A moving car is sent to the first landing it can reach (R280, R297). -/
def redirect (s : State) (k : Nat) (r : LiftRun) : State :=
  match firstReachable s k r.up with
  | some l => carGo (putCar s k { liftCar s k with run := some { r with dest := l } }) k (landPos s k l) (if r.kind = 6 then vCorr s k else none)
  | none => s

/-- A run that has yet to move is given up: it has not got its brake, or has it and stands (R297). -/
def runWaits (s : State) (k : Nat) : Bool :=
  match (liftCar s k).run with
  | some r => decide (r.step < 3)
  | none => false

/-- What entering an operating state does (R297). -/
def opEntered (s : State) (k op : Nat) : State :=
  if op = 2 then
    let s1 := clearCalls s k [0, 1, 2]
    let s2 := if carMoving s1 k then (if lsState s1 k = 9 then s1 else rampStop s1 k)
      else if runWaits s1 k then setLs (dropRun s1 k) k 11 else s1
    (carDoors s2 k).foldl (fun t d =>
      let st := doorState t d
      if st = 4 ∨ st = 6 ∨ st = 7 ∨ st = 8 then doorHold t d 5 else t) s2
  else if op = 3 then
    let s1 := clearCalls s k [0, 1, 2]
    match (liftCar s1 k).run with
    | some r =>
      let away := if r.up then landPos s k (s.rd Od.lft_fire_landing k) < carPos s k else carPos s k < landPos s k (s.rd Od.lft_fire_landing k)
      if r.kind = 0 ∧ r.step = 3 then
        (if away then redirect s1 k { r with noOpen := true }
         else carGo (putCar s1 k { liftCar s1 k with run := some { r with dest := s.rd Od.lft_fire_landing k } }) k (landPos s k (s.rd Od.lft_fire_landing k)) none)
      else if r.kind = 0 ∧ r.step < 3 then
        putCar s1 k { liftCar s1 k with run := some { r with
          dest := s.rd Od.lft_fire_landing k, up := decide (carPos s k < landPos s k (s.rd Od.lft_fire_landing k)) } }
      else s1
    | none => s1
  else if op = 5 ∨ op = 1 then (if s.mode = .safeHold then s else clearCalls s k [1, 2])
  else s

/-- The operating state is chosen. -/
def opStep (read : State → Nat → Nat → Nat) (s : State) (k : Nat) : State :=
  let n := opNext read s k
  let s1 := putCar s k { liftCar s k with fire2 := n.2 }
  if n.1 = opOf s k then s1 else opEntered (s1.wr Od.lft_op_state n.1 k) k n.1

/-! ## Faults watched in a cycle (R281, R282) -/

/-- Loss of RUN_PERMIT, of SCHAIN, a drive fault and UCM. `old` is the status of the last cycle. -/
def watchCar (s : State) (k old : Nat) : State :=
  let st := lsState s k
  let step : Nat := match (liftCar s k).run with
    | some r => if r.kind = 8 then 0 else r.step
    | none => 0
  let ucmNew := stBit s k 9 && !(old.testBit 9)
  if st = 0 then s
  else if ucmNew then carFault s k 8 true
  else if 1 ≤ step ∧ step ≤ 4 ∧ !(runPermitted s k) ∧ s.mode ≠ .safeHold then carFault s k 9 true
  else if 1 ≤ step ∧ step ≤ 3 ∧ (liftCar s k).drive.testBit 3 ∧ s.rd Od.lft_fault k ≠ 4 then carFault s k 4 false
  else if old.testBit 2 ∧ !(stBit s k 2) then
    (if st = 9 ∨ st = 10 then putCar s k { liftCar s k with safeHeld := false }
     else if carMoving s k then brakeStop s k else abandonRun s k)
  else s

/-! ## Runs (R278, R283) -/

/-- The plan has entered its last transition: what is left of it lasts no longer than a stop from the present state. -/
def lastTransition (s : State) (k : Nat) : Bool :=
  let c := carChan k
  let m := chanOf s c
  let q := kinOf m
  let left := m.plan.foldl (fun a g => a.add (q64 g.1)) (nq 0)
  let stop := (transition q.v q.a (nq 0) (limA s c) (limJ s c)).foldl (fun a g => a.add g.dur) (nq 0)
  !m.replan && left.le (stop.add ⟨1, 32000⟩)

/-- A far target for travel that an input ends. -/
def farTarget (s : State) (k : Nat) (up : Bool) : Int := cmdCount (chanOf s (carChan k)) + (if up then 1 else -1) * 2 ^ 40

/-- Inspection buttons: up and down, as the pair's channels show with its result 1 (R297, R308). -/
def inspButton (s : State) (k : Nat) (up : Bool) : Bool := carIn s k 5 && s.rdBit Od.saf_in_status (if up then 0 else 1) (carPair s k 5)

/-- The channel starts when the brake is open (R283 and the runs of R277, R278, R284, R297). -/
def launch (read : State → Nat → Nat → Nat) (s : State) (k : Nat) (r : LiftRun) : State :=
  let put (t : State) (q : LiftRun) (st : Nat) : State := setLs (putCar t k { liftCar t k with runBit := true, run := some { q with step := 3 } }) k st
  if r.kind = 1 ∨ r.kind = 2 then
    let up := switchOn read s k 4
    carGo (put (motPut s (carChan k) motREFERENCED false) { r with phase := if up then 0 else 1 } 2) k (farTarget s k up) (vCorr s k)
  else if r.kind = 3 ∨ r.kind = 4 then carGo (put s r 8) k (landPos s k r.dest) (some (s.rdQ Od.lft_v_relevel k))
  else if r.kind = 5 then
    carGo (put s r 11) k (if refd s k then landPos s k (if r.up then landings s k - 1 else 0) else farTarget s k r.up) (some (s.rdQ Od.lft_v_insp k))
  else if r.kind = 6 then carGo (put s r 6) k (landPos s k r.dest) (vCorr s k)
  else carGo (put s r 6) k (landPos s k r.dest) none

/-- The reference move of R278 step 2. -/
def startReference (s : State) (k : Nat) : State :=
  let c := carChan k
  refStart (((s.wr Od.mot_ref_edge 0 k).wr Od.mot_ref_dir 0 c).wr Od.mot_latch_pos (s.rd Od.lft_vane_hi (k * 128)) k) c

/-- A moving correction or learning run (R277, R278). -/
def correctionMove (read : State → Nat → Nat → Nat) (s : State) (k : Nat) (r : LiftRun) : State :=
  let c := carChan k
  let m := chanOf s c
  let put (t : State) (q : LiftRun) : State := putCar t k { liftCar t k with run := some q }
  if r.phase = 0 then
    (if switchOn read s k 4 then s else carGo (put s { r with phase := 1 }) k (farTarget s k false) (vCorr s k))
  else if r.phase = 1 then
    (if switchOn read s k 4 then startReference (put s { r with phase := 2 }) k else s)
  else if r.phase = 2 then
    if refd s k then (if m.plan = [] then carGo (put s { r with phase := 3 }) k (landPos s k 0) (vCorr s k) else s)
    else if s.rd Od.mot_state c = 6 then carFault s k 6 false
    else s
  else if r.phase = 3 then
    if m.plan = [] ∧ !m.replan then
      if r.kind = 2 then
        carGo (put (putCar s k { liftCar s k with edges := [], learnDone := false }) { r with phase := 4, up := true }) k (farTarget s k true) (vCorr s k)
      else put s { r with step := 4 }
    else s
  else if r.phase = 4 then (if switchOn read s k 7 then put s { r with phase := 5, mark := (liftCar s k).edges.length } else s)
  else if r.phase = 5 then
    if ((liftCar s k).edges.drop r.mark).any (fun e => !e.1) then
      rampDown (put (putCar s k { liftCar s k with learnDone := true }) { r with phase := 6 }) c
    else s
  else if m.plan = [] then put s { r with step := 4 }
  else s

/-- The terminal switch of a direction is active: the limit of inspection travel without a position (R297, log entry 187). -/
def atTerminal (read : State → Nat → Nat → Nat) (s : State) (k : Nat) (up : Bool) : Bool := switchOn read s k (if up then 7 else 4)

/-- A run that moves (step 3). -/
def moveRun (read : State → Nat → Nat → Nat) (s : State) (k : Nat) (r : LiftRun) : State :=
  let m := chanOf s (carChan k)
  let stopped := m.plan == [] && !m.replan
  let put (t : State) (q : LiftRun) : State := putCar t k { liftCar t k with run := some q }
  if r.kind = 1 ∨ r.kind = 2 then correctionMove read s k r
  else if r.kind = 5 then
    if stopped then put s { r with step := 4 }
    else if !(inspButton s k r.up) ∨ opOf s k ≠ 2 ∨ (!(refd s k) ∧ atTerminal read s k r.up) then
      (if r.phase = 1 then s else rampDown (put s { r with phase := 1 }) (carChan k))
    else s
  else if stopped then put s { r with step := 4 }
  else if r.kind = 0 then
    let dest := if r.thenHeld || r.noOpen || opOf s k == 3 || lsState s k == 7 || !(serviceRuns s k) then r.dest else nextWhileMoving s k r
    let s1 := if dest = r.dest then s else carGo (put s { r with dest := dest }) k (landPos s k dest) none
    if lsState s1 k = 6 ∧ lastTransition s1 k then setLs s1 k 7 else s1
  else if r.kind = 6 ∧ lsState s k = 6 ∧ lastTransition s k then setLs s k 7
  else s

/-- A run that has ended (R282, R283). -/
def endRun (s : State) (k : Nat) (r : LiftRun) : State :=
  let s1 := putCar s k { liftCar s k with run := none }
  if r.kind = 7 ∨ r.kind = 8 then setLs s1 k (if opOf s k = 2 ∧ s.rd Od.lft_fault k = 0 ∧ s.mode ≠ .safeHold then 11 else 10)
  else if r.kind = 5 then setLs s1 k 11
  else if r.kind = 2 then setLs s1 k 3
  else if r.kind = 3 ∨ r.kind = 4 then
    (if r.thenHeld then setLs (wantOpen s1 k) k 10
     else if (mmOf s k (carPos s k - landPos s k r.dest)).abs.le (nq 1) then setLs s1 k 4
     else startRun s1 k 8 { kind := r.kind, dest := r.dest })
  else
    let s2 := setLanding s1 k (if r.kind = 1 then 0 else r.dest)
    if r.thenHeld then setLs (wantOpen s2 k) k 10
    else if r.noOpen then setLs s2 k 3
    else wantOpen (setLs s2 k 4) k

/-- One cycle of a run (R283). -/
def runStep (read : State → Nat → Nat → Nat) (s : State) (k : Nat) (r : LiftRun) : State :=
  let x := liftCar s k
  let put (n : Nat) (y : LiftCar) : State := putCar s k { y with run := some { r with step := n } }
  match r.step with
  | 0 => if runPermitted s k then put 1 { x with enable := true } else s
  | 1 => if x.drive.testBit 1 then put 2 { x with brakeReq := true } else s
  | 2 => if brakeOpen s k then launch read s k r else s
  | 3 => if r.kind = 7 then (if (chanOf s (carChan k)).plan = [] then put 4 x else s) else moveRun read s k r
  | 4 => s
  | 5 =>
    if brakeClosed s k && (r.kind != 8 || (s.rdQ Od.lft_speed k).num == 0) then
      put 6 { x with runBit := false, enable := false, driveReq := false, bridge := false }
    else s
  | _ => endRun s k r

/-! ## Standing cars (R282, R287, R297) -/

/-- A run to a landing. -/
def runTo (s : State) (k l : Nat) : State :=
  let up := decide (carPos s k < landPos s k l)
  startRun (s.wr Od.lft_dir (if up then 1 else 2) k) k 5 { kind := 0, dest := l, up := up }

/-- A levelling run to the nearest landing at `lft_v_corr` (R297, R298). -/
def levelRun (s : State) (k : Nat) : State :=
  match nearest s k (nq (carPos s k)) (List.range (landings s k)) with
  | some l => startRun (putCar s k { liftCar s k with levelDue := false }) k 5 { kind := 6, dest := l, up := decide (carPos s k < landPos s k l) }
  | none => s

/-- The car stands at a floor within 1 mm. -/
def atFloor (s : State) (k : Nat) : Bool := (List.range (landings s k)).any (fun l => (mmOf s k (carPos s k - landPos s k l)).abs.le (nq 1))

/-- A parked car, or one whose doors are locked after a cycle, with nothing to open here. -/
def dispatch (s : State) (k : Nat) : State :=
  let here := s.rd Od.lft_landing k
  let op := opOf s k
  let wait (t : State) : State := if lsState t k = 3 then t else setLs t k 3
  if !(serviceRuns s k) ∨ !(refd s k) then wait s
  else if op = 3 then
    if here = s.rd Od.lft_fire_landing k then (if lsState s k = 3 then wantOpen (setLs s k 4) k else wait s)
    else if mayRun s k then runTo s k (s.rd Od.lft_fire_landing k) else wait s
  else match nextStop s k with
    | some (l, _) => if mayRun s k then runTo s k l else wait s
    | none =>
      let s1 := s.wr Od.lft_dir 0 k
      let park := s.rd Od.lft_park_landing k
      if op = 5 ∧ park ≠ 0xFF ∧ park ≠ here ∧ mayRun s1 k then runTo s1 k park else wait s1

/-- Whether the cause of a held car's fault has cleared (R281). -/
def faultGone (s : State) (k : Nat) : Bool :=
  let code := s.rd Od.lft_fault k
  stBit s k 2 && s.mode != .safeHold && !(stBit s k 9) &&
    (code != 1 || !(liftCar s k).lost) && (code != 4 || !((liftCar s k).drive.testBit 3))

/-- A HELD car (R282, R298). -/
def heldStep (s : State) (k : Nat) : State :=
  let x := liftCar s k
  if x.openDue ∧ doorPermitted s k ∧ s.mode ≠ .safeHold then openAt s k
  else if x.safeHeld ∧ s.rd Od.lft_fault k = 0 ∧ s.mode ≠ .safeHold ∧ stBit s k 2 then
    let s1 := putCar s k { x with safeHeld := false }
    if opOf s k = 2 then setLs s1 k 11
    else if stBit s k 3 then wantOpen (setLs s1 k 4) k
    else if refd s k then (if mayRun s k then levelRun s1 k else s)
    else setLs s1 k 1
  else if x.resetAsked ∧ faultGone s k then
    let s1 := putCar (s.wr Od.lft_fault 0 k) k { x with resetAsked := false, safeHeld := false, resetBit := true }
    let s2 := (carDoors s1 k).foldl (fun t d => if doorState t d = 10 then putDoor (setDoor t d 1) d {} else t) s1
    if stBit s k 3 then setLs s2 k 3
    else setLs (motPut s2 (carChan k) motREFERENCED false) k 1
  else s

/-- A run that finds the position begins (R277, R278); the doors count as not referenced for the next one. -/
def findPosition (s : State) (k kind : Nat) : State :=
  startRun ((carDoors s k).foldl (fun t d => putDoor t d { doorOf t d with fresh := false }) s) k 2 { kind := kind, dest := 0 }

/-- An unreferenced car makes its correction run when the conditions of R278 hold, its doors referenced before (R289); a door in FAULT
holds the car (R293). -/
def correctionDue (s : State) (k : Nat) : State :=
  let op := opOf s k
  if (carDoors s k).any (fun d => doorState s d == 10) then carFault s k 7 false
  else if mayRun s k ∧ stBit s k 2 ∧ (op = 0 ∨ op = 1 ∨ op = 5) then
    (if doorsFresh s k then findPosition s k 1 else refDoors s k)
  else s

/-- A car without a run. -/
def idleStep (read : State → Nat → Nat → Nat) (s : State) (k : Nat) : State :=
  let op := opOf s k
  match lsState s k with
  | 0 => if s.mode = .safeHold then setLs (putCar s k { liftCar s k with safeHeld := true }) k 10 else setLs s k 1
  | 1 =>
    if op = 2 then setLs s k 11
    else if refd s k then setLs s k 3
    else correctionDue s k
  | 3 =>
    if op = 2 then setLs s k 11
    else if !(refd s k) then correctionDue s k
    else if (liftCar s k).levelDue then
      (if atFloor s k then putCar s k { liftCar s k with levelDue := false } else if mayRun s k then levelRun s k else s)
    else if anyCall s k (s.rd Od.lft_landing k) ∧ op ≠ 3 ∧ serviceRuns s k then wantOpen (setLs s k 4) k
    else dispatch s k
  | 4 =>
    if op = 2 then setLs s k 11
    else if (liftCar s k).openDue then (if doorPermitted s k then openAt s k else s)
    else if doorsShut s k ∧ stBit s k 1 then dispatch s k
    else s
  | 10 => heldStep s k
  | 11 =>
    if op ≠ 2 then setLs (putCar s k { liftCar s k with levelDue := true }) k (if refd s k then 3 else 1)
    else if runPermitted s k ∧ (inspButton s k true ∨ inspButton s k false) ∧ (refd s k ∨ !(atTerminal read s k (inspButton s k true))) then
      startRun s k 11 { kind := 5, dest := 0, up := inspButton s k true }
    else s
  | _ => s

/-! ## Doors in a cycle -/

/-- A stall while opening (R293). -/
def blockedOpening (s : State) (k d : Nat) : State :=
  let x := doorOf s d
  let s1 := doorHold s d 4
  let n := x.blocked + 1
  let s2 := putDoor s1 d { doorOf s1 d with blocked := n, needRef := true }
  if 3 ≤ n then carFault (setDoor s2 d 10) k 7 false else s2

/-- An obstruction of a closing door (R291, R299). -/
def obstruction (s : State) (k d : Nat) : State :=
  let s1 := nudgeStart (s.count Od.lft_door_obstr d) k
  if doorPermitted s k ∧ !(liftCar s k).brakeReq then doorOpenNow s1 d 7
  else if (liftCar s k).brakeReq then liftEvent s1 3 k 1 true 0 d
  else doorHold (liftEvent s1 3 k 1 true 0 d) d 1

/-- A phase II stroke whose button was let go runs back to where it came from (R297). -/
def strokeBack (s : State) (d : Nat) : State := putDoor s d { doorOf s d with reversed := true }

/-- Phase II: the doors follow DOOR_OPEN and DOOR_CLOSE, and a stroke let go before its end is reversed; independent: they close on
DOOR_CLOSE with a car call (R297). A car that relevels keeps its doors (R284). -/
def doorButtons (read : State → Nat → Nat → Nat) (s : State) (k d : Nat) : State :=
  let st := doorState s d
  let standing := lsState s k == 4 || lsState s k == 3
  let open_ := switchOn read s k 5
  let close := switchOn read s k 6
  if opOf s k = 4 ∧ standing then
    let back := (doorOf s d).reversed
    if (st = 3 ∨ st = 9) ∧ open_ ∧ doorPermitted s k then setLs (doorOpenNow s d 4) k 4
    else if (st = 5 ∨ st = 9) ∧ close then doorCloseNow s d false
    else if (st = 4 ∨ st = 7) ∧ close ∧ (back ∨ !open_) then doorCloseNow s d false
    else if (st = 4 ∨ st = 7) ∧ !open_ ∧ !back then strokeBack (doorCloseNow s d false) d
    else if (st = 6 ∨ st = 8) ∧ open_ ∧ (back ∨ !close) ∧ doorPermitted s k then doorOpenNow s d 7
    else if (st = 6 ∨ st = 8) ∧ !close ∧ !back ∧ doorPermitted s k then strokeBack (doorOpenNow s d 7) d
    else s
  else if lsState s k = 8 then s
  else if opOf s k = 1 ∧ st = 5 ∧ close ∧ callsOf s k 0 ≠ [] then doorCloseNow s d false
  else if opOf s k = 3 ∧ st = 5 ∧ standing ∧ s.rd Od.lft_landing k ≠ s.rd Od.lft_fire_landing k then doorCloseNow s d true
  else s

/-- The doors that have come to CLOSED end the nudging of their landing (R292). -/
def doorShutNow (s : State) (k d : Nat) : State :=
  let s1 := setDoor s d 3
  if doorsShut s1 k then putCar s1 k { liftCar s1 k with nudgeRun := false, nudge := false } else s1

/-- One door in one cycle (R289 to R295). -/
def doorStep (read : State → Nat → Nat → Nat) (s : State) (k d : Nat) : State :=
  match doorChan s d with
  | none => if doorState s d = 0 then s else setDoor s d 0
  | some c =>
    let m := chanOf s c
    let st := doorState s d
    let still := m.plan == [] && !m.replan
    if st = 0 then setDoor s d 1
    else if st = 1 then (if s.mode = .safeHold ∨ opOf s k = 2 ∨ lsState s k = 8 then s else doorRef s d)
    else if st = 2 then
      if s.rd Od.mot_state c = 6 then carFault (setDoor s d 10) k 7 false
      else if motBit s c motREFERENCED ∧ m.phase = 0 ∧ still then doorShutNow (putDoor s d { doorOf s d with fresh := true }) k d
      else s
    else if st = 4 ∨ st = 7 then
      if motBit s c motSTALL then blockedOpening s k d
      else if !(doorPermitted s k) then doorHold s d 2
      else if still ∧ cmdCount m = doorOpenPos s d then setDoor (putDoor s d { doorOf s d with reversed := false }) d 5
      else doorButtons read s k d
    else if st = 6 ∨ st = 8 then
      if motBit s c motSTALL then doorRef s d
      else if obstructed s d c (st == 8 || opOf s k == 4) then obstruction s k d
      else if still ∧ cmdCount m = doorShutPos s c then doorShutNow (putDoor s d { doorOf s d with reversed := false }) k d
      else if st = 8 ∧ !(nudgeAllowed s k) then doorCloseNow s d false
      else doorButtons read s k d
    else if st = 9 then
      let x := doorOf s d
      if lsState s k = 8 then s
      else if opOf s k = 4 then doorButtons read s k d
      else if x.held = 1 then (if obstructed s d c (nudging s k) then s else doorCloseNow s d (nudging s k))
      else if x.held = 2 ∨ x.held = 3 ∨ x.held = 6 then
        (if s.mode = .safeHold ∨ opOf s k = 2 then s else if doorPermitted s k then doorOpenNow s d 4 else s)
      else if x.held = 5 ∧ opOf s k ≠ 2 then doorCloseNow s d false
      else s
    else doorButtons read s k d

/-! ## The cycle (R273, R280) -/

/-- A count per second or per second squared as µm, to the nearest (R279). -/
def microns (s : State) (k : Nat) (q : Frac) : Nat := ofInt 32 (countOf ((q.mul (nq 1000000)).div (cpm s k)))

/-- The command frame and SREF of a cycle (R279, R280); with no drive address there is none to send the frame to (R303). FAULT_RESET is sent while a held car's reset is asked for, and in the frame after it
(log entry 133). -/
def commandFrame (s : State) (k : Nat) : State :=
  let x := liftCar s k
  let m := chanOf s (carChan k)
  let zero := s.mode == .safeHold
  let v := if zero then nq 0 else q64 m.v
  let a := if zero then nq 0 else q64 m.a
  let control := b2n x.enable + 2 * b2n x.runBit + 4 * b2n (x.resetBit || (x.resetAsked && lsState s k == 10))
  let bytes := [1, 1] ++ beBytes 2 x.cmdSeq ++ beBytes 4 (microns s k v) ++ beBytes 4 (microns s k a) ++ beBytes 2 control ++ [0, 0]
  let volts := (v.div (cpm s k)).div (s.rdQ Od.lft_sref_scale k)
  let sref := if s.rd Od.lft_sref_enable k = 1 then clampInt (-32768) 32767 (countOf (volts.mul (nq 32768))) else 0
  let s1 := putCar s k { x with cmdSeq := (x.cmdSeq + 1) % 65536, missed := min (x.missed + 1) 3, resetBit := false, sref := sref }
  let mac := s.rd Od.lft_drive_mac k
  match liftPort s k with
  | some p => if mac = 0 then s1 else s1.send (.driveCmd k p mac bytes)
  | none => s1

/-- A car leaves service: OFF, nothing requested; a learning run is aborted (R277). -/
def carOff (s : State) (k : Nat) : State :=
  if lsState s k = 0 ∧ (liftCar s k).due = [] then s
  else
    let s1 := learnAborted s k
    let s2 := if (liftCar s1 k).due.contains .learn then s1.wr Od.lft_learn_result 4 k else s1
    setLs (putCar s2 k { dropRequests (liftCar s2 k) with run := none, openDue := false, levelDue := false, due := [] }) k 0

/-- The standing conditions of a relevelling (R284): the car stands at a landing and lies off its floor. -/
def relevelWanted (s : State) (k : Nat) : Bool :=
  let l := s.rd Od.lft_landing k
  running s && s.mode != .safeHold && decide (k < 2) && inService s k && (lsState s k == 3 || lsState s k == 4) && (liftCar s k).run == none &&
    refd s k && decide (l < landings s k) && (s.rdQ Od.lft_relevel k).lt (mmOf s k (carPos s k - landPos s k l)).abs

/-- A door keeps its place while the car relevels (R284); one that was referencing does it again after. -/
def doorKeep (s : State) (d : Nat) : State :=
  let st := doorState s d
  if st = 4 ∨ st = 6 ∨ st = 7 ∨ st = 8 then doorHold s d 2
  else if st = 2 then match doorChan s d with
    | some c => setDoor (rampDown (motPut (putChan s c { chanOf s c with phase := 0 }) c motCURRED false) c) d 1
    | none => s
  else s

/-- A relevelling begins (R284). -/
def relevelNow (s : State) (k : Nat) : State :=
  if relevelWanted s k then
    let l := s.rd Od.lft_landing k
    let inside (c : Int) : Bool := decide (vaneLo s k l ≤ c) && decide (c ≤ vaneHi s k l)
    if inside (carPos s k) && inside (landPos s k l) then
      if stBit s k 1 then (if runPermitted s k then startRun s k 8 { kind := 3, dest := l } else s)
      else startRun ((carDoors s k).foldl doorKeep s) k 8 { kind := 4, dest := l }
    else carFault s k 3 false
  else s

/-- A parked car may go to its park landing (R287). -/
def parkWanted (s : State) (k : Nat) : Bool :=
  let park := s.rd Od.lft_park_landing k
  running s && s.mode != .safeHold && decide (k < 2) && inService s k && lsState s k == 3 && called s k == [] && (opOf s k == 0 || opOf s k == 1) &&
    serviceRuns s k && refd s k && park != 0xFF && park != s.rd Od.lft_landing k && mayRun s k

/-- A learning run begins once the doors are referenced (R277, R289); where the car cannot, it counts as aborted (log entry 68). -/
def learnNow (s : State) (k : Nat) : State :=
  let st := lsState s k
  if carWired s k ∧ (st = 0 ∨ st = 1 ∨ st = 3 ∨ st = 4) ∧ (liftCar s k).run = none ∧ stBit s k 1 ∧ s.mode ≠ .safeHold ∧ opOf s k ≠ 2 then
    if doorsFresh s k then findPosition (putCar s k { liftCar s k with edges := [], learnDone := false }) k 2
    else refDoors (putCar s k { liftCar s k with due := (liftCar s k).due ++ [.learn] }) k
  else s.wr Od.lft_learn_result 4 k

/-- What the loss of the drive link does (R280): with SREF a car that runs to a landing goes to the next it can reach and is then held. -/
def linkAction (s : State) (k : Nat) : State :=
  if s.rd Od.lft_sref_enable k = 0 then faultAction s k true
  else match (liftCar s k).run with
    | some r =>
      let q : LiftRun := { r with thenHeld := true, noOpen := false }
      let keep := putCar s k { liftCar s k with run := some q }
      if (r.kind = 0 ∨ r.kind = 6) ∧ r.step = 3 ∧ (firstReachable s k r.up).isSome then redirect s k q
      else if (r.kind = 0 ∨ r.kind = 6) ∧ 4 ≤ r.step then keep
      else if (r.kind = 3 ∨ r.kind = 4) ∧ 3 ≤ r.step then keep
      else faultAction s k false
    | none => faultAction s k false

/-- One thing that was due at this cycle. -/
def takeDue (k : Nat) (s : State) : LiftDue → State
  | .fault 1 => linkAction s k
  | .fault _ => faultAction s k false
  | .relevel => relevelNow s k
  | .park => if parkWanted s k then runTo s k (s.rd Od.lft_park_landing k) else s
  | .learn => learnNow s k
  | .hold => if lsState s k = 0 then s else setLs s k (if (liftCar s k).run.isSome then 9 else 10)

/-- Everything that was due at this cycle, in the order it came. -/
def dueStep (s : State) (k : Nat) : State := (liftCar s k).due.foldl (takeDue k) (putCar s k { liftCar s k with due := [] })

/-- Something is due at the next cycle. -/
def putDue (s : State) (k : Nat) (d : LiftDue) : State :=
  if (liftCar s k).due.contains d then s else putCar s k { liftCar s k with due := (liftCar s k).due ++ [d] }

/-- The doors of a car in one cycle, those of a car out of service too (R289). -/
def doorSteps (read : State → Nat → Nat → Nat) (s : State) (k : Nat) : State :=
  ([2 * k, 2 * k + 1]).foldl (fun t d => forceRead (doorStep read t k d) d) s

/-- One car in one cycle. -/
def carCycle (read : State → Nat → Nat → Nat) (s : State) (k : Nat) : State :=
  let old := s.rd Od.lft_status k
  if !(carWired s k) then doorSteps read (carOff s k) k
  else
    let s1 := opStep read (dueStep (vaneStep (latchCar s k) k) k) k
    let s2 := watchCar s1 k old
    let s3 := if !(inService s2 k) then carOff s2 k
      else match (liftCar s2 k).run with
        | some r => runStep read s2 k r
        | none => if (liftCar s2 k).due.contains .learn then s2 else idleStep read s2 k
    commandFrame (doorSteps read s3 k) k

/-- LIFT_CYCLE (R273). -/
def liftCycle (read : State → Nat → Nat → Nat) (s : State) : State :=
  if running s ∧ s.variant = .x then carCycle read (carCycle read (enterCalls s) 0) 1 else s

/-! ## Drive link (R279, R280) -/

/-- DRIVE_STATUS_FRAME_RX. -/
def driveStatusFrameRx (k src : Nat) (bytes : List Nat) (s : State) : State :=
  if running s ∧ k < 2 ∧ carWired s k ∧ src = s.rd Od.lft_drive_mac k ∧ src ≠ 0 ∧ bytes.getD 0 0 = 1 ∧ bytes.getD 1 0 = 2 ∧ 16 ≤ bytes.length then
    (putCar s k { liftCar s k with drive := ofBytes (slice bytes 8 2), missed := 0 }).wr Od.lft_drive_fault (ofBytes (slice bytes 10 2)) k
  else s

/-- A fault between two cycles: its code is taken at once, its action at the next cycle (R282). -/
def lateFault (s : State) (k code : Nat) : State := if lsState s k = 0 then s else putDue (takeFault s k code) k (.fault code)

/-- DRIVE_LINK_LOST (R280, R281): without SREF the run request is withdrawn at once; the rest follows at the next cycle (R282). -/
def driveLinkLost (k : Nat) (s : State) : State :=
  let x := liftCar s k
  if running s ∧ k < 2 ∧ carWired s k ∧ !x.lost ∧ 3 ≤ x.missed then
    let s1 := (putCar s k { x with lost := true }).count Od.lft_link_lost k
    let s2 := (s1.wrBit Od.lft_status 7 false k).wrBit Od.lft_status 8 (s.rd Od.lft_sref_enable k == 1) k
    let s3 := if s.rd Od.lft_sref_enable k = 0 ∧ carMoving s2 k then putCar s2 k (dropRequests (liftCar s2 k)) else s2
    lateFault s3 k 1
  else s

/-- DRIVE_LINK_RESTORED (R280). -/
def driveLinkRestored (k : Nat) (s : State) : State :=
  let x := liftCar s k
  if running s ∧ k < 2 ∧ carWired s k ∧ x.lost ∧ x.missed < 3 then
    ((putCar s k { x with lost := false }).wrBit Od.lft_status 7 true k).wrBit Od.lft_status 8 false k
  else s

/-! ## Timed commands of the lift logic -/

/-- The step of a car's run. -/
def runAt (s : State) (k step : Nat) : Bool :=
  match (liftCar s k).run with
  | some r => r.step == step && r.kind != 8
  | none => false

/-- MAGNETISE_TIMEOUT (R281). -/
def magnetiseTimeout (k : Nat) (s : State) : State :=
  if running s ∧ k < 2 ∧ runAt s k 1 ∧ !((liftCar s k).drive.testBit 1) then lateFault s k 4 else s

/-- BRAKE_OPEN_TIMEOUT (R281). -/
def brakeOpenTimeout (k : Nat) (s : State) : State :=
  if running s ∧ k < 2 ∧ runAt s k 2 ∧ !(brakeOpen s k) then lateFault s k 5 else s

/-- FOLLOWING_ERROR (R281). -/
def followingError (k : Nat) (s : State) : State :=
  let c := carChan k
  if running s ∧ k < 2 ∧ runAt s k 3 ∧ lsState s k ≠ 9 ∧ (s.rdQ Od.lft_follow_max k).lt (mmOf s k (motPos s c - cmdCount (chanOf s c))).abs then lateFault s k 2
  else s

/-- BRAKE_RELEASE_DELAY (R283). -/
def brakeReleaseDelay (k : Nat) (s : State) : State :=
  match (liftCar s k).run with
  | some r => if running s ∧ k < 2 ∧ r.step = 4 then putCar s k { liftCar s k with brakeReq := false, run := some { r with step := 5 } } else s
  | none => s

/-- The learned table (R277): for each vane its lower and upper edge. -/
def learnedVanes : List (Bool × Int) → Option Int → List (Option Int × Int)
  | [], _ => []
  | (true, c) :: r, _ => learnedVanes r (some c)
  | (false, c) :: r, lo => (lo, c) :: learnedVanes r none

/-- One landing of a learned table is stored. -/
def storeVane (s : State) (k l : Nat) (v : Option Int × Int) : State :=
  let e := k * 128 + l
  let lo := v.1.getD (vaneLo s k l)
  let ofs := toInt 16 (s.rd Od.lft_level_ofs e)
  let floor := countOf ((Frac.mk (lo + v.2) 2).add (Frac.mk (ofs * s.rd Od.lft_cpm k) 10000))
  ((s.wr Od.lft_vane_lo (ofInt 64 lo) e).wr Od.lft_vane_hi (ofInt 64 v.2) e).wr Od.lft_land_pos (ofInt 64 floor) e

/-- LEARN_RUN_END (R277): the edges of a completed travel become the table, whether or not the car has come to rest yet. -/
def learnRunEnd (k : Nat) (s : State) : State :=
  if running s ∧ k < 2 ∧ (liftCar s k).learnDone ∧ (liftCar s k).edges ≠ [] then
    let vs := learnedVanes (liftCar s k).edges none
    let n := landings s k
    let s1 := if vs.length = n then (List.range n).foldl (fun t l => storeVane t k l (vs.getD l (none, 0))) s else s
    (putCar s1 k { liftCar s1 k with edges := [], levelDue := true }).wr Od.lft_learn_result (if vs.length = n then 1 else if vs.length < n then 2 else 3) k
  else s

/-- RELEVEL_START (R284): the car relevels from the next cycle on (R282). -/
def relevelStart (k : Nat) (s : State) : State := if relevelWanted s k then putDue s k .relevel else s

/-- PARK_TIMEOUT (R287): the car leaves at the next cycle (R282). -/
def parkTimeout (k : Nat) (s : State) : State := if parkWanted s k then putDue s k .park else s

/-- DOOR_DWELL_EXPIRY (R289, R292, R297). -/
def doorDwellExpiry (k : Nat) (s : State) : State :=
  let op := opOf s k
  let fireOpen := op == 3 && s.rd Od.lft_landing k == s.rd Od.lft_fire_landing k
  if running s ∧ s.mode ≠ .safeHold ∧ k < 2 ∧ inService s k ∧ lsState s k ≠ 8 ∧ op ≠ 1 ∧ op ≠ 2 ∧ op ≠ 4 ∧ !fireOpen then
    let broken := !(nudging s k) && (carDoors s k).any (fun d => doorState s d == 5 && curtainBroken s d)
    if broken then nudgeStart s k
    else (carDoors s k).foldl (fun t d => if doorState t d = 5 then doorCloseNow t d (nudging s k) else t) s
  else s

/-- NUDGE_TIMEOUT (R292). -/
def nudgeTimeout (k : Nat) (s : State) : State :=
  if running s ∧ k < 2 ∧ (liftCar s k).nudgeRun ∧ nudgeAllowed s k then
    (putCar s k { liftCar s k with nudge := true }).wrBit Od.lft_status 10 true k
  else s

/-- BLOCKED_OPENING_RETRY (R293): the door opens again at the next cycle that lets it. -/
def blockedOpeningRetry (d : Nat) (s : State) : State :=
  if running s ∧ s.mode ≠ .safeHold ∧ d < 4 ∧ doorState s d = 9 ∧ (doorOf s d).held = 4 then
    match doorChan s d with
    | some c => putDoor (motPut s c motSTALL false) d { doorOf s d with held := 6 }
    | none => s
  else s

/-! ## Status datagram (R288) -/

/-- The bytes of the datagram. The position of an unreferenced car has no stated value (log entry 6). -/
def statusBytes (s : State) (k : Nat) : List Nat :=
  let p := liftPosView s k
  let mm := if isNaN32 p then s.freeVal else ofInt 32 (f32q p).round
  let speed := ofInt 32 ((s.rdQ Od.lft_speed k).mul (nq 1000)).round
  let next := match (liftCar s k).run with
    | some r => if r.kind = 0 ∨ r.kind = 6 then r.dest else 0xFF
    | none => 0xFF
  [0xCE, 0x16, 1, k, lsState s k, opOf s k, doorState s (2 * k + 1) * 16 + doorState s (2 * k), s.rd Od.lft_dir k] ++
    beBytes 4 mm ++ beBytes 4 speed ++ [s.rd Od.lft_landing k, next] ++ beBytes 2 (s.rd Od.lft_status k) ++ beBytes 8 s.now ++
    beBytes 4 (liftCar s k).pubSeq

/-- LIFT_STATUS_PUBLISH (R288). -/
def liftStatusPublish (k : Nat) (s : State) : State :=
  if running s ∧ s.variant = .x ∧ k < 2 ∧ s.rd Od.lft_pub_period ≠ 0 then
    let bytes := statusBytes s k
    let s0 := if isNaN32 (liftPosView s k) then s.tookFree else s
    let s1 := putCar s0 k { liftCar s0 k with pubSeq := ((liftCar s0 k).pubSeq + 1) % 2 ^ 32 }
    hostDatagram s1 5 32 (s.rd Od.lft_pub_addr) (.liftStatus k bytes)
  else s

/-! ## Modes (R298) -/

/-- SAFE_HOLD: brake and drive off, reference 0 at once, moving doors held; states 9 and 10 follow at the next cycle (R282). -/
def lftSafeHold (s : State) : State :=
  if s.variant = .s then s
  else
    let s1 := ([0, 1]).foldl (fun t k =>
      let st := lsState t k
      if st = 0 then t
      else
        let t1 := if st = 9 ∨ st = 10 then t else putCar t k { liftCar t k with safeHeld := t.rd Od.lft_fault k == 0 }
        if carMoving t1 k then putDue (toBrake t1 k) k .hold else if st = 10 then t1 else putDue (dropRun t1 k) k .hold) s
    (List.range 4).foldl (fun t d =>
      let st := doorState t d
      if st = 4 ∨ st = 6 ∨ st = 7 ∨ st = 8 then doorHold t d 3 else if st = 2 then setDoor t d 1 else t) s1

/-- A start or a power failure: everything volatile of the lift logic goes. -/
def liftOff (s : State) : State := { s with lft := {} }

/-! ## Checks and effects of the entries -/

/-- The chapter's own refusals (R277, R285). A call applied again after a start is registered whatever the car's state (R299). -/
def lftExtra (s : State) (replayed : Bool) (i e v : Nat) : Extra :=
  if i = Od.lft_call then
    let l := byteAt 8 v 0
    let ty := byteAt 8 v 1
    let sides := byteAt 8 v 2
    let served := s.rd Od.lft_door_sides (e * 128 + l)
    let st := lsState s e
    { range := decide (landings s e ≤ l) || ty == 0 || decide (6 < ty) || sides ||| served != served || bytesAt 8 v 3 5 != 0 ||
        (ty == 2 && l + 1 == landings s e) || (ty == 3 && l == 0)
      mode := !replayed && (!(callAccepted (opOf s e) ty) || st == 0 || st == 10 || s.mode == .safeHold) }
  else if i = Od.lft_learn then
    { mode := s.mode != .maintenance, late := if carIn s e 1 then .ok else .busyRetry }
  else {}

/-- An applied write of a lift entry other than a call (R277, R281). A learning run begins at the next cycle (R282); one that the car cannot
start counts as aborted (log entry 68). -/
def lftApply (s : State) (i e _v : Nat) : Option State :=
  if i = Od.lft_fault_reset then
    some (if lsState s e = 10 ∨ lsState s e = 9 then putCar s e { liftCar s e with resetAsked := true } else s)
  else if i = Od.lft_learn then
    some (if carWired s e then putDue s e .learn else s.wr Od.lft_learn_result 4 e)
  else none

/-- The cars a changed entry configures: 0, 1 or both (R272). -/
def carsOf (s : State) (i e : Nat) : List Nat :=
  if 0x3020 ≤ i ∧ i ≤ 0x3024 then [e / 128]
  else if i = Od.lft_sw_src then [e / 8]
  else if i = Od.lft_pub_addr ∨ i = Od.lft_pub_period then [0, 1]
  else if 0x3050 ≤ i ∧ i ≤ 0x305E then [e / 2]
  else if 0x3000 ≤ i ∧ i ≤ 0x33FF then [e]
  else if 0x2C00 ≤ i ∧ i ≤ 0x2C3F then
    (if e = 14 ∨ e = 15 then [e - 14] else if 4 ≤ useOf s e ∧ useOf s e ≤ 7 then [(useOf s e - 4) / 2] else [])
  else if 0x2C40 ≤ i ∧ i ≤ 0x2FFF then [e]
  else []

/-- The door limits of R290. -/
def doorLegal (s : State) (d : Nat) : Bool :=
  match doorChan s d with
  | none => true
  | some c =>
    let m := s.rdQ Od.lft_door_mass d
    let vc := s.rdQ Od.lft_door_v_close d
    let vn := s.rdQ Od.lft_door_v_nudge d
    let f := (s.rdQ Od.lft_door_kf d).mul (s.rdQ Od.mot_i_run c)
    ((m.mul (vc.mul vc))).le (nq 20) && (m.mul (vn.mul vn)).le (nq 8) && vn.le vc && f.le (nq 150) && (s.rdQ Od.lft_door_fmax d).le f

/-- The failure a commit leaves in the lift configuration, if any (R272, R290). -/
def lftLeaves (old s : State) (touched : List (Nat × Nat)) : Option Status :=
  if s.variant = .s then none
  else
    let tabled (k : Nat) : Bool := touched.any (fun t => (t.1 = Od.lft_land_pos ∧ t.2 / 128 = k) ∨ (t.1 = Od.lft_landings ∧ t.2 = k))
    let car (k : Nat) : Bool :=
      let fire := decide (s.rd Od.lft_fire_landing k < landings s k)
      let park := s.rd Od.lft_park_landing k == 0xFF || decide (s.rd Od.lft_park_landing k < landings s k)
      let speed := useOf s (carChan k) != 8 + k || (s.rdQ Od.mot_v_max (carChan k)).le ((nq 10).mul (cpm s k))
      fire && park && speed && (!(tabled k) || landsRising s k) &&
        (s.rd Od.lft_enable k == 0 || (useOf s (carChan k) == 8 + k && (liftPort s k).isSome && (doorChan s (2 * k)).isSome && landsRising s k))
    if !(car 0 && car 1 && (List.range 4).all (doorLegal s)) then some .outOfRange
    else
      let busy := touched.any (fun t =>
        (match entryDef? t.1 with
          | some d => (d.acc == .rwt || d.acc == .rwm) || (decide (0x2C00 ≤ t.1) && decide (t.1 ≤ 0x2FFF))
          | none => false) &&
        (carsOf old t.1 t.2 ++ carsOf s t.1 t.2).any (fun k => let st := lsState s k; st != 0 && st != 1 && st != 3 && st != 10))
      if busy then some .busyRetry else none

end Sys2Proof.Machine
end

