-- ==== Sys2Proof/Machine/Programs.lean ====
section
/-!
DEFINITION. Cyclic programs (R335 to R349). A program is native code whose instruction set the manual does not describe: what a
cycle's code writes to its data is the fact that PROGRAM_CYCLE_END carries (log entry 32).
-/
namespace Sys2Proof.Machine

def slotPrg (s : State) (p : Nat) : PrgSlot := tabGet {} p s.prg.slots
def putPrg (s : State) (p : Nat) (x : PrgSlot) : State := { s with prg := { s.prg with slots := tabPut p x s.prg.slots } }
def prgState (s : State) (p : Nat) : Nat := s.rd Od.prg_state p
def setPrg (s : State) (p st : Nat) : State := s.wr Od.prg_state st p

/-- A program event (R394): fault, and program counter or exchange sequence. -/
def prgEvent (s : State) (tag p sev fault x : Nat) : State := blockEvent s 0x0A tag p sev true (pay [(1, fault), (8, x)])

/-- The low fields of `prg_status` kept in the store; the others follow the state. -/
def prgOVERRUNWARN : Nat := 5
def prgOUTREFUSED : Nat := 6
def prgPACED : Nat := 3

/-- Whether an exchange of program `p` is accepted and not complete, the time until its replay included (R341, R349). An unload of an empty slot is
complete at once (R343). -/
def exchangeOpen (s : State) (p : Nat) : Bool :=
  let x := slotPrg s p
  x.pend != [] || x.first.isSome ||
    s.mer.recs.any (fun r => r.kind == 6 && !r.completed && !r.specDone && s.rd Od.prg_stamp p != r.seq &&
      r.writes.any (fun w => w.index == Od.prg_exchange && w.elem == p && !(byteAt 8 w.value 0 == 2 && x.image == [])))

/-- `prg_status` (R349). -/
def prgStatusView (s : State) (p : Nat) : Nat :=
  let x := slotPrg s p
  let st := s.rd Od.prg_status p
  b2n (x.image != []) + 2 * b2n (prgState s p == 2) + 4 * b2n (s.rd Od.prg_stage_state p == 2) + 8 * b2n (st.testBit prgPACED) +
    16 * b2n (exchangeOpen s p) + 32 * b2n (st.testBit prgOVERRUNWARN) + 64 * b2n (st.testBit prgOUTREFUSED) +
    128 * b2n (s.mode == .safeHold && prgState s p == 2)

/-- A cycle has used the active pair for `us` µs, whether it ended normally or was discarded (R349). -/
def usedPair (s : State) (us : Nat) : State :=
  { s with prg := { s.prg with hist := (s.now, us) :: s.prg.hist.filter (fun h => decide (s.now < h.1 + 1000000000)) } }

/-- `prg_rt_share` (R349): cycle time over the last second, in %. -/
def rtShareView (s : State) : Nat := min 100 (((s.prg.hist.filter (fun h => decide (s.now < h.1 + 1000000000))).foldl (fun a h => a + h.2) 0) / 10000)

/-! ## Images (R340) -/

/-- A big-endian field of an image. -/
def imgF (img : List Nat) (o n : Nat) : Nat := ofBytes (slice img o n)

/-- A symbol table entry. -/
structure PrgSym where
  id : Nat
  cls : Nat
  ty : Nat
  off : Nat
  size : Nat

/-- An I/O table entry. -/
structure PrgIo where
  index : Nat
  elem : Nat
  ty : Nat
  output : Bool
  off : Nat

def imgDataLen (img : List Nat) : Nat := imgF img 16 4
def imgRetainLen (img : List Nat) : Nat := imgF img 20 4
def imgTenant (img : List Nat) : Nat := imgF img 30 1
def imgCrc (img : List Nat) : Nat := imgF img 60 4

def imgSyms (img : List Nat) : List PrgSym :=
  (List.range (imgF img 24 2)).map (fun k =>
    let o := imgF img 44 4 + 16 * k
    ⟨imgF img o 4, imgF img (o + 4) 1, imgF img (o + 5) 1, imgF img (o + 8) 4, imgF img (o + 12) 4⟩)

def imgIo (img : List Nat) : List PrgIo :=
  (List.range (imgF img 26 2 + imgF img 28 2)).map (fun k =>
    let o := imgF img 48 4 + 8 * k
    ⟨imgF img o 2, imgF img (o + 2) 2, imgF img (o + 4) 1, imgF img (o + 5) 1 == 1, 8 * imgF img (o + 6) 2⟩)

/-- The initial data of an image. -/
def imgInit (img : List Nat) : List Nat := slice img (imgF img 52 4) (imgDataLen img)

/-- Bytes of a list replaced from an offset; what lies beyond its end is dropped. -/
def splice (l : List Nat) (o : Nat) (bs : List Nat) : List Nat :=
  if l.length ≤ o then l else l.take o ++ (bs.take (l.length - o)).map (· % 256) ++ l.drop (o + bs.length)

/-! ## The check of a staged image (R341) -/

/-- The staged image: the staging blocks up to `prg_stage_len`. -/
def stagedBytes (s : State) (p : Nat) : List Nat :=
  let n := s.rd Od.prg_stage_len p
  ((List.range ((n + 1023) / 1024)).flatMap (fun b => beBytes 1024 (s.rd Od.prg_stage_data (p * 256 + b)))).take n

/-- Check 2: the check value, with its own bytes taken as 0. -/
def crcMatches (img : List Nat) : Bool := crc32c (img.take 60 ++ [0, 0, 0, 0] ++ img.drop 64) == imgCrc img

/-- Check 3: magic, version, image length, and every part within the image. -/
def partsWithin (img : List Nat) (len : Nat) : Bool :=
  let inside (o n : Nat) : Bool := decide (o + n ≤ len)
  imgF img 0 2 == 0xCE17 && imgF img 2 2 == 1 && imgF img 4 4 == len && decide (64 ≤ img.length) &&
    inside (imgF img 8 4) (imgF img 12 4) && inside (imgF img 44 4) (16 * imgF img 24 2) &&
    inside (imgF img 48 4) (8 * (imgF img 26 2 + imgF img 28 2)) && inside (imgF img 52 4) (imgDataLen img)

/-- The limits of a symbol entry: class, the type code of R66 that classes 0 and 1 alone have, reserved bytes. -/
def symWithin (img : List Nat) (o : Nat) : Bool :=
  let cls := imgF img (o + 4) 1
  let ty := imgF img (o + 5) 1
  decide (cls ≤ 6) && (if cls ≤ 1 then decide (1 ≤ ty) && decide (ty ≤ 15) else ty == 0) && imgF img (o + 6) 2 == 0

/-- The limits of the tables: every symbol entry, and the direction byte of every I/O entry. -/
def tablesWithin (img : List Nat) : Bool :=
  (List.range (imgF img 24 2)).all (fun k => symWithin img (imgF img 44 4 + 16 * k)) &&
    (List.range (imgF img 26 2 + imgF img 28 2)).all (fun k => decide (imgF img (imgF img 48 4 + 8 * k + 5) 1 ≤ 1))

/-- Check 4: the limits of R340. -/
def limitsMet (img : List Nat) : Bool :=
  let code := imgF img 12 4
  let entry := imgF img 40 4
  decide (img.length ≤ 262144) && imgF img 8 4 % 4 == 0 && decide (4 ≤ code) && decide (code ≤ 196608) && decide (imgDataLen img ≤ 131072) &&
    imgDataLen img % 8 == 0 && decide (imgRetainLen img ≤ 28672) && imgRetainLen img % 64 == 0 && decide (imgRetainLen img ≤ imgDataLen img) &&
    decide (imgF img 24 2 ≤ 4096) && decide (imgF img 26 2 ≤ 1024) && decide (imgF img 28 2 ≤ 512) && decide (imgTenant img ≤ 63) &&
    imgF img 31 1 == 0 && imgF img 56 4 == 0 && decide (imgF img 8 4 ≤ entry) && decide (entry < imgF img 8 4 + code) && tablesWithin img

/-- The row of an I/O entry's element, where the element exists on the variant with the stated type. -/
def ioDef (s : State) (x : PrgIo) : Option EntryDef :=
  match entryDef? x.index with
  | some d => if x.elem < d.nX ∧ !(absent s.variant d x.elem) ∧ d.ty.code = x.ty then some d else none
  | none => none

/-- Checks 6 and 7 but for rights: inputs readable, outputs RW ordinary entries no other loaded program outputs. -/
def ioExists (s : State) (p : Nat) (x : PrgIo) (asOutput : Bool) : Bool :=
  match ioDef s x with
  | none => false
  | some d =>
    x.output == asOutput &&
      (if asOutput then
        accOf d x.elem == .rw && entryKind x.index == 0 &&
          (List.range 4).all (fun q => q == p || !((imgIo (slotPrg s q).image).any (fun y => y.output && y.index == x.index && y.elem == x.elem)))
      else accOf d x.elem != .wo)

/-- Checks 6 and 7: rights of the tenant. -/
def ioRight (s : State) (tenant : Nat) (x : PrgIo) : Bool := if x.output then mayWriteTenant s tenant x.index else mayReadTenant s tenant x.index

/-- Check 8: symbols. -/
def symsGood (img : List Nat) : Bool :=
  let syms := imgSyms img
  let apart (a b : PrgSym) : Bool := decide (a.off + a.size ≤ b.off) || decide (b.off + b.size ≤ a.off)
  noRepeats (syms.map (·.id)) &&
    syms.all (fun y => y.id != 0 && decide (y.off + y.size ≤ imgDataLen img) &&
      (y.cls != 1 || decide (y.off + y.size ≤ imgRetainLen img)) &&
      (!(decide (2 ≤ y.cls) && decide (y.cls ≤ 4)) || y.size == 32) && (!(decide (5 ≤ y.cls)) || y.size == 4)) &&
    (List.range syms.length).all (fun a => match syms.drop a with
      | [] => true
      | y :: r => r.all (apart y))

/-- The result code of R341 for an image checked for a tenant. -/
def imageResult (s : State) (p tenant : Nat) (img : List Nat) (len : Nat) : Nat :=
  let io := imgIo img
  let ni := imgF img 26 2
  if !(crcMatches img) then 2
  else if !(partsWithin img len) then 3
  else if !(limitsMet img) then 4
  else if imgTenant img ≠ tenant then 5
  else if !((io.take ni).all (fun x => ioExists s p x false && ioRight s tenant x)) then 6
  else if !((io.drop ni).all (fun x => ioExists s p x true && ioRight s tenant x)) then 7
  else if !(symsGood img) then 8
  else 1

/-- STAGE_CHECK_DONE (R341). -/
def stageCheckDone (p : Nat) (s : State) : State :=
  if powered s ∧ p < 4 ∧ s.rd Od.prg_stage_state p = 1 then
    let img := stagedBytes s p
    let x := slotPrg s p
    let r := imageResult s p (tenantOf s x.checkPort) img (s.rd Od.prg_stage_len p)
    let s1 := s.wr Od.prg_stage_result r p
    if r = 1 then ((putPrg s1 p { x with staged := img }).wr Od.prg_stage_state 2 p).wr Od.prg_stage_crc (imgCrc img) p
    else (putPrg s1 p { x with staged := [] }).wr Od.prg_stage_state 3 p
  else s

/-! ## Exchange (R343 to R345) -/

/-- Whether a symbol's class, type and size let it carry over (R345). -/
def symKept (o y : PrgSym) : Bool := if y.cls ≤ 1 then decide (o.cls ≤ 1) && o.ty == y.ty && o.size == y.size else o.cls == y.cls

/-- A symbol of the new image against the old: bytes copied from the old data into the new where the exchange carries over, and the counts of the
report (R345). -/
def carrySym (carry : Bool) (old : List PrgSym) (oldData : List Nat) (acc : List Nat × Nat × Nat × Nat) (y : PrgSym) : List Nat × Nat × Nat × Nat :=
  let (d, carried, new_, changed) := acc
  match old.find? (fun o => o.id == y.id) with
  | none => (d, carried, new_ + 1, changed)
  | some o =>
    if !(symKept o y) then (d, carried, new_, changed + 1)
    else if !carry then (d, carried, new_, changed)
    else if y.cls ≤ 1 then (splice d y.off (slice oldData o.off y.size), carried + 1, new_, changed)
    else if y.cls ≤ 4 then (splice d (y.off + 8) (slice oldData (o.off + 8) 11), carried + 1, new_, changed)
    else (splice d y.off (slice oldData o.off 1), carried + 1, new_, changed)

/-- The ascending order of the removed IDs. -/
def insertAsc (n : Nat) : List Nat → List Nat
  | [] => [n]
  | m :: ms => if n ≤ m then n :: m :: ms else m :: insertAsc n ms

/-- The retained bytes in a program's committed half (R342). -/
def retained (s : State) (p : Nat) : List Nat := (tabGet {} p s.mer.retain).current

/-- The retained bytes of a program's committed data go to the inactive half, which its commit word then names (R342). -/
def storeRetain (s : State) (p : Nat) (x : PrgSlot) : State :=
  { s with mer := { s.mer with retain := tabPut p ((tabGet {} p s.mer.retain).commit (x.data.take (imgRetainLen x.image))) s.mer.retain } }

/-- All work with a lower number is complete (R344). -/
def lowerDone (s : State) (seq : Nat) : Bool := s.mer.recs.all (fun r => decide (seq ≤ r.seq) || r.completed)

/-- Whether an exchange of a record has not completed (R344). -/
def exchangeWaits (s : State) (seq : Nat) : Bool :=
  (List.range 4).any (fun p => (slotPrg s p).first == some seq || (slotPrg s p).pend.any (fun q => q.1 == seq))

/-- An exchange completes: the slot's stamp takes its number (R344), and a record none of whose exchanges waits is done (R86). -/
def exchangeDone (s : State) (p seq : Nat) : State :=
  prgEvent ((if exchangeWaits s seq then s else specialDone s seq 6).wr Od.prg_stamp seq p) 3 p 0 0 seq

/-- The staged image takes the slot: data built, instances carried, report and retain image written (R344, R345). `carry` is false for a
replayed exchange, whose report still counts against the image it replaces. -/
def loadImage (s : State) (p seq : Nat) (carry : Bool) : State :=
  let x := slotPrg s p
  let img := x.staged
  let old := imgSyms x.image
  let syms := imgSyms img
  let r := syms.foldl (carrySym carry old x.data) (imgInit img, 0, 0, 0)
  let gone := (old.filter (fun o => !(syms.any (fun y => y.id == o.id)))).map (·.id)
  let ids := gone.foldl (fun a n => insertAsc n a) []
  let s1 := putPrg s p { x with image := img, data := r.1, cyc := none, pend := x.pend.drop 1, first := some seq, overruns := 0, started := false }
  let s2 := ((((s1.wr Od.prg_x_carried r.2.1 p).wr Od.prg_x_new r.2.2.1 p).wr Od.prg_x_changed r.2.2.2 p).wr Od.prg_x_removed gone.length p)
  let s3 := (List.range 256).foldl (fun t j => t.wr Od.prg_x_removed_id (ids.getD j 0) (p * 256 + j)) s2
  let s4 := ((s3.wr Od.prg_tenant (imgTenant img) p).wr Od.prg_image_crc (imgCrc img) p).wr Od.prg_build (imgF img 32 8) p
  let s5 := storeRetain (s4.wr Od.prg_fault 0 p) p (slotPrg s4 p)
  if s.rd Od.prg_run p = 0 ∨ s.mode = .commission then
    exchangeDone (setPrg (putPrg s5 p { slotPrg s5 p with first := none }) p 1) p seq
  else setPrg s5 p 3

/-- An unload: the slot becomes empty, its retain halves are cleared (R344). -/
def unloadImage (s : State) (p seq : Nat) : State :=
  let x := slotPrg s p
  let s1 := putPrg s p { x with image := [], data := [], cyc := none, pend := x.pend.drop 1, first := none, overruns := 0, started := false }
  let s2 := { s1 with mer := { s1.mer with retain := tabDel p s1.mer.retain } }
  let s3 := ((s2.wr Od.prg_tenant 0xFF p).wr Od.prg_image_crc 0 p).wr Od.prg_build 0 p
  exchangeDone (setPrg (s3.wr Od.prg_fault 0 p) p 0) p seq

/-- An accepted exchange is applied at a cycle boundary of its program, once all lower work is complete (R344). One accepted before a start
that returned the data to its defaults carries nothing (R345). -/
def exchangeDue (s : State) (p : Nat) : State :=
  let x := slotPrg s p
  match x.pend, x.cyc with
  | (seq, op) :: _, none =>
    if lowerDone s seq then (if op = 1 then loadImage s p seq (x.image != [] && decide (s.prg.bootSeq ≤ seq)) else unloadImage s p seq) else s
  | _, _ => s

/-- An exchange is accepted (R343): pending, but for an unload of an empty slot, which does nothing and is complete at once. -/
def exchangeAccepted (s : State) (seq p v : Nat) : State :=
  let op := byteAt 8 v 0
  let x := slotPrg s p
  if op = 2 ∧ x.image = [] ∧ x.pend = [] then s
  else putPrg s p { x with pend := x.pend ++ [(seq, op)] }

/-! ## Cycles (R335 to R339, R344) -/

/-- The data of a cycle: the committed data with every input latched from the committed image. -/
def latchInputs (read : State → Nat → Nat → Nat) (s : State) (x : PrgSlot) : List Nat :=
  (imgIo x.image).foldl (fun d y =>
    if y.output then d
    else match ioDef s y with
      | some e => splice d y.off (beBytes e.ty.size (read s y.index y.elem))
      | none => d) x.data

/-- The least time between two cycle starts of a program, in µs (R335). -/
def leastCycle (s : State) (p : Nat) : Nat := max 50 (s.rd Od.prg_min_cycle p)

/-- The time since a program's last cycle start, in µs. -/
def sinceStart (s : State) (p at_ : Nat) : Nat := (at_ - (slotPrg s p).startAt) / 1000

/-- A program that runs and whose least time has passed. -/
def prgReady (s : State) (at_ p : Nat) : Bool :=
  (prgState s p == 2 || prgState s p == 3) && (!(slotPrg s p).started || decide (leastCycle s p ≤ sinceStart s p at_))

/-- The program whose turn it is: the next ready one in slot order after the last to start (R336). -/
def turnAt (s : State) (at_ : Nat) : Option Nat := (([1, 2, 3, 4] : List Nat).map (fun k => (s.prg.turn + k) % 4)).find? (prgReady s at_)

/-- PROGRAM_CYCLE_START (R335, R336). -/
def programCycleStart (read : State → Nat → Nat → Nat) (p at_ : Nat) (s : State) : State :=
  let x := slotPrg s p
  let us := sinceStart s p at_
  let idle := (List.range 4).all (fun q => (slotPrg s q).cyc.isNone)
  if running s ∧ s.mode ≠ .commission ∧ p < 4 ∧ idle ∧ turnAt s at_ = some p then
    let s1 := s.wrBit Od.prg_status prgPACED (x.started && us == leastCycle s p) p
    let s2 := if x.started ∧ s.rd Od.prg_interval_max p < us then s1.wr Od.prg_interval_max us p else s1
    let s3 := putPrg s2 p { x with cyc := some (latchInputs read s x), started := true, startAt := at_ }
    { s3 with prg := { s3.prg with turn := p } }
  else s

/-- A cycle ends, normally or discarded: an exchange completes at the end of its first new cycle, and a pending one is applied. -/
def cycleBoundary (s : State) (p : Nat) : State :=
  let x := slotPrg s p
  let s1 := match x.first with
    | some seq => setPrg (exchangeDone (putPrg s p { x with first := none }) p seq) p (if prgState s p = 3 then 2 else prgState s p)
    | none => s
  let stop := (s1.rd Od.prg_run p == 0 || s1.mode == .commission) && prgState s1 p == 2
  exchangeDue (if stop then setPrg s1 p 1 else s1) p

/-- A cycle is discarded: its outputs and data changes are dropped (R337). -/
def discardCycle (s : State) (p : Nat) : State := putPrg s p { slotPrg s p with cyc := none }

/-- PROGRAM_OVERRUN (R338). -/
def programOverrun (p : Nat) (s : State) : State :=
  let x := slotPrg s p
  if p < 4 ∧ x.cyc.isSome then
    let s1 := (usedPair (discardCycle s p) (s.rd Od.prg_max_cycle p)).count Od.prg_overruns p
    let s2 := prgEvent (s1.wrBit Od.prg_status prgOVERRUNWARN true p) 1 p 1 1 (s.rd Od.prg_max_cycle p)
    let s3 := putPrg s2 p { slotPrg s2 p with overruns := x.overruns + 1 }
    let lim := s.rd Od.prg_overrun_limit p
    let s4 := cycleBoundary s3 p
    if lim ≠ 0 ∧ lim ≤ x.overruns + 1 ∧ (slotPrg s4 p).pend.length = x.pend.length then (setPrg s4 p 4).wr Od.prg_fault 1 p else s4
  else s

/-- OVERRUN_WARN_CLEAR (R338). -/
def overrunWarnClear (p : Nat) (s : State) : State := if p < 4 then s.wrBit Od.prg_status prgOVERRUNWARN false p else s

/-- PROGRAM_CYCLE_END (R335, R337, R342): data committed, retained lines stored, outputs due at the next tick. -/
def programCycleEnd (p at_ : Nat) (writes : List (Nat × List Nat)) (s : State) : State :=
  let x := slotPrg s p
  let us := sinceStart s p at_
  match x.cyc with
  | none => s
  | some d0 =>
    if s.rd Od.prg_max_cycle p ≤ us then programOverrun p s
    else
      let d := writes.foldl (fun d w => splice d w.1 w.2) d0
      let outs := (imgIo x.image).filterMap (fun y =>
        if y.output then (match ioDef s y with
          | some e => some ⟨y.index, y.elem, ofBytes (slice d y.off e.ty.size)⟩
          | none => none) else none)
      let x1 := { x with data := d, cyc := none, overruns := 0, due := outs }
      let s1 := storeRetain (putPrg s p x1) p x1
      let s2 := (s1.count Od.prg_cycles p).wr Od.prg_cycle_last us p
      let s3 := if s.rd Od.prg_cycle_max p < us then s2.wr Od.prg_cycle_max us p else s2
      let s4 := usedPair s3 us
      cycleBoundary { s4 with prg := { s4.prg with ended := p } } p

/-- PROGRAM_TRAP (R339). -/
def programTrap (p : Nat) (illegal : Bool) (pc : Nat) (s : State) : State :=
  if p < 4 ∧ (slotPrg s p).cyc.isSome then
    let code := if illegal then 2 else 3
    let s1 := prgEvent (usedPair (discardCycle s p) (sinceStart s p s.now)) 2 p 2 code pc
    let s2 := cycleBoundary s1 p
    if (slotPrg s2 p).pend.length = (slotPrg s p).pend.length then (setPrg s2 p 4).wr Od.prg_fault code p else s2
  else s

/-- The outputs due at a commit tick (R335, R337, R347): `bad` says which values lie outside the target's range, `put` writes one element. -/
def applyOutputs (bad : State → ElemW → Bool) (put : State → ElemW → State) (s : State) : State :=
  (List.range 4).foldl (fun t p =>
    let x := slotPrg t p
    if x.due = [] then t
    else
      let t1 := putPrg t p { x with due := [] }
      if t.mode = .safeHold then t1
      else
        let refused := (x.due.filter (bad t1)).length
        let t2 := (if refused = 0 then t1 else t1.count Od.prg_out_refused p refused).wrBit Od.prg_status prgOUTREFUSED (refused != 0) p
        x.due.foldl (fun u w => if bad t1 w then u else put u w) t2) s

/-- What follows the mode and `prg_run` at a commit tick: programs stop and restart, and exchanges of stopped programs apply
(R344, R347). -/
def prgFollow (s : State) : State :=
  if running s then
    (List.range 4).foldl (fun t p =>
      let x := slotPrg t p
      if x.image = [] ∧ x.pend = [] then t
      else
        let t1 :=
          if x.cyc.isSome then t
          else if prgState t p = 2 ∧ (t.mode = .commission ∨ t.rd Od.prg_run p = 0) then setPrg t p 1
          else if prgState t p = 1 ∧ t.mode ≠ .commission ∧ t.rd Od.prg_run p = 1 ∧ x.image ≠ [] then setPrg t p 2
          else t
        if prgState t1 p = 2 ∨ prgState t1 p = 3 then t1 else exchangeDue t1 p) s
  else s

/-- The spare pair takes over (R346): the cycle under way is discarded, and the turns go on after the last cycle that ended normally. -/
def prgTakeover (s : State) : State :=
  let s1 := (List.range 4).foldl (fun t p => if (slotPrg t p).cyc.isSome then discardCycle t p else t) s
  ({ s1 with prg := { s1.prg with turn := s1.prg.ended } }).count Od.prg_takeovers

/-! ## Starts and stops (R342, R347) -/

/-- A program is loaded from flash at BOOT: initial data with its retained variables, and its table checked again. -/
def prgBootSlot (s : State) (p : Nat) : State :=
  let x := slotPrg s p
  if x.image = [] then setPrg s p 0
  else
    let kept := retained s p
    let data := (imgSyms x.image).foldl (fun d y => if y.cls = 1 ∧ y.off + y.size ≤ kept.length then splice d y.off (slice kept y.off y.size) else d) (imgInit x.image)
    let tenant := s.rd Od.prg_tenant p
    let io := imgIo x.image
    let whole := crcMatches x.image && io.all (fun y => ioExists s p y y.output)
    let auth := io.all (ioRight s tenant)
    let s1 := putPrg s p { x with data := data }
    if !whole then (setPrg s1 p 4).wr Od.prg_fault 5 p
    else if !auth then (setPrg s1 p 4).wr Od.prg_fault 4 p
    else setPrg s1 p 1

/-- Programs when a start begins: images kept in flash, everything else volatile. -/
def prgBoot (s : State) : State :=
  let keep := (List.range 4).filterMap (fun p =>
    let x := slotPrg s p
    if x.image = [] ∧ x.staged = [] then none else some (p, ({ image := x.image, staged := x.staged } : PrgSlot)))
  (List.range 4).foldl prgBootSlot { s with prg := { slots := keep, bootSeq := s.rd Od.txn_next_seq } }

/-- End of BOOT: programs with `prg_run` 1 start. -/
def prgStart (s : State) : State :=
  (List.range 4).foldl (fun t p => if prgState t p = 1 ∧ t.rd Od.prg_run p = 1 ∧ t.mode ≠ .commission then setPrg t p 2 else t) s

/-- HOLDUP: halted, the cycle under way discarded, outputs shed. -/
def prgHalt (s : State) : State :=
  (List.range 4).foldl (fun t p => if (slotPrg t p).image = [] then t else putPrg t p { slotPrg t p with cyc := none, due := [] }) s

/-- Whether any program runs (R55). -/
def anyRunning (s : State) : Bool := (List.range 4).any (fun p => prgState s p == 2 || prgState s p == 3)

/-! ## Checks and effects of the entries -/

/-- The chapter's own refusals (R341, R343). What was accepted was found not busy then, so a replay does not ask again (R102). -/
def prgExtra (s : State) (replayed : Bool) (port i e v : Nat) : Extra :=
  let busy (p : Nat) : Bool := !replayed && (s.rd Od.prg_stage_state p == 1 || awaits s Od.prg_stage_check p || exchangeOpen s p)
  if i = Od.prg_stage_data then { late := if busy (e / 256) then .busyRetry else .ok }
  else if i = Od.prg_stage_len then { late := if busy e then .busyRetry else .ok }
  else if i = Od.prg_stage_check then
    { late := if s.rd Od.prg_stage_len e = 0 then .zeroLength else if busy e then .busyRetry else .ok }
  else if i = Od.prg_exchange then
    let op := byteAt 8 v 0
    let crcv := bytesAt 8 v 4 4
    let owner := s.rd Od.prg_tenant e
    { denied := owner != 0xFF && owner != tenantOf s port && !(op == 2 && tenantOf s port == 0)
      mode := s.mode == .commission
      range := !(op == 1 || op == 2) || bytesAt 8 v 1 3 != 0 || (op == 2 && crcv != 0)
      late := if op = 1 ∧ (s.rd Od.prg_stage_state e ≠ 2 ∨ crcv ≠ s.rd Od.prg_stage_crc e) then .verifyFailed else .ok }
  else {}

/-- An applied write of a program entry other than an exchange (R339, R341). -/
def prgApply (s : State) (port i e v : Nat) : Option State :=
  if i = Od.prg_run then
    let s1 := s.wr i v e
    let x := slotPrg s e
    if x.image = [] then some s1
    else if v = 1 then
      some (if prgState s1 e = 4 ∨ prgState s1 e = 1 then
        setPrg ((putPrg s1 e { x with overruns := 0 }).wr Od.prg_fault 0 e) e (if running s1 ∧ s1.mode ≠ .commission then 2 else 1) else s1)
    else some (if prgState s1 e = 2 ∧ x.cyc.isNone then setPrg s1 e 1 else s1)
  else if i = Od.prg_stage_check then
    some ((putPrg s e { slotPrg s e with checkPort := port }).wr Od.prg_stage_state 1 e)
  else none

end Sys2Proof.Machine
end

