-- ==== Sys2Proof/Machine/Clock.lean ====
section
/-!
DEFINITION. The real-time clock and the backup domain (R350 to R367).
-/
namespace Sys2Proof.Machine

/-! ## Calendar (R353, R354) -/

/-- The last second of the calendar. -/
def calEnd : Nat := 12622780799

/-- Days from 2000-01-01 to the start of year 2000 + y. -/
def daysBefore (y : Nat) : Nat := y * 365 + (y + 3) / 4 - (y - 1) / 100

/-- Whether a year from 2000 to 2399 is a leap year (R353). -/
def leapYear (y : Nat) : Bool := y % 4 == 0 && (y % 100 != 0 || y == 2000)

def monthLen (y m : Nat) : Nat :=
  if m = 2 then (if leapYear y then 29 else 28) else if m = 4 ∨ m = 6 ∨ m = 9 ∨ m = 11 then 30 else 31

/-- The month and day of a day of a year, from month m. -/
def monthDay (y : Nat) : Nat → Nat → Nat → Nat × Nat
  | 0, m, d => (m, d + 1)
  | n + 1, m, d => if d < monthLen y m then (m, d + 1) else monthDay y n (m + 1) (d - monthLen y m)

/-- `rtc_cal` of a linear count (R353, R354). -/
def calOf (count : Nat) : Nat :=
  let c := min count calEnd
  let day := c / 86400
  let sec := c % 86400
  let g := day * 400 / 146097
  let y := if daysBefore (g + 1) ≤ day then g + 1 else if day < daysBefore g then g - 1 else g
  let md := monthDay (2000 + y) 11 1 (day - daysBefore y)
  ofBytes (beBytes 2 (2000 + y) ++ [md.1, md.2, sec / 3600, sec / 60 % 60, sec % 60, (5 + day) % 7 + 1])

/-- The refusal of a written `rtc_cal`, if any (R355). -/
def calRefusal (v : Nat) : Status :=
  let y := bytesAt 8 v 0 2
  let m := byteAt 8 v 2
  let d := byteAt 8 v 3
  if y < 2000 ∨ 2399 < y then .outOfRange
  else if m = 0 ∨ 12 < m ∨ d = 0 ∨ monthLen y m < d ∨ 23 < byteAt 8 v 4 ∨ 59 < byteAt 8 v 5 ∨ 59 < byteAt 8 v 6 then .invalidDate
  else .ok

/-- The linear count of a valid written `rtc_cal`; its weekday is ignored (R355). -/
def countOfCal (v : Nat) : Nat :=
  let y := bytesAt 8 v 0 2
  let m := byteAt 8 v 2
  let day := daysBefore (y - 2000) + ((List.range (m - 1)).map (fun k => monthLen y (k + 1))).foldl (· + ·) 0 + byteAt 8 v 3 - 1
  day * 86400 + byteAt 8 v 4 * 3600 + byteAt 8 v 5 * 60 + byteAt 8 v 6

/-! ## The count (R350, R357, R364) -/

/-- A time event (R394): d, at most what its 32 bits hold, old and new time. -/
def timeEvent (s : State) (tag : Nat) (set : Bool) (d : Int) (old new : Nat) (sev : Nat := 0) : State :=
  blockEvent s 0x0B tag 0xFF sev set (pay [(4, ofInt 32 (clampInt (-2147483648) 2147483647 d)), (6, old / 1000000 % 2 ^ 48), (6, new / 1000000 % 2 ^ 48)])

/-- The CRC-8 of a linear count (R364). -/
def countCrc (c : Nat) : Nat := crc 8 0x07 (beBytes 8 c) 0

/-- The count set, with its prescaler, CRC and `rtc_cal_end` (R354, R356, R364). -/
def setCount (s : State) (c sub : Nat) : State :=
  let s1 := ((s.wr Od.rtc_seconds c).wr Od.rtc_subsec sub).wr Od.rtc_cal_end (b2n (decide (calEnd < c)))
  { s1 with rtc := { s1.rtc with crc := countCrc (s1.rd Od.rtc_seconds) } }

/-- A second boundary (R350, R357, R359, R364, R385): the count rises by one, a pending shift is applied, anchors are written; an internal
shift clears `rtc_lost`. Operating
seconds (R98) are counted here while VMAIN powers the module (log entry 33). -/
def secondBoundary (s : State) : State :=
  let sh := s.rdInt Od.rtc_shift
  let c := s.rd Od.rtc_seconds + 1
  let s1 := setCount s c (if 0 < sh then sh.toNat else 0)
  let s2 := { s1 with rtc := { s1.rtc with hold := 0 } }
  let s2 := if powered s2 then { s2 with mer := { s2.mer with opSecs := s2.mer.opSecs + 1 } } else s2
  let s3 := if sh = 0 then s2
    else anchor ((if s.rtc.shiftInternal then s2.wr Od.rtc_lost 0 else s2).wr Od.rtc_shift 0) (if s.rtc.shiftInternal then 3 else 2)
  if c % 60 = 0 then anchor s3 0 else s3

/-- One period of the 32.768 kHz crystal: the prescaler advances, holds for a negative shift, or rolls over. -/
def crystalTick (s : State) : State :=
  let s1 := { s with crystal := s.crystal + 1 }
  let sub := s.rd Od.rtc_subsec
  let sh := s.rdInt Od.rtc_shift
  if sub < 32767 then s1.wr Od.rtc_subsec (sub + 1)
  else if sh < 0 ∧ s.rtc.hold < sh.natAbs then { s1 with rtc := { s1.rtc with hold := s.rtc.hold + 1 } }
  else secondBoundary s1

/-- RTC_SECOND_BOUNDARY (R350): the crystal counts left in the present second pass. -/
def rtcSecondBoundary (s : State) : State :=
  let sh := s.rdInt Od.rtc_shift
  let left := 32768 - s.rd Od.rtc_subsec + (if sh < 0 then sh.natAbs - s.rtc.hold else 0)
  secondBoundary { s with crystal := s.crystal + left }

/-! ## Setting the time (R355, R356) -/

/-- A write of a time entry: accepted and not yet complete. -/
def timePending (s : State) : Bool :=
  s.mer.recs.any (fun r => !r.completed && !r.ordDone && r.writes.any (fun w => w.index == Od.rtc_seconds || w.index == Od.rtc_cal))

/-- A shift is accepted and waits for its tick. -/
def shiftWaits (s : State) : Bool :=
  s.mer.recs.any (fun r => !r.completed && !r.ordDone && r.writes.any (fun w => w.index == Od.rtc_shift && w.value != 0))

/-- A pending shift is cancelled by a time write or a step, with an event (R356, R366). -/
def cancelShift (s : State) : State :=
  if s.rdInt Od.rtc_shift = 0 then s
  else
    let s1 := timeEvent (s.wr Od.rtc_shift 0) 1 true (s.rdInt Od.rtc_shift) (rtcTime s) (rtcTime s)
    { s1 with rtc := { s1.rtc with hold := 0 } }

/-- A time write applied at its tick (R356): `at_` is the crystal count captured at its acceptance. -/
def applyTime (s : State) (count at_ : Nat) : State :=
  let e := s.crystal - at_
  let s1 := setCount (cancelShift s) (count + e / 32768) (e % 32768)
  anchor (s1.wr Od.rtc_lost 0) 1

/-- The chapter's own refusals (R355, R357). `lossGen` is the domain generation captured with a replayed write; such a
write was found not busy when it was accepted. -/
def timeExtra (s : State) (lossGen : Option Nat) (i v : Nat) : Extra :=
  let lost : Bool := match lossGen with
    | some g => g != s.rtc.lossGen
    | none => false
  let busy := lossGen.isNone && timePending s
  if i = Od.rtc_seconds then { late := if lost then .invalidDate else if busy then .busyRetry else .ok }
  else if i = Od.rtc_cal then
    { late := if calRefusal v ≠ .ok then calRefusal v else if lost then .invalidDate else if busy then .busyRetry else .ok }
  else if i = Od.rtc_shift then
    let sh := toInt 16 v
    if sh = 0 then {}
    else
      { range := decide ((s.rd Od.rtc_seconds * 32768 + s.rd Od.rtc_subsec : Nat) + sh < 0)
        late := if lossGen.isNone ∧ (s.rdInt Od.rtc_shift ≠ 0 ∨ shiftWaits s ∨ timePending s) then .busyRetry else .ok }
  else {}

/-- An applied write of a time entry (R356, R357, R385). -/
def timeApply (s : State) (at_ i v : Nat) : Option State :=
  if i = Od.rtc_seconds then some (applyTime s v at_)
  else if i = Od.rtc_cal then some (applyTime s (countOfCal v) at_)
  else if i = Od.rtc_shift then
    (if v = 0 then some s
     else
      let s1 := s.wr i v
      some { s1 with rtc := { s1.rtc with shiftInternal := false, hold := 0 } })
  else if i = Od.rtc_tai_offset then
    some (if s.rd i = v then s else anchor (s.wr i v) 4)
  else none

/-! ## Synchronisation (R359) -/

/-- RTC_SYNC_COMPARE by the management processor (R359): d in 1/32,768 s, rounded to the nearest count. `rtc_lost` clears when the shift or
the step sets the time (R364). -/
def rtcSyncCompare (s : State) : State :=
  if mpRuns s ∧ s.rd Od.rtc_sync = 1 ∧ s.rd Od.net_ptp_state = 3 ∧ s.rdInt Od.rtc_shift = 0 ∧ !timePending s then
    let t := rtcTime s
    let d : Int := (t : Int) - s.now
    let counts := (Frac.mk (d * 32768) 1000000000).round
    let s1 := s.wr Od.rtc_sync_diff (ofInt 32 (clampInt (-2147483647) 2147483647 counts))
    let near := decide (d.natAbs * 32768 ≤ 32 * 1000000000)
    let s2 := s1.wrBit Od.rtc_status 4 near
    if near then s2
    else if d.natAbs < s.rd Od.rtc_sync_step * 1000000000 then
      let s3 := s2.wr Od.rtc_shift (ofInt 16 (clampInt (-32767) 32767 (-counts)))
      timeEvent { s3 with rtc := { s3.rtc with shiftInternal := true, hold := 0 } } 2 true counts t s.now
    else timeEvent { s2 with rtc := { s2.rtc with stepDue := true } } 2 true counts t s.now
  else s

/-- A step falls due at a second boundary of the fast timebase, `old` being its value before it moved (R359, R366). -/
def timebaseSecond (old : Nat) (s : State) : State :=
  if s.rtc.stepDue ∧ old / 1000000000 < s.now / 1000000000 then
    let c := ((s.now / 1000000000 : Nat) : Int) - s.rdInt Od.rtc_tai_offset
    let s1 := (setCount (cancelShift s) c.toNat 0).wr Od.rtc_lost 0
    anchor { s1 with rtc := { s1.rtc with stepDue := false } } 3
  else s

/-! ## Supply and loss (R361 to R364) -/

/-- In HOLDUP the domain writes its own record into the contents that are stored (R366; log entry 201). -/
def carryDomain (s : State) : State :=
  if s.mode = .holdup then
    let d := (s.rd Od.nrg_vbat_gen, s.rd Od.nrg_first_vbat)
    { s with
      mer := { s.mer with domain := d }
      nvs := { s.nvs with storing := s.nvs.storing.map (fun q => (q.1, { q.2 with mer := { q.2.mer with domain := d } })) } }
  else s

/-- VBAT_SWITCH_OVER (R361, R219). -/
def vbatSwitchOver (s : State) : State :=
  if s.rtc.onVbat then s
  else
    let s1 := s.countMod Od.nrg_vbat_gen
    let s2 := if s1.rd Od.nrg_first_vbat = 0 then s1.wr Od.nrg_first_vbat (rtcTime s) else s1
    carryDomain { s2 with rtc := { s2.rtc with onVbat := true } }

/-- VAON_SWITCH_BACK (R361). -/
def vaonSwitchBack (s : State) : State := { s with rtc := { s.rtc with onVbat := false } }

/-- VBAT_MEASURE (R362): every reading below 2.2 V is an event. -/
def vbatMeasure (mv : Nat) (s : State) : State :=
  if powered s then
    let shown := if mv < 1000 then 0 else mv
    let s1 := (s.wr Od.rtc_vbat shown).wrBit Od.rtc_status 3 (decide (mv < 1000))
    if mv < 2200 then blockEvent (s1.wrBit Od.rtc_status 2 true) 0x0B 3 0xFF 1 true (pay [(2, shown)])
    else if 2300 ≤ mv then s1.wrBit Od.rtc_status 2 false
    else s1
  else s

/-- The entries of class B return to their defaults. -/
def backupDefaults (s : State) : State :=
  let isB (c : Cell) : Bool := match entryDef? c.index with
    | some d => d.kept == .B
    | none => false
  { s with od := s.od.filter (fun c => !(isB c)) }

/-- BACKUP_DOMAIN_BROWNOUT (R363). -/
def backupDomainBrownout (s : State) : State :=
  let s1 := (backupDefaults s).wr Od.nrg_first_vbat (2 ^ 64 - 1)
  let lost := s.rd Od.rtc_lost
  { s1.wr Od.rtc_lost lost with rtc := { hold := 0, crc := 0, resetFlag := true, lossGen := s.rtc.lossGen + 1, onVbat := s.rtc.onVbat } }

/-- A domain whose count is lost and nothing else (R364): its Marzipan bytes are cleared. -/
def countLost (s : State) : State :=
  (List.range 8).foldl (fun t e => t.toDefault Od.rtc_marzipan e) { s with rtc := { s.rtc with lossGen := s.rtc.lossGen + 1 } }

/-- The check of the backup domain at the start of every start-up (R364). -/
def checkDomain (s : State) : State :=
  let bad := s.rtc.crc != countCrc (s.rd Od.rtc_seconds)
  if s.rtc.resetFlag || bad then
    let s0 := if s.rtc.resetFlag then s else countLost s
    let s1 := ((setCount s0 0 0).wr Od.rtc_lost 1).count Od.rtc_domain_resets
    timeEvent { s1 with rtc := { s1.rtc with resetFlag := false } } 4 true 0 0 0 2
  else s

/-- `rtc_status` (R367). -/
def rtcStatusView (s : State) : Nat :=
  s.rd Od.rtc_status / 4 * 4 + 2 * b2n (timePending s) + b2n (s.rdInt Od.rtc_shift != 0)

end Sys2Proof.Machine
end

