-- ==== Sys2Proof/Machine/Nvs.lean ====
section
/-!
DEFINITION. The Meringue store: stores, banks and allowance (R368 to R382).
-/
namespace Sys2Proof.Machine

/-- The shadow banks. -/
def shadowOf (s : State) (b : Nat) : Option Bank := if b = 0 then s.nvs.bank0 else s.nvs.bank1
def putShadow (s : State) (b : Nat) (x : Option Bank) : State :=
  if b = 0 then { s with nvs := { s.nvs with bank0 := x } } else { s with nvs := { s.nvs with bank1 := x } }

/-! ## The bank-select word (R373) -/

/-- Bytes 0 to 27 of a copy. -/
def SelWord.bytes (w : SelWord) : List Nat :=
  beBytes 2 w.magic ++ [w.state % 256, w.bank % 256] ++ beBytes 8 w.gen ++ beBytes 16 w.reserved

/-- Whether the magic and the CRC of a copy are correct. -/
def SelWord.good (w : SelWord) : Bool := w.magic == 0xCE18 && crc32c w.bytes == w.crc

/-- A word: state 1 complete or 2 copying in place, bank and generation. -/
def selWord (state bank gen : Nat) : SelWord :=
  let w : SelWord := { magic := 0xCE18, state := state, bank := bank, gen := gen }
  { w with crc := crc32c w.bytes }

/-- A word written to copy 0 and then to copy 1. -/
def writeSel (s : State) (w : SelWord) : State :=
  let s1 := { s with nvs := { s.nvs with sel0 := w } }
  { s1 with nvs := { s1.nvs with sel1 := w } }

/-- Of the copies whose magic and CRC are correct, the one with the greater generation. -/
def selFound (s : State) : Option SelWord :=
  let a := s.nvs.sel0
  let b := s.nvs.sel1
  if a.good && b.good then some (if a.gen < b.gen then b else a) else if a.good then some a else if b.good then some b else none

/-- The word that stores follow: the one found, or what copy 0 reads where none is correct. -/
def selNow (s : State) : SelWord := (selFound s).getD s.nvs.sel0

/-- Copies that have lost their contents: bit c for copy c. -/
def selSpoiled (s : State) (bad : Nat) : State :=
  { s with nvs := { s.nvs with
    sel0 := if bad.testBit 0 then { s.nvs.sel0 with magic := 0 } else s.nvs.sel0
    sel1 := if bad.testBit 1 then { s.nvs.sel1 with magic := 0 } else s.nvs.sel1 } }

/-! ## Stores (R370 to R374) -/

/-- The health bit of a bank (R42). -/
def bankBit (b : Nat) : Nat := 2 + b

/-- Whether a cell is of class M. -/
def isM (c : Cell) : Bool := keptOf c.index c.elem == .M

/-- The contents of the SRAM now (R368): class-M entries and the rest. -/
def snapshot (s : State) (gen : Nat) : Bank := ⟨s.od.filter isM, s.mer, gen⟩

/-- The values a store leaves, written before the copy (R372): count of the bank, generation, cause and time. -/
def storeCounters (s : State) (bank gen cause at_ : Nat) : State :=
  (((s.count Od.nvs_store_count bank).wr Od.nvs_generation gen).wr Od.nvs_last_cause cause).wr Od.nvs_last_store at_

/-- The stamp of R221 in the contents of a store. -/
def stopMetering (m : Meringue) (at_ : Nat) : Meringue := if m.meterStop = none then { m with meterStop := some at_ } else m

/-- The contents as the freeze leaves them: what is metered after it is lost with a load of them, so their metering stops here (R221, R381). -/
def frozen (s : State) (gen : Nat) : Bank :=
  let b := snapshot s gen
  { b with mer := stopMetering b.mer (s.rd Od.rtc_seconds) }

/-- A store starts (R372, R374), triggered at the RTC time `at_`: the SRAM is frozen and copied first into the bank the select word does not
name. -/
def beginStore (s : State) (cause at_ : Nat) : State :=
  let gen := (selNow s).gen + 1
  let target := 1 - (selNow s).bank
  let s0 := { s with mer := { s.mer with ended := cause == 2 || cause == 3 } }
  let s1 := storeCounters s0 target gen cause at_
  { s1 with nvs := { s1.nvs with storing := some (cause, frozen s1 gen), target := target, inPlace := false } }

/-- A store is triggered (R370, R372): its cause is recorded, unless a store freezes the SRAM, and it waits for the one that runs. -/
def triggerStore (s : State) (cause : Nat) : State :=
  let t := { s with nvs := { s.nvs with queued := s.nvs.queued ++ [(cause, rtcTime s)] } }
  if s.nvs.storing.isSome then t else t.wr Od.nvs_last_cause cause

/-- STORE_START (R372): the store of a STANDBY entry first flushes the recorder's buffer (R56). None starts before a reservoir has qualified
(R51). -/
def storeStart (s : State) : State :=
  match s.nvs.storing, s.nvs.queued with
  | none, (c, at_) :: cs =>
    if powered s ∧ s.sys.qualified then
      let t := { s with nvs := { s.nvs with queued := cs } }
      beginStore (if c = 3 then overflowRecord (flushRecords t) else t) c at_
    else s
  | _, _ => s

/-- A bank-failure store begins in place in the other bank, with the generation of the failed copy (R374). -/
def beginInPlace (s : State) (bank : Nat) (snap : Bank) : State :=
  let s1 := storeCounters s bank snap.gen 4 (rtcTime s)
  let m := { s with od := snap.cells }
  let n := storeCounters m bank snap.gen 4 (rtcTime s)
  let s2 := writeSel (((putShadow s1 bank none).wr Od.nvs_bank_state 2 bank).wr Od.nvs_active_bank bank) (selWord 2 bank snap.gen)
  let snap' : Bank := { snap with cells := n.od.filter isM }
  { s2 with nvs := { s2.nvs with storing := some (4, snap'), target := bank, inPlace := true } }

/-- The copy passes: the bank-select word names it, a failed bank clears, and the marks of a lost or stale load clear (R372 to R376). -/
def storePassed (s : State) (snap : Bank) (us : Nat) : State :=
  let b := s.nvs.target
  let s1 := writeSel (putShadow s b (some snap)) (selWord 1 b snap.gen)
  let s2 := { s1 with nvs := { s1.nvs with storing := none, inPlace := false } }
  let s3 := clearFault (((s2.wr Od.nvs_bank_state 0 b).wr Od.nvs_store_time us).wr Od.nvs_active_bank b) (bankBit b)
  (s3.wr Od.nvs_lost 0).wr Od.nvs_stale 0

/-- STORE_COMPLETE (R372, R374). A second failure leaves no bank to store into: the store ends without one (log entry 34). -/
def storeComplete (bad : Bool) (us : Nat) (s : State) : State :=
  match s.nvs.storing with
  | none => s
  | some (_, snap) =>
    if !bad then storePassed s snap us
    else
      let b := s.nvs.target
      let s1 := raiseFault ((putShadow s b none).wr Od.nvs_bank_state 1 b) (bankBit b)
      if s.nvs.inPlace then { s1.wr Od.nvs_store_time us with nvs := { s1.nvs with storing := none, inPlace := false } }
      else beginInPlace s1 (1 - b) snap

/-- ALLOWANCE_REPLENISH (R371). -/
def allowanceReplenish (s : State) : State :=
  if powered s ∧ s.rd Od.nvs_allowance < 32 then s.wr Od.nvs_allowance (s.rd Od.nvs_allowance + 1) else s

/-- One store is drawn from the allowance (R371). -/
def drawAllowance (s : State) : State := s.wr Od.nvs_allowance (s.rd Od.nvs_allowance - 1)

/-- The chapter's own refusal (R371): the allowance is 0, or a store has been triggered and has not ended. A replay asks for the allowance alone. -/
def nvsExtra (s : State) (replayed : Bool) (i : Nat) : Extra :=
  if i = Od.nvs_store_cmd then
    { late := if s.rd Od.nvs_allowance = 0 ∨ (!replayed && (s.nvs.storing.isSome || s.nvs.queued != [])) then .busyRetry else .ok }
  else {}

/-- An applied store command triggers its store (R371). -/
def nvsApply (s : State) (i : Nat) : Option State := if i = Od.nvs_store_cmd then some (triggerStore s 1) else none

/-- `nvs_wear` (R380): stores as % of 1,000,000. -/
def wearView (s : State) (b : Nat) : Nat := min 100 (s.rd Od.nvs_store_count b / 10000)

/-! ## Counter groups (R98, R379) -/

/-- Whether `a` follows `b` as 32-bit serial numbers (RFC 1982, R90, R379). -/
def serialAfter (a b : Nat) : Bool :=
  let d := (a % 2 ^ 32 + 2 ^ 32 - b % 2 ^ 32) % 2 ^ 32
  decide (0 < d) && decide (d < 2 ^ 31)

/-- A slot is consistent when its generations are equal. -/
def CtrSlot.whole (x : CtrSlot) : Bool := x.head == x.tail

/-- Whether slot A is the current one; `none` where neither is consistent (R379). -/
def ctrCurrent (g : CtrGroup) : Option Bool :=
  if g.a.whole && g.b.whole then some (serialAfter g.a.head g.b.head)
  else if g.a.whole then some true
  else if g.b.whole then some false
  else none

/-- The values of a group: those of its current slot, or its defaults. -/
def ctrValues (g : CtrGroup) : CtrSlot :=
  match ctrCurrent g with
  | some true => g.a
  | some false => g.b
  | none => {}

/-- A group updated: the slot that is not current takes the values, with the next generation in its head and its tail. -/
def ctrUpdate (g : CtrGroup) (v : CtrSlot) : CtrGroup :=
  let gen := ((ctrValues g).head + 1) % 2 ^ 32
  let x := { v with head := gen, tail := gen }
  if ctrCurrent g = some true then { g with b := x } else { g with a := x }

/-- A group whose update the freeze cut short: the slot that is not current has its head written and not its tail. -/
def ctrTorn (g : CtrGroup) : CtrGroup :=
  let gen := ((ctrValues g).head + 1) % 2 ^ 32
  if ctrCurrent g = some true then { g with b := { g.b with head := gen } } else { g with a := { g.a with head := gen } }

/-- After a load the ledger's counters are those of the current slot, and records at or beyond them were never accepted (R87, R379). -/
def ledgerLoaded (s : State) : State :=
  let n := (ctrValues s.mer.seqGroup).next
  { s.wr Od.txn_next_seq n with mer := { s.mer with recs := s.mer.recs.filter (fun r => decide (r.seq < n)) } }

/-! ## Loading a bank (R375, R376) -/

/-- Class-M entries and the rest of the SRAM replaced by a bank's. -/
def loadFrom (s : State) (b : Bank) : State := { s with od := (s.od.filter (fun c => !(isM c))), mer := b.mer }

/-- Cells of class M put back into the store. -/
def putCells (s : State) (cs : List Cell) : State := cs.foldl (fun t c => t.wr c.index c.value c.elem) s

/-- The SRAM's contents replaced by a bank's. -/
def restoreBank (s : State) (b : Bank) : State := putCells (loadFrom s b) b.cells

/-- The SRAM cleared, with `nvs_lost` set and its event (R376). -/
def bankLost (s : State) : State :=
  let s1 := { s with od := s.od.filter (fun c => !(isM c)), mer := {} }
  recordEvent (s1.wr Od.nvs_lost 1) 0x0C01 0xFF 6 0

/-- The bank load of a POR or BOR: `bad` says which banks have an uncorrectable line, `corr` the lines corrected in each. The corrected lines of every
bank that the load went through are counted. -/
def loadBank (s : State) (bad0 bad1 : Bool) (corr0 corr1 : Nat) : State :=
  let w := selNow s
  let isBad (n : Nat) : Bool := (if n = 0 then bad0 else bad1) || (shadowOf s n).isNone
  let take (t : State) (n : Nat) : State :=
    match shadowOf s n with
    | some x => restoreBank t x
    | none => t
  let tally (t : State) (n : Nat) : State :=
    if (shadowOf s n).isSome then t.count Od.nvs_corrected n (if n = 0 then corr0 else corr1) else t
  let s1 :=
    if (selFound s).isNone || w.state == 2 then bankLost s
    else if !(isBad w.bank) then tally (take s w.bank) w.bank
    else
      let t := recordEvent s 0x0C00 w.bank 5 (pay [(8, w.gen)])
      (tally (tally (if isBad (1 - w.bank) then bankLost t else take t (1 - w.bank)) w.bank) (1 - w.bank)).wr Od.nvs_stale 1
  s1.wr Od.nvs_active_bank w.bank

/-! ## Regions, and what a load finds torn (R368, R378, R379) -/

/-- The regions of the SRAM, with offset and size: ledger, counters, program retain, recorder buffer, configuration mirror, Praline slots, user. -/
def sramRegions : List (Nat × Nat) :=
  [(0, 0x40000), (0x40000, 0x10000), (0x50000, 0x40000), (0x90000, 0x10000), (0xA0000, 0x40000), (0xE0000, 0x4000), (0xE4000, 0x1C000)]

/-- Where a region begins. -/
def regionAt (n : Nat) : Nat := (sramRegions.getD n (0, 0)).1

/-- The SRAM offsets of commit words: of a program's retain area, of the mirror, of a slot's halves, and of a converter's coefficients (log
entry 170). -/
def retainWordAt (p : Nat) : Nat := regionAt 2 + 0x2000 * p
def mirrorWordAt : Nat := regionAt 4
def keyWordAt (n : Nat) : Nat := regionAt 5 + 256 * n
def calWordAt (c : Nat) : Nat := regionAt 1 + 0x8000 + 32 * c

/-- A slot whose commit word was torn holds what the other half says. -/
def keyTorn (s : State) (n : Nat) : State :=
  let p := (tabGet {} n s.mer.keys).torn
  let h : KeyHalf := p.current.headD ⟨0, 0, 0, [], 0⟩
  let s1 := { s with mer := { s.mer with keys := tabPut n p s.mer.keys } }
  ((((s1.wr Od.key_type h.ty n).wr Od.key_attr h.attr n).wr Od.key_tenant h.tenant n).wr Od.key_len h.mat.length n).wr Od.key_fingerprint h.tag n

/-- A converter whose commit word was torn has the coefficients of the other copy, or the defaults where that was never written. -/
def calTorn (s : State) (c : Nat) : State :=
  let p := (tabGet {} c s.mer.cal).torn
  let s1 := { s with mer := { s.mer with cal := tabPut c p s.mer.cal } }
  (List.range (bankClasses (c / 16))).foldl (fun t k =>
    let el := calElem (c / 16) (c % 16) k
    (((t.wr Od.cal_gain (p.current.getD (4 * k) 0x3F80_0000) el).wr Od.cal_offset (p.current.getD (4 * k + 1) 0) el).wr
      Od.cal_linearity (p.current.getD (4 * k + 2) 0) el).wr Od.cal_delay (p.current.getD (4 * k + 3) 0) el) s1

/-- What was torn at an SRAM offset takes its other copy (R378), or the slot of the counter group that is whole (R379): the ledger's
next-sequence group lies at offset 0. -/
def tornAt (s : State) (off : Nat) : State :=
  if off = 0 then { s with mer := { s.mer with seqGroup := ctrTorn s.mer.seqGroup } }
  else if off = mirrorWordAt then { s with mer := { s.mer with mirror := s.mer.mirror.torn } }
  else match (List.range 4).find? (fun p => retainWordAt p == off), (List.range 64).find? (fun n => keyWordAt n == off),
      (List.range 96).find? (fun c => calWordAt c == off) with
    | some p, _, _ => { s with mer := { s.mer with retain := tabPut p (tabGet {} p s.mer.retain).torn s.mer.retain } }
    | none, some n, _ => keyTorn s n
    | none, none, some c => calTorn s c
    | none, none, none => s

/-- Torn groups and page commits resolved at a load, with one event each (R378, R379): region and offset. -/
def tornEvents (s : State) (l : List (Nat × Nat)) : State :=
  l.foldl (fun t x => recordEvent ((tornAt t x.2).count Od.nvs_torn) 0x0C02 x.1 1 (pay [(4, x.2)])) s

end Sys2Proof.Machine
end

