-- ==== Sys2Proof/Machine/Recorder.lean ====
section
/-!
DEFINITION. The Strudel event recorder: flush, moves, reading, dumps and clears (R383 to R395).
-/
namespace Sys2Proof.Machine

/-! ## What is held (R386, R387, R390) -/

/-- The records held, oldest first: flash ring, region records not yet moved, buffer. -/
def heldRecs (s : State) : List Rec :=
  s.recd.flash.reverse ++ (s.mer.region.filter (fun r => decide (s.recd.moved < r.seq))).reverse ++ s.recd.buf.reverse

/-- `rec_head`: the highest number held; 0 none. -/
def recHead (s : State) : Nat := (heldRecs s).foldl (fun a r => max a r.seq) 0

/-- `rec_tail`: the lowest number held. -/
def recTail (s : State) : Nat := if recHead s = 0 then 0 else s.recd.tail

/-- `rec_unmoved`. -/
def recUnmoved (s : State) : Nat := (s.mer.region.filter (fun r => decide (s.recd.moved < r.seq))).length

/-- The 32 bytes of a record (R383). -/
def recBytes (r : Rec) : List Nat :=
  let b := beBytes 8 r.seq ++ beBytes 2 r.code ++ [r.inst % 256, r.flags % 256] ++ beBytes 16 r.payload
  b ++ beBytes 4 (crc32c b)

/-! ## Flush and moves (R386 to R388) -/

/-- The SRAM may be written: no store freezes it, and a reservoir has qualified since the start (R51, R372). -/
def sramOpen (s : State) : Bool := s.nvs.storing.isNone && s.sys.qualified

/-- A flush of the buffer, then the OVERFLOW record if one is due. -/
def recorderFlush (s : State) : State :=
  if mpRuns s ∧ sramOpen s then overflowRecord (flushRecords s) else s

/-- The sector an erase would take: the oldest 2,048 records of the flash ring. -/
def oldestSector (s : State) : List Rec := s.recd.flash.drop (s.recd.flash.length - 2048)

/-- Bytes of stream 0x03 still to be sent. -/
def dumpLeft (s : State) : Nat := ((s.lbs.xfers.filter (fun x => x.stream == 3)).foldl (fun a x => a + x.rest.length) 0 + 31) / 32

/-- Whether a running dump still needs records of the oldest sector (R391). -/
def dumpNeeds (s : State) : Bool :=
  s.rd Od.rec_dump_state == 1 &&
    (let rest := s.recd.dump.drop (s.recd.dump.length - dumpLeft s)
     (oldestSector s).any (fun r => rest.any (fun d => d.seq == r.seq)))

/-- A block of n records moves to the flash ring, after the erase of a full sector (R387). -/
def moveBlock (s : State) (n : Nat) : State :=
  let unmoved := (s.mer.region.filter (fun r => decide (s.recd.moved < r.seq)))
  let block := unmoved.drop (unmoved.length - n)
  let full := decide (65536 < s.recd.flash.length + n)
  let flash := if full then s.recd.flash.take (s.recd.flash.length - 2048) else s.recd.flash
  let low := match flash.getLast? with
    | some r => r.seq
    | none => match block.getLast? with
      | some r => r.seq
      | none => s.recd.tail
  let top := match block with
    | r :: _ => r.seq
    | [] => s.recd.moved
  let s1 := { s with recd := { s.recd with
    flash := block ++ flash, moved := top, eraseWaits := false, tail := if full then max s.recd.tail low else s.recd.tail } }
  if sramOpen s1 then overflowRecord (if s1.recd.dropped = 0 then s1 else flushRecords s1) else s1

/-- RECORD_MOVE (R387): a block of 128 once held, or the remainder. -/
def recordMove (rest : Bool) (s : State) : State :=
  let u := recUnmoved s
  let n := if rest then min u 128 else 128
  if mpRuns s ∧ n ≠ 0 ∧ n ≤ u then
    (if 65536 < s.recd.flash.length + n ∧ dumpNeeds s then { s with recd := { s.recd with eraseWaits := true } } else moveBlock s n)
  else s

/-! ## Reading (R389, R390) -/

/-- The records of a read: from `first`, up to `count`, a GAP record first where numbers below the tail were asked for. -/
def recSelect (s : State) (first count : Nat) : List Rec :=
  let tail := recTail s
  let gap : List Rec := if first < tail then [⟨first, 0x0001, 0xFF, 8, pay [(8, first), (8, tail - 1)]⟩] else []
  (gap ++ (heldRecs s).filter (fun r => decide (max first tail ≤ r.seq))).take count

/-- An applied read request takes its snapshot and binds its context (R389, R390). -/
def takeSnapshot (s : State) (port client r v : Nat) : State :=
  let recs := recSelect s (bytesAt 16 v 0 8) (bytesAt 16 v 8 2)
  let info := ofBytes (beBytes 8 (recHead s) ++ beBytes 8 (recTail s) ++ beBytes 2 recs.length ++ [1]) * 256 ^ 13
  let s1 := ((s.wr Od.rec_rd_req v r).wr Od.rec_rd_info info r).wr Od.rec_rd_owner (port * 2 ^ 32 + client) r
  let s2 := (List.range 32).foldl (fun t j => t.wr Od.rec_rd_data (match recs[j]? with
    | some x => ofBytes (recBytes x)
    | none => 0) (r * 32 + j)) s1
  { s2 with recd := { s2.recd with owned := tabPut r true s2.recd.owned } }

/-- REC_CONTEXT_EXPIRY (R389): the binding ends; the snapshot stays. -/
def recContextExpiry (r : Nat) (s : State) : State :=
  if tabGet false r s.recd.owned then
    let s1 := s.wr Od.rec_rd_info (putBytes 32 (s.rd Od.rec_rd_info r) 18 1 0) r
    { s1 with recd := { s1.recd with owned := tabPut r false s1.recd.owned } }
  else s

/-! ## Dumps (R391) -/

/-- An applied dump: the records go out on stream 0x03. -/
def startDump (s : State) (v : Nat) : State :=
  let recs := recSelect s (bytesAt 16 v 0 8) (bytesAt 16 v 8 4)
  let s1 := (s.wr Od.rec_dump_state 1).wr Od.rec_dump_transfer (s.nextXfer % 65536)
  bspStart { s1 with recd := { s1.recd with dump := recs } } 3 (recs.flatMap recBytes)

/-- An erase that waited proceeds, by the management processor (R34, R36). -/
def waitedErase (s : State) : State := if s.recd.eraseWaits ∧ mpRuns s then moveBlock s (min (recUnmoved s) 128) else s

/-- REC_DUMP_COMPLETE (R391). -/
def recDumpComplete (failed : Bool) (s : State) : State :=
  if s.rd Od.rec_dump_state = 1 then
    let s1 := bspDrop (s.wr Od.rec_dump_state (if failed then 3 else 2)) 3
    waitedErase { s1 with recd := { s1.recd with dump := [] } }
  else s

/-- REC_DUMP_ERASE_TIMEOUT (R391). -/
def recDumpEraseTimeout (s : State) : State :=
  if s.recd.eraseWaits then recDumpComplete true s else s

/-! ## Clears (R392) -/

/-- An accepted clear waits for the instant its record can enter the buffer. -/
def clearAccepted (s : State) (seq x : Nat) : State := { s with recd := { s.recd with clears := s.recd.clears ++ [(seq, x)] } }

/-- REC_CLEAR_APPLY (R392): the oldest accepted clear, if its record can enter the buffer. -/
def recClearApply (s : State) : State :=
  match s.recd.clears with
  | [] => s
  | (seq, x) :: rest =>
    if powered s ∧ recRoom s then
      let s0 := { s with recd := { s.recd with clears := rest } }
      let s1 :=
        if recHead s = x then
          let t := recordEvent s0 0x0003 0xFF 0 (pay [(8, seq), (8, recTail s)])
          { t.wr Od.rec_clear_seq s.recd.next with recd := { t.recd with tail := s.recd.next } }
        else s0
      overflowRecord (specialDone s1 seq 5)
    else s

/-- Whether a CLEAR record held carries an acceptance number (R86, R393). -/
def clearHeld (s : State) (seq : Nat) : Bool := (heldRecs s).any (fun r => r.code == 3 && r.payload / 2 ^ 64 == seq)

/-! ## Starts (R384, R386, R392) -/

/-- The recorder at the Meringue row of a start: the next number and the tail derived. The records that the buffer kept stay in it until the SRAM
may be written (R51), and are then flushed (`sramOpened`, log entry 172). -/
def recorderBoot (s : State) (keepBuf : Bool) : State :=
  let kept := if keepBuf then s.recd.buf else []
  let s2 := { s with recd := { s.recd with buf := kept, owned := [], clears := [], dump := [], eraseWaits := false } }
  let all := kept ++ s2.mer.region ++ s2.recd.flash
  let top := all.foldl (fun a r => max a r.seq) 0
  let flashTop := s2.recd.flash.foldl (fun a r => max a r.seq) 0
  let lost := s2.rd Od.nvs_lost = 1
  let next := if lost then flashTop + 2049 else top + 1
  let tailOf := all.foldl (fun a r => if r.code = 3 then max a r.seq else a) 0
  let low : Nat := match s2.recd.flash.getLast? with
    | some r => r.seq
    | none => ((kept ++ s2.mer.region).foldl (fun (a : Nat) (r : Rec) => if a = 0 then r.seq else min a r.seq) 0)
  let tail := max tailOf (if low = 0 then next else low)
  let s3 := { s2 with recd := { s2.recd with next := next, tail := tail, moved := flashTop, dropped := 0 } }
  if lost then recordEvent s3 0x0001 0xFF 0 (pay [(8, flashTop + 1), (8, flashTop + 2048)]) else s3

/-! ## Checks and effects of the entries -/

/-- A read request of another owner is accepted and waits for its tick. -/
def requestWaits (s : State) (port client e : Nat) : Bool :=
  s.mer.recs.any (fun r => !r.completed && !r.ordDone && (r.port != port || r.client != client) &&
    r.writes.any (fun w => w.index == Od.rec_rd_req && w.elem == e))

/-- The chapter's own refusals (R389, R391, R392). What was accepted was found not busy then, so a replay does not ask again (R102). -/
def recExtra (s : State) (replayed : Bool) (port client i e v : Nat) : Extra :=
  if i = Od.rec_rd_req then
    { range := decide (32 < bytesAt 16 v 8 2) || bytesAt 16 v 10 6 != 0
      late :=
        if !replayed && ((tabGet false e s.recd.owned && s.rd Od.rec_rd_owner e != port * 2 ^ 32 + client) || requestWaits s port client e) then .busyRetry
        else .ok }
  else if i = Od.rec_dump then
    let n := bytesAt 16 v 8 4
    { denied := !(bspMayRead s 0x1700)
      mode := s.rd Od.lbs_bsp_state != 2
      range := decide (65536 < n) || bytesAt 16 v 12 4 != 0
      late := if n = 0 then .zeroLength else if !replayed && (s.rd Od.rec_dump_state == 1 || awaits s Od.rec_dump 0) then .busyRetry else .ok }
  else if i = Od.rec_clear then { range := decide (recHead s < v) }
  else {}

/-- An applied write of a recorder entry other than a clear. -/
def recApply (s : State) (port client i e v : Nat) : Option State :=
  if i = Od.rec_rd_req then some (takeSnapshot s port client e v)
  else if i = Od.rec_dump then some (startDump s v)
  else none

end Sys2Proof.Machine
end

