-- ==== Sys2Proof/Machine/Keys.lean ====
section
/-!
DEFINITION. Praline slots, key replacement and the Layer cake (R407 to R413).
-/
namespace Sys2Proof.Machine

def attrSIGN : Nat := 0
def attrVERIFY : Nat := 1
def attrENCRYPT : Nat := 2
def attrMAC : Nat := 3
def attrDERIVE : Nat := 4
def attrUPDATE_AUTHORITY : Nat := 5
def attrCLEAR_LOG : Nat := 6

/-- An update or key event (R394): slot and status. -/
def updEvent (s : State) (tag inst sev status : Nat) : State := blockEvent s 0x0D tag inst sev true (pay [(1, status)])

/-! ## The 152 bytes of `key_replace` (R409) -/

def keySlot (v : Nat) : Nat := byteAt 152 v 0
def keyTy (v : Nat) : Nat := byteAt 152 v 1
def keyLen (v : Nat) : Nat := byteAt 152 v 2
def keyAttr (v : Nat) : Nat := bytesAt 152 v 4 2
def keyTenant (v : Nat) : Nat := byteAt 152 v 6

/-- The material as supplied. -/
def keyMat (v : Nat) : List Nat := (beBytes 104 (bytesAt 152 v 8 104)).take (keyLen v)

/-- K_v: SHA-256 of the material. -/
def keyKv (v : Nat) : List Nat := sha256 (keyMat v)

/-- The first 8 bytes of K_v. -/
def keyTag (v : Nat) : Nat := ofBytes ((keyKv v).take 8)

/-- What the ledger payload of a replacement holds: the slot and the first 8 bytes of K_v (R410). -/
def keyPayload (v : Nat) : Nat := keySlot v * 2 ^ 64 + keyTag v

/-- `key_challenge` of a slot, a random value (R413). -/
def keyChallenge (s : State) (n : Nat) : Nat := Config.freeValue (tabGet (s.keys.base + n) n s.keys.renewed) % 2 ^ 128

/-- The challenge of a slot is renewed (R410). -/
def renewChallenge (s : State) (n : Nat) : State :=
  { s.tookFree with keys := { s.keys with renewed := tabPut n s.free s.keys.renewed } }

/-- The verification value V a replacement needs (R409). -/
def keyV (s : State) (v : Nat) : List Nat :=
  hmac256 (keyKv v) (beBytes 16 (keyChallenge s (keySlot v)) ++ beBytes 8 (bytesAt 152 v 0 8))

/-- The lengths and attributes R407 admits for a type. -/
def keyAdmitted (ty len attr : Nat) : Bool :=
  let only (l : List Nat) : Bool := attr ||| l.foldl (fun a b => a ||| 2 ^ b) 0 == l.foldl (fun a b => a ||| 2 ^ b) 0
  match ty with
  | 0 => len == 0 && attr == 0
  | 1 => len == 48 && only [attrSIGN, attrCLEAR_LOG]
  | 2 => (len == 49 || len == 97) && only [attrVERIFY, attrUPDATE_AUTHORITY, attrCLEAR_LOG]
  | 3 => len == 32 && only [attrENCRYPT, attrMAC, attrCLEAR_LOG]
  | 4 => (len == 16 || len == 32) && only [attrMAC, attrDERIVE, attrCLEAR_LOG]
  | _ => false

/-- Everything R407 and R409 admit of a replacement but its verification value. Slot 0 admits only type 4 with DERIVE and tenant 0. -/
def keyLegal (v : Nat) : Bool :=
  keyAdmitted (keyTy v) (keyLen v) (keyAttr v) && decide (keyTenant v ≤ 63) &&
    (keySlot v != 0 || (keyTy v == 4 && (keyAttr v).testBit attrDERIVE && keyTenant v == 0)) &&
    byteAt 152 v 3 == 0 && byteAt 152 v 7 == 0 && bytesAt 152 v 112 8 == 0 &&
    (keyTy v != 2 || (sec1Point (keyMat v)).isSome)

/-- Whether an ACCEPTED record that is not done names a slot: a replacement of it is pending (R409, R410). -/
def keyAwaited (s : State) (n : Nat) : Bool :=
  s.mer.recs.any (fun (r : LedgerRec) => !r.completed && !r.specDone && r.writes.any (fun w => w.index == Od.key_replace && w.value / 2 ^ 64 == n))

/-- The key material of a slot's current half (R407). -/
def keyMaterial (s : State) (n : Nat) : List Nat := ((tabGet {} n s.mer.keys).current.head?.map (fun (h : KeyHalf) => h.mat)).getD []

/-- The refusals of R409 after the checks of R11, in its order. -/
def keyRefusal (s : State) (port v : Nat) : Status :=
  let n := keySlot v
  let t := tenantOf s port
  let old := s.rd Od.key_attr n
  let has (b : Nat) : Bool := old.testBit b || (keyAttr v).testBit b
  if s.rd Od.key_tenant n ≠ t then .accessDenied
  else if (has attrUPDATE_AUTHORITY && !(hasRight s t rightUPDATE)) || (has attrCLEAR_LOG && !(hasRight s t rightCLEARLOG)) then .accessDenied
  else if n = 0 ∧ s.mode ≠ .maintenance ∧ s.mode ≠ .commission then .wrongMode
  else if keyAwaited s n then .busyRetry
  else if keyLen v = 0 ∧ keyTy v ≠ 0 then .zeroLength
  else if !(keyLegal v) then .outOfRange
  else if beBytes 32 (v % 2 ^ 256) ≠ keyV s v then .verifyFailed
  else .ok

/-- The chapter's own refusals of one element write. -/
def keyExtra (s : State) (port i v : Nat) : Extra :=
  if i = Od.key_replace then { range := decide (63 < keySlot v), late := keyRefusal s port v }
  else if i = Od.key_lc_label then { late := if byteAt 32 v 0 = 0 then .zeroLength else .ok }
  else {}

/-- A replacement whose verification failed: the challenge is renewed and the failure counted (R410). -/
def keyFailed (s : State) (v : Nat) : State := (renewChallenge s (keySlot v)).count Od.key_fails

/-- An accepted replacement stands in the pending half of its slot (R410). -/
def keyAccepted (s : State) (v : Nat) : State :=
  let p : KeyHalf := ⟨keyTy v, keyAttr v, keyTenant v, keyMat v, keyTag v⟩
  { s with mer := { s.mer with keys := tabPut (keySlot v) ((tabGet {} (keySlot v) s.mer.keys).fill [p]) s.mer.keys } }

/-- The key slot the header of the staged image names (R400). -/
def stagedKeySlot (s : State) : Nat := (tabGet [] 0 s.upd.proof).getD 9 0

/-- The commit word of a slot flips: the pending half becomes current (R410). An image verified or being verified with that slot's
key is to be verified again. -/
def keyFlip (s : State) (n seq : Nat) (p : KeyHalf) : State :=
  let s1 := ((((s.wr Od.key_type p.ty n).wr Od.key_attr p.attr n).wr Od.key_tenant p.tenant n).wr Od.key_len p.mat.length n).wr Od.key_stamp seq n
  let s2 := renewChallenge (s1.wr Od.key_fingerprint p.tag n) n
  let s3 := { s2 with mer := { s2.mer with keys := tabPut n (tabGet {} n s2.mer.keys).flip s2.mer.keys } }
  let s4 := if p.ty = 0 then s3 else s3.wr Od.key_lc_used 0 n
  let s5 := if (s4.rd Od.upd_state = 2 ∨ s4.rd Od.upd_state = 3) ∧ stagedKeySlot s4 = n then (s4.wr Od.upd_state 1).wr Od.upd_stage_id 0 else s4
  if n = 0 then updEvent s5 5 0 0 0 else s5

/-- The pending half that the payload of a record names by its slot and the first 8 bytes of K_v (R410). -/
def keyPendingHalf (s : State) (payload : Nat) : Option KeyHalf :=
  (tabGet {} (payload / 2 ^ 64) s.mer.keys).other.find? (fun p => p.tag == payload % 2 ^ 64)

/-- Whether that pending half is there. -/
def keyPending (s : State) (payload : Nat) : Bool := (keyPendingHalf s payload).isSome

/-- An accepted replacement with the payload of its record is applied (R410); `none` where the pending half is lost. -/
def applyKey (s : State) (seq payload : Nat) : Option State :=
  match keyPendingHalf s payload with
  | some p => some (specialDone (keyFlip s (payload / 2 ^ 64) seq p) seq 4)
  | none => none

/-- At a start, pending halves with no ACCEPTED record naming them are cleared (R410), and the challenges are new. -/
def keysBoot (s : State) : State :=
  { s.tookFree 64 with
    keys := { base := s.free, renewed := [] }
    mer := { s.mer with keys := s.mer.keys.map (fun p => if keyAwaited s p.1 then p else (p.1, p.2.fill [])) } }

/-! ## The Layer cake (R411) -/

/-- The 18 ASCII bytes "Gorbata Layer cake". -/
def lcSalt : List Nat := [0x47, 0x6F, 0x72, 0x62, 0x61, 0x74, 0x61, 0x20, 0x4C, 0x61, 0x79, 0x65, 0x72, 0x20, 0x63, 0x61, 0x6B, 0x65]

/-- The ASCII bytes "fallback". -/
def lcFallback : List Nat := [0x66, 0x61, 0x6C, 0x6C, 0x62, 0x61, 0x63, 0x6B]

/-- The root node. -/
def lcRoot (s : State) : List Nat := hkdfExtract lcSalt (keyMaterial s 0)

/-- The node that stands in for an empty slot: "fallback", then the slot's label without its padding. -/
def lcKey (s : State) (n : Nat) : List Nat :=
  hkdfExpand32 (hkdfExpand32 (lcRoot s) lcFallback) ((beBytes 32 (s.rd Od.key_lc_label n)).takeWhile (· != 0))

/-- The key a use of a type 4 slot gets (R408, R411). -/
def slotKey (s : State) (n : Nat) : List Nat := if s.rd Od.key_type n = 0 then lcKey s n else keyMaterial s n

end Sys2Proof.Machine
end

