-- ==== Sys2Proof/Machine/Update.lean ====
section
/-!
DEFINITION. Firmware update: staging, verification, activation and probation (R396 to R406, R414).
-/
namespace Sys2Proof.Machine

/-! ## Staging (R397 to R399) -/

/-- The number of blocks of an image of L bytes. -/
def blocksOf (len : Nat) : Nat := (len + 65535) / 65536

/-- The length of block b of an image of L bytes (R397). -/
def blockLen (len b : Nat) : Nat := if b + 1 = blocksOf len then len - 65536 * b else 65536

/-- Whether `upd_map` holds block b. -/
def mapHas (m b : Nat) : Bool := (byteAt 120 m (b / 8)).testBit (b % 8)

/-- The map with block b held or not. -/
def mapPut (m b : Nat) (on : Bool) : Nat := putBytes 120 m (b / 8) 1 (putBit (byteAt 120 m (b / 8)) (b % 8) on)

/-- The map and the number of missing blocks are set. -/
def setMap (s : State) (m : Nat) : State :=
  let n := ((List.range (blocksOf (s.rd Od.upd_length))).filter (fun b => !(mapHas m b))).length
  (s.wr Od.upd_map m).wr Od.upd_missing n

/-- The bytes of the COP block buffer. -/
def blkBuffer (s : State) (n : Nat) : List Nat := ((List.range 64).flatMap (fun j => beBytes 1024 (s.rd Od.upd_blk_data j))).take n

/-- The checks of R398 on a 16-byte header and the data it names, in its order. -/
def blockRefusal (s : State) (queued : Bool) (hdr : Nat) (data : List Nat) : Status :=
  let b := bytesAt 16 hdr 0 2
  let n := bytesAt 16 hdr 2 4
  let len := s.rd Od.upd_length
  if n = 0 then .zeroLength
  else if s.rd Od.upd_state ≠ 1 ∨ queued then .busyRetry
  else if blocksOf len ≤ b ∨ n ≠ blockLen len b ∨ bytesAt 16 hdr 10 6 ≠ 0 then .outOfRange
  else if (data.take n).length ≠ n ∨ crc32c (data.take n) ≠ bytesAt 16 hdr 6 4 then .verifyFailed
  else .ok

/-- An accepted block commit not yet applied. -/
def blockAccepted (s : State) : Bool :=
  s.mer.recs.any (fun (r : LedgerRec) => !r.completed && !r.ordDone && r.writes.any (fun w => w.index == Od.upd_block))

/-- A block enters the program buffer: its earlier copy is erased (R397). -/
def programBlock (s : State) (b : Nat) (data : List Nat) : State :=
  let s1 := { s with upd := { s.upd with prog := some (b, data), proof := tabDel b s.upd.proof } }
  setMap s1 (mapPut (s.rd Od.upd_map) b false)

/-- BLOCK_PROGRAMMED (R398). -/
def blockProgrammed (s : State) : State :=
  match s.upd.prog with
  | none => s
  | some (b, data) =>
    if powered s then
      let s1 := { s with upd := { s.upd with prog := none, proof := tabPut b data s.upd.proof } }
      setMap s1 (mapPut (s.rd Od.upd_map) b true)
    else s

/-- BSP_IMAGE_BLOCK (R399): the oldest complete transfer is checked, and programmed or discarded. -/
def bspImageBlock (s : State) : State :=
  match s.lbs.imgDone with
  | [] => s
  | bytes :: rest =>
    if powered s then
      let s0 := { s with lbs := { s.lbs with imgDone := rest } }
      let hdr := ofBytes (bytes.take 16) * 256 ^ (16 - (bytes.take 16).length)
      let data := bytes.drop 16
      let allowed : Bool := match bspTenant s with
        | some t => hasRight s t rightUPDATE && granted s t 1 0x1800
        | none => false
      let st := if !allowed then Status.accessDenied else blockRefusal s (s.upd.prog.isSome || blockAccepted s) hdr data
      if st = .ok then programBlock s0 (bytesAt 16 hdr 0 2) (data.take (bytesAt 16 hdr 2 4))
      else
        let s1 := s0.count Od.upd_blk_refused
        blockEvent s1 0x0D 0 0xFF 1 true (pay [(2, bytesAt 16 hdr 0 2), (1, st.code)])
    else s

/-- An applied `upd_begin` (R397). -/
def updBegun (s : State) (len : Nat) : State :=
  let s1 := { s with upd := { s.upd with proof := [], prog := none } }
  let s2 := ((s1.wr Od.upd_state 1).wr Od.upd_length len).wr Od.upd_stage_id 0
  setMap ((s2.wr Od.upd_stage_version 0).wr Od.upd_stage_build 0) 0

/-! ## Verification (R400, R401) -/

/-- The staged image. -/
def stagedImage (s : State) : List Nat := (List.range (blocksOf (s.rd Od.upd_length))).flatMap (fun b => tabGet [] b s.upd.proof)

/-- A field of an image's bytes. -/
def imgField (img : List Nat) (k n : Nat) : Nat := ofBytes (slice img k n)

/-- Verification starts, with the key current in the slot the header names. -/
def startVerify (s : State) : State :=
  let n := stagedKeySlot s
  { s.wr Od.upd_state 2 with upd := { s.upd with verKey := if 64 ≤ n then (0, 0, []) else (s.rd Od.key_type n, s.rd Od.key_attr n, keyMaterial s n) } }

/-- The header check of R401: magic, format, image length, reserved bytes. -/
def headerGood (img : List Nat) (len : Nat) : Bool :=
  imgField img 0 2 == 0xCE1A && imgField img 2 2 == 1 && imgField img 4 4 == len && (slice img 24 40).all (· == 0)

/-- `upd_result` of a verification (R401). -/
def verifyResult (s : State) (badBlock : Bool) : Nat :=
  let img := stagedImage s
  let len := s.rd Od.upd_length
  let k := s.upd.verKey
  if badBlock then 2
  else if !(headerGood img len) then 3
  else if !((imgField img 8 1).testBit (s.rd Od.sys_variant)) then 4
  else if imgField img 9 1 = 0 ∨ k.1 ≠ 2 ∨ !(k.2.1.testBit attrVERIFY) ∨ !(k.2.1.testBit attrUPDATE_AUTHORITY) then 5
  else if imgField img 10 2 < s.rd Od.upd_epoch_floor then 6
  else if !(ecdsaVerify k.2.2 (img.take (len - 96)) (imgField img (len - 96) 48) (imgField img (len - 48) 48)) then 7
  else 1

/-- VERIFY_COMPLETE (R401); nothing changes while the class is deferred (R35). -/
def verifyComplete (badBlock : Bool) (s : State) : State :=
  if mpRuns s ∧ s.rd Od.upd_state = 2 ∧ !(s.rdBit Od.sys_mp_deferred 0) then
    let img := stagedImage s
    let r := verifyResult s badBlock
    let s1 := s.wr Od.upd_result r
    if r = 1 then
      (((s1.wr Od.upd_state 3).wr Od.upd_stage_id (crc32c img)).wr Od.upd_stage_version (imgField img 12 4)).wr Od.upd_stage_build (imgField img 16 8)
    else s1.wr Od.upd_state 4
  else s

/-! ## Selection of the image at a start (R402 to R405) -/

/-- The security epoch of a slot's image (R400). -/
def slotEpoch (s : State) (n : Nat) : Nat := imgField (tabGet [] 0 (tabGet [] n s.upd.slots)) 10 2

/-- A slot becomes CONFIRMED (R404). -/
def confirmSlot (s : State) (n : Nat) : State :=
  let s1 := (s.wr Od.upd_slot_state 1 n).wr Od.upd_epoch_floor (max (s.rd Od.upd_epoch_floor) (slotEpoch s n))
  updEvent s1 3 n 0 1

/-- An accepted confirmation of the running slot is completed before the selection (R404). -/
def confirmPending (s : State) : State :=
  let r := s.upd.boot
  let hit (l : LedgerRec) : Bool := !l.completed && !l.ordDone && l.writes.any (fun w => w.index == Od.upd_health_ok && w.value == s.rd Od.upd_slot_id r)
  if s.rd Od.upd_slot_state r = 2 ∧ s.mer.recs.any hit then
    let s1 := confirmSlot s r
    { s1 with mer := { s1.mer with recs := s1.mer.recs.map (fun (l : LedgerRec) =>
      if hit l ∧ l.writes.all (fun w => w.index == Od.upd_health_ok) then { l with ordDone := true } else l) } }
  else s

/-- The boot record names a slot. -/
def nameSlot (s : State) (n : Nat) : State := { s with upd := { s.upd with boot := n } }

/-- The running slot of the start (R406). -/
def runSlot (s : State) (n : Nat) : State := (s.wr Od.upd_running n).wr Od.upd_running_id (s.rd Od.upd_slot_id n)

/-- A copy of the Proofing area into a slot, complete (R403). -/
def copyDone (s : State) (o : Nat) : State :=
  let n := blocksOf (s.rd Od.upd_length)
  let s1 := { s with upd := { s.upd with slots := tabPut o s.upd.proof s.upd.slots } }
  let s2 := ((s1.wr Od.upd_copy_done n).wr Od.upd_slot_state 2 o).wr Od.upd_slot_id (s.rd Od.upd_stage_id) o
  nameSlot (s2.wr Od.upd_slot_version (s.rd Od.upd_stage_version) o) o

/-- The part of a copy made before a failure of power or a reset ends it (R403). -/
def copyPart (s : State) (o n : Nat) : State :=
  let k := min (max n (s.rd Od.upd_copy_done)) (blocksOf (s.rd Od.upd_length))
  let blocks := s.upd.proof.foldl (fun t p => if p.1 < k then tabPut p.1 p.2 t else t) (tabGet [] o s.upd.slots)
  { s.wr Od.upd_copy_done k with upd := { s.upd with slots := tabPut o blocks s.upd.slots, noImage := true } }

/-- No copy stands: fall back from an unconfirmed image, then from a slot that fails its check (R403). -/
def selectSlot (f : StartFacts) (s : State) : State :=
  let r := s.upd.boot
  let s1 :=
    if s.rd Od.upd_slot_state r = 2 then
      let t := updEvent ((s.wr Od.upd_slot_state 3 r).count Od.upd_fallbacks) 2 r 2 3
      { nameSlot t (1 - r) with upd := { (nameSlot t (1 - r)).upd with fellBack := true } }
    else s
  let q := s1.upd.boot
  let s2 :=
    if f.slotBad.testBit q ∧ s1.rd Od.upd_slot_state (1 - q) = 1 then
      { nameSlot s1 (1 - q) with upd := { (nameSlot s1 (1 - q)).upd with fellBack := true } }
    else s1
  if f.slotBad.testBit s2.upd.boot then { s2 with upd := { s2.upd with noImage := true } } else runSlot s2 s2.upd.boot

/-- `select_image` of R403. The start is an ACT start once it completes a copy; a copy that fails forces a WDR. -/
def selectImage (f : StartFacts) (s : State) : State :=
  let s0 := confirmPending { s with upd := { s.upd with fellBack := false, noImage := false } }
  let o := 1 - s0.upd.boot
  let s1 :=
    if s0.rd Od.upd_state = 5 then
      (if s0.sys.start = .act then ((s0.wr Od.upd_slot_state 4 o).wr Od.upd_state 6).wr Od.upd_copy_done 0 else s0.wr Od.upd_state 3)
    else s0
  if s1.rd Od.upd_slot_state o = 4 then
    if f.copyBad then
      let t := updEvent (((s1.wr Od.upd_slot_state 3 o).wr Od.upd_state 4).wr Od.upd_result 8) 1 o 3 8
      { t with sys := { t.sys with resetDue := some .wdr } }
    else match f.copied with
      | some n => copyPart s1 o n
      | none =>
        let t := runSlot (copyDone s1 o) o
        { t.wr Od.sys_reset_cause 5 with sys := { t.sys with start := .act } }
  else selectSlot f s1

/-- Verification and programming at a start: a verification under way restarts, a block being programmed is lost (R401, R414), and a
PROBATION has ended (R405, `upd_probation_left`). -/
def updBoot (s : State) : State :=
  let s1 := { s.wr Od.upd_probation_left 0 with upd := { s.upd with prog := none } }
  if s1.rd Od.upd_state = 2 then startVerify s1 else s1

/-! ## Probation (R404, R405) -/

/-- PROBATION begins. -/
def startProbation (s : State) : State :=
  { s.wr Od.upd_probation_left (s.rd Od.upd_probation) with upd := { s.upd with probNs := 0 } }

/-- The countdown at a commit tick, from the time since the tick before. -/
def probationTick (old s : State) : State :=
  if s.mode = .probation then
    let ns := s.upd.probNs + (s.now - old.now)
    let left := s.rd Od.upd_probation_left
    { s.wr Od.upd_probation_left (left - ns / 1000000000) with upd := { s.upd with probNs := ns % 1000000000 } }
  else s

/-- PROBATION_EXPIRY (R405): `upd_probation_left` has reached 0; the event is written and the watchdog is no longer serviced. -/
def probationExpiry (s : State) : State :=
  if s.mode = .probation ∧ s.rd Od.upd_probation_left = 0 ∧ s.sys.resetDue.isNone then
    let s1 := updEvent s 4 s.upd.boot 3 0
    { s1 with sys := { s1.sys with resetDue := some .wdr } }
  else s

/-- An applied confirmation (R404). From a SAFE_HOLD that began in PROBATION the module returns to RUN. -/
def healthOk (s : State) : State :=
  let s1 := (confirmSlot s s.upd.boot).wr Od.upd_probation_left 0
  if s.mode = .probation then enterRun s1
  else if s.mode = .safeHold then { s1 with sys := { s1.sys with heldFrom := .run } }
  else s1

/-! ## Checks and effects of the entries -/

/-- The chapter's own refusals of one element write (R397, R398, R401, R402, R404). -/
def updExtra (s : State) (recheck : Bool) (i v : Nat) : Extra :=
  if i = Od.upd_begin then
    { late := if v = 0 then .zeroLength else if v < 4096 ∨ 62914560 < v then .outOfRange else if s.rd Od.upd_state = 5 then .busyRetry else .ok }
  else if i = Od.upd_block then
    { late := blockRefusal s (s.upd.prog.isSome || (!recheck && blockAccepted s)) v (blkBuffer s (bytesAt 16 v 2 4)) }
  else if i = Od.upd_verify then
    { late := if s.rd Od.upd_missing ≠ 0 then .verifyFailed else if s.rd Od.upd_state ≠ 1 then .busyRetry else .ok }
  else if i = Od.upd_activate then
    { mode := s.mode == .probation || s.mode == .safeHold || s.mode == .boot
      late := if s.rd Od.upd_state = 2 then .busyRetry
        else if s.rd Od.upd_state ≠ 3 ∨ v ≠ s.rd Od.upd_stage_id then .verifyFailed else .ok }
  else if i = Od.upd_health_ok then { mode := s.mode != .probation, range := v != s.rd Od.upd_running_id }
  else {}

/-- An applied write of an update entry. An activation whose image has changed does nothing (R402). -/
def updApply (s : State) (i v : Nat) : Option State :=
  if i = Od.upd_begin then some (updBegun s v)
  else if i = Od.upd_block then some (programBlock s (bytesAt 16 v 0 2) (blkBuffer s (bytesAt 16 v 2 4)))
  else if i = Od.upd_verify then some (startVerify s)
  else if i = Od.upd_activate then
    some (if s.rd Od.upd_state = 3 ∧ s.rd Od.upd_stage_id = v then
      { s.wr Od.upd_state 5 with sys := { s.sys with resetDue := some .act } } else s)
  else if i = Od.upd_health_ok then some (healthOk s)
  else none

end Sys2Proof.Machine
end

