-- ==== Sys2Proof/Machine/Environment.lean ====
section
/-!
DEFINITION. Supply and temperature measurements (R421, R422, R429, R432).
-/
namespace Sys2Proof.Machine

/-- VMAIN_MEASURE (R49, R421, R422, R432): the measurements of the 1 ms. -/
def vmainMeasure (vmain vsafe power : Nat) (s : State) : State :=
  if powered s then
    let s1 := ((s.wr Od.sys_vmain (min vmain 65535)).wr Od.sys_vsafe (min vsafe 65535)).wr Od.sys_power (min power 0xFFFFFFFF)
    setEnv s1 envVMAIN_HIGH (decide (32000 < vmain))
  else s

/-- VSAFE_LOW (R422). -/
def vsafeFell (mv : Nat) (s : State) : State :=
  if powered s ∧ mv < 19000 then setEnv (s.wr Od.sys_vsafe mv) envVSAFE_LOW true else s

/-- VSAFE_RECOVER (R422): each output's first test is due before it may be switched on. -/
def vsafeRecovered (mv : Nat) (s : State) : State :=
  if powered s ∧ vsafeLow s ∧ 20000 ≤ mv then
    let s1 := setEnv (s.wr Od.sys_vsafe (min mv 65535)) envVSAFE_LOW false
    (List.range (safOuts s)).foldl (fun t o => putOut t o { outOf t o with tests := 2 }) s1
  else s

/-- A temperature as its 16-bit word, at most the range of the word. -/
def tempWord (t : Int) : Int := clampInt (-32768) 32767 t

/-- TEMP_MEASURE (R429, R432). -/
def tempMeasure (land soc : Int) (s : State) : State :=
  if powered s then
    let s1 := (s.wrInt Od.sys_temp_land (tempWord land)).wrInt Od.sys_temp_soc (tempWord soc)
    let s2 := s1.wrInt Od.sys_temp_max (max (s.rdInt Od.sys_temp_max) (tempWord soc))
    if 1050 < soc then setEnv s2 envTEMP_HIGH true else if soc ≤ 1000 then setEnv s2 envTEMP_HIGH false else s2
  else s

/-- `sys_op_hours`. -/
def opHours (s : State) : Nat := s.mer.opSecs / 3600

end Sys2Proof.Machine
end

