-- ==== Sys2Proof/Machine/View.lean ====
section
/-!
DEFINITION. What an element reads as (R2, R49, R97 and the entry tables): the committed value of the store, or a value that follows
from the rest of the state.
-/
namespace Sys2Proof.Machine

/-! ## Element writes as COP items (R68, R91, R99) -/

/-- A list of element writes with one put at its place, in ascending order of index and element; a write of the same element is replaced. -/
def putWrite (w : ElemW) : List ElemW → List ElemW
  | [] => [w]
  | x :: xs =>
    if x.index = w.index ∧ x.elem = w.elem then w :: xs
    else if w.index < x.index ∨ (w.index = x.index ∧ w.elem < x.elem) then w :: x :: xs
    else x :: putWrite w xs

/-- The bytes of one element of an index. -/
def elemSize (i : Nat) : Nat := widthOf i / 8

/-- A number of bytes padded to a multiple of 4 (R68). -/
def pad4 (n : Nat) : Nat := (n + 3) / 4 * 4

/-- The runs of consecutive elements of one index in an ascending list of writes: index, first element, values. -/
def runsOf : List ElemW → List (Nat × Nat × List Nat)
  | [] => []
  | w :: ws =>
    match runsOf ws with
    | (i, f, vs) :: rest => if i = w.index ∧ f = w.elem + 1 then (i, w.elem, w.value :: vs) :: rest else (w.index, w.elem, [w.value]) :: (i, f, vs) :: rest
    | [] => [(w.index, w.elem, [w.value])]

/-- The bytes of runs as a commit's payload carries them (R91). -/
def runsSize (rs : List (Nat × Nat × List Nat)) : Nat := rs.foldl (fun a r => a + 12 + pad4 (r.2.2.length * elemSize r.1)) 0

/-- An item's bytes: 12-byte header, data, padding (R68). -/
def itemBytes (i first count ty status : Nat) (data : List Nat) : List Nat :=
  beBytes 2 i ++ beBytes 2 first ++ beBytes 2 count ++ [ty % 256, status % 256] ++ beBytes 2 data.length ++ [0, 0] ++
    data ++ List.replicate (pad4 data.length - data.length) 0

/-- A run as an item's bytes. -/
def runBytes (r : Nat × Nat × List Nat) : List Nat :=
  itemBytes r.1 r.2.1 r.2.2.length (match entryDef? r.1 with
    | some d => d.ty.code
    | none => 0) 0 (valsData (elemSize r.1) r.2.2)

/-! ## Transactions and the ledger (R97) -/

/-- The open transaction of a handle. -/
def openTxn (s : State) (h : Nat) : Option TxnOpen := s.txn.opens.find? (fun t => t.handle == h)

/-- The descriptor of a handle. -/
def descOf (s : State) (h : Nat) : Option TxnDesc := s.mer.descs.find? (fun d => d.handle == h)

/-- The records accepted and not complete. -/
def inflight (s : State) : List LedgerRec := s.mer.recs.filter (fun r => !r.completed)

/-- `txn_done_seq`: the highest number up to which all work is complete (R89). -/
def doneSeq (s : State) : Nat :=
  (match inflight s with
    | r :: _ => r.seq
    | [] => s.rd Od.txn_next_seq) - 1

/-- The head of the payload ring lies past the newest payload, its tail at the oldest one held (R98, R99). -/
def ringTail (s : State) : Nat :=
  let oldest := match inflight s with
    | r :: _ => r.seq
    | [] => s.rd Od.txn_next_seq
  let held := (s.mer.recs.filter (fun r => decide (oldest ≤ r.seq))).foldl (fun a r => a + r.size) 0
  ((ctrValues s.mer.seqGroup).ringHead + 63488 - held % 63488) % 63488

/-- Free bytes of the payload ring: payloads stay until their records are complete (R99). -/
def payloadFree (s : State) : Nat := 63488 - (inflight s).foldl (fun a r => a + r.size) 0

/-- Per-handle entries (R97), element handle − 1. -/
def txnView (s : State) (i e : Nat) : Nat :=
  match openTxn s (e + 1) with
  | none => 0
  | some t =>
    if i = Od.txn_state then (if t.committing then 2 else 1)
    else if i = Od.txn_owner then (match descOf s (e + 1) with
      | some d => d.port % 256 * 2 ^ 32 + d.client
      | none => 0)
    else if i = Od.txn_elements then t.staged.length
    else if i = Od.txn_bytes then runsSize (runsOf t.staged)
    else (s.now - t.last) / 1000000 % 2 ^ 32

/-- Records still to replay. -/
def replayLeft (s : State) : Nat :=
  match s.sys.replayTo with
  | some n => ((inflight s).filter (fun r => decide (r.seq ≤ n))).length
  | none => 0

/-! ## Mode, power and health (R49) -/

/-- Whether a reservoir passed its last test and is charged. -/
def holdReady (s : State) : Bool := (s.sys.res0.passed && s.sys.res0.charged) || (s.sys.res1.passed && s.sys.res1.charged)

/-- `sys_status`. -/
def statusView (s : State) : Nat :=
  b2n (degraded s) + 2 * b2n (holdReady s) + 4 * b2n s.sys.replayTo.isSome + 8 * b2n (anyLatch s)

/-- Whether any analogue channel or circuit is sampled (R29). -/
def sampling (s : State) : Bool :=
  running s && s.od.any (fun c => (c.index == Od.ana_mode || c.index == Od.nrg_enable) && c.value != 0)

/-- `sys_clk_run` (R29): the fabric's clock runs in every mode but STANDBY and BACKUP, the metrology clock while a channel is sampled. -/
def clkView (s : State) : Nat := putBit (putBit (s.rd Od.sys_clk_run) 0 (fabricRuns s)) 4 (sampling s)

/-- `sys_hold_state`. -/
def holdView (s : State) : Nat :=
  b2n s.sys.res0.passed + 2 * b2n s.sys.res1.passed +
    (match s.sys.testing with
      | some (0, _) => 4
      | some _ => 8
      | none => 0) + 16 * b2n (s.sys.res0.charging || s.sys.res1.charging)

/-- The static addresses in use on an uplink (R108): uplink, prefix length, address, IPv4 as ::ffff:a.b.c.d. -/
def staticAddrs (s : State) (u : Nat) : List Nat :=
  let m := s.rd Od.net_ip_mode
  let a6 := s.rd Od.net_ip6_static u
  let a4 := s.rd Od.net_ip4_static u
  let usable := if prp s then decide (u = 0) && (upUsable s 0 || upUsable s 1) else upUsable s u
  if !usable then []
  else (if m.testBit 2 ∧ a6 ≠ 0 then [u * 2 ^ 136 + a6 % 256 * 2 ^ 128 + a6 / 256] else []) ++
    (if m.testBit 4 ∧ a4 ≠ 0 then [u * 2 ^ 136 + a4 % 256 * 2 ^ 128 + 0xFFFF * 2 ^ 32 + a4 / 256] else [])

/-- `net_ip_addr`: on a usable uplink the static addresses first, then those that the manual does not fix (log entry 38). -/
def ipAddrView (s : State) (e : Nat) : Nat :=
  if upUsable s 0 || upUsable s 1 then
    (match (staticAddrs s 0 ++ staticAddrs s 1)[e]? with
      | some a => a
      | none => Config.addressInUse e % 2 ^ 144)
  else 0

/-! ## Points (R80, R81) -/

/-- A point's index. -/
def ptIndex (n : Nat) : Nat := Od.od_point + n

/-- The kinds of R80 and R81. -/
def ptKind (s : State) (n : Nat) : Nat := s.rd Od.od_pt_kind n
def kindInput (k : Nat) : Bool := k == 1 || k == 4 || k == 7
def kindDriven (k : Nat) : Bool := k == 2 || k == 3 || k == 5 || k == 6 || k == 8 || k == 9
def kindAnalog (k : Nat) : Bool := k == 1 || k == 2 || k == 3
def kindBinary (k : Nat) : Bool := k == 4 || k == 5 || k == 6

/-- A point's link: index and element; `none` without one. -/
def ptLink (s : State) (n : Nat) : Option (Nat × Nat) :=
  let l := s.rd Od.od_pt_link n
  if l = 0 then none else some (l / 65536, l % 65536)

/-- A link to an element that the variant lacks (R81). -/
def linkAbsent (s : State) (l : Nat × Nat) : Bool :=
  match entryDef? l.1 with
  | some d => absent s.variant d l.2
  | none => true

/-- The priority that holds the present value of an output or value point: 1 to 16, 17 the relinquish default (R81). -/
def ptHolder (s : State) (n : Nat) : Nat :=
  match (List.range 16).find? (fun j => !(isNaN32 (s.rd (ptIndex n) (j + 1)))) with
  | some j => j + 1
  | none => 17

/-- `od_pt_flags`: FAULT while the last transfer was refused, the variant lacks the linked element, or its channel reports a fault;
OVERRIDDEN while a priority from 1 to 7 holds the present value (R80, R81). -/
def ptFlags (s : State) (n : Nat) : Nat :=
  let fault := s.pts.failed.contains n || (match ptLink s n with
    | some l => linkAbsent s l || linkFault s l
    | none => false)
  2 * b2n fault + b2n (kindDriven (ptKind s n) && decide (ptHolder s n ≤ 7))

/-! ## Reading -/

/-- System, uplink, dictionary, transaction and time entries that follow from other state. -/
def readLow (s : State) (i e : Nat) : Nat :=
  if i = Od.sys_mode then s.mode.code
  else if i = Od.sys_status then statusView s
  else if i = Od.sys_hold_state then holdView s
  else if i = Od.sys_clk_run then clkView s
  else if i = Od.sys_op_hours then opHours s % 2 ^ 32
  else if i = Od.od_pt_flags then ptFlags s e
  else if i = Od.od_cov_count then s.pts.covs.length
  else if i = Od.net_ip_addr then ipAddrView s e
  else if i = Od.txn_open then s.txn.opens.length
  else if Od.txn_state ≤ i ∧ i ≤ Od.txn_idle then txnView s i e
  else if i = Od.txn_done_seq then doneSeq s
  else if i = Od.txn_inflight then (inflight s).length
  else if i = Od.txn_payload_free then payloadFree s
  else if i = Od.txn_window_oldest then (match s.mer.recs with
    | r :: _ => r.seq
    | [] => 0)
  else if i = Od.txn_replay_left then replayLeft s
  else if i = Od.rtc_cal then calOf (s.rd Od.rtc_seconds)
  else if i = Od.rtc_time then rtcTime s
  else if i = Od.rtc_status then rtcStatusView s
  else s.rd i e

/-- Store, recorder, key, local-bus, analogue, calibration and energy entries that follow from other state. -/
def readMid (s : State) (i e : Nat) : Nat :=
  if i = Od.nvs_wear then wearView s e
  else if i = Od.rec_head then recHead s
  else if i = Od.rec_tail then recTail s
  else if i = Od.rec_buffered then s.recd.buf.length
  else if i = Od.rec_unmoved then recUnmoved s
  else if i = Od.key_challenge then keyChallenge s e
  else if i = Od.lbs_wr_queue then s.lbs.queue.length
  else if i = Od.lbs_groups then (lbPeriods s).length
  else if i = Od.ana_status then putBit (s.rd i e) 7 (calHold s (e / 8))
  else if i = Od.ana_value then anaValueView s e
  else if i = Od.cal_age then calAge s (e / 16) (e % 16)
  else if i = Od.nrg_view then nrgView s e
  else if i = Od.nrg_wrap then nrgWrap s e
  else if i = Od.nrg_max_read then maxRead s e
  else if i = Od.nrg_pmax then qf32 (meterPmax s e)
  else if i = Od.nrg_status then nrgStatus s e
  else s.rd i e

/-- Control, motion, lift, safety and program entries that follow from other state. -/
def readHigh (s : State) (i e : Nat) : Nat :=
  if i = Od.ctl_sp_eff then loopSpEff s e
  else if i = Od.ctl_mode then loopMode s e
  else if i = Od.ctl_man_out then loopManOut s e
  else if i = Od.ctl_out then loopOut s e
  else if i = Od.ctl_load then loadView s
  else if i = Od.mot_pos then cnt (motPos s e)
  else if i = Od.lft_pos then liftPosView s e
  else if i = Od.saf_state then safStateView s
  else if i = Od.saf_cfg_crc then cfgCrc s
  else if i = Od.prg_status then prgStatusView s e
  else if i = Od.prg_rt_share then rtShareView s
  else s.rd i e

/-- What element `e` of index `i` reads as: 0 where it describes a resource the variant lacks (R2); a vendor diagnostics index
has no stated contents (log entry 8). -/
def readElem (s : State) (i e : Nat) : Nat :=
  match entryDef? i with
  | none => 0
  | some d =>
    if absent s.variant d e then 0
    else if 0x8000 ≤ i then Config.diagnostic i % 2 ^ 32
    else if i < 0x1600 then readLow s i e
    else if i < 0x2800 then readMid s i e
    else if i < 0x4000 then readHigh s i e
    else s.rd i e

end Sys2Proof.Machine
end

