-- ==== Sys2Proof/Machine/Points.lean ====
section
/-!
DEFINITION. Points (R80, R81): present values, flags, conversions, and what a commit may leave.
-/
namespace Sys2Proof.Machine

/-- A driven point's value is due for its link at the next consumer boundary (R81). -/
def ptDue (s : State) (n : Nat) : State :=
  if s.pts.dirty.contains n then s else { s with pts := { s.pts with dirty := s.pts.dirty ++ [n] } }

/-- The present value of an output or value point follows its priority array (R81). -/
def ptFollow (s : State) (n : Nat) : State :=
  if kindDriven (ptKind s n) then
    let v := s.rd (ptIndex n) (ptHolder s n)
    let s1 := if s.rd (ptIndex n) 0 = v then s else ptDue (s.wr (ptIndex n) v 0) n
    s1
  else s

/-- An entry's raw value as the F32 of R81: the numeric value, nearest binary32; an F32 as it stands. -/
def toPoint (t : Ty) (v : Nat) : Nat :=
  match t with
  | .f32 => v
  | _ => match numVal t v with
    | some q => qf32 q
    | none => f32NaN

/-- The raw value of a present value in the linked type (R81): half away from zero, Q formats by their raw factor, BOOL from 0.0;
`none` outside what the type can hold. -/
def fromPoint (t : Ty) (y : Nat) : Option Nat :=
  let q := f32q y
  let fit (lo hi : Int) (x : Int) : Option Nat := if lo ≤ x ∧ x ≤ hi then some (ofInt (8 * t.size) x) else none
  let half (k : Nat) : Int := roundAway (q.num * k) q.den
  if !(finite32 y) then (match t with
    | .f32 => some y
    | _ => none)
  else match t with
    | .f32 => some y
    | .bool => some (b2n (q.num != 0))
    | .q3_28 => fit (-2147483648) 2147483647 (half (2 ^ 28))
    | .q16_16 => fit (-2147483648) 2147483647 (half (2 ^ 16))
    | .s16 | .s32 | .s64 => fit (-(2 ^ (8 * t.size - 1) : Nat)) ((2 ^ (8 * t.size - 1) : Nat) - 1) (half 1)
    | .oct _ | .str _ => none
    | _ => fit 0 ((2 ^ (8 * t.size) : Nat) - 1) (half 1)

/-- An input point refreshed at a point scan (R81). One whose link is 0 keeps its present value (log entry 197). -/
def ptRefresh (s : State) (n : Nat) : State :=
  match ptLink s n with
  | none => s
  | some l =>
    let v := if linkAbsent s l then 0 else match entryDef? l.1 with
      | some d => toPoint d.ty (readElem s l.1 l.2)
      | none => 0
    s.wr (ptIndex n) v 0

/-- The points in use: those whose kind is not 0. -/
def usedPoints (s : State) : List Nat :=
  s.od.filterMap (fun c => if c.index = Od.od_pt_kind ∧ c.elem < pointCount s then some c.elem else none)

/-! ## Trend samples (R43) -/

/-- Whether point n is due: the fast timebase stands at a whole multiple of its period, counted from 2000-01-01 TAI (R43). -/
def trendDue (s : State) (n : Nat) : Bool := s.now % (s.rd Od.sys_trend_period n * 1000000000) == 0

/-- Whether the trend cache has room for a sample: a cache that gave up pages holds fewer, how many is not stated (R28, log entry 13). -/
def trendRoom (s : State) : Bool := trendLost s == 0 || decide (s.trend.cache.length < Config.trendCacheRoom (trendLost s))

/-- TREND_SAMPLE (R43): a due sample is taken with the point's value and flags, with GAP after a missed one; while the
application cluster does not run, or without room, the sample is missed. -/
def trendSample (n : Nat) (s : State) : State :=
  if n < pointCount s ∧ s.rd Od.sys_trend_period n ≠ 0 ∧ trendDue s n then
    if running s ∧ s.sys.appUp ∧ trendRoom s then
      let fl := ptFlags s n
      let flags := b2n (s.trend.gaps.contains n) + 2 * b2n (fl.testBit 1) + 4 * b2n (fl.testBit 0)
      { s with trend := { s.trend with
          cache := ⟨s.now, n, flags, s.rd (Od.od_point + n) 0⟩ :: s.trend.cache
          gaps := s.trend.gaps.filter (· != n) } }
    else if s.trend.gaps.contains n then s
    else { s with trend := { s.trend with gaps := s.trend.gaps ++ [n] } }
  else s

/-! ## Checks and effects of the entries -/

/-- The chapter's own refusals of a write of a point element (R81). -/
def ptExtra (s : State) (i e v : Nat) : Extra :=
  if 0x4000 ≤ i ∧ i ≤ 0x5FFF then
    let k := ptKind s (i - 0x4000)
    let q := f32q v
    let num := finite32 v
    { denied := kindInput k && e != 0
      range := (!num && e == 17) || (num && (if kindBinary k then !(v == 0x3F800000 || q.num == 0) else
        decide (7 ≤ k) && (!(Frac.le (Frac.ofInt 1) q) || !(q.le (Frac.ofInt 65535)) || q.num % (q.den : Int) != 0))) }
  else {}

/-- A point element, kind or link written by accepted work: the present value and the flags follow; a changed kind or link makes the
value due (R81). -/
def ptApply (s : State) (i e v : Nat) : Option State :=
  if 0x4000 ≤ i ∧ i ≤ 0x5FFF then some (ptFollow (s.wr i v e) (i - 0x4000))
  else if i = Od.od_pt_kind ∨ i = Od.od_pt_link then
    some (if s.rd i e = v then s
      else
        let s1 := s.wr i v e
        let s2 := { s1 with pts := { s1.pts with failed := s1.pts.failed.filter (· != e) } }
        if kindDriven (ptKind s2 e) then ptDue (ptFollow s2 e) e else s2)
  else none

/-- The end of BOOT: every linked output or value point transfers once (R81). -/
def ptStart (s : State) : State :=
  (usedPoints s).foldl (fun t n => if kindDriven (ptKind t n) then ptDue (ptFollow t n) n else t) s

/-- The reserved ranges of R78. -/
def reservedIndex (i : Nat) : Bool :=
  (decide (0x1300 ≤ i) && decide (i ≤ 0x13FF)) || (decide (0x2400 ≤ i) && decide (i ≤ 0x27FF)) ||
  (decide (0x3000 ≤ i) && decide (i ≤ 0x37FF)) || (decide (0x8000 ≤ i) && decide (i ≤ 0x80FF))

/-- The failure of R81 that a commit leaves in one point's link, if any. -/
def linkLeaves (s : State) (n : Nat) : Option Status :=
  match ptLink s n with
  | none => none
  | some (i, e) =>
    match entryDef? i with
    | none => some .noSuchIndex
    | some d =>
      let acc := accOf d e
      let octets : Bool := match d.ty with
        | .oct _ | .str _ => true
        | _ => false
      if d.nX ≤ e then some .noSuchIndex
      else if i = ptIndex n ∨ acc = .wo ∨ acc = .rwt ∨ acc = .rwm ∨ octets ∨ (kindDriven (ptKind s n) ∧ reservedIndex i) then some .outOfRange
      else none

/-- The failures of R80 and R81 that a commit leaves: two points of one kind with one instance, and links. -/
def ptLeaves (s : State) : List Status :=
  let used := usedPoints s
  let keys := used.map (fun n => (ptKind s n, s.rd Od.od_pt_inst n))
  let linked := s.od.filterMap (fun c => if c.index = Od.od_pt_link then some c.elem else none)
  linked.filterMap (linkLeaves s) ++ (if keys.eraseDups.length = keys.length then [] else [.outOfRange])

/-! ## Tenants and ports (R74, R77) -/

/-- The chapter's own refusals: the fixed elements of R74 and R77, and a prefix length above 128. -/
def odExtra (i e v : Nat) : Extra :=
  if e = 0 ∧ ((Od.od_port_kind ≤ i ∧ i ≤ Od.od_port_tenant) ∨ (Od.od_tenant_rights ≤ i ∧ i ≤ Od.od_grant_rights)) then { denied := true }
  else if i = Od.od_port_src then { range := decide (128 < v % 256) }
  else {}

/-- Whether logical port n is as R73 and R74 admit for its kind. -/
def portLegal (s : State) (n : Nat) : Bool :=
  let phys := s.rd Od.od_port_phys n
  let node := s.rd Od.od_port_node n
  match s.rd Od.od_port_kind n with
  | 0 => true
  | 1 => decide (phys ≤ 2)
  | 2 => decide (phys < t1lCount s)
  | 3 => decide (phys < t1sCount s) && (node == 0xFF || (decide (1 ≤ node) && decide (node ≤ 15)))
  | 4 => decide (phys < rsCount s) && (node == 0xFF || decide (node ≤ 127)) && node != s.rd Od.fld_mstp_mac phys
  | _ => phys == 0

/-- Whether a commit leaves every grant and logical port legal (R74, R77). -/
def odLeaves (s : State) : Bool :=
  s.od.all (fun c =>
    if c.index = Od.od_grant_lo ∨ c.index = Od.od_grant_hi then decide (s.rd Od.od_grant_lo c.elem ≤ s.rd Od.od_grant_hi c.elem)
    else if Od.od_port_kind ≤ c.index ∧ c.index ≤ Od.od_port_node then portLegal s c.elem
    else if c.index = Od.fld_mstp_mac then (List.range 256).all (portLegal s)
    else true)

/-- The logical ports whose kind, match fields or tenant differ between two states (R75). -/
def portsChanged (old s : State) (touched : List (Nat × Nat)) : List Nat :=
  (touched.filterMap (fun t =>
    if Od.od_port_kind ≤ t.1 ∧ t.1 ≤ Od.od_port_tenant ∧ old.rd t.1 t.2 ≠ s.rd t.1 t.2 then some t.2 else none)).eraseDups

end Sys2Proof.Machine
end

