-- ==== Sys2Proof/Machine/Write.lean ====
section
/-!
DEFINITION. The checks of a write (R11, R46, R55, R66, R67, R69), and the effect of an applied one (R43, R88, R92).
-/
namespace Sys2Proof.Machine

/-! ## Modes that may be requested (R46, R55) -/

/-- The conditions of R55 for a STANDBY request. -/
def standbyAdmitted (s : State) : Bool :=
  s.variant == .x && s.mode == .run && s.txn.opens == [] && (inflight s) == [] && !(anyRunning s) &&
    (List.range 2).all (fun k => !(inService s k) || s.rd Od.lft_op_state k == 5) &&
    (List.range (motCount s)).all (fun c => !(motBit s c motMOVING)) && (List.range (safOuts s)).all (fun o => !(outOf s o).on)

/-- Whether a mode code may be requested from the present mode (R46), the present mode itself apart. -/
def modeAdmitted (s : State) (code : Nat) : Bool :=
  match s.mode with
  | .run => code == 1 || code == 4 || code == 6 || (code == 5 && standbyAdmitted s)
  | .runDegraded => code == 1 || code == 6
  | .doze => code == 2 || code == 6
  | .commission => (code == 2 && s.flashValid) || code == 6
  | .maintenance => code == 2 || code == 1
  | _ => false

/-- The codes that can be requested (R46). -/
def requestable (code : Nat) : Bool := code == 1 || code == 2 || code == 4 || code == 5 || code == 6

/-! ## Refusals of the system and transaction chapters -/

/-- The refusals of R43 of a trend dump, in its order; ACCESS_DENIED is left out of a recheck (R93, R102). -/
def trendRefusal (s : State) (recheck : Bool) (v : Nat) : Status :=
  if bytesAt 24 v 8 8 < bytesAt 24 v 0 8 ∨ bytesAt 24 v 18 2 < bytesAt 24 v 16 2 ∨ pointCount s ≤ bytesAt 24 v 18 2 ∨ bytesAt 24 v 20 4 ≠ 0 then
    .outOfRange
  else if !recheck && (bspTenant s).isNone then .accessDenied
  else if !(bspUp s) then .wrongMode
  else if s.rd Od.sys_trend_state = 1 then .busyRetry
  else .ok

/-- The chapter's own refusals (R3, R43, R46, R49, R55). -/
def sysExtra (s : State) (recheck : Bool) (i v : Nat) : Extra :=
  if i = Od.sys_mode_req then
    { variant := s.variant == .s && v == 5
      mode := requestable v && v != s.mode.code && !(modeAdmitted s v)
      late := if v = 5 ∧ s.rd Od.nvs_allowance = 0 then .busyRetry else .ok }
  else if i = Od.sys_hold_test then { late := if s.sys.testing.isSome then .busyRetry else .ok }
  else if i = Od.sys_fault_retest then { late := if s.sys.retest.isSome then .busyRetry else .ok }
  else if i = Od.sys_trend_dump then { late := trendRefusal s recheck v }
  else {}

/-- The local bus's transaction entries (R96). -/
def txnExtra (c : Ctx) (i : Nat) : Extra :=
  if Od.txn_begin ≤ i ∧ i ≤ Od.txn_rollback then { denied := c.port != 0 || c.client != 0 } else {}

/-- A chapter's own refusals of one element write. -/
def extraOf (s : State) (c : Ctx) (i e v : Nat) : Extra :=
  if i < 0x1100 then sysExtra s c.recheck i v
  else if i < 0x1200 then netExtra s i v
  else if i < 0x1300 then fldExtra s i v
  else if i < 0x1400 then odExtra i e v
  else if i < 0x1500 then txnExtra c i
  else if i < 0x1600 then timeExtra s c.lossGen i v
  else if i < 0x1700 then nvsExtra s c.lossGen.isSome i
  else if i < 0x1800 then recExtra s c.lossGen.isSome c.port c.client i e v
  else if i < 0x1840 then updExtra s c.recheck i v
  else if i < 0x1900 then keyExtra s c.port i v
  else if i < 0x2000 then {}
  else if i < 0x2100 then anaExtra s c.lossGen.isSome i e v
  else if i < 0x2400 then calExtra s c.lossGen.isSome i e
  else if i < 0x2800 then nrgExtra s c.lossGen.isSome (c.handle != 0) i e v
  else if i < 0x2C00 then ctlExtra s i e v
  else if i < 0x3000 then motExtra s c.lossGen.isSome i e v
  else if i < 0x3400 then lftExtra s c.lossGen.isSome i e v
  else if i < 0x3800 then safExtra s c.port i e v
  else if i < 0x4000 then prgExtra s c.lossGen.isSome c.port i e v
  else ptExtra s i e v

/-! ## The checks of an item (R11, R69 step 8) -/

/-- The elements an item addresses, with the values it carries. -/
def itemElems (size : Nat) (it : WItem) : List (Nat × Nat) := (List.range it.count).map (fun k => (it.first + k, itemVal size k it.data))

/-- The first status of a list that is not OK. -/
def firstBad : List Status → Status
  | [] => .ok
  | x :: xs => if x = .ok then firstBad xs else x

/-- The place of a status in the order of R11. -/
def rank : Status → Nat
  | .noSuchIndex => 1
  | .wrongVariant => 2
  | .accessDenied => 3
  | .typeMismatch => 4
  | .needsTxn => 5
  | .wrongMode => 6
  | .outOfRange => 7
  | .ok => 9
  | _ => 8

/-- The status of a list that comes first in the order of R11. -/
def worst (l : List Status) : Status := l.foldl (fun a b => if rank b < rank a then b else a) .ok

/-- The mode check of RWM (R10). -/
def rwmMode (s : State) : Bool := s.mode == .maintenance || s.mode == .commission

/-- The status of one item of a WRITE: its checks in the order of R11, each over all its elements (R67). A write of `Object_Name` that came over
BACnet is exempt from NEEDS_TXN (log entry 156). -/
def checkItem (s : State) (c : Ctx) (it : WItem) : Status :=
  if it.count = 0 then .zeroLength
  else match entryDef? it.index with
    | none => .noSuchIndex
    | some d =>
      let es := itemElems d.ty.size it
      let xs := es.map (fun p => extraOf s c it.index p.1 p.2)
      let core := es.any (fun p => coreRetest s c.port it.index p.2)
      if d.nX < it.first + it.count then .noSuchIndex
      else if es.any (fun p => absent s.variant d p.1) || xs.any (fun x => x.variant) then .wrongVariant
      else if !c.recheck && (es.any (fun p => accOf d p.1 == .ro) || !(mayWriteTenant s (tenantOf s c.port) it.index || core) || xs.any (fun x => x.denied)) then
        .accessDenied
      else if it.ty != d.ty.code || it.data.length != it.count * d.ty.size then .typeMismatch
      else if d.acc == .rwt && c.handle == 0 && !c.recheck && !c.bacnet then .needsTxn
      else if (d.acc == .rwm && !(rwmMode s) && !core) || xs.any (fun x => x.mode) then .wrongMode
      else if es.any (fun p => !(rngOk d.ty d.rng p.2)) || xs.any (fun x => x.range) || (c.handle != 0 && decide (4 ≤ entryKind it.index)) then .outOfRange
      else firstBad (xs.map (fun x => x.late))

/-- Whether an index is one of the two that set the time (R355). -/
def isTimeIndex (i : Nat) : Bool := i == Od.rtc_seconds || i == Od.rtc_cal

/-- The status of an item beside earlier items of its WRITE or transaction, whose indices are `seen`: one that sets the time beside one that sets it
by the other entry is out of range, after INVALID_DATE and before BUSY_RETRY (R355), and store commands beyond the allowance are refused (R371). -/
def besideItems (s : State) (seen : List Nat) (it : WItem) (st : Status) : Status :=
  if isTimeIndex it.index && seen.any (fun i => isTimeIndex i && i != it.index) && (st == .ok || st == .busyRetry) then .outOfRange
  else if it.index == Od.nvs_store_cmd && st == .ok && decide (s.rd Od.nvs_allowance ≤ seen.count it.index) then .busyRetry
  else st

/-- The statuses of the items of a WRITE, in order. -/
def checkItems (s : State) (c : Ctx) : List Nat → List WItem → List Status
  | _, [] => []
  | seen, it :: its => besideItems s seen it (checkItem s c it) :: checkItems s c (it.index :: seen) its

/-- A legal no-op that is not accepted: a write of 0 to `rec_clear` (R86, R392). -/
def noopItem (it : WItem) : Bool := it.index == Od.rec_clear && it.data.all (· == 0)

/-- The items of a WRITE that can be work. -/
def liveItems (items : List WItem) : List WItem := items.filter (fun it => !(noopItem it))

/-- The kinds of 0x2 to 0x7 that the items of a WRITE address (R86). -/
def writeKinds (items : List WItem) : List Nat := (((liveItems items).map (fun it => entryKind it.index)).filter (· != 0)).eraseDups

/-- The kind of a WRITE (R86). -/
def writeKind (items : List WItem) : Nat := (writeKinds items).headD 0

/-- The element writes of items, in order. -/
def itemWrites (items : List WItem) : List ElemW := items.flatMap (fun it => (itemElems (elemSize it.index) it).map (fun p => ⟨it.index, p.1, p.2⟩))

/-- Runs of element writes as items. -/
def runItem (r : Nat × Nat × List Nat) : WItem :=
  ⟨r.1, r.2.1, r.2.2.length, (match entryDef? r.1 with
    | some d => d.ty.code
    | none => 0), valsData (elemSize r.1) r.2.2⟩

/-- The items of a commit (R91). -/
def runItems (ws : List ElemW) : List WItem := (runsOf ws).map runItem

/-! ## What a commit leaves (R93) -/

/-- The state that plain element writes would leave. -/
def wouldLeave (s : State) (ws : List ElemW) : State := ws.foldl (fun t w => t.wr w.index w.value w.elem) s

/-- Whether a write is part of what a commit is judged to leave: the ordinary ones, and pulse constants, which follow at their cycle end
(R93, R216). -/
def settles (w : ElemW) : Bool := entryKind w.index == 0 || entryKind w.index == 3

/-- The elements written. -/
def touchedBy (ws : List ElemW) : List (Nat × Nat) := ws.map (fun w => (w.index, w.elem))

/-- The status of a Boolean check. -/
def need (ok : Bool) : Status := if ok then .ok else .outOfRange

/-- The chapters' checks on what a commit leaves of a state, the first in the order of R11; `tenant` is the committing tenant, none at a replay. -/
def leaves (old s : State) (tenant : Option Nat) (touched : List (Nat × Nat)) : Status :=
  let all := ptLeaves s ++ [need (odLeaves s), need (netLeaves s), need (fldLeaves s touched), need (anaLeaves s touched),
    (lbsLeaves s).getD .ok, need (nrgLeaves s), need (!(safLeaves s touched)), (lftLeaves old s touched).getD .ok] ++
    motLeaves s touched ++ ctlLeaves s tenant touched
  worst (if tenant.isNone then all.filter (· != .accessDenied) else all)

/-! ## Applying (R88, R92) -/

/-- A sample put at its place, by time and then by point (R43). -/
def insertSample (x : TrendSample) : List TrendSample → List TrendSample
  | [] => [x]
  | y :: ys => if x.time < y.time ∨ (x.time = y.time ∧ x.point < y.point) then x :: y :: ys else y :: insertSample x ys

/-- A trend dump starts (R43): header, then the held samples asked for whose points the tenant of the bulk stream port may read. -/
def startTrendDump (s : State) (v : Nat) : State :=
  let t0 := bytesAt 24 v 0 8
  let t1 := bytesAt 24 v 8 8
  let p0 := bytesAt 24 v 16 2
  let p1 := bytesAt 24 v 18 2
  let held := (s.trend.archive.reverse ++ s.trend.cache.reverse).filter (fun x =>
    decide (t0 ≤ x.time) && decide (x.time ≤ t1) && decide (p0 ≤ x.point) && decide (x.point ≤ p1))
  let tenant := bspTenant s
  let may (n : Nat) : Bool := match tenant with
    | some t => mayReadTenant s t (ptIndex n)
    | none => false
  let out := ((List.range (p1 + 1 - p0)).filter (fun k => !(may (p0 + k)))).length
  let sent := (held.filter (fun x => may x.point)).foldl (fun l x => insertSample x l) []
  let hdr := beBytes 8 t0 ++ beBytes 8 t1 ++ beBytes 4 sent.length ++ beBytes 2 out ++ List.replicate 10 0
  let body := sent.flatMap (fun x => beBytes 8 x.time ++ beBytes 2 x.point ++ [x.flags % 256, 0] ++ beBytes 4 x.value)
  bspStart ((s.wr Od.sys_trend_state 1).wr Od.sys_trend_transfer (s.nextXfer % 65536)) 2 (hdr ++ body)

/-- One element write of accepted work, by the chapter that owns it; `at_` is the crystal count of its acceptance. -/
def applyElem (s : State) (port client at_ i e v : Nat) : State :=
  let r : Option State :=
    if i < 0x1100 then (if i = Od.sys_trend_dump then some (startTrendDump s v) else none)
    else if i < 0x1200 then netApply s i e v
    else if i < 0x1300 then fldApply s i e v
    else if i < 0x1400 then ptApply s i e v
    else if i < 0x1500 then none
    else if i < 0x1600 then timeApply s at_ i v
    else if i < 0x1700 then nvsApply s i
    else if i < 0x1800 then recApply s port client i e v
    else if i < 0x1840 then updApply s i v
    else if i < 0x1900 then none
    else if i < 0x2000 then lbsApply s i e v
    else if i < 0x2100 then anaApply s i e v
    else if i < 0x2400 then calApply s i e v
    else if i < 0x2800 then nrgApply s i e v
    else if i < 0x2C00 then ctlApply s i e v
    else if i < 0x3000 then motApply s i e v
    else if i < 0x3400 then lftApply s i e v
    else if i < 0x3800 then safApply s i e v
    else if i < 0x4000 then prgApply s port i e v
    else ptApply s i e v
  let s1 := r.getD (s.wr i v e)
  if keptOf i e = .F ∧ s1.flashValid = false then { s1 with flashValid := true } else s1

/-- The version of an index (R92). -/
def versionOf (s : State) (i : Nat) : Nat := tabGet 0 i s.txn.versions

/-- The versions of the indices of a piece of work rise by one each (R92). -/
def bumpVersions (s : State) (is : List Nat) : State :=
  is.eraseDups.foldl (fun t i => { t with txn := { t.txn with versions := tabPut i ((versionOf t i + 1) % 2 ^ 32) t.txn.versions } }) s

/-- What the chapters do beside storing when a piece of work touched their entries; the configuration mirror follows (R26). -/
def committed (old s : State) (touched : List (Nat × Nat)) : State :=
  let s1 := anaCommitted old (netCommitted old (lbsCommitted s touched) touched) touched
  let s2 := nrgCommitted old s1 touched
  let s3 := ctlCommitted old s2 touched
  let s4 := motCommitted old s3 touched
  mirrorCommit (safCommitted old s4 touched)

/-- A piece of work applied whole (R88). -/
def applyWrites (s : State) (port client at_ : Nat) (ws : List ElemW) : State :=
  let s1 := ws.foldl (fun t w => applyElem t port client at_ w.index w.elem w.value) s
  committed s (bumpVersions s1 (ws.map (fun w => w.index))) (touchedBy ws)

/-- A granted mode request waits for its start (R46); a request for STANDBY begins the entry and draws its store at once (R55, R56). A
request for the present mode is a no-op. -/
def requestMode (s : State) (seq v : Nat) : State :=
  if v = s.mode.code then s
  else
    let s1 := if v = 5 then drawAllowance { s with sys := { s.sys with standbyEntry := true } } else s
    { s1 with sys := { s1.sys with modeReqs := s1.sys.modeReqs ++ [(seq, v)] } }

/-! ## Transfers to linked entries (R81) -/

/-- The present value of a driven point written to its linked entry, by the checks of a WRITE with handle 0 except ACCESS_DENIED and
NEEDS_TXN; a refused transfer sets FAULT. The transfer is no accepted work (R92). -/
def ptTransfer (s : State) (n : Nat) : State :=
  match (if kindDriven (ptKind s n) then ptLink s n else none) with
  | none => s
  | some l =>
    if linkAbsent s l then s
    else
      let c : Ctx := ⟨0, 0, 0, true, false, none⟩
      let w : Option WItem := match entryDef? l.1 with
        | some d => (fromPoint d.ty (s.rd (ptIndex n) 0)).map (entryItem l.1 l.2)
        | none => none
      let st : Status := match w with
        | some it => if noWork s then .busyRetry else checkItem s c it
        | none => .outOfRange
      let rest := s.pts.failed.filter (· != n)
      if st = .ok then
        let v : Nat := match w with
          | some it => ofBytes it.data
          | none => 0
        let s1 := if entryKind l.1 = 0 then applyElem s 0 0 s.crystal l.1 l.2 v
          else requestMode s 0 v
        let s2 := committed s s1 [(l.1, l.2)]
        { s2 with pts := { s2.pts with failed := rest } }
      else { s with pts := { s.pts with failed := rest ++ [n] } }

/-- The transfers due at a consumer boundary. -/
def ptTransfers (s : State) : State :=
  let due := s.pts.dirty
  due.foldl ptTransfer { s with pts := { s.pts with dirty := [] } }

end Sys2Proof.Machine
end

