-- ==== Sys2Proof/Machine/Ledger.lean ====
section
/-!
DEFINITION. The acceptance ledger: responses, acceptance, completion and replay (R69, R86 to R89, R98 to R103, R434).
-/
namespace Sys2Proof.Machine

/-! ## Where an answer goes (R72, R109) -/

/-- The frame of a UDP datagram of `n` bytes to where a request came from: UDP, IP and Ethernet headers and the FCS (log entry 18). -/
def udpFrame (o : Source) (n : Nat) : Nat := max 64 (n + 8 + (if o.src / 2 ^ 32 = 0xFFFF then 20 else 40) + 18)

/-- The physical ports an answer leaves on: the port its request arrived on, or both LANs under PRP (R72), uplinks that may send alone (R76, R122). -/
def answerPorts (s : State) (o : Source) : List Nat :=
  if o.kind = 1 then (if prp s then [0, 1] else [o.phys]).filter (fun u => maySend s u .traffic) else [o.phys]

/-- An answer's frame enters its transmit queue: on an uplink that of its class of `net_q_own` (R109), on a bridge port the low one (R132). -/
def answerFrame (s : State) (o : Source) (cls n : Nat) : State :=
  if o.kind = 1 then sendOwn s o.phys cls (udpFrame o n) o.mac
  else if o.kind = 2 then fieldSend s (s.rd Od.fld_pvid o.phys) 0 (udpFrame o n) o.phys
  else if o.kind = 3 then fieldSend s (s.rd Od.fld_pvid (16 + o.phys)) 0 (udpFrame o n) (16 + o.phys)
  else s

/-- A BACnet message, whose APDU of `n` bytes travels in a BVLC and NPDU header of 6 bytes, where a port may send it. -/
def bacSend (s : State) (o : Source) (n : Nat) (x : Out) : State := if answerPorts s o = [] then s else (answerFrame s o 1 (n + 6)).send x

/-! ## Responses (R68, R69, R72) -/

/-- The operation codes of R68, and the model's own for a BACnet write. -/
def opREAD : Nat := 1
def opWRITE : Nat := 2
def opDESCRIBE : Nat := 3
def opBEGIN : Nat := 4
def opCOMMIT : Nat := 5
def opROLLBACK : Nat := 6
def opBACNET : Nat := 0x100

/-- The BACnet error of a module status (R84). -/
def bacErrOf (code : Nat) : BacErr :=
  if code = Status.noSuchIndex.code ∨ code = Status.wrongVariant.code then .unknownObject
  else if code = Status.accessDenied.code then .writeAccessDenied
  else if code = Status.typeMismatch.code then .invalidDataType
  else if code = Status.outOfRange.code then .valueOutOfRange
  else .deviceBusy

/-- The module answers a request: the local bus by its status slot (R162), BACnet by a Simple-ACK (R85), COP by a response. -/
def respond (s : State) (op : Nat) (w : Who) (status handle seq : Nat) (items : List RespItem) : State :=
  if op = opBACNET then (if status = 0 then bacSend s w.origin 3 (.bacAck w.port seq) else bacSend s w.origin 7 (.bacError w.port (bacErrOf status)))
  else if w.port = 0 then lbComplete s w.reqid status seq
  else
    let n := items.foldl (fun a it => a + 12 + pad4 it.data.length) 28
    (answerFrame s w.origin 0 n).send (.cop w (answerPorts s w.origin) op status handle (degraded s) seq items)

/-- The items of a WRITE as its response carries them: headers without data, each with its status. -/
def echoItems (items : List WItem) (sts : List Status) : List RespItem :=
  (items.zip sts).map (fun p => ⟨p.1.index, p.1.first, p.1.count, p.1.ty, p.2.code, []⟩)

/-- The items of an answer whose items all report OK. -/
def okItems (items : List WItem) : List RespItem := echoItems items (items.map (fun _ => .ok))

/-! ## Completion (R86, R89) -/

/-- The response to accepted work that waits for it, if it has not been sent, is sent. -/
def sendWaiting (s : State) (seq : Nat) : State :=
  match s.txn.waiting.find? (fun x => x.seq == seq) with
  | none => s
  | some x =>
    let s1 := { s with txn := { s.txn with waiting := s.txn.waiting.filter (fun y => y.seq != seq) } }
    respond s1 x.op x.who 0 x.handle seq (okItems x.items)

/-- The ledger's counter group follows its values (R98, R379). -/
def noteLedger (s : State) (added : Nat) : State :=
  let v : CtrSlot := { next := s.rd Od.txn_next_seq, done := doneSeq s, ringHead := ((ctrValues s.mer.seqGroup).ringHead + added) % 63488, ringTail := 0 }
  let t := { s with mer := { s.mer with seqGroup := ctrUpdate s.mer.seqGroup v } }
  { s with mer := { s.mer with seqGroup := ctrUpdate s.mer.seqGroup { v with ringTail := ringTail t } } }

/-- Whether both parts of a record are done. -/
def recDone (r : LedgerRec) : Bool := !r.completed && r.ordDone && r.specDone

/-- Records whose work is done become COMPLETED and their responses are sent; nothing is marked while a store freezes the SRAM (R372). -/
def settle (s : State) : State :=
  if s.nvs.storing.isSome then s
  else
    let done := s.mer.recs.filter recDone
    let s1 := { s with mer := { s.mer with recs := s.mer.recs.map (fun r => if recDone r then { r with completed := true } else r) } }
    done.foldl (fun t r => sendWaiting t r.seq) (if done = [] then s1 else noteLedger s1 0)

/-- RESPONSE_TIMEOUT (R89): 2 ms after acceptance the response is sent although the work is not complete. -/
def responseTimeout (seq : Nat) (s : State) : State := if running s ∧ s.sys.appUp then sendWaiting s seq else s

/-! ## Acceptance (R87, R100, R101, R434) -/

/-- Whether the ledger refuses the next piece of work, whose payload with its header takes `size` bytes (R100, R101). -/
def ledgerFull (s : State) (size : Nat) : Bool :=
  let n := s.rd Od.txn_next_seq
  decide (4096 ≤ (inflight s).length) || decide (payloadFree s < size) ||
    s.mer.recs.any (fun r => r.seq + 16384 == n && !r.completed) ||
    (decide (16384 ≤ n) && n % 256 == 0 && (match s.mer.stamps.find? (fun p => p.1 == n % 16384 / 256) with
      | some p => decide (s.mer.opSecs < p.2 + 600)
      | none => false))

/-- Why work is not accepted (R51, R56, R100, R434). -/
def acceptRefusal (s : State) (size : Nat) : Status :=
  if noWork s then .busyRetry else if ledgerFull s size then .ledgerFull else .ok

/-- The effects that begin with the acceptance of a special item of kind 0x5, 0x6 or 0x7 (R46, R49, R52, R343, R392). -/
def beginItem (s : State) (seq : Nat) (w : ElemW) : State :=
  if w.index = Od.rec_clear then (if w.value = 0 then s else clearAccepted s seq w.value)
  else if w.index = Od.prg_exchange then exchangeAccepted s seq w.elem w.value
  else if w.index = Od.sys_mode_req then requestMode s seq w.value
  else if w.index = Od.sys_hold_test then startHoldTest s
  else if w.index = Od.sys_fault_retest then
    (if s.rdBit Od.sys_health w.value then
      { s.wr Od.sys_fault_retest 1 with sys := { s.sys with retest := some w.value } } else s)
  else if w.index = Od.sys_reset then { s with sys := { s.sys with resetDue := some (if w.value = 1 then .swr else .mpr) } }
  else s

/-- A record changed by number. -/
def modRec (s : State) (seq : Nat) (f : LedgerRec → LedgerRec) : State :=
  { s with mer := { s.mer with recs := s.mer.recs.map (fun r => if r.seq = seq then f r else r) } }

/-- The special items of a record of kind 0x5 to 0x7 begin, and the versions of their indices rise (R92), that of a mode request with its
grant; kind 0x7 is done unless a mode request waits, and kind 0x6 unless an exchange does. -/
def beginSpecial (s : State) (r : LedgerRec) : State :=
  let ws := r.writes.filter (fun w => 5 ≤ entryKind w.index)
  let s0 := bumpVersions (modRec s r.seq (fun x => { x with begun := true })) ((ws.filter (fun w => w.index != Od.sys_mode_req)).map (fun w => w.index))
  let s1 := ws.foldl (fun t w => beginItem t r.seq w) s0
  if (r.kind = 7 ∧ !(s1.sys.modeReqs.any (fun q => q.1 == r.seq))) ∨ (r.kind = 6 ∧ !(exchangeWaits s1 r.seq)) then specialDone s1 r.seq r.kind else s1

/-- Whether a record of kind 0x5 to 0x7 is to begin: the tick has applied everything accepted before it (R88). -/
def mayBegin (s : State) (r : LedgerRec) : Bool :=
  decide (5 ≤ r.kind) && !r.begun && !r.completed && !(s.mer.recs.any (fun x => decide (x.seq < r.seq) && !x.completed && !x.ordDone))

/-- The records that are to begin do, in sequence order; none while a replay is due (R88, R103). -/
def beginDue (s : State) : State :=
  if s.sys.replayTo.isSome then s else (s.mer.recs.filter (mayBegin s)).foldl beginSpecial s

/-- What acceptance writes for one element: a key replacement fills its pending half, and its record keeps the slot and the tag (R410). -/
def acceptElem (s : State) (w : ElemW) : State :=
  if w.index = Od.key_replace then keyAccepted s w.value
  else if w.index = Od.nvs_store_cmd then drawAllowance s
  else s

/-- The write as the record holds it. -/
def recordElem (w : ElemW) : ElemW := if w.index = Od.key_replace then { w with value := keyPayload w.value } else w

/-- The record of new work. Kinds 0x0 to 0x2 and 0x4 have work at the next tick; kinds 0x3 and 0x5 to 0x7 only with ordinary items. -/
def newRecord (s : State) (kind : Nat) (w : Who) (digest size : Nat) (ws : List ElemW) : LedgerRec :=
  let special := ws.any (fun x => entryKind x.index != 0)
  let ordinary := ws.any (fun x => entryKind x.index == 0)
  { seq := s.rd Od.txn_next_seq, kind := kind, port := w.port, client := w.client, reqid := w.reqid, digest := digest, size := size
    completed := false, outcome := 0, writes := ws.map recordElem
    ordDone := (kind == 3 || decide (5 ≤ kind)) && !ordinary
    specDone := kind == 0 || (kind == 1 && !special)
    begun := false
    crystal := s.crystal, lossGen := s.rtc.lossGen }

/-- Work is accepted (R87): record, group stamp (R101), counter; the response waits for completion (R89). -/
def accept (s : State) (kind : Nat) (w : Who) (digest size : Nat) (ws : List ElemW) (op handle : Nat) (items : List WItem) : State :=
  let r := newRecord s kind w digest size ws
  let recs := s.mer.recs ++ [r]
  let stamps := if r.seq % 256 = 255 then tabPut (r.seq % 16384 / 256) s.mer.opSecs s.mer.stamps else s.mer.stamps
  let wait : Waiting := ⟨r.seq, op, w, handle, items⟩
  let s1 := { s with
    mer := { s.mer with recs := if 16384 < recs.length then recs.drop 1 else recs, stamps := stamps }
    txn := { s.txn with waiting := s.txn.waiting ++ [wait] } }
  let s2 := ws.foldl acceptElem (s1.wr Od.txn_next_seq (r.seq + 1))
  settle (beginDue (noteLedger s2 size))

/-! ## Duplicates (R69 step 5, R101) -/

/-- The newest record in the window that a request repeats; records without a request ID never match. -/
def duplicateOf (s : State) (w : Who) : Option LedgerRec :=
  if w.reqid = 0 then none
  else s.mer.recs.reverse.find? (fun r => r.port == w.port && r.client == w.client && r.reqid == w.reqid)

/-- The payload of one item (R99): a key replacement leaves its slot and the first 8 bytes of K_v (R410), an exchange its descriptor, which is
the program and the 8 bytes written (log entry 153), any other item its COP form. -/
def itemPayload (it : WItem) : List Nat :=
  if it.index = Od.key_replace then beBytes 9 (keyPayload (ofBytes it.data))
  else if it.index = Od.prg_exchange then (List.range it.count).flatMap (fun k => (it.first + k) % 256 :: slice it.data (8 * k) 8)
  else itemBytes it.index it.first it.count it.ty 0 it.data

/-- The payload of a WRITE (R99): its items but for legal no-ops (R86). -/
def payloadOf (items : List WItem) : List Nat := (liveItems items).flatMap itemPayload

/-- The digest of a WRITE (R99, R101). -/
def itemsDigest (items : List WItem) : Nat := crc16 (payloadOf items)

/-- The bytes of a WRITE's payload, without its header. -/
def itemsSize (items : List WItem) : Nat := (payloadOf items).length

/-- A request that repeats accepted work is answered DUPLICATE; one that differs from the record is counted and recorded. -/
def answerDuplicate (s : State) (r : LedgerRec) (op : Nat) (w : Who) (handle : Nat) (items : List WItem) : State :=
  let same := (op == opWRITE && handle == 0 && writeKind items == r.kind && itemsDigest items == r.digest) || (op == opCOMMIT && r.kind == 1)
  let s1 := s.count Od.txn_duplicates
  let s2 := if same then s1 else recordEvent (s1.count Od.txn_dup_mismatch) 0x0201 w.port 1 (pay [(8, r.seq), (4, w.reqid)])
  respond s2 op w Status.duplicate.code handle r.seq (okItems items)

/-! ## Commit ticks (R88) -/

/-- A key replacement at a tick; one whose pending half is lost is refused (R410; status: log entry 198). The replacement stays as it is while the management
processor, which alone reaches the slots, is held in reset (R22, R36). -/
def keyAtTick (s : State) (seq : Nat) (w : ElemW) : State :=
  if s.sys.mpHeld then s
  else match applyKey s seq w.value with
  | some t => t
  | none =>
    let s1 := updEvent (s.count Od.txn_replay_refused) 6 (w.value / 2 ^ 64) 2 Status.verifyFailed.code
    { s1 with mer := { s1.mer with recs := s1.mer.recs.map (fun (r : LedgerRec) => if r.seq = seq then { r with outcome := 1, specDone := true } else r) } }

/-- The special items of a record that a tick applies: lift calls and key replacements. Its calls may wait for their table. -/
def tickSpecial (s : State) (r : LedgerRec) (done : ElemW → Bool) : State :=
  let calls := r.writes.filter (fun w => w.index == Od.lft_call && !(done w))
  let s1 := calls.foldl (fun t w => applyCall t r.seq w.elem w.value) s
  let s2 := (r.writes.filter (fun w => w.index == Od.key_replace && !(done w))).foldl (fun t w => keyAtTick t r.seq w) s1
  let waits := s2.lft.calls.any (fun c => c.1 == r.seq)
  let consts := r.writes.any (fun w => w.index == Od.nrg_pulse_const)
  if r.kind = 2 ∨ r.kind = 1 then
    { s2 with mer := { s2.mer with recs := s2.mer.recs.map (fun (x : LedgerRec) => if x.seq = r.seq then { x with specDone := !waits && !consts } else x) } }
  else s2

/-- The ordinary items of a record applied whole, and the record marked. -/
def tickOrdinary (s : State) (r : LedgerRec) : State :=
  let s1 := applyWrites s r.port r.client r.crystal (r.writes.filter (fun w => entryKind w.index == 0))
  { s1 with mer := { s1.mer with recs := s1.mer.recs.map (fun (x : LedgerRec) => if x.seq = r.seq then { x with ordDone := true } else x) } }

/-- The versions of the special indices that a tick applies rise with its items (R92): lift calls and key replacements. -/
def tickVersions (s : State) (r : LedgerRec) : State :=
  bumpVersions s ((r.writes.filter (fun w => entryKind w.index == 2 || entryKind w.index == 4)).map (fun w => w.index))

/-- A transaction closes: its closure entry is written first, then its descriptor freed (R94). -/
def closeTxn (s : State) (h cause status reqid seq : Nat) : State :=
  match descOf s h with
  | none => s
  | some d =>
    let e := ofBytes ([h, cause, d.port, status] ++ beBytes 4 d.client ++ beBytes 4 reqid ++ beBytes 4 seq)
    let old := (List.range 31).map (fun k => s.rd Od.txn_closure k)
    let s1 := (List.range 31).foldl (fun t k => t.wr Od.txn_closure (old.getD k 0) (k + 1)) s
    let s2 := s1.wr Od.txn_closure e 0
    { s2 with
      mer := { s2.mer with descs := s2.mer.descs.filter (fun x => x.handle != h) }
      txn := { s2.txn with opens := s2.txn.opens.filter (fun x => x.handle != h) } }

/-- The other open transactions of ports whose binding a piece of work changed are rolled back (R75). -/
def rollBackPorts (s : State) (ports : List Nat) : State :=
  (s.mer.descs.filter (fun d => ports.contains d.port && (openTxn s d.handle).isSome)).foldl (fun t d => closeTxn t d.handle 5 0 0 0) s

/-- One accepted piece of work at a tick. -/
def tickRecord (s : State) (r : LedgerRec) : State :=
  let s1 := tickSpecial (tickVersions (tickOrdinary s r) r) r (fun _ => false)
  rollBackPorts s1 (portsChanged s s1 (touchedBy r.writes))

/-- The work a tick applies: accepted, its tick part not done, in order. -/
def dueRecords (s : State) : List LedgerRec := s.mer.recs.filter (fun r => !r.completed && !r.ordDone)

/-! ## Replay (R102) -/

/-- Whether a special item was already applied (R86). -/
def alreadyApplied (s : State) (r : LedgerRec) (w : ElemW) : Bool :=
  if w.index = Od.lft_call then callHeld s r.seq w.elem w.value
  else if w.index = Od.nrg_pulse_const then s.rd Od.nrg_pulse_stamp w.elem == r.seq
  else if w.index = Od.key_replace then s.rd Od.key_stamp (w.value / 2 ^ 64) == r.seq
  else if w.index = Od.rec_clear then clearHeld s r.seq
  else if w.index = Od.prg_exchange then s.rd Od.prg_stamp w.elem == r.seq
  else w.index == Od.sys_reset

/-- Whether an exchange of this record is under way: a core halt leaves it as it stands (R38, R104). -/
def exchangeRuns (s : State) (r : LedgerRec) (w : ElemW) : Bool :=
  w.index == Od.prg_exchange && ((slotPrg s w.elem).first == some r.seq || (slotPrg s w.elem).pend.any (fun p => p.1 == r.seq))

/-- The recheck of one item (R102): a key replacement needs its pending half (R410) and is refused with VERIFY_FAILED without it (log entry 198), an
exchange under way is not checked again. -/
def recheckItem (s t : State) (r : LedgerRec) (c : Ctx) (w : ElemW) : Status :=
  if w.index = Od.key_replace then (if keyPending s w.value then .ok else .verifyFailed)
  else if exchangeRuns s r w then .ok
  else checkItem t c (entryItem w.index w.elem w.value)

/-- The recheck of a record (R102): R11 without ACCESS_DENIED and NEEDS_TXN, and for a commit the checks on what it leaves. -/
def recheck (s : State) (r : LedgerRec) : Status :=
  let t := { s with mer := { s.mer with recs := s.mer.recs.filter (fun (x : LedgerRec) => x.seq != r.seq) } }
  let c : Ctx := ⟨r.port, r.client, b2n (r.kind == 1), true, false, some r.lossGen⟩
  let ws := r.writes.filter (fun w => !(alreadyApplied s r w))
  let st := firstBad (ws.map (recheckItem s t r c))
  if st = .ok ∧ r.kind = 1 then leaves t (wouldLeave t (ws.filter settles)) none (touchedBy ws) else st

/-- One record replayed. -/
def replayRecord (s : State) (r : LedgerRec) : State :=
  let done := alreadyApplied s r
  let left := r.writes.filter (fun w => !(done w))
  if left = [] ∧ r.writes ≠ [] then
    modRec s r.seq (fun x => { x with outcome := 2, ordDone := true, specDone := true })
  else
    let st := recheck s r
    if st ≠ .ok then
      let s1 := recordEvent (s.count Od.txn_replay_refused) 0x0200 0xFF 1 (pay [(8, r.seq), (1, st.code)])
      modRec s1 r.seq (fun x => { x with outcome := 1, ordDone := true, specDone := true })
    else
      let s1 := tickSpecial (tickVersions (tickOrdinary s r) { r with writes := left }) r done
      let s2 := (left.filter (fun w => w.index == Od.nvs_store_cmd)).foldl (fun t _ => drawAllowance t) s1
      let s3 := beginSpecial s2 { r with writes := left.filter (fun w => !(exchangeRuns s r w)) }
      let s4 := if left.any (fun w => entryKind w.index != 0) then s3 else modRec s3 r.seq (fun x => { x with specDone := true })
      rollBackPorts s4 (portsChanged s s4 (touchedBy r.writes))

/-- Special items of work to be replayed that had begun and not ended begin again with their replay, not beside it. -/
def dropBegun (s : State) (todo : List LedgerRec) : State :=
  let hit (n : Nat) : Bool := todo.any (fun r => r.seq == n)
  { s with
    sys := { s.sys with modeReqs := s.sys.modeReqs.filter (fun q => !(hit q.1)) }
    recd := { s.recd with clears := s.recd.clears.filter (fun c => !(hit c.1)) }
    lft := { s.lft with calls := s.lft.calls.filter (fun c => !(hit c.1)) } }

/-- The replay of R102, in sequence order. -/
def replay (s : State) (upTo : Nat) : State :=
  let todo := (inflight s).filter (fun r => decide (r.seq ≤ upTo))
  let s1 := todo.foldl replayRecord ((dropBegun s todo).wr Od.txn_replay_total todo.length)
  { s1 with sys := { s1.sys with replayTo := none } }

end Sys2Proof.Machine
end

