-- ==== Sys2Proof/Machine/Requests.lean ====
section
/-!
DEFINITION. Requests of the object service: reads, writes, descriptions, transactions and the local bus's launches (R67 to R71, R90 to
R97, R158, R161, R162).
-/
namespace Sys2Proof.Machine

/-- The object service answers (R52). -/
def serves (s : State) : Bool := running s && s.sys.appUp

/-! ## Reading (R67 to R70) -/

/-- The value of an element as a transaction sees it: its staged write, or the committed value (R68). -/
def readStaged (s : State) (staged : List ElemW) (i e : Nat) : Nat :=
  match staged.find? (fun w => w.index == i && w.elem == e) with
  | some w => w.value
  | none => readElem s i e

/-- The status of one item of a READ, and its data. -/
def readItem (s : State) (port : Nat) (staged : List ElemW) (it : WItem) : Status × List Nat :=
  match entryDef? it.index with
  | none => (.noSuchIndex, [])
  | some d =>
    if d.nX < it.first + it.count then (.noSuchIndex, [])
    else if d.acc == .wo || !(mayReadTenant s (tenantOf s port) it.index) then (.accessDenied, [])
    else if it.ty != d.ty.code || it.data.length != 0 then (.typeMismatch, [])
    else (.ok, valsData d.ty.size ((List.range it.count).map (fun k => readStaged s staged it.index (it.first + k))))

/-- Elements of an index on the variant in hand: one more than the highest that does not follow R2 (R70). -/
def variantCount (s : State) (d : EntryDef) : Nat :=
  match (List.range d.nX).reverse.find? (fun e => !(absent s.variant d e)) with
  | some e => e + 1
  | none => 0

/-- The 12 bytes of a descriptor (R70). -/
def descriptor (s : State) (d : EntryDef) : List Nat :=
  let point := decide (0x4000 ≤ d.idx) && decide (d.idx ≤ 0x5FFF)
  [d.ty.code, if point then 5 else d.acc.code, if point then 42 else d.kept.ascii] ++
    beBytes 2 (variantCount s d) ++ beBytes 2 d.nX ++ beBytes 2 d.stride ++ [0, 0, 0]

/-- The status of one item of a DESCRIBE, and its data (R70, R71); the first element is not looked at (log entry 155). -/
def describeItem (s : State) (port : Nat) (it : WItem) : Status × List Nat :=
  match entryDef? it.index with
  | none => (.noSuchIndex, [])
  | some d =>
    if !(mayReadTenant s (tenantOf s port) it.index) then (.accessDenied, [])
    else if it.data.length != 0 then (.typeMismatch, [])
    else (.ok, descriptor s d)

/-- The answer of a READ or DESCRIBE: each item alone; more than 1,424 bytes of items are refused (R68, R69). -/
def respondItems (s : State) (op : Nat) (w : Who) (handle : Nat) (items : List WItem) (rs : List (Status × List Nat)) : State :=
  if 1424 < (rs.foldl (fun a r => a + 12 + pad4 r.2.length) 0) then respond s op w Status.outOfRange.code handle 0 []
  else respond s op w (firstBad (rs.map (fun r => r.1))).code handle 0
    ((items.zip rs).map (fun p => ⟨p.1.index, p.1.first, p.1.count, p.1.ty, p.2.1.code, p.2.2⟩))

/-- The volatile part of a transaction changed. -/
def modTxn (s : State) (h : Nat) (f : TxnOpen → TxnOpen) : State :=
  { s with txn := { s.txn with opens := s.txn.opens.map (fun t => if t.handle = h then f t else t) } }

/-- A transaction records the version of each index the first time a read or a staged write covers it (R92). -/
def noteVersions (s : State) (h : Nat) (is : List Nat) : State :=
  modTxn s h (fun t => { t with versions := is.foldl (fun v i => if v.any (fun p => p.1 == i) then v else tabPut i (versionOf s i) v) t.versions })

/-- A READ after its steps 1 to 7. -/
def readRequest (s : State) (w : Who) (handle : Nat) (items : List WItem) : State :=
  let staged := match openTxn s handle with
    | some t => t.staged
    | none => []
  let rs := items.map (readItem s w.port staged)
  let seen := (items.zip rs).filterMap (fun p => if p.2.1 = .ok then some p.1.index else none)
  respondItems (if handle = 0 then s else noteVersions s handle seen) opREAD w handle items rs

/-! ## Writing (R69, R86, R91) -/

/-- Work whose checks have passed: accepted, refused for the ledger's reasons, or held while a store freezes the SRAM (R372). During a
STANDBY entry it is answered at once (R56). -/
def submit (s : State) (op : Nat) (w : Who) (items : List WItem) : State :=
  if s.nvs.storing.isSome ∧ !(standbyAccepted s) then { s with txn := { s.txn with held := s.txn.held ++ [⟨op, w, 0, items, false⟩] } }
  else
    let size := 8 + itemsSize items
    let st := acceptRefusal s size
    if st = .ok then accept s (writeKind items) w (itemsDigest items) size (itemWrites (liveItems items)) op 0 items
    else respond (if st = .ledgerFull then s.count Od.txn_ledger_full else s) op w st.code 0 0 (okItems items)

/-- Items staged in a transaction, if its limits allow (R91). -/
def stage (s : State) (op : Nat) (w : Who) (h : Nat) (items : List WItem) : State :=
  match openTxn s h with
  | none => respond s op w Status.accessDenied.code h 0 []
  | some t =>
    let staged := (itemWrites (liveItems items)).foldl (fun l x => putWrite x l) t.staged
    if 1024 < staged.length ∨ 32768 < runsSize (runsOf staged) then respond s op w Status.outOfRange.code h 0 (okItems items)
    else
      let s1 := noteVersions (modTxn s h (fun x => { x with staged := staged })) h ((liveItems items).map (fun it => it.index))
      respond s1 op w 0 h 0 (okItems items)

/-- A replacement refused for its verification value renews the slot's challenge (R410). -/
def verifyFailures (s : State) (items : List WItem) (sts : List Status) : State :=
  (items.zip sts).foldl (fun t p => if p.1.index = Od.key_replace ∧ p.2 = .verifyFailed then keyFailed t (ofBytes p.1.data) else t) s

/-- The entries that set the time among the staged writes of a transaction (R355). -/
def stagedTimes (s : State) (h : Nat) : List Nat :=
  match openTxn s h with
  | some t => (t.staged.map (fun w => w.index)).filter isTimeIndex
  | none => []

/-- A WRITE after its steps 1 to 7: every item checked, then staged, answered, or submitted (R69, R71, R86). A key replacement that has passed
its checks up to the verification waits while the management processor is held in reset, since only it verifies (R36, R410). -/
def writeRequest (s : State) (op : Nat) (w : Who) (handle : Nat) (items : List WItem) : State :=
  if items = [] then respond s op w 0 handle 0 []
  else
    let sts := checkItems s ⟨w.port, w.client, handle, false, op == opBACNET, none⟩ (stagedTimes s handle) items
    let st := firstBad sts
    if s.sys.mpHeld ∧ items.any (fun it => it.index == Od.key_replace) ∧ (st = .ok ∨ st = .verifyFailed) then
      { s with txn := { s.txn with held := s.txn.held ++ [⟨op, w, handle, items, false⟩] } }
    else if st ≠ .ok then respond (verifyFailures s items sts) op w st.code handle 0 (echoItems items sts)
    else if 1 < (writeKinds items).length then respond s op w Status.outOfRange.code handle 0 (okItems items)
    else if handle ≠ 0 then stage s op w handle items
    else if liveItems items = [] then respond s op w 0 0 0 (okItems items)
    else submit s op w items

/-! ## Transactions (R90 to R96) -/

/-- The status a closure entry records for a request, if one matches (R94). -/
def closureFor (s : State) (w : Who) : Option Nat :=
  ((List.range 32).map (fun k => s.rd Od.txn_closure k)).findSome? (fun e =>
    if byteAt 16 e 0 ≠ 0 ∧ byteAt 16 e 2 = w.port ∧ bytesAt 16 e 4 4 = w.client ∧ bytesAt 16 e 8 4 = w.reqid then some (byteAt 16 e 3) else none)

/-- Step 7 of R69: the status a request is answered with, none if it goes on (R90, R93, R94). -/
def gate (s : State) (op : Nat) (w : Who) (handle : Nat) : Option Nat :=
  let ends := op == opCOMMIT || op == opROLLBACK
  match (if ends then closureFor s w else none) with
  | some st => some st
  | none =>
    if handle = 0 ∧ !ends then none
    else match descOf s handle, openTxn s handle with
      | some d, some t =>
        if d.port ≠ w.port ∨ d.client ≠ w.client ∨ !(serialAfter w.reqid d.openReq) then some Status.accessDenied.code
        else if t.committing && (ends || op == opWRITE) then some Status.busyRetry.code
        else none
      | _, _ => some Status.accessDenied.code

/-- A request restarts the idle time of its transaction (R95, R97). -/
def touchTxn (s : State) (h : Nat) : State := modTxn s h (fun t => { t with last := s.now })

/-- An accepted commit waits for its tick. -/
def commitAwaits (s : State) : Bool := s.mer.recs.any (fun r => r.kind == 1 && !r.completed && !r.ordDone)

/-- A request of a transaction that changes the SRAM waits while a store freezes it (R372); a held commit shows as committing (R93). One
that begins a transaction is answered at once during a STANDBY entry (R56). Commits are evaluated one at a time: one that arrives between
another's version check and its tick waits for the tick (R93). -/
def sramHeld (s : State) (op : Nat) : Bool :=
  (s.nvs.storing.isSome && (op != opBEGIN || !(standbyAccepted s))) || (op == opCOMMIT && commitAwaits s)

/-- The request put aside. -/
def holdTxn (s : State) (op : Nat) (w : Who) (handle : Nat) : State :=
  let s1 := { s with txn := { s.txn with held := s.txn.held ++ [⟨op, w, handle, [], false⟩] } }
  if op = opCOMMIT then modTxn s1 handle (fun t => { t with committing := true }) else s1

/-- TXN_BEGIN after its steps 1 to 7 (R90). Before the SRAM may be written and during a STANDBY entry it is answered BUSY_RETRY. -/
def beginRequest (s : State) (op : Nat) (w : Who) : State :=
  let free := (List.range 8).find? (fun k => (descOf s (k + 1)).isNone && (openTxn s (k + 1)).isNone)
  if !(hasRight s (tenantOf s w.port) rightTXN) then respond s op w Status.accessDenied.code 0 0 []
  else match free with
    | none => respond s op w Status.busyRetry.code 0 0 []
    | some k =>
      if noWork s then respond s op w Status.busyRetry.code 0 0 []
      else
        let d : TxnDesc := ⟨k + 1, w.port, w.client, w.reqid, 0, 0⟩
        let t : TxnOpen := { handle := k + 1, last := s.now }
        respond { s with mer := { s.mer with descs := s.mer.descs ++ [d] }, txn := { s.txn with opens := s.txn.opens ++ [t] } } op w 0 (k + 1) 0 []

/-- TXN_ROLLBACK after its steps 1 to 7 (R94). -/
def rollbackRequest (s : State) (op : Nat) (w : Who) (h : Nat) : State := respond (closeTxn s h 2 0 w.reqid 0) op w 0 h 0 []

/-- The outcome of a commit's checks: status and closure cause (R92, R93). -/
def commitVerdict (s : State) (w : Who) (t : TxnOpen) : Status × Nat :=
  let c : Ctx := ⟨w.port, w.client, t.handle, true, false, none⟩
  let st := firstBad (checkItems s c [] (runItems t.staged))
  let lv := if st = .ok then leaves s (wouldLeave s (t.staged.filter settles)) (some (tenantOf s w.port)) (touchedBy t.staged) else st
  if lv ≠ .ok then (lv, 7)
  else if t.versions.any (fun p => versionOf s p.1 != p.2) then (.txnConflict, 3)
  else (.ok, 1)

/-- The descriptor takes the commit's numbers (R94). -/
def stampDesc (s : State) (h seq reqid : Nat) : State :=
  { s with mer := { s.mer with descs := s.mer.descs.map (fun d => if d.handle = h then { d with commitSeq := seq, commitReq := reqid } else d) } }

/-- TXN_COMMIT after its steps 1 to 7 (R93): refused and rolled back, refused and left open, or accepted and closed. -/
def commitRequest (s : State) (op : Nat) (w : Who) (h : Nat) : State :=
  match openTxn s h with
  | none => respond s op w Status.accessDenied.code h 0 []
  | some t =>
    let v := commitVerdict s w t
    if v.1 ≠ .ok then
      let s1 := if v.2 = 3 then s.count Od.txn_conflicts else s
      respond (closeTxn s1 h v.2 v.1.code w.reqid 0) op w v.1.code h 0 []
    else
      let runs := runsOf t.staged
      let size := 8 + runsSize runs
      let st := acceptRefusal s size
      if st ≠ .ok then respond (if st = .ledgerFull then s.count Od.txn_ledger_full else s) op w st.code h 0 []
      else
        let seq := s.rd Od.txn_next_seq
        let s1 := stampDesc s h seq w.reqid
        closeTxn (accept s1 1 w (crc16 (runs.flatMap runBytes)) size t.staged op h []) h 1 0 w.reqid seq

/-- TXN_IDLE_TIMEOUT (R94, R97): a transaction inactive for `txn_timeout` closes. -/
def txnIdleTimeout (h : Nat) (s : State) : State :=
  match openTxn s h with
  | some t =>
    if serves s ∧ !t.committing ∧ t.last + s.rd Od.txn_timeout * 1000000000 ≤ s.now then (closeTxn s h 4 0 0 0).count Od.txn_expired else s
  | none => s

/-! ## Steps 5 to 9 of R69 -/

/-- A classified request from step 5 on; `bad` says that a reserved flag bit is set (step 6). -/
def serve (s : State) (op : Nat) (w : Who) (handle : Nat) (items : List WItem) (bad : Bool := false) : State :=
  match duplicateOf s w with
  | some r => answerDuplicate s r op w handle items
  | none =>
    if op = 0 ∨ opROLLBACK < op ∨ w.reqid = 0 ∨ bad then respond s op w Status.outOfRange.code handle 0 []
    else if opBEGIN ≤ op ∧ items ≠ [] then respond s op w Status.typeMismatch.code handle 0 []
    else match gate s op w handle with
      | some st => respond s op w st handle 0 []
      | none =>
        let s1 := if handle = 0 then s else touchTxn s handle
        if op = opREAD then readRequest s1 w handle items
        else if op = opWRITE then writeRequest s1 op w handle items
        else if op = opDESCRIBE then respondItems s1 op w handle items (items.map (describeItem s1 w.port))
        else if sramHeld s1 op then holdTxn s1 op w handle
        else if op = opBEGIN then beginRequest s1 op w
        else if op = opCOMMIT then commitRequest s1 op w handle
        else rollbackRequest s1 op w handle

/-! ## The local bus (R96, R161, R162) -/

/-- The open transaction of the local bus. -/
def lbTxn (s : State) : Option Nat := (s.mer.descs.find? (fun d => d.port == 0 && d.client == 0 && (openTxn s d.handle).isSome)).map (fun d => d.handle)

/-- A write of the local bus to one of its transaction entries, once its checks have passed (R96). One that repeats a request that ended a
transaction is answered from the closure entry (R94). -/
def lbTxnWrite (s : State) (w : Who) (i : Nat) : State :=
  let op := if i = Od.txn_begin then opBEGIN else if i = Od.txn_commit then opCOMMIT else opROLLBACK
  match (if op = opBEGIN then none else closureFor s w), lbTxn s with
  | some st, _ => respond s op w st 0 0 []
  | none, none =>
    if op = opBEGIN then (if sramHeld s opBEGIN then holdTxn s opBEGIN w 0 else beginRequest s opBEGIN w)
    else if op = opCOMMIT then respond s opCOMMIT w Status.needsTxn.code 0 0 []
    else respond s opROLLBACK w 0 0 0 []
  | none, some h =>
    if op = opBEGIN then respond s opBEGIN w 0 h 0 []
    else if (openTxn s h).any (fun t => t.committing) then respond s opWRITE w Status.busyRetry.code h 0 []
    else if sramHeld s op then holdTxn s op w h
    else if op = opCOMMIT then commitRequest s opCOMMIT w h
    else rollbackRequest s opROLLBACK w h

/-- Whether a descriptor breaks a range of R162 or R13: a data length above 64, or a reserved bit of LBW_CTRL. -/
def lbRangeBad (s : State) : Bool :=
  let c := lbReg s 0x2002
  decide (64 < c % 128) || c / 128 % 512 != 0 || decide (2 ^ 24 ≤ c)

/-- A write of the local bus from step 5 of R69 on: staged while its transaction is open (R96). `bad` says that the descriptor breaks a range, which
is found at the step of OUT_OF_RANGE in R11. -/
def lbServe (s : State) (w : Who) (items : List WItem) (bad : Bool := false) : State :=
  let txnItem := items.find? (fun it => Od.txn_begin ≤ it.index && it.index ≤ Od.txn_rollback)
  let op := match txnItem with
    | some it => if it.index = Od.txn_commit then opCOMMIT else opWRITE
    | none => opWRITE
  match duplicateOf s w with
  | some r => answerDuplicate s r op w 0 items
  | none =>
    if w.reqid = 0 then respond s opWRITE w Status.outOfRange.code 0 0 []
    else if bad then
      let h := (lbTxn s).getD 0
      let st := firstBad (checkItems s ⟨0, w.client, h, false, false, none⟩ (stagedTimes s h) items)
      respond s opWRITE w (if rank st < 7 ∨ items.any (fun it => it.count == 0) then st else Status.outOfRange).code 0 0 []
    else match txnItem with
      | some it =>
        let st := checkItem s ⟨0, w.client, 0, false, false, none⟩ it
        if st ≠ .ok ∨ items.length ≠ 1 then writeRequest s opWRITE w 0 items else lbTxnWrite s w it.index
      | none =>
        match lbTxn s with
        | some h =>
          if (openTxn s h).any (fun t => t.committing) then respond s opWRITE w Status.busyRetry.code h 0 []
          else writeRequest (touchTxn s h) opWRITE w h items
        | none => writeRequest s opWRITE w 0 items

/-- A classified request while the object service answers, counted for its port (R74). A port of kind 0 never matches (R73), so the frame is
discarded and counted; the local bus makes WRITEs with handle 0 alone (R162). -/
def request (s : State) (op : Nat) (w : Who) (handle : Nat) (items : List WItem) (bad : Bool := false) : State :=
  if serves s then
    if 256 ≤ w.port ∨ s.rd Od.od_port_kind w.port = 0 then (if w.origin.kind < 7 then s.count Od.od_unbound_drops w.origin.kind else s)
    else
      let s1 := s.count Od.od_port_hits w.port
      if w.port ≠ 0 then serve s1 op w handle items bad
      else if op = opWRITE ∧ handle = 0 then lbServe (lbPending s1 w.reqid) w items
      else s
  else s

/-- A WRITE with handle 0 of one element, as the commands that name an entry make it. -/
def writeEntry (w : Who) (i e v : Nat) (s : State) : State := request s opWRITE w 0 [entryItem i e v]

/-- The write at the front of the posted queue, a GO, is taken: the descriptor writes behind it drain, and the status slot of the request it launches is
pending (R161, R162). -/
def lbTaken (s : State) : State :=
  match s.lbs.queue with
  | x :: q => lbPending (lbDrained { s with lbs := { s.lbs with queue := q, regs := tabPut x.addr x.value s.lbs.regs } }) (lbReg s 0x2001)
  | [] => s

/-- LBW_GO (R161, R162): the GO at the front of the queue hands its request over, from step 4 of R69 on. In BOOT the object service does not serve yet,
and takes it up when it does (R52, log entry 186). -/
def lbwGo (s : State) : State :=
  match s.lbs.queue with
  | x :: _ =>
    if x.addr = 0x2003 ∧ lbServed s ∧ !servicePaused s then
      let w : Who := ⟨0, 0, lbReg s 0x2001, localBus⟩
      let s2 := (lbTaken s).count Od.od_port_hits 0
      if x.queueFull then respond (s2.count Od.od_queue_full) opWRITE w Status.busyRetry.code 0 0 []
      else if serves s then lbServe s2 w [lbItem s] (lbRangeBad s)
      else { s2 with txn := { s2.txn with held := s2.txn.held ++ [⟨opWRITE, w, 0, [lbItem s], lbRangeBad s⟩] } }
    else s
  | [] => s

/-- A held request is taken up again when the store releases the SRAM (R372), or a commit when the tick of the one before it has passed
(R93). -/
def serveHeld (s : State) (x : Held) : State :=
  let s1 := if x.op = opCOMMIT then modTxn s x.handle (fun t => { t with committing := false }) else s
  if x.op = opBACNET then writeRequest s1 x.op x.who x.handle x.items
  else if x.who.port = 0 then
    (if x.op = opWRITE then lbServe s1 x.who x.items x.bad
     else if x.op = opBEGIN then beginRequest s1 x.op x.who
     else if sramHeld s1 x.op then holdTxn s1 x.op x.who x.handle
     else if x.op = opCOMMIT then commitRequest s1 x.op x.who x.handle
     else rollbackRequest s1 x.op x.who x.handle)
  else serve s1 x.op x.who x.handle x.items

/-- Every held request is taken up again, in the order they arrived. -/
def serveAllHeld (s : State) : State := s.txn.held.foldl serveHeld { s with txn := { s.txn with held := [] } }

/-! ## Wafer window (R158) -/

/-- WAFER_REFRESH (R158): the words of one period read together, their group counted. -/
def waferRefresh (period : Nat) (s : State) : State :=
  if lbServed s then
    let ms := (lbMapped s).filter (fun m => s.rd Od.lbs_map_period m.1 == period)
    if ms = [] then s
    else
      let gen := tabGet 0 period s.lbs.gens
      let words := ms.foldl (fun t m => match entryDef? (m.2 / 65536) with
        | some d => tabPut m.1 (lbWord d.ty (s.rd Od.lbs_map_part m.1) (readElem s (m.2 / 65536) (m.2 % 65536))) t
        | none => t) s.lbs.words
      { s with lbs := { s.lbs with
          words := words
          gens := tabPut period (if 65535 ≤ gen then 1 else gen + 1) s.lbs.gens
          pendingW := s.lbs.pendingW.filter (fun w => !(ms.any (fun m => m.1 == w))) } }
  else s

end Sys2Proof.Machine
end

