-- ==== Sys2Proof/Machine/Modes.lean ====
section
/-!
DEFINITION. The mode machine in operation: SAFE_HOLD, mode requests, STANDBY entry, faults and retests (R24, R25, R37, R41, R45 to R47,
R55 to R58, R60).
-/
namespace Sys2Proof.Machine

/-! ## The causes of MODE events (log entry 7) -/

def causeFAULT : Nat := 0
def causeREQUEST : Nat := 1
def causeTRIP : Nat := 2
def causeEXIT : Nat := 3
def causeBOOT : Nat := 4
def causePOWER : Nat := 5
def causeLAPSED : Nat := 6
def causeRESET : Nat := 7

/-- PoDL gates open (R56, R60). -/
def podlOff (s : State) : State :=
  pseNoteAlloc ((List.range (t1lCount s)).foldl (fun t p => if t.rd Od.fld_pse_state p = 9 then t else t.wr Od.fld_pse_state 0 p) s)

/-- Every analogue output takes its command again. -/
def anaResume (s : State) : State := (List.range (anaCount s)).foldl anaDrive s

/-! ## SAFE_HOLD (R45, R47, R56) -/

/-- A snapshot whose store counts as a commanded one. -/
def asCommanded (b : Bank) : Bank :=
  { b with cells := odPut 0 Od.nvs_last_cause 0 1 b.cells, mer := { b.mer with ended := false } }

/-- A STANDBY entry is abandoned (R56): a store under way counts as commanded, and one not started is not made. -/
def abandonEntry (s : State) : State :=
  let begun := entryOff s
  let s1 := { s with
    sys := { s.sys with standbyEntry := false, wakeDuringEntry := none }
    nvs := { s.nvs with queued := s.nvs.queued.filter (fun q => q.1 != 3) } }
  let s2 := match s1.nvs.storing with
    | some (3, b) => { s1.wr Od.nvs_last_cause 1 with nvs := { s1.nvs with storing := some (1, asCommanded b) } }
    | _ => s1
  if begun then (List.range (t1lCount s2)).foldl (fun t p => if t.fld.pwrBad then t else pseRestart t p) s2 else s2

/-- SAFE_HOLD is entered at once (R45, R47): safety outputs off, loops on their safe outputs, motion on its stop ramps, cars stopped. -/
def enterSafeHold (s : State) (cause : Nat := causeTRIP) : State :=
  if running s ∧ s.mode ≠ .safeHold then
    let begun := entryOff s
    let s0 := if s.sys.standbyEntry then abandonEntry s else s
    let s1 := if s.mode = .commission then endAdmission s0 else s0
    let s2 := enterMode { s1 with sys := { s1.sys with heldFrom := s.mode } } .safeHold cause
    let s3 := if begun then anaResume s2 else s2
    lftSafeHold (motSafeHold (ctlSafeHold (outsOff s3)))
  else s

/-- A set cause of R323 holds the module in SAFE_HOLD (R45, R323). -/
def holdIfTripped (s : State) : State := if s.rd Od.saf_trip_cause = 0 then s else enterSafeHold s

/-- The mode SAFE_HOLD is left into (R47); `none` is RUN or RUN_DEGRADED. -/
def holdTarget (s : State) : Option Mode :=
  let from_ := if s.sys.heldFrom = .boot then s.sys.selected else s.sys.heldFrom
  match from_ with
  | .maintenance => if s.sys.heldFrom = .boot then none else some .maintenance
  | .commission => some .commission
  | .probation => some .probation
  | .recovery => some .recovery
  | _ => none

/-- SAFE_HOLD is left (R47, R324). -/
def leaveSafeHold (s : State) : State :=
  if s.mode = .safeHold then
    let s0 := { s with saf := { s.saf with exitDue := false } }
    let s1 := match holdTarget s0 with
      | some m => enterMode s0 m causeEXIT
      | none => enterRun s0 causeEXIT
    motSafeExit (ctlSafeExit s1)
  else { s with saf := { s.saf with exitDue := false } }

/-! ## Mode requests (R46, R55, R56) -/

/-- The STANDBY entry begins: outputs off, PoDL gates open, and the store triggered, which flushes the buffer first (R56). -/
def standbyBegins (s : State) : State :=
  let s1 := podlOff (anaOff { s with sys := { s.sys with standbyEntry := true } })
  triggerStore s1 3

/-- A granted request's transition (R46); when COMMISSION is left, automatic slots return from their held output (R237). -/
def grantMode (s : State) (v : Nat) : State :=
  let s1 := s.wr Od.sys_mode_req v
  let s2 := if s1.mode = .commission then ctlReturn (endAdmission s1) else s1
  match v with
  | 1 => enterMode s2 .commission causeREQUEST
  | 2 => enterRun s2 causeREQUEST
  | 4 => enterMode s2 .doze causeREQUEST
  | 5 => standbyBegins s2
  | 6 => enterMode s2 .maintenance causeREQUEST
  | _ => s2

/-- RUN or DOZE with a fault outstanding is left into RUN_DEGRADED (R39): a fault of a STANDBY entry that then lapses. -/
def degradeNow (s : State) : State :=
  if (s.mode = .run ∨ s.mode = .doze) ∧ degraded s then
    let t := enterMode s .runDegraded causeFAULT
    { t with sys := { t.sys with degradedFrom := s.mode } }
  else s

/-- A request lapses (R46): the MODE event's instance is the lapsed code. A STANDBY entry that lapses is no longer under way. -/
def lapseMode (s : State) (v : Nat) : State :=
  let s1 := recordEvent s 0x0100 v 0 (pay [(1, s.mode.code), (1, Config.eventLow 0x01 causeLAPSED % 256)])
  if v = 5 then degradeNow { s1 with sys := { s1.sys with standbyEntry := false } } else s1

/-- The state as a request's conditions see it: its own record apart. -/
def withoutRecord (s : State) (seq : Nat) : State :=
  { s with mer := { s.mer with recs := s.mer.recs.filter (fun (r : LedgerRec) => r.seq != seq) } }

/-- The version of `sys_mode_req` rises when accepted work writes it (R92); a linked point's transfer is no accepted work. -/
def noteGrant (s : State) (seq : Nat) : State := if seq = 0 then s else bumpVersions s [Od.sys_mode_req]

/-- MODE_TRANSITION_START (R46): the oldest accepted request is evaluated again, and starts or lapses; its record completes. -/
def modeTransitionStart (s : State) : State :=
  match s.sys.modeReqs with
  | [] => s
  | (seq, v) :: rest =>
    if running s ∧ !s.sys.mpHeld then
      let s0 := { s with sys := { s.sys with modeReqs := rest } }
      let s1 := if v = s.mode.code then s0 else if modeAdmitted (withoutRecord s0 seq) v then grantMode (noteGrant s0 seq) v else lapseMode s0 v
      settle (if rest.any (fun q => q.1 == seq) then s1 else specialDone s1 seq 7)
    else s

/-! ## Faults (R24, R25, R27, R41) -/

/-- A real-time pair fails: the spare takes over, and with both failed the module enters SAFE_HOLD (R25, R41). -/
def pairFailed (s : State) (p address : Nat) : State :=
  let s1 := raiseFault s (6 + p) address
  if s1.rdBit Od.sys_health (7 - p) then setTrip s1 tripENGINES
  else if s1.rd Od.sys_rt_active = p then prgTakeover (s1.wr Od.sys_rt_active (1 - p))
  else s1

/-- An application core fails: the work it left is completed by replay (R25, R102). -/
def coreFailed (s : State) (address : Nat) : State :=
  let s1 := raiseFault s bitAppCore address
  if serves s1 ∧ s1.sys.replayTo.isNone then { s1 with sys := { s1.sys with replayTo := some (s1.rd Od.txn_next_seq - 1) } } else s1

/-- A buffer bank fails: its frames, those of one uplink, are discarded (R25); which uplink's is not stated (log entry 39). -/
def bankFailed (s : State) (address : Nat) : State :=
  let s1 := raiseFault s bitFswBank address
  let u := s1.freeVal % 2
  putUp s1.tookFree u { upOf s1 u with queues := [[], [], [], [], [], [], [], []] }

/-- The escalation of R25 of a persistent mismatch; one in an engine instance starts the self-checks of both (R244), whose verdict decides. -/
def escalate (s : State) (initiator address : Nat) (cls : PageClass) : State :=
  match initiator with
  | 0 | 1 | 2 | 3 => coreFailed s address
  | 4 => pairFailed s 0 address
  | 5 => pairFailed s 1 address
  | 6 | 7 => { s with ctl := { s.ctl with checking := true } }
  | 8 => raiseFault s bitMetLane address
  | 9 => raiseFault s bitMotLane address
  | 10 => sequencerStop s
  | 11 => islandFault s
  | 12 => bankFailed s address
  | 14 => startRetire address cls s
  | _ => s

/-- PARITY_MISMATCH (R23 to R25): a word whose 33 bits hold an even number of ones, cured by one of the three replays, or persistent; a replay
that returns nothing returns a word of zeros. A restart of the management processor changes nothing that R36 does not resume. -/
def parityMismatch (initiator : Nat) (words : List Nat) (address : Nat) (cls : PageClass) (s : State) : State :=
  if fabricRuns s ∧ initiator < 15 ∧ !(parityOk (words.getD 0 0)) then
    if (slice words 1 3).any parityOk then s.count Od.sys_parity_replays initiator
    else
      let s1 := recordEvent (s.count Od.sys_parity_persist initiator) 0x0102 initiator 2 (pay [(8, address)])
      holdIfTripped (escalate s1 initiator address cls)
  else s

/-- What a passing retest does beside clearing the part (R198, R246, R325). -/
def retestPassed (s : State) (bit : Nat) : State :=
  let s1 := clearFault s bit
  if bit = bitEngineA ∨ bit = bitEngineB then engineRetested s1
  else if bit = bitSafetyCore then clearTrip s1 tripCORE
  else if bit = bitTurnover then turnoverRetested s1
  else if bit = bitMotLane then laneRetested s1
  else s1

/-- FAULT_RETEST_COMPLETE (R37, R42). -/
def faultRetestComplete (pass : Bool) (s : State) : State :=
  match s.sys.retest with
  | none => s
  | some bit =>
    if powered s then
      let s1 := { s with sys := { s.sys with retest := none } }
      if pass then (retestPassed s1 bit).wr Od.sys_fault_retest 2 else s1.wr Od.sys_fault_retest 3
    else s

/-! ## Power failure and HOLDUP (R52, R60, R61) -/

/-- Everything is shed (R29, R60, R163): metering first writes its partial cycles, outputs go off, the application cluster stops, and of
the fast clocks that of the fabric is left. -/
def shedLoads (s : State) (partials : List (Nat × LineCycle)) : State :=
  let metered := running s
  let s1 := if metered then meteringStops (partials.foldl (fun t p => partialCycle t p.1 p.2) s) else s
  let s2 := (fieldOff (lbsOff (prgHalt (liftOff (islandOff (motOff (anaOff (hartOff (podlOff s1))))))))).wr Od.sys_clk_run 1
  let sy := { s2.sys with appUp := false, standbyEntry := false, wakeDuringEntry := none, modeReqs := [], resetDue := none, retest := none, testing := none, testQueue := [] }
  { s2 with sys := sy, txn := { s2.txn with waiting := [], held := [] } }

/-- No store but the one in progress is made any more, and whether VMAIN is back is noted. -/
def lastStore (s : State) (back : Bool) : State :=
  { s with sys := { s.sys with vmainBack := back }, nvs := { s.nvs with queued := [] } }

/-- A store of a command or a STANDBY entry becomes the power-failure store (R61, R381). -/
def asPowerFail (s : State) : State :=
  match s.nvs.storing with
  | some (c, b) =>
    if c = 1 ∨ c = 3 then
      let b' : Bank := { b with cells := odPut 0 Od.nvs_last_cause 0 2 b.cells, mer := { b.mer with ended := true } }
      { s.wr Od.nvs_last_cause 2 with nvs := { s.nvs with storing := some (2, b') } }
    else s
  | none => s

/-- The power-failure sequence of R60. A store in progress becomes the power-failure store (R61), and none is made before a reservoir
has qualified (R51). -/
def powerFailure (s : State) (vmain : Nat) (partials : List (Nat × LineCycle)) (back : Bool) : State :=
  if s.mode = .standby ∨ s.mode = .holdup ∨ s.mode = .backup then s
  else
    let v := min vmain 65535
    let s1 := shedLoads (s.wr Od.sys_vmain v) partials
    let s2 := enterMode s1 .holdup causePOWER
    let s4 := lastStore (recordEvent s2 0x0005 0xFF 3 (pay [(2, v), (1, s.mode.code)])) back
    if s4.nvs.storing.isSome ∨ !s4.sys.qualified then asPowerFail s4 else beginStore (flushRecords s4) 2 (rtcTime s4)

/-- POWER_FAIL (R60). -/
def powerFail (vmain : Nat) (partials : List (Nat × LineCycle)) (s : State) : State :=
  if vmain < 17000 then powerFailure s vmain partials false else s

/-- INTERNAL_RAIL_FAULT (R52): handled as a power failure that a BOR follows. -/
def internalRailFault (vmain : Nat) (partials : List (Nat × LineCycle)) (s : State) : State :=
  if 17000 ≤ vmain then powerFailure s vmain partials true else s

/-- VMAIN_RETURN_IN_HOLDUP (R61). -/
def vmainReturnInHoldup (s : State) : State :=
  if s.mode = .holdup then { s with sys := { s.sys with vmainBack := true } } else s

/-- STANDBY_VMAIN_FAIL (R58): directly into BACKUP, without a store. -/
def standbyVmainFail (s : State) : State := if s.mode = .standby then enterMode s .backup causePOWER else s

/-! ## STANDBY (R56, R57, R126) -/

/-- STANDBY is reached: the uplinks with link renegotiate at 100 Mbit/s (R126), and everything else is switched off. Metering stops with
the contents the store leaves (R221). -/
def standbyReached (s : State) : State :=
  let linked := [0, 1].filter (fun u => s.rd Od.net_link_state u == 2)
  let s1 := enterMode ((fieldOff (lbsOff (islandOff (hartOff s)))).wr Od.sys_clk_run 0) .standby causeREQUEST
  let s2 := { s1 with
    sys := { s1.sys with appUp := false, standbyEntry := false, modeReqs := [], testing := none, testQueue := [] }
    txn := { s1.txn with waiting := [], held := [] }
    net := {}
    nrg := { s1.nrg with closed := [] } }
  linked.foldl (fun t u => negotiate t u [100] true) s2

/-- The entry store completes (R56): `none` where no STANDBY store is the one in progress. -/
def standbyStored (us : Nat) (s : State) : Option State :=
  match s.nvs.storing with
  | some (c, b) =>
    if entryOff s ∧ (c = 3 ∨ c = 4) ∧ !(s.nvs.queued.any (fun q => q.1 == 3)) then
      let t := s.rd Od.rtc_seconds
      let s1 := storePassed { s with mer := stopMetering s.mer t } { b with mer := stopMetering b.mer t } us
      some (standbyReached s1)
    else none
  | none => none

/-! ## What the engines' verdicts lead to (R245, R256, R267, R291) -/

/-- A motion tick: the channels, SAFE_HOLD where both lanes are lost, then the door forces. During a STANDBY entry motion is stopped (R56). -/
def motionTickAll (sense : List PhaseSense) (lanes : Option LaneCheck) (s : State) : State :=
  if running s && !(entryOff s) then
    let r := motionTick sense lanes s
    doorForceTick (if r.2 then enterSafeHold r.1 causeFAULT else r.1)
  else s

/-- The engines' self-check verdict, and the trip of R323 with both instances lost. -/
def selfCheckAll (a b agree : Bool) (s : State) : State :=
  let r := selfCheck a b agree s
  if r.2 then holdIfTripped (setTrip r.1 tripENGINES) else r.1

/-- A loop's sample, with the motion target that follows it (R227, R257); none during a STANDBY entry (R56). -/
def loopSampleAll (slot : Nat) (mismatch : Bool) (s : State) : State :=
  if entryOff s then s else motFromLoop (loopSample readElem slot mismatch s) slot

/-- A step pulse; none during a STANDBY entry (R56). -/
def stepPulseAll (c gapNs : Nat) (s : State) : State := if entryOff s then s else stepPulse c gapNs s

end Sys2Proof.Machine
end

