-- ==== Sys2Proof/Machine/Start.lean ====
section
/-!
DEFINITION. Starts: the start-up sequence, what each reset keeps, the end of BOOT, the reset kinds and the wake (R48, R50 to R53, R57, R94,
R102).
-/
namespace Sys2Proof.Machine

/-! ## What a start keeps (R12, R53) -/

/-- Whether a cell survives a start of kind k; the bank load of a POR or BOR comes after. -/
def keepCell (k : StartKind) (f : StartFacts) (c : Cell) : Bool :=
  match keptOf c.index c.elem with
  | .N => false
  | .W => k == .swr && !(f.wBad.contains c.index)
  | .F => !f.flashBad
  | .M | .B => true

/-- The starts that enter after the reservoirs are charged (R52). -/
def warm (k : StartKind) : Bool := k == .wdr || k == .swr || k == .act

/-- A reservoir at a start (R50, R52, R64). -/
def resStart (k : StartKind) (r : Reservoir) : Reservoir := if warm k && r.charged then { charged := true } else { charging := true }

/-- The mode machine at a start. -/
def sysStart (k : StartKind) (y : SysState) : SysState :=
  { start := k, res0 := resStart k y.res0, res1 := resStart k y.res1 }

/-- The trend cache is lost but at an SWR, and each point that lost a sample shows a gap (R43, R53). -/
def trendStart (k : StartKind) (t : TrendState) : TrendState :=
  if k = .swr then t else { t with cache := [], gaps := (t.gaps ++ t.cache.map (fun x => x.point)).eraseDups }

/-- The points of which a sample was due while the fast timebase stood still, from an instant to another (R43; log entry 199). -/
def trendMissed (s : State) (from_ upTo : Nat) : List Nat :=
  (s.od.filter (fun c => c.index == Od.sys_trend_period && c.value != 0 &&
    decide (from_ / (c.value * 1000000000) < upTo / (c.value * 1000000000)))).map (fun c => c.elem)

/-- The fast timebase starts again from the RTC where it had stopped; samples due meanwhile are missed (R32, R43). -/
def timebaseStart (k : StartKind) (s : State) : State :=
  if warm k then s
  else { s with now := rtcTime s, trend := { s.trend with gaps := (s.trend.gaps ++ trendMissed s s.now (rtcTime s)).eraseDups } }

/-- Stores at a start: one under way runs to its end in the sequencer, but for a POR and a BOR, which follow none. -/
def nvsStart (k : StartKind) (n : NvsState) : NvsState :=
  if k = .por ∨ k = .bor then { n with storing := none, inPlace := false, queued := [] }
  else { n with queued := n.queued.filter (fun q => q.1 != 3) }

/-- Everything volatile cleared, chapter by chapter (R53, R163, R268). The descriptor words of the local bus are 0 again (log entry 184). -/
def clearVolatile (k : StartKind) (f : StartFacts) (s : State) : State :=
  let s1 := { s with od := s.od.filter (keepCell k f), flashValid := s.flashValid && !f.flashBad, sys := sysStart k s.sys }
  let s2 := { s1 with txn := {}, nvs := nvsStart k s1.nvs, trend := trendStart k s1.trend, pts := {} }
  let s3 := { s2 with net := {}, fld := {}, lbs := {}, ana := {}, turn := {}, nrg := {}, dram := if k = StartKind.swr then s2.dram else {} }
  { s3 with ctl := {}, mot := {}, lft := {} }

/-! ## The SRAM before a reservoir qualifies (R51) -/

/-- What a start finds in the SRAM: as long as no reservoir has qualified since the start before, nothing has been written to it. -/
def sramFound (k : StartKind) (s : State) : State :=
  match s.sys.sram with
  | some b => if k = .por ∨ k = .bor then s else restoreBank s b
  | none => s

/-- What the SRAM holds is noted once the load of the start has passed. -/
def sramNoted (s : State) : State := { s with sys := { s.sys with sram := some (snapshot s (selNow s).gen) } }

/-! ## The Meringue row (R50, R364, R375, R384) -/

/-- The records another state's recorder took are taken here, in order. -/
def retake (s : State) (l : List Rec) : State := l.foldl (fun t r => recordEvent t r.code r.inst r.flags r.payload) s

/-- The bank load of a POR or BOR, the check of the backup domain and the recorder's numbering; the events of the row are numbered after it. -/
def meringueRow (k : StartKind) (f : StartFacts) (s : State) : State :=
  let s0 := { s with recd := { s.recd with buf := [], next := 1 } }
  let s1 := if k = .por ∨ k = .bor then ledgerLoaded (tornEvents (loadBank (selSpoiled s0 f.selBad) f.bad0 f.bad1 f.corr0 f.corr1) f.torn) else s0
  let s2 := checkDomain (sramNoted s1)
  let s3 := if k = .swr then f.wBad.foldl (fun t i => recordEvent t 0x0106 0xFF 1 (pay [(2, i)])) s2 else s2
  let s4 := recorderBoot { s3 with recd := s.recd } (k != .por)
  retake s4 ((if k = .por then s.recd.buf.reverse else []) ++ s3.recd.buf.reverse)

/-! ## Entries a start writes (R49, R53) -/

/-- `sys_last_mode` (R49): of a POR 0xB where the loaded store records the end of the last period, else 0xF; of a BOR 0xA; else the mode
before. A wake is no reset and leaves it. -/
def lastMode (k : StartKind) (before : Nat) (s : State) : Nat :=
  match k with
  | .por => if s.rd Od.nvs_lost = 0 ∧ s.mer.ended then 0xB else 0xF
  | .bor => 0xA
  | .wake => s.rd Od.sys_last_mode
  | _ => before

/-- The live transmit thresholds: set at a POR, kept by every other start (R53); the underruns count from the last POR (R113). -/
def thresholds (k : StartKind) (old s : State) : State :=
  [0, 1].foldl (fun t u =>
    if k = .por then (t.wr Od.net_tx_thresh (t.rd Od.net_tx_start u) u).wr Od.net_underruns 0 u
    else t.wr Od.net_tx_thresh (old.rd Od.net_tx_thresh u) u) s

/-- Cause, count, last mode, wake cause and clocks of a start. A timebase that stopped starts again from the RTC. -/
def startEntries (k : StartKind) (before : Nat) (wake : Option (Nat × Nat)) (s : State) : State :=
  let s1 := (s.wr Od.sys_reset_cause k.code).wr Od.sys_last_mode (lastMode k before s)
  let s2 := if k = .wake then s1 else s1.countSat Od.sys_reset_count k.code
  let s3 := match wake with
    | some (bits, hit) => (s2.wr Od.sys_wake_cause bits).wr Od.net_wake_hit hit
    | none => s2
  let s4 := s3.wr Od.sys_clk_run 1
  timebaseStart k { s4 with mer := { s4.mer with ended := false } }

/-! ## Self-tests (R50) -/

/-- The parts that fail their self-test: real-time pairs, engines, lanes, cores, banks, island, Turnover; a trip follows where R25 and R41
say so. -/
def selfTests (f : StartFacts) (s : State) : State :=
  let bad (b : Nat) : Bool := f.health.testBit b
  let s1 := [6, 7, bitMetLane, bitMotLane, bitAppCore, bitFswBank].foldl (fun t b => if bad b then raiseFault t b else t) s
  let s2 := if bad 6 && bad 7 then setTrip s1 tripENGINES else if bad 6 then s1.wr Od.sys_rt_active 1 else s1
  let s3 := if bad bitEngineA || bad bitEngineB then engineFailed s2 (bad bitEngineA) (bad bitEngineB) else s2
  let s4 := if s3.rd Od.ctl_instance = 4 then setTrip s3 tripENGINES else s3
  let s5 := if bad bitSafetyCore then islandFault s4 else s4
  if bad bitTurnover then sequencerStop s5 else s5

/-! ## The start-up sequence (R50) -/

/-- A start of kind k up to the end of its self-tests, in BOOT. A POR finds the volatile buffer empty (R53). -/
def startOnce (k : StartKind) (f : StartFacts) (wake : Option (Nat × Nat)) (s : State) : State :=
  let old := if k = .por then { s with recd := { s.recd with buf := [] } } else s
  let s0 := enterMode (if running s then meteringStops old else old) .boot causeRESET
  let s1 := meringueRow k f (clearVolatile k f (sramFound k s0))
  let s2 := thresholds k s (startEntries k s.mode.code wake s1)
  let s3 := updBoot (selectImage f (keysBoot s2))
  selfTests f (prgBoot (islandBoot s3))

/-- A start; a copy that fails forces a WDR (R403). -/
def startUp (k : StartKind) (f : StartFacts) (wake : Option (Nat × Nat)) (s : State) : State :=
  let t := startOnce k f wake s
  if t.sys.resetDue = some .wdr then startOnce .wdr f none t else t

/-! ## The end of BOOT (R48, R50, R94) -/

/-- Whether a closure entry already records an accepted commit's closure (R94). -/
def closureStands (s : State) (d : TxnDesc) : Bool :=
  (List.range 32).any (fun k =>
    let e := s.rd Od.txn_closure k
    byteAt 16 e 0 == d.handle && byteAt 16 e 1 == 1 && bytesAt 16 e 12 4 == d.commitSeq % 2 ^ 32)

/-- A descriptor held over a start is freed, and becomes a closure entry unless one records its closure. -/
def freeDesc (s : State) (d : TxnDesc) : State :=
  let done := d.commitSeq != 0 && decide (d.commitSeq < s.rd Od.txn_next_seq)
  if closureStands s d then { s with mer := { s.mer with descs := s.mer.descs.filter (fun x => x.handle != d.handle) } }
  else if done then closeTxn s d.handle 1 0 d.commitReq d.commitSeq
  else closeTxn s d.handle 6 0 0 0

/-- Every transaction is rolled back (R53, R94). -/
def rollBackAll (s : State) : State := s.mer.descs.foldl freeDesc { s with txn := { s.txn with opens := [], versions := [] } }

/-- What steps 2 to 6 of R48 select. -/
def bootSelection (s : State) : Mode :=
  if !s.flashValid then .commission
  else if s.sys.start = .act then .probation
  else if s.upd.fellBack then .recovery
  else if degraded s then .runDegraded
  else .run

/-- Step 1 of R48. -/
def bootHolds (s : State) : Bool := s.rd Od.saf_trip_cause != 0 || s.sys.tripInBoot || moduleLatch s

/-- BOOT waits: both reservoirs failed to charge (R51), no image to start (R403), or the management processor is held in reset (R36). -/
def bootWaits (s : State) : Bool := (s.sys.res0.chargeFailed && s.sys.res1.chargeFailed) || s.upd.noImage || s.sys.mpHeld || s.sys.resetDue.isSome

/-- The mode at the end of BOOT is entered. -/
def bootExit (s : State) : State :=
  let sel := bootSelection s
  let m := if bootHolds s then Mode.safeHold else sel
  enterMode { s with sys := { s.sys with selected := sel, heldFrom := .boot, degradedFrom := .run, tripInBoot := false } } m causeBOOT

/-- What starts when BOOT ends: PTP, field ports, converter banks, channels, loops, motion, island, programs, metering, points, probation. -/
def startParts (s : State) : State :=
  let s1 := anaStart (ctlStart (turnoverStart (fieldStart (ptpRestart s))))
  let s2 := prgStart (islandStart (motStart s1))
  let s3 := ptStart (meteringResumes s2)
  if s3.sys.start = .act then startProbation s3 else s3

/-- The object service begins to serve, and the replay of R102 is to run. -/
def serviceStarts (s : State) : State :=
  { s.wrBit Od.sys_clk_run 1 true with sys := { s.sys with appUp := true, replayTo := some (s.rd Od.txn_next_seq - 1) } }

/-- The START record (R394). -/
def startRecord (s : State) : State :=
  recordEvent s 0x0006 (s.rd Od.sys_reset_cause) 0 (pay [(1, s.rd Od.sys_last_mode), (4, s.rd Od.sys_boot_ms)])

/-- BOOT_END (R48, R50). -/
def bootEnd (ms : Nat) (s : State) : State :=
  if s.mode = .boot ∧ !(bootWaits s) then
    let s1 := bootExit (uplinksBoot ((rollBackAll s).wr Od.sys_boot_ms (min ms (2 ^ 32 - 1))))
    let s2 := startParts (bspResume (serviceStarts s1))
    let s3 := startRecord (anchor (trendEntries s2) 5)
    if s3.mode = .safeHold then lftSafeHold (motSafeHold (ctlSafeHold s3)) else s3
  else s

/-! ## Reset kinds (R44, R52, R402) -/

/-- The modes a reset other than MPR, POR and BOR leaves (R44). -/
def resettable (s : State) : Bool := s.mode != .holdup && s.mode != .backup

/-- POWER_ON_RESET (R50): VMAIN rises from absent. -/
def powerOnReset (f : StartFacts) (s : State) : State := if s.mode = .holdup then s else startUp .por f none s

/-- WATCHDOG_RESET (R52). -/
def watchdogReset (f : StartFacts) (s : State) : State := if resettable s then startUp .wdr f none s else s

/-- SOFTWARE_RESET (R52): the write, if no reset of this kind waits, and the reset it is accepted for. -/
def softwareReset (w : Who) (f : StartFacts) (s : State) : State :=
  let t := if s.sys.resetDue = some .swr then s else writeEntry w Od.sys_reset 0 1 s
  if t.sys.resetDue = some .swr then startUp .swr f none t else t

/-- ACT_RESET (R402): the reset of an applied activation. -/
def actReset (f : StartFacts) (s : State) : State :=
  if powered s ∧ s.sys.resetDue = some .act then startUp .act f none s else s

/-- The dictionary elements an MPR returns to default: those of class N of the object service, the transactions and the reader contexts. -/
def appSide (c : Cell) : Bool :=
  keptOf c.index c.elem == .N &&
    ((decide (0x1080 ≤ c.index) && decide (c.index ≤ 0x108F)) || (decide (0x1300 ≤ c.index) && decide (c.index ≤ 0x14FF)) || (decide (0x1710 ≤ c.index) && decide (c.index ≤ 0x1713)))

/-- An MPR (R52, R53): the application cluster restarts; transactions are rolled back and subscriptions lost. An activation waiting for its
reset returns to state 3 (R402); an accepted SWR still begins. -/
def mpReset (s : State) : State :=
  let s1 := rollBackAll (loadRestart { s with od := s.od.filter (fun c => !(appSide c)) })
  let s2 := ((s1.wr Od.sys_reset_cause 4).countSat Od.sys_reset_count 4).wr Od.sys_last_mode s.mode.code
  let s3 := if s.sys.resetDue = some .act ∧ s2.rd Od.upd_state = 5 then s2.wr Od.upd_state 3 else s2
  let s4 := { s3.wrBit Od.sys_clk_run 1 false with
    sys := { s3.sys with appUp := false, resetDue := if s.sys.resetDue = some StartKind.swr then some StartKind.swr else none }
    txn := { s3.txn with waiting := [], held := [] } }
  startRecord { s4 with pts := { s4.pts with covs := [] }, recd := { s4.recd with owned := [] } }

/-- MPR_COMMAND (R52). -/
def mprCommand (w : Who) (s : State) : State :=
  let t := if s.sys.resetDue = some .mpr then s else writeEntry w Od.sys_reset 0 2 s
  if t.sys.resetDue = some .mpr ∧ t.sys.appUp then mpReset t else t

/-- APP_WATCHDOG_EXPIRY (R52): the watchdog runs only while the object service serves. -/
def appWatchdogExpiry (s : State) : State := if serves s then mpReset s else s

/-- MPR_COMPLETE (R52, R163): the object service answers again, replay runs, and the bulk stream goes on. -/
def mprComplete (s : State) : State := if running s ∧ !s.sys.appUp then bspResume (serviceStarts s) else s

/-! ## HOLDUP's end, stores and wakes (R57, R60, R61, R372) -/

/-- HOLDUP_STORE_COMPLETE (R60, R61): BACKUP, or a BOR where VMAIN is back. Without a store (R51) the power failure ends the same way. -/
def holdupStoreComplete (bad : Bool) (us : Nat) (f : StartFacts) (s : State) : State :=
  if s.mode = .holdup then
    let t := storeComplete bad us s
    if t.nvs.storing.isSome then t
    else if t.sys.vmainBack then startUp .bor f none t
    else enterMode (t.wr Od.sys_clk_run 0) .backup causePOWER
  else s

/-- A wake: at once in STANDBY, or as soon as an entry under way completes (R57). -/
def wakeUp (bits hit : Nat) (f : StartFacts) (s : State) : State :=
  if s.mode = .standby then startUp .wake f (some (bits, hit)) s
  else if s.sys.standbyEntry ∧ s.sys.wakeDuringEntry.isNone then { s with sys := { s.sys with wakeDuringEntry := some (bits, hit, f) } }
  else s

/-- A STANDBY entry completed: a wake that came during it begins. -/
def thenWake (x : Option (Nat × Nat × StartFacts)) (s : State) : State :=
  match x with
  | some (bits, hit, f) => startUp .wake f (some (bits, hit)) s
  | none => s

/-- STANDBY_ENTRY_COMPLETE (R56). -/
def standbyEntryComplete (us : Nat) (s : State) : State :=
  match standbyStored us s with
  | some t => thenWake s.sys.wakeDuringEntry t
  | none => s

/-- STORE_COMPLETE (R372): the SRAM is released, and requests held by the freeze are taken up. The store of a STANDBY entry ends it. -/
def storeReleased (bad : Bool) (us : Nat) (s : State) : State :=
  if powered s then
    match (if bad then none else standbyStored us s) with
    | some t => thenWake s.sys.wakeDuringEntry t
    | none =>
      let t := storeComplete bad us s
      if t.nvs.storing.isSome then t else settle (serveAllHeld t)
  else s

/-- WAKE_PIN (R49). -/
def wakePin (f : StartFacts) (s : State) : State := if s.rdBit Od.sys_wake_src 2 then wakeUp 4 0xFFFF f s else s

/-- WAKE_TIMED (R49): compared at 1 s resolution. -/
def wakeTimed (f : StartFacts) (s : State) : State :=
  let t := s.rd Od.sys_wake_time
  if s.rdBit Od.sys_wake_src 3 ∧ t ≠ 0 ∧ t / 1000000000 ≤ rtcTime s / 1000000000 then wakeUp 8 0xFFFF f s else s

/-- WAKE_PATTERN_MATCH (R123, R124, R126): compared only in STANDBY, on a link that is up; a frame with a wrong FCS never matches. -/
def wakePatternMatch (u : Nat) (frame : List Nat) (fcsOk : Bool) (f : StartFacts) (s : State) : State :=
  if fcsOk ∧ u < 2 ∧ s.mode = .standby ∧ s.rdBit Od.sys_wake_src u ∧ (upOf s u).standbyLink then
    match wakeHit s u frame with
    | some p => startUp .wake f (some (2 ^ u, u * 256 + p)) s
    | none => s
  else s

end Sys2Proof.Machine
end

