-- ==== Sys2Proof/Machine/Tick.lean ====
section
/-!
DEFINITION. The commit tick and the point scan (R32, R81, R82, R88, R102, R324, R335, R359).
-/
namespace Sys2Proof.Machine

/-- The fast timebase at its next commit tick, a whole multiple of 31.25 µs (R88); an offset is slewed by at most 3 ns of the tick (R32). -/
def tickTime (s : State) : State :=
  { s with now := (s.now / 31250 + 1) * 31250 % 2 ^ 64, net := { s.net with slew := s.net.slew - clampInt (-3) 3 s.net.slew } }

/-- A program output whose value lies outside what its target admits (R337). -/
def outputBad (s : State) (w : ElemW) : Bool :=
  match entryDef? w.index with
  | some d => !(rngOk d.ty d.rng w.value) || (extraOf s ⟨0, 0, 0, true, false, none⟩ w.index w.elem w.value).range
  | none => true

/-- A program output written (R335). It takes no part in acceptance or versions. -/
def outputPut (s : State) (w : ElemW) : State := committed s (applyElem s 0 0 s.crystal w.index w.elem w.value) [(w.index, w.elem)]

/-- The work of a tick: replay first (R103), then what was accepted before the tick and what begins after it (R88), then the exit it asked for, the
outputs of programs and the transfers of points. A store that freezes the SRAM holds back the replay, which writes to it, and the completion
of records (`settle`), and nothing else (R372). -/
def tickWork (s : State) : State :=
  let s1 := match s.sys.replayTo with
    | some n => if s.sys.appUp && s.sys.qualified && !s.sys.mpHeld && s.nvs.storing.isNone then replay s n else s
    | none => s
  let s2 := if s1.sys.replayTo.isNone then beginDue ((dueRecords s1).foldl tickRecord s1) else s1
  let s3 := if s2.saf.exitDue then leaveSafeHold s2 else s2
  ptTransfers (prgFollow (applyOutputs outputBad outputPut s3))

/-- The requests held until the tick are taken up where the object service serves, unless a store freezes the SRAM. -/
def heldAfterTick (s : State) : State := if serves s && s.nvs.storing.isNone then serveAllHeld s else s

/-- COMMIT_TICK (R88). Commits held for this tick are evaluated after it (R93), and so is what a store held, once it has ended (R372). -/
def commitTick (s : State) : State :=
  if powered s then
    let s0 := tickTime s
    let s1 := if running s0 then heldAfterTick (settle (tickWork (turnoverTick s0))) else s0
    holdIfTripped (settle (probationTick s (timebaseSecond s.now (fieldTick s1))))
  else s

/-! ## Point scan (R81, R82) -/

/-- Whether a value differs enough from the one notified last: by the COV increment for analog kinds, at all otherwise. -/
def covMoved (s : State) (n old new : Nat) : Bool :=
  new != old && (!(kindAnalog (ptKind s n)) || !(finite32 old) || !(finite32 new) ||
    (s.rdQ Od.od_pt_cov_inc n).le ((f32q new).sub (f32q old)).abs)

/-- The BACnet object type of a point kind (R83). -/
def bacType (kind : Nat) : Nat := ([0, 0, 1, 2, 3, 4, 5, 13, 14, 19] : List Nat).getD kind 0

/-- The point of a BACnet object (R83). -/
def bacPoint (s : State) (objType inst : Nat) : Option Nat :=
  (usedPoints s).find? (fun n => decide (1 ≤ ptKind s n) && decide (ptKind s n ≤ 9) && bacType (ptKind s n) == objType && s.rd Od.od_pt_inst n == inst)

/-- A COV notification to a subscriber (R82), of 36 bytes with an analog value (log entry 36). -/
def covNotify (s : State) (c : CovSub) : State :=
  bacSend s c.dest 36 (.bacCov c.port c.client c.process c.objType c.inst c.confirmed c.value c.flags)

/-- One subscription at a scan: a notification when the value or the flags of its object have changed. -/
def covScan (s : State) (c : CovSub) : State :=
  match bacPoint s c.objType c.inst with
  | none => s
  | some n =>
    let v := s.rd (ptIndex n) 0
    let fl := ptFlags s n
    if covMoved s n c.value v ∨ fl ≠ c.flags then
      let upd (x : CovSub) : CovSub := if x = c then { x with value := v, flags := fl } else x
      covNotify { s with pts := { s.pts with covs := s.pts.covs.map upd } } { c with value := v, flags := fl }
    else s

/-- POINT_SCAN (R81): inputs refreshed, refused transfers attempted again, changes notified. -/
def pointScan (s : State) : State :=
  if running s then
    let s1 := (usedPoints s).foldl (fun t n => if kindInput (ptKind t n) then ptRefresh t n else t) s
    let s2 := s1.pts.failed.foldl ptTransfer s1
    if s2.sys.appUp ∧ s2.rd Od.od_bacnet_dev ≠ 4194303 then s2.pts.covs.foldl covScan s2 else s2
  else s

end Sys2Proof.Machine
end

