-- ==== Sys2Proof/Machine/Cop.lean ====
section
/-!
DEFINITION. COP datagrams as they arrive (R68, R69, R73).
-/
namespace Sys2Proof.Machine

/-- A field of a datagram. -/
def dgField (b : List Nat) (o n : Nat) : Nat := ofBytes (slice b o n)

/-- The items of a payload, which must fill it exactly (R68). -/
def parseItems : Nat → List Nat → Option (List WItem)
  | 0, b => if b = [] then some [] else none
  | n + 1, b =>
    let len := dgField b 8 2
    if b.length < 12 + pad4 len then none
    else (parseItems n (b.drop (12 + pad4 len))).map (fun its =>
      ⟨dgField b 0 2, dgField b 2 2, dgField b 4 2, dgField b 6 1, slice b 12 len⟩ :: its)

/-- The request a datagram carries; `none` where step 1 of R69 discards it. -/
structure CopFrame where
  version : Nat
  flags : Nat
  op : Nat
  client : Nat
  reqid : Nat
  handle : Nat
  items : List WItem
  deriving DecidableEq, Repr

/-- Step 1 of R69. -/
def parseCop (b : List Nat) : Option CopFrame :=
  if b.length < 28 ∨ dgField b 0 2 ≠ 0xCE15 ∨ dgField b 26 2 + 28 ≠ b.length ∨ (dgField b 3 1).testBit 0 then none
  else (parseItems (dgField b 6 2) (b.drop 28)).map (fun its =>
    ⟨dgField b 2 1, dgField b 3 1, dgField b 4 1, dgField b 8 4, dgField b 12 4, dgField b 24 2, its⟩)

/-- COP_DATAGRAM_RX (R68, R69): steps 1 to 4, then the request. A datagram longer than 1,452 bytes is dropped uncounted (log entry 154). -/
def copDatagramRx (rx : RxInfo) (bytes : List Nat) (s : State) : State :=
  if !(serves s) || rx.discard || decide (1452 < bytes.length) then s
  else match parseCop bytes with
    | none => s.count Od.od_malformed
    | some f =>
      match classify s rx with
      | none => s.count Od.od_unbound_drops rx.kind
      | some n =>
        let s1 := s.count Od.od_port_hits n
        let w : Who := ⟨n, f.client, f.reqid, rx.toSource⟩
        if f.version ≠ 1 then respond s1 f.op w Status.outOfRange.code f.handle 0 []
        else if rx.queueFull then respond (s1.count Od.od_queue_full) f.op w Status.busyRetry.code f.handle 0 []
        else serve s1 f.op w f.handle f.items (decide (4 ≤ f.flags))

end Sys2Proof.Machine
end

