-- ==== Sys2Proof/Machine/Bacnet.lean ====
section
/-!
DEFINITION. BACnet (R82 to R85). Property and object-type numbers are those of ASHRAE 135 (log entry 36).
-/
namespace Sys2Proof.Machine

def bacPRESENT_VALUE : Nat := 85
def bacRELINQUISH_DEFAULT : Nat := 104
def bacOBJECT_NAME : Nat := 77
def bacDEVICE : Nat := 8

/-- BACnet is on, and the object service answers (R65, R82). -/
def bacOn (s : State) : Bool := serves s && s.rd Od.od_bacnet_dev != 4194303

/-- The logical port that serves a request: none where BACnet is off or no port matches (R65, R73). -/
def bacPort (rx : RxInfo) (s : State) : Option Nat :=
  if bacOn s ∧ 1 ≤ rx.kind ∧ rx.kind ≤ 4 then classify s rx else none

/-- A request counted for its logical port, or discarded and counted where none matches (R65, R74); an MS/TP frame has been counted as it
arrived (MSTP_FRAME_RX). -/
def bacCounted (rx : RxInfo) (s : State) : State :=
  if bacOn s ∧ 1 ≤ rx.kind ∧ rx.kind < 4 then countClassified s rx else s

/-! ## The size of an answer (R85): the encoding of ASHRAE 135 (log entry 36) -/

/-- Bytes of an unsigned number with its tag. -/
def bacUnsigned (v : Nat) : Nat := 1 + (if v < 2 ^ 8 then 1 else if v < 2 ^ 16 then 2 else if v < 2 ^ 24 then 3 else 4)

/-- Bytes of a character string with its tag, length and character set. -/
def bacString (n : Nat) : Nat := n + 1 + (if n < 4 then 1 else 2)

/-- Bytes of a present value of a point kind with its tag. -/
def bacPvSize (k v : Nat) : Nat := if kindAnalog k then 5 else bacUnsigned v

/-- Bytes of a property value: identifiers and reals 5, bit strings 3, Booleans 1, and the sum of its elements for an array. -/
def bacValSize (k prop : Nat) : BacVal → Nat
  | .text bs => bacString bs.length
  | .prios l => l.foldl (fun a x => a + (match x with
    | some v => bacPvSize k v
    | none => 1)) 0
  | .error _ => 4
  | .num v =>
    if prop = 75 ∨ prop = 22 then 5
    else if prop = 111 then 3
    else if prop = 81 then 1
    else if prop = 85 ∨ prop = 104 then bacPvSize k v
    else bacUnsigned v

/-- The Complex-ACK of a ReadProperty, or, with several properties, of a ReadPropertyMultiple: header, object and property identifiers, values
between tags. -/
def bacAnswerSize : List (Nat × Nat) → List BacVal → Nat
  | [(k, prop)], [v] => 12 + bacValSize k prop v
  | ps, vs => 3 + ((ps.zip vs).map (fun x => 11 + bacValSize x.1.1 x.1.2 x.2)).foldl (· + ·) 0

/-- The largest APDU on a data link (R85). -/
def bacMaxApdu (kind : Nat) : Nat := if kind = 4 then 480 else 1476

/-- The longest APDU answered to a request: one that R85 admits in an IP datagram of at most 1,500 bytes (R106), with its NPDU, BVLC, UDP and IP headers
(log entry 173). -/
def bacRoom (rx : RxInfo) : Nat :=
  min (bacMaxApdu rx.kind) (if rx.kind = 4 then 480 else 1500 - 6 - 8 - (if rx.src / 2 ^ 32 = 0xFFFF then 20 else 40))

/-- The decimal digits of a number as ASCII. -/
def decimal (n : Nat) : List Nat :=
  if n < 10 then [48 + n]
  else if n < 100 then [48 + n / 10, 48 + n % 10]
  else if n < 1000 then [48 + n / 100, 48 + n / 10 % 10, 48 + n % 10]
  else [48 + n / 1000 % 10, 48 + n / 100 % 10, 48 + n / 10 % 10, 48 + n % 10]

/-- A point's Object_Name: an empty name presents as "P" and the number (R80). -/
def bacName (s : State) (n : Nat) : List Nat :=
  let b := (beBytes 32 (s.rd Od.od_pt_name n)).takeWhile (· != 0)
  if b = [] then 80 :: decimal n else b

/-- A point value as the object carries it (R83): F32 for analog kinds, INACTIVE or ACTIVE, a multi-state number. -/
def bacPv (k v : Nat) : Nat := if kindAnalog k then v else if kindBinary k then b2n ((f32q v).num != 0) else ((f32q v).floor).toNat

/-- Status_Flags, from its first bit: IN_ALARM, FAULT, OVERRIDDEN, OUT_OF_SERVICE (R83). -/
def bacFlags (s : State) (n : Nat) : Nat :=
  let f := ptFlags s n
  2 * b2n (f.testBit 1) + 4 * b2n (f.testBit 0)

/-- A property of a point object (R83), if it has it. -/
def bacProp (s : State) (n objType inst prop : Nat) : Option BacVal :=
  let k := ptKind s n
  let driven := kindDriven k
  match prop with
  | 75 => some (.num (objType * 4194304 + inst))
  | 77 => some (.text (bacName s n))
  | 79 => some (.num objType)
  | 85 => some (.num (bacPv k (s.rd (ptIndex n) 0)))
  | 111 => some (.num (bacFlags s n))
  | 36 => some (.num 0)
  | 81 => some (.num 0)
  | 117 => if kindAnalog k then some (.num (s.rd Od.od_pt_units n)) else none
  | 22 => if kindAnalog k then some (.num (s.rd Od.od_pt_cov_inc n)) else none
  | 87 =>
    let prio (j : Nat) : Option Nat :=
      let v := s.rd (ptIndex n) (j + 1)
      if isNaN32 v then none else some (bacPv k v)
    if driven then some (.prios ((List.range 16).map prio)) else none
  | 104 => if driven then some (.num (bacPv k (s.rd (ptIndex n) 17))) else none
  | _ => none

/-- One property read (R82 to R84). The Device object's properties beside its identifier and type are not stated: a free value. -/
def bacRead (s : State) (port objType inst prop : Nat) : State × BacVal :=
  if objType = bacDEVICE ∧ inst = s.rd Od.od_bacnet_dev then
    if prop = 75 then (s, .num (bacDEVICE * 4194304 + inst))
    else if prop = 77 then (s, .text (Config.deviceName.take 32))
    else if prop = 79 then (s, .num bacDEVICE)
    else (s.tookFree, .num s.freeVal)
  else match bacPoint s objType inst with
    | none => (s, .error .unknownObject)
    | some n =>
      if !(mayReadTenant s (tenantOf s port) (ptIndex n)) then (s, .error .readAccessDenied)
      else match bacProp s n objType inst prop with
        | some v => (s, v)
        | none => (s, .error .unknownProperty)

/-- The properties of a request, in order. -/
def bacReadAll (port : Nat) : List (Nat × Nat × Nat) → State → State × List BacVal
  | [], s => (s, [])
  | p :: ps, s =>
    let r := bacRead s port p.1 p.2.1 p.2.2
    let rest := bacReadAll port ps r.1
    (rest.1, r.2 :: rest.2)

/-- The kind of the point an object names, 0 for none. -/
def bacKind (s : State) (objType inst : Nat) : Nat :=
  match bacPoint s objType inst with
  | some n => ptKind s n
  | none => 0

/-- BACNET_READ_PROPERTY (R82, R83, R85): an answer longer than the largest APDU would need segmentation, and is an Abort. -/
def bacnetReadProperty (rx : RxInfo) (props : List (Nat × Nat × Nat)) (s : State) : State :=
  let s1 := bacCounted rx s
  match bacPort rx s with
  | none => s1
  | some port =>
    let r := bacReadAll port props s1
    let n := bacAnswerSize (props.map (fun p => (bacKind s1 p.1 p.2.1, p.2.2))) r.2
    if bacRoom rx < n then bacSend r.1 rx.toSource 3 (.bacAbort port) else bacSend r.1 rx.toSource n (.bacValues port r.2)

/-- A written value as the F32 word of a point element; `none` where the datatype cannot be one. NULL is NaN. -/
def bacWord (k : Nat) (v : Option Nat) : Nat :=
  match v with
  | none => f32NaN
  | some x => if kindAnalog k then x % 2 ^ 32 else qf32 (Frac.ofInt x)

/-- An item whose datatype does not fit the property carries no type of the module, so that it fails at the step of TYPE_MISMATCH (R84). -/
def bacTyped (ok : Bool) (it : WItem) : WItem := if ok then it else { it with ty := 0 }

/-- The item a property write makes (R82 to R84), or the error it fails with. A priority that BACnet lacks fails at the step of
OUT_OF_RANGE. -/
def bacTarget (s : State) (port n : Nat) (r : BacWrite) : Except BacErr WItem :=
  if r.prop = bacPRESENT_VALUE then
    let p := r.priority.getD 16
    let it (e : Nat) : WItem := bacTyped r.typeOk (entryItem (ptIndex n) e (bacWord (ptKind s n) r.value))
    if 1 ≤ p ∧ p ≤ 16 then .ok (it p)
    else
      let st := checkItem s ⟨port, 0, 0, false, true, none⟩ (it 16)
      .error (if rank st < 7 then bacErrOf st.code else .valueOutOfRange)
  else if r.prop = bacRELINQUISH_DEFAULT ∧ kindDriven (ptKind s n) then
    .ok (bacTyped r.typeOk (entryItem (ptIndex n) 17 (bacWord (ptKind s n) r.value)))
  else if r.prop = bacOBJECT_NAME then
    .ok (bacTyped (r.typeOk && r.value.isSome) (entryItem Od.od_pt_name n (r.value.getD 0 % 2 ^ 256)))
  else match bacProp s n r.objType r.inst r.prop with
    | some _ => .error .writeAccessDenied
    | none => .error .unknownProperty

/-- The item of one property of a write, or its error. -/
def bacWriteItem (s : State) (port : Nat) (r : BacWrite) : Except BacErr WItem :=
  if r.objType = bacDEVICE ∧ r.inst = s.rd Od.od_bacnet_dev then .error .writeAccessDenied
  else match bacPoint s r.objType r.inst with
    | none => .error .unknownObject
    | some n => bacTarget s port n r

/-- The items of a write's properties in order, or the first error. -/
def bacWriteItems (s : State) (port : Nat) : List BacWrite → Except BacErr (List WItem)
  | [] => .ok []
  | r :: rs =>
    match bacWriteItem s port r with
    | .error e => .error e
    | .ok it =>
      match bacWriteItems s port rs with
      | .error e => .error e
      | .ok its => .ok (it :: its)

/-- BACNET_WRITE_PROPERTY (R82 to R85): a write that passes is accepted work without a request ID. A WritePropertyMultiple is one WRITE, applied
whole or not at all (log entry 36). -/
def bacnetWriteProperty (rx : RxInfo) (rs : List BacWrite) (s : State) : State :=
  let s1 := bacCounted rx s
  match bacPort rx s with
  | none => s1
  | some port =>
    match bacWriteItems s1 port rs with
    | .error e => bacSend s1 rx.toSource 7 (.bacError port e)
    | .ok its => writeRequest s1 opBACNET ⟨port, 0, 0, rx.toSource⟩ 0 its

/-- The subscriptions of one client, process and object. -/
def sameSub (client process objType inst : Nat) (c : CovSub) : Bool :=
  c.client == client && c.process == process && c.objType == objType && c.inst == inst

/-- A subscription of a point is made or renewed, and its object's value notified at once (R82, log entry 36). -/
def covSubscribe (s : State) (o : Source) (port client process objType inst n : Nat) (confirmed : Bool) (lifetime : Nat) : State :=
  let rest := s.pts.covs.filter (fun c => !(sameSub client process objType inst c))
  if !(mayReadTenant s (tenantOf s port) (ptIndex n)) then bacSend s o 7 (.bacError port .readAccessDenied)
  else if 86400 < lifetime then bacSend s o 7 (.bacError port .valueOutOfRange)
  else if 512 ≤ rest.length then bacSend s o 7 (.bacError port .noSpace)
  else
    let c : CovSub := ⟨port, client, o, process, objType, inst, confirmed, lifetime, s.rd (ptIndex n) 0, ptFlags s n⟩
    covNotify (bacSend { s with pts := { s.pts with covs := rest ++ [c] } } o 3 (.bacAck port 0)) c

/-- BACNET_SUBSCRIBE_COV (R82): a subscription, or with no terms its cancellation, which succeeds whether or not there was one (log entry 36). -/
def bacnetSubscribeCov (rx : RxInfo) (client process objType inst : Nat) (terms : Option (Bool × Nat)) (s : State) : State :=
  let s1 := bacCounted rx s
  match bacPort rx s with
  | none => s1
  | some port =>
    match bacPoint s1 objType inst, terms with
    | none, _ => bacSend s1 rx.toSource 7 (.bacError port .unknownObject)
    | some _, none =>
      let rest := s1.pts.covs.filter (fun c => !(sameSub client process objType inst c))
      bacSend { s1 with pts := { s1.pts with covs := rest } } rx.toSource 3 (.bacAck port 0)
    | some n, some t => covSubscribe s1 rx.toSource port client process objType inst n t.1 t.2

/-- BACNET_COV_EXPIRY (R82); a lifetime of 0 never ends. -/
def bacnetCovExpiry (client process objType inst : Nat) (s : State) : State :=
  { s with pts := { s.pts with covs := s.pts.covs.filter (fun c => !(sameSub client process objType inst c && c.lifetime != 0)) } }

/-- BACNET_WHO_IS (R82). -/
def bacnetWhoIs (rx : RxInfo) (lo hi : Nat) (s : State) : State :=
  let dev := s.rd Od.od_bacnet_dev
  let s1 := bacCounted rx s
  match bacPort rx s with
  | none => s1
  | some port =>
    let m := bacMaxApdu rx.kind
    if lo ≤ dev ∧ dev ≤ hi then bacSend s1 rx.toSource (11 + bacUnsigned m) (.bacIAm port dev m) else s1

/-- I-Have (R82): device, object and name. -/
def bacIHaveSend (s : State) (o : Source) (port objType inst : Nat) (name : List Nat) : State :=
  bacSend s o (12 + bacString name.length) (.bacIHave port (s.rd Od.od_bacnet_dev) objType inst name)

/-- The objects that Who-Has asks for: type, instance, name and point; the Device object is no point (R83). -/
def bacHeld (s : State) (what : BacHas) : Option (Nat × Nat × List Nat × Option Nat) :=
  let dev := s.rd Od.od_bacnet_dev
  let device := (bacDEVICE, dev, Config.deviceName.take 32, (none : Option Nat))
  let point (n : Nat) : Nat × Nat × List Nat × Option Nat := (bacType (ptKind s n), s.rd Od.od_pt_inst n, bacName s n, some n)
  match what with
  | .object t i => if t = bacDEVICE ∧ i = dev then some device else (bacPoint s t i).map point
  | .named b =>
    if b = Config.deviceName.take 32 then some device
    else ((usedPoints s).find? (fun n => decide (1 ≤ ptKind s n) && decide (ptKind s n ≤ 9) && bacName s n == b)).map point

/-- Whether the device's instance is among those a request asks (R82). -/
def bacAsked (s : State) (range : Option (Nat × Nat)) : Bool :=
  match range with
  | none => true
  | some (lo, hi) => decide (lo ≤ s.rd Od.od_bacnet_dev) && decide (s.rd Od.od_bacnet_dev ≤ hi)

/-- BACNET_WHO_HAS (R82): answered where the device is asked and the port's tenant may read the point. -/
def bacnetWhoHas (rx : RxInfo) (range : Option (Nat × Nat)) (what : BacHas) (s : State) : State :=
  let s1 := bacCounted rx s
  match bacPort rx s with
  | none => s1
  | some port =>
    match (if bacAsked s1 range then bacHeld s1 what else none) with
    | none => s1
    | some (t, i, name, p) =>
      let may : Bool := match p with
        | some n => mayReadTenant s1 (tenantOf s1 port) (ptIndex n)
        | none => true
      if may then bacIHaveSend s1 rx.toSource port t i name else s1

/-- BACNET_UNSUPPORTED_SERVICE (R82): a confirmed service is rejected, an unconfirmed one ignored. -/
def bacnetUnsupportedService (rx : RxInfo) (confirmed : Bool) (invoke : Nat) (s : State) : State :=
  let s1 := bacCounted rx s
  match bacPort rx s with
  | none => s1
  | some port => if confirmed then bacSend s1 rx.toSource 3 (.bacReject port invoke) else s1

/-- BACNET_FD_REGISTRATION (R82): with a time-to-live of 300 s, a BVLC message of 6 bytes in the BACnet class (R109). -/
def bacnetFdRegistration (s : State) : State :=
  let bbmd := s.rd Od.od_bacnet_bbmd
  if bacOn s ∧ bbmd ≠ 0 then hostDatagram s (s.rd Od.net_q_own 1) 6 bbmd (.bacRegister bbmd 300) else s

end Sys2Proof.Machine
end

