-- ==== Sys2Proof/Machine/AnalogueCommands.lean ====
section
/-!
DEFINITION. Meanings of the commands of one group. Analogue channels and the turnover (R170 to R201): each is one definition over the operations of its chapter.
-/
namespace Sys2Proof.Machine

/-- ANALOGUE_SAMPLE (R171). -/
def execAnalogueSample (c : Nat) (live : Nat) (spare : Nat) (term : Nat) (s : State) : StepOut := .next (analogueSample c live spare term s)

/-- ANA_OUT_WRITE (R174). -/
def execAnaOutWrite (w : Who) (c : Nat) (v : Nat) (s : State) : StepOut := .next (writeEntry w Od.ana_out c v s)

/-- CHANNEL_FIRST_SAMPLE (R176). -/
def execChannelFirstSample (c : Nat) (m : Nat) (term : Nat) (s : State) : StepOut := .next (channelFirstSample c m term s)

/-- ANA_CONDITION_CHANGE (R177). -/
def execAnaConditionChange (c : Nat) (k : Nat) (m : Nat) (limit : Bool) (s : State) : StepOut := .next (anaConditionChange c k m limit s)

/-- COMPLIANCE_SET (R178). -/
def execComplianceSet (c : Nat) (m : Nat) (limit : Bool) (s : State) : StepOut := .next (complianceSet c m limit s)

/-- COMPLIANCE_CLEAR (R178). -/
def execComplianceClear (c : Nat) (stage : StageReading) (s : State) : StepOut := .next (complianceClear c stage.value stage.limit s)

/-- MISWIRE_DETECT (R179). -/
def execMiswireDetect (c : Nat) (lp : Int) (io : Int) (drive : Int) (readback : Int) (s : State) : StepOut := .next (miswireDetect c lp io drive readback s)

/-- MISWIRE_CLEAR (R179). -/
def execMiswireClear (c : Nat) (lp : Int) (io : Int) (s : State) : StepOut := .next (miswireClear c lp io s)

/-- HART_IDENTIFY (R183). -/
def execHartIdentify (c : Nat) (s : State) : StepOut := .next (hartIdentify c s)

/-- HART_IDENTIFY_RETRY (R183). -/
def execHartIdentifyRetry (c : Nat) (s : State) : StepOut := .next (hartIdentifyRetry c s)

/-- HART_MODEM_VISIT (R184). -/
def execHartModemVisit (modem : Nat) (s : State) : StepOut := .next (hartModemVisit modem s)

/-- HART_REPLY_RX (R183, R185). -/
def execHartReplyRx (modem : Nat) (r : HartReply) (s : State) : StepOut := .next (hartReplyRx modem r s)

/-- HART_REPLY_TIMEOUT (R183). -/
def execHartReplyTimeout (modem : Nat) (s : State) : StepOut := .next (hartReplyTimeout modem s)

/-- HART_PASSTHROUGH_REQ (R185). -/
def execHartPassthroughReq (w : Who) (c : Nat) (v : Nat) (s : State) : StepOut := .next (writeEntry w Od.ana_hart_req c v s)

/-- REFERENCE_COMPARE (R189). -/
def execReferenceCompare (vref : Int) (iref : Int) (s : State) : StepOut := .next (referenceCompare vref iref s)

/-- TURNOVER_STEP_DUE (R195). -/
def execTurnoverStepDue (b : Nat) (s : State) : StepOut := .next (turnoverStepDue b s)

/-- SPARE_CALIBRATION_DONE (R190). -/
def execSpareCalibrationDone (b : Nat) (classes : List CalClass) (delay : Int) (s : State) : StepOut := .next (spareCalibrationDone b classes delay s)

/-- TURNOVER_CHECK_END (R193). -/
def execTurnoverCheckEnd (b : Nat) (diff : Nat) (overRange : Bool) (s : State) : StepOut := .next (turnoverCheckEnd b diff overRange s)

/-- CHECK_REPEAT (R200). -/
def execCheckRepeat (b : Nat) (s : State) : StepOut := .next (checkRepeat b s)

/-- CROSS_FADE_START (R196). -/
def execCrossFadeStart (start : FadeStart) (s : State) : StepOut := .next (crossFadeStart start.bank start.cause start.first s)

/-- CROSS_FADE_END (R194). -/
def execCrossFadeEnd (b : Nat) (s : State) : StepOut := .next (crossFadeEnd b s)

/-- RELEASED_CALIBRATION_DONE (R193). -/
def execReleasedCalibrationDone (b : Nat) (classes : List CalClass) (delay : Int) (s : State) : StepOut := .next (releasedCalibrationDone b classes delay s)

/-- CAL_STEP_NOW (R201). -/
def execCalStepNow (w : Who) (b : Nat) (v : Nat) (s : State) : StepOut := .next (writeEntry w Od.cal_step_now b v s)

/-- CAL_RUN_CLEAR (R200). -/
def execCalRunClear (w : Who) (b : Nat) (v : Nat) (s : State) : StepOut := .next (writeEntry w Od.cal_run b v s)

/-- LIVE_CONVERTER_FAILURE (R198). -/
def execLiveConverterFailure (b : Nat) (j : Nat) (gap : SampleGap) (s : State) : StepOut := .next (liveConverterFailure b j gap.us gap.first s)

end Sys2Proof.Machine
end

