-- ==== Sys2Proof/Machine/BusCommands.lean ====
section
/-!
DEFINITION. Meanings of the commands of one group. The local bus and the backplane serial port (R152 to R169): each is one definition over the operations of its chapter.
-/
namespace Sys2Proof.Machine

/-- LB_POSTED_WRITE (R161). -/
def execLbPostedWrite (addr : Nat) (v : Nat) (meets : WriteFacts) (s : State) : StepOut := .next (lbPostedWrite addr v meets s)

/-- LBW_GO (R162). -/
def execLbwGo (s : State) : StepOut := .next (lbwGo s)

/-- LBW_DONE_READ (R155). -/
def execLbwDoneRead (s : State) : StepOut := .next (lbwDoneRead s)

/-- WAFER_REFRESH (R158). -/
def execWaferRefresh (period : Nat) (s : State) : StepOut := .next (waferRefresh period s)

/-- BSP_TRAIN (R165). -/
def execBspTrain (s : State) : StepOut := .next (bspTrain s)

/-- BSP_ALIGNED (R165). -/
def execBspAligned (s : State) : StepOut := .next (bspAligned s)

/-- BSP_RETRAIN (R165, R167). -/
def execBspRetrain (invalid : Nat) (s : State) : StepOut := .next (bspRetrain invalid s)

/-- BSP_FRAME_RX (R166). -/
def execBspFrameRx (bytes : List Nat) (s : State) : StepOut := .next (bspFrameRx bytes s)

/-- BSP_CREDIT_RX (R167). -/
def execBspCreditRx (seq : Nat) (code : Nat) (comp : Nat) (s : State) : StepOut := .next (bspCreditRx seq code comp s)

/-- BSP_CREDIT_TIMEOUT (R167). -/
def execBspCreditTimeout (s : State) : StepOut := .next (bspCreditTimeout s)

/-- BSP_ENABLE_WRITE (R169). -/
def execBspEnableWrite (w : Who) (v : Nat) (s : State) : StepOut := .next (writeEntry w Od.lbs_bsp_enable 0 v s)

end Sys2Proof.Machine
end

