-- ==== Sys2Proof/Machine/ControlCommands.lean ====
section
/-!
DEFINITION. Meanings of the commands of one group. The loop engines (R223 to R248): each is one definition over the operations of its chapter.
-/
namespace Sys2Proof.Machine

/-- LOOP_SAMPLE (R227). -/
def execLoopSample (slot : Nat) (mismatch : Bool) (s : State) : StepOut := .next (loopSampleAll slot mismatch s)

/-- SELF_CHECK_DONE (R245). -/
def execSelfCheckDone (a : Bool) (b : Bool) (agree : Bool) (s : State) : StepOut := .next (selfCheckAll a b agree s)

/-- ENGINE_RESYNC_COMPLETE (R246). -/
def execEngineResyncComplete (s : State) : StepOut := .next (engineResynced s)

/-- SOFT_SETPOINT_WRITE (R238). -/
def execSoftSetpointWrite (w : Who) (slot : Nat) (v : Nat) (s : State) : StepOut := .next (writeEntry w Od.ctl_sp_soft slot v s)

/-- CTL_MODE_WRITE (R237). -/
def execCtlModeWrite (w : Who) (slot : Nat) (v : Nat) (s : State) : StepOut := .next (writeEntry w Od.ctl_mode slot v s)

/-- REP_MEMORY_CLEAR (R243). -/
def execRepMemoryClear (w : Who) (u : Nat) (v : Nat) (s : State) : StepOut := .next (writeEntry w Od.ctl_rep_clear u v s)

end Sys2Proof.Machine
end

