-- ==== Sys2Proof/Machine/EnergyCommands.lean ====
section
/-!
DEFINITION. Meanings of the commands of one group. Energy metering (R202 to R222): each is one definition over the operations of its chapter.
-/
namespace Sys2Proof.Machine

/-- LINE_CYCLE_END (R207). -/
def execLineCycleEnd (e : CycleEnd) (s : State) : StepOut := .next (settle (lineCycleEnd e.crossing e.cycle s))

/-- VOLTAGE_LOSS (R206). -/
def execVoltageLoss (v : Nat) (s : State) : StepOut := .next (voltageLoss v s)

/-- INTERVAL_BOUNDARY (R214). -/
def execIntervalBoundary (t : Nat) (s : State) : StepOut := .next (intervalBoundary t s)

/-- PULSE_START (R218). -/
def execPulseStart (o : Nat) (s : State) : StepOut := .next (pulseStart o s)

/-- PULSE_END (R218). -/
def execPulseEnd (o : Nat) (s : State) : StepOut := .next (pulseEnd o s)

/-- PULSE_CONST_WRITE (R216). -/
def execPulseConstWrite (w : Who) (m : Nat) (v : Nat) (s : State) : StepOut := .next (writeEntry w Od.nrg_pulse_const m v s)

/-- VBAT_CLEAR (R219). -/
def execVbatClear (w : Who) (gen : Nat) (s : State) : StepOut := .next (writeEntry w Od.nrg_vbat_clear 0 gen s)

/-- CAPTURE_CMD (R220). -/
def execCaptureCmd (w : Who) (c : Nat) (s : State) : StepOut := .next (writeEntry w Od.nrg_cap_circuit 0 c s)

/-- CAPTURE_START (R220). -/
def execCaptureStart (first : Nat) (s : State) : StepOut := .next (captureStart first s)

/-- CAPTURE_COMPLETE (R220). -/
def execCaptureComplete (failed : Bool) (s : State) : StepOut := .next (captureComplete failed s)

/-- TIMED_LINE_CYCLE_END (R205). -/
def execTimedLineCycleEnd (d : LineCycle) (s : State) : StepOut := .next (settle (timedLineCycleEnd d s))

end Sys2Proof.Machine
end

