-- ==== Sys2Proof/Machine/FieldCommands.lean ====
section
/-!
DEFINITION. Meanings of the commands of one group. The field ports (R130 to R151): each is one definition over the operations of its chapter.
-/
namespace Sys2Proof.Machine

/-- FIELD_FRAME_RX (R131). -/
def execFieldFrameRx (p : Nat) (f : FieldFrame) (s : State) : StepOut := .next (fieldFrameRx p f s)

/-- BCAST_WINDOW_RESET (R133). -/
def execBcastWindowReset (p : Nat) (s : State) : StepOut := .next (bcastWindowReset p s)

/-- PSE_START (R138). -/
def execPseStart (p : Nat) (foreignMv : Nat) (sigOk : Bool) (s : State) : StepOut := .next (pseStart p foreignMv sigOk s)

/-- PSE_CHECK_REPEAT (R138). -/
def execPseCheckRepeat (p : Nat) (foreignMv : Nat) (sigOk : Bool) (s : State) : StepOut := .next (pseCheckRepeat p foreignMv sigOk s)

/-- PSE_CLASSIFICATION_DONE (R138). -/
def execPseClassificationDone (port : Nat × Option Nat) (others : List (Nat × Option Nat)) (s : State) : StepOut := .next (pseClassificationDone (port :: others) s)

/-- PSE_POWER_GOOD_CHECK (R138). -/
def execPsePowerGoodCheck (p : Nat) (portMv : Nat) (sourceMv : Nat) (s : State) : StepOut := .next (psePowerGoodCheck p portMv sourceMv s)

/-- PSE_OVERCURRENT_TRIP (R140). -/
def execPseOvercurrentTrip (p : Nat) (ma : Nat) (s : State) : StepOut := .next (pseOvercurrentTrip p ma s)

/-- PSE_OVERLOAD (R140). -/
def execPseOverload (p : Nat) (ma : Nat) (s : State) : StepOut := .next (pseOverload p ma s)

/-- PSE_UNDERVOLTAGE (R140). -/
def execPseUndervoltage (p : Nat) (portMv : Nat) (sourceMv : Nat) (s : State) : StepOut := .next (pseUndervoltage p portMv sourceMv s)

/-- PSE_DISCONNECT (R140). -/
def execPseDisconnect (p : Nat) (ma : Nat) (s : State) : StepOut := .next (pseDisconnect p ma s)

/-- FIELD_PWR_OUT_OF_RANGE (R140). -/
def execFieldPwrOutOfRange (mv : Nat) (s : State) : StepOut := .next (fieldPwrOutOfRange mv s)

/-- FIELD_PWR_RECOVERED (R140). -/
def execFieldPwrRecovered (mv : Nat) (s : State) : StepOut := .next (fieldPwrRecovered mv s)

/-- PSE_FAULT_RETRY (R140). -/
def execPseFaultRetry (p : Nat) (s : State) : StepOut := .next (pseFaultRetry p s)

/-- PSE_RESET_CMD (R140). -/
def execPseResetCmd (w : Who) (v : Nat) (s : State) : StepOut := .next (writeEntry w Od.fld_pse_reset 0 v s)

/-- PSE_INPUT_OVER_BUDGET (R142). -/
def execPseInputOverBudget (measured : List (Nat × Nat)) (s : State) : StepOut := .next (pseInputOverBudget measured s)

/-- PLCA_CYCLE (R144). -/
def execPlcaCycle (seg : Nat) (burst : Nat) (meanUs : Nat) (s : State) : StepOut := .next (plcaCycle seg burst meanUs s)

/-- T1S_FOREIGN_BEACON (R146). -/
def execT1sForeignBeacon (seg : Nat) (s : State) : StepOut := .next (t1sForeignBeacon seg s)

/-- T1S_FOREIGN_CLEAR (R146). -/
def execT1sForeignClear (seg : Nat) (s : State) : StepOut := .next (t1sForeignClear seg s)

/-- T1S_COLLISION (R146). -/
def execT1sCollision (collision : SegCollision) (s : State) : StepOut := .next (t1sCollision collision.seg collision.own s)

/-- T1S_JABBER (R146). -/
def execT1sJabber (seg : Nat) (s : State) : StepOut := .next (t1sJabber seg s)

/-- T1S_MEDIUM_STUCK (R146). -/
def execT1sMediumStuck (seg : Nat) (s : State) : StepOut := .next (t1sMediumStuck seg s)

/-- T1S_BEACON_RESTART (R146). -/
def execT1sBeaconRestart (seg : Nat) (s : State) : StepOut := .next (t1sBeaconRestart seg s)

/-- MSTP_TOKEN (R148). -/
def execMstpToken (p : Nat) (waiting : Nat) (others : MstpTurn) (s : State) : StepOut :=
  .next (mstpToken p waiting others.answered others.reply others.unused s)

/-- MSTP_TOKEN_LOSS (R148). -/
def execMstpTokenLoss (p : Nat) (s : State) : StepOut := .next (mstpTokenLoss p s)

/-- MSTP_FRAME_RX (R148). -/
def execMstpFrameRx (p : Nat) (src : Nat) (bad : Bool) (request : Bool) (s : State) : StepOut := .next (mstpFrameRx p src bad request s)

/-- MSTP_DUP_CLEAR (R148). -/
def execMstpDupClear (p : Nat) (s : State) : StepOut := .next (mstpDupClear p s)

/-- MODBUS_POLL_DUE (R150). -/
def execModbusPollDue (p : Nat) (entry : Nat) (at_ : Nat) (s : State) : StepOut := .next (modbusPollDue p entry at_ s)

/-- MODBUS_REPLY_RX (R150). -/
def execModbusReplyRx (p : Nat) (r : MbReply) (s : State) : StepOut := .next (modbusReplyRx p r s)

/-- MODBUS_REPLY_TIMEOUT (R150). -/
def execModbusReplyTimeout (p : Nat) (s : State) : StepOut := .next (modbusReplyTimeout p s)

/-- MODBUS_OUT_CHANGE (R150). -/
def execModbusOutChange (p : Nat) (entry : Nat) (s : State) : StepOut := .next (modbusOutChange p entry s)

/-- RS485_BUS_FAULT (R150). -/
def execRs485BusFault (p : Nat) (s : State) : StepOut := .next (rs485BusFault p s)

/-- RS485_BUS_IDLE (R150). -/
def execRs485BusIdle (p : Nat) (s : State) : StepOut := .next (rs485BusIdle p s)

/-- T1L_LINK_UP (R136). -/
def execT1lLinkUp (p : Nat) (high : Bool) (snr : Nat) (s : State) : StepOut := .next (t1lLinkUp p high snr s)

/-- T1L_LINK_DOWN (R136). -/
def execT1lLinkDown (p : Nat) (s : State) : StepOut := .next (t1lLinkDown p s)

/-- PLCA_PRESENCE_AGEOUT (R145). -/
def execPlcaPresenceAgeout (seg : Nat) (node : Nat) (s : State) : StepOut := .next (plcaPresenceAgeout seg node s)

/-- MSTP_MASTER_AGEOUT (R148). -/
def execMstpMasterAgeout (p : Nat) (station : Nat) (s : State) : StepOut := .next (mstpMasterAgeout p station s)

end Sys2Proof.Machine
end

