-- ==== Sys2Proof/Machine/LiftCommands.lean ====
section
/-!
DEFINITION. Meanings of the commands of one group. The lift unit (R271 to R297): each is one definition over the operations of its chapter.
-/
namespace Sys2Proof.Machine

/-- LIFT_CYCLE (R273). -/
def execLiftCycle (s : State) : StepOut := .next (settle (liftCycle readElem s))

/-- DRIVE_STATUS_FRAME_RX (R279). -/
def execDriveStatusFrameRx (k : Nat) (src : Nat) (bytes : List Nat) (s : State) : StepOut := .next (driveStatusFrameRx k src bytes s)

/-- DRIVE_LINK_LOST (R280). -/
def execDriveLinkLost (k : Nat) (s : State) : StepOut := .next (driveLinkLost k s)

/-- DRIVE_LINK_RESTORED (R280). -/
def execDriveLinkRestored (k : Nat) (s : State) : StepOut := .next (driveLinkRestored k s)

/-- MAGNETISE_TIMEOUT (R281). -/
def execMagnetiseTimeout (k : Nat) (s : State) : StepOut := .next (magnetiseTimeout k s)

/-- BRAKE_OPEN_TIMEOUT (R281). -/
def execBrakeOpenTimeout (k : Nat) (s : State) : StepOut := .next (brakeOpenTimeout k s)

/-- FOLLOWING_ERROR (R281). -/
def execFollowingError (k : Nat) (s : State) : StepOut := .next (followingError k s)

/-- BRAKE_RELEASE_DELAY (R283). -/
def execBrakeReleaseDelay (k : Nat) (s : State) : StepOut := .next (brakeReleaseDelay k s)

/-- LEARN_RUN_CMD (R277). -/
def execLearnRunCmd (w : Who) (k : Nat) (v : Nat) (s : State) : StepOut := .next (writeEntry w Od.lft_learn k v s)

/-- LEARN_RUN_END (R277). -/
def execLearnRunEnd (k : Nat) (s : State) : StepOut := .next (learnRunEnd k s)

/-- LIFT_FAULT_RESET (R281). -/
def execLiftFaultReset (w : Who) (k : Nat) (v : Nat) (s : State) : StepOut := .next (writeEntry w Od.lft_fault_reset k v s)

/-- RELEVEL_START (R284). -/
def execRelevelStart (k : Nat) (s : State) : StepOut := .next (relevelStart k s)

/-- LIFT_CALL (R285). -/
def execLiftCall (w : Who) (k : Nat) (v : Nat) (s : State) : StepOut := .next (writeEntry w Od.lft_call k v s)

/-- LIFT_STATUS_PUBLISH (R288). -/
def execLiftStatusPublish (k : Nat) (s : State) : StepOut := .next (liftStatusPublish k s)

/-- PARK_TIMEOUT (R287). -/
def execParkTimeout (k : Nat) (s : State) : StepOut := .next (parkTimeout k s)

/-- DOOR_DWELL_EXPIRY (R289). -/
def execDoorDwellExpiry (k : Nat) (s : State) : StepOut := .next (doorDwellExpiry k s)

/-- NUDGE_TIMEOUT (R292). -/
def execNudgeTimeout (k : Nat) (s : State) : StepOut := .next (nudgeTimeout k s)

/-- BLOCKED_OPENING_RETRY (R293). -/
def execBlockedOpeningRetry (d : Nat) (s : State) : StepOut := .next (blockedOpeningRetry d s)

end Sys2Proof.Machine
end

