-- ==== Sys2Proof/Machine/MotionCommands.lean ====
section
/-!
DEFINITION. Meanings of the commands of one group. Motion (R249 to R270): each is one definition over the operations of its chapter.
-/
namespace Sys2Proof.Machine

/-- MOTION_TICK (R253). -/
def execMotionTick (sense : List PhaseSense) (lanes : Option LaneCheck) (s : State) : StepOut := .next (motionTickAll sense lanes s)

/-- STEP_PULSE (R259). -/
def execStepPulse (c : Nat) (gapNs : Nat) (s : State) : StepOut := .next (stepPulseAll c gapNs s)

/-- IDLE_CURRENT_REDUCE (R259). -/
def execIdleCurrentReduce (c : Nat) (s : State) : StepOut := .next (idleCurrentReduce c s)

/-- MOT_TARGET_WRITE (R257). -/
def execMotTargetWrite (w : Who) (c : Nat) (v : Nat) (s : State) : StepOut := .next (writeEntry w Od.mot_target c v s)

/-- REFERENCE_CMD (R263). -/
def execReferenceCmd (w : Who) (c : Nat) (v : Nat) (s : State) : StepOut := .next (writeEntry w Od.mot_ref_cmd c v s)

/-- REFERENCE_SETTLED (R263). -/
def execReferenceSettled (c : Nat) (s : State) : StepOut := .next (referenceSettled c s)

/-- REFERENCE_BACKOFF_DONE (R263). -/
def execReferenceBackoffDone (c : Nat) (s : State) : StepOut := .next (referenceBackoffDone c s)

/-- SWITCH_EDGE_LATCH (R265). -/
def execSwitchEdgeLatch (k : Nat) (input : Nat) (level : Bool) (count : Int) (time : Nat) (s : State) : StepOut := .next (switchEdgeLatch k input level count time s)

/-- ENCODER_ILLEGAL_TRANSITION (R265). -/
def execEncoderIllegalTransition (k : Nat) (s : State) : StepOut := .next (encoderIllegalTransition k s)

/-- ENCODER_EDGE_COUNT (R265). -/
def execEncoderEdgeCount (k : Nat) (up : Bool) (s : State) : StepOut := .next (encoderEdgeCount k up s)

end Sys2Proof.Machine
end

