-- ==== Sys2Proof/Machine/ObjectCommands.lean ====
section
/-!
DEFINITION. Meanings of the commands of one group. The object service, transactions, the commit tick and BACnet (R67 to R97): each is one definition over the operations of its chapter.
-/
namespace Sys2Proof.Machine

/-- COP_DATAGRAM_RX (R69). -/
def execCopDatagramRx (rx : RxInfo) (bytes : List Nat) (s : State) : StepOut := .next (copDatagramRx rx bytes s)

/-- COP_READ (R68). -/
def execCopRead (w : Who) (handle : Nat) (items : List WItem) (s : State) : StepOut := .next (request s opREAD w handle items)

/-- COP_WRITE (R68). -/
def execCopWrite (w : Who) (handle : Nat) (items : List WItem) (s : State) : StepOut := .next (request s opWRITE w handle items)

/-- COP_DESCRIBE (R70). -/
def execCopDescribe (w : Who) (handle : Nat) (items : List WItem) (s : State) : StepOut := .next (request s opDESCRIBE w handle items)

/-- TXN_BEGIN (R90). -/
def execTxnBegin (w : Who) (s : State) : StepOut := .next (request s opBEGIN w 0 [])

/-- TXN_COMMIT (R93). -/
def execTxnCommit (w : Who) (handle : Nat) (s : State) : StepOut := .next (request s opCOMMIT w handle [])

/-- TXN_ROLLBACK (R94). -/
def execTxnRollback (w : Who) (handle : Nat) (s : State) : StepOut := .next (request s opROLLBACK w handle [])

/-- COMMIT_TICK (R88). -/
def execCommitTick (s : State) : StepOut := .next (commitTick s)

/-- RESPONSE_TIMEOUT (R89). -/
def execResponseTimeout (seq : Nat) (s : State) : StepOut := .next (responseTimeout seq s)

/-- TXN_IDLE_TIMEOUT (R94). -/
def execTxnIdleTimeout (handle : Nat) (s : State) : StepOut := .next (txnIdleTimeout handle s)

/-- LB_TXN_BEGIN (R96). -/
def execLbTxnBegin (w : Who) (v : Nat) (s : State) : StepOut := .next (writeEntry w Od.txn_begin 0 v s)

/-- LB_TXN_COMMIT (R96). -/
def execLbTxnCommit (w : Who) (v : Nat) (s : State) : StepOut := .next (writeEntry w Od.txn_commit 0 v s)

/-- LB_TXN_ROLLBACK (R96). -/
def execLbTxnRollback (w : Who) (v : Nat) (s : State) : StepOut := .next (writeEntry w Od.txn_rollback 0 v s)

/-- ENTRY_WRITE (R88). -/
def execEntryWrite (w : Who) (index : Nat) (elem : Nat) (ty : Nat) (v : Nat) (s : State) : StepOut := .next (request s opWRITE w 0 [oneItem index elem ty v])

/-- POINT_SCAN (R81). -/
def execPointScan (s : State) : StepOut := .next (pointScan s)

/-- BACNET_READ_PROPERTY (R82). -/
def execBacnetReadProperty (rx : RxInfo) (props : List (Nat × Nat × Nat)) (s : State) : StepOut := .next (bacnetReadProperty rx props s)

/-- BACNET_WRITE_PROPERTY (R85). -/
def execBacnetWriteProperty (rx : RxInfo) (rs : List BacWrite) (s : State) : StepOut := .next (bacnetWriteProperty rx rs s)

/-- BACNET_SUBSCRIBE_COV (R82). -/
def execBacnetSubscribeCov (rx : RxInfo) (client : Nat) (process : Nat) (objType : Nat) (inst : Nat) (confirmed : Option Bool) (lifetime : Nat)
    (s : State) : StepOut :=
  .next (bacnetSubscribeCov rx client process objType inst (confirmed.map (fun c => (c, lifetime))) s)

/-- BACNET_COV_EXPIRY (R82). -/
def execBacnetCovExpiry (client : Nat) (process : Nat) (objType : Nat) (inst : Nat) (s : State) : StepOut := .next (bacnetCovExpiry client process objType inst s)

/-- BACNET_WHO_IS (R82). -/
def execBacnetWhoIs (rx : RxInfo) (lo : Nat) (hi : Nat) (s : State) : StepOut := .next (bacnetWhoIs rx lo hi s)

/-- BACNET_WHO_HAS (R82). -/
def execBacnetWhoHas (rx : RxInfo) (range : Option (Nat × Nat)) (what : BacHas) (s : State) : StepOut := .next (bacnetWhoHas rx range what s)

/-- BACNET_UNSUPPORTED_SERVICE (R82). -/
def execBacnetUnsupportedService (rx : RxInfo) (confirmed : Bool) (invoke : Nat) (s : State) : StepOut :=
  .next (bacnetUnsupportedService rx confirmed invoke s)

/-- BACNET_FD_REGISTRATION (R82). -/
def execBacnetFdRegistration (s : State) : StepOut := .next (bacnetFdRegistration s)

end Sys2Proof.Machine
end

