-- ==== Sys2Proof/Machine/ProgramCommands.lean ====
section
/-!
DEFINITION. Meanings of the commands of one group. Programs (R330 to R348): each is one definition over the operations of its chapter.
-/
namespace Sys2Proof.Machine

/-- PROGRAM_CYCLE_START (R335). -/
def execProgramCycleStart (p : Nat) (at_ : Nat) (s : State) : StepOut := .next (programCycleStart readElem p at_ s)

/-- PROGRAM_CYCLE_END (R337). -/
def execProgramCycleEnd (p : Nat) (at_ : Nat) (writes : List (Nat × List Nat)) (s : State) : StepOut := .next (settle (programCycleEnd p at_ writes s))

/-- PROGRAM_OVERRUN (R338). -/
def execProgramOverrun (p : Nat) (s : State) : StepOut := .next (settle (programOverrun p s))

/-- OVERRUN_WARN_CLEAR (R338). -/
def execOverrunWarnClear (p : Nat) (s : State) : StepOut := .next (overrunWarnClear p s)

/-- PROGRAM_TRAP (R339). -/
def execProgramTrap (p : Nat) (illegal : Bool) (pc : Nat) (s : State) : StepOut := .next (settle (programTrap p illegal pc s))

/-- PROGRAM_RUN_WRITE (R339). -/
def execProgramRunWrite (w : Who) (p : Nat) (v : Nat) (s : State) : StepOut := .next (writeEntry w Od.prg_run p v s)

/-- STAGE_CHECK_CMD (R341). -/
def execStageCheckCmd (w : Who) (p : Nat) (v : Nat) (s : State) : StepOut := .next (writeEntry w Od.prg_stage_check p v s)

/-- STAGE_CHECK_DONE (R341). -/
def execStageCheckDone (p : Nat) (s : State) : StepOut := .next (stageCheckDone p s)

/-- PROGRAM_EXCHANGE (R343). -/
def execProgramExchange (w : Who) (p : Nat) (v : Nat) (s : State) : StepOut := .next (writeEntry w Od.prg_exchange p v s)

end Sys2Proof.Machine
end

