-- ==== Sys2Proof/Machine/SafetyCommands.lean ====
section
/-!
DEFINITION. Meanings of the commands of one group. The safety island (R298 to R329): each is one definition over the operations of its chapter.
-/
namespace Sys2Proof.Machine

/-- ISLAND_CYCLE (R308). -/
def execIslandCycle (i : IslandIn) (s : State) : StepOut := .next (holdIfTripped (islandCycle i s))

/-- INPUT_TEST_PULSE (R307). -/
def execInputTestPulse (p : Nat) (b : Bool) (siA : Bool) (siB : Bool) (s : State) : StepOut := .next (holdIfTripped (inputTestPulse p b siA siB s))

/-- OUTPUT_TEST_PULSE (R315). -/
def execOutputTestPulse (o : Nat) (half : Bool) (soH : Nat) (soL : Nat) (moved : Bool) (demand : Bool) (s : State) : StepOut := .next (holdIfTripped (outputTestPulse o half soH soL moved demand s))

/-- OUTPUT_OVERLOAD (R315). -/
def execOutputOverload (o : Nat) (s : State) : StepOut := .next (holdIfTripped (outputOverload o s))

/-- MACARON_PRODUCER_SEND (R320). -/
def execMacaronProducerSend (c : Nat) (s : State) : StepOut := .next (holdIfTripped (macaronProducerSend c s))

/-- MACARON_COPY_RX (R321). -/
def execMacaronCopyRx (lan : Nat) (src : Nat) (pdu : List Nat) (s : State) : StepOut := .next (holdIfTripped (macaronCopyRx lan src pdu s))

/-- MACARON_SKEW_EXPIRY (R321). -/
def execMacaronSkewExpiry (c : Nat) (s : State) : StepOut := .next (holdIfTripped (macaronSkewExpiry c s))

/-- MACARON_WATCHDOG (R322). -/
def execMacaronWatchdog (c : Nat) (s : State) : StepOut := .next (holdIfTripped (macaronWatchdog c s))

/-- SAF_ACK (R324). -/
def execSafAck (w : Who) (v : Nat) (s : State) : StepOut := .next (writeEntry w Od.saf_ack 0 v s)

/-- SAF_UCM_ACK (R324). -/
def execSafUcmAck (w : Who) (k : Nat) (v : Nat) (s : State) : StepOut := .next (writeEntry w Od.saf_ucm_ack k v s)

/-- SAF_HOLD_EXIT (R324). -/
def execSafHoldExit (w : Who) (v : Nat) (s : State) : StepOut := .next (writeEntry w Od.saf_hold_exit 0 v s)

end Sys2Proof.Machine
end

