-- ==== Sys2Proof/Machine/StoreCommands.lean ====
section
/-!
DEFINITION. Meanings of the commands of one group. The Meringue store and the recorder (R368 to R393): each is one definition over the operations of its chapter.
-/
namespace Sys2Proof.Machine

/-- STORE_CMD (R371). -/
def execStoreCmd (w : Who) (v : Nat) (s : State) : StepOut := .next (writeEntry w Od.nvs_store_cmd 0 v s)

/-- STORE_START (R372). -/
def execStoreStart (s : State) : StepOut := .next (storeStart s)

/-- STORE_COMPLETE (R372, R374). -/
def execStoreComplete (bad : Bool) (us : Nat) (s : State) : StepOut := .next (storeReleased bad us s)

/-- ALLOWANCE_REPLENISH (R371). -/
def execAllowanceReplenish (s : State) : StepOut := .next (allowanceReplenish s)

/-- RECORDER_FLUSH (R386). -/
def execRecorderFlush (s : State) : StepOut := .next (recorderFlush s)

/-- RECORD_MOVE (R387). -/
def execRecordMove (rest : Bool) (s : State) : StepOut := .next (recordMove rest s)

/-- REC_READ_REQUEST (R389). -/
def execRecReadRequest (w : Who) (r : Nat) (v : Nat) (s : State) : StepOut := .next (writeEntry w Od.rec_rd_req r v s)

/-- REC_CONTEXT_EXPIRY (R389). -/
def execRecContextExpiry (r : Nat) (s : State) : StepOut := .next (recContextExpiry r s)

/-- REC_DUMP (R391). -/
def execRecDump (w : Who) (v : Nat) (s : State) : StepOut := .next (writeEntry w Od.rec_dump 0 v s)

/-- REC_DUMP_ERASE_TIMEOUT (R391). -/
def execRecDumpEraseTimeout (s : State) : StepOut := .next (recDumpEraseTimeout s)

/-- REC_DUMP_COMPLETE (R391). -/
def execRecDumpComplete (failed : Bool) (s : State) : StepOut := .next (recDumpComplete failed s)

/-- REC_CLEAR (R392). -/
def execRecClear (w : Who) (v : Nat) (s : State) : StepOut := .next (writeEntry w Od.rec_clear 0 v s)

/-- REC_CLEAR_APPLY (R392). -/
def execRecClearApply (s : State) : StepOut := .next (settle (recClearApply s))

end Sys2Proof.Machine
end

