-- ==== Sys2Proof/Machine/SystemCommands.lean ====
section
/-!
DEFINITION. Meanings of the commands of one group. Power, modes, faults, the fabric and trends (R19 to R66): each is one definition over the operations of its chapter.
-/
namespace Sys2Proof.Machine

/-- POWER_ON_RESET (R50). -/
def execPowerOnReset (f : StartFacts) (s : State) : StepOut := .next (powerOnReset f s)

/-- BOOT_END (R48). -/
def execBootEnd (ms : Nat) (s : State) : StepOut := .next (bootEnd ms s)

/-- POWER_FAIL (R60). -/
def execPowerFail (vmain : Nat) (partials : List (Nat × LineCycle)) (s : State) : StepOut := .next (powerFail vmain partials s)

/-- INTERNAL_RAIL_FAULT (R52). -/
def execInternalRailFault (vmain : Nat) (partials : List (Nat × LineCycle)) (s : State) : StepOut := .next (internalRailFault vmain partials s)

/-- VMAIN_RETURN_IN_HOLDUP (R61). -/
def execVmainReturnInHoldup (s : State) : StepOut := .next (vmainReturnInHoldup s)

/-- HOLDUP_STORE_COMPLETE (R60). -/
def execHoldupStoreComplete (bad : Bool) (us : Nat) (f : StartFacts) (s : State) : StepOut := .next (holdupStoreComplete bad us f s)

/-- STANDBY_VMAIN_FAIL (R58). -/
def execStandbyVmainFail (s : State) : StepOut := .next (standbyVmainFail s)

/-- WATCHDOG_RESET (R52). -/
def execWatchdogReset (f : StartFacts) (s : State) : StepOut := .next (watchdogReset f s)

/-- SOFTWARE_RESET (R52). -/
def execSoftwareReset (w : Who) (f : StartFacts) (s : State) : StepOut := .next (softwareReset w f s)

/-- MPR_COMMAND (R52). -/
def execMprCommand (w : Who) (s : State) : StepOut := .next (mprCommand w s)

/-- APP_WATCHDOG_EXPIRY (R52). -/
def execAppWatchdogExpiry (s : State) : StepOut := .next (appWatchdogExpiry s)

/-- MPR_COMPLETE (R52). -/
def execMprComplete (s : State) : StepOut := .next (mprComplete s)

/-- ACT_RESET (R402). -/
def execActReset (f : StartFacts) (s : State) : StepOut := .next (actReset f s)

/-- MP_RESTART (R36). -/
def execMpRestart (romOk : Bool) (s : State) : StepOut := .next (mpRestart romOk s)

/-- RESERVOIR_CHARGED (R64). -/
def execReservoirCharged (r : Nat) (s : State) : StepOut := .next (reservoirCharged r s)

/-- RESERVOIR_CHARGE_TIMEOUT (R51). -/
def execReservoirChargeTimeout (r : Nat) (s : State) : StepOut := .next (reservoirChargeTimeout r s)

/-- RESERVOIR_CHARGE_RETRY (R51). -/
def execReservoirChargeRetry (r : Nat) (s : State) : StepOut := .next (reservoirChargeRetry r s)

/-- HOURLY_HOLD_TEST (R64). -/
def execHourlyHoldTest (r : Nat) (s : State) : StepOut := .next (hourlyHoldTest r s)

/-- HOLD_TEST_CMD (R49). -/
def execHoldTestCmd (w : Who) (v : Nat) (s : State) : StepOut := .next (writeEntry w Od.sys_hold_test 0 v s)

/-- HOLD_TEST_COMPLETE (R64). -/
def execHoldTestComplete (stepMv : Nat) (sinkMv : Nat) (s : State) : StepOut := .next (holdTestComplete stepMv sinkMv s)

/-- MODE_REQUEST (R46). -/
def execModeRequest (w : Who) (code : Nat) (s : State) : StepOut := .next (writeEntry w Od.sys_mode_req 0 code s)

/-- MODE_TRANSITION_START (R46). -/
def execModeTransitionStart (s : State) : StepOut := .next (modeTransitionStart s)

/-- STANDBY_ENTRY_COMPLETE (R56). -/
def execStandbyEntryComplete (us : Nat) (s : State) : StepOut := .next (standbyEntryComplete us s)

/-- WAKE_PIN (R49). -/
def execWakePin (f : StartFacts) (s : State) : StepOut := .next (wakePin f s)

/-- WAKE_TIMED (R49). -/
def execWakeTimed (f : StartFacts) (s : State) : StepOut := .next (wakeTimed f s)

/-- WAKE_PATTERN_MATCH (R124). -/
def execWakePatternMatch (uplink : Nat) (frame : WakeFrame) (f : StartFacts) (s : State) : StepOut :=
  .next (wakePatternMatch uplink frame.bytes frame.fcsOk f s)

/-- PARITY_MISMATCH (R24). -/
def execParityMismatch (initiator word : Nat) (replays : List Nat) (address : Nat) (cls : PageClass) (s : State) : StepOut :=
  .next (parityMismatch initiator (word :: replays) address cls s)

/-- DRAM_PAGE_RETIRE_COMPLETE (R27). -/
def execDramPageRetireComplete (r : PageRetired) (s : State) : StepOut := .next (dramPageRetireComplete r.page r.spare r.held s)

/-- FABRIC_ACCESS_REFUSED (R22). -/
def execFabricAccessRefused (access : FabricAccess) (address : Nat) (s : State) : StepOut :=
  .next (fabricAccessRefused access.master access.target access.way address s)

/-- FAULT_RETEST_CMD (R49). -/
def execFaultRetestCmd (w : Who) (bit : Nat) (s : State) : StepOut := .next (writeEntry w Od.sys_fault_retest 0 bit s)

/-- FAULT_RETEST_COMPLETE (R37). -/
def execFaultRetestComplete (pass : Bool) (s : State) : StepOut := .next (faultRetestComplete pass s)

/-- CLOCK_START (R30). -/
def execClockStart (aheadUs : Nat) (s : State) : StepOut := .next (clockStart aheadUs s)

/-- CLOCK_GATE (R30). -/
def execClockGate (nextUs : Nat) (s : State) : StepOut := .next (clockGate nextUs s)

/-- MP_FRAME (R34). -/
def execMpFrame (demand : List Nat) (s : State) : StepOut := .next (mpFrame demand s)

/-- MP_LOAD_UPDATE (R35). -/
def execMpLoadUpdate (s : State) : StepOut := .next (mpLoadUpdate s)

/-- TREND_SAMPLE (R43). -/
def execTrendSample (n : Nat) (s : State) : StepOut := .next (trendSample n s)

/-- TREND_ARCHIVE_MOVE (R43). -/
def execTrendArchiveMove (capacity : Nat) (s : State) : StepOut := .next (trendArchiveMove capacity s)

/-- TREND_DUMP_CMD (R43). -/
def execTrendDumpCmd (w : Who) (v : Nat) (s : State) : StepOut := .next (writeEntry w Od.sys_trend_dump 0 v s)

/-- TREND_TRANSFER_COMPLETE (R43). -/
def execTrendTransferComplete (failed : Bool) (s : State) : StepOut := .next (trendTransferComplete failed s)

end Sys2Proof.Machine
end

