-- ==== Sys2Proof/Machine/TimeCommands.lean ====
section
/-!
DEFINITION. Meanings of the commands of one group. Time and the backup domain (R349 to R367): each is one definition over the operations of its chapter.
-/
namespace Sys2Proof.Machine

/-- RTC_SECOND_BOUNDARY (R350). -/
def execRtcSecondBoundary (s : State) : StepOut := .next (rtcSecondBoundary s)

/-- RTC_SECONDS_WRITE (R355). -/
def execRtcSecondsWrite (w : Who) (v : Nat) (s : State) : StepOut := .next (writeEntry w Od.rtc_seconds 0 v s)

/-- RTC_CAL_WRITE (R355). -/
def execRtcCalWrite (w : Who) (v : Nat) (s : State) : StepOut := .next (writeEntry w Od.rtc_cal 0 v s)

/-- RTC_SHIFT_WRITE (R357). -/
def execRtcShiftWrite (w : Who) (v : Nat) (s : State) : StepOut := .next (writeEntry w Od.rtc_shift 0 v s)

/-- RTC_SYNC_COMPARE (R359). -/
def execRtcSyncCompare (s : State) : StepOut := .next (rtcSyncCompare s)

/-- VBAT_SWITCH_OVER (R361). -/
def execVbatSwitchOver (s : State) : StepOut := .next (vbatSwitchOver s)

/-- VAON_SWITCH_BACK (R361). -/
def execVaonSwitchBack (s : State) : StepOut := .next (vaonSwitchBack s)

/-- VBAT_MEASURE (R362). -/
def execVbatMeasure (mv : Nat) (s : State) : StepOut := .next (vbatMeasure mv s)

/-- BACKUP_DOMAIN_BROWNOUT (R363). -/
def execBackupDomainBrownout (s : State) : StepOut := .next (backupDomainBrownout s)

end Sys2Proof.Machine
end

