-- ==== Sys2Proof/Machine/UpdateCommands.lean ====
section
/-!
DEFINITION. Meanings of the commands of one group. Update, keys and environment (R394 to R434): each is one definition over the operations of its chapter.
-/
namespace Sys2Proof.Machine

/-- UPD_BEGIN (R397). -/
def execUpdBegin (w : Who) (v : Nat) (s : State) : StepOut := .next (writeEntry w Od.upd_begin 0 v s)

/-- UPD_BLOCK (R398). -/
def execUpdBlock (w : Who) (v : Nat) (s : State) : StepOut := .next (writeEntry w Od.upd_block 0 v s)

/-- BLOCK_PROGRAMMED (R398). -/
def execBlockProgrammed (s : State) : StepOut := .next (blockProgrammed s)

/-- BSP_IMAGE_BLOCK (R399). -/
def execBspImageBlock (s : State) : StepOut := .next (bspImageBlock s)

/-- UPD_VERIFY (R401). -/
def execUpdVerify (w : Who) (v : Nat) (s : State) : StepOut := .next (writeEntry w Od.upd_verify 0 v s)

/-- VERIFY_COMPLETE (R401). -/
def execVerifyComplete (badBlock : Bool) (s : State) : StepOut := .next (verifyComplete badBlock s)

/-- UPD_ACTIVATE (R402). -/
def execUpdActivate (w : Who) (v : Nat) (s : State) : StepOut := .next (writeEntry w Od.upd_activate 0 v s)

/-- UPD_HEALTH_OK (R404). -/
def execUpdHealthOk (w : Who) (v : Nat) (s : State) : StepOut := .next (writeEntry w Od.upd_health_ok 0 v s)

/-- PROBATION_EXPIRY (R405). -/
def execProbationExpiry (s : State) : StepOut := .next (probationExpiry s)

/-- KEY_REPLACE (R409). -/
def execKeyReplace (w : Who) (v : Nat) (s : State) : StepOut := .next (writeEntry w Od.key_replace 0 v s)

/-- VMAIN_MEASURE (R421). -/
def execVmainMeasure (vmain : Nat) (vsafe : Nat) (power : Nat) (s : State) : StepOut := .next (vmainMeasure vmain vsafe power s)

/-- VSAFE_LOW (R422). -/
def execVsafeLow (mv : Nat) (s : State) : StepOut := .next (vsafeFell mv s)

/-- VSAFE_RECOVER (R422). -/
def execVsafeRecover (mv : Nat) (s : State) : StepOut := .next (vsafeRecovered mv s)

/-- TEMP_MEASURE (R429). -/
def execTempMeasure (land : Int) (soc : Int) (s : State) : StepOut := .next (tempMeasure land soc s)

end Sys2Proof.Machine
end

