-- ==== Sys2Proof/Machine/UplinkCommands.lean ====
section
/-!
DEFINITION. Meanings of the commands of one group. The uplinks (R76, R104 to R129): each is one definition over the operations of its chapter.
-/
namespace Sys2Proof.Machine

/-- EAPOL_START_REPEAT (R76). -/
def execEapolStartRepeat (u : Nat) (s : State) : StepOut := .next (eapolStartRepeat u s)

/-- EAPOL_FRAME_RX (R76). -/
def execEapolFrameRx (u : Nat) (k : EapolKind) (s : State) : StepOut := .next (eapolFrameRx u k s)

/-- DOT1X_EXCHANGE_TIMEOUT (R76). -/
def execDot1xExchangeTimeout (u : Nat) (s : State) : StepOut := .next (dot1xExchangeTimeout u s)

/-- DOT1X_HOLD_END (R76). -/
def execDot1xHoldEnd (u : Nat) (s : State) : StepOut := .next (dot1xHoldEnd u s)

/-- COMMISSION_ADMISSION (R76). -/
def execCommissionAdmission (u : Nat) (s : State) : StepOut := .next (commissionAdmission u s)

/-- UPLINK_LINK_UP (R108). -/
def execUplinkLinkUp (u : Nat) (speed : Nat) (s : State) : StepOut := .next (uplinkLinkUp u speed s)

/-- UPLINK_LINK_DOWN (R107). -/
def execUplinkLinkDown (u : Nat) (s : State) : StepOut := .next (uplinkLinkDown u s)

/-- PRP_SILENCE_TIMEOUT (R107). -/
def execPrpSilenceTimeout (u : Nat) (s : State) : StepOut := .next (prpSilenceTimeout u s)

/-- UPLINK_FAULT_CLEAR (R37). -/
def execUplinkFaultClear (u : Nat) (s : State) : StepOut := .next (uplinkFaultClear u s)

/-- UPLINK_FRAME_RX (R19). -/
def execUplinkFrameRx (u : Nat) (f : UplinkFrame) (s : State) : StepOut := .next (uplinkFrameRx u f s)

/-- PRP_FORGET_EXPIRY (R114). -/
def execPrpForgetExpiry (src : Nat) (seq : Nat) (s : State) : StepOut := .next (prpForgetExpiry src seq s)

/-- PRP_SUPERVISION_TX (R116). -/
def execPrpSupervisionTx (s : State) : StepOut := .next (prpSupervisionTx s)

/-- PROXY_ENTRY_AGEOUT (R115). -/
def execProxyEntryAgeout (mac : Nat) (s : State) : StepOut := .next (proxyEntryAgeout mac s)

/-- TX_FRAME_START (R110). -/
def execTxFrameStart (u : Nat) (have_ : List Nat) (s : State) : StepOut := .next (txFrameStart u have_ s)

/-- TX_UNDERRUN (R113). -/
def execTxUnderrun (u : Nat) (s : State) : StepOut := .next (txUnderrun u s)

/-- TX_START_WRITE (R112). -/
def execTxStartWrite (w : Who) (u : Nat) (v : Nat) (s : State) : StepOut := .next (writeEntry w Od.net_tx_start u v s)

/-- SPEED_MAX_WRITE (R108). -/
def execSpeedMaxWrite (w : Who) (u : Nat) (v : Nat) (s : State) : StepOut := .next (writeEntry w Od.net_speed_max u v s)

/-- PTP_MESSAGE_RX (R119). -/
def execPtpMessageRx (u : Nat) (m : PtpMsg) (s : State) : StepOut := .next (ptpMessageRx u m s)

/-- PTP_ANNOUNCE_TIMEOUT (R119). -/
def execPtpAnnounceTimeout (s : State) : StepOut := .next (ptpAnnounceTimeout s)

/-- MKA_SECURED (R122). -/
def execMkaSecured (session : MkaSession) (s : State) : StepOut := .next (mkaSecured session.uplink session.sci s)

/-- MKA_RETRY (R121). -/
def execMkaRetry (u : Nat) (s : State) : StepOut := .next (mkaRetry u s)

/-- MKA_B_RESTART_TIMEOUT (R122). -/
def execMkaBRestartTimeout (s : State) : StepOut := .next (mkaBRestartTimeout s)

/-- STANDBY_LINK_RETRY (R126). -/
def execStandbyLinkRetry (u : Nat) (s : State) : StepOut := .next (standbyLinkRetry u s)

/-- DOWNSHIFT_WINDOW (R127). -/
def execDownshiftWindow (u : Nat) (load : Nat) (s : State) : StepOut := .next (downshiftWindow u load s)

/-- SPEED_SHIFT_END (R128). -/
def execSpeedShiftEnd (u : Nat) (speed : Nat) (s : State) : StepOut := .next (speedShiftEnd u speed s)

/-- DOWNSHIFT_DISABLE (R129). -/
def execDownshiftDisable (w : Who) (v : Nat) (s : State) : StepOut := .next (writeEntry w Od.net_downshift 0 v s)

/-- MKA_FAILED (R121). -/
def execMkaFailed (u : Nat) (s : State) : StepOut := .next (mkaFailed u s)

end Sys2Proof.Machine
end

