-- ==== Sys2Proof/Machine/Dispatch.lean ====
section
/-!
DEFINITION. The dispatch: one arm per command, each a direct call of its meaning.
-/
namespace Sys2Proof.Machine

/-- What a command does to everything but the queue. -/
def exec (i : Instr) (s : State) : Host.Outcome State Fault Refusal :=
  match i with
  | .powerOnReset f => Sys2Proof.Machine.execPowerOnReset f s
  | .bootEnd ms => Sys2Proof.Machine.execBootEnd ms s
  | .powerFail vmain partials => Sys2Proof.Machine.execPowerFail vmain partials s
  | .internalRailFault vmain partials => Sys2Proof.Machine.execInternalRailFault vmain partials s
  | .vmainReturnInHoldup => Sys2Proof.Machine.execVmainReturnInHoldup s
  | .holdupStoreComplete bad us f => Sys2Proof.Machine.execHoldupStoreComplete bad us f s
  | .standbyVmainFail => Sys2Proof.Machine.execStandbyVmainFail s
  | .watchdogReset f => Sys2Proof.Machine.execWatchdogReset f s
  | .softwareReset w f => Sys2Proof.Machine.execSoftwareReset w f s
  | .mprCommand w => Sys2Proof.Machine.execMprCommand w s
  | .appWatchdogExpiry => Sys2Proof.Machine.execAppWatchdogExpiry s
  | .mprComplete => Sys2Proof.Machine.execMprComplete s
  | .actReset f => Sys2Proof.Machine.execActReset f s
  | .mpRestart romOk => Sys2Proof.Machine.execMpRestart romOk s
  | .reservoirCharged r => Sys2Proof.Machine.execReservoirCharged r s
  | .reservoirChargeTimeout r => Sys2Proof.Machine.execReservoirChargeTimeout r s
  | .reservoirChargeRetry r => Sys2Proof.Machine.execReservoirChargeRetry r s
  | .hourlyHoldTest r => Sys2Proof.Machine.execHourlyHoldTest r s
  | .holdTestCmd w v => Sys2Proof.Machine.execHoldTestCmd w v s
  | .holdTestComplete stepMv sinkMv => Sys2Proof.Machine.execHoldTestComplete stepMv sinkMv s
  | .modeRequest w code => Sys2Proof.Machine.execModeRequest w code s
  | .modeTransitionStart => Sys2Proof.Machine.execModeTransitionStart s
  | .standbyEntryComplete us => Sys2Proof.Machine.execStandbyEntryComplete us s
  | .wakePin f => Sys2Proof.Machine.execWakePin f s
  | .wakeTimed f => Sys2Proof.Machine.execWakeTimed f s
  | .wakePatternMatch uplink frame f => Sys2Proof.Machine.execWakePatternMatch uplink frame f s
  | .parityMismatch initiator word replays address cls => Sys2Proof.Machine.execParityMismatch initiator word replays address cls s
  | .dramPageRetireComplete r => Sys2Proof.Machine.execDramPageRetireComplete r s
  | .fabricAccessRefused access address => Sys2Proof.Machine.execFabricAccessRefused access address s
  | .faultRetestCmd w bit => Sys2Proof.Machine.execFaultRetestCmd w bit s
  | .faultRetestComplete pass => Sys2Proof.Machine.execFaultRetestComplete pass s
  | .clockStart aheadUs => Sys2Proof.Machine.execClockStart aheadUs s
  | .clockGate nextUs => Sys2Proof.Machine.execClockGate nextUs s
  | .mpFrame demand => Sys2Proof.Machine.execMpFrame demand s
  | .mpLoadUpdate => Sys2Proof.Machine.execMpLoadUpdate s
  | .trendSample n => Sys2Proof.Machine.execTrendSample n s
  | .trendArchiveMove capacity => Sys2Proof.Machine.execTrendArchiveMove capacity s
  | .trendDumpCmd w v => Sys2Proof.Machine.execTrendDumpCmd w v s
  | .trendTransferComplete failed => Sys2Proof.Machine.execTrendTransferComplete failed s
  | .copDatagramRx rx bytes => Sys2Proof.Machine.execCopDatagramRx rx bytes s
  | .copRead w handle items => Sys2Proof.Machine.execCopRead w handle items s
  | .copWrite w handle items => Sys2Proof.Machine.execCopWrite w handle items s
  | .copDescribe w handle items => Sys2Proof.Machine.execCopDescribe w handle items s
  | .txnBegin w => Sys2Proof.Machine.execTxnBegin w s
  | .txnCommit w handle => Sys2Proof.Machine.execTxnCommit w handle s
  | .txnRollback w handle => Sys2Proof.Machine.execTxnRollback w handle s
  | .commitTick => Sys2Proof.Machine.execCommitTick s
  | .responseTimeout seq => Sys2Proof.Machine.execResponseTimeout seq s
  | .txnIdleTimeout handle => Sys2Proof.Machine.execTxnIdleTimeout handle s
  | .lbTxnBegin w v => Sys2Proof.Machine.execLbTxnBegin w v s
  | .lbTxnCommit w v => Sys2Proof.Machine.execLbTxnCommit w v s
  | .lbTxnRollback w v => Sys2Proof.Machine.execLbTxnRollback w v s
  | .entryWrite w index elem ty v => Sys2Proof.Machine.execEntryWrite w index elem ty v s
  | .pointScan => Sys2Proof.Machine.execPointScan s
  | .bacnetReadProperty rx props => Sys2Proof.Machine.execBacnetReadProperty rx props s
  | .bacnetWriteProperty rx rs => Sys2Proof.Machine.execBacnetWriteProperty rx rs s
  | .bacnetSubscribeCov rx client process objType inst confirmed lifetime => Sys2Proof.Machine.execBacnetSubscribeCov rx client process objType inst confirmed lifetime s
  | .bacnetCovExpiry client process objType inst => Sys2Proof.Machine.execBacnetCovExpiry client process objType inst s
  | .bacnetWhoIs rx lo hi => Sys2Proof.Machine.execBacnetWhoIs rx lo hi s
  | .bacnetWhoHas rx range what => Sys2Proof.Machine.execBacnetWhoHas rx range what s
  | .bacnetUnsupportedService rx confirmed invoke => Sys2Proof.Machine.execBacnetUnsupportedService rx confirmed invoke s
  | .bacnetFdRegistration => Sys2Proof.Machine.execBacnetFdRegistration s
  | .eapolStartRepeat u => Sys2Proof.Machine.execEapolStartRepeat u s
  | .eapolFrameRx u k => Sys2Proof.Machine.execEapolFrameRx u k s
  | .dot1xExchangeTimeout u => Sys2Proof.Machine.execDot1xExchangeTimeout u s
  | .dot1xHoldEnd u => Sys2Proof.Machine.execDot1xHoldEnd u s
  | .commissionAdmission u => Sys2Proof.Machine.execCommissionAdmission u s
  | .uplinkLinkUp u speed => Sys2Proof.Machine.execUplinkLinkUp u speed s
  | .uplinkLinkDown u => Sys2Proof.Machine.execUplinkLinkDown u s
  | .prpSilenceTimeout u => Sys2Proof.Machine.execPrpSilenceTimeout u s
  | .uplinkFaultClear u => Sys2Proof.Machine.execUplinkFaultClear u s
  | .uplinkFrameRx u f => Sys2Proof.Machine.execUplinkFrameRx u f s
  | .prpForgetExpiry src seq => Sys2Proof.Machine.execPrpForgetExpiry src seq s
  | .prpSupervisionTx => Sys2Proof.Machine.execPrpSupervisionTx s
  | .proxyEntryAgeout mac => Sys2Proof.Machine.execProxyEntryAgeout mac s
  | .txFrameStart u have_ => Sys2Proof.Machine.execTxFrameStart u have_ s
  | .txUnderrun u => Sys2Proof.Machine.execTxUnderrun u s
  | .txStartWrite w u v => Sys2Proof.Machine.execTxStartWrite w u v s
  | .speedMaxWrite w u v => Sys2Proof.Machine.execSpeedMaxWrite w u v s
  | .ptpMessageRx u m => Sys2Proof.Machine.execPtpMessageRx u m s
  | .ptpAnnounceTimeout => Sys2Proof.Machine.execPtpAnnounceTimeout s
  | .mkaSecured session => Sys2Proof.Machine.execMkaSecured session s
  | .mkaRetry u => Sys2Proof.Machine.execMkaRetry u s
  | .mkaBRestartTimeout => Sys2Proof.Machine.execMkaBRestartTimeout s
  | .standbyLinkRetry u => Sys2Proof.Machine.execStandbyLinkRetry u s
  | .downshiftWindow u load => Sys2Proof.Machine.execDownshiftWindow u load s
  | .speedShiftEnd u speed => Sys2Proof.Machine.execSpeedShiftEnd u speed s
  | .downshiftDisable w v => Sys2Proof.Machine.execDownshiftDisable w v s
  | .mkaFailed u => Sys2Proof.Machine.execMkaFailed u s
  | .fieldFrameRx p f => Sys2Proof.Machine.execFieldFrameRx p f s
  | .bcastWindowReset p => Sys2Proof.Machine.execBcastWindowReset p s
  | .pseStart p foreignMv sigOk => Sys2Proof.Machine.execPseStart p foreignMv sigOk s
  | .pseCheckRepeat p foreignMv sigOk => Sys2Proof.Machine.execPseCheckRepeat p foreignMv sigOk s
  | .pseClassificationDone port others => Sys2Proof.Machine.execPseClassificationDone port others s
  | .psePowerGoodCheck p portMv sourceMv => Sys2Proof.Machine.execPsePowerGoodCheck p portMv sourceMv s
  | .pseOvercurrentTrip p ma => Sys2Proof.Machine.execPseOvercurrentTrip p ma s
  | .pseOverload p ma => Sys2Proof.Machine.execPseOverload p ma s
  | .pseUndervoltage p portMv sourceMv => Sys2Proof.Machine.execPseUndervoltage p portMv sourceMv s
  | .pseDisconnect p ma => Sys2Proof.Machine.execPseDisconnect p ma s
  | .fieldPwrOutOfRange mv => Sys2Proof.Machine.execFieldPwrOutOfRange mv s
  | .fieldPwrRecovered mv => Sys2Proof.Machine.execFieldPwrRecovered mv s
  | .pseFaultRetry p => Sys2Proof.Machine.execPseFaultRetry p s
  | .pseResetCmd w v => Sys2Proof.Machine.execPseResetCmd w v s
  | .pseInputOverBudget measured => Sys2Proof.Machine.execPseInputOverBudget measured s
  | .plcaCycle seg burst meanUs => Sys2Proof.Machine.execPlcaCycle seg burst meanUs s
  | .t1sForeignBeacon seg => Sys2Proof.Machine.execT1sForeignBeacon seg s
  | .t1sForeignClear seg => Sys2Proof.Machine.execT1sForeignClear seg s
  | .t1sCollision collision => Sys2Proof.Machine.execT1sCollision collision s
  | .t1sJabber seg => Sys2Proof.Machine.execT1sJabber seg s
  | .t1sMediumStuck seg => Sys2Proof.Machine.execT1sMediumStuck seg s
  | .t1sBeaconRestart seg => Sys2Proof.Machine.execT1sBeaconRestart seg s
  | .mstpToken p waiting others => Sys2Proof.Machine.execMstpToken p waiting others s
  | .mstpTokenLoss p => Sys2Proof.Machine.execMstpTokenLoss p s
  | .mstpFrameRx p src bad request => Sys2Proof.Machine.execMstpFrameRx p src bad request s
  | .mstpDupClear p => Sys2Proof.Machine.execMstpDupClear p s
  | .modbusPollDue p entry at_ => Sys2Proof.Machine.execModbusPollDue p entry at_ s
  | .modbusReplyRx p r => Sys2Proof.Machine.execModbusReplyRx p r s
  | .modbusReplyTimeout p => Sys2Proof.Machine.execModbusReplyTimeout p s
  | .modbusOutChange p entry => Sys2Proof.Machine.execModbusOutChange p entry s
  | .rs485BusFault p => Sys2Proof.Machine.execRs485BusFault p s
  | .rs485BusIdle p => Sys2Proof.Machine.execRs485BusIdle p s
  | .t1lLinkUp p high snr => Sys2Proof.Machine.execT1lLinkUp p high snr s
  | .t1lLinkDown p => Sys2Proof.Machine.execT1lLinkDown p s
  | .plcaPresenceAgeout seg node => Sys2Proof.Machine.execPlcaPresenceAgeout seg node s
  | .mstpMasterAgeout p station => Sys2Proof.Machine.execMstpMasterAgeout p station s
  | .lbPostedWrite addr v meets => Sys2Proof.Machine.execLbPostedWrite addr v meets s
  | .lbwGo => Sys2Proof.Machine.execLbwGo s
  | .lbwDoneRead => Sys2Proof.Machine.execLbwDoneRead s
  | .waferRefresh period => Sys2Proof.Machine.execWaferRefresh period s
  | .bspTrain => Sys2Proof.Machine.execBspTrain s
  | .bspAligned => Sys2Proof.Machine.execBspAligned s
  | .bspRetrain invalid => Sys2Proof.Machine.execBspRetrain invalid s
  | .bspFrameRx bytes => Sys2Proof.Machine.execBspFrameRx bytes s
  | .bspCreditRx seq code comp => Sys2Proof.Machine.execBspCreditRx seq code comp s
  | .bspCreditTimeout => Sys2Proof.Machine.execBspCreditTimeout s
  | .bspEnableWrite w v => Sys2Proof.Machine.execBspEnableWrite w v s
  | .analogueSample c live spare term => Sys2Proof.Machine.execAnalogueSample c live spare term s
  | .anaOutWrite w c v => Sys2Proof.Machine.execAnaOutWrite w c v s
  | .channelFirstSample c m term => Sys2Proof.Machine.execChannelFirstSample c m term s
  | .anaConditionChange c k m limit => Sys2Proof.Machine.execAnaConditionChange c k m limit s
  | .complianceSet c m limit => Sys2Proof.Machine.execComplianceSet c m limit s
  | .complianceClear c stage => Sys2Proof.Machine.execComplianceClear c stage s
  | .miswireDetect c lp io drive readback => Sys2Proof.Machine.execMiswireDetect c lp io drive readback s
  | .miswireClear c lp io => Sys2Proof.Machine.execMiswireClear c lp io s
  | .hartIdentify c => Sys2Proof.Machine.execHartIdentify c s
  | .hartIdentifyRetry c => Sys2Proof.Machine.execHartIdentifyRetry c s
  | .hartModemVisit modem => Sys2Proof.Machine.execHartModemVisit modem s
  | .hartReplyRx modem r => Sys2Proof.Machine.execHartReplyRx modem r s
  | .hartReplyTimeout modem => Sys2Proof.Machine.execHartReplyTimeout modem s
  | .hartPassthroughReq w c v => Sys2Proof.Machine.execHartPassthroughReq w c v s
  | .referenceCompare vref iref => Sys2Proof.Machine.execReferenceCompare vref iref s
  | .turnoverStepDue b => Sys2Proof.Machine.execTurnoverStepDue b s
  | .spareCalibrationDone b classes delay => Sys2Proof.Machine.execSpareCalibrationDone b classes delay s
  | .turnoverCheckEnd b diff overRange => Sys2Proof.Machine.execTurnoverCheckEnd b diff overRange s
  | .checkRepeat b => Sys2Proof.Machine.execCheckRepeat b s
  | .crossFadeStart start => Sys2Proof.Machine.execCrossFadeStart start s
  | .crossFadeEnd b => Sys2Proof.Machine.execCrossFadeEnd b s
  | .releasedCalibrationDone b classes delay => Sys2Proof.Machine.execReleasedCalibrationDone b classes delay s
  | .calStepNow w b v => Sys2Proof.Machine.execCalStepNow w b v s
  | .calRunClear w b v => Sys2Proof.Machine.execCalRunClear w b v s
  | .liveConverterFailure b j gap => Sys2Proof.Machine.execLiveConverterFailure b j gap s
  | .lineCycleEnd e => Sys2Proof.Machine.execLineCycleEnd e s
  | .voltageLoss v => Sys2Proof.Machine.execVoltageLoss v s
  | .intervalBoundary t => Sys2Proof.Machine.execIntervalBoundary t s
  | .pulseStart o => Sys2Proof.Machine.execPulseStart o s
  | .pulseEnd o => Sys2Proof.Machine.execPulseEnd o s
  | .pulseConstWrite w m v => Sys2Proof.Machine.execPulseConstWrite w m v s
  | .vbatClear w gen => Sys2Proof.Machine.execVbatClear w gen s
  | .captureCmd w c => Sys2Proof.Machine.execCaptureCmd w c s
  | .captureStart first => Sys2Proof.Machine.execCaptureStart first s
  | .captureComplete failed => Sys2Proof.Machine.execCaptureComplete failed s
  | .timedLineCycleEnd d => Sys2Proof.Machine.execTimedLineCycleEnd d s
  | .loopSample slot mismatch => Sys2Proof.Machine.execLoopSample slot mismatch s
  | .selfCheckDone a b agree => Sys2Proof.Machine.execSelfCheckDone a b agree s
  | .engineResyncComplete => Sys2Proof.Machine.execEngineResyncComplete s
  | .softSetpointWrite w slot v => Sys2Proof.Machine.execSoftSetpointWrite w slot v s
  | .ctlModeWrite w slot v => Sys2Proof.Machine.execCtlModeWrite w slot v s
  | .repMemoryClear w u v => Sys2Proof.Machine.execRepMemoryClear w u v s
  | .motionTick sense lanes => Sys2Proof.Machine.execMotionTick sense lanes s
  | .stepPulse c gapNs => Sys2Proof.Machine.execStepPulse c gapNs s
  | .idleCurrentReduce c => Sys2Proof.Machine.execIdleCurrentReduce c s
  | .motTargetWrite w c v => Sys2Proof.Machine.execMotTargetWrite w c v s
  | .referenceCmd w c v => Sys2Proof.Machine.execReferenceCmd w c v s
  | .referenceSettled c => Sys2Proof.Machine.execReferenceSettled c s
  | .referenceBackoffDone c => Sys2Proof.Machine.execReferenceBackoffDone c s
  | .switchEdgeLatch k input level count time => Sys2Proof.Machine.execSwitchEdgeLatch k input level count time s
  | .encoderIllegalTransition k => Sys2Proof.Machine.execEncoderIllegalTransition k s
  | .encoderEdgeCount k up => Sys2Proof.Machine.execEncoderEdgeCount k up s
  | .liftCycle => Sys2Proof.Machine.execLiftCycle s
  | .driveStatusFrameRx k src bytes => Sys2Proof.Machine.execDriveStatusFrameRx k src bytes s
  | .driveLinkLost k => Sys2Proof.Machine.execDriveLinkLost k s
  | .driveLinkRestored k => Sys2Proof.Machine.execDriveLinkRestored k s
  | .magnetiseTimeout k => Sys2Proof.Machine.execMagnetiseTimeout k s
  | .brakeOpenTimeout k => Sys2Proof.Machine.execBrakeOpenTimeout k s
  | .followingError k => Sys2Proof.Machine.execFollowingError k s
  | .brakeReleaseDelay k => Sys2Proof.Machine.execBrakeReleaseDelay k s
  | .learnRunCmd w k v => Sys2Proof.Machine.execLearnRunCmd w k v s
  | .learnRunEnd k => Sys2Proof.Machine.execLearnRunEnd k s
  | .liftFaultReset w k v => Sys2Proof.Machine.execLiftFaultReset w k v s
  | .relevelStart k => Sys2Proof.Machine.execRelevelStart k s
  | .liftCall w k v => Sys2Proof.Machine.execLiftCall w k v s
  | .liftStatusPublish k => Sys2Proof.Machine.execLiftStatusPublish k s
  | .parkTimeout k => Sys2Proof.Machine.execParkTimeout k s
  | .doorDwellExpiry k => Sys2Proof.Machine.execDoorDwellExpiry k s
  | .nudgeTimeout k => Sys2Proof.Machine.execNudgeTimeout k s
  | .blockedOpeningRetry d => Sys2Proof.Machine.execBlockedOpeningRetry d s
  | .islandCycle x => Sys2Proof.Machine.execIslandCycle x s
  | .inputTestPulse p b siA siB => Sys2Proof.Machine.execInputTestPulse p b siA siB s
  | .outputTestPulse o half soH soL moved demand => Sys2Proof.Machine.execOutputTestPulse o half soH soL moved demand s
  | .outputOverload o => Sys2Proof.Machine.execOutputOverload o s
  | .macaronProducerSend c => Sys2Proof.Machine.execMacaronProducerSend c s
  | .macaronCopyRx lan src pdu => Sys2Proof.Machine.execMacaronCopyRx lan src pdu s
  | .macaronSkewExpiry c => Sys2Proof.Machine.execMacaronSkewExpiry c s
  | .macaronWatchdog c => Sys2Proof.Machine.execMacaronWatchdog c s
  | .safAck w v => Sys2Proof.Machine.execSafAck w v s
  | .safUcmAck w k v => Sys2Proof.Machine.execSafUcmAck w k v s
  | .safHoldExit w v => Sys2Proof.Machine.execSafHoldExit w v s
  | .programCycleStart p at_ => Sys2Proof.Machine.execProgramCycleStart p at_ s
  | .programCycleEnd p at_ writes => Sys2Proof.Machine.execProgramCycleEnd p at_ writes s
  | .programOverrun p => Sys2Proof.Machine.execProgramOverrun p s
  | .overrunWarnClear p => Sys2Proof.Machine.execOverrunWarnClear p s
  | .programTrap p illegal pc => Sys2Proof.Machine.execProgramTrap p illegal pc s
  | .programRunWrite w p v => Sys2Proof.Machine.execProgramRunWrite w p v s
  | .stageCheckCmd w p v => Sys2Proof.Machine.execStageCheckCmd w p v s
  | .stageCheckDone p => Sys2Proof.Machine.execStageCheckDone p s
  | .programExchange w p v => Sys2Proof.Machine.execProgramExchange w p v s
  | .rtcSecondBoundary => Sys2Proof.Machine.execRtcSecondBoundary s
  | .rtcSecondsWrite w v => Sys2Proof.Machine.execRtcSecondsWrite w v s
  | .rtcCalWrite w v => Sys2Proof.Machine.execRtcCalWrite w v s
  | .rtcShiftWrite w v => Sys2Proof.Machine.execRtcShiftWrite w v s
  | .rtcSyncCompare => Sys2Proof.Machine.execRtcSyncCompare s
  | .vbatSwitchOver => Sys2Proof.Machine.execVbatSwitchOver s
  | .vaonSwitchBack => Sys2Proof.Machine.execVaonSwitchBack s
  | .vbatMeasure mv => Sys2Proof.Machine.execVbatMeasure mv s
  | .backupDomainBrownout => Sys2Proof.Machine.execBackupDomainBrownout s
  | .storeCmd w v => Sys2Proof.Machine.execStoreCmd w v s
  | .storeStart => Sys2Proof.Machine.execStoreStart s
  | .storeComplete bad us => Sys2Proof.Machine.execStoreComplete bad us s
  | .allowanceReplenish => Sys2Proof.Machine.execAllowanceReplenish s
  | .recorderFlush => Sys2Proof.Machine.execRecorderFlush s
  | .recordMove rest => Sys2Proof.Machine.execRecordMove rest s
  | .recReadRequest w r v => Sys2Proof.Machine.execRecReadRequest w r v s
  | .recContextExpiry r => Sys2Proof.Machine.execRecContextExpiry r s
  | .recDump w v => Sys2Proof.Machine.execRecDump w v s
  | .recDumpEraseTimeout => Sys2Proof.Machine.execRecDumpEraseTimeout s
  | .recDumpComplete failed => Sys2Proof.Machine.execRecDumpComplete failed s
  | .recClear w v => Sys2Proof.Machine.execRecClear w v s
  | .recClearApply => Sys2Proof.Machine.execRecClearApply s
  | .updBegin w v => Sys2Proof.Machine.execUpdBegin w v s
  | .updBlock w v => Sys2Proof.Machine.execUpdBlock w v s
  | .blockProgrammed => Sys2Proof.Machine.execBlockProgrammed s
  | .bspImageBlock => Sys2Proof.Machine.execBspImageBlock s
  | .updVerify w v => Sys2Proof.Machine.execUpdVerify w v s
  | .verifyComplete badBlock => Sys2Proof.Machine.execVerifyComplete badBlock s
  | .updActivate w v => Sys2Proof.Machine.execUpdActivate w v s
  | .updHealthOk w v => Sys2Proof.Machine.execUpdHealthOk w v s
  | .probationExpiry => Sys2Proof.Machine.execProbationExpiry s
  | .keyReplace w v => Sys2Proof.Machine.execKeyReplace w v s
  | .vmainMeasure vmain vsafe power => Sys2Proof.Machine.execVmainMeasure vmain vsafe power s
  | .vsafeLow mv => Sys2Proof.Machine.execVsafeLow mv s
  | .vsafeRecover mv => Sys2Proof.Machine.execVsafeRecover mv s
  | .tempMeasure land soc => Sys2Proof.Machine.execTempMeasure land soc s

end Sys2Proof.Machine
end

