-- ==== Sys2Proof/Safety.lean ====
section
/-!
DEFINITION. What the claims are stated in: the canonical dictionary store, and what a command may change.
-/
namespace Sys2Proof.Safety

open Sys2Proof.Machine

/-- The dictionary store is canonical: cells strictly rising, none at its default, none beyond its element's width. Equal contents
are then equal data, and every element reads a value of its type. -/
def Canonical (s : State) : Prop := odWf s.variant s.od = true

/-- The parts of the state beside the dictionary entries, the variant and the queue of commands. -/
inductive Part where
  | free | mode | now | crystal | flashValid | out | mer | sys | txn | nvs | recd | rtc | trend | pts | net | fld | lbs | nextXfer
  | ana | turn | nrg | ctl | mot | lft | saf | prg | upd | keys | dram
  deriving DecidableEq, Repr

/-- Two states agree on a part. -/
def Part.Same (s t : State) : Part → Prop
  | .free => t.free = s.free
  | .mode => t.mode = s.mode
  | .now => t.now = s.now
  | .crystal => t.crystal = s.crystal
  | .flashValid => t.flashValid = s.flashValid
  | .out => t.out = s.out
  | .mer => t.mer = s.mer
  | .sys => t.sys = s.sys
  | .txn => t.txn = s.txn
  | .nvs => t.nvs = s.nvs
  | .recd => t.recd = s.recd
  | .rtc => t.rtc = s.rtc
  | .trend => t.trend = s.trend
  | .pts => t.pts = s.pts
  | .net => t.net = s.net
  | .fld => t.fld = s.fld
  | .lbs => t.lbs = s.lbs
  | .nextXfer => t.nextXfer = s.nextXfer
  | .ana => t.ana = s.ana
  | .turn => t.turn = s.turn
  | .nrg => t.nrg = s.nrg
  | .ctl => t.ctl = s.ctl
  | .mot => t.mot = s.mot
  | .lft => t.lft = s.lft
  | .saf => t.saf = s.saf
  | .prg => t.prg = s.prg
  | .upd => t.upd = s.upd
  | .keys => t.keys = s.keys
  | .dram => t.dram = s.dram

/-- Whether a list of indices admits a write of index `i`; `none` admits every index. -/
def admits (w : Option (List Nat)) (i : Nat) : Bool :=
  match w with
  | none => true
  | some l => l.contains i

/-- From `s` to `t` nothing changes but entries whose index `w` admits and the parts in `ps`; the variant and the queue stay, and a
canonical store stays canonical. -/
structure Within (w : Option (List Nat)) (ps : List Part) (s t : State) : Prop where
  variant : t.variant = s.variant
  pending : t.pending = s.pending
  canonical : Canonical s → Canonical t
  entries : ∀ i e, admits w i = false → t.rd i e = s.rd i e
  parts : ∀ p, ps.contains p = false → p.Same s t

/-! ## What each command may change -/

/-- Indices that the 5 commands naming this list may write. -/
def bacnetWrites : List Nat :=
  [Od.od_unbound_drops, Od.net_q_drops, Od.fld_tx_drops, Od.od_port_hits]

/-- Indices that the 3 commands naming this list may write. -/
def conditionWrites : List Nat :=
  [Od.rec_dropped, Od.ana_status, Od.ana_compliance, Od.ana_faults]

/-- Indices that the 2 commands naming this list may write. -/
def miswireWrites : List Nat :=
  [Od.rec_dropped, Od.ana_status, Od.ana_compliance, Od.ana_miswire, Od.ana_faults]

/-- Indices that the 3 commands naming this list may write. -/
def mkaWrites : List Nat :=
  [Od.sys_health, Od.sys_fault_count, Od.net_q_drops, Od.net_macsec_state, Od.rec_dropped, Od.key_lc_used]

/-- Indices that the 2 commands naming this list may write. -/
def pseTripWrites : List Nat :=
  [Od.fld_pse_state, Od.fld_pse_class, Od.fld_pse_current, Od.fld_pse_alloc, Od.fld_pse_faults, Od.rec_dropped]

/-- Indices that the 2 commands naming this list may write. -/
def sampleWrites : List Nat :=
  [Od.rec_dropped, Od.ana_meas, Od.ana_value, Od.ana_status, Od.ana_compliance, Od.ana_term_v, Od.ana_faults]

/-- Indices that the 3 commands naming this list may write. -/
def carFaultWrites : List Nat :=
  [Od.rec_dropped, Od.lft_fault]

/-- Indices that the 53 commands naming this list may write. -/
def requestWrites : List Nat :=
  [Od.sys_hold_test, Od.sys_fault_retest, Od.od_unbound_drops, Od.net_q_drops, Od.fld_tx_drops, Od.od_port_hits, Od.txn_closure,
   Od.txn_next_seq, Od.txn_ledger_full, Od.txn_duplicates, Od.txn_dup_mismatch, Od.txn_conflicts, Od.nvs_allowance, Od.rec_dropped,
   Od.key_fails]

/-- Indices that the 2 commands naming this list may write. -/
def lineCycleWrites : List Nat :=
  [Od.net_q_drops, Od.fld_tx_drops, Od.rec_dropped, Od.lbs_bsp_credits, Od.nrg_acc, Od.nrg_vrms, Od.nrg_irms, Od.nrg_p, Od.nrg_q,
   Od.nrg_freq, Od.nrg_pnet, Od.nrg_dir, Od.nrg_status, Od.nrg_vloss, Od.nrg_reversals, Od.nrg_pulse_const, Od.nrg_pulse_stamp,
   Od.nrg_pulse_rem, Od.nrg_pulse_backlog, Od.nrg_cap_state, Od.nrg_cap_transfer]

/-- Indices that the 2 commands naming this list may write. -/
def safetyWrites : List Nat :=
  [Od.net_q_drops, Od.net_dot1x_state, Od.fld_pse_state, Od.fld_pse_class, Od.nvs_last_cause, Od.rec_dropped, Od.ctl_man_out,
   Od.ctl_out, Od.ctl_status, Od.mot_cmd_pos, Od.mot_cmd_vel, Od.mot_cmd_acc, Od.mot_state, Od.mot_status, Od.mot_ref_result,
   Od.lft_learn_result, Od.lft_door_state, Od.saf_trip_cause, Od.saf_trip_gen, Od.saf_latch_gen, Od.saf_out_state,
   Od.saf_out_fault, Od.saf_out_faults]

/-- Indices that the 2 commands naming this list may write. -/
def holdupWrites : List Nat :=
  [Od.sys_vmain, Od.sys_clk_run, Od.sys_trend_state, Od.fld_t1l_state, Od.fld_t1l_snr, Od.fld_pse_state, Od.fld_pse_alloc,
   Od.fld_t1s_state, Od.fld_rs_state, Od.nvs_store_count, Od.nvs_generation, Od.nvs_last_store, Od.nvs_last_cause, Od.rec_dropped,
   Od.rec_dump_state, Od.lbs_bsp_state, Od.lbs_bsp_credits, Od.ana_status, Od.ana_hart_state, Od.nrg_acc, Od.nrg_pulse_rem,
   Od.nrg_pulse_backlog, Od.nrg_cap_state, Od.saf_state, Od.saf_out_state]

/-- Parts that the 3 commands naming this list may change. -/
def programParts : List Part :=
  [.out, .mer, .txn, .recd, .net, .fld, .lbs, .prg]

/-- Parts that the 2 commands naming this list may change. -/
def lineCycleParts : List Part :=
  [.out, .mer, .txn, .recd, .net, .fld, .lbs, .nextXfer, .nrg]

/-- Parts that the 6 commands naming this list may change. -/
def safetyParts : List Part :=
  [.mode, .out, .sys, .nvs, .recd, .net, .ana, .mot, .lft, .saf]

/-- Parts that the 56 commands naming this list may change. -/
def requestParts : List Part :=
  [.free, .out, .mer, .sys, .txn, .recd, .net, .fld, .lbs, .prg, .keys]

/-- Parts that the 2 commands naming this list may change. -/
def holdupParts : List Part :=
  [.mode, .mer, .sys, .txn, .nvs, .recd, .net, .fld, .lbs, .ana, .nrg, .mot, .lft, .saf, .prg]

/-- Parts that the 7 commands naming this list may change. -/
def resetParts : List Part :=
  [.free, .mode, .now, .flashValid, .mer, .sys, .txn, .nvs, .recd, .rtc, .trend, .pts, .net, .fld, .lbs, .ana, .turn, .nrg, .ctl, .mot,
   .lft, .saf, .prg, .upd, .keys, .dram]

/-- Parts that the 3 commands naming this list may change. -/
def wakeParts : List Part :=
  [.free, .mode, .now, .flashValid, .out, .mer, .sys, .txn, .nvs, .recd, .rtc, .trend, .pts, .net, .fld, .lbs, .ana, .turn, .nrg, .ctl,
   .mot, .lft, .saf, .prg, .upd, .keys, .dram]

/-- The dictionary indices a command may write; `none` where it may write any. -/
def mayWrite : Instr → Option (List Nat)
  | .powerOnReset _ => none
  | .bootEnd _ => none
  | .powerFail _ _ => some holdupWrites
  | .internalRailFault _ _ => some holdupWrites
  | .vmainReturnInHoldup => some []
  | .holdupStoreComplete _ _ _ => none
  | .standbyVmainFail => some [Od.rec_dropped]
  | .watchdogReset _ => none
  | .softwareReset _ _ => none
  | .mprCommand _ => none
  | .appWatchdogExpiry => none
  | .mprComplete => some [Od.sys_clk_run, Od.lbs_bsp_credits]
  | .actReset _ => none
  | .mpRestart _ => some []
  | .reservoirCharged _ => some []
  | .reservoirChargeTimeout _ => some [Od.sys_health, Od.sys_fault_count, Od.rec_dropped]
  | .reservoirChargeRetry _ => some []
  | .hourlyHoldTest _ => some []
  | .holdTestCmd _ _ => some requestWrites
  | .holdTestComplete _ _ => some
      [Od.sys_hold_cap, Od.sys_hold_esr, Od.sys_hold_energy, Od.sys_hold_test, Od.sys_health, Od.sys_fault_count, Od.rec_dropped]
  | .modeRequest _ _ => some requestWrites
  | .modeTransitionStart => some
      [Od.sys_mode_req, Od.net_q_drops, Od.net_dot1x_state, Od.fld_tx_drops, Od.fld_pse_state, Od.fld_pse_alloc, Od.nvs_last_cause,
       Od.rec_dropped]
  | .standbyEntryComplete _ => none
  | .wakePin _ => none
  | .wakeTimed _ => none
  | .wakePatternMatch _ _ _ => none
  | .parityMismatch _ _ _ _ _ => some
      [Od.sys_health, Od.sys_parity_replays, Od.sys_parity_persist, Od.sys_fault_count, Od.sys_rt_active, Od.net_q_drops,
       Od.net_dot1x_state, Od.fld_pse_state, Od.fld_pse_class, Od.nvs_last_cause, Od.rec_dropped, Od.cal_state, Od.ctl_man_out,
       Od.ctl_out, Od.ctl_status, Od.mot_cmd_pos, Od.mot_cmd_vel, Od.mot_cmd_acc, Od.mot_state, Od.mot_status, Od.mot_ref_result,
       Od.lft_learn_result, Od.lft_door_state, Od.saf_trip_cause, Od.saf_trip_gen, Od.saf_out_state, Od.prg_takeovers]
  | .dramPageRetireComplete _ => some [Od.sys_health, Od.sys_dram_retired, Od.sys_dram_spares, Od.rec_dropped]
  | .fabricAccessRefused _ _ => some [Od.sys_access_refused, Od.rec_dropped]
  | .faultRetestCmd _ _ => some requestWrites
  | .faultRetestComplete _ => some
      [Od.sys_health, Od.sys_fault_retest, Od.rec_dropped, Od.cal_state, Od.cal_spare, Od.cal_ref, Od.cal_gain, Od.cal_offset,
       Od.cal_linearity, Od.cal_delay, Od.cal_time, Od.cal_shift, Od.cal_result, Od.ctl_instance, Od.saf_trip_cause]
  | .clockStart _ => some [Od.sys_clk_run, Od.sys_clk_late]
  | .clockGate _ => some [Od.sys_clk_run]
  | .mpFrame _ => some []
  | .mpLoadUpdate => some [Od.sys_mp_load, Od.sys_mp_class_load, Od.sys_mp_deferred]
  | .trendSample _ => some []
  | .trendArchiveMove _ => some [Od.sys_trend_oldest, Od.sys_trend_fill]
  | .trendDumpCmd _ _ => some requestWrites
  | .trendTransferComplete _ => some [Od.sys_trend_state]
  | .copDatagramRx _ _ => some
      [Od.sys_hold_test, Od.sys_fault_retest, Od.od_unbound_drops, Od.od_malformed, Od.od_queue_full, Od.net_q_drops, Od.fld_tx_drops,
       Od.od_port_hits, Od.txn_closure, Od.txn_next_seq, Od.txn_ledger_full, Od.txn_duplicates, Od.txn_dup_mismatch, Od.txn_conflicts,
       Od.nvs_allowance, Od.rec_dropped, Od.key_fails]
  | .copRead _ _ _ => some requestWrites
  | .copWrite _ _ _ => some requestWrites
  | .copDescribe _ _ _ => some requestWrites
  | .txnBegin _ => some requestWrites
  | .txnCommit _ _ => some requestWrites
  | .txnRollback _ _ => some requestWrites
  | .commitTick => none
  | .responseTimeout _ => some [Od.net_q_drops, Od.fld_tx_drops]
  | .txnIdleTimeout _ => some [Od.txn_closure, Od.txn_expired]
  | .lbTxnBegin _ _ => some requestWrites
  | .lbTxnCommit _ _ => some requestWrites
  | .lbTxnRollback _ _ => some requestWrites
  | .entryWrite _ _ _ _ _ => some requestWrites
  | .pointScan => none
  | .bacnetReadProperty _ _ => some bacnetWrites
  | .bacnetWriteProperty _ _ => some
      [Od.sys_hold_test, Od.sys_fault_retest, Od.od_unbound_drops, Od.net_q_drops, Od.fld_tx_drops, Od.od_port_hits, Od.txn_next_seq,
       Od.txn_ledger_full, Od.nvs_allowance, Od.key_fails]
  | .bacnetSubscribeCov _ _ _ _ _ _ _ => some bacnetWrites
  | .bacnetCovExpiry _ _ _ _ => some []
  | .bacnetWhoIs _ _ _ => some bacnetWrites
  | .bacnetWhoHas _ _ _ => some bacnetWrites
  | .bacnetUnsupportedService _ _ _ => some bacnetWrites
  | .bacnetFdRegistration => some [Od.net_q_drops]
  | .eapolStartRepeat _ => some [Od.net_q_drops]
  | .eapolFrameRx _ _ => some
      [Od.sys_health, Od.sys_fault_count, Od.net_q_drops, Od.net_macsec_state, Od.net_dot1x_state, Od.net_dot1x_fails, Od.rec_dropped,
       Od.key_lc_used]
  | .dot1xExchangeTimeout _ => some [Od.sys_health, Od.sys_fault_count, Od.net_dot1x_state, Od.net_dot1x_fails, Od.rec_dropped]
  | .dot1xHoldEnd _ => some [Od.net_q_drops, Od.net_dot1x_state]
  | .commissionAdmission _ => some [Od.net_dot1x_state]
  | .uplinkLinkUp _ _ => some
      [Od.sys_health, Od.sys_fault_count, Od.net_link_state, Od.net_speed, Od.net_q_drops, Od.net_dot1x_state, Od.rec_dropped]
  | .uplinkLinkDown _ => some
      [Od.sys_health, Od.sys_fault_count, Od.net_link_state, Od.net_speed, Od.net_macsec_state, Od.net_dot1x_state, Od.rec_dropped]
  | .prpSilenceTimeout _ => some [Od.sys_health, Od.sys_fault_count, Od.rec_dropped]
  | .uplinkFaultClear _ => some [Od.sys_health, Od.rec_dropped]
  | .uplinkFrameRx _ _ => some
      [Od.net_rx_oversize, Od.net_rx_pause, Od.net_q_drops, Od.net_prp_rx, Od.net_prp_wrong_lan, Od.net_prp_discarded,
       Od.net_prp_nodes, Od.net_macsec_drops, Od.fld_tx_drops]
  | .prpForgetExpiry _ _ => some [Od.net_prp_single]
  | .prpSupervisionTx => some [Od.net_q_drops]
  | .proxyEntryAgeout _ => some [Od.net_prp_proxied]
  | .txFrameStart _ _ => some [Od.net_q_drops, Od.net_q_frames]
  | .txUnderrun _ => some [Od.net_tx_thresh, Od.net_underruns, Od.rec_dropped]
  | .txStartWrite _ _ _ => some requestWrites
  | .speedMaxWrite _ _ _ => some requestWrites
  | .ptpMessageRx _ _ => some
      [Od.net_q_drops, Od.net_ptp_state, Od.net_ptp_port, Od.net_ptp_offset, Od.net_ptp_delay, Od.net_ptp_gm, Od.rtc_tai_offset,
       Od.rec_dropped]
  | .ptpAnnounceTimeout => some [Od.net_ptp_state, Od.net_ptp_port, Od.net_ptp_gm]
  | .mkaSecured _ => some mkaWrites
  | .mkaRetry _ => some mkaWrites
  | .mkaBRestartTimeout => some mkaWrites
  | .standbyLinkRetry _ => some []
  | .downshiftWindow _ _ => some
      [Od.sys_health, Od.sys_fault_count, Od.net_link_state, Od.net_speed, Od.net_macsec_state, Od.net_shift_count, Od.net_shift_load,
       Od.net_dot1x_state, Od.rec_dropped]
  | .speedShiftEnd _ _ => some
      [Od.sys_health, Od.sys_fault_count, Od.net_link_state, Od.net_speed, Od.net_macsec_state, Od.net_shift_count, Od.net_dot1x_state,
       Od.rec_dropped]
  | .downshiftDisable _ _ => some requestWrites
  | .mkaFailed _ => some [Od.sys_health, Od.sys_fault_count, Od.net_macsec_state, Od.rec_dropped]
  | .fieldFrameRx _ _ => some
      [Od.net_q_drops, Od.net_prp_proxied, Od.net_prp_proxy_over, Od.fld_bcast_drops, Od.fld_rx_discards, Od.fld_tx_drops,
       Od.fld_rx_frames, Od.fld_plca_present]
  | .bcastWindowReset _ => some []
  | .pseStart _ _ _ => some [Od.fld_pse_state]
  | .pseCheckRepeat _ _ _ => some [Od.fld_pse_state]
  | .pseClassificationDone _ _ => some [Od.fld_pse_state, Od.fld_pse_class, Od.fld_pse_alloc]
  | .psePowerGoodCheck _ _ _ => some
      [Od.fld_t1l_state, Od.fld_pse_state, Od.fld_pse_class, Od.fld_pse_voltage, Od.fld_pse_alloc, Od.fld_pse_faults, Od.rec_dropped]
  | .pseOvercurrentTrip _ _ => some pseTripWrites
  | .pseOverload _ _ => some pseTripWrites
  | .pseUndervoltage _ _ _ => some
      [Od.fld_pse_state, Od.fld_pse_class, Od.fld_pse_voltage, Od.fld_pse_alloc, Od.fld_pse_faults, Od.rec_dropped]
  | .pseDisconnect _ _ => some [Od.fld_pse_state, Od.fld_pse_class, Od.fld_pse_current, Od.fld_pse_alloc]
  | .fieldPwrOutOfRange _ => some [Od.sys_env_status, Od.fld_pse_state, Od.fld_pse_alloc, Od.fld_field_pwr, Od.rec_dropped]
  | .fieldPwrRecovered _ => some [Od.sys_env_status, Od.fld_pse_state, Od.fld_pse_class, Od.fld_field_pwr, Od.rec_dropped]
  | .pseFaultRetry _ => some [Od.fld_pse_state, Od.fld_pse_class]
  | .pseResetCmd _ _ => some requestWrites
  | .pseInputOverBudget _ => some [Od.fld_pse_state, Od.fld_pse_current, Od.fld_pse_voltage, Od.fld_pse_alloc, Od.fld_pse_input]
  | .plcaCycle _ _ _ => some [Od.fld_tx_frames, Od.fld_t1s_state, Od.fld_t1s_cycle]
  | .t1sForeignBeacon _ => some [Od.fld_t1s_state, Od.fld_t1s_foreign, Od.rec_dropped]
  | .t1sForeignClear _ => some [Od.fld_t1s_state]
  | .t1sCollision _ => some [Od.fld_t1s_collisions, Od.rec_dropped]
  | .t1sJabber _ => some [Od.fld_t1s_jabber, Od.rec_dropped]
  | .t1sMediumStuck _ => some [Od.fld_t1s_state, Od.rec_dropped]
  | .t1sBeaconRestart _ => some []
  | .mstpToken _ _ _ => some [Od.fld_mstp_masters]
  | .mstpTokenLoss _ => some [Od.fld_mstp_masters, Od.fld_mstp_token_loss]
  | .mstpFrameRx _ _ _ _ => some [Od.od_unbound_drops, Od.fld_rs_state, Od.fld_rs_errors, Od.fld_mstp_dup, Od.od_port_hits, Od.rec_dropped]
  | .mstpDupClear _ => some [Od.fld_rs_state]
  | .modbusPollDue _ _ _ => some [Od.fld_mb_status, Od.fld_mb_late]
  | .modbusReplyRx _ _ => some [Od.fld_rs_errors, Od.fld_mb_in, Od.fld_mb_status, Od.fld_mb_late]
  | .modbusReplyTimeout _ => some [Od.fld_mb_status, Od.fld_mb_late]
  | .modbusOutChange _ _ => some [Od.fld_mb_status, Od.fld_mb_late]
  | .rs485BusFault _ => some [Od.fld_rs_state, Od.rec_dropped]
  | .rs485BusIdle _ => some [Od.fld_rs_state]
  | .t1lLinkUp _ _ _ => some [Od.fld_t1l_state, Od.fld_t1l_snr]
  | .t1lLinkDown _ => some [Od.fld_t1l_state, Od.fld_t1l_snr, Od.fld_t1l_downs]
  | .plcaPresenceAgeout _ _ => some [Od.fld_plca_present]
  | .mstpMasterAgeout _ _ => some [Od.fld_mstp_masters]
  | .lbPostedWrite _ _ _ => some [Od.lbs_wr_lost]
  | .lbwGo => some
      [Od.sys_hold_test, Od.sys_fault_retest, Od.od_queue_full, Od.net_q_drops, Od.fld_tx_drops, Od.od_port_hits, Od.txn_closure,
       Od.txn_next_seq, Od.txn_ledger_full, Od.txn_duplicates, Od.txn_dup_mismatch, Od.txn_conflicts, Od.nvs_allowance, Od.rec_dropped,
       Od.key_fails]
  | .lbwDoneRead => some []
  | .waferRefresh _ => some []
  | .bspTrain => some [Od.lbs_bsp_state]
  | .bspAligned => some [Od.lbs_bsp_state, Od.lbs_bsp_credits]
  | .bspRetrain _ => some [Od.sys_trend_state, Od.rec_dump_state, Od.lbs_bsp_state, Od.lbs_bsp_credits, Od.nrg_cap_state]
  | .bspFrameRx _ => some [Od.od_unbound_drops, Od.lbs_bsp_credits, Od.lbs_bsp_resends, Od.lbs_bsp_crc_err]
  | .bspCreditRx _ _ _ => some [Od.lbs_bsp_credits, Od.lbs_bsp_resends, Od.lbs_bsp_crc_err]
  | .bspCreditTimeout => some [Od.lbs_bsp_resends]
  | .bspEnableWrite _ _ => some requestWrites
  | .analogueSample _ _ _ _ => some sampleWrites
  | .anaOutWrite _ _ _ => some requestWrites
  | .channelFirstSample _ _ _ => some sampleWrites
  | .anaConditionChange _ _ _ _ => some conditionWrites
  | .complianceSet _ _ _ => some conditionWrites
  | .complianceClear _ _ => some conditionWrites
  | .miswireDetect _ _ _ _ _ => some miswireWrites
  | .miswireClear _ _ _ => some miswireWrites
  | .hartIdentify _ => some [Od.ana_hart_rsp, Od.ana_hart_last_tag]
  | .hartIdentifyRetry _ => some [Od.ana_hart_rsp, Od.ana_hart_last_tag]
  | .hartModemVisit _ => some [Od.ana_hart_rsp, Od.ana_hart_last_tag]
  | .hartReplyRx _ _ => some
      [Od.ana_status, Od.ana_hart_pv, Od.ana_hart_units, Od.ana_hart_uid, Od.ana_hart_state, Od.ana_hart_dev_status, Od.ana_hart_rsp]
  | .hartReplyTimeout _ => some [Od.ana_status, Od.ana_hart_state, Od.ana_hart_rsp]
  | .hartPassthroughReq _ _ _ => some requestWrites
  | .referenceCompare _ _ => some [Od.sys_health, Od.sys_fault_count, Od.rec_dropped, Od.cal_state, Od.cal_ref]
  | .turnoverStepDue _ => some [Od.cal_state]
  | .spareCalibrationDone _ _ _ => some
      [Od.sys_health, Od.sys_fault_count, Od.rec_dropped, Od.cal_state, Od.cal_spare, Od.cal_gain, Od.cal_offset, Od.cal_linearity,
       Od.cal_delay, Od.cal_time, Od.cal_shift, Od.cal_result]
  | .turnoverCheckEnd _ _ _ => some [Od.rec_dropped, Od.cal_state, Od.cal_aborts, Od.cal_late, Od.cal_disagree]
  | .checkRepeat _ => some []
  | .crossFadeStart _ => some [Od.cal_state]
  | .crossFadeEnd _ => some [Od.cal_state, Od.cal_map, Od.cal_spare, Od.cal_next]
  | .releasedCalibrationDone _ _ _ => some
      [Od.sys_health, Od.sys_fault_count, Od.rec_dropped, Od.cal_state, Od.cal_spare, Od.cal_steps, Od.cal_gain, Od.cal_offset,
       Od.cal_linearity, Od.cal_delay, Od.cal_time, Od.cal_shift, Od.cal_result]
  | .calStepNow _ _ _ => some requestWrites
  | .calRunClear _ _ _ => some requestWrites
  | .liveConverterFailure _ _ _ => some [Od.sys_health, Od.sys_fault_count, Od.rec_dropped, Od.cal_state, Od.cal_map, Od.cal_spare]
  | .lineCycleEnd _ => some lineCycleWrites
  | .voltageLoss _ => some [Od.rec_dropped, Od.nrg_vloss]
  | .intervalBoundary _ => some [Od.nrg_int_last, Od.nrg_int_end]
  | .pulseStart _ => some []
  | .pulseEnd _ => some [Od.nrg_pulse_backlog, Od.nrg_pulse_count]
  | .pulseConstWrite _ _ _ => some requestWrites
  | .vbatClear _ _ => some requestWrites
  | .captureCmd _ _ => some requestWrites
  | .captureStart _ => some [Od.nrg_cap_state]
  | .captureComplete _ => some [Od.nrg_cap_state]
  | .timedLineCycleEnd _ => some lineCycleWrites
  | .loopSample _ _ => some
      [Od.rec_dropped, Od.ctl_mode, Od.ctl_man_out, Od.ctl_out, Od.ctl_status, Od.ctl_sat_count, Od.ctl_pv, Od.ctl_mismatches,
       Od.ctl_rep_index, Od.ctl_rep_peak, Od.mot_status]
  | .selfCheckDone _ _ _ => some
      [Od.sys_health, Od.sys_fault_count, Od.net_q_drops, Od.net_dot1x_state, Od.fld_pse_state, Od.fld_pse_class, Od.nvs_last_cause,
       Od.rec_dropped, Od.ctl_man_out, Od.ctl_out, Od.ctl_status, Od.ctl_instance, Od.ctl_transients, Od.mot_cmd_pos, Od.mot_cmd_vel,
       Od.mot_cmd_acc, Od.mot_state, Od.mot_status, Od.mot_ref_result, Od.lft_learn_result, Od.lft_door_state, Od.saf_trip_cause,
       Od.saf_trip_gen, Od.saf_out_state]
  | .engineResyncComplete => some [Od.ctl_instance]
  | .softSetpointWrite _ _ _ => some requestWrites
  | .ctlModeWrite _ _ _ => some requestWrites
  | .repMemoryClear _ _ _ => some requestWrites
  | .motionTick _ _ => some
      [Od.sys_health, Od.sys_fault_count, Od.net_q_drops, Od.net_dot1x_state, Od.fld_pse_state, Od.fld_pse_class, Od.nvs_last_cause,
       Od.rec_dropped, Od.ctl_man_out, Od.ctl_out, Od.ctl_status, Od.mot_cmd_pos, Od.mot_cmd_vel, Od.mot_cmd_acc, Od.mot_state,
       Od.mot_status, Od.mot_load_angle, Od.mot_slips, Od.mot_ref_result, Od.lft_learn_result, Od.lft_door_state, Od.lft_door_force,
       Od.saf_out_state]
  | .stepPulse _ _ => some [Od.mot_late_steps]
  | .idleCurrentReduce _ => some [Od.mot_status]
  | .motTargetWrite _ _ _ => some requestWrites
  | .referenceCmd _ _ _ => some requestWrites
  | .referenceSettled _ => some [Od.mot_cmd_pos, Od.mot_cmd_vel, Od.mot_cmd_acc, Od.mot_status]
  | .referenceBackoffDone _ => some [Od.mot_state, Od.mot_status, Od.mot_ref_result]
  | .switchEdgeLatch _ _ _ _ _ => some
      [Od.mot_cmd_pos, Od.mot_cmd_vel, Od.mot_cmd_acc, Od.mot_state, Od.mot_status, Od.mot_ref_result, Od.mot_latch_count,
       Od.mot_latch_time, Od.mot_latch_level, Od.mot_latch_seq]
  | .encoderIllegalTransition _ => some [Od.mot_enc_err]
  | .encoderEdgeCount _ _ => some [Od.mot_enc_count]
  | .liftCycle => some
      [Od.net_q_drops, Od.fld_tx_drops, Od.rec_dropped, Od.mot_target, Od.mot_cmd_pos, Od.mot_cmd_vel, Od.mot_cmd_acc, Od.mot_state,
       Od.mot_status, Od.mot_ref_dir, Od.mot_ref_edge, Od.mot_latch_pos, Od.lft_state, Od.lft_op_state, Od.lft_speed, Od.lft_landing,
       Od.lft_dir, Od.lft_status, Od.lft_fault, Od.lft_corr_last, Od.lft_corr_count, Od.lft_car_calls, Od.lft_hall_up, Od.lft_hall_dn,
       Od.lft_call_seq, Od.lft_learn_result, Od.lft_door_state, Od.lft_door_obstr]
  | .driveStatusFrameRx _ _ _ => some [Od.lft_drive_fault]
  | .driveLinkLost _ => some [Od.rec_dropped, Od.lft_status, Od.lft_fault, Od.lft_link_lost]
  | .driveLinkRestored _ => some [Od.lft_status]
  | .magnetiseTimeout _ => some carFaultWrites
  | .brakeOpenTimeout _ => some carFaultWrites
  | .followingError _ => some carFaultWrites
  | .brakeReleaseDelay _ => some []
  | .learnRunCmd _ _ _ => some requestWrites
  | .learnRunEnd _ => some [Od.lft_land_pos, Od.lft_vane_lo, Od.lft_vane_hi, Od.lft_learn_result]
  | .liftFaultReset _ _ _ => some requestWrites
  | .relevelStart _ => some []
  | .liftCall _ _ _ => some requestWrites
  | .liftStatusPublish _ => some [Od.net_q_drops]
  | .parkTimeout _ => some []
  | .doorDwellExpiry _ => some
      [Od.mot_target, Od.mot_cmd_pos, Od.mot_cmd_vel, Od.mot_cmd_acc, Od.mot_state, Od.mot_status, Od.lft_door_state]
  | .nudgeTimeout _ => some [Od.lft_status]
  | .blockedOpeningRetry _ => some [Od.mot_status]
  | .islandCycle _ => some
      [Od.sys_health, Od.sys_fault_count, Od.net_q_drops, Od.net_dot1x_state, Od.fld_pse_state, Od.fld_pse_class, Od.nvs_last_cause,
       Od.rec_dropped, Od.ctl_man_out, Od.ctl_out, Od.ctl_status, Od.mot_cmd_pos, Od.mot_cmd_vel, Od.mot_cmd_acc, Od.mot_state,
       Od.mot_status, Od.mot_ref_result, Od.lft_learn_result, Od.lft_door_state, Od.saf_state, Od.saf_trip_cause, Od.saf_trip_gen,
       Od.saf_latch_gen, Od.saf_in_result, Od.saf_in_status, Od.saf_speed, Od.saf_in_faults, Od.saf_in_latch, Od.saf_out_state,
       Od.saf_out_fault, Od.saf_edm_level, Od.saf_out_faults]
  | .inputTestPulse _ _ _ _ => some
      [Od.net_q_drops, Od.net_dot1x_state, Od.fld_pse_state, Od.fld_pse_class, Od.nvs_last_cause, Od.rec_dropped, Od.ctl_man_out,
       Od.ctl_out, Od.ctl_status, Od.mot_cmd_pos, Od.mot_cmd_vel, Od.mot_cmd_acc, Od.mot_state, Od.mot_status, Od.mot_ref_result,
       Od.lft_learn_result, Od.lft_door_state, Od.saf_latch_gen, Od.saf_in_result, Od.saf_in_status, Od.saf_in_faults, Od.saf_in_latch,
       Od.saf_out_state]
  | .outputTestPulse _ _ _ _ _ _ => some safetyWrites
  | .outputOverload _ => some safetyWrites
  | .macaronProducerSend _ => some
      [Od.net_q_drops, Od.net_dot1x_state, Od.fld_pse_state, Od.fld_pse_class, Od.nvs_last_cause, Od.rec_dropped, Od.ctl_man_out,
       Od.ctl_out, Od.ctl_status, Od.mot_cmd_pos, Od.mot_cmd_vel, Od.mot_cmd_acc, Od.mot_state, Od.mot_status, Od.mot_ref_result,
       Od.lft_learn_result, Od.lft_door_state, Od.saf_out_state, Od.saf_mac_state, Od.saf_mac_seq]
  | .macaronCopyRx _ _ _ => some
      [Od.net_q_drops, Od.net_dot1x_state, Od.fld_pse_state, Od.fld_pse_class, Od.nvs_last_cause, Od.rec_dropped, Od.ctl_man_out,
       Od.ctl_out, Od.ctl_status, Od.mot_cmd_pos, Od.mot_cmd_vel, Od.mot_cmd_acc, Od.mot_state, Od.mot_status, Od.mot_ref_result,
       Od.lft_learn_result, Od.lft_door_state, Od.saf_latch_gen, Od.saf_out_state, Od.saf_mac_state, Od.saf_mac_seq, Od.saf_mac_rx,
       Od.saf_mac_missing, Od.saf_mac_crc_err, Od.saf_mac_gap, Od.saf_mac_latch]
  | .macaronSkewExpiry _ => some
      [Od.net_q_drops, Od.net_dot1x_state, Od.fld_pse_state, Od.fld_pse_class, Od.nvs_last_cause, Od.rec_dropped, Od.ctl_man_out,
       Od.ctl_out, Od.ctl_status, Od.mot_cmd_pos, Od.mot_cmd_vel, Od.mot_cmd_acc, Od.mot_state, Od.mot_status, Od.mot_ref_result,
       Od.lft_learn_result, Od.lft_door_state, Od.saf_out_state, Od.saf_mac_state, Od.saf_mac_seq, Od.saf_mac_rx, Od.saf_mac_missing,
       Od.saf_mac_gap]
  | .macaronWatchdog _ => some
      [Od.net_q_drops, Od.net_dot1x_state, Od.fld_pse_state, Od.fld_pse_class, Od.nvs_last_cause, Od.rec_dropped, Od.ctl_man_out,
       Od.ctl_out, Od.ctl_status, Od.mot_cmd_pos, Od.mot_cmd_vel, Od.mot_cmd_acc, Od.mot_state, Od.mot_status, Od.mot_ref_result,
       Od.lft_learn_result, Od.lft_door_state, Od.saf_out_state, Od.saf_mac_state]
  | .safAck _ _ => some requestWrites
  | .safUcmAck _ _ _ => some requestWrites
  | .safHoldExit _ _ => some requestWrites
  | .programCycleStart _ _ => some [Od.prg_status, Od.prg_interval_max]
  | .programCycleEnd _ _ _ => some
      [Od.net_q_drops, Od.fld_tx_drops, Od.rec_dropped, Od.prg_state, Od.prg_tenant, Od.prg_image_crc, Od.prg_build, Od.prg_stamp,
       Od.prg_status, Od.prg_cycles, Od.prg_overruns, Od.prg_cycle_last, Od.prg_cycle_max, Od.prg_fault, Od.prg_x_carried,
       Od.prg_x_new, Od.prg_x_removed, Od.prg_x_changed, Od.prg_x_removed_id]
  | .programOverrun _ => some
      [Od.net_q_drops, Od.fld_tx_drops, Od.rec_dropped, Od.prg_state, Od.prg_tenant, Od.prg_image_crc, Od.prg_build, Od.prg_stamp,
       Od.prg_status, Od.prg_overruns, Od.prg_fault, Od.prg_x_carried, Od.prg_x_new, Od.prg_x_removed, Od.prg_x_changed,
       Od.prg_x_removed_id]
  | .overrunWarnClear _ => some [Od.prg_status]
  | .programTrap _ _ _ => some
      [Od.net_q_drops, Od.fld_tx_drops, Od.rec_dropped, Od.prg_state, Od.prg_tenant, Od.prg_image_crc, Od.prg_build, Od.prg_stamp,
       Od.prg_fault, Od.prg_x_carried, Od.prg_x_new, Od.prg_x_removed, Od.prg_x_changed, Od.prg_x_removed_id]
  | .programRunWrite _ _ _ => some requestWrites
  | .stageCheckCmd _ _ _ => some requestWrites
  | .stageCheckDone _ => some [Od.prg_stage_state, Od.prg_stage_result, Od.prg_stage_crc]
  | .programExchange _ _ _ => some requestWrites
  | .rtcSecondBoundary => some [Od.rtc_seconds, Od.rtc_subsec, Od.rtc_shift, Od.rtc_lost, Od.rtc_cal_end, Od.rec_dropped]
  | .rtcSecondsWrite _ _ => some requestWrites
  | .rtcCalWrite _ _ => some requestWrites
  | .rtcShiftWrite _ _ => some requestWrites
  | .rtcSyncCompare => some [Od.rtc_shift, Od.rtc_status, Od.rtc_sync_diff, Od.rec_dropped]
  | .vbatSwitchOver => some [Od.nrg_first_vbat, Od.nrg_vbat_gen]
  | .vaonSwitchBack => some []
  | .vbatMeasure _ => some [Od.rtc_status, Od.rtc_vbat, Od.rec_dropped]
  | .backupDomainBrownout => none
  | .storeCmd _ _ => some requestWrites
  | .storeStart => some [Od.nvs_store_count, Od.nvs_generation, Od.nvs_last_store, Od.nvs_last_cause, Od.rec_dropped]
  | .storeComplete _ _ => none
  | .allowanceReplenish => some [Od.nvs_allowance]
  | .recorderFlush => some [Od.rec_dropped]
  | .recordMove _ => some [Od.rec_dropped]
  | .recReadRequest _ _ _ => some requestWrites
  | .recContextExpiry _ => some [Od.rec_rd_info]
  | .recDump _ _ => some requestWrites
  | .recDumpEraseTimeout => some [Od.rec_dropped, Od.rec_dump_state]
  | .recDumpComplete _ => some [Od.rec_dropped, Od.rec_dump_state]
  | .recClear _ _ => some requestWrites
  | .recClearApply => some [Od.net_q_drops, Od.fld_tx_drops, Od.rec_dropped, Od.rec_clear_seq]
  | .updBegin _ _ => some requestWrites
  | .updBlock _ _ => some requestWrites
  | .blockProgrammed => some [Od.upd_map, Od.upd_missing]
  | .bspImageBlock => some [Od.rec_dropped, Od.upd_map, Od.upd_missing, Od.upd_blk_refused]
  | .updVerify _ _ => some requestWrites
  | .verifyComplete _ => some [Od.upd_state, Od.upd_result, Od.upd_stage_id, Od.upd_stage_version, Od.upd_stage_build]
  | .updActivate _ _ => some requestWrites
  | .updHealthOk _ _ => some requestWrites
  | .probationExpiry => some [Od.rec_dropped]
  | .keyReplace _ _ => some requestWrites
  | .vmainMeasure _ _ _ => some [Od.sys_vmain, Od.sys_power, Od.sys_vsafe, Od.sys_env_status, Od.rec_dropped]
  | .vsafeLow _ => some [Od.sys_vsafe, Od.sys_env_status, Od.rec_dropped]
  | .vsafeRecover _ => some [Od.sys_vsafe, Od.sys_env_status, Od.rec_dropped]
  | .tempMeasure _ _ => some [Od.sys_temp_land, Od.sys_temp_soc, Od.sys_temp_max, Od.sys_env_status, Od.rec_dropped]

/-- The parts of the state beside the dictionary that a command may change. -/
def mayChange : Instr → List Part
  | .powerOnReset _ => resetParts
  | .bootEnd _ => [.free, .mode, .out, .mer, .sys, .txn, .recd, .pts, .net, .fld, .lbs, .ana, .turn, .ctl, .mot, .lft, .saf, .upd]
  | .powerFail _ _ => holdupParts
  | .internalRailFault _ _ => holdupParts
  | .vmainReturnInHoldup => [.sys]
  | .holdupStoreComplete _ _ _ => resetParts
  | .standbyVmainFail => [.mode, .recd, .net]
  | .watchdogReset _ => resetParts
  | .softwareReset _ _ => wakeParts
  | .mprCommand _ => [.free, .out, .mer, .sys, .txn, .recd, .pts, .net, .fld, .lbs, .prg, .keys]
  | .appWatchdogExpiry => [.mer, .sys, .txn, .recd, .pts]
  | .mprComplete => [.out, .sys, .lbs]
  | .actReset _ => resetParts
  | .mpRestart _ => [.sys]
  | .reservoirCharged _ => [.sys]
  | .reservoirChargeTimeout _ => [.mode, .sys, .recd, .net]
  | .reservoirChargeRetry _ => [.sys]
  | .hourlyHoldTest _ => [.sys]
  | .holdTestCmd _ _ => requestParts
  | .holdTestComplete _ _ => [.free, .mode, .mer, .sys, .recd, .net]
  | .modeRequest _ _ => requestParts
  | .modeTransitionStart => [.mode, .out, .mer, .sys, .txn, .nvs, .recd, .net, .fld, .lbs, .ana, .ctl]
  | .standbyEntryComplete _ => wakeParts
  | .wakePin _ => resetParts
  | .wakeTimed _ => resetParts
  | .wakePatternMatch _ _ _ => resetParts
  | .parityMismatch _ _ _ _ _ => [.free, .mode, .out, .sys, .nvs, .recd, .net, .ana, .turn, .ctl, .mot, .lft, .saf, .prg]
  | .dramPageRetireComplete _ => [.free, .mode, .out, .mer, .sys, .recd, .trend, .net, .dram]
  | .fabricAccessRefused _ _ => [.out, .recd]
  | .faultRetestCmd _ _ => requestParts
  | .faultRetestComplete _ => [.free, .mode, .sys, .recd, .net, .turn, .mot]
  | .clockStart _ => []
  | .clockGate _ => []
  | .mpFrame _ => [.sys]
  | .mpLoadUpdate => [.sys]
  | .trendSample _ => [.trend]
  | .trendArchiveMove _ => [.trend]
  | .trendDumpCmd _ _ => requestParts
  | .trendTransferComplete _ => [.lbs]
  | .copDatagramRx _ _ => requestParts
  | .copRead _ _ _ => requestParts
  | .copWrite _ _ _ => requestParts
  | .copDescribe _ _ _ => requestParts
  | .txnBegin _ => requestParts
  | .txnCommit _ _ => requestParts
  | .txnRollback _ _ => requestParts
  | .commitTick =>
      [.free, .mode, .now, .flashValid, .out, .mer, .sys, .txn, .nvs, .recd, .rtc, .pts, .net, .fld, .lbs, .nextXfer, .ana, .turn,
       .nrg, .ctl, .mot, .lft, .saf, .prg, .upd, .keys]
  | .responseTimeout _ => [.out, .txn, .net, .fld, .lbs]
  | .txnIdleTimeout _ => [.mer, .txn]
  | .lbTxnBegin _ _ => requestParts
  | .lbTxnCommit _ _ => requestParts
  | .lbTxnRollback _ _ => requestParts
  | .entryWrite _ _ _ _ _ => requestParts
  | .pointScan =>
      [.mode, .flashValid, .out, .mer, .sys, .nvs, .recd, .rtc, .pts, .net, .fld, .lbs, .nextXfer, .ana, .turn, .nrg, .ctl, .mot, .lft,
       .saf, .prg, .upd]
  | .bacnetReadProperty _ _ => [.free, .out, .net, .fld]
  | .bacnetWriteProperty _ _ => requestParts
  | .bacnetSubscribeCov _ _ _ _ _ _ _ => [.out, .pts, .net, .fld]
  | .bacnetCovExpiry _ _ _ _ => [.pts]
  | .bacnetWhoIs _ _ _ => [.out, .net, .fld]
  | .bacnetWhoHas _ _ _ => [.out, .net, .fld]
  | .bacnetUnsupportedService _ _ _ => [.out, .net, .fld]
  | .bacnetFdRegistration => [.out, .net]
  | .eapolStartRepeat _ => [.out, .net]
  | .eapolFrameRx _ _ => [.mode, .out, .sys, .recd, .net]
  | .dot1xExchangeTimeout _ => [.mode, .sys, .recd, .net]
  | .dot1xHoldEnd _ => [.out, .net]
  | .commissionAdmission _ => []
  | .uplinkLinkUp _ _ => [.mode, .out, .sys, .recd, .net]
  | .uplinkLinkDown _ => [.mode, .sys, .recd, .net]
  | .prpSilenceTimeout _ => [.mode, .sys, .recd, .net]
  | .uplinkFaultClear _ => [.mode, .recd, .net]
  | .uplinkFrameRx _ _ => [.out, .net, .fld]
  | .prpForgetExpiry _ _ => [.net]
  | .prpSupervisionTx => [.out, .net]
  | .proxyEntryAgeout _ => [.net]
  | .txFrameStart _ _ => [.out, .net]
  | .txUnderrun _ => [.out, .recd, .net]
  | .txStartWrite _ _ _ => requestParts
  | .speedMaxWrite _ _ _ => requestParts
  | .ptpMessageRx _ _ => [.now, .out, .recd, .net]
  | .ptpAnnounceTimeout => [.net]
  | .mkaSecured _ => [.mode, .out, .sys, .recd, .net]
  | .mkaRetry _ => [.mode, .out, .sys, .recd, .net]
  | .mkaBRestartTimeout => [.mode, .out, .sys, .recd, .net]
  | .standbyLinkRetry _ => [.out, .net]
  | .downshiftWindow _ _ => [.mode, .out, .sys, .recd, .net]
  | .speedShiftEnd _ _ => [.mode, .out, .sys, .recd, .net]
  | .downshiftDisable _ _ => requestParts
  | .mkaFailed _ => [.mode, .sys, .recd, .net]
  | .fieldFrameRx _ _ => [.out, .net, .fld]
  | .bcastWindowReset _ => [.fld]
  | .pseStart _ _ _ => [.fld]
  | .pseCheckRepeat _ _ _ => [.fld]
  | .pseClassificationDone _ _ => [.fld]
  | .psePowerGoodCheck _ _ _ => [.recd, .fld]
  | .pseOvercurrentTrip _ _ => [.recd, .fld]
  | .pseOverload _ _ => [.recd, .fld]
  | .pseUndervoltage _ _ _ => [.recd, .fld]
  | .pseDisconnect _ _ => [.fld]
  | .fieldPwrOutOfRange _ => [.recd, .fld]
  | .fieldPwrRecovered _ => [.recd, .fld]
  | .pseFaultRetry _ => []
  | .pseResetCmd _ _ => requestParts
  | .pseInputOverBudget _ => []
  | .plcaCycle _ _ _ => [.out, .fld]
  | .t1sForeignBeacon _ => [.recd]
  | .t1sForeignClear _ => []
  | .t1sCollision _ => [.recd, .fld]
  | .t1sJabber _ => [.recd]
  | .t1sMediumStuck _ => [.recd, .fld]
  | .t1sBeaconRestart _ => [.fld]
  | .mstpToken _ _ _ => [.out, .fld]
  | .mstpTokenLoss _ => [.out, .fld]
  | .mstpFrameRx _ _ _ _ => [.recd]
  | .mstpDupClear _ => []
  | .modbusPollDue _ _ _ => [.out, .fld]
  | .modbusReplyRx _ _ => [.out, .fld]
  | .modbusReplyTimeout _ => [.out, .fld]
  | .modbusOutChange _ _ => [.out, .fld]
  | .rs485BusFault _ => [.recd, .fld]
  | .rs485BusIdle _ => []
  | .t1lLinkUp _ _ _ => []
  | .t1lLinkDown _ => []
  | .plcaPresenceAgeout _ _ => []
  | .mstpMasterAgeout _ _ => []
  | .lbPostedWrite _ _ _ => [.lbs]
  | .lbwGo => requestParts
  | .lbwDoneRead => [.out, .lbs]
  | .waferRefresh _ => [.lbs]
  | .bspTrain => []
  | .bspAligned => [.out, .lbs]
  | .bspRetrain _ => [.recd, .lbs]
  | .bspFrameRx _ => [.out, .lbs]
  | .bspCreditRx _ _ _ => [.out, .lbs]
  | .bspCreditTimeout => [.out, .lbs]
  | .bspEnableWrite _ _ => requestParts
  | .analogueSample _ _ _ _ => [.recd, .turn]
  | .anaOutWrite _ _ _ => requestParts
  | .channelFirstSample _ _ _ => [.recd, .ana, .turn]
  | .anaConditionChange _ _ _ _ => [.recd]
  | .complianceSet _ _ _ => [.recd]
  | .complianceClear _ _ => [.recd]
  | .miswireDetect _ _ _ _ _ => [.recd, .ana]
  | .miswireClear _ _ _ => [.recd, .ana]
  | .hartIdentify _ => [.out, .ana]
  | .hartIdentifyRetry _ => [.out, .ana]
  | .hartModemVisit _ => [.out, .ana]
  | .hartReplyRx _ _ => [.out, .ana]
  | .hartReplyTimeout _ => [.out, .ana]
  | .hartPassthroughReq _ _ _ => requestParts
  | .referenceCompare _ _ => [.mode, .sys, .recd, .net, .turn]
  | .turnoverStepDue _ => [.turn]
  | .spareCalibrationDone _ _ _ => [.mode, .mer, .sys, .recd, .net, .turn]
  | .turnoverCheckEnd _ _ _ => [.recd, .turn]
  | .checkRepeat _ => [.turn]
  | .crossFadeStart _ => [.turn]
  | .crossFadeEnd _ => [.turn]
  | .releasedCalibrationDone _ _ _ => [.mode, .mer, .sys, .recd, .net, .turn]
  | .calStepNow _ _ _ => requestParts
  | .calRunClear _ _ _ => requestParts
  | .liveConverterFailure _ _ _ => [.mode, .sys, .recd, .net, .turn]
  | .lineCycleEnd _ => lineCycleParts
  | .voltageLoss _ => [.recd]
  | .intervalBoundary _ => [.mer]
  | .pulseStart _ => [.nrg]
  | .pulseEnd _ => [.nrg]
  | .pulseConstWrite _ _ _ => requestParts
  | .vbatClear _ _ => requestParts
  | .captureCmd _ _ => requestParts
  | .captureStart _ => [.nrg]
  | .captureComplete _ => [.lbs]
  | .timedLineCycleEnd _ => lineCycleParts
  | .loopSample _ _ => [.recd, .ana, .ctl, .mot]
  | .selfCheckDone _ _ _ => [.mode, .out, .sys, .nvs, .recd, .net, .ana, .ctl, .mot, .lft, .saf]
  | .engineResyncComplete => []
  | .softSetpointWrite _ _ _ => requestParts
  | .ctlModeWrite _ _ _ => requestParts
  | .repMemoryClear _ _ _ => requestParts
  | .motionTick _ _ => safetyParts
  | .stepPulse _ _ => [.out, .mot]
  | .idleCurrentReduce _ => []
  | .motTargetWrite _ _ _ => requestParts
  | .referenceCmd _ _ _ => requestParts
  | .referenceSettled _ => [.mot]
  | .referenceBackoffDone _ => [.mot]
  | .switchEdgeLatch _ _ _ _ _ => [.mot]
  | .encoderIllegalTransition _ => []
  | .encoderEdgeCount _ _ => []
  | .liftCycle => [.out, .mer, .txn, .recd, .net, .fld, .lbs, .mot, .lft]
  | .driveStatusFrameRx _ _ _ => [.lft]
  | .driveLinkLost _ => [.recd, .lft]
  | .driveLinkRestored _ => [.lft]
  | .magnetiseTimeout _ => [.recd, .lft]
  | .brakeOpenTimeout _ => [.recd, .lft]
  | .followingError _ => [.recd, .lft]
  | .brakeReleaseDelay _ => [.lft]
  | .learnRunCmd _ _ _ => requestParts
  | .learnRunEnd _ => [.lft]
  | .liftFaultReset _ _ _ => requestParts
  | .relevelStart _ => [.lft]
  | .liftCall _ _ _ => requestParts
  | .liftStatusPublish _ => [.free, .out, .net, .lft]
  | .parkTimeout _ => [.lft]
  | .doorDwellExpiry _ => [.mot, .lft]
  | .nudgeTimeout _ => [.lft]
  | .blockedOpeningRetry _ => [.lft]
  | .islandCycle _ => [.mode, .out, .mer, .sys, .nvs, .recd, .net, .ana, .mot, .lft, .saf]
  | .inputTestPulse _ _ _ _ => safetyParts
  | .outputTestPulse _ _ _ _ _ _ => [.mode, .out, .mer, .sys, .nvs, .recd, .net, .ana, .mot, .lft, .saf]
  | .outputOverload _ => [.mode, .out, .mer, .sys, .nvs, .recd, .net, .ana, .mot, .lft, .saf]
  | .macaronProducerSend _ => safetyParts
  | .macaronCopyRx _ _ _ => safetyParts
  | .macaronSkewExpiry _ => safetyParts
  | .macaronWatchdog _ => safetyParts
  | .safAck _ _ => requestParts
  | .safUcmAck _ _ _ => requestParts
  | .safHoldExit _ _ => requestParts
  | .programCycleStart _ _ => [.prg]
  | .programCycleEnd _ _ _ => programParts
  | .programOverrun _ => programParts
  | .overrunWarnClear _ => []
  | .programTrap _ _ _ => programParts
  | .programRunWrite _ _ _ => requestParts
  | .stageCheckCmd _ _ _ => requestParts
  | .stageCheckDone _ => [.prg]
  | .programExchange _ _ _ => requestParts
  | .rtcSecondBoundary => [.crystal, .mer, .recd, .rtc]
  | .rtcSecondsWrite _ _ => requestParts
  | .rtcCalWrite _ _ => requestParts
  | .rtcShiftWrite _ _ => requestParts
  | .rtcSyncCompare => [.recd, .rtc]
  | .vbatSwitchOver => [.mer, .nvs, .rtc]
  | .vaonSwitchBack => [.rtc]
  | .vbatMeasure _ => [.recd]
  | .backupDomainBrownout => [.rtc]
  | .storeCmd _ _ => requestParts
  | .storeStart => [.mer, .nvs, .recd]
  | .storeComplete _ _ => wakeParts
  | .allowanceReplenish => []
  | .recorderFlush => [.mer, .recd]
  | .recordMove _ => [.mer, .recd]
  | .recReadRequest _ _ _ => requestParts
  | .recContextExpiry _ => [.recd]
  | .recDump _ _ => requestParts
  | .recDumpEraseTimeout => [.mer, .recd, .lbs]
  | .recDumpComplete _ => [.mer, .recd, .lbs]
  | .recClear _ _ => requestParts
  | .recClearApply => [.out, .mer, .txn, .recd, .net, .fld, .lbs]
  | .updBegin _ _ => requestParts
  | .updBlock _ _ => requestParts
  | .blockProgrammed => [.upd]
  | .bspImageBlock => [.recd, .lbs, .upd]
  | .updVerify _ _ => requestParts
  | .verifyComplete _ => []
  | .updActivate _ _ => requestParts
  | .updHealthOk _ _ => requestParts
  | .probationExpiry => [.sys, .recd]
  | .keyReplace _ _ => requestParts
  | .vmainMeasure _ _ _ => [.recd]
  | .vsafeLow _ => [.recd]
  | .vsafeRecover _ => [.recd, .saf]
  | .tempMeasure _ _ => [.recd]

/-! ## Requests -/

/-- The write of one entry that a command is: who sends it, the entry's index and element, and the value. -/
def elementWrite : Instr → Option (Who × Nat × Nat × Nat)
  | .holdTestCmd w v => some (w, Od.sys_hold_test, 0, v)
  | .modeRequest w code => some (w, Od.sys_mode_req, 0, code)
  | .faultRetestCmd w bit => some (w, Od.sys_fault_retest, 0, bit)
  | .trendDumpCmd w v => some (w, Od.sys_trend_dump, 0, v)
  | .lbTxnBegin w v => some (w, Od.txn_begin, 0, v)
  | .lbTxnCommit w v => some (w, Od.txn_commit, 0, v)
  | .lbTxnRollback w v => some (w, Od.txn_rollback, 0, v)
  | .txStartWrite w u v => some (w, Od.net_tx_start, u, v)
  | .speedMaxWrite w u v => some (w, Od.net_speed_max, u, v)
  | .downshiftDisable w v => some (w, Od.net_downshift, 0, v)
  | .pseResetCmd w v => some (w, Od.fld_pse_reset, 0, v)
  | .bspEnableWrite w v => some (w, Od.lbs_bsp_enable, 0, v)
  | .anaOutWrite w c v => some (w, Od.ana_out, c, v)
  | .hartPassthroughReq w c v => some (w, Od.ana_hart_req, c, v)
  | .calStepNow w b v => some (w, Od.cal_step_now, b, v)
  | .calRunClear w b v => some (w, Od.cal_run, b, v)
  | .pulseConstWrite w m v => some (w, Od.nrg_pulse_const, m, v)
  | .vbatClear w gen => some (w, Od.nrg_vbat_clear, 0, gen)
  | .captureCmd w c => some (w, Od.nrg_cap_circuit, 0, c)
  | .softSetpointWrite w slot v => some (w, Od.ctl_sp_soft, slot, v)
  | .ctlModeWrite w slot v => some (w, Od.ctl_mode, slot, v)
  | .repMemoryClear w u v => some (w, Od.ctl_rep_clear, u, v)
  | .motTargetWrite w c v => some (w, Od.mot_target, c, v)
  | .referenceCmd w c v => some (w, Od.mot_ref_cmd, c, v)
  | .learnRunCmd w k v => some (w, Od.lft_learn, k, v)
  | .liftFaultReset w k v => some (w, Od.lft_fault_reset, k, v)
  | .liftCall w k v => some (w, Od.lft_call, k, v)
  | .safAck w v => some (w, Od.saf_ack, 0, v)
  | .safUcmAck w k v => some (w, Od.saf_ucm_ack, k, v)
  | .safHoldExit w v => some (w, Od.saf_hold_exit, 0, v)
  | .programRunWrite w p v => some (w, Od.prg_run, p, v)
  | .stageCheckCmd w p v => some (w, Od.prg_stage_check, p, v)
  | .programExchange w p v => some (w, Od.prg_exchange, p, v)
  | .rtcSecondsWrite w v => some (w, Od.rtc_seconds, 0, v)
  | .rtcCalWrite w v => some (w, Od.rtc_cal, 0, v)
  | .rtcShiftWrite w v => some (w, Od.rtc_shift, 0, v)
  | .storeCmd w v => some (w, Od.nvs_store_cmd, 0, v)
  | .recReadRequest w r v => some (w, Od.rec_rd_req, r, v)
  | .recDump w v => some (w, Od.rec_dump, 0, v)
  | .recClear w v => some (w, Od.rec_clear, 0, v)
  | .updBegin w v => some (w, Od.upd_begin, 0, v)
  | .updBlock w v => some (w, Od.upd_block, 0, v)
  | .updVerify w v => some (w, Od.upd_verify, 0, v)
  | .updActivate w v => some (w, Od.upd_activate, 0, v)
  | .updHealthOk w v => some (w, Od.upd_health_ok, 0, v)
  | .keyReplace w v => some (w, Od.key_replace, 0, v)
  | _ => none

/-- Whether a WRITE of a client on one of the uplinks' or field ports passes every check and is accepted: the port is in use (R73), the
service answers, the request is new, its items pass (R69), no store freezes the SRAM (R372), the ledger has room (R100), and a key replacement finds the MP (log entry 159). -/
def Accepts (s : State) (w : Who) (bacnet : Bool) (items : List WItem) : Prop :=
  serves s = true ∧ w.port < 256 ∧ s.rd Od.od_port_kind w.port ≠ 0 ∧ duplicateOf s w = none ∧ (writeKinds items).length ≤ 1 ∧ liveItems items ≠ [] ∧
    (checkItems (s.count Od.od_port_hits w.port) ⟨w.port, w.client, 0, false, bacnet, none⟩ [] items).all (· == .ok) = true ∧
    s.nvs.storing = none ∧ acceptRefusal s (8 + itemsSize items) = .ok ∧
    (s.sys.mpHeld = false ∨ items.all (fun it => it.index != Od.key_replace) = true)

/-- A record of the ledger is that of a request: its number, kind, port, client, request identifier and digest. -/
def RecordOf (s : State) (w : Who) (items : List WItem) (r : LedgerRec) : Prop :=
  r.seq = s.rd Od.txn_next_seq ∧ r.kind = writeKind items ∧ r.port = w.port ∧ r.client = w.client ∧ r.reqid = w.reqid ∧
    r.digest = itemsDigest items

/-- Whether what is sent is the drive command of a car. -/
def toDrive (k : Nat) : Out → Bool
  | .driveCmd j _ _ _ => j == k
  | _ => false

/-- The state after `n` steps, where each of them answers a next state. -/
def steps : Nat → State → Option State
  | 0, s => some s
  | n + 1, s =>
    match step s with
    | .next t => steps n t
    | .fault _ => none
    | .refused _ => none

end Sys2Proof.Safety
end

