-- ==== Sys2Proof/Certificates/Slice0/Obligations.lean ====
section
/-!
DEFINITION. The statements for the provers: what each family of commands does, and what every command and step keeps.
-/
open Sys2Proof Sys2Proof.Machine Sys2Proof.Safety

/-- R51, R62, R64: charging and testing the hold-up reservoirs. A reservoir that reaches 12.0 V, being charged or in BOOT, is charged, and its
test is due; one that does not is failed and its health bit set; a failed one is charged again; an hourly test of a tested one starts or
waits; a completed test leaves its three results and its verdict, and with none waiting no test runs any more. -/
def Obligations.ReservoirsChargeAndTest : Prop :=
  (∀ (s : State) (r : Nat), powered s = true → (resOf s r).charging = true ∨ (s.mode = .boot ∧ (resOf s r).charged = false) →
    ∃ t, exec (.reservoirCharged r) s = .next t ∧ (resOf t r).charged = true ∧ (resOf t r).charging = false ∧
      (resOf t r).chargeFailed = false ∧ t.od = s.od) ∧
  (∀ (s : State) (r : Nat), powered s = true → (resOf s r).charging = true → s.sys.testing = none → s.sys.testQueue = [] →
      r = 0 ∨ s.sys.res0.tested = true →
    ∃ t, exec (.reservoirCharged r) s = .next t ∧ t.sys.testing = some (if r = 0 then 0 else 1, false) ∧ t.sys.testQueue = []) ∧
  (∀ (s : State) (r : Nat), powered s = true →
      (resOf s r).charging = true ∨ (s.mode = .boot ∧ (resOf s r).charged = false ∧ (resOf s r).chargeFailed = false) →
    ∃ t, exec (.reservoirChargeTimeout r) s = .next t ∧ t.rdBit Od.sys_health (if r = 0 then 0 else 1) = true ∧
      (resOf t r).chargeFailed = true ∧ (resOf t r).charging = false ∧ (resOf t r).charged = false) ∧
  (∀ (s : State) (r : Nat), powered s = true → (resOf s r).chargeFailed = true → (resOf s r).charging = false →
    ∃ t, exec (.reservoirChargeRetry r) s = .next t ∧ resOf t r = { resOf s r with charging := true } ∧ t.od = s.od) ∧
  (∀ (s : State) (r : Nat), powered s = true → (resOf s r).tested = true → s.sys.testing = none → s.sys.testQueue = [] →
      (r = 0 ∨ s.sys.res0.tested = true) →
    ∃ t, exec (.hourlyHoldTest r) s = .next t ∧ t.sys.testing = some (if r = 0 then 0 else 1, false) ∧ t.od = s.od) ∧
  (∀ (s : State) (r stepMv sinkMv : Nat), s.sys.testing = some (r, false) → 10 ≤ sinkMv → sinkMv < 65536 → stepMv < 65536 →
    ∃ t, exec (.holdTestComplete stepMv sinkMv) s = .next t ∧
      t.rd Od.sys_hold_cap r = (600000 + sinkMv) / (2 * sinkMv) ∧ t.rd Od.sys_hold_esr r = stepMv ∧
      t.rd Od.sys_hold_energy r = holdEnergy ((600000 + sinkMv) / (2 * sinkMv)) ∧
      t.rdBit Od.sys_health r = !(holdQualifies r ((600000 + sinkMv) / (2 * sinkMv)) stepMv) ∧
      (s.sys.testQueue = [] → t.sys.testing = none))

/-- R30, R31, R34, R35, R36: the management processor's frames and load, and the gated clocks. A frame's grants enter the trailing window;
a load above 85 % defers both classes; a processor that passes its ROM self-test resumes every class from its durable state, and one that
fails it is held; the real-time and engine clocks start for an activation, one less than 60 µs ahead of gated clocks counting as late, and
are gated when the next one is more than 200 µs away and nothing holds them. -/
def Obligations.ManagementFramesAndClocks : Prop :=
  (∀ (s : State) (demand : List Nat), powered s = true → s.sys.mpHeld = false →
    ∃ t, exec (.mpFrame demand) s = .next t ∧ t.od = s.od ∧
      t.sys.classWindow = (mpGrants (s.rd Od.sys_mp_deferred) demand :: s.sys.classWindow).take 10) ∧
  (∀ (s : State) (load : Nat), powered s = true → s.sys.mpHeld = false →
      s.sys.loadWindow.foldl (· + ·) 0 / 1000 = load → 85 < load → load ≤ 100 →
    ∃ t, exec .mpLoadUpdate s = .next t ∧ t.rd Od.sys_mp_load = load ∧ t.rd Od.sys_mp_deferred = 3 ∧ t.sys.lowFrames = 0) ∧
  (∀ s : State, exec (.mpRestart true) s = .next s) ∧
  (∀ s : State, powered s = true →
    ∃ t, exec (.mpRestart false) s = .next t ∧ t.sys = { s.sys with mpHeld := true } ∧ t.od = s.od) ∧
  (∀ (s : State) (aheadUs : Nat), running s = true → s.sys.mpHeld = false →
    ∃ t, exec (.clockStart aheadUs) s = .next t ∧ t.rdBit Od.sys_clk_run 2 = true ∧ t.rdBit Od.sys_clk_run 3 = true ∧
      (60 ≤ aheadUs → t.rd Od.sys_clk_late = s.rd Od.sys_clk_late)) ∧
  (∀ (s : State) (aheadUs : Nat), running s = true → s.sys.mpHeld = false → s.rdBit Od.sys_clk_run 2 = false → aheadUs < 60 →
      s.rd Od.sys_clk_late + 1 < 2 ^ 32 →
    ∃ t, exec (.clockStart aheadUs) s = .next t ∧ t.rd Od.sys_clk_late = s.rd Od.sys_clk_late + 1) ∧
  (∀ (s : State) (nextUs : Nat), running s = true → s.sys.mpHeld = false → 200 < nextUs → clocksHeld s = false →
    ∃ t, exec (.clockGate nextUs) s = .next t ∧ t.rdBit Od.sys_clk_run 2 = false ∧ t.rdBit Od.sys_clk_run 3 = false)

/-- R22, R23, R24, R25, R27, R28, R37, R42: faults of the fabric. A word whose 33 bits hold an even number of ones is a mismatch; one that a
replay cures is counted and changes nothing else, and a word that is right changes nothing; a persistent one is counted and, of the metering
lane, sets its bit; a retired page is replaced by a spare, the stalled read completes with the rebuilt word under the held writes, and the
last page clears DRAM_PAGE; an access that R22 does not admit is counted and the master is told, one that it admits changes nothing; a
retest that ends leaves its result, and a pass clears the part. -/
def Obligations.FabricFaultsAreCountedAndRetested : Prop :=
  (∀ (s : State) (initiator w1 w2 w3 w4 address : Nat) (cls : PageClass), fabricRuns s = true → initiator < 15 → parityOk w1 = false →
      parityOk w2 = true ∨ parityOk w3 = true ∨ parityOk w4 = true →
    exec (.parityMismatch initiator w1 [w2, w3, w4] address cls) s = .next (s.count Od.sys_parity_replays initiator)) ∧
  (∀ (s : State) (initiator w : Nat) (replays : List Nat) (address : Nat) (cls : PageClass), parityOk w = true →
    exec (.parityMismatch initiator w replays address cls) s = .next s) ∧
  (∀ (s : State) (w : Nat) (replays : List Nat) (address : Nat) (cls : PageClass), fabricRuns s = true → (∀ x ∈ w :: replays, parityOk x = false) →
      s.rd Od.saf_trip_cause = 0 → s.rd Od.sys_parity_persist 8 + 1 < 2 ^ 32 →
    ∃ t, exec (.parityMismatch 8 w replays address cls) s = .next t ∧ t.rdBit Od.sys_health bitMetLane = true ∧
      t.rd Od.sys_parity_persist 8 = s.rd Od.sys_parity_persist 8 + 1) ∧
  (∀ (s : State) (r : Retiring) (spare : Nat) (held : List (Nat × Nat)), fabricRuns s = true → s.sys.retiring = [r] →
      spareFree s r.page spare = true → 0 < s.rd Od.sys_dram_spares → s.rd Od.sys_dram_spares < 2 ^ 32 →
    ∃ t, exec (.dramPageRetireComplete ⟨r.page, spare, held⟩) s = .next t ∧ t.rd Od.sys_dram_spares = s.rd Od.sys_dram_spares - 1 ∧
      t.sys.retiring = [] ∧ t.mer.retired = tabPut r.page ⟨some spare, false⟩ s.mer.retired ∧ t.rdBit Od.sys_health 16 = false ∧
      tabGet [] spare t.dram.pages = heldApplied held (rebuildSource s r) ∧
      .dramRead r.page r.off (tabGet 0 r.off (heldApplied held (rebuildSource s r))) ∈ t.out) ∧
  (∀ (s : State) (m : FabricMaster) (target : FabricTarget) (way : FabricWay) (address : Nat), fabricRuns s = true →
      fabricAdmits m target way = false → s.rd Od.sys_access_refused + 1 < 2 ^ 32 →
    ∃ t, exec (.fabricAccessRefused ⟨m, target, way⟩ address) s = .next t ∧ t.rd Od.sys_access_refused = s.rd Od.sys_access_refused + 1 ∧
      t.out = .fabricError m address :: s.out) ∧
  (∀ (s : State) (m : FabricMaster) (target : FabricTarget) (way : FabricWay) (address : Nat), fabricAdmits m target way = true →
    exec (.fabricAccessRefused ⟨m, target, way⟩ address) s = .next s) ∧
  (∀ (s : State) (bit : Nat), powered s = true → s.sys.retest = some bit →
    ∃ t, exec (.faultRetestComplete false) s = .next t ∧ t.rd Od.sys_fault_retest = 3 ∧ t.sys.retest = none ∧
      t.rd Od.sys_health = s.rd Od.sys_health) ∧
  (∀ (s : State) (bit : Nat), powered s = true → s.sys.retest = some bit → bit < 8 →
    ∃ t, exec (.faultRetestComplete true) s = .next t ∧ t.rd Od.sys_fault_retest = 2 ∧ t.sys.retest = none ∧
      t.rdBit Od.sys_health bit = false)

/-- R52, R58, R60, R61: power failure. VMAIN below 17.0 V, or an internal rail fault, takes the module into HOLDUP and answers nobody that
waits; VMAIN's return in HOLDUP is noted; the store's end leads into BACKUP where VMAIN is not back; STANDBY loses VMAIN into BACKUP. -/
def Obligations.PowerFailureLeadsThroughHoldup : Prop :=
  (∀ (s : State) (vmain : Nat) (partials : List (Nat × LineCycle)), powered s = true → vmain < 17000 →
    ∃ t, exec (.powerFail vmain partials) s = .next t ∧ t.mode = .holdup ∧ t.txn.waiting = [] ∧ t.sys.appUp = false ∧
      t.sys.vmainBack = false) ∧
  (∀ (s : State) (vmain : Nat) (partials : List (Nat × LineCycle)), powered s = true → 17000 ≤ vmain →
    ∃ t, exec (.internalRailFault vmain partials) s = .next t ∧ t.mode = .holdup ∧ t.txn.waiting = [] ∧ t.sys.appUp = false ∧
      t.sys.vmainBack = true) ∧
  (∀ s : State, s.mode = .holdup →
    exec .vmainReturnInHoldup s = .next { s with sys := { s.sys with vmainBack := true } }) ∧
  (∀ (s : State) (us : Nat) (f : StartFacts), s.mode = .holdup → s.sys.vmainBack = false →
    ∃ t, exec (.holdupStoreComplete false us f) s = .next t ∧ t.mode = .backup ∧ t.nvs.storing = none) ∧
  (∀ s : State, s.mode = .standby →
    ∃ t, exec .standbyVmainFail s = .next t ∧ t.mode = .backup ∧ t.nvs = s.nvs ∧ t.od = s.od)

/-- R44, R50, R52, R53, R57: every start. A POR, a WDR, an SWR accepted before, an ACT reset and each of the three wakes leave the module
in BOOT with the state of its points, field ports and local bus as at reset; a frame whose FCS is wrong wakes nothing (R123). -/
def Obligations.EveryStartEntersBoot : Prop :=
  (∀ (s : State) (f : StartFacts), s.mode ≠ .holdup →
    ∃ t, exec (.powerOnReset f) s = .next t ∧ t.mode = .boot ∧ t.pts = {} ∧ t.fld = {} ∧ t.lbs = {}) ∧
  (∀ (s : State) (f : StartFacts), s.mode ≠ .holdup → s.mode ≠ .backup →
    ∃ t, exec (.watchdogReset f) s = .next t ∧ t.mode = .boot ∧ t.pts = {} ∧ t.fld = {} ∧ t.lbs = {}) ∧
  (∀ (s : State) (w : Who) (f : StartFacts), s.sys.resetDue = some .swr →
    ∃ t, exec (.softwareReset w f) s = .next t ∧ t.mode = .boot ∧ t.pts = {} ∧ t.fld = {} ∧ t.lbs = {}) ∧
  (∀ (s : State) (f : StartFacts), powered s = true → s.sys.resetDue = some .act →
    ∃ t, exec (.actReset f) s = .next t ∧ t.mode = .boot ∧ t.pts = {} ∧ t.fld = {} ∧ t.lbs = {}) ∧
  (∀ (s : State) (f : StartFacts), s.mode = .standby → s.rdBit Od.sys_wake_src 2 = true →
    ∃ t, exec (.wakePin f) s = .next t ∧ t.mode = .boot ∧ t.pts = {} ∧ t.fld = {} ∧ t.lbs = {}) ∧
  (∀ (s : State) (f : StartFacts), s.mode = .standby → s.rdBit Od.sys_wake_src 3 = true → s.rd Od.sys_wake_time ≠ 0 →
      s.rd Od.sys_wake_time / 1000000000 ≤ rtcTime s / 1000000000 →
    ∃ t, exec (.wakeTimed f) s = .next t ∧ t.mode = .boot ∧ t.pts = {} ∧ t.fld = {} ∧ t.lbs = {}) ∧
  (∀ (s : State) (u : Nat) (frame : List Nat) (p : Nat) (f : StartFacts), u < 2 → s.mode = .standby →
      s.rdBit Od.sys_wake_src u = true → (upOf s u).standbyLink = true → wakeHit s u frame = some p →
    ∃ t, exec (.wakePatternMatch u ⟨frame, true⟩ f) s = .next t ∧ t.mode = .boot ∧ t.pts = {} ∧ t.fld = {} ∧ t.lbs = {}) ∧
  (∀ (s : State) (u : Nat) (frame : List Nat) (f : StartFacts), exec (.wakePatternMatch u ⟨frame, false⟩ f) s = .next s)

/-- R48, R50, R52, R102, R163: the object service comes and goes. An MPR, commanded or forced by the application watchdog, stops it, closes
every transaction and shows its cause; its completion starts it again, with the replay of the accepted work to run; the end of BOOT
starts it, in SAFE_HOLD where step 1 of R48 says so and else in the mode that steps 2 to 6 select, where an uplink that is not yet usable counts
as a fault (log entry 15). -/
def Obligations.ServiceStopsAndStarts : Prop :=
  (∀ (s : State) (w : Who), s.sys.resetDue = some .mpr → s.sys.appUp = true →
    ∃ t, exec (.mprCommand w) s = .next t ∧ t.sys.appUp = false ∧ t.rd Od.sys_reset_cause = 4 ∧ t.txn.opens = [] ∧ t.mode = s.mode) ∧
  (∀ s : State, running s = true → s.sys.appUp = true →
    ∃ t, exec .appWatchdogExpiry s = .next t ∧ t.sys.appUp = false ∧ t.rd Od.sys_reset_cause = 4 ∧ t.txn.opens = [] ∧ t.mode = s.mode) ∧
  (∀ s : State, running s = true → s.sys.appUp = false →
    ∃ t, exec .mprComplete s = .next t ∧ t.sys.appUp = true ∧ t.sys.replayTo = some (s.rd Od.txn_next_seq - 1) ∧ t.mode = s.mode) ∧
  (∀ (s : State) (ms : Nat), s.mode = .boot → bootWaits s = false →
    ∃ t, exec (.bootEnd ms) s = .next t ∧ t.sys.appUp = true ∧ t.mode = if bootHolds s then .safeHold else bootSelection (uplinksBoot s))

/-- R46, R55, R56: transitions of mode. A waiting request that may start leads into its mode, one that may no longer start lapses and the
mode stays, and the completed store of a STANDBY entry leads into STANDBY with the object service stopped. -/
def Obligations.ModeTransitions : Prop :=
  (∀ (s : State) (seq : Nat), s.mode = .run → s.sys.modeReqs = [(seq, 6)] → s.sys.mpHeld = false →
    ∃ t, exec .modeTransitionStart s = .next t ∧ t.mode = .maintenance ∧ t.sys.modeReqs = []) ∧
  (∀ (s : State) (seq : Nat), s.mode = .doze → s.sys.modeReqs = [(seq, 6)] → s.sys.mpHeld = false →
    ∃ t, exec .modeTransitionStart s = .next t ∧ t.mode = .maintenance ∧ t.sys.modeReqs = []) ∧
  (∀ (s : State) (seq : Nat), s.mode = .run → s.sys.modeReqs = [(seq, 4)] → s.sys.mpHeld = false →
    ∃ t, exec .modeTransitionStart s = .next t ∧ t.mode = .doze ∧ t.sys.modeReqs = []) ∧
  (∀ (s : State) (seq v : Nat), s.mode = .safeHold → s.sys.modeReqs = [(seq, v)] → s.sys.mpHeld = false →
    ∃ t, exec .modeTransitionStart s = .next t ∧ t.mode = .safeHold ∧ t.sys.modeReqs = []) ∧
  (∀ (s : State) (us : Nat) (b : Bank), s.nvs.storing = some (3, b) → s.nvs.queued.any (fun q => q.1 == 3) = false → entryOff s = true →
      s.sys.wakeDuringEntry = none →
    ∃ t, exec (.standbyEntryComplete us) s = .next t ∧ t.mode = .standby ∧ t.sys.appUp = false ∧ t.nvs.storing = none)

/-- R43: trends. A due sample enters the cache with the point's value and the instant, and none is taken between whole
multiples of the period; a move puts the cache before the archive and empties
it; a transfer that ends leaves its result. -/
def Obligations.TrendsAreSampledAndArchived : Prop :=
  (∀ (s : State) (n : Nat), n < pointCount s → s.rd Od.sys_trend_period n ≠ 0 → running s = true → s.sys.appUp = true →
      trendDue s n = true → trendRoom s = true →
    ∃ t, exec (.trendSample n) s = .next t ∧ t.od = s.od ∧ t.trend.archive = s.trend.archive ∧
      ∃ flags, t.trend.cache = ⟨s.now, n, flags, s.rd (Od.od_point + n) 0⟩ :: s.trend.cache) ∧
  (∀ (s : State) (n : Nat), trendDue s n = false → exec (.trendSample n) s = .next s) ∧
  (∀ (s : State) (capacity : Nat), housekeeping s = true → 400000000 ≤ capacity →
    ∃ t, exec (.trendArchiveMove capacity) s = .next t ∧ t.trend.cache = [] ∧
      t.trend.archive = (s.trend.cache ++ s.trend.archive).take capacity) ∧
  (∀ (s : State) (failed : Bool), s.rd Od.sys_trend_state = 1 →
    ∃ t, exec (.trendTransferComplete failed) s = .next t ∧ t.rd Od.sys_trend_state = if failed then 3 else 2)

/-- R76: 802.1X on an uplink. A start is repeated while connecting; a frame from the switch takes the exchange to state 2, its success to
state 3 where a supplicant key is named and MACsec is off, its failure to state 4; an abandoned exchange fails, a reauthentication too, under
which the uplink stays authorised (log entry 14); the hold ends in a new start; COMMISSION admits an uplink whose switch does not answer. -/
def Obligations.UplinkAuthentication : Prop :=
  (∀ (s : State) (u : Nat), running s = true → s.rd Od.net_dot1x_state u = 1 →
    ∃ t, exec (.eapolStartRepeat u) s = .next t ∧ t.out = .eapolStart u :: s.out ∧ t.rd Od.net_dot1x_state u = 1) ∧
  (∀ (s : State) (u : Nat), running s = true → s.rd Od.net_link_state u ≠ 0 → s.rd Od.net_dot1x_state u = 1 →
    ∃ t, exec (.eapolFrameRx u .proceed) s = .next t ∧ t.rd Od.net_dot1x_state u = 2) ∧
  (∀ (s : State) (u : Nat), running s = true → s.rd Od.net_link_state u ≠ 0 → s.rd Od.net_dot1x_state u = 2 →
      s.rd Od.net_dot1x_key ≠ 0xFF → s.rd Od.net_macsec = 0 →
    ∃ t, exec (.eapolFrameRx u .success) s = .next t ∧ t.rd Od.net_dot1x_state u = 3) ∧
  (∀ (s : State) (u : Nat), running s = true → s.rd Od.net_link_state u ≠ 0 → s.rd Od.net_dot1x_state u = 2 →
    ∃ t, exec (.eapolFrameRx u .failure) s = .next t ∧ t.rd Od.net_dot1x_state u = 4 ∧ t.rdBit Od.sys_health (upBit u) = true) ∧
  (∀ (s : State) (u : Nat), s.rd Od.net_dot1x_state u = 2 →
    ∃ t, exec (.dot1xExchangeTimeout u) s = .next t ∧ t.rd Od.net_dot1x_state u = 4 ∧ t.rdBit Od.sys_health (upBit u) = true) ∧
  (∀ (s : State) (u : Nat), running s = true → s.rd Od.net_link_state u ≠ 0 → s.rd Od.net_dot1x_state u = 3 →
    ∃ t, exec (.eapolFrameRx u .reauth) s = .next t ∧ t.rd Od.net_dot1x_state u = 3 ∧ (upOf t u).reauth = true) ∧
  (∀ (s : State) (u : Nat), s.rd Od.net_dot1x_state u = 3 → (upOf s u).reauth = true →
    ∃ t, exec (.dot1xExchangeTimeout u) s = .next t ∧ t.rd Od.net_dot1x_state u = 4 ∧ (upOf t u).reauth = false) ∧
  (∀ (s : State) (u : Nat), s.rd Od.net_dot1x_state u = 4 →
    ∃ t, exec (.dot1xHoldEnd u) s = .next t ∧ t.rd Od.net_dot1x_state u = 1 ∧ t.out = .eapolStart u :: s.out) ∧
  (∀ (s : State) (u : Nat), s.mode = .commission → s.rd Od.net_dot1x_state u = 1 →
    exec (.commissionAdmission u) s = .next (s.wr Od.net_dot1x_state 5 u))

/-- R37, R107, R108, R126: the links of the uplinks. A link that comes up at an advertised speed is shown, starts 802.1X and is an uplink
fault until it is authorised; one that goes down shows no speed and no admission and is an uplink fault; 500 ms of silence under PRP is an
uplink fault; frames again clear it; in STANDBY a lost link is negotiated again at 100 Mbit/s with EEE, and comes up. -/
def Obligations.UplinkLinksAndFaults : Prop :=
  (∀ (s : State) (u speed : Nat), powered s = true → speed ∈ ([100, 1000, 2500, 5000, 10000] : List Nat) →
      speedOffered s u speed = true → s.rd Od.net_link_state u ≤ 1 →
    ∃ t, exec (.uplinkLinkUp u speed) s = .next t ∧ t.rd Od.net_link_state u = 2 ∧ t.rd Od.net_speed u = speed ∧
      t.rd Od.net_dot1x_state u = 1 ∧ t.rdBit Od.sys_health (upBit u) = true) ∧
  (∀ (s : State) (u : Nat), powered s = true →
    ∃ t, exec (.uplinkLinkDown u) s = .next t ∧ t.rd Od.net_link_state u = 0 ∧ t.rd Od.net_speed u = 0 ∧
      t.rd Od.net_dot1x_state u = 0 ∧ t.rdBit Od.sys_health (upBit u) = true) ∧
  (∀ (s : State) (u : Nat), powered s = true → s.rd Od.net_mode = 1 → upUsable s u = true →
    ∃ t, exec (.prpSilenceTimeout u) s = .next t ∧ t.rdBit Od.sys_health (upBit u) = true) ∧
  (∀ (s : State) (u : Nat), powered s = true → upUsable s u = true →
    ∃ t, exec (.uplinkFaultClear u) s = .next t ∧ t.rdBit Od.sys_health (upBit u) = false) ∧
  (∀ (s : State) (u : Nat), s.mode = .standby → (upOf s u).standbyLink = false →
    ∃ t, exec (.standbyLinkRetry u) s = .next t ∧ t.out = .negotiate u [100] true :: s.out ∧ t.od = s.od ∧ (upOf t u).advertised = [100]) ∧
  (∀ (s : State) (u : Nat), s.mode = .standby → (upOf s u).standbyLink = false →
    ∃ t, exec (.uplinkLinkUp u 100) s = .next t ∧ (upOf t u).standbyLink = true ∧ t.od = s.od)

/-- R19, R110 to R116, R121: frames on the uplinks. A frame for the module on a usable uplink is routed; a secured one below the replay window is
counted and dropped; under PRP a second copy is discarded and noted, and a first copy whose second did not come is counted on its LAN and
forgotten; supervision frames go out on both LANs with one sequence number; an aged proxy entry is gone and the count shows it; the
highest ready queue's head starts; an underrun aborts its frame, raises the threshold by 256 up to 2,048 and puts the frame back. -/
def Obligations.UplinkFrames : Prop :=
  (∀ (s : State) (u : Nat) (f : UplinkFrame), running s = true → f.len ≤ 2048 → f.kind = .own → s.rd Od.net_macsec = 0 →
      s.rd Od.net_mode = 0 → upUsable s u = true →
    exec (.uplinkFrameRx u f) s = .next (s.send (.routed .own f.len))) ∧
  (∀ (s : State) (u : Nat) (f : UplinkFrame) (x : SecTag), running s = true → f.len ≤ 2048 → f.kind = .own → s.rd Od.net_macsec ≠ 0 →
      s.rd Od.net_macsec_state u = 2 → f.sec = some x → x.pn + s.rd Od.net_macsec_window < (upOf s u).rxPn →
    exec (.uplinkFrameRx u f) s = .next (s.count Od.net_macsec_drops u)) ∧
  (∀ (s : State) (f : UplinkFrame) (seq : Nat), running s = true → f.len ≤ 2048 → f.kind = .own → f.trailer = some (seq, 0xA) →
      s.rd Od.net_macsec = 0 → s.rd Od.net_mode = 1 → upUsable s 0 = true → s.net.dup = [⟨f.src, seq, 1, false⟩] →
    ∃ t, exec (.uplinkFrameRx 0 f) s = .next t ∧ t.out = s.out ∧ t.net.dup = [⟨f.src, seq, 1, true⟩]) ∧
  (∀ (s : State) (u : Nat) (f : UplinkFrame), running s = true → 2048 < f.len →
    exec (.uplinkFrameRx u f) s = .next (s.count Od.net_rx_oversize u)) ∧
  (∀ (s : State) (d : DupEntry), s.net.dup = [d] → d.second = false → s.rd Od.net_prp_single d.lan + 1 < 2 ^ 32 →
    ∃ t, exec (.prpForgetExpiry d.src d.seq) s = .next t ∧ t.net.dup = [] ∧
      t.rd Od.net_prp_single d.lan = s.rd Od.net_prp_single d.lan + 1) ∧
  (∀ s : State, running s = true → s.rd Od.net_mode = 1 → s.net.proxies = [] → maySend s 0 .traffic = true → maySend s 1 .traffic = true →
    ∃ t, exec .prpSupervisionTx s = .next t ∧ t.out = .supervision 1 0 :: .supervision 0 0 :: s.out ∧
      tabGet 0 0x01154E000100 t.net.prpSeq = (tabGet 0 0x01154E000100 s.net.prpSeq + 1) % 65536) ∧
  (∀ (s : State) (mac : Nat), s.net.proxies.length ≤ 4096 →
    ∃ t, exec (.proxyEntryAgeout mac) s = .next t ∧ t.net.proxies = s.net.proxies.filter (· != mac) ∧
      t.rd Od.net_prp_proxied = t.net.proxies.length) ∧
  (∀ (s : State) (u q : Nat) (have_ : List Nat) (f : TxFrame), running s = true → s.rd Od.net_speed u ≠ 0 →
      pickQueue (frameBoundary s u) u have_ = some (q, f) → secured s u f.kind = false →
    ∃ t, exec (.txFrameStart u have_) s = .next t ∧ .txStart u q f.len f.resend f.trailer none ∈ t.out ∧
      (upOf t u).started = some (q, f)) ∧
  (∀ (s : State) (u q : Nat) (f : TxFrame), (upOf s u).started = some (q, f) → f.resend = false →
    ∃ t, exec (.txUnderrun u) s = .next t ∧ t.rd Od.net_tx_thresh u = min (s.rd Od.net_tx_thresh u + 256) 2048 ∧
      (upOf t u).started = none ∧ t.out = .txAborted u q :: s.out)

/-- R32, R119 to R122: time and MACsec on the uplinks. A measurement on the port in use in state 2 that locks leads to state 3, and once
RUN has been entered its offset is slewed; the loss of the only master leads to holdover, which keeps the frequency
correction; a peer-delay request is answered; a secured session shows state 2, a failed one
state 3 and an uplink fault, and a retry negotiates again; the restart of uplink B that waited is made. -/
def Obligations.PtpAndMacsec : Prop :=
  (∀ (s : State) (u : Nat) (offset : Int) (delay : Nat) (freq : Int), running s = true → upUsable s u = true →
      s.rd Od.net_ptp_profile ≠ 0 → s.rd Od.net_ptp_port = u →
      s.rd Od.net_ptp_state = 2 → s.net.ran = true →
    ∃ t, exec (.ptpMessageRx u (.sync offset delay true freq)) s = .next t ∧ t.rd Od.net_ptp_state = 3 ∧ t.net.slew = -offset ∧
      t.net.freq = clampInt (-100000) 100000 freq ∧ t.now = s.now) ∧
  (∀ s : State, running s = true → s.rd Od.net_ptp_port = 0 → s.net.b.master = none →
    ∃ t, exec .ptpAnnounceTimeout s = .next t ∧ t.rd Od.net_ptp_state = 4 ∧ t.net.a.master = none ∧ t.net.freq = s.net.freq) ∧
  (∀ (s : State) (u : Nat), running s = true → upUsable s u = true → 2 ≤ s.rd Od.net_ptp_profile →
    ∃ t, exec (.ptpMessageRx u .pdelayReq) s = .next t ∧ t.out = .pdelayResp u (ptpTransport s) :: s.out) ∧
  (∀ (s : State) (u sci : Nat), running s = true → s.rd Od.net_macsec ≠ 0 → s.rd Od.net_macsec_state u = 1 → s.net.mkaBWaits = false →
    ∃ t, exec (.mkaSecured ⟨u, sci⟩) s = .next t ∧ t.rd Od.net_macsec_state u = 2 ∧ (upOf t u).peerSci = some sci) ∧
  (∀ (s : State) (u : Nat), running s = true → s.rd Od.net_macsec ≠ 0 →
    ∃ t, exec (.mkaFailed u) s = .next t ∧ t.rd Od.net_macsec_state u = 3 ∧ t.rdBit Od.sys_health (upBit u) = true) ∧
  (∀ (s : State) (u : Nat), running s = true → s.rd Od.net_macsec_state u = 3 →
    ∃ t, exec (.mkaRetry u) s = .next t ∧ t.rd Od.net_macsec_state u = 1) ∧
  (∀ s : State, running s = true → s.net.mkaBWaits = true → s.rd Od.net_macsec ≠ 0 →
    ∃ t, exec .mkaBRestartTimeout s = .next t ∧ t.net.mkaBWaits = false ∧ t.rd Od.net_macsec_state 1 = 1)

/-- R127, R128: speed downshift, which the S module has. A window's load is shown, and a low one at 2.5 Gbit/s under an enabled downshift
starts a shift to 1 Gbit/s where R128 allows it; a shift ends once the new link is up and authorised, and leaves the
uplink's fault to clear by itself (R37). -/
def Obligations.SpeedShifts : Prop :=
  (∀ (s : State) (u load : Nat), s.variant = .s → running s = true → s.net.a.raiseDue = false → s.net.b.raiseDue = false →
      s.rd Od.net_downshift = 0 →
    exec (.downshiftWindow u load) s = .next (s.wr Od.net_shift_load load u)) ∧
  (∀ (s : State) (u load : Nat), s.variant = .s → running s = true → s.net.a.raiseDue = false → s.net.b.raiseDue = false →
      s.rd Od.net_downshift = 1 → load < 100000 → s.rd Od.net_speed u = 2500 → 1000 ≤ s.rd Od.net_speed_max u → shiftAllowed s u = true →
    ∃ t, exec (.downshiftWindow u load) s = .next t ∧ t.rd Od.net_shift_load u = load ∧ t.rd Od.net_link_state u = 3 ∧
      t.out = .negotiate u (if s.rd Od.net_speed_max u = 1000 then speedsUpTo 1000 else [1000]) false :: s.out) ∧
  (∀ (s : State) (u speed : Nat), running s = true → s.rd Od.net_link_state u = 3 → s.rd Od.net_speed u = speed → speed ≠ 0 →
      s.rd Od.net_dot1x_state u = 3 → s.net.a.raiseDue = false → s.net.b.raiseDue = false →
    ∃ t, exec (.speedShiftEnd u speed) s = .next t ∧ t.rd Od.net_link_state u = 2 ∧ t.rd Od.net_speed u = speed ∧
      t.rd Od.net_dot1x_state u = 3 ∧ t.rd Od.sys_health = s.rd Od.sys_health)

/-- R19, R131, R132, R133, R136, R144, R145: field bridge ports and 10BASE-T1L links. A frame with a bad FCS is only counted, and on a T1S
segment still shows its node present; one for the module is counted and routed by its kind; one bridged to a port of its VLAN enters that
port's queue, the high one for PCP 4 to 7, or is dropped and counted where it is full; a new window admits broadcasts again; a node that fell
silent leaves the presence; an enabled port that comes up shows its amplitude, and one that goes down returns to state 1. -/
def Obligations.FieldBridgeAndT1lLinks : Prop :=
  (∀ (s : State) (p : Nat) (f : FieldFrame), running s = true → bridgePort s p = true → p < 16 → f.fcsBad = true →
    exec (.fieldFrameRx p f) s = .next (s.count Od.fld_rx_discards p)) ∧
  (∀ (s : State) (seg : Nat) (f : FieldFrame), running s = true → bridgePort s (16 + seg) = true → f.node < s.rd Od.fld_plca_count seg →
      f.fcsBad = true →
    exec (.fieldFrameRx (16 + seg) f) s = .next ((s.wrBit Od.fld_plca_present f.node true seg).count Od.fld_rx_discards (16 + seg))) ∧
  (∀ (s : State) (p : Nat) (f : FieldFrame) (k : FrameKind), running s = true → bridgePort s p = true → p < 16 → f.fcsBad = false →
      f.vid = none → f.multi = false → f.ports = [] → f.uplink = none → f.own = some k →
    exec (.fieldFrameRx p f) s = .next ((s.count Od.fld_rx_frames p).send (.routed k f.len))) ∧
  (∀ (s : State) (p q : Nat) (f : FieldFrame), running s = true → bridgePort s p = true → p < 16 → f.fcsBad = false → f.vid = none →
      f.multi = false → f.ports = [q] → f.uplink = none → f.own = none → bridgePort s q = true → s.rd Od.fld_pvid q = s.rd Od.fld_pvid p →
      4 ≤ s.rd Od.fld_pcp p → txBytes (txOf s q).high + f.len ≤ 32768 →
    ∃ t, exec (.fieldFrameRx p f) s = .next t ∧ t.od = (s.count Od.fld_rx_frames p).od ∧
      txOf t q = { txOf s q with high := (txOf s q).high ++ [⟨s.now, f.len, 0⟩] }) ∧
  (∀ (s : State) (p q : Nat) (f : FieldFrame), running s = true → bridgePort s p = true → p < 16 → f.fcsBad = false → f.vid = none →
      f.multi = false → f.ports = [q] → f.uplink = none → f.own = none → bridgePort s q = true → s.rd Od.fld_pvid q = s.rd Od.fld_pvid p →
      s.rd Od.fld_pcp p < 4 → 32768 < txBytes (txOf s q).low + f.len →
    exec (.fieldFrameRx p f) s = .next ((s.count Od.fld_rx_frames p).count Od.fld_tx_drops q)) ∧
  (∀ (s : State) (p : Nat),
    ∃ t, exec (.bcastWindowReset p) s = .next t ∧ t.od = s.od ∧ tabGet 0 p t.fld.bcast = 0) ∧
  (∀ (s : State) (seg node : Nat), seg < t1sCount s → 0 < node → node < 16 →
    exec (.plcaPresenceAgeout seg node) s = .next (s.wrBit Od.fld_plca_present node false seg)) ∧
  (∀ (s : State) (p snr : Nat) (high : Bool), running s = true → p < t1lCount s → s.rd Od.fld_t1l_enable p = 1 →
      s.rd Od.fld_t1l_amp p = 0 → snr < 256 →
    ∃ t, exec (.t1lLinkUp p high snr) s = .next t ∧ t.rd Od.fld_t1l_state p = (if high then 4 else 3) ∧ t.rd Od.fld_t1l_snr p = snr) ∧
  (∀ (s : State) (p : Nat), p < t1lCount s → 3 ≤ s.rd Od.fld_t1l_state p →
    ∃ t, exec (.t1lLinkDown p) s = .next t ∧ t.rd Od.fld_t1l_state p = 1 ∧ t.rd Od.fld_t1l_snr p = 0)

/-- R138, R139, R141: a PoDL port up to power. An enabled port that is off is checked for foreign voltage, shows state 1 where there is some and else
state 2, and after its detection state 4 for a valid signature, which waits for classification, and state 3 for any other; a class the port
admits and the free budget covers is granted, and of two ports at
the budget step together the one of lower priority number comes first; a good voltage within 10 ms leads to state 7. -/
def Obligations.PowerIsDetectedAndGranted : Prop :=
  (∀ (s : State) (p foreignMv : Nat) (sigOk : Bool), running s = true → p < t1lCount s → s.rd Od.fld_pse_enable p = 1 →
      s.fld.pwrBad = false → entryOff s = false → s.rd Od.fld_pse_state p = 0 → s.fld.detects = [] →
    ∃ t, exec (.pseStart p foreignMv sigOk) s = .next t ∧ t.rd Od.fld_pse_state p = (if 3000 ≤ foreignMv then 1 else 2) ∧
      (foreignMv < 3000 → (pseDetected t).rd Od.fld_pse_state p = if sigOk then 4 else 3)) ∧
  (∀ (s : State) (p foreignMv : Nat) (sigOk : Bool), running s = true → p < t1lCount s → s.rd Od.fld_pse_enable p = 1 →
      s.fld.pwrBad = false → entryOff s = false → s.rd Od.fld_pse_state p = 1 ∨ s.rd Od.fld_pse_state p = 3 → s.fld.detects = [] →
    ∃ t, exec (.pseCheckRepeat p foreignMv sigOk) s = .next t ∧ t.rd Od.fld_pse_state p = (if 3000 ≤ foreignMv then 1 else 2) ∧
      (foreignMv < 3000 → (pseDetected t).rd Od.fld_pse_state p = if sigOk then 4 else 3)) ∧
  (∀ (s : State) (p c : Nat), running s = true → p < t1lCount s → s.rd Od.fld_pse_state p = 4 → s.rd Od.fld_pse_prio p ≤ 3 →
      10 ≤ c → c ≤ 15 → c ≤ s.rd Od.fld_pse_max_class p → (countedAlloc s c).le ((pseBudget s).sub (pseAllocated s)) = true →
    ∃ t, exec (.pseClassificationDone (p, some c) []) s = .next t ∧ t.rd Od.fld_pse_state p = 6 ∧ t.rd Od.fld_pse_class p = c) ∧
  (∀ (s : State) (p c : Nat), running s = true → p < t1lCount s → s.rd Od.fld_pse_state p = 4 → s.rd Od.fld_pse_prio p ≤ 3 → c < 10 →
    exec (.pseClassificationDone (p, some c) []) s = .next (s.wr Od.fld_pse_state 5 p)) ∧
  (∀ (s : State) (p q : Nat), running s = true → p < t1lCount s → q < t1lCount s → s.rd Od.fld_pse_state p = 4 → s.rd Od.fld_pse_state q = 4 →
      s.rd Od.fld_pse_prio p = 0 → s.rd Od.fld_pse_prio q = 1 → 15 ≤ s.rd Od.fld_pse_max_class p → 15 ≤ s.rd Od.fld_pse_max_class q →
      (countedAlloc s 15).le ((pseBudget s).sub (pseAllocated s)) = true →
    ∃ t, exec (.pseClassificationDone (q, some 15) [(p, some 15)]) s = .next t ∧ t.rd Od.fld_pse_state p = 6) ∧
  (∀ (s : State) (p portMv sourceMv : Nat), p < t1lCount s → s.rd Od.fld_pse_state p = 6 → sourceMv * 9 ≤ portMv * 10 →
    ∃ t, exec (.psePowerGoodCheck p portMv sourceMv) s = .next t ∧ t.rd Od.fld_pse_state p = 7)

/-- R140: faults of a PoDL port. The first or second fault within 10 min takes the port to state 8 and the third latches it in state 9; a
faulted port is tried again after its time, one whose load is gone restarts without a fault. -/
def Obligations.PowerFaultsLatchAtTheThird : Prop :=
  (∀ (s : State) (p ma : Nat), p < t1lCount s → psePowered s p = true → tripLimit (s.rd Od.fld_pse_class p) ≤ ma →
      ((tabGet [] p s.fld.faultTimes).filter (fun t => decide (s.now < t + 600000000000))).length < 2 →
    ∃ t, exec (.pseOvercurrentTrip p ma) s = .next t ∧ t.rd Od.fld_pse_state p = 8) ∧
  (∀ (s : State) (p ma : Nat), p < t1lCount s → psePowered s p = true → tripLimit (s.rd Od.fld_pse_class p) ≤ ma →
      2 ≤ ((tabGet [] p s.fld.faultTimes).filter (fun t => decide (s.now < t + 600000000000))).length →
    ∃ t, exec (.pseOvercurrentTrip p ma) s = .next t ∧ t.rd Od.fld_pse_state p = 9) ∧
  (∀ (s : State) (p ma : Nat), p < t1lCount s → psePowered s p = true → 11 * classLimit (s.rd Od.fld_pse_class p) < 10 * ma →
    ∃ t, exec (.pseOverload p ma) s = .next t ∧ (t.rd Od.fld_pse_state p = 8 ∨ t.rd Od.fld_pse_state p = 9)) ∧
  (∀ (s : State) (p portMv sourceMv : Nat), p < t1lCount s → s.rd Od.fld_pse_state p = 7 → portMv * 10 < sourceMv * 9 →
    ∃ t, exec (.pseUndervoltage p portMv sourceMv) s = .next t ∧ (t.rd Od.fld_pse_state p = 8 ∨ t.rd Od.fld_pse_state p = 9)) ∧
  (∀ (s : State) (p ma : Nat), p < t1lCount s → s.rd Od.fld_pse_state p = 7 → ma < 5 → s.rd Od.fld_pse_enable p = 1 →
    ∃ t, exec (.pseDisconnect p ma) s = .next t ∧ t.rd Od.fld_pse_state p = 0 ∧ t.rd Od.fld_pse_class p = 0) ∧
  (∀ (s : State) (p : Nat), p < t1lCount s → s.rd Od.fld_pse_state p = 8 → s.rd Od.fld_pse_enable p = 1 → entryOff s = false →
    exec (.pseFaultRetry p) s = .next ((s.wr Od.fld_pse_state 0 p).wr Od.fld_pse_class 0 p))

/-- R137, R140, R142: the common supply of the PoDL ports. FIELD_PWR out of range opens every gate that is not latched and is noted; its recovery
restarts every enabled port; an input within the budget is shown and sheds nothing, and one beyond it by more than 5 %
sheds the port that draws it. -/
def Obligations.FieldPowerAndBudget : Prop :=
  (∀ (s : State) (mv p : Nat), powered s = true → mv < 42000 ∨ 58000 < mv → p < t1lCount s → s.rd Od.fld_pse_state p ≠ 9 →
    ∃ t, exec (.fieldPwrOutOfRange mv) s = .next t ∧ t.rd Od.fld_pse_state p = 0 ∧ t.fld.pwrBad = true ∧
      t.rdBit Od.sys_env_status envFIELD_PWR = true) ∧
  (∀ (s : State) (mv p : Nat), powered s = true → s.fld.pwrBad = true → 44000 ≤ mv → mv ≤ 57000 → p < t1lCount s →
      s.rd Od.fld_pse_enable p = 1 → s.rd Od.fld_pse_state p ≠ 9 →
    ∃ t, exec (.fieldPwrRecovered mv) s = .next t ∧ t.rd Od.fld_pse_state p = 0 ∧ t.fld.pwrBad = false ∧
      t.rdBit Od.sys_env_status envFIELD_PWR = false) ∧
  (∀ (s : State) (m : List (Nat × Nat)), pseInput s m * 100 ≤ s.rd Od.fld_pse_budget * 105 →
    ∃ t, exec (.pseInputOverBudget m) s = .next t ∧ t.rd Od.fld_pse_input = min (pseInput s m) 65535 ∧
      (∀ p, p < t1lCount s → t.rd Od.fld_pse_state p = s.rd Od.fld_pse_state p) ∧
      (∀ p, p < t1lCount s → t.rd Od.fld_pse_current p = min (m.getD p (0, 0)).2 2000)) ∧
  (∀ (s : State) (m : List (Nat × Nat)) (p : Nat), s.rd Od.fld_pse_budget * 105 < pseInput s m * 100 → p < t1lCount s →
      s.rd Od.fld_pse_prio p ≤ 3 → psePowered s p = true → (∀ q, q < t1lCount s → q ≠ p → psePowered s q = false) →
    ∃ t, exec (.pseInputOverBudget m) s = .next t ∧ t.rd Od.fld_pse_state p = 5 ∧ t.rd Od.fld_pse_input = 0)

/-- R143, R144, R146: 10BASE-T1S segments. A cycle sends the BEACON and up to the burst of the module's frames; a foreign BEACON leads to
state 2 and its absence back to 1; collisions and jabber are counted, and a frame of the
module that collided is sent again, up to 15 times; a stuck medium leads to state 3 and stops the BEACON, which
starts again after its time. -/
def Obligations.T1sSegments : Prop :=
  (∀ (s : State) (seg burst meanUs : Nat), running s = true → seg < t1sCount s → s.rd Od.fld_t1s_enable seg = 1 →
      tabGet false seg s.fld.beaconStopped = false →
    ∃ t, exec (.plcaCycle seg burst meanUs) s = .next t ∧
      t.out = .fieldTx (16 + seg) (min ((txOf s (16 + seg)).high.length + (txOf s (16 + seg)).low.length) (min burst (s.rd Od.fld_plca_burst seg) + 1)) ::
        .beacon seg :: s.out ∧
      (s.rd Od.fld_t1s_state seg = 3 → t.rd Od.fld_t1s_state seg = 1)) ∧
  (∀ (s : State) (seg : Nat), t1sRuns s seg = true →
    ∃ t, exec (.t1sForeignBeacon seg) s = .next t ∧ t.rd Od.fld_t1s_state seg = 2) ∧
  (∀ (s : State) (seg : Nat), t1sRuns s seg = true → s.rd Od.fld_t1s_state seg = 2 →
    exec (.t1sForeignClear seg) s = .next (s.wr Od.fld_t1s_state 1 seg)) ∧
  (∀ (s : State) (seg : Nat), t1sRuns s seg = true → s.rd Od.fld_t1s_collisions seg + 1 < 2 ^ 32 →
    ∃ t, exec (.t1sCollision ⟨seg, false⟩) s = .next t ∧ t.rd Od.fld_t1s_collisions seg = s.rd Od.fld_t1s_collisions seg + 1) ∧
  (∀ (s : State) (seg : Nat) (f : PortFrame), t1sRuns s seg = true → (txOf s (16 + seg)).sent = [f] → f.tries < 15 →
    ∃ t, exec (.t1sCollision ⟨seg, true⟩) s = .next t ∧
      txOf t (16 + seg) = { txOf s (16 + seg) with high := { f with tries := f.tries + 1 } :: (txOf s (16 + seg)).high, sent := [] }) ∧
  (∀ (s : State) (seg : Nat), t1sRuns s seg = true → s.rd Od.fld_t1s_jabber seg + 1 < 2 ^ 32 →
    ∃ t, exec (.t1sJabber seg) s = .next t ∧ t.rd Od.fld_t1s_jabber seg = s.rd Od.fld_t1s_jabber seg + 1) ∧
  (∀ (s : State) (seg : Nat), t1sRuns s seg = true →
    ∃ t, exec (.t1sMediumStuck seg) s = .next t ∧ t.rd Od.fld_t1s_state seg = 3 ∧ tabGet false seg t.fld.beaconStopped = true) ∧
  (∀ (s : State) (seg : Nat),
    ∃ t, exec (.t1sBeaconRestart seg) s = .next t ∧ t.od = s.od ∧ tabGet false seg t.fld.beaconStopped = false)

/-- R148: MS/TP. A held token sends up to the configured frames and passes on, every fiftieth polls a station, and a token left unused is
passed once more; a lost token is counted and made anew, with a poll of the station after the module's own, a frame of the module's own address
shows a duplicate until it clears, and a master that no longer answers leaves the list. -/
def Obligations.MstpPorts : Prop :=
  (∀ (s : State) (p waiting : Nat) (reply : Bool), rsRuns s p 1 = true → (mstpOf s p).tokens < 49 →
    exec (.mstpToken p waiting ⟨[], reply, 0⟩) s =
      .next ((putMstp s p { mstpOf s p with tokens := (mstpOf s p).tokens + 1 }).send
        (.mstpSent p (min waiting (s.rd Od.fld_mstp_max_info p)) (nextMaster s p)))) ∧
  (∀ (s : State) (p waiting : Nat), rsRuns s p 1 = true → (mstpOf s p).tokens = 49 →
      pollNext s p (polledLast s p) ≠ nextMaster s p → pollNext s p (polledLast s p) ≠ s.rd Od.fld_mstp_mac p →
    ∃ t, exec (.mstpToken p waiting ⟨[], false, 0⟩) s = .next t ∧ (mstpOf t p).tokens = 0 ∧ t.od = s.od ∧
      t.out = .mstpSent p (min waiting (s.rd Od.fld_mstp_max_info p)) (nextMaster s p) :: .mstpPoll p (pollNext s p (polledLast s p)) :: s.out) ∧
  (∀ (s : State) (p waiting : Nat), rsRuns s p 1 = true → (mstpOf s p).tokens < 49 → nextMaster s p ≠ s.rd Od.fld_mstp_mac p →
    ∃ t, exec (.mstpToken p waiting ⟨[], false, 1⟩) s = .next t ∧
      t.out = .mstpRetry p (nextMaster s p) :: .mstpSent p (min waiting (s.rd Od.fld_mstp_max_info p)) (nextMaster s p) :: s.out) ∧
  (∀ (s : State) (p : Nat), rsRuns s p 1 = true →
    ∃ t, exec (.mstpTokenLoss p) s = .next t ∧ t.od = (s.count Od.fld_mstp_token_loss p).od ∧
      t.out = .mstpPoll p (pollNext s p (s.rd Od.fld_mstp_mac p)) :: s.out) ∧
  (∀ (s : State) (p : Nat) (request : Bool), rsRuns s p 1 = true →
    ∃ t, exec (.mstpFrameRx p (s.rd Od.fld_mstp_mac p) false request) s = .next t ∧ t.rd Od.fld_rs_state p = 3) ∧
  (∀ (s : State) (p src : Nat) (request : Bool), rsRuns s p 1 = true →
    exec (.mstpFrameRx p src true request) s = .next (s.count Od.fld_rs_errors p)) ∧
  (∀ (s : State) (p : Nat), rsRuns s p 1 = true → s.rd Od.fld_rs_state p = 3 →
    exec (.mstpDupClear p) s = .next (s.wr Od.fld_rs_state 1 p)) ∧
  (∀ (s : State) (p station : Nat), p < rsCount s → station < 128 →
    exec (.mstpMasterAgeout p station) s = .next (s.wrBit Od.fld_mstp_masters (stationBit station) false p))

/-- R149, R150: Modbus RTU. A due read entry whose station is not held off is sent and is the port's one outstanding request, and one that
falls due meanwhile waits for its turn; a reply with an exception ends it with status 3 and the code; a timeout with retries left sends it
again, and without leaves status 2; a changed output of an ON_CHANGE entry is sent; a bus fault stops the port until the bus is idle. -/
def Obligations.ModbusPorts : Prop :=
  (∀ (s : State) (p k at_ : Nat), mbReady s p = true → tabGet [] p s.fld.mbDue = [] → k < 256 →
      (mbEntry s p k).func = 3 → (mbEntry s p k).fmt = 1 → (mbEntry s p k).station ≠ 0 → (mbEntry s p k).period ≠ 0 →
      mbHeld s p (mbEntry s p k).station = false →
    ∃ t, exec (.modbusPollDue p k at_) s = .next t ∧ t.od = s.od ∧
      t.out = .modbus p (mbEntry s p k).station 3 (mbEntry s p k).addr [1] :: s.out ∧
      t.fld.mbOut = tabPut p ⟨k, s.rd Od.fld_mb_retries p, false⟩ s.fld.mbOut) ∧
  (∀ (s : State) (p k at_ : Nat) (o : MbOut), rsRuns s p 2 = true → s.rd Od.fld_rs_state p = 1 → mbOutOf s p = some o →
      tabGet [] p s.fld.mbDue = [] → k < 256 → (mbEntry s p k).period ≠ 0 → mbHeld s p (mbEntry s p k).station = false →
    ∃ t, exec (.modbusPollDue p k at_) s = .next t ∧ t.od = s.od ∧ t.out = s.out ∧ tabGet [] p t.fld.mbDue = [(min at_ s.now, k)]) ∧
  (∀ (s : State) (p code : Nat) (o : MbOut), rsRuns s p 2 = true → tabGet [] p s.fld.mbDue = [] → mbOutOf s p = some o → code < 256 →
    ∃ t, exec (.modbusReplyRx p (.exception code)) s = .next t ∧ t.rd Od.fld_mb_status (p * 256 + o.entry) = code * 256 + 3 ∧
      t.fld.mbOut = tabDel p s.fld.mbOut) ∧
  (∀ (s : State) (p : Nat) (o : MbOut) (ws : List Nat), rsRuns s p 2 = true → mbOutOf s p = some o → 0 < o.left →
      mbWrites (mbEntry s p o.entry).func = false ∨ s.mode ≠ .safeHold →
      mbRequest s p o.entry (mbEntry s p o.entry) = some (some ws) →
    ∃ t, exec (.modbusReplyTimeout p) s = .next t ∧ t.od = s.od ∧
      t.fld.mbOut = tabPut p ⟨o.entry, o.left - 1, false⟩ s.fld.mbOut) ∧
  (∀ (s : State) (p : Nat) (o : MbOut), rsRuns s p 2 = true → tabGet [] p s.fld.mbDue = [] → mbOutOf s p = some o → o.left = 0 →
      o.crcBad = false → mbWrites (mbEntry s p o.entry).func = false ∨ s.mode ≠ .safeHold → s.rd Od.fld_mb_status (p * 256 + o.entry) < 65536 →
    ∃ t, exec (.modbusReplyTimeout p) s = .next t ∧ t.rd Od.fld_mb_status (p * 256 + o.entry) % 256 = 2 ∧
      t.fld.mbOut = tabDel p s.fld.mbOut) ∧
  (∀ (s : State) (p k : Nat) (ws : List Nat), mbReady s p = true → tabGet [] p s.fld.mbDue = [] → k < 256 →
      (mbEntry s p k).func = 6 → (mbEntry s p k).flags = 1 → (mbEntry s p k).station ≠ 0 → (mbEntry s p k).period ≠ 0 →
      s.mode ≠ .safeHold → mbRequest s p k (mbEntry s p k) = some (some ws) → mbHeld s p (mbEntry s p k).station = false →
    ∃ t, exec (.modbusOutChange p k) s = .next t ∧ t.od = s.od ∧
      t.out = .modbus p (mbEntry s p k).station 6 (mbEntry s p k).addr ws :: s.out) ∧
  (∀ (s : State) (p : Nat), running s = true → p < rsCount s → s.rd Od.fld_rs_mode p ≠ 0 →
    ∃ t, exec (.rs485BusFault p) s = .next t ∧ t.rd Od.fld_rs_state p = 2 ∧ t.fld.mbOut = tabDel p s.fld.mbOut) ∧
  (∀ (s : State) (p : Nat), running s = true → p < rsCount s → s.rd Od.fld_rs_state p = 2 →
    exec (.rs485BusIdle p) s = .next (s.wr Od.fld_rs_state 1 p))

/-- R69, R152 to R155, R158, R161 to R163: the local bus. A posted write of a descriptor word enters the queue and drains; a write the window
does not take is lost and counted; reading LBW_DONE clears it; a GO with an empty length completes its slot with ZERO_LENGTH, and one that
finds the input queue full with BUSY_RETRY; one whose item passes every check becomes a record of the ledger with the next acceptance
number; a refresh of a period with one mapped word stores it and counts its group. -/
def Obligations.LocalBusQueueAndWindow : Prop :=
  (∀ (s : State) (a v : Nat) (full : Bool), lbServed s = true → lbWritable a = true → a ≠ 0x2003 → s.lbs.queue = [] →
    ∃ t, exec (.lbPostedWrite a v ⟨false, full⟩) s = .next t ∧ t.od = s.od ∧ t.lbs.queue = [] ∧ t.lbs.regs = tabPut a (v % 2 ^ 32) s.lbs.regs) ∧
  (∀ (s : State) (a v : Nat) (full : Bool), lbServed s = true → lbWritable a = false →
    exec (.lbPostedWrite a v ⟨false, full⟩) s = .next (s.count Od.lbs_wr_lost)) ∧
  (∀ s : State, lbServed s = true →
    ∃ t, exec .lbwDoneRead s = .next t ∧ t.out = .lbwDone s.lbs.done :: s.out ∧ t.lbs.done = 0 ∧ t.od = s.od) ∧
  (∀ (s : State) (v : Nat), serves s = true → s.lbs.queue = [⟨0x2003, v, false⟩] → lbReg s 0x2002 % 128 = 0 → lbReg s 0x2001 ≠ 0 →
      duplicateOf s ⟨0, 0, lbReg s 0x2001, localBus⟩ = none → lbTxn s = none →
    ∃ t, exec .lbwGo s = .next t ∧ t.od = (s.count Od.od_port_hits 0).od ∧ t.lbs.queue = [] ∧
      tabGet ⟨0, 0, 0, 0⟩ (lbReg s 0x2001 % 16) t.lbs.slots = ⟨lbReg s 0x2001, 2, Status.zeroLength.code, 0⟩ ∧
      t.lbs.done.testBit (lbReg s 0x2001 % 16) = true) ∧
  (∀ (s : State) (v : Nat), serves s = true → s.lbs.queue = [⟨0x2003, v, true⟩] →
    ∃ t, exec .lbwGo s = .next t ∧ t.lbs.queue = [] ∧ t.od = ((s.count Od.od_port_hits 0).count Od.od_queue_full).od ∧
      tabGet ⟨0, 0, 0, 0⟩ (lbReg s 0x2001 % 16) t.lbs.slots = ⟨lbReg s 0x2001, 2, Status.busyRetry.code, 0⟩) ∧
  (∀ (s : State) (v : Nat), serves s = true → s.lbs.queue = [⟨0x2003, v, false⟩] → lbReg s 0x2001 ≠ 0 → lbRangeBad s = false → lbTxn s = none →
      ((lbItem s).index < Od.txn_begin ∨ Od.txn_rollback < (lbItem s).index) →
      Accepts (lbTaken s) ⟨0, 0, lbReg s 0x2001, localBus⟩ false [lbItem s] → s.rd Od.txn_next_seq + 1 < 2 ^ 64 →
    ∃ t r, exec .lbwGo s = .next t ∧ r ∈ t.mer.recs ∧ RecordOf s ⟨0, 0, lbReg s 0x2001, localBus⟩ [lbItem s] r ∧ t.lbs.queue = [] ∧
      t.rd Od.txn_next_seq = s.rd Od.txn_next_seq + 1) ∧
  (∀ (s : State) (period w i e : Nat) (d : EntryDef), lbServed s = true →
      (lbMapped s).filter (fun m => s.rd Od.lbs_map_period m.1 == period) = [(w, i * 65536 + e)] → e < 65536 → entryDef? i = some d →
    ∃ t, exec (.waferRefresh period) s = .next t ∧ t.od = s.od ∧
      tabGet 0 w t.lbs.words = lbWord d.ty (s.rd Od.lbs_map_part w) (readElem s i e) ∧
      tabGet 0 period t.lbs.gens = if 65535 ≤ tabGet 0 period s.lbs.gens then 1 else tabGet 0 period s.lbs.gens + 1)

/-- R165 to R167: the bulk stream port. Training starts where the port is enabled; alignment brings it up with the credits its outstanding
frames leave; too many invalid symbols retrain it; a good frame in sequence is acknowledged and, the only one of a
transfer on the image stream, completes it; a frame with a bad CRC is counted and answered NAK; an ACK takes its frame from the
unacknowledged ones; a timeout sends the oldest one again and counts it. -/
def Obligations.BulkStreamLink : Prop :=
  (∀ s : State, lbServed s = true → s.rd Od.lbs_bsp_enable = 1 → s.rd Od.lbs_bsp_state = 0 →
    exec .bspTrain s = .next (s.wr Od.lbs_bsp_state 1)) ∧
  (∀ s : State, lbServed s = true → s.rd Od.lbs_bsp_state = 1 → s.lbs.unacked = [] → s.lbs.withheld = [] → s.lbs.xfers = [] →
    ∃ t, exec .bspAligned s = .next t ∧ t.rd Od.lbs_bsp_state = 2 ∧ t.rd Od.lbs_bsp_credits 0 = 16 ∧ t.rd Od.lbs_bsp_credits 1 = 16) ∧
  (∀ (s : State) (invalid : Nat), s.rd Od.lbs_bsp_state = 2 → 1000 ≤ invalid →
    ∃ t, exec (.bspRetrain invalid) s = .next t ∧ t.rd Od.lbs_bsp_state = 3 ∧ t.rd Od.lbs_bsp_credits 0 = 0 ∧ t.lbs.timeouts = 0) ∧
  (∀ (s : State) (bytes : List Nat), s.rd Od.lbs_bsp_state = 2 → s.rd Od.lbs_bsp_credits 1 ≠ 0 → bspGood bytes = false →
      s.sys.appUp = true → s.rd Od.lbs_bsp_crc_err 1 + 1 < 2 ^ 32 →
    ∃ t, exec (.bspFrameRx bytes) s = .next t ∧ t.out = .bspCredit s.lbs.rxSeq 1 :: s.out ∧ t.lbs.rxSeq = s.lbs.rxSeq ∧
      t.rd Od.lbs_bsp_crc_err 1 = s.rd Od.lbs_bsp_crc_err 1 + 1) ∧
  (∀ (s : State) (bytes : List Nat), s.rd Od.lbs_bsp_state = 2 → s.rd Od.lbs_bsp_credits 1 ≠ 0 → bspGood bytes = true →
      ofBytes (slice bytes 4 2) = s.lbs.rxSeq → s.sys.appUp = true →
    ∃ t, exec (.bspFrameRx bytes) s = .next t ∧ t.out = .bspCredit s.lbs.rxSeq 0 :: s.out ∧ t.lbs.rxSeq = (s.lbs.rxSeq + 1) % 65536 ∧
      (bspTenant s ≠ none → bytes.getD 0 0 = 4 → ofBytes (slice bytes 2 2) ≠ 0 → bitOf (bytes.getD 1 0) 0 = true → ofBytes (slice bytes 8 4) = 0 →
        t.lbs.imgDone = s.lbs.imgDone ++ [slice bytes 12 (ofBytes (slice bytes 2 2))])) ∧
  (∀ (s : State) (seq : Nat), s.rd Od.lbs_bsp_state = 2 → s.lbs.unacked.any (fun f => f.seq == seq) = true → s.lbs.xfers = [] →
    ∃ t, exec (.bspCreditRx seq 0 255) s = .next t ∧ t.lbs.unacked = s.lbs.unacked.filter (fun f => f.seq != seq) ∧
      t.rd Od.lbs_bsp_credits 0 = min 16 (s.rd Od.lbs_bsp_credits 0 + 1)) ∧
  (∀ (s : State) (f : BspFrame) (fs : List BspFrame), s.rd Od.lbs_bsp_state = 2 → s.lbs.unacked = f :: fs →
    ∃ t, exec .bspCreditTimeout s = .next t ∧ t.out = .bspFrame f :: s.out ∧ t.lbs.timeouts = s.lbs.timeouts + 1 ∧
      t.lbs.unacked = s.lbs.unacked ∧ (s.rd Od.lbs_bsp_resends 0 + 1 < 2 ^ 32 → t.rd Od.lbs_bsp_resends 0 = s.rd Od.lbs_bsp_resends 0 + 1))

/-- R171, R173, R176 to R180, R194, R198: analogue channels. A sample of a ready channel without a fade, corrected with its converter's
coefficients, is shown with its engineering and terminal values and judged; of a channel that is off the terminal voltage alone is shown, and one
without a converter shows NaN; the first sample of a reconfigured channel ends NOT_READY; a short and a compliance fault are shown, counted and
cleared; a mis-wired AI_LP or AI_IO shows its code and is disconnected until the wiring is right. -/
def Obligations.AnalogueChannels : Prop :=
  (∀ (s : State) (c live spare term m : Nat), anaSampling s c = true → s.rd Od.ana_mode c = 1 → anaBit s c anaNOTREADY = false →
      anaBit s c anaMISWIRE = false → finite32 live = true → finite32 spare = true → term < 2 ^ 32 → anaDead s c = false →
      anaFade s c = none → qf32 (anaReading s c (servingConv s (c / 8) (c % 8)) live) = m → m < 2 ^ 32 →
    ∃ t, exec (.analogueSample c live spare term) s = .next t ∧ t.rd Od.ana_meas c = m ∧ t.rd Od.ana_term_v c = term ∧
      t.rd Od.ana_value c = anaValue s c 1 (f32q m) % 2 ^ 32 ∧
      ((f32q m).lt ⟨36, 10⟩ = true → anaBit t c anaUNDER = true) ∧ ((Frac.mk 21 1).lt (f32q m) = true → anaBit t c anaOVER = true)) ∧
  (∀ (s : State) (c live spare term : Nat), anaSampling s c = true → s.rd Od.ana_mode c = 0 → finite32 live = true → finite32 spare = true →
    exec (.analogueSample c live spare term) s = .next (s.wr Od.ana_term_v term c)) ∧
  (∀ (s : State) (c live spare term : Nat), anaSampling s c = true → s.rd Od.ana_mode c ≠ 0 → anaBit s c anaNOTREADY = false →
      finite32 live = true → finite32 spare = true → anaDead s c = true →
    ∃ t, exec (.analogueSample c live spare term) s = .next t ∧ t.rd Od.ana_value c = f32NaN ∧ t.rd Od.ana_meas c = f32NaN) ∧
  (∀ (s : State) (c x term m : Nat), anaSampling s c = true → s.rd Od.ana_mode c ≠ 0 → anaBit s c anaNOTREADY = true → anaDead s c = false →
      finite32 x = true → qf32 (anaReading s c (servingConv s (c / 8) (c % 8)) x) = m → m < 2 ^ 32 →
    ∃ t, exec (.channelFirstSample c x term) s = .next t ∧ anaBit t c anaNOTREADY = false ∧ t.rd Od.ana_meas c = m ∧
      t.ana.reconf.contains c = false) ∧
  (∀ (s : State) (c m : Nat) (limit : Bool), running s = true → c < anaCount s → s.rd Od.ana_mode c = 1 → anaBit s c anaNOTREADY = false →
      anaBit s c anaMISWIRE = false → anaBit s c anaSHORT = false → finite32 m = true → (Frac.mk 245 10).le (f32q m) = true →
      s.rd Od.ana_faults c + 1 < 2 ^ 32 →
    ∃ t, exec (.anaConditionChange c anaSHORT m limit) s = .next t ∧ anaBit t c anaSHORT = true ∧ anaBit t c anaCOMPLIANCE = false ∧
      t.rd Od.ana_faults c = s.rd Od.ana_faults c + 1) ∧
  (∀ (s : State) (c m : Nat), anaOn s c = true → s.rd Od.ana_mode c = 7 → finite32 m = true → (Frac.mk 1 2).le (f32q m) = true →
      anaBit s c anaMISWIRE = false → anaBit s c anaSHORT = false → anaBit s c anaOPEN = false → anaBit s c anaCOMPLIANCE = false →
    ∃ t, exec (.complianceSet c m true) s = .next t ∧ anaBit t c anaCOMPLIANCE = true ∧ t.rd Od.ana_compliance c = 1) ∧
  (∀ (s : State) (c m : Nat), anaOn s c = true → finite32 m = true → anaBit s c anaCOMPLIANCE = true →
      ((f32q m).sub (f32q (tabGet 0 c s.ana.drive))).abs.le ((anaSpan (s.rd Od.ana_mode c)).div ⟨2000, 1⟩) = true →
    ∃ t, exec (.complianceClear c ⟨m, false⟩) s = .next t ∧ anaBit t c anaCOMPLIANCE = false ∧ t.rd Od.ana_compliance c = 0) ∧
  (∀ (s : State) (c : Nat) (lp io drive readback : Int), anaSampling s c = true → wiresOf s c = (0, 0) → 26000 < lp →
    ∃ t, exec (.miswireDetect c lp io drive readback) s = .next t ∧ t.rd Od.ana_miswire c = 1 ∧ anaBit t c anaMISWIRE = true ∧
      anaLp t c = false) ∧
  (∀ (s : State) (c : Nat) (lp io drive readback : Int), anaSampling s c = true → wiresOf s c = (0, 0) → -2000 ≤ lp → lp ≤ 26000 →
      io < -2000 →
    ∃ t, exec (.miswireDetect c lp io drive readback) s = .next t ∧ t.rd Od.ana_miswire c = 4 ∧ anaBit t c anaMISWIRE = true ∧
      t.ana.drive = tabDel c s.ana.drive) ∧
  (∀ (s : State) (c : Nat) (lp io : Int), anaSampling s c = true → wiresOf s c = (1, 0) → -2000 ≤ lp → lp ≤ 26000 → -2000 ≤ io → io ≤ 26000 →
    ∃ t, exec (.miswireClear c lp io) s = .next t ∧ t.rd Od.ana_miswire c = 0 ∧ anaBit t c anaMISWIRE = false ∧ wiresOf t c = (0, 0))

/-- R183 to R185: HART. Command 0, in a short frame, identifies a device and is sent again while none answers; a modem's visit sends the
channel's waiting pass-through command, in a long frame to the device's address, before a cyclic read; a burst frame is discarded; a good
reply leads to state 2 with the device's status; a request without a reply is sent once more and then leads to state 3 or 4 with HART_FAULT,
on a channel whose HART is still enabled and not to be identified anew. -/
def Obligations.HartTransactions : Prop :=
  (∀ (s : State) (c : Nat), hartOn s c = true → s.rd Od.ana_hart_state c = 1 → hartTxOf s (hartModem s c) = none →
    ∃ t, exec (.hartIdentify c) s = .next t ∧ t.od = s.od ∧ t.out = .hart c (s.rd Od.ana_hart_role == 1) none 0 [] :: s.out ∧
      hartTxOf t (hartModem s c) = some ⟨c, 0, false⟩) ∧
  (∀ (s : State) (c : Nat), hartOn s c = true → s.rd Od.ana_hart_state c = 3 → hartTxOf s (hartModem s c) = none →
    ∃ t, exec (.hartIdentifyRetry c) s = .next t ∧ t.od = s.od ∧ t.out = .hart c (s.rd Od.ana_hart_role == 1) none 0 [] :: s.out ∧
      hartTxOf t (hartModem s c) = some ⟨c, 0, false⟩) ∧
  (∀ (s : State) (m c : Nat) (cs : List Nat), running s = true → hartTxOf s m = none → hartChannels s m = c :: cs →
      tabGet 0xFFFF m s.ana.visited = 0xFFFF → s.rd Od.ana_hart_state c = 2 → hartRspState s c = 1 →
      hartCmd (tabGet 0 c s.ana.pass) ≤ 255 →
    ∃ t, exec (.hartModemVisit m) s = .next t ∧
      t.out = .hart c (s.rd Od.ana_hart_role == 1) (some (s.rd Od.ana_hart_uid c)) (hartCmd (tabGet 0 c s.ana.pass))
        (hartData (tabGet 0 c s.ana.pass)) :: s.out ∧
      hartTxOf t m = some ⟨c, 2, false⟩ ∧ t.rd Od.ana_hart_last_tag c = hartTag (tabGet 0 c s.ana.pass)) ∧
  (∀ (s : State) (m c : Nat) (cs : List Nat), running s = true → hartTxOf s m = none → hartChannels s m = c :: cs →
      tabGet 0xFFFF m s.ana.visited = 0xFFFF → s.rd Od.ana_hart_state c = 2 → hartRspState s c ≠ 1 → s.rd Od.ana_hart_poll c ≠ 0 →
      s.ana.lastPoll = [] →
    ∃ t, exec (.hartModemVisit m) s = .next t ∧ t.od = s.od ∧ t.out = .hart c (s.rd Od.ana_hart_role == 1) (some (s.rd Od.ana_hart_uid c)) 3 [] :: s.out ∧ hartTxOf t m = some ⟨c, 1, false⟩) ∧
  (∀ (s : State) (m c : Nat) (again : Bool) (r : HartReply), hartTxOf s m = some ⟨c, 0, again⟩ → s.rd Od.ana_hart_enable c = 1 →
      running s = true → r.burst = false → r.bad = false → r.dev < 2 ^ 8 → r.uid < 2 ^ 40 →
    ∃ t, exec (.hartReplyRx m r) s = .next t ∧ t.rd Od.ana_hart_state c = 2 ∧ anaBit t c anaHARTFAULT = false ∧
      t.rd Od.ana_hart_dev_status c = r.dev ∧ t.rd Od.ana_hart_uid c = r.uid ∧ hartTxOf t m = none) ∧
  (∀ (s : State) (m c k : Nat), running s = true → hartTxOf s m = some ⟨c, k, false⟩ →
    ∃ t, exec (.hartReplyTimeout m) s = .next t ∧ t.od = s.od ∧ hartTxOf t m = some ⟨c, k, true⟩ ∧ t.out.length = s.out.length + 1) ∧
  (∀ (s : State) (m c k : Nat), running s = true → hartTxOf s m = some ⟨c, k, true⟩ → s.rd Od.ana_hart_enable c = 1 →
      (k = 0 ∨ s.rd Od.ana_hart_state c ≠ 1) →
    ∃ t, exec (.hartReplyTimeout m) s = .next t ∧ t.rd Od.ana_hart_state c = (if k = 0 then 3 else 4) ∧ anaBit t c anaHARTFAULT = true ∧
      hartTxOf t m = none) ∧
  (∀ (s : State) (m : Nat) (r : HartReply), r.burst = true → exec (.hartReplyRx m r) s = .next s)

/-- R189, R190, R192 to R196, R198, R200: the turnover. A reference 0.1 % off three times in a row stops the rotation; a due step calibrates
the spare, checks it in parallel, fades it in, on an energy bank at the reference voltage's crossing, and calibrates the released converter, and
one that falls due meanwhile waits; a second failed calibration stops the bank; a check
over range is repeated and after the third repetition skipped; the spare takes the channel of a live converter that fails, and without
one the channel has no converter. -/
def Obligations.TurnoverSteps : Prop :=
  (∀ (s : State) (vref iref : Int), powered s = true → 1000 < vref.natAbs → 2 ≤ s.turn.vrefBad →
    ∃ t, exec (.referenceCompare vref iref) s = .next t ∧ t.rdBit Od.cal_ref 0 = true ∧ t.turn.stopped = true ∧
      t.rdBit Od.sys_health 15 = true) ∧
  (∀ (s : State) (b : Nat), bankExists s b = true → running s = true → s.rd Od.cal_run b = 1 → s.rd Od.cal_state b = 1 →
      (bankOf s b).again = false → (bankOf s b).againAt = none →
    ∃ t, exec (.turnoverStepDue b) s = .next t ∧ t.rd Od.cal_state b = 2) ∧
  (∀ (s : State) (b : Nat), bankExists s b = true → running s = true → 2 ≤ s.rd Od.cal_state b → s.rd Od.cal_state b ≤ 6 →
      (bankOf s b).again = false → (bankOf s b).againAt = none →
    ∃ t, exec (.turnoverStepDue b) s = .next t ∧ t.od = s.od ∧ (bankOf t b).due = true) ∧
  (∀ (s : State) (b : Nat) (classes : List CalClass) (delay : Int), bankExists s b = true → running s = true → s.rd Od.cal_state b = 2 →
      (∀ c < bankClasses b, (judgeClass b c delay (classes.getD c ⟨0, 0, 0, false⟩)).result = 1) →
    ∃ t, exec (.spareCalibrationDone b classes delay) s = .next t ∧ t.rd Od.cal_state b = 3 ∧
      ∀ c < bankClasses b, t.rd Od.cal_result (calElem b (s.rd Od.cal_spare b) c) = 1) ∧
  (∀ (s : State) (b c : Nat) (classes : List CalClass) (delay : Int), bankExists s b = true → running s = true →
      s.rd Od.cal_state b = 2 → c < bankClasses b →
      (judgeClass b c delay (classes.getD c ⟨0, 0, 0, false⟩)).result ≠ 1 → (bankOf s b).second = true →
    ∃ t, exec (.spareCalibrationDone b classes delay) s = .next t ∧ t.rd Od.cal_state b = 7 ∧ t.rd Od.cal_spare b = 0xFF ∧
      t.rdBit Od.sys_health 15 = true) ∧
  (∀ (s : State) (b diff : Nat), bankExists s b = true → running s = true → s.rd Od.cal_state b = 3 → (bankOf s b).repeatDue = false →
      (bankOf s b).repeats = 3 → (bankOf s b).due = false → s.rd Od.cal_run b = 1 → s.turn.stopped = false → s.rd Od.cal_spare b ≠ 0xFF →
      s.rd Od.cal_late b + 1 < 2 ^ 32 →
    ∃ t, exec (.turnoverCheckEnd b diff true) s = .next t ∧ t.rd Od.cal_state b = 1 ∧ t.rd Od.cal_late b = s.rd Od.cal_late b + 1) ∧
  (∀ (s : State) (b diff : Nat), bankExists s b = true → running s = true → s.rd Od.cal_state b = 3 → (bankOf s b).repeatDue = false →
      diff < 2 ^ 32 →
      (f32q diff).abs.le ⟨s.rd Od.cal_agree b, 1⟩ = true →
    ∃ t, exec (.turnoverCheckEnd b diff false) s = .next t ∧ t.rd Od.cal_state b = 4 ∧ t.rd Od.cal_disagree b = diff) ∧
  (∀ (s : State) (b : Nat), running s = true → s.rd Od.cal_state b = 3 → (bankOf s b).repeatDue = true →
    ∃ t, exec (.checkRepeat b) s = .next t ∧ t.od = s.od ∧ (bankOf t b).repeatDue = false) ∧
  (∀ (s : State) (b first : Nat) (cause : FadeCause), bankExists s b = true → running s = true → s.rd Od.cal_state b = 4 →
      fadeMayStart s b cause = true →
    ∃ t, exec (.crossFadeStart ⟨b, cause, first⟩) s = .next t ∧ t.rd Od.cal_state b = 5 ∧ (bankOf t b).faded = 0 ∧
      (4 ≤ b → tabGet ⟨0, 0, 0, false⟩ (b * 16 + stepTarget s b) t.turn.handed =
        ⟨first, servingConv s b (stepTarget s b), s.rd Od.cal_spare b, true⟩)) ∧
  (∀ (s : State) (b : Nat), bankExists s b = true → running s = true → s.rd Od.cal_state b = 5 → fadeComplete s b = true →
      s.rd Od.cal_next b < bankChannels b → s.rd Od.cal_spare b < 2 ^ 8 → s.rd Od.cal_map b < 2 ^ 128 →
    ∃ t, exec (.crossFadeEnd b) s = .next t ∧ t.rd Od.cal_state b = 6 ∧ servingConv t b (s.rd Od.cal_next b) = s.rd Od.cal_spare b ∧
      t.rd Od.cal_spare b = servingConv s b (s.rd Od.cal_next b) ∧ t.rd Od.cal_next b = (s.rd Od.cal_next b + 1) % bankChannels b) ∧
  (∀ (s : State) (b : Nat) (classes : List CalClass) (delay : Int), bankExists s b = true → running s = true → s.rd Od.cal_state b = 6 →
      (recordCalibration s b (bankOf s b).released classes delay true).2 = true → (bankOf s b).due = false →
      s.rd Od.cal_run b = 1 → s.turn.stopped = false → s.rd Od.cal_spare b ≠ 0xFF → s.rd Od.cal_steps b + 1 < 2 ^ 32 →
    ∃ t, exec (.releasedCalibrationDone b classes delay) s = .next t ∧ t.rd Od.cal_state b = 1 ∧
      t.rd Od.cal_steps b = s.rd Od.cal_steps b + 1) ∧
  (∀ (s : State) (b j gapUs first : Nat), bankExists s b = true → running s = true → j < bankChannels b →
      s.turn.dead.contains (b * 16 + j) = false → s.rd Od.cal_spare b < 2 ^ 8 → s.rd Od.cal_spare b ≠ 0xFF → s.rd Od.cal_map b < 2 ^ 128 →
    ∃ t, exec (.liveConverterFailure b j ⟨gapUs, first⟩) s = .next t ∧ servingConv t b j = s.rd Od.cal_spare b ∧ t.rd Od.cal_spare b = 0xFF ∧
      t.rd Od.cal_state b = 7 ∧ t.rdBit Od.sys_health 15 = true) ∧
  (∀ (s : State) (b j gapUs first : Nat), bankExists s b = true → running s = true → j < bankChannels b →
      s.turn.dead.contains (b * 16 + j) = false → s.rd Od.cal_spare b = 0xFF →
    ∃ t, exec (.liveConverterFailure b j ⟨gapUs, first⟩) s = .next t ∧ t.turn.dead.contains (b * 16 + j) = true ∧
      servingConv t b j = servingConv s b j ∧ t.rdBit Od.sys_health 15 = true)

/-- R205 to R209, R211, R214, R217, R218, R220: energy. The first crossing of the reference only begins a circuit's cycle, and each one after it
ends a cycle and begins the next. A cycle without load sets its status bit and leaves the accumulators; a loaded cycle
of an enabled circuit adds its energy, without its sign, to the import or the export accumulator and leaves the other; a cycle measured
by time, of the nominal period, sets its bit; voltage-loss is shown; an interval ends with each meter's increase; a pulse closes its output, and
its end counts it; a capture starts, its last cycle starts its transfer, and the transfer's end is the capture's. -/
def Obligations.EnergyIsAccumulated : Prop :=
  (∀ (s : State) (x : Crossing) (d : LineCycle), running s = true → d.circuit < circuitCount s → refPhase s d.circuit = some x.phase →
      isCrossing x = true → cycleOf s d.circuit = none →
    ∃ t, exec (.lineCycleEnd ⟨x, d⟩) s = .next t ∧ t.od = s.od ∧ cycleOf t d.circuit = some ⟨x.phase, crossingAt x⟩) ∧
  (∀ (s : State) (x : Crossing) (d : LineCycle) (r : CycleRef), running s = true → d.circuit < circuitCount s →
      refPhase s d.circuit = some x.phase → isCrossing x = true → cycleOf s d.circuit = some r → r.start < crossingAt x →
      (cycleResults s d (samplesFrom r.start) (samplesFrom (crossingAt x) - samplesFrom r.start)).any (·.2) = false →
    ∃ t, exec (.lineCycleEnd ⟨x, d⟩) s = .next t ∧ t.rdBit Od.nrg_status 0 d.circuit = true ∧ (∀ e, t.rd Od.nrg_acc e = s.rd Od.nrg_acc e) ∧
      cycleOf t d.circuit = some ⟨x.phase, crossingAt x⟩) ∧
  (∀ (s : State) (x : Crossing) (d : LineCycle) (r : CycleRef) (rs : List (PhaseResult × Bool)) (n : Nat), running s = true →
      d.circuit < circuitCount s → refPhase s d.circuit = some x.phase → isCrossing x = true → cycleOf s d.circuit = some r →
      r.start < crossingAt x → (nrgCfg s d.circuit).enable = true → (nrgCfg s d.circuit).sums = [] →
      rs = cycleResults s d (samplesFrom r.start) (samplesFrom (crossingAt x) - samplesFrom r.start) → rs.any (·.2) = true →
      n = (if 0 ≤ (netOf (·.ep) rs).num then 0 else 1) →
    ∃ t, exec (.lineCycleEnd ⟨x, d⟩) s = .next t ∧
      t.rd Od.nrg_acc (d.circuit * 6 + n) = (s.rd Od.nrg_acc (d.circuit * 6 + n) +
        (tabGet 0 (d.circuit * 6 + n) s.mer.nrgFrac + energyUnits (netOf (·.ep) rs)) / 2 ^ 32) % 2 ^ 64 ∧
      t.rd Od.nrg_acc (d.circuit * 6 + (1 - n)) = s.rd Od.nrg_acc (d.circuit * 6 + (1 - n))) ∧
  (∀ (s : State) (d : LineCycle) (r : CycleRef), running s = true → d.circuit < circuitCount s → refPhase s d.circuit = none →
      cycleOf s d.circuit = some r →
    ∃ t, exec (.timedLineCycleEnd d) s = .next t ∧ t.rdBit Od.nrg_status 3 d.circuit = true ∧
      cycleOf t d.circuit = some ⟨r.phase, r.start + nominalPeriod s⟩) ∧
  (∀ (s : State) (v : Nat), running s = true → v < s.perVariant 6 3 → s.rd Od.nrg_vloss v = 0 →
    ∃ t, exec (.voltageLoss v) s = .next t ∧ t.rd Od.nrg_vloss v = 1) ∧
  (∀ (s : State) (at_ : Nat), powered s = true → at_ % (s.rd Od.nrg_int_period * 1000000000) = 0 → at_ < 2 ^ 64 →
    ∃ t, exec (.intervalBoundary at_) s = .next t ∧ t.rd Od.nrg_int_end = at_ ∧
      ∀ e < 72, s.rd Od.nrg_acc e ≠ 0 → t.rd Od.nrg_int_last e = (s.rd Od.nrg_acc e + 2 ^ 64 - tabGet 0 e s.mer.nrgBase) % 2 ^ 64 ∧
        tabGet 0 e t.mer.nrgBase = s.rd Od.nrg_acc e) ∧
  (∀ (s : State) (o : Nat), running s = true → o < s.perVariant 8 4 → s.rd Od.nrg_pulse_backlog o ≠ 0 → s.nrg.closed.contains o = false →
    ∃ t, exec (.pulseStart o) s = .next t ∧ t.od = s.od ∧ t.nrg.closed = o :: s.nrg.closed) ∧
  (∀ (s : State) (o : Nat), s.nrg.closed.contains o = true → s.rd Od.nrg_pulse_backlog o < 2 ^ 32 →
    ∃ t, exec (.pulseEnd o) s = .next t ∧ t.rd Od.nrg_pulse_count o = (s.rd Od.nrg_pulse_count o + 1) % 2 ^ 64 ∧
      t.rd Od.nrg_pulse_backlog o = s.rd Od.nrg_pulse_backlog o - 1 ∧ t.nrg.closed.contains o = false) ∧
  (∀ (s : State) (first : Nat), running s = true → s.rd Od.nrg_cap_state = 1 → s.nrg.capFrom ≤ first →
    ∃ t, exec (.captureStart first) s = .next t ∧ t.rd Od.nrg_cap_state = 2 ∧
      t.nrg.cap = some ⟨s.nrg.capCircuit, s.rd Od.nrg_cap_cycles, s.nrg.capFrom, s.now, []⟩) ∧
  (∀ (s : State) (c a n : Nat) (rs : List PhaseResult) (y : Capture), s.nrg.cap = some y → s.rd Od.nrg_cap_state = 2 → y.circuit = c →
      y.first ≤ a → y.left = 1 → bspUp s = true →
    (captureTake s c a n rs).nrg.cap = none ∧ (captureTake s c a n rs).rd Od.nrg_cap_transfer = s.nextXfer % 65536) ∧
  (∀ (s : State) (failed : Bool), s.rd Od.nrg_cap_state = 2 → s.nrg.cap = none →
    ∃ t, exec (.captureComplete failed) s = .next t ∧ t.rd Od.nrg_cap_state = (if failed then 3 else 0))

/-- R227, R233, R237, R240, R244 to R246: the control-law engine. At a tick that its period names, an off slot delivers its safe output; a
manual slot its manual output within the limits; an automatic slot of gain alone its gained error, converted and limited; a faulted process
value is flagged and, by the fault action 1, delivers the safe output. A sample on which the instances differ delivers no output, is counted and
starts the self-checks. A self-check finds a transient, one failed instance or two; a
resynchronisation ends in duplex. -/
def Obligations.LoopsDeliverTheirOutputs : Prop :=
  (∀ (s : State) (k : Nat), running s = true → entryOff s = false → s.mode ≠ .safeHold → k < loopCount s →
      sampleDue s k = true → s.rd Od.ctl_instance ≠ 4 → s.rd Od.ctl_mode k = 0 → s.rd Od.ctl_safe_out k < 2 ^ 32 →
    ∃ t, exec (.loopSample k false) s = .next t ∧ t.rd Od.ctl_out k = s.rd Od.ctl_safe_out k) ∧
  (∀ (s : State) (k : Nat) (pv : Frac), running s = true → entryOff s = false → s.mode ≠ .safeHold → k < loopCount s →
      sampleDue s k = true → s.rd Od.ctl_instance ≠ 4 → s.rd Od.ctl_mode k = 1 →
      loopPv readElem s (s.rd Od.ctl_pv_src k) = some pv →
    ∃ t, exec (.loopSample k false) s = .next t ∧ t.rd Od.ctl_pv k = qf32 pv % 2 ^ 32 ∧ t.rdBit Od.ctl_status 7 k = false ∧
      t.rd Od.ctl_out k = qf32 (Frac.clamp (s.rdQ Od.ctl_out_min k) (s.rdQ Od.ctl_out_max k) (s.rdQ Od.ctl_man_out k)) % 2 ^ 32) ∧
  (∀ (s : State) (k : Nat) (pv err : Frac), running s = true → entryOff s = false → s.mode ≠ .safeHold → s.mode ≠ .commission →
      k < loopCount s → sampleDue s k = true → s.rd Od.ctl_instance ≠ 4 → s.rd Od.ctl_mode k = 2 →
      loopPv readElem s (s.rd Od.ctl_pv_src k) = some pv → s.rdBit Od.ctl_status 7 k = false → s.rd Od.ctl_sections k = 0 →
      repsOf s k = [] → (slotOf s k).transfer = false → (s.rdQ Od.ctl_ramp_rate k).num = 0 → s.rd Od.ctl_dir k = 0 →
      err = (((s.rdQ Od.ctl_sp k).sub pv).mul (Frac.ofInt 1)).div (s.rdQ Od.ctl_pv_span k) →
    ∃ t, exec (.loopSample k false) s = .next t ∧
      t.rd Od.ctl_out k = qf32 (outConv s k
        (accOut (accProd (s.rdInt Od.ctl_gain k) (sigClamp (roundAway (err.num * 2 ^ 40) err.den)).1)).1).y % 2 ^ 32) ∧
  (∀ (s : State) (k : Nat), running s = true → entryOff s = false → s.mode ≠ .safeHold → s.mode ≠ .commission →
      k < loopCount s → sampleDue s k = true → s.rd Od.ctl_instance ≠ 4 → s.rd Od.ctl_mode k = 2 →
      loopPv readElem s (s.rd Od.ctl_pv_src k) = none → s.rd Od.ctl_fault_act k = 1 → s.rd Od.ctl_safe_out k < 2 ^ 32 →
    ∃ t, exec (.loopSample k false) s = .next t ∧ t.rdBit Od.ctl_status 7 k = true ∧ t.rd Od.ctl_out k = s.rd Od.ctl_safe_out k) ∧
  (∀ (s : State) (k : Nat), running s = true → entryOff s = false → s.mode ≠ .safeHold → k < loopCount s → sampleDue s k = true →
      s.rd Od.ctl_instance = 0 → s.rd Od.ctl_mismatches + 1 < 2 ^ 32 →
    ∃ t, exec (.loopSample k true) s = .next t ∧ t.rd Od.ctl_out k = s.rd Od.ctl_out k ∧
      t.rd Od.ctl_mismatches = s.rd Od.ctl_mismatches + 1 ∧ t.ctl.checking = true) ∧
  (∀ s : State, s.ctl.checking = true → s.rd Od.ctl_instance = 0 → s.rd Od.ctl_transients + 1 < 2 ^ 32 →
    ∃ t, exec (.selfCheckDone true true true) s = .next t ∧ t.rd Od.ctl_transients = s.rd Od.ctl_transients + 1 ∧ t.ctl.checking = false) ∧
  (∀ (s : State) (agree : Bool), s.ctl.checking = true → s.rd Od.ctl_instance = 0 → s.rdBit Od.sys_health 8 = false →
    ∃ t, exec (.selfCheckDone true false agree) s = .next t ∧ t.rd Od.ctl_instance = 1 ∧ t.rdBit Od.sys_health 9 = true) ∧
  (∀ s : State, s.rd Od.ctl_instance = 3 → s.rdBit Od.sys_health 8 = false → s.rdBit Od.sys_health 9 = false →
    exec .engineResyncComplete s = .next (s.wr Od.ctl_instance 0))

/-- R253, R256, R259 to R263, R265 to R267: motion. A tick moves a channel on along its plan by 31.25 µs, and a plan that ends stands exactly at
its goal; a lane that fails is flagged; a step goes out toward the commanded count and a late one is counted; the idle current is reduced;
a settled channel moves toward its stop, and after the back-off it is referenced; a switch edge is latched and references a car that
looks for it; encoder edges are counted. -/
def Obligations.MotionFollowsItsPlan : Prop :=
  (∀ (s : State) (c d j : Nat) (r : List (Nat × Nat)), running s = true → entryOff s = false → liveChans s = [c] →
      (chanOf s c).plan = (d, j) :: r → (q64 d).le ⟨1, 32000⟩ = false → (chanOf s c).phase = 0 → (chanOf s c).replan = false →
      (chanOf s c).relim = false → (chanOf s c).shift = 0 →
    ∃ t, exec (.motionTick [] none) s = .next t ∧
      (chanOf t c).x = word64 (segAt (kinOf (chanOf s c)) (q64 j) ⟨1, 32000⟩).x ∧
      (chanOf t c).v = word64 (segAt (kinOf (chanOf s c)) (q64 j) ⟨1, 32000⟩).v ∧
      (chanOf t c).a = word64 (segAt (kinOf (chanOf s c)) (q64 j) ⟨1, 32000⟩).a ∧
      (chanOf t c).plan = (word64 (r64 ((q64 d).sub ⟨1, 32000⟩)), j) :: r) ∧
  (∀ (s : State) (c d j : Nat) (g : Int), running s = true → entryOff s = false → liveChans s = [c] →
      (chanOf s c).plan = [(d, j)] → (q64 d).le ⟨1, 32000⟩ = true → (chanOf s c).phase = 0 → (chanOf s c).replan = false →
      (chanOf s c).relim = false → (chanOf s c).shift = 0 →
      (chanOf s c).goal = some g →
    ∃ t, exec (.motionTick [] none) s = .next t ∧ (chanOf t c).x = word64 (nq g) ∧ (chanOf t c).plan = []) ∧
  (∀ (s : State) (agree : Bool), running s = true → entryOff s = false → s.rdBit Od.sys_health 11 = false → s.mot.resync = false →
    ∃ t, exec (.motionTick [] (some ⟨true, false, agree⟩)) s = .next t ∧ t.rdBit Od.sys_health 11 = true) ∧
  (∀ (s : State) (c gapNs : Nat), running s = true → entryOff s = false → c < motCount s → carUse s c = false →
      (chanOf s c).sent < cmdCount (chanOf s c) → (chanOf s c).lastUp = true → s.rd Od.mot_late_steps c + 1 < 2 ^ 32 →
    ∃ t, exec (.stepPulse c gapNs) s = .next t ∧ t.out = .step c true :: s.out ∧ (chanOf t c).sent = (chanOf s c).sent + 1 ∧
      t.rd Od.mot_late_steps c = s.rd Od.mot_late_steps c + (if gapNs < 2 * s.rd Od.mot_step_width c then 1 else 0)) ∧
  (∀ (s : State) (c : Nat), running s = true → c < motCount s → useOf s c ≠ 0 → (chanOf s c).plan = [] → (chanOf s c).phase = 0 →
      s.rd Od.mot_idle_red c ≠ 0 →
    ∃ t, exec (.idleCurrentReduce c) s = .next t ∧ motBit t c motCURRED = true) ∧
  (∀ (s : State) (c : Nat), running s = true → s.mode ≠ .safeHold → (chanOf s c).phase = 2 →
    ∃ t, exec (.referenceSettled c) s = .next t ∧ (chanOf t c).phase = 3 ∧ motBit t c motCURRED = true) ∧
  (∀ (s : State) (c : Nat), (chanOf s c).phase = 4 → (chanOf s c).plan = [] →
    ∃ t, exec (.referenceBackoffDone c) s = .next t ∧ (chanOf t c).phase = 0 ∧ motBit t c motREFERENCED = true ∧
      t.rd Od.mot_ref_result c = 1 ∧ t.rd Od.mot_state c = 1) ∧
  (∀ (s : State) (k input : Nat) (level : Bool) (count : Int) (time : Nat), powered s = true → s.variant = .x → k < 2 → input < 3 →
      time < 2 ^ 64 → s.rd Od.mot_latch_seq (k * 3 + input) + 1 < 2 ^ 32 →
    ∃ t, exec (.switchEdgeLatch k input level count time) s = .next t ∧ t.rd Od.mot_latch_count (k * 3 + input) = ofInt 64 count ∧
      t.rd Od.mot_latch_time (k * 3 + input) = time ∧ t.rd Od.mot_latch_level (k * 3 + input) = b2n level ∧
      t.rd Od.mot_latch_seq (k * 3 + input) = s.rd Od.mot_latch_seq (k * 3 + input) + 1 ∧
      (carUse s (14 + k) = true → (chanOf s (14 + k)).phase = 5 → s.rd Od.mot_ref_edge k = input + (if level then 0 else 4) →
        motBit t (14 + k) motREFERENCED = true ∧ t.rd Od.mot_ref_result (14 + k) = 1 ∧
        encPos t (14 + k) = toInt 64 (s.rd Od.mot_latch_pos k) + (toInt 64 (s.rd Od.mot_enc_count k) - count))) ∧
  (∀ (s : State) (k : Nat), powered s = true → s.variant = .x → k < 2 → s.rd Od.mot_enc_err k + 1 < 2 ^ 32 →
    ∃ t, exec (.encoderIllegalTransition k) s = .next t ∧ t.rd Od.mot_enc_err k = s.rd Od.mot_enc_err k + 1) ∧
  (∀ (s : State) (k : Nat) (up : Bool), powered s = true → s.variant = .x → k < 2 →
    ∃ t, exec (.encoderEdgeCount k up) s = .next t ∧
      t.rd Od.mot_enc_count k = ofInt 64 (toInt 64 (s.rd Od.mot_enc_count k) + (if up then 1 else -1)))

/-- R272, R273, R277, R279 to R284: the runs of a lift car. A cycle sends one command frame to the drive of each car that is wired and has a
drive address, none to a drive without one, and leaves an unwired car OFF; a status frame is taken; the loss of the link stops a moving car on
its brake and counts, and its return is shown; a drive that does not magnetise and a brake that does not open abandon the run, a following
error ramps the car down; the brake's release is delayed; a learning run ends with its result; a car off its floor relevels. -/
def Obligations.LiftRuns : Prop :=
  (∀ (s : State) (k : Nat), running s = true → s.variant = .x → k < 2 → carWired s k = true → s.lft.calls = [] → s.mer.recs = [] →
    ∃ t, exec .liftCycle s = .next t ∧ (t.out.filter (toDrive k)).length = (s.out.filter (toDrive k)).length +
      (if s.rd Od.lft_drive_mac k = 0 then 0 else 1)) ∧
  (∀ (s : State) (k : Nat), running s = true → s.variant = .x → k < 2 → carWired s k = false → s.lft.calls = [] → s.mer.recs = [] →
    ∃ t, exec .liftCycle s = .next t ∧ t.rd Od.lft_state k = 0) ∧
  (∀ (s : State) (k : Nat) (bytes : List Nat), running s = true → k < 2 → carWired s k = true → s.rd Od.lft_drive_mac k ≠ 0 →
      bytes.getD 0 0 = 1 → bytes.getD 1 0 = 2 → 16 ≤ bytes.length →
    ∃ t, exec (.driveStatusFrameRx k (s.rd Od.lft_drive_mac k) bytes) s = .next t ∧ (liftCar t k).drive = ofBytes (slice bytes 8 2) ∧
      (liftCar t k).missed = 0 ∧ t.rd Od.lft_drive_fault k = ofBytes (slice bytes 10 2)) ∧
  (∀ (s : State) (k : Nat), running s = true → k < 2 → carWired s k = true → (liftCar s k).lost = false → 3 ≤ (liftCar s k).missed →
      s.rd Od.lft_sref_enable k = 0 → carMoving s k = true → s.rd Od.lft_link_lost k + 1 < 2 ^ 32 → s.rd Od.lft_state k ≠ 0 →
      (liftCar s k).due = [] →
    ∃ t, exec (.driveLinkLost k) s = .next t ∧ t.rd Od.lft_state k = s.rd Od.lft_state k ∧ t.rd Od.lft_fault k = 1 ∧
      t.rd Od.lft_link_lost k = s.rd Od.lft_link_lost k + 1 ∧ (liftCar t k).brakeReq = false ∧ (dueStep t k).rd Od.lft_state k = 9) ∧
  (∀ (s : State) (k : Nat), running s = true → k < 2 → carWired s k = true → (liftCar s k).lost = true → (liftCar s k).missed < 3 →
    ∃ t, exec (.driveLinkRestored k) s = .next t ∧ (liftCar t k).lost = false ∧ t.rdBit Od.lft_status 7 k = true ∧
      t.rdBit Od.lft_status 8 k = false) ∧
  (∀ (s : State) (k : Nat), running s = true → k < 2 → runAt s k 1 = true → (liftCar s k).drive.testBit 1 = false →
      s.rd Od.lft_state k ≠ 0 → (liftCar s k).due = [] →
    ∃ t, exec (.magnetiseTimeout k) s = .next t ∧ t.rd Od.lft_fault k = 4 ∧ t.rd Od.lft_state k = s.rd Od.lft_state k ∧
      (dueStep t k).rd Od.lft_state k = 10 ∧ (liftCar (dueStep t k) k).run = none) ∧
  (∀ (s : State) (k : Nat), running s = true → k < 2 → runAt s k 2 = true → brakeOpen s k = false → s.rd Od.lft_state k ≠ 0 →
      (liftCar s k).due = [] →
    ∃ t, exec (.brakeOpenTimeout k) s = .next t ∧ t.rd Od.lft_fault k = 5 ∧ t.rd Od.lft_state k = s.rd Od.lft_state k ∧
      (dueStep t k).rd Od.lft_state k = 10 ∧ (liftCar (dueStep t k) k).run = none) ∧
  (∀ (s : State) (k : Nat), running s = true → k < 2 → runAt s k 3 = true → s.rd Od.lft_state k ≠ 9 → s.rd Od.lft_state k ≠ 0 →
      (liftCar s k).due = [] →
      (s.rdQ Od.lft_follow_max k).lt (mmOf s k (motPos s (14 + k) - cmdCount (chanOf s (14 + k)))).abs = true →
    ∃ t, exec (.followingError k) s = .next t ∧ t.rd Od.lft_fault k = 2 ∧ t.rd Od.lft_state k = s.rd Od.lft_state k ∧
      (dueStep t k).rd Od.lft_state k = 9) ∧
  (∀ (s : State) (k : Nat) (r : LiftRun), running s = true → k < 2 → (liftCar s k).run = some r → r.step = 4 →
    ∃ t, exec (.brakeReleaseDelay k) s = .next t ∧ (liftCar t k).brakeReq = false ∧ (liftCar t k).run = some { r with step := 5 }) ∧
  (∀ (s : State) (k n : Nat), running s = true → k < 2 →
      (liftCar s k).learnDone = true → (liftCar s k).edges ≠ [] → n = (learnedVanes (liftCar s k).edges none).length →
    ∃ t, exec (.learnRunEnd k) s = .next t ∧
      t.rd Od.lft_learn_result k = (if n = s.rd Od.lft_landings k then 1 else if n < s.rd Od.lft_landings k then 2 else 3)) ∧
  (∀ (s : State) (k l : Nat), running s = true → s.mode ≠ .safeHold → k < 2 → inService s k = true → s.rd Od.lft_state k = 3 →
      (liftCar s k).run = none → refd s k = true → s.rd Od.lft_landing k = l → l < landings s k →
      (s.rdQ Od.lft_relevel k).lt (mmOf s k (carPos s k - landPos s k l)).abs = true →
      vaneLo s k l ≤ carPos s k → carPos s k ≤ vaneHi s k l → vaneLo s k l ≤ landPos s k l → landPos s k l ≤ vaneHi s k l →
      mayRun s k = true → (liftCar s k).due = [] →
    ∃ t, exec (.relevelStart k) s = .next t ∧ t.od = s.od ∧ (dueStep t k).rd Od.lft_state k = 8 ∧ (liftCar (dueStep t k) k).driveReq = true)

/-- R287 to R289, R292, R293: a lift's waits and its status. A car parked without calls runs, from the next cycle on, to its parking landing; after the dwell time an
open door closes; the nudging time sets NUDGING; a blocked door is tried again, and the next cycle opens it; the status datagram is published. -/
def Obligations.LiftWaits : Prop :=
  (∀ (s : State) (k : Nat), running s = true → s.mode ≠ .safeHold → k < 2 → inService s k = true → s.rd Od.lft_state k = 3 →
      s.mode ≠ .commission → called s k = [] → opOf s k = 0 → s.rd Od.lft_park_landing k ≠ 0xFF →
      s.rd Od.lft_park_landing k ≠ s.rd Od.lft_landing k →
      refd s k = true → mayRun s k = true → (liftCar s k).due = [] →
    ∃ t, exec (.parkTimeout k) s = .next t ∧ t.od = s.od ∧ (dueStep t k).rd Od.lft_state k = 5 ∧
      (dueStep t k).rd Od.lft_dir k = (if carPos s k < landPos s k (s.rd Od.lft_park_landing k) then 1 else 2)) ∧
  (∀ (s : State) (k d c : Nat), running s = true → s.mode ≠ .safeHold → k < 2 → inService s k = true → s.rd Od.lft_state k = 4 →
      opOf s k = 0 → carDoors s k = [d] → doorChan s d = some c → doorState s d = 5 → curtainBroken s d = false →
      (liftCar s k).nudge = false → (doorOf s d).needRef = false →
    ∃ t, exec (.doorDwellExpiry k) s = .next t ∧ doorState t d = 6) ∧
  (∀ (s : State) (k : Nat), running s = true → k < 2 → (liftCar s k).nudgeRun = true → nudgeAllowed s k = true →
    ∃ t, exec (.nudgeTimeout k) s = .next t ∧ (liftCar t k).nudge = true ∧ t.rdBit Od.lft_status 10 k = true) ∧
  (∀ (s : State) (d c : Nat), running s = true → s.mode ≠ .safeHold → d < 4 → doorState s d = 9 → (doorOf s d).held = 4 →
      doorChan s d = some c →
    ∃ t, exec (.blockedOpeningRetry d) s = .next t ∧ doorState t d = 9 ∧ (doorOf t d).held = 6 ∧ motBit t c motSTALL = false ∧
      (doorPermitted s (d / 2) = true → lsState s (d / 2) ≠ 8 → opOf s (d / 2) ≠ 2 → opOf s (d / 2) ≠ 4 →
        doorState (doorStep readElem t (d / 2) d) d = 4)) ∧
  (∀ (s : State) (k : Nat), running s = true → s.variant = .x → k < 2 → s.rd Od.lft_pub_period ≠ 0 → maySend s 0 .traffic = true →
    ∃ t, exec (.liftStatusPublish k) s = .next t ∧ t.out.head? = some (.liftStatus k (statusBytes s k)))

/-- R307 to R311, R315, R316, R323: the safety island. In a cycle a level passes its channel's filter once it has stood long enough; a
two-channel pair with a channel open gives 0 and an unlatched one with both closed gives 1; a core or clock that fails its check sets CORE,
opens every output and holds the module; a test pulse that its own channel does not follow, or that the other channel follows, latches the
pair; a readback outside the rules of an output's pulse latches the output and sets the trip cause; an overload latches the output off. -/
def Obligations.SafetyIslandCycle : Prop :=
  (∀ (s : State) (i : IslandIn) (p : Nat), powered s = true → p < safPairs s →
    ∃ t, exec (.islandCycle i) s = .next t ∧
      (pairOf t p).a = (if i.a.testBit p = (pairOf s p).a then (pairOf s p).a
        else if s.rd Od.saf_in_filter p ≤ 250 * (pairOf s p).offA then i.a.testBit p else (pairOf s p).a) ∧
      (pairOf t p).b = (if i.b.testBit p = (pairOf s p).b then (pairOf s p).b
        else if s.rd Od.saf_in_filter p ≤ 250 * (pairOf s p).offB then i.b.testBit p else (pairOf s p).b)) ∧
  (∀ (s : State) (i : IslandIn) (p : Nat), powered s = true → p < safPairs s → s.rd Od.saf_in_kind p = 1 →
      ((filtered i s p).a && (filtered i s p).b) = false →
    ∃ t, exec (.islandCycle i) s = .next t ∧ t.rd Od.saf_in_result p = 0) ∧
  (∀ (s : State) (i : IslandIn) (p : Nat), powered s = true → p < safPairs s → s.rd Od.saf_in_kind p = 1 →
      (filtered i s p).a = true → (filtered i s p).b = true → vsafeLow s = false → s.rd Od.saf_in_latch p = 0 → s.rd Od.saf_in_restart p = 0 →
    ∃ t, exec (.islandCycle i) s = .next t ∧ t.rd Od.saf_in_result p = 1) ∧
  (∀ (s : State) (i : IslandIn), powered s = true → (i.coreA && i.coreB && i.clockOk) = false →
    ∃ t, exec (.islandCycle i) s = .next t ∧ t.rdBit Od.saf_trip_cause 0 = true ∧ t.rdBit Od.sys_health 14 = true ∧
      (∀ o < safOuts s, (outOf t o).on = false) ∧ (running s = true → t.mode = .safeHold)) ∧
  (∀ (s : State) (p : Nat) (b siA siB : Bool), powered s = true → p < safPairs s → s.rd Od.saf_in_tp p = 1 → s.rd Od.saf_in_kind p = 1 →
      pulseFault (pairOf s p) b siA siB = true → vsafeLow s = false → s.rdBit Od.saf_in_status 4 p = false →
      s.rd Od.saf_in_faults p + 1 < 2 ^ 32 →
    ∃ t, exec (.inputTestPulse p b siA siB) s = .next t ∧ t.rd Od.saf_in_latch p = 2 ∧ t.rd Od.saf_in_result p = 0 ∧
      t.rd Od.saf_in_faults p = s.rd Od.saf_in_faults p + 1 ∧ t.rd Od.saf_latch_gen = (s.rd Od.saf_latch_gen + 1) % 2 ^ 16) ∧
  (∀ (s : State) (o soH soL : Nat), powered s = true → o < safOuts s → vsafeLow s = false → (outOf s o).on = false → soL < 5000 →
      s.rd Od.saf_trip_cause = 0 →
    ∃ t, exec (.outputTestPulse o true soH soL false false) s = .next t ∧ t.od = s.od ∧ (outOf t o).tests = (outOf s o).tests - 1) ∧
  (∀ (s : State) (o soH soL : Nat), powered s = true → o < safOuts s → vsafeLow s = false → (outOf s o).on = false → 5000 ≤ soL →
      s.rd Od.saf_out_fault o = 0 →
    ∃ t, exec (.outputTestPulse o true soH soL false false) s = .next t ∧ t.rd Od.saf_out_fault o = 4 ∧
      t.rdBit Od.saf_trip_cause 1 = true ∧ t.rd Od.saf_out_state o = 2) ∧
  (∀ (s : State) (o : Nat), powered s = true → o < safOuts s → s.rd Od.saf_out_fault o = 0 →
    ∃ t, exec (.outputOverload o) s = .next t ∧ t.rd Od.saf_out_fault o = 5 ∧ t.rd Od.saf_out_state o = 2 ∧ (outOf t o).on = false)

/-- R319 to R322: Macaron connections. A producer sends its next message; a copy with a bad check is counted; a first copy is held; its equal
on the other LAN is accepted and, in state 2, applied; after the skew time one copy is accepted and the absent one counted; the watchdog
takes a connection to its safe state. -/
def Obligations.MacaronConnections : Prop :=
  (∀ (s : State) (c n : Nat), running s = true → c < 32 → macDir s c = 1 → upUsable s 0 = true → (connOf s c).last = some n → n < 2 ^ 32 →
      s.rd Od.saf_trip_cause = 0 →
    ∃ t, exec (.macaronProducerSend c) s = .next t ∧ t.rd Od.saf_mac_seq c = macNext n ∧ t.rd Od.saf_mac_state c = 2 ∧
      t.out.head? = some (.macaron c (s.rd Od.saf_mac_peer c) (macNext n) (macPdu (s.rd Od.saf_mac_id c) (macNext n) (macData s c)))) ∧
  (∀ (s : State) (c lan src : Nat) (bytes : List Nat), running s = true → lan < 2 → upUsable s lan = true →
      consumerOf s (ofBytes (slice bytes 2 2)) = some c → copyValid s c src (copyPdu s c bytes) = false → s.rd Od.saf_trip_cause = 0 →
      s.rd Od.saf_mac_crc_err c + 1 < 2 ^ 32 →
    ∃ t, exec (.macaronCopyRx lan src bytes) s = .next t ∧ t.rd Od.saf_mac_crc_err c = s.rd Od.saf_mac_crc_err c + 1 ∧ t.saf = s.saf) ∧
  (∀ (s : State) (c lan src : Nat) (bytes : List Nat), running s = true → lan < 2 → upUsable s lan = true →
      consumerOf s (ofBytes (slice bytes 2 2)) = some c → copyValid s c src (copyPdu s c bytes) = true → s.rd Od.saf_trip_cause = 0 →
      (connOf s c).held = [] → (connOf s c).last = none → (connOf s c).singles = [] →
    ∃ t, exec (.macaronCopyRx lan src bytes) s = .next t ∧ t.od = s.od ∧
      (connOf t c).held = [(lan, ofBytes (slice (copyPdu s c bytes) 4 4), copyPdu s c bytes)]) ∧
  (∀ (s : State) (c lan src : Nat) (bytes : List Nat), running s = true → lan < 2 → upUsable s lan = true →
      consumerOf s (ofBytes (slice bytes 2 2)) = some c → copyValid s c src (copyPdu s c bytes) = true → s.rd Od.saf_trip_cause = 0 →
      (connOf s c).held = [(1 - lan, ofBytes (slice (copyPdu s c bytes) 4 4), copyPdu s c bytes)] → s.rd Od.saf_mac_state c = 2 →
      s.rd Od.saf_mac_rx c + 1 < 2 ^ 32 →
    ∃ t, exec (.macaronCopyRx lan src bytes) s = .next t ∧ t.rd Od.saf_mac_rx c = s.rd Od.saf_mac_rx c + 1 ∧
      t.rd Od.saf_mac_seq c = ofBytes (slice (copyPdu s c bytes) 4 4) ∧ (connOf t c).applied = pduBits (copyPdu s c bytes) ∧
      (connOf t c).held = []) ∧
  (∀ (s : State) (c lan num : Nat) (pdu : List Nat), running s = true → macDir s c = 2 → (connOf s c).held = [(lan, num, pdu)] →
      lan < 2 →
      s.rd Od.saf_mac_state c = 2 → s.rd Od.saf_mac_missing (c * 2 + (1 - lan)) < 3 → s.rd Od.saf_trip_cause = 0 →
      s.rd Od.saf_mac_rx c + 1 < 2 ^ 32 →
    ∃ t, exec (.macaronSkewExpiry c) s = .next t ∧ t.rd Od.saf_mac_rx c = s.rd Od.saf_mac_rx c + 1 ∧
      t.rd Od.saf_mac_missing (c * 2 + (1 - lan)) = s.rd Od.saf_mac_missing (c * 2 + (1 - lan)) + 1 ∧
      (connOf t c).applied = pduBits pdu ∧ (connOf t c).held = []) ∧
  (∀ (s : State) (c : Nat), running s = true → c < 32 → macDir s c = 2 → s.rd Od.saf_mac_state c ≠ 0 → s.rd Od.saf_mac_state c ≠ 4 →
      s.rd Od.saf_trip_cause = 0 →
    ∃ t, exec (.macaronWatchdog c) s = .next t ∧ t.rd Od.saf_mac_state c = 3 ∧ (connOf t c).applied = 0)

/-- R335 to R339, R341: cyclic programs. The program whose turn it is starts its cycle from the latched
inputs; a cycle that ends in time is counted with its time and
commits its data; an overrun is counted, discards the cycle and at the limit stops the program with fault 1; a trap stops it with fault 2 or
3; a check of the staged image shows its result. -/
def Obligations.ProgramCycles : Prop :=
  (∀ (s : State) (p at_ : Nat), running s = true → s.mode ≠ .commission → p < 4 → (∀ q < 4, (slotPrg s q).cyc = none) →
      turnAt s at_ = some p →
    ∃ t, exec (.programCycleStart p at_) s = .next t ∧ (slotPrg t p).cyc = some (latchInputs readElem s (slotPrg s p)) ∧
      (slotPrg t p).started = true ∧ (slotPrg t p).startAt = at_ ∧ t.prg.turn = p) ∧
  (∀ (s : State) (p at_ us : Nat) (writes : List (Nat × List Nat)) (d : List Nat), (slotPrg s p).cyc = some d →
      us = sinceStart s p at_ → us < s.rd Od.prg_max_cycle p → us < 2 ^ 32 → s.rd Od.prg_cycles p + 1 < 2 ^ 64 → (slotPrg s p).first = none →
      (slotPrg s p).pend = [] →
    ∃ t, exec (.programCycleEnd p at_ writes) s = .next t ∧ t.rd Od.prg_cycles p = s.rd Od.prg_cycles p + 1 ∧
      t.rd Od.prg_cycle_last p = us ∧ (slotPrg t p).cyc = none ∧
      (slotPrg t p).data = writes.foldl (fun d w => splice d w.1 w.2) d) ∧
  (∀ (s : State) (p : Nat), p < 4 → (slotPrg s p).cyc.isSome = true → (slotPrg s p).first = none → (slotPrg s p).pend = [] →
      s.rd Od.prg_overruns p + 1 < 2 ^ 32 → prgState s p = 2 →
    ∃ t, exec (.programOverrun p) s = .next t ∧ t.rd Od.prg_overruns p = s.rd Od.prg_overruns p + 1 ∧ (slotPrg t p).cyc = none ∧
      (slotPrg t p).data = (slotPrg s p).data ∧ t.rdBit Od.prg_status 5 p = true ∧
      (s.rd Od.prg_overrun_limit p ≠ 0 → s.rd Od.prg_overrun_limit p ≤ (slotPrg s p).overruns + 1 →
      prgState t p = 4 ∧ t.rd Od.prg_fault p = 1)) ∧
  (∀ (s : State) (p : Nat), p < 4 →
    ∃ t, exec (.overrunWarnClear p) s = .next t ∧ t.rdBit Od.prg_status 5 p = false) ∧
  (∀ (s : State) (p pc : Nat) (illegal : Bool), p < 4 → (slotPrg s p).cyc.isSome = true → (slotPrg s p).first = none →
      (slotPrg s p).pend = [] → prgState s p = 2 →
    ∃ t, exec (.programTrap p illegal pc) s = .next t ∧ prgState t p = 4 ∧ t.rd Od.prg_fault p = (if illegal then 2 else 3) ∧
      (slotPrg t p).cyc = none ∧ (slotPrg t p).data = (slotPrg s p).data) ∧
  (∀ (s : State) (p r : Nat), powered s = true → p < 4 → s.rd Od.prg_stage_state p = 1 →
      r = imageResult s p (tenantOf s (slotPrg s p).checkPort) (stagedBytes s p) (s.rd Od.prg_stage_len p) →
    ∃ t, exec (.stageCheckDone p) s = .next t ∧ t.rd Od.prg_stage_result p = r ∧ t.rd Od.prg_stage_state p = (if r = 1 then 2 else 3))

/-- R350, R357, R359, R361 to R363: the clock. Every second the count rises by one with the prescaler at zero; a comparison within 32 counts
of the timebase shows synchronised, a larger difference below the step starts a shift, and the boundary that makes it
shows the time as no longer lost; the switch-over to VBAT is counted; VBAT is measured
with its two limits; a brown-out loses the count and keeps a sign of it. -/
def Obligations.RealTimeClock : Prop :=
  (∀ s : State, s.rd Od.rtc_shift = 0 → s.rd Od.rtc_subsec < 32768 → s.rd Od.rtc_seconds + 1 < 2 ^ 64 →
    ∃ t, exec .rtcSecondBoundary s = .next t ∧ t.rd Od.rtc_seconds = s.rd Od.rtc_seconds + 1 ∧ t.rd Od.rtc_subsec = 0 ∧
      t.crystal = s.crystal + (32768 - s.rd Od.rtc_subsec)) ∧
  (∀ (s : State) (d : Int), mpRuns s = true → s.rd Od.rtc_sync = 1 → s.rd Od.net_ptp_state = 3 → s.rd Od.rtc_shift = 0 →
      timePending s = false → d = (rtcTime s : Int) - s.now → d.natAbs * 32768 ≤ 32 * 1000000000 →
    ∃ t, exec .rtcSyncCompare s = .next t ∧ t.rdBit Od.rtc_status 4 = true ∧ t.rd Od.rtc_shift = 0) ∧
  (∀ (s : State) (d : Int), mpRuns s = true → s.rd Od.rtc_sync = 1 → s.rd Od.net_ptp_state = 3 → s.rd Od.rtc_shift = 0 →
      timePending s = false → d = (rtcTime s : Int) - s.now → 32 * 1000000000 < d.natAbs * 32768 →
      d.natAbs < s.rd Od.rtc_sync_step * 1000000000 →
    ∃ t, exec .rtcSyncCompare s = .next t ∧ t.rdBit Od.rtc_status 4 = false ∧ t.rd Od.rtc_lost = s.rd Od.rtc_lost ∧
      t.rdInt Od.rtc_shift = clampInt (-32767) 32767 (-(Frac.mk (d * 32768) 1000000000).round)) ∧
  (∀ s : State, s.rdInt Od.rtc_shift ≠ 0 → s.rtc.shiftInternal = true →
    ∃ t, exec .rtcSecondBoundary s = .next t ∧ t.rd Od.rtc_shift = 0 ∧ t.rd Od.rtc_lost = 0) ∧
  (∀ s : State, s.rtc.onVbat = false →
    ∃ t, exec .vbatSwitchOver s = .next t ∧ t.rtc.onVbat = true ∧ t.rd Od.nrg_vbat_gen = (s.rd Od.nrg_vbat_gen + 1) % 2 ^ 16 ∧
      (s.rd Od.nrg_first_vbat = 0 → t.rd Od.nrg_first_vbat = rtcTime s)) ∧
  (∀ s : State, exec .vaonSwitchBack s = .next { s with rtc := { s.rtc with onVbat := false } }) ∧
  (∀ (s : State) (mv : Nat), powered s = true → mv < 1000 →
    ∃ t, exec (.vbatMeasure mv) s = .next t ∧ t.rd Od.rtc_vbat = 0 ∧ t.rdBit Od.rtc_status 3 = true ∧ t.rdBit Od.rtc_status 2 = true) ∧
  (∀ (s : State) (mv : Nat), powered s = true → 2300 ≤ mv → mv < 2 ^ 16 →
    ∃ t, exec (.vbatMeasure mv) s = .next t ∧ t.rd Od.rtc_vbat = mv ∧ t.rdBit Od.rtc_status 3 = false ∧ t.rdBit Od.rtc_status 2 = false) ∧
  (∀ s : State, s.rd Od.rtc_lost < 2 ^ 8 →
    ∃ t, exec .backupDomainBrownout s = .next t ∧ t.rd Od.rtc_seconds = 0 ∧ t.rd Od.nrg_first_vbat = 2 ^ 64 - 1 ∧ t.rtc.resetFlag = true ∧
      t.rd Od.rtc_lost = s.rd Od.rtc_lost ∧ t.rtc.lossGen = s.rtc.lossGen + 1)

/-- R371 to R376: the store. It starts into the bank the select word does not name, counts and notes the time of its trigger; a copy that passes is selected and clears the
marks of a lost or stale load; a copy that fails marks its bank and goes on in the other; the allowance is replenished up to 32. -/
def Obligations.StoresIntoTheBanks : Prop :=
  (∀ (s : State) (c at_ b : Nat) (cs : List (Nat × Nat)), powered s = true → s.sys.qualified = true → s.nvs.storing = none →
      s.nvs.queued = (c, at_) :: cs → c < 2 ^ 8 → at_ < 2 ^ 64 → b = 1 - (selNow s).bank →
      (selNow s).gen + 1 < 2 ^ 64 → s.rd Od.nvs_store_count b + 1 < 2 ^ 32 →
    ∃ t, exec .storeStart s = .next t ∧ t.nvs.storing.isSome = true ∧ t.nvs.queued = cs ∧ t.nvs.target = b ∧
      t.rd Od.nvs_generation = (selNow s).gen + 1 ∧ t.rd Od.nvs_last_cause = c ∧ t.rd Od.nvs_last_store = at_ ∧
      t.rd Od.nvs_store_count b = s.rd Od.nvs_store_count b + 1) ∧
  (∀ (s : State) (us cause : Nat) (snap : Bank), powered s = true → s.nvs.storing = some (cause, snap) → entryOff s = false →
      s.txn.held = [] → s.nvs.target < 2 →
    ∃ t, exec (.storeComplete false us) s = .next t ∧ t.nvs.storing = none ∧ t.nvs.sel0 = selWord 1 s.nvs.target snap.gen ∧
      t.nvs.sel1 = t.nvs.sel0 ∧ selNow t = t.nvs.sel0 ∧ shadowOf t s.nvs.target = some snap ∧ t.rd Od.nvs_active_bank = s.nvs.target ∧
      t.rd Od.nvs_lost = 0 ∧ t.rd Od.nvs_stale = 0 ∧ t.rdBit Od.sys_health (2 + s.nvs.target) = false) ∧
  (∀ (s : State) (us cause : Nat) (snap : Bank), powered s = true → s.nvs.storing = some (cause, snap) → s.nvs.inPlace = false →
      s.nvs.target < 2 →
    ∃ t, exec (.storeComplete true us) s = .next t ∧ t.nvs.storing.isSome = true ∧ t.nvs.inPlace = true ∧
      t.nvs.target = 1 - s.nvs.target ∧ shadowOf t s.nvs.target = none ∧ t.rd Od.nvs_bank_state s.nvs.target = 1 ∧
      t.rd Od.nvs_bank_state (1 - s.nvs.target) = 2 ∧ t.rdBit Od.sys_health (2 + s.nvs.target) = true) ∧
  (∀ s : State, powered s = true → s.rd Od.nvs_allowance < 32 →
    exec .allowanceReplenish s = .next (s.wr Od.nvs_allowance (s.rd Od.nvs_allowance + 1)))

/-- R386, R387, R389, R391, R392: the recorder. A flush takes the buffer into its region of the Meringue; 128 unmoved records move to the
flash; a read context ends after its time and its data stay; a dump ends complete or failed, and fails when it keeps an erase waiting too
long; a clear whose number is still the head moves the tail and is recorded. -/
def Obligations.RecorderMoves : Prop :=
  (∀ s : State, mpRuns s = true → sramOpen s = true → s.recd.dropped = 0 → recUnmoved s + s.recd.buf.length ≤ 2048 →
    ∃ t, exec .recorderFlush s = .next t ∧ t.recd.buf = [] ∧ t.mer.region = (s.recd.buf ++ s.mer.region).take 2048 ∧ t.od = s.od) ∧
  (∀ s : State, mpRuns s = true → 128 ≤ recUnmoved s → s.recd.flash.length + 128 ≤ 65536 →
    ∃ t, exec (.recordMove false) s = .next t ∧ t.recd.flash.length = s.recd.flash.length + 128 ∧ t.recd.flash.drop 128 = s.recd.flash ∧
      t.recd.tail = s.recd.tail) ∧
  (∀ (s : State) (r : Nat), tabGet false r s.recd.owned = true →
    ∃ t, exec (.recContextExpiry r) s = .next t ∧ tabGet false r t.recd.owned = false ∧ ∀ e, t.rd Od.rec_rd_data e = s.rd Od.rec_rd_data e) ∧
  (∀ (s : State) (failed : Bool), s.rd Od.rec_dump_state = 1 →
    ∃ t, exec (.recDumpComplete failed) s = .next t ∧ t.rd Od.rec_dump_state = (if failed then 3 else 2) ∧ t.recd.dump = []) ∧
  (∀ s : State, s.recd.eraseWaits = true → s.rd Od.rec_dump_state = 1 → mpRuns s = true →
    ∃ t, exec .recDumpEraseTimeout s = .next t ∧ t.rd Od.rec_dump_state = 3 ∧ t.recd.eraseWaits = false) ∧
  (∀ (s : State) (seq : Nat) (rest : List (Nat × Nat)), powered s = true → s.recd.clears = (seq, recHead s) :: rest → recRoom s = true →
      s.recd.next < 2 ^ 64 →
    ∃ t, exec .recClearApply s = .next t ∧ t.recd.clears = rest ∧ t.rd Od.rec_clear_seq = s.recd.next ∧ t.recd.tail = s.recd.next)

/-- R398, R399, R401, R405: firmware update. A programmed block stands in the Proofing area and in the map; a complete transfer of a block is
programmed, or counted as refused; a verification ends with its result; a probation that runs out stops the watchdog's service. -/
def Obligations.UpdateSteps : Prop :=
  (∀ (s : State) (b : Nat) (data : List Nat), powered s = true → s.upd.prog = some (b, data) → b < 960 →
    ∃ t, exec .blockProgrammed s = .next t ∧ t.upd.prog = none ∧ tabGet [] b t.upd.proof = data ∧ mapHas (t.rd Od.upd_map) b = true) ∧
  (∀ (s : State) (bytes : List Nat) (rest : List (List Nat)) (tenant hdr : Nat), powered s = true → s.lbs.imgDone = bytes :: rest →
      16 ≤ bytes.length → hdr = ofBytes (bytes.take 16) → bspTenant s = some tenant → hasRight s tenant rightUPDATE = true →
      granted s tenant 1 0x1800 = true → blockRefusal s (s.upd.prog.isSome || blockAccepted s) hdr (bytes.drop 16) = .ok →
    ∃ t, exec .bspImageBlock s = .next t ∧ t.lbs.imgDone = rest ∧
      t.upd.prog = some (bytesAt 16 hdr 0 2, (bytes.drop 16).take (bytesAt 16 hdr 2 4))) ∧
  (∀ (s : State) (bytes : List Nat) (rest : List (List Nat)), powered s = true → s.lbs.imgDone = bytes :: rest → bspTenant s = none →
      s.rd Od.upd_blk_refused + 1 < 2 ^ 32 →
    ∃ t, exec .bspImageBlock s = .next t ∧ t.lbs.imgDone = rest ∧ t.upd = s.upd ∧ t.rd Od.upd_blk_refused = s.rd Od.upd_blk_refused + 1) ∧
  (∀ (s : State) (bad : Bool), mpRuns s = true → s.rd Od.upd_state = 2 → s.rdBit Od.sys_mp_deferred 0 = false →
    ∃ t, exec (.verifyComplete bad) s = .next t ∧ t.rd Od.upd_result = verifyResult s bad ∧
      t.rd Od.upd_state = (if verifyResult s bad = 1 then 3 else 4)) ∧
  (∀ s : State, s.mode = .probation → s.rd Od.upd_probation_left = 0 → s.sys.resetDue = none →
    ∃ t, exec .probationExpiry s = .next t ∧ t.sys.resetDue = some .wdr)

/-- R421, R422, R429, R432: measurements of the supply and the temperature, shown with their status bits. -/
def Obligations.EnvironmentIsMeasured : Prop :=
  (∀ (s : State) (vmain vsafe power : Nat), powered s = true →
    ∃ t, exec (.vmainMeasure vmain vsafe power) s = .next t ∧ t.rd Od.sys_vmain = min vmain 65535 ∧ t.rd Od.sys_vsafe = min vsafe 65535 ∧
      t.rd Od.sys_power = min power 0xFFFFFFFF ∧ t.rdBit Od.sys_env_status 2 = decide (32000 < vmain)) ∧
  (∀ (s : State) (mv : Nat), powered s = true → mv < 19000 →
    ∃ t, exec (.vsafeLow mv) s = .next t ∧ t.rd Od.sys_vsafe = mv ∧ t.rdBit Od.sys_env_status 1 = true) ∧
  (∀ (s : State) (mv : Nat), powered s = true → s.rdBit Od.sys_env_status 1 = true → 20000 ≤ mv → mv < 2 ^ 16 →
    ∃ t, exec (.vsafeRecover mv) s = .next t ∧ t.rd Od.sys_vsafe = mv ∧ t.rdBit Od.sys_env_status 1 = false ∧
      ∀ o < safOuts s, (outOf t o).tests = 2) ∧
  (∀ (s : State) (land soc : Int), powered s = true → -32768 ≤ land → land < 32768 → -32768 ≤ soc → soc < 32768 →
    ∃ t, exec (.tempMeasure land soc) s = .next t ∧ t.rdInt Od.sys_temp_land = land ∧ t.rdInt Od.sys_temp_soc = soc ∧
      t.rdInt Od.sys_temp_max = max (s.rdInt Od.sys_temp_max) soc ∧ (1050 < soc → t.rdBit Od.sys_env_status 3 = true) ∧
      (soc ≤ 1000 → t.rdBit Od.sys_env_status 3 = false))

/-- R69, R86 to R88: writes. Every command that writes one entry, sent by a client and passing its checks, becomes a record of the ledger with
the next acceptance number; one of an ordinary entry holds its write and waits for the next commit tick. The same of a write of the local bus
while no transaction of it is open. The commands are HOLD_TEST_CMD, MODE_REQUEST, FAULT_RETEST_CMD, TREND_DUMP_CMD, TX_START_WRITE,
SPEED_MAX_WRITE, DOWNSHIFT_DISABLE, PSE_RESET_CMD, BSP_ENABLE_WRITE, ANA_OUT_WRITE, HART_PASSTHROUGH_REQ, CAL_STEP_NOW, CAL_RUN_CLEAR,
PULSE_CONST_WRITE, VBAT_CLEAR, CAPTURE_CMD, SOFT_SETPOINT_WRITE, CTL_MODE_WRITE, REP_MEMORY_CLEAR, MOT_TARGET_WRITE, REFERENCE_CMD,
LEARN_RUN_CMD, LIFT_FAULT_RESET, LIFT_CALL, SAF_ACK, SAF_UCM_ACK, SAF_HOLD_EXIT, PROGRAM_RUN_WRITE, STAGE_CHECK_CMD, PROGRAM_EXCHANGE,
RTC_SECONDS_WRITE, RTC_CAL_WRITE, RTC_SHIFT_WRITE, STORE_CMD, REC_READ_REQUEST, REC_DUMP, REC_CLEAR, UPD_BEGIN, UPD_BLOCK, UPD_VERIFY,
UPD_ACTIVATE, UPD_HEALTH_OK and KEY_REPLACE, and ENTRY_WRITE and COP_WRITE. -/
def Obligations.EntryWritesAreAccepted : Prop :=
  (∀ (s : State) (w : Who) (e v : Nat) (x : Instr × Nat × Nat),
      x ∈ ([(.holdTestCmd w v, Od.sys_hold_test, 0), (.modeRequest w v, Od.sys_mode_req, 0), (.faultRetestCmd w v, Od.sys_fault_retest, 0),
        (.trendDumpCmd w v, Od.sys_trend_dump, 0), (.txStartWrite w e v, Od.net_tx_start, e), (.speedMaxWrite w e v, Od.net_speed_max, e),
        (.downshiftDisable w v, Od.net_downshift, 0), (.pseResetCmd w v, Od.fld_pse_reset, 0),
        (.bspEnableWrite w v, Od.lbs_bsp_enable, 0), (.anaOutWrite w e v, Od.ana_out, e), (.hartPassthroughReq w e v, Od.ana_hart_req, e),
        (.calStepNow w e v, Od.cal_step_now, e), (.calRunClear w e v, Od.cal_run, e), (.pulseConstWrite w e v, Od.nrg_pulse_const, e),
        (.vbatClear w v, Od.nrg_vbat_clear, 0), (.captureCmd w v, Od.nrg_cap_circuit, 0), (.softSetpointWrite w e v, Od.ctl_sp_soft, e),
        (.ctlModeWrite w e v, Od.ctl_mode, e), (.repMemoryClear w e v, Od.ctl_rep_clear, e), (.motTargetWrite w e v, Od.mot_target, e),
        (.referenceCmd w e v, Od.mot_ref_cmd, e), (.learnRunCmd w e v, Od.lft_learn, e), (.liftFaultReset w e v, Od.lft_fault_reset, e),
        (.liftCall w e v, Od.lft_call, e), (.safAck w v, Od.saf_ack, 0), (.safUcmAck w e v, Od.saf_ucm_ack, e),
        (.safHoldExit w v, Od.saf_hold_exit, 0), (.programRunWrite w e v, Od.prg_run, e), (.stageCheckCmd w e v, Od.prg_stage_check, e),
        (.programExchange w e v, Od.prg_exchange, e), (.rtcSecondsWrite w v, Od.rtc_seconds, 0), (.rtcCalWrite w v, Od.rtc_cal, 0),
        (.rtcShiftWrite w v, Od.rtc_shift, 0), (.storeCmd w v, Od.nvs_store_cmd, 0), (.recReadRequest w e v, Od.rec_rd_req, e),
        (.recDump w v, Od.rec_dump, 0), (.recClear w v, Od.rec_clear, 0), (.updBegin w v, Od.upd_begin, 0),
        (.updBlock w v, Od.upd_block, 0), (.updVerify w v, Od.upd_verify, 0), (.updActivate w v, Od.upd_activate, 0),
        (.updHealthOk w v, Od.upd_health_ok, 0), (.keyReplace w v, Od.key_replace, 0)] : List (Instr × Nat × Nat)) →
      Accepts s w false [entryItem x.2.1 x.2.2 v] → w.port ≠ 0 → w.reqid ≠ 0 → s.rd Od.txn_next_seq + 1 < 2 ^ 64 →
    ∃ t r, exec x.1 s = .next t ∧ r ∈ t.mer.recs ∧ RecordOf s w [entryItem x.2.1 x.2.2 v] r ∧
      t.rd Od.txn_next_seq = s.rd Od.txn_next_seq + 1 ∧
      (entryKind x.2.1 = 0 → v < 2 ^ widthOf x.2.1 → r.writes = [⟨x.2.1, x.2.2, v⟩] ∧ r.completed = false)) ∧
  (∀ (c : Instr) (s : State) (w : Who) (i e v : Nat), elementWrite c = some (w, i, e, v) →
      Accepts (lbPending s w.reqid) w false [entryItem i e v] → w.port = 0 → w.reqid ≠ 0 → lbTxn s = none →
      (i < Od.txn_begin ∨ Od.txn_rollback < i) →
      s.rd Od.txn_next_seq + 1 < 2 ^ 64 →
    ∃ t r, exec c s = .next t ∧ r ∈ t.mer.recs ∧ RecordOf s w [entryItem i e v] r ∧ t.rd Od.txn_next_seq = s.rd Od.txn_next_seq + 1) ∧
  (∀ (s : State) (w : Who) (i e ty v : Nat), Accepts s w false [oneItem i e ty v] → w.port ≠ 0 → w.reqid ≠ 0 →
      s.rd Od.txn_next_seq + 1 < 2 ^ 64 →
    ∃ t r, exec (.entryWrite w i e ty v) s = .next t ∧ r ∈ t.mer.recs ∧ RecordOf s w [oneItem i e ty v] r ∧
      t.rd Od.txn_next_seq = s.rd Od.txn_next_seq + 1) ∧
  (∀ (s : State) (w : Who) (items : List WItem), Accepts s w false items → w.port ≠ 0 → w.reqid ≠ 0 → s.rd Od.txn_next_seq + 1 < 2 ^ 64 →
    ∃ t r, exec (.copWrite w 0 items) s = .next t ∧ r ∈ t.mer.recs ∧ RecordOf s w items r ∧
      t.rd Od.txn_next_seq = s.rd Od.txn_next_seq + 1 ∧
      (writeKind items = 0 → r.writes = itemWrites (liveItems items) ∧ r.completed = false))

/-- R68 to R70, R73: reads, descriptions and datagrams. A read outside a transaction is answered with each item's status and data and the first
status that is not OK; so is a description; a datagram that matches a port acts as its request; a malformed one is counted. -/
def Obligations.RequestsAreAnswered : Prop :=
  (∀ (s : State) (w : Who) (items : List WItem) (rs : List (Status × List Nat)), serves s = true → w.port ≠ 0 → w.port < 256 →
      s.rd Od.od_port_kind w.port ≠ 0 →
      w.reqid ≠ 0 → duplicateOf s w = none → openTxn s 0 = none →
      rs = items.map (readItem (s.count Od.od_port_hits w.port) w.port []) →
      rs.foldl (fun a r => a + 12 + pad4 r.2.length) 0 ≤ 1424 →
    ∃ t, exec (.copRead w 0 items) s = .next t ∧ t.mer = s.mer ∧
      t.out = .cop w (answerPorts s w.origin) opREAD (firstBad (rs.map (fun r => r.1))).code 0 (degraded s) 0
        ((items.zip rs).map (fun p => ⟨p.1.index, p.1.first, p.1.count, p.1.ty, p.2.1.code, p.2.2⟩)) :: s.out) ∧
  (∀ (s : State) (w : Who) (items : List WItem) (rs : List (Status × List Nat)), serves s = true → w.port ≠ 0 → w.port < 256 →
      s.rd Od.od_port_kind w.port ≠ 0 →
      w.reqid ≠ 0 → duplicateOf s w = none → rs = items.map (describeItem (s.count Od.od_port_hits w.port) w.port) →
      rs.foldl (fun a r => a + 12 + pad4 r.2.length) 0 ≤ 1424 →
    ∃ t, exec (.copDescribe w 0 items) s = .next t ∧ t.mer = s.mer ∧
      t.out = .cop w (answerPorts s w.origin) opDESCRIBE (firstBad (rs.map (fun r => r.1))).code 0 (degraded s) 0
        ((items.zip rs).map (fun p => ⟨p.1.index, p.1.first, p.1.count, p.1.ty, p.2.1.code, p.2.2⟩)) :: s.out) ∧
  (∀ (s : State) (rx : RxInfo) (bytes : List Nat) (f : CopFrame) (n : Nat), serves s = true → rx.discard = false → bytes.length ≤ 1452 →
      parseCop bytes = some f → classify s rx = some n → n ≠ 0 → f.version = 1 → rx.queueFull = false →
    exec (.copDatagramRx rx bytes) s = .next (request s f.op ⟨n, f.client, f.reqid, rx.toSource⟩ f.handle f.items (decide (4 ≤ f.flags)))) ∧
  (∀ (s : State) (rx : RxInfo) (bytes : List Nat), serves s = true → rx.discard = false → bytes.length ≤ 1452 → parseCop bytes = none →
      s.rd Od.od_malformed + 1 < 2 ^ 32 →
    ∃ t, exec (.copDatagramRx rx bytes) s = .next t ∧ t.rd Od.od_malformed = s.rd Od.od_malformed + 1 ∧ t.out = s.out) ∧
  (∀ (s : State) (seq : Nat) (x : Waiting), running s = true → s.sys.appUp = true →
      s.txn.waiting.find? (fun y => y.seq == seq) = some x → x.who.port ≠ 0 → x.op ≠ opBACNET →
    ∃ t, exec (.responseTimeout seq) s = .next t ∧
      t.out = .cop x.who (answerPorts s x.who.origin) x.op 0 x.handle (degraded s) seq (okItems x.items) :: s.out ∧
      t.txn.waiting.any (fun y => y.seq == seq) = false)

/-- R88: a commit tick advances the timebase to the next multiple of 31.25 µs and completes every piece of work of ordinary entries that
was accepted before it; a point scan brings an input point to the value of its linked entry (R81). -/
def Obligations.CommitTicksAndScans : Prop :=
  (∀ s : State, powered s = true → ∃ t, exec .commitTick s = .next t ∧ t.now = (s.now / 31250 + 1) * 31250 % 2 ^ 64) ∧
  (∀ (s : State) (r : LedgerRec), powered s = true → s.mode ≠ .boot → s.nvs.storing = none → s.sys.replayTo = none → s.txn.held = [] →
      r ∈ s.mer.recs →
      r.kind = 0 → r.specDone = true → r.ordDone = false → r.completed = false →
    ∃ t r', exec .commitTick s = .next t ∧ r' ∈ t.mer.recs ∧ r'.seq = r.seq ∧ r'.completed = true) ∧
  (∀ (s : State) (n i e : Nat) (d : EntryDef), running s = true → usedPoints s = [n] → kindInput (ptKind s n) = true →
      ptLink s n = some (i, e) → linkAbsent s (i, e) = false → entryDef? i = some d → s.pts.failed = [] →
      s.rd Od.od_bacnet_dev = 4194303 →
    ∃ t, exec .pointScan s = .next t ∧ t.rd (ptIndex n) 0 = toPoint d.ty (readElem s i e) % 2 ^ 32)

/-- R90, R93 to R97: transactions. A begin opens the first free handle; a commit that passes its checks becomes a record of kind 1 and
closes its transaction, and one that arrives before the tick of the commit before it waits for that tick; a rollback closes it with cause
2; so does an idle time with cause 4, which is counted. The local bus does the same through its three entries. -/
def Obligations.TransactionsOpenAndClose : Prop :=
  (∀ (s : State) (w : Who) (k : Nat), serves s = true → w.port ≠ 0 → w.port < 256 → s.rd Od.od_port_kind w.port ≠ 0 → w.reqid ≠ 0 →
      duplicateOf s w = none →
      s.nvs.storing = none → hasRight s (tenantOf s w.port) rightTXN = true → s.sys.qualified = true → standbyAccepted s = false →
      (List.range 8).find? (fun k => (descOf s (k + 1)).isNone && (openTxn s (k + 1)).isNone) = some k →
    ∃ t, exec (.txnBegin w) s = .next t ∧ (openTxn t (k + 1)).isSome = true ∧ descOf t (k + 1) = some ⟨k + 1, w.port, w.client, w.reqid, 0, 0⟩ ∧
      t.out = .cop w (answerPorts s w.origin) opBEGIN 0 (k + 1) (degraded s) 0 [] :: s.out) ∧
  (∀ (s s1 : State) (w : Who) (h : Nat) (x : TxnOpen), serves s = true → w.port ≠ 0 → w.port < 256 → s.rd Od.od_port_kind w.port ≠ 0 →
      w.reqid ≠ 0 →
      duplicateOf s w = none → s1 = touchTxn (s.count Od.od_port_hits w.port) h → gate s opCOMMIT w h = none → s.nvs.storing = none →
      commitAwaits s = false → h ≠ 0 → openTxn s1 h = some x → commitVerdict s1 w x = (.ok, 1) →
      acceptRefusal s1 (8 + runsSize (runsOf x.staged)) = .ok →
    ∃ t r, exec (.txnCommit w h) s = .next t ∧ r ∈ t.mer.recs ∧ r.seq = s.rd Od.txn_next_seq ∧ r.kind = 1 ∧ r.reqid = w.reqid ∧
      openTxn t h = none) ∧
  (∀ (s : State) (w : Who) (h : Nat), serves s = true → w.port ≠ 0 → w.port < 256 → s.rd Od.od_port_kind w.port ≠ 0 → w.reqid ≠ 0 →
      duplicateOf s w = none →
      gate s opCOMMIT w h = none → commitAwaits s = true →
    ∃ t, exec (.txnCommit w h) s = .next t ∧ t.mer = s.mer ∧ t.out = s.out ∧ t.txn.held = s.txn.held ++ [⟨opCOMMIT, w, h, [], false⟩]) ∧
  (∀ (s : State) (w : Who) (h : Nat), serves s = true → w.port ≠ 0 → w.port < 256 → s.rd Od.od_port_kind w.port ≠ 0 → w.reqid ≠ 0 →
      duplicateOf s w = none →
      gate s opROLLBACK w h = none → s.nvs.storing = none → h ≠ 0 → h < 256 →
    ∃ t, exec (.txnRollback w h) s = .next t ∧ openTxn t h = none ∧ descOf t h = none ∧ byteAt 16 (t.rd Od.txn_closure 0) 0 = h ∧
      byteAt 16 (t.rd Od.txn_closure 0) 1 = 2) ∧
  (∀ (s : State) (h : Nat) (x : TxnOpen), serves s = true → openTxn s h = some x → (descOf s h).isSome = true → x.committing = false →
      x.last + s.rd Od.txn_timeout * 1000000000 ≤ s.now → s.rd Od.txn_expired + 1 < 2 ^ 32 →
    ∃ t, exec (.txnIdleTimeout h) s = .next t ∧ openTxn t h = none ∧ byteAt 16 (t.rd Od.txn_closure 0) 1 = 4 ∧
      t.rd Od.txn_expired = s.rd Od.txn_expired + 1) ∧
  (∀ (s s1 : State) (w : Who) (v k : Nat), serves s = true → w.port = 0 → s.rd Od.od_port_kind 0 ≠ 0 → w.reqid ≠ 0 → duplicateOf s w = none →
      s1 = lbPending (s.count Od.od_port_hits 0) w.reqid →
      checkItem s1 ⟨0, w.client, 0, false, false, none⟩ (entryItem Od.txn_begin 0 v) = .ok → lbTxn s = none → s.nvs.storing = none →
      hasRight s (tenantOf s 0) rightTXN = true → s.sys.qualified = true → standbyAccepted s = false →
      (List.range 8).find? (fun k => (descOf s (k + 1)).isNone && (openTxn s (k + 1)).isNone) = some k →
    ∃ t, exec (.lbTxnBegin w v) s = .next t ∧ (openTxn t (k + 1)).isSome = true) ∧
  (∀ (s s1 : State) (w : Who) (v h : Nat) (x : TxnOpen), serves s = true → w.port = 0 → s.rd Od.od_port_kind 0 ≠ 0 → w.reqid ≠ 0 →
      duplicateOf s w = none →
      s1 = lbPending (s.count Od.od_port_hits 0) w.reqid →
      checkItem s1 ⟨0, w.client, 0, false, false, none⟩ (entryItem Od.txn_commit 0 v) = .ok → closureFor s w = none → lbTxn s = some h →
      s.nvs.storing = none → commitAwaits s = false →
      openTxn s h = some x → x.committing = false → commitVerdict s1 w x = (.ok, 1) →
      acceptRefusal s1 (8 + runsSize (runsOf x.staged)) = .ok →
    ∃ t r, exec (.lbTxnCommit w v) s = .next t ∧ r ∈ t.mer.recs ∧ r.kind = 1 ∧ r.seq = s.rd Od.txn_next_seq ∧ openTxn t h = none) ∧
  (∀ (s s1 : State) (w : Who) (v h : Nat) (x : TxnOpen), serves s = true → w.port = 0 → s.rd Od.od_port_kind 0 ≠ 0 → w.reqid ≠ 0 →
      duplicateOf s w = none →
      s1 = lbPending (s.count Od.od_port_hits 0) w.reqid →
      checkItem s1 ⟨0, w.client, 0, false, false, none⟩ (entryItem Od.txn_rollback 0 v) = .ok → closureFor s w = none → lbTxn s = some h →
      s.nvs.storing = none →
      openTxn s h = some x → x.committing = false →
    ∃ t, exec (.lbTxnRollback w v) s = .next t ∧ openTxn t h = none)

/-- R73, R82 to R85: BACnet, on the logical port that matches the request. Reads answer the present value, and an answer longer than the
largest APDU is an Abort; a write of the present value at a priority becomes a record without a request
identifier; a subscription is entered and notified at once, ends at its expiry and is cancelled without terms; Who-Is and Who-Has, by object
and by name, are answered; an unsupported confirmed service is rejected; a foreign device registers for 300 s. -/
def Obligations.BacnetServices : Prop :=
  (∀ (s s1 : State) (rx : RxInfo) (port n objType inst : Nat), s1 = bacCounted rx s → bacPort rx s = some port → answerPorts s rx.toSource ≠ [] → objType ≠ bacDEVICE →
      bacPoint s1 objType inst = some n → mayReadTenant s1 (tenantOf s1 port) (ptIndex n) = true →
    ∃ t, exec (.bacnetReadProperty rx [(objType, inst, 85)]) s = .next t ∧
      t.out = .bacValues port [.num (bacPv (ptKind s n) (s.rd (ptIndex n) 0))] :: s.out) ∧
  (∀ (s s1 : State) (rx : RxInfo) (port : Nat) (props : List (Nat × Nat × Nat)), s1 = bacCounted rx s → bacPort rx s = some port →
      answerPorts s rx.toSource ≠ [] → bacRoom rx < bacAnswerSize (props.map (fun p => (bacKind s1 p.1 p.2.1, p.2.2))) (bacReadAll port props s1).2 →
    ∃ t, exec (.bacnetReadProperty rx props) s = .next t ∧ t.out = .bacAbort port :: s.out) ∧
  (∀ (s s1 : State) (rx : RxInfo) (port n p : Nat) (r : BacWrite) (it : WItem), s1 = bacCounted rx s → bacPort rx s = some port →
      r.objType ≠ bacDEVICE → bacPoint s1 r.objType r.inst = some n → r.prop = bacPRESENT_VALUE → r.typeOk = true →
      r.priority = some p → 1 ≤ p → p ≤ 16 → it = entryItem (ptIndex n) p (bacWord (ptKind s1 n) r.value) →
      (checkItems s1 ⟨port, 0, 0, false, true, none⟩ [] [it]).all (· == .ok) = true → liveItems [it] ≠ [] → s.nvs.storing = none →
      acceptRefusal s1 (8 + itemsSize [it]) = .ok → s.rd Od.txn_next_seq + 1 < 2 ^ 64 →
    ∃ t x, exec (.bacnetWriteProperty rx [r]) s = .next t ∧ x ∈ t.mer.recs ∧ RecordOf s ⟨port, 0, 0, rx.toSource⟩ [it] x ∧
      t.rd Od.txn_next_seq = s.rd Od.txn_next_seq + 1) ∧
  (∀ (s s1 : State) (rx : RxInfo) (port client process objType inst lifetime n : Nat) (confirmed : Bool), s1 = bacCounted rx s →
      bacPort rx s = some port → answerPorts s rx.toSource ≠ [] → bacPoint s1 objType inst = some n → mayReadTenant s1 (tenantOf s1 port) (ptIndex n) = true →
      lifetime ≤ 86400 → s.pts.covs.length < 512 →
    ∃ t c, exec (.bacnetSubscribeCov rx client process objType inst (some confirmed) lifetime) s = .next t ∧ c ∈ t.pts.covs ∧
      sameSub client process objType inst c = true ∧ c.lifetime = lifetime ∧
      t.out.head? = some (.bacCov port client process objType inst confirmed (s.rd (ptIndex n) 0) (ptFlags s1 n))) ∧
  (∀ (s : State) (rx : RxInfo) (port client process objType inst lifetime n : Nat), bacPort rx s = some port →
      answerPorts s rx.toSource ≠ [] → bacPoint (bacCounted rx s) objType inst = some n →
    ∃ t, exec (.bacnetSubscribeCov rx client process objType inst none lifetime) s = .next t ∧ t.out = .bacAck port 0 :: s.out ∧
      t.pts.covs = s.pts.covs.filter (fun c => !(sameSub client process objType inst c))) ∧
  (∀ (s : State) (client process objType inst : Nat),
    ∃ t, exec (.bacnetCovExpiry client process objType inst) s = .next t ∧ t.od = s.od ∧
      t.pts.covs.all (fun c => !(sameSub client process objType inst c) || c.lifetime == 0) = true) ∧
  (∀ (s : State) (rx : RxInfo) (port lo hi : Nat), bacPort rx s = some port → answerPorts s rx.toSource ≠ [] → lo ≤ s.rd Od.od_bacnet_dev → s.rd Od.od_bacnet_dev ≤ hi →
    ∃ t, exec (.bacnetWhoIs rx lo hi) s = .next t ∧
      t.out = .bacIAm port (s.rd Od.od_bacnet_dev) (if rx.kind = 4 then 480 else 1476) :: s.out) ∧
  (∀ (s s1 : State) (rx : RxInfo) (range : Option (Nat × Nat)) (port objType inst n : Nat), s1 = bacCounted rx s → bacPort rx s = some port →
      answerPorts s rx.toSource ≠ [] → bacAsked s range = true → objType ≠ bacDEVICE →
      bacPoint s1 objType inst = some n → mayReadTenant s1 (tenantOf s1 port) (ptIndex n) = true →
    ∃ t, exec (.bacnetWhoHas rx range (.object objType inst)) s = .next t ∧
      t.out = .bacIHave port (s.rd Od.od_bacnet_dev) objType inst (bacName s n) :: s.out) ∧
  (∀ (s s1 : State) (rx : RxInfo) (range : Option (Nat × Nat)) (port n : Nat) (name : List Nat), s1 = bacCounted rx s → bacPort rx s = some port →
      answerPorts s rx.toSource ≠ [] → bacAsked s range = true →
      (usedPoints s1).find? (fun n => decide (1 ≤ ptKind s1 n) && decide (ptKind s1 n ≤ 9) && bacName s1 n == name) = some n →
      mayReadTenant s1 (tenantOf s1 port) (ptIndex n) = true →
    ∃ t, exec (.bacnetWhoHas rx range (.named name)) s = .next t ∧
      t.out = (if name = Config.deviceName.take 32 then .bacIHave port (s.rd Od.od_bacnet_dev) bacDEVICE (s.rd Od.od_bacnet_dev) name
        else .bacIHave port (s.rd Od.od_bacnet_dev) (bacType (ptKind s n)) (s.rd Od.od_pt_inst n) name) :: s.out) ∧
  (∀ (s : State) (rx : RxInfo) (port invoke : Nat), bacPort rx s = some port → answerPorts s rx.toSource ≠ [] →
    ∃ t, exec (.bacnetUnsupportedService rx true invoke) s = .next t ∧ t.out = .bacReject port invoke :: s.out) ∧
  (∀ s : State, bacOn s = true → s.rd Od.od_bacnet_bbmd ≠ 0 → maySend s 0 .traffic = true →
    ∃ t, exec .bacnetFdRegistration s = .next t ∧ t.out = .bacRegister (s.rd Od.od_bacnet_bbmd) 300 :: s.out)

/-- R6: an index that the module does not define answers NO_SUCH_INDEX to a read and to a write; the ranges the rule names are not defined; the
point indices are, on both variants, and on S those from 0x4800 read 0 and refuse writes as absent elements do. -/
def Obligations.UndefinedIndicesAnswerNoSuchIndex : Prop :=
  (∀ (s : State) (port : Nat) (staged : List ElemW) (c : Ctx) (it : WItem), entryDef? it.index = none → it.count ≠ 0 →
    readItem s port staged it = (.noSuchIndex, []) ∧ checkItem s c it = .noSuchIndex) ∧
  (∀ i : Nat, i < 0x1000 ∨ (0x6000 ≤ i ∧ i ≤ 0x7FFF) ∨ 0x8100 ≤ i → entryDef? i = none) ∧
  (∀ (s : State) (i e v : Nat) (c : Ctx), s.variant = .s → 0x4800 ≤ i → i ≤ 0x5FFF → e < 18 →
    (entryDef? i).isSome = true ∧ readElem s i e = 0 ∧ checkItem s c (entryItem i e v) = .wrongVariant)

/-- R67: an item past the X element count is refused whole with NO_SUCH_INDEX; a read that covers absent elements is OK and gives 0 for them; a
write that covers one is refused whole with WRONG_VARIANT. -/
def Obligations.ItemsPastTheElementsAreRefused : Prop :=
  (∀ (s : State) (port : Nat) (staged : List ElemW) (c : Ctx) (it : WItem) (d : EntryDef), entryDef? it.index = some d → it.count ≠ 0 →
      d.nX < it.first + it.count →
    readItem s port staged it = (.noSuchIndex, []) ∧ checkItem s c it = .noSuchIndex) ∧
  (∀ (s : State) (port k : Nat) (it : WItem) (d : EntryDef), entryDef? it.index = some d → it.first + it.count ≤ d.nX → d.acc ≠ .wo →
      mayReadTenant s (tenantOf s port) it.index = true → it.ty = d.ty.code → it.data = [] → k < it.count →
      absent s.variant d (it.first + k) = true →
    (readItem s port [] it).1 = .ok ∧ slice (readItem s port [] it).2 (k * d.ty.size) d.ty.size = List.replicate d.ty.size 0) ∧
  (∀ (s : State) (c : Ctx) (k : Nat) (it : WItem) (d : EntryDef), entryDef? it.index = some d → it.first + it.count ≤ d.nX → k < it.count →
      absent s.variant d (it.first + k) = true → checkItem s c it = .wrongVariant)

/-- R3: on S a request for STANDBY is refused with WRONG_VARIANT in every mode, and the mode stays; on X the entry that enables the downshift
reads 0 and refuses writes with WRONG_VARIANT. -/
def Obligations.VariantsLackTheirFeatures : Prop :=
  (∀ (s : State) (w : Who), s.variant = .s → serves s = true → w.port ≠ 0 → w.port < 256 → s.rd Od.od_port_kind w.port ≠ 0 → w.reqid ≠ 0 →
      duplicateOf s w = none →
    ∃ t items, exec (.modeRequest w 5) s = .next t ∧ t.mode = s.mode ∧
      t.out.head? = some (.cop w (answerPorts s w.origin) opWRITE Status.wrongVariant.code 0 (degraded s) 0 items)) ∧
  (∀ (s : State) (w : Who) (v : Nat), s.variant = .x → serves s = true → w.port ≠ 0 → w.port < 256 → s.rd Od.od_port_kind w.port ≠ 0 →
      w.reqid ≠ 0 → duplicateOf s w = none →
    readElem s Od.net_downshift 0 = 0 ∧ ∃ t items, exec (.downshiftDisable w v) s = .next t ∧ t.mer = s.mer ∧
      t.out.head? = some (.cop w (answerPorts s w.origin) opWRITE Status.wrongVariant.code 0 (degraded s) 0 items))

/-- R9: a write of an F32 NaN or infinity that passes the checks before it in R11 is refused with OUT_OF_RANGE, except a NaN where the entry's
range admits it. -/
def Obligations.NonFiniteValuesAreRefused : Prop :=
  ∀ (s : State) (c : Ctx) (i e v : Nat) (d : EntryDef), entryDef? i = some d → d.ty = .f32 → v < 2 ^ 32 → finite32 v = false →
      (d.rng = .f32nan → isNaN32 v = false) → e < d.nX → absent s.variant d e = false → (extraOf s c i e v).variant = false →
      accOf d e ≠ .ro → mayWriteTenant s (tenantOf s c.port) i = true → (extraOf s c i e v).denied = false →
      (d.acc = .rwt → c.handle ≠ 0) → (d.acc = .rwm → rwmMode s = true) → (extraOf s c i e v).mode = false →
    checkItem s c (entryItem i e v) = .outOfRange

/-- R39: a fault that becomes outstanding sets its bit; from RUN and DOZE the module enters RUN_DEGRADED (outside a STANDBY entry, R56), in
another mode it stays and `sys_status` shows DEGRADED; with no bit left it returns where it came from; a mismatch that a replay cures is no
fault. -/
def Obligations.FaultsDegradeTheMode : Prop :=
  (∀ (s : State) (b d : Nat), b < 16 → s.rdBit Od.sys_health b = false → s.sys.standbyEntry = false →
    (raiseFault s b d).rdBit Od.sys_health b = true ∧
      (raiseFault s b d).mode = (if s.mode = .run ∨ s.mode = .doze then .runDegraded else s.mode) ∧
      (s.mode ≠ .run → s.mode ≠ .doze → s.mode ≠ .runDegraded → (readElem (raiseFault s b d) Od.sys_status 0).testBit 0 = true)) ∧
  (∀ (s : State) (b : Nat), b < 16 → s.mode = .runDegraded → s.rd Od.sys_health = 2 ^ b →
    (clearFault s b).rd Od.sys_health = 0 ∧ (clearFault s b).mode = (if s.sys.degradedFrom = .doze then .doze else .run)) ∧
  (∀ (s : State) (initiator w address : Nat) (replays : List Nat) (cls : PageClass), (replays.take 3).any parityOk = true →
    ∃ t, exec (.parityMismatch initiator w replays address cls) s = .next t ∧ t.rd Od.sys_health = s.rd Od.sys_health ∧
      t.mode = s.mode)

/-- R354: past count 12,622,780,799 the calendar stands at 2399-12-31 23:59:59, weekday 5, with `rtc_cal_end` set, while the count and
`rtc_time` run on; a time write that brings the count back clears `rtc_cal_end`. -/
def Obligations.TheCalendarEnds : Prop :=
  (∀ s : State, s.rd Od.rtc_shift = 0 → s.rd Od.rtc_subsec < 32768 → 12622780799 ≤ s.rd Od.rtc_seconds →
      s.rd Od.rtc_seconds + 1 < 2 ^ 64 →
    ∃ t, exec .rtcSecondBoundary s = .next t ∧ t.rd Od.rtc_seconds = s.rd Od.rtc_seconds + 1 ∧ t.rd Od.rtc_cal_end = 1 ∧
      readElem t Od.rtc_cal 0 = ofBytes [0x09, 0x5F, 12, 31, 23, 59, 59, 5] ∧
      rtcTime t = (((s.rd Od.rtc_seconds : Int) + 1 + s.rdInt Od.rtc_tai_offset) * 1000000000).toNat % 2 ^ 64) ∧
  (∀ (s : State) (port client v : Nat), v ≤ 12622780799 →
    (applyElem s port client s.crystal Od.rtc_seconds 0 v).rd Od.rtc_cal_end = 0 ∧
      (applyElem s port client s.crystal Od.rtc_seconds 0 v).rd Od.rtc_seconds = v)

/-- A step takes the command at the front of the queue and runs it on the state with the rest of the queue. -/
def Obligations.StepTakesTheFrontCommand : Prop :=
  ∀ (s : State) (c : Instr) (q : List Instr), s.pending = c :: q → step s = exec c { s with pending := q }

/-- The model's choice (log entry 40): with no command waiting a step is one period of the crystal; within a second it counts the prescaler
up and changes nothing else. -/
def Obligations.EmptyQueueIsACrystalPeriod : Prop :=
  ∀ s : State, s.pending = [] → s.rd Od.rtc_subsec < 32767 →
    step s = .next ({ s with crystal := s.crystal + 1 }.wr Od.rtc_subsec (s.rd Od.rtc_subsec + 1))

/-- Every command, in every state and with every operand, answers a next state: the model stops on none. -/
def Obligations.EveryCommandAnswers : Prop :=
  ∀ (c : Instr) (s : State), ∃ t, exec c s = .next t

/-- The frame of every command: from `s` to its next state nothing changes but dictionary entries that `mayWrite` names and parts of the state
that `mayChange` names; the variant and the queue stay. -/
def Obligations.CommandFrame : Prop :=
  ∀ (c : Instr) (s t : State), exec c s = .next t → Within (mayWrite c) (mayChange c) s t

/-- The dictionary store stays canonical over every step: strictly rising cells, none at its default, none beyond its element's width. So equal
contents are equal data, and every element reads a value of its type. -/
def Obligations.StepKeepsTheStoreCanonical : Prop :=
  ∀ s t : State, Canonical s → step s = .next t → Canonical t ∧ t.variant = s.variant

/-- The state after reset: the store is canonical and every element stands at its Default (R12); no command waits, nothing is sent. -/
def Obligations.ResetState : Prop :=
  Canonical State.reset ∧ State.reset.pending = [] ∧ State.reset.mode = .boot ∧ State.reset.out = [] ∧
    ∀ i e, State.reset.rd i e = dfltOf .x i e

/-- The commands of the queue are taken first in, first out, and no command adds one: as many steps as commands wait empty the queue. -/
def Obligations.TheQueueDrains : Prop :=
  ∀ (s : State) (q r : List Instr), s.pending = q ++ r → ∃ t, steps q.length s = some t ∧ t.pending = r

/-- A sample of one analogue channel changes no element of another channel: every element with another number stays, but for the count of
records that the full recorder drops (R171, R176). -/
def Obligations.SamplesChangeTheirChannelAlone : Prop :=
  ∀ (s t : State) (c a b m i e : Nat), e ≠ c → i ≠ Od.rec_dropped →
    (exec (.analogueSample c a b m) s = .next t ∨ exec (.channelFirstSample c a m) s = .next t) → t.rd i e = s.rd i e
end

