-- ==== Sys2Proof/Laws/Store.lean ====
section
/-!
SUPPORT. The dictionary store: what one write does, and that every operation on it keeps the canonical form.
-/
namespace Sys2Proof.Laws

open Sys2Proof.Machine Sys2Proof.Safety

/-! ## Looking up -/

theorem odGet_insert (i e v j k : Nat) (cs : List Cell) (h : ∀ c ∈ cs, ¬(c.index = i ∧ c.elem = e)) :
    odGet j k (odInsert i e v cs) = if j = i ∧ k = e then some v else odGet j k cs := by
  induction cs with
  | nil => simp [odInsert, odGet, eq_comm]
  | cons c cs ih =>
    have hc := h c (by simp)
    have ih := ih (fun d hd => h d (by simp [hd]))
    unfold odInsert
    split
    · simp only [odGet, eq_comm]
    · simp only [odGet, ih]
      by_cases h1 : c.index = j ∧ c.elem = k
      · obtain ⟨rfl, rfl⟩ := h1
        simp [hc]
      · simp [h1]

/-- Dropping one element's cell from a list. -/
theorem filter_cell (i e : Nat) (c : Cell) (cs : List Cell) :
    (c :: cs).filter (fun c => !(c.index == i && c.elem == e)) =
      if c.index = i ∧ c.elem = e then cs.filter (fun c => !(c.index == i && c.elem == e))
      else c :: cs.filter (fun c => !(c.index == i && c.elem == e)) := by
  rw [List.filter_cons]
  by_cases h : c.index = i ∧ c.elem = e
  · rw [if_pos h, h.1, h.2]; simp
  · rw [if_neg h, if_pos]
    rcases not_and_or.mp h with h | h <;> simp [h]

theorem odGet_filter_ne (i e j k : Nat) (cs : List Cell) (h : ¬(j = i ∧ k = e)) :
    odGet j k (cs.filter (fun c => !(c.index == i && c.elem == e))) = odGet j k cs := by
  induction cs with
  | nil => rfl
  | cons c cs ih =>
    rw [filter_cell]
    split
    next h1 =>
      have hne : ¬(c.index = j ∧ c.elem = k) := fun hjk => h ⟨hjk.1 ▸ h1.1, hjk.2 ▸ h1.2⟩
      rw [ih, odGet, if_neg hne]
    next => rw [odGet, ih, odGet]

theorem odGet_filter_self (i e : Nat) (cs : List Cell) :
    odGet i e (cs.filter (fun c => !(c.index == i && c.elem == e))) = none := by
  induction cs with
  | nil => rfl
  | cons c cs ih =>
    rw [filter_cell]
    split
    next => exact ih
    next h => rw [odGet, if_neg h, ih]

theorem filter_no_cell (i e : Nat) (cs : List Cell) :
    ∀ c ∈ cs.filter (fun c => !(c.index == i && c.elem == e)), ¬(c.index = i ∧ c.elem = e) := by
  intro c hc
  have := (List.mem_filter.mp hc).2
  simp only [Bool.not_eq_true', Bool.and_eq_false_iff, beq_eq_false_iff_ne] at this
  tauto

/-- What a write leaves at every element. -/
theorem odGet_put (d i e v j k : Nat) (cs : List Cell) :
    odGet j k (odPut d i e v cs) = if j = i ∧ k = e then (if v = d then none else some v) else odGet j k cs := by
  unfold odPut
  dsimp only
  by_cases hv : v = d
  · by_cases hjk : j = i ∧ k = e
    · rw [if_pos hv, if_pos hjk, if_pos hv, hjk.1, hjk.2, odGet_filter_self]
    · rw [if_pos hv, if_neg hjk, odGet_filter_ne _ _ _ _ _ hjk]
  · rw [if_neg hv, odGet_insert _ _ _ _ _ _ (filter_no_cell i e cs)]
    by_cases hjk : j = i ∧ k = e
    · rw [if_pos hjk, if_pos hjk, if_neg hv]
    · rw [if_neg hjk, if_neg hjk, odGet_filter_ne _ _ _ _ _ hjk]

/-- A write is read back, cut to the element's width, and every other element reads as before. -/
theorem rd_wr (s : State) (i v e j k : Nat) :
    (s.wr i v e).rd j k = if j = i ∧ k = e then v % 2 ^ widthOf i else s.rd j k := by
  unfold State.rd State.wr
  simp only [odGet_put]
  by_cases h : j = i ∧ k = e
  · obtain ⟨rfl, rfl⟩ := h
    by_cases hv : v % 2 ^ widthOf j = dfltOf s.variant j k <;> simp [hv]
  · simp [h]

theorem rd_wr_self (s : State) (i v e : Nat) : (s.wr i v e).rd i e = v % 2 ^ widthOf i := by simp [rd_wr]

theorem rd_wr_ne (s : State) (i v e j k : Nat) (h : j ≠ i) : (s.wr i v e).rd j k = s.rd j k := by simp [rd_wr, h]

/-! ## The canonical form -/

/-- A cell that may stand in a canonical store. -/
def cellOk (v : Variant) (c : Cell) : Prop := c.value ≠ dfltOf v c.index c.elem ∧ c.value < 2 ^ widthOf c.index

/-- The order of cells. -/
def cellLt (a b : Cell) : Prop := cellBefore a.index a.elem b = true

theorem cellLt_iff (a b : Cell) : cellLt a b ↔ a.index < b.index ∨ (a.index = b.index ∧ a.elem < b.elem) := by
  simp [cellLt, cellBefore]

theorem cellLt_trans {a b c : Cell} (h : cellLt a b) (h' : cellLt b c) : cellLt a c := by
  rw [cellLt_iff] at *
  omega

/-- The canonical form, as an order and a property of each cell. -/
theorem odWf_iff (v : Variant) (cs : List Cell) : odWf v cs = true ↔ cs.Pairwise cellLt ∧ ∀ c ∈ cs, cellOk v c := by
  induction cs with
  | nil => simp [odWf]
  | cons c cs ih =>
    cases cs with
    | nil => simp [odWf, cellOk]
    | cons d ds =>
      rw [odWf]
      simp only [Bool.and_eq_true, bne_iff_ne, decide_eq_true_eq, ih]
      constructor
      · rintro ⟨⟨⟨h1, h2⟩, h3⟩, h4, h5⟩
        refine ⟨List.pairwise_cons.mpr ⟨?_, h4⟩, ?_⟩
        · intro x hx
          rcases List.mem_cons.mp hx with rfl | hx
          · exact h1
          · exact cellLt_trans h1 ((List.pairwise_cons.mp h4).1 x hx)
        · intro x hx
          rcases List.mem_cons.mp hx with rfl | hx
          · exact ⟨h2, h3⟩
          · exact h5 x hx
      · rintro ⟨h1, h2⟩
        have h3 := List.pairwise_cons.mp h1
        have h4 := h2 c (by simp)
        exact ⟨⟨⟨h3.1 d (by simp), h4.1⟩, h4.2⟩, h3.2, fun x hx => h2 x (by simp [hx])⟩

theorem odWf_filter (v : Variant) (p : Cell → Bool) (cs : List Cell) (h : odWf v cs = true) : odWf v (cs.filter p) = true := by
  rw [odWf_iff] at *
  exact ⟨h.1.filter _, fun c hc => h.2 c (List.mem_of_mem_filter hc)⟩

theorem mem_odInsert (i e v : Nat) (cs : List Cell) (x : Cell) : x ∈ odInsert i e v cs ↔ x = ⟨i, e, v⟩ ∨ x ∈ cs := by
  induction cs with
  | nil => simp [odInsert]
  | cons c cs ih =>
    unfold odInsert
    split
    · simp
    · simp only [List.mem_cons, ih]; tauto

theorem odInsert_sorted (i e v : Nat) (cs : List Cell) (h : cs.Pairwise cellLt) (hn : ∀ c ∈ cs, ¬(c.index = i ∧ c.elem = e)) :
    (odInsert i e v cs).Pairwise cellLt := by
  induction cs with
  | nil => simp [odInsert]
  | cons c cs ih =>
    have hc := List.pairwise_cons.mp h
    unfold odInsert
    split
    next hb =>
      refine List.pairwise_cons.mpr ⟨fun x hx => ?_, h⟩
      rcases List.mem_cons.mp hx with rfl | hx
      · exact hb
      · exact cellLt_trans (show cellLt ⟨i, e, v⟩ c from hb) (hc.1 x hx)
    next hb =>
      refine List.pairwise_cons.mpr ⟨fun x hx => ?_, ih hc.2 (fun d hd => hn d (by simp [hd]))⟩
      rcases (mem_odInsert ..).mp hx with rfl | hx
      · have h1 := hn c (by simp)
        rw [cellLt_iff]
        simp only [cellBefore, Bool.or_eq_true, Bool.and_eq_true, decide_eq_true_eq, beq_iff_eq] at hb
        show c.index < i ∨ (c.index = i ∧ c.elem < e)
        omega
      · exact hc.1 x hx

theorem odWf_put (v : Variant) (i e x : Nat) (cs : List Cell) (h : odWf v cs = true) (hx : x < 2 ^ widthOf i) :
    odWf v (odPut (dfltOf v i e) i e x cs) = true := by
  unfold odPut
  have hf := odWf_filter v (fun c => !(c.index == i && c.elem == e)) cs h
  dsimp only
  split
  · exact hf
  next hne =>
    rw [odWf_iff] at *
    refine ⟨odInsert_sorted _ _ _ _ hf.1 (filter_no_cell i e cs), fun c hc => ?_⟩
    rcases (mem_odInsert ..).mp hc with rfl | hc
    · exact ⟨hne, hx⟩
    · exact hf.2 c hc

/-- A write keeps the store canonical. -/
theorem wr_canonical (s : State) (i v e : Nat) (h : Canonical s) : Canonical (s.wr i v e) :=
  odWf_put _ _ _ _ _ h (Nat.mod_lt _ (by positivity))

/-- A value read from a canonical store fits its element, where its default does. -/
theorem rd_lt (s : State) (i e : Nat) (h : Canonical s) (hd : dfltOf s.variant i e < 2 ^ widthOf i) : s.rd i e < 2 ^ widthOf i := by
  unfold State.rd
  have key : ∀ cs : List Cell, (∀ c ∈ cs, cellOk s.variant c) → ∀ v, odGet i e cs = some v → v < 2 ^ widthOf i := by
    intro cs
    induction cs with
    | nil => intro _ v hv; cases hv
    | cons c cs ih =>
      intro hc v hv
      unfold odGet at hv
      split at hv
      next hie => cases hv; exact hie.1 ▸ (hc c (by simp)).2
      next => exact ih (fun d hd => hc d (by simp [hd])) v hv
  split
  next v hv => exact key _ ((odWf_iff _ _).mp h).2 v hv
  next => exact hd

end Sys2Proof.Laws
end

