-- ==== Sys2Proof/Laws/Within.lean ====
section
/-!
SUPPORT. How claims about what changes compose: one rule for each way a meaning builds its next state.
-/
namespace Sys2Proof.Safety

open Sys2Proof.Machine Sys2Proof.Laws

/-- Whether every index that `a` admits is admitted by `b`. -/
def subEntries (a b : Option (List Nat)) : Bool :=
  match a, b with
  | _, none => true
  | none, some _ => false
  | some l, some m => l.all m.contains

variable {w w' : Option (List Nat)} {ps ps' : List Part} {s t u : State}

theorem Part.same_refl (p : Part) (s : State) : p.Same s s := by cases p <;> rfl

theorem Part.same_trans {p : Part} (h : p.Same s t) (h' : p.Same t u) : p.Same s u := by
  cases p <;> exact Eq.trans h' h

theorem Within.refl (w : Option (List Nat)) (ps : List Part) (s : State) : Within w ps s s :=
  ⟨rfl, rfl, id, fun _ _ _ => rfl, fun p _ => Part.same_refl p s⟩

theorem Within.trans (h : Within w ps s t) (h' : Within w ps t u) : Within w ps s u :=
  ⟨h'.variant.trans h.variant, h'.pending.trans h.pending, fun c => h'.canonical (h.canonical c),
    fun i e hi => (h'.entries i e hi).trans (h.entries i e hi), fun p hp => Part.same_trans (h.parts p hp) (h'.parts p hp)⟩

theorem admits_sub {i : Nat} (hw : subEntries w w' = true) (hi : admits w' i = false) : admits w i = false := by
  cases w with
  | none => cases w' with
    | none => exact hi
    | some m => simp [subEntries] at hw
  | some l => cases w' with
    | none => simp [admits] at hi
    | some m =>
      simp only [subEntries, List.all_eq_true] at hw
      simp only [admits] at hi ⊢
      by_contra hc
      rw [Bool.not_eq_false, List.contains_iff_mem] at hc
      rw [hw i hc] at hi
      cases hi

theorem Within.mono (h : Within w ps s t) (hw : subEntries w w' = true) (hp : ps.all ps'.contains = true) : Within w' ps' s t :=
  ⟨h.variant, h.pending, h.canonical, fun i e hi => h.entries i e (admits_sub hw hi), fun p hp' => h.parts p (by
    by_contra hc
    rw [Bool.not_eq_false, List.contains_iff_mem] at hc
    rw [List.all_eq_true.mp hp p hc] at hp'
    cases hp')⟩

/-- An index that may not be written reads as before. -/
theorem Within.keeps (h : Within w ps s t) (i e : Nat) (hi : admits w i = false := by rfl) : t.rd i e = s.rd i e := h.entries i e hi

/-- A further operation after what came before. -/
theorem Within.after (h' : Within w ps t u) (hw : subEntries w w' = true) (hp : ps.all ps'.contains = true)
    (h : Within w' ps' s t) : Within w' ps' s u := h.trans (h'.mono hw hp)

/-- A state on the way. -/
theorem Within.have_ {x : State} (h : Within w ps s x) (k : Within w ps s x → Within w ps s t) : Within w ps s t := k h

theorem Within.ite {c : Prop} [Decidable c] (h : Within w ps s t) (h' : Within w ps s u) : Within w ps s (if c then t else u) := by
  split
  · exact h
  · exact h'

theorem Within.foldl {α : Type} {f : State → α → State} (h : ∀ t x, Within w ps t (f t x)) (l : List α) (hs : Within w ps s t) :
    Within w ps s (l.foldl f t) := by
  induction l generalizing t with
  | nil => exact hs
  | cons x xs ih => exact ih (hs.trans (h t x))

theorem Within.getD {o : Option State} (h : ∀ u, o = some u → Within w ps s u) (h' : Within w ps s t) : Within w ps s (o.getD t) := by
  cases o with
  | none => exact h'
  | some u => exact h u rfl

theorem Within.someIte {c : Prop} [Decidable c] {a b : Option State} (ha : ∀ u, a = some u → Within w ps s u)
    (hb : ∀ u, b = some u → Within w ps s u) : ∀ u, (if c then a else b) = some u → Within w ps s u := by
  split
  · exact ha
  · exact hb

/-! ## Writes of entries -/

theorem Within.wr (i v e : Nat) (hi : admits w i = true) (h : Within w ps s t) : Within w ps s (t.wr i v e) :=
  h.trans ⟨rfl, rfl, fun c => wr_canonical t i v e c, fun j k hj => rd_wr_ne t i v e j k (by rintro rfl; simp [hi] at hj),
    fun p _ => by cases p <;> rfl⟩

theorem Within.count (i e n : Nat) (hi : admits w i = true) (h : Within w ps s t) : Within w ps s (t.count i e n) := h.wr _ _ _ hi
theorem Within.countSat (i e : Nat) (hi : admits w i = true) (h : Within w ps s t) : Within w ps s (t.countSat i e) := h.wr _ _ _ hi
theorem Within.countMod (i e : Nat) (hi : admits w i = true) (h : Within w ps s t) : Within w ps s (t.countMod i e) := h.wr _ _ _ hi
theorem Within.wrBit (i b : Nat) (on : Bool) (e : Nat) (hi : admits w i = true) (h : Within w ps s t) :
    Within w ps s (t.wrBit i b on e) := h.wr _ _ _ hi
theorem Within.wrInt (i : Nat) (v : Int) (e : Nat) (hi : admits w i = true) (h : Within w ps s t) : Within w ps s (t.wrInt i v e) :=
  h.wr _ _ _ hi
theorem Within.wrQ (i : Nat) (q : Frac) (e : Nat) (hi : admits w i = true) (h : Within w ps s t) : Within w ps s (t.wrQ i q e) :=
  h.wr _ _ _ hi
theorem Within.toDefault (i e : Nat) (hi : admits w i = true) (h : Within w ps s t) : Within w ps s (t.toDefault i e) := h.wr _ _ _ hi
theorem Within.wrAll (i n v : Nat) (hi : admits w i = true) (h : Within w ps s t) : Within w ps s (t.wrAll i n v) :=
  Within.foldl (fun _ _ => (Within.refl _ _ _).wr _ _ _ hi) _ h

/-- Cells dropped from the store: any entry may change, and the store stays canonical. -/
theorem Within.drop (q : Cell → Bool) (h : Within none ps s t) : Within none ps s { t with od := t.od.filter q } :=
  h.trans ⟨rfl, rfl, odWf_filter _ _ _, fun _ _ hj => by simp [admits] at hj, fun p _ => by cases p <;> rfl⟩

/-! ## Changes of one part -/

theorem Within.free (x : Nat) (hp : ps.contains .free = true) (h : Within w ps s t) : Within w ps s { t with free := x } :=
  h.trans ⟨rfl, rfl, id, fun _ _ _ => rfl, fun p hq => by cases p <;> first | rfl | (rw [hp] at hq; cases hq)⟩
theorem Within.mode (x : Mode) (hp : ps.contains .mode = true) (h : Within w ps s t) : Within w ps s { t with mode := x } :=
  h.trans ⟨rfl, rfl, id, fun _ _ _ => rfl, fun p hq => by cases p <;> first | rfl | (rw [hp] at hq; cases hq)⟩
theorem Within.now (x : Nat) (hp : ps.contains .now = true) (h : Within w ps s t) : Within w ps s { t with now := x } :=
  h.trans ⟨rfl, rfl, id, fun _ _ _ => rfl, fun p hq => by cases p <;> first | rfl | (rw [hp] at hq; cases hq)⟩
theorem Within.crystal (x : Nat) (hp : ps.contains .crystal = true) (h : Within w ps s t) : Within w ps s { t with crystal := x } :=
  h.trans ⟨rfl, rfl, id, fun _ _ _ => rfl, fun p hq => by cases p <;> first | rfl | (rw [hp] at hq; cases hq)⟩
theorem Within.flashValid (x : Bool) (hp : ps.contains .flashValid = true) (h : Within w ps s t) : Within w ps s { t with flashValid := x } :=
  h.trans ⟨rfl, rfl, id, fun _ _ _ => rfl, fun p hq => by cases p <;> first | rfl | (rw [hp] at hq; cases hq)⟩
theorem Within.out (x : List Out) (hp : ps.contains .out = true) (h : Within w ps s t) : Within w ps s { t with out := x } :=
  h.trans ⟨rfl, rfl, id, fun _ _ _ => rfl, fun p hq => by cases p <;> first | rfl | (rw [hp] at hq; cases hq)⟩
theorem Within.mer (x : Meringue) (hp : ps.contains .mer = true) (h : Within w ps s t) : Within w ps s { t with mer := x } :=
  h.trans ⟨rfl, rfl, id, fun _ _ _ => rfl, fun p hq => by cases p <;> first | rfl | (rw [hp] at hq; cases hq)⟩
theorem Within.sys (x : SysState) (hp : ps.contains .sys = true) (h : Within w ps s t) : Within w ps s { t with sys := x } :=
  h.trans ⟨rfl, rfl, id, fun _ _ _ => rfl, fun p hq => by cases p <;> first | rfl | (rw [hp] at hq; cases hq)⟩
theorem Within.txn (x : TxnState) (hp : ps.contains .txn = true) (h : Within w ps s t) : Within w ps s { t with txn := x } :=
  h.trans ⟨rfl, rfl, id, fun _ _ _ => rfl, fun p hq => by cases p <;> first | rfl | (rw [hp] at hq; cases hq)⟩
theorem Within.nvs (x : NvsState) (hp : ps.contains .nvs = true) (h : Within w ps s t) : Within w ps s { t with nvs := x } :=
  h.trans ⟨rfl, rfl, id, fun _ _ _ => rfl, fun p hq => by cases p <;> first | rfl | (rw [hp] at hq; cases hq)⟩
theorem Within.recd (x : RecState) (hp : ps.contains .recd = true) (h : Within w ps s t) : Within w ps s { t with recd := x } :=
  h.trans ⟨rfl, rfl, id, fun _ _ _ => rfl, fun p hq => by cases p <;> first | rfl | (rw [hp] at hq; cases hq)⟩
theorem Within.rtc (x : RtcState) (hp : ps.contains .rtc = true) (h : Within w ps s t) : Within w ps s { t with rtc := x } :=
  h.trans ⟨rfl, rfl, id, fun _ _ _ => rfl, fun p hq => by cases p <;> first | rfl | (rw [hp] at hq; cases hq)⟩
theorem Within.trend (x : TrendState) (hp : ps.contains .trend = true) (h : Within w ps s t) : Within w ps s { t with trend := x } :=
  h.trans ⟨rfl, rfl, id, fun _ _ _ => rfl, fun p hq => by cases p <;> first | rfl | (rw [hp] at hq; cases hq)⟩
theorem Within.pts (x : PtsState) (hp : ps.contains .pts = true) (h : Within w ps s t) : Within w ps s { t with pts := x } :=
  h.trans ⟨rfl, rfl, id, fun _ _ _ => rfl, fun p hq => by cases p <;> first | rfl | (rw [hp] at hq; cases hq)⟩
theorem Within.net (x : NetState) (hp : ps.contains .net = true) (h : Within w ps s t) : Within w ps s { t with net := x } :=
  h.trans ⟨rfl, rfl, id, fun _ _ _ => rfl, fun p hq => by cases p <;> first | rfl | (rw [hp] at hq; cases hq)⟩
theorem Within.fld (x : FldState) (hp : ps.contains .fld = true) (h : Within w ps s t) : Within w ps s { t with fld := x } :=
  h.trans ⟨rfl, rfl, id, fun _ _ _ => rfl, fun p hq => by cases p <;> first | rfl | (rw [hp] at hq; cases hq)⟩
theorem Within.lbs (x : LbsState) (hp : ps.contains .lbs = true) (h : Within w ps s t) : Within w ps s { t with lbs := x } :=
  h.trans ⟨rfl, rfl, id, fun _ _ _ => rfl, fun p hq => by cases p <;> first | rfl | (rw [hp] at hq; cases hq)⟩
theorem Within.nextXfer (x : Nat) (hp : ps.contains .nextXfer = true) (h : Within w ps s t) : Within w ps s { t with nextXfer := x } :=
  h.trans ⟨rfl, rfl, id, fun _ _ _ => rfl, fun p hq => by cases p <;> first | rfl | (rw [hp] at hq; cases hq)⟩
theorem Within.ana (x : AnaState) (hp : ps.contains .ana = true) (h : Within w ps s t) : Within w ps s { t with ana := x } :=
  h.trans ⟨rfl, rfl, id, fun _ _ _ => rfl, fun p hq => by cases p <;> first | rfl | (rw [hp] at hq; cases hq)⟩
theorem Within.turn (x : TurnState) (hp : ps.contains .turn = true) (h : Within w ps s t) : Within w ps s { t with turn := x } :=
  h.trans ⟨rfl, rfl, id, fun _ _ _ => rfl, fun p hq => by cases p <;> first | rfl | (rw [hp] at hq; cases hq)⟩
theorem Within.nrg (x : NrgState) (hp : ps.contains .nrg = true) (h : Within w ps s t) : Within w ps s { t with nrg := x } :=
  h.trans ⟨rfl, rfl, id, fun _ _ _ => rfl, fun p hq => by cases p <;> first | rfl | (rw [hp] at hq; cases hq)⟩
theorem Within.ctl (x : CtlState) (hp : ps.contains .ctl = true) (h : Within w ps s t) : Within w ps s { t with ctl := x } :=
  h.trans ⟨rfl, rfl, id, fun _ _ _ => rfl, fun p hq => by cases p <;> first | rfl | (rw [hp] at hq; cases hq)⟩
theorem Within.mot (x : MotState) (hp : ps.contains .mot = true) (h : Within w ps s t) : Within w ps s { t with mot := x } :=
  h.trans ⟨rfl, rfl, id, fun _ _ _ => rfl, fun p hq => by cases p <;> first | rfl | (rw [hp] at hq; cases hq)⟩
theorem Within.lft (x : LiftState) (hp : ps.contains .lft = true) (h : Within w ps s t) : Within w ps s { t with lft := x } :=
  h.trans ⟨rfl, rfl, id, fun _ _ _ => rfl, fun p hq => by cases p <;> first | rfl | (rw [hp] at hq; cases hq)⟩
theorem Within.saf (x : SafState) (hp : ps.contains .saf = true) (h : Within w ps s t) : Within w ps s { t with saf := x } :=
  h.trans ⟨rfl, rfl, id, fun _ _ _ => rfl, fun p hq => by cases p <;> first | rfl | (rw [hp] at hq; cases hq)⟩
theorem Within.prg (x : PrgState) (hp : ps.contains .prg = true) (h : Within w ps s t) : Within w ps s { t with prg := x } :=
  h.trans ⟨rfl, rfl, id, fun _ _ _ => rfl, fun p hq => by cases p <;> first | rfl | (rw [hp] at hq; cases hq)⟩
theorem Within.upd (x : UpdState) (hp : ps.contains .upd = true) (h : Within w ps s t) : Within w ps s { t with upd := x } :=
  h.trans ⟨rfl, rfl, id, fun _ _ _ => rfl, fun p hq => by cases p <;> first | rfl | (rw [hp] at hq; cases hq)⟩
theorem Within.keys (x : KeyState) (hp : ps.contains .keys = true) (h : Within w ps s t) : Within w ps s { t with keys := x } :=
  h.trans ⟨rfl, rfl, id, fun _ _ _ => rfl, fun p hq => by cases p <;> first | rfl | (rw [hp] at hq; cases hq)⟩
theorem Within.dram (x : DramState) (hp : ps.contains .dram = true) (h : Within w ps s t) : Within w ps s { t with dram := x } :=
  h.trans ⟨rfl, rfl, id, fun _ _ _ => rfl, fun p hq => by cases p <;> first | rfl | (rw [hp] at hq; cases hq)⟩
theorem Within.mer_recd (x0 : Meringue) (x1 : RecState) (hx0 : ps.contains .mer = true) (hx1 : ps.contains .recd = true) (h : Within w ps s t) :
    Within w ps s { t with mer := x0, recd := x1 } :=
  (h.mer x0 hx0).recd x1 hx1
theorem Within.mer_dram (x0 : Meringue) (x1 : DramState) (hx0 : ps.contains .mer = true) (hx1 : ps.contains .dram = true) (h : Within w ps s t) :
    Within w ps s { t with mer := x0, dram := x1 } :=
  (h.mer x0 hx0).dram x1 hx1
theorem Within.mer_sys (x0 : Meringue) (x1 : SysState) (hx0 : ps.contains .mer = true) (hx1 : ps.contains .sys = true) (h : Within w ps s t) :
    Within w ps s { t with mer := x0, sys := x1 } :=
  (h.mer x0 hx0).sys x1 hx1
theorem Within.lbs_nextXfer (x0 : LbsState) (x1 : Nat) (hx0 : ps.contains .lbs = true) (hx1 : ps.contains .nextXfer = true) (h : Within w ps s t) :
    Within w ps s { t with lbs := x0, nextXfer := x1 } :=
  (h.lbs x0 hx0).nextXfer x1 hx1
theorem Within.od_mer (q : Cell → Bool) (x0 : Meringue) (hx0 : ps.contains .mer = true) (h : Within none ps s t) :
    Within none ps s { t with od := t.od.filter q, mer := x0 } :=
  (h.drop q).mer x0 hx0
theorem Within.mer_keys (x0 : Meringue) (x1 : KeyState) (hx0 : ps.contains .mer = true) (hx1 : ps.contains .keys = true) (h : Within w ps s t) :
    Within w ps s { t with mer := x0, keys := x1 } :=
  (h.mer x0 hx0).keys x1 hx1
theorem Within.mer_txn (x0 : Meringue) (x1 : TxnState) (hx0 : ps.contains .mer = true) (hx1 : ps.contains .txn = true) (h : Within w ps s t) :
    Within w ps s { t with mer := x0, txn := x1 } :=
  (h.mer x0 hx0).txn x1 hx1
theorem Within.sys_recd_lft (x0 : SysState) (x1 : RecState) (x2 : LiftState) (hx0 : ps.contains .sys = true) (hx1 : ps.contains .recd = true) (hx2 : ps.contains .lft = true) (h : Within w ps s t) :
    Within w ps s { t with sys := x0, recd := x1, lft := x2 } :=
  ((h.sys x0 hx0).recd x1 hx1).lft x2 hx2
theorem Within.sys_nvs (x0 : SysState) (x1 : NvsState) (hx0 : ps.contains .sys = true) (hx1 : ps.contains .nvs = true) (h : Within w ps s t) :
    Within w ps s { t with sys := x0, nvs := x1 } :=
  (h.sys x0 hx0).nvs x1 hx1
theorem Within.sys_txn (x0 : SysState) (x1 : TxnState) (hx0 : ps.contains .sys = true) (hx1 : ps.contains .txn = true) (h : Within w ps s t) :
    Within w ps s { t with sys := x0, txn := x1 } :=
  (h.sys x0 hx0).txn x1 hx1
theorem Within.sys_txn_net_nrg (x0 : SysState) (x1 : TxnState) (x2 : NetState) (x3 : NrgState) (hx0 : ps.contains .sys = true) (hx1 : ps.contains .txn = true) (hx2 : ps.contains .net = true) (hx3 : ps.contains .nrg = true) (h : Within w ps s t) :
    Within w ps s { t with sys := x0, txn := x1, net := x2, nrg := x3 } :=
  (((h.sys x0 hx0).txn x1 hx1).net x2 hx2).nrg x3 hx3
theorem Within.flashValid_od_sys (q : Cell → Bool) (x0 : Bool) (x1 : SysState) (hx0 : ps.contains .flashValid = true) (hx1 : ps.contains .sys = true) (h : Within none ps s t) :
    Within none ps s { t with od := t.od.filter q, flashValid := x0, sys := x1 } :=
  ((h.drop q).flashValid x0 hx0).sys x1 hx1
theorem Within.txn_nvs_trend_pts (x0 : TxnState) (x1 : NvsState) (x2 : TrendState) (x3 : PtsState) (hx0 : ps.contains .txn = true) (hx1 : ps.contains .nvs = true) (hx2 : ps.contains .trend = true) (hx3 : ps.contains .pts = true) (h : Within w ps s t) :
    Within w ps s { t with txn := x0, nvs := x1, trend := x2, pts := x3 } :=
  (((h.txn x0 hx0).nvs x1 hx1).trend x2 hx2).pts x3 hx3
theorem Within.net_fld_lbs_ana_turn_nrg_dram (x0 : NetState) (x1 : FldState) (x2 : LbsState) (x3 : AnaState) (x4 : TurnState) (x5 : NrgState) (x6 : DramState) (hx0 : ps.contains .net = true) (hx1 : ps.contains .fld = true) (hx2 : ps.contains .lbs = true) (hx3 : ps.contains .ana = true) (hx4 : ps.contains .turn = true) (hx5 : ps.contains .nrg = true) (hx6 : ps.contains .dram = true) (h : Within w ps s t) :
    Within w ps s { t with net := x0, fld := x1, lbs := x2, ana := x3, turn := x4, nrg := x5, dram := x6 } :=
  ((((((h.net x0 hx0).fld x1 hx1).lbs x2 hx2).ana x3 hx3).turn x4 hx4).nrg x5 hx5).dram x6 hx6
theorem Within.now_mer (x0 : Nat) (x1 : Meringue) (hx0 : ps.contains .now = true) (hx1 : ps.contains .mer = true) (h : Within w ps s t) :
    Within w ps s { t with now := x0, mer := x1 } :=
  (h.now x0 hx0).mer x1 hx1
theorem Within.recd_pts (x0 : RecState) (x1 : PtsState) (hx0 : ps.contains .recd = true) (hx1 : ps.contains .pts = true) (h : Within w ps s t) :
    Within w ps s { t with recd := x0, pts := x1 } :=
  (h.recd x0 hx0).pts x1 hx1
theorem Within.now_net (x0 : Nat) (x1 : NetState) (hx0 : ps.contains .now = true) (hx1 : ps.contains .net = true) (h : Within w ps s t) :
    Within w ps s { t with now := x0, net := x1 } :=
  (h.now x0 hx0).net x1 hx1
theorem Within.ctl_mot_lft (x0 : CtlState) (x1 : MotState) (x2 : LiftState) (hx0 : ps.contains .ctl = true) (hx1 : ps.contains .mot = true) (hx2 : ps.contains .lft = true) (h : Within w ps s t) :
    Within w ps s { t with ctl := x0, mot := x1, lft := x2 } :=
  ((h.ctl x0 hx0).mot x1 hx1).lft x2 hx2
theorem Within.mer_nvs (x0 : Meringue) (x1 : NvsState) (hx0 : ps.contains .mer = true) (hx1 : ps.contains .nvs = true) (h : Within w ps s t) :
    Within w ps s { t with mer := x0, nvs := x1 } :=
  (h.mer x0 hx0).nvs x1 hx1
theorem Within.now_trend (x0 : Nat) (x1 : TrendState) (hx0 : ps.contains .now = true) (hx1 : ps.contains .trend = true) (h : Within w ps s t) :
    Within w ps s { t with now := x0, trend := x1 } :=
  (h.now x0 hx0).trend x1 hx1
theorem Within.lbs_recd (x0 : LbsState) (x1 : RecState) (hx0 : ps.contains .lbs = true) (hx1 : ps.contains .recd = true) (h : Within w ps s t) :
    Within w ps s { t with lbs := x0, recd := x1 } :=
  (h.lbs x0 hx0).recd x1 hx1

end Sys2Proof.Safety
end

