-- ==== Sys2Proof/Laws/FrameOps.lean ====
section
/-!
SUPPORT. What each operation of the shared operations may change: entries by their indices and parts of the state by name. Meanings and claims
about frames cite these and unfold nothing.
-/
namespace Sys2Proof.Laws

open Sys2Proof Sys2Proof.Machine Sys2Proof.Safety

theorem State_send_within (s : State) (o : Out) : Within (some []) [.out] s (State.send s o) := by
  unfold State.send
  refine .out _ rfl ?_
  exact .refl _ _ _

theorem State_tookFree_within (s : State) (n : Nat) : Within (some []) [.free] s (State.tookFree s n) := by
  unfold State.tookFree
  refine .free _ rfl ?_
  exact .refl _ _ _

theorem recordEvent_within (s : State) (code : Nat) (inst : Nat) (flags : Nat) (payload : Nat) :
    Within (some [5892]) [.recd] s (recordEvent s code inst flags payload) := by
  unfold recordEvent
  extract_lets x1 x2
  clear_value x1
  refine Within.have_ (x := x2) ?_ fun hx2 => ?_
  · unfold x2
    refine .count _ _ _ rfl ?_
    exact .refl _ _ _
  clear_value x2
  refine .ite ?_ ?_
  · exact .refl _ _ _
  · refine .ite ?_ ?_
    · refine .recd _ rfl ?_
      exact .refl _ _ _
    · refine .recd _ rfl ?_
      assumption

theorem anchor_within (s : State) (cause : Nat) : Within (some [5892]) [.recd] s (anchor s cause) := by
  unfold anchor
  refine Within.after (recordEvent_within ..) rfl rfl ?_
  exact .refl _ _ _

theorem blockEvent_within (s : State) (hi : Nat) (tag : Nat) (inst : Nat) (sev : Nat) (set : Bool) (payload : Nat) :
    Within (some [5892]) [.recd] s (blockEvent s hi tag inst sev set payload) := by
  unfold blockEvent
  refine Within.after (recordEvent_within ..) rfl rfl ?_
  exact .refl _ _ _

theorem callDone_within (s : State) (seq : Nat) (k : Nat) : Within (some []) [.mer] s (callDone s seq k) := by
  unfold callDone
  extract_lets x1 x2
  clear_value x1
  clear_value x2
  refine .mer _ rfl ?_
  exact .refl _ _ _

theorem modeEvent_within (s : State) (new : Mode) (old : Nat) (cause : Nat) : Within (some [5892]) [.recd] s (modeEvent s new old cause)
    := by
  unfold modeEvent
  refine Within.after (recordEvent_within ..) rfl rfl ?_
  exact .refl _ _ _

theorem enterMode_within (s : State) (m : Mode) (cause : Nat) : Within (some [5892]) [.mode, .net, .recd] s (enterMode s m cause) := by
  unfold enterMode
  extract_lets x1 x2 x3 x4
  clear_value x4
  refine Within.have_ (x := x1) ?_ fun hx1 => ?_
  · unfold x1
    refine .ite ?_ ?_
    · refine .mode _ rfl ?_
      exact .refl _ _ _
    · exact .refl _ _ _
  clear_value x1
  refine Within.have_ (x := x2) ?_ fun hx2 => ?_
  · unfold x2
    refine Within.after (modeEvent_within ..) rfl rfl ?_
    assumption
  clear_value x2
  refine Within.have_ (x := x3) ?_ fun hx3 => ?_
  · unfold x3
    refine .mode _ rfl ?_
    assumption
  clear_value x3
  refine .ite ?_ ?_
  · exact .refl _ _ _
  · refine .ite ?_ ?_
    · refine .net _ rfl ?_
      assumption
    · assumption

theorem clearFault_within (s : State) (bit : Nat) : Within (some [4160,5892]) [.mode, .net, .recd] s (clearFault s bit) := by
  unfold clearFault
  extract_lets x1
  refine Within.have_ (x := x1) ?_ fun hx1 => ?_
  · unfold x1
    refine Within.after (recordEvent_within ..) rfl rfl ?_
    refine .wrBit _ _ _ _ rfl ?_
    exact .refl _ _ _
  clear_value x1
  refine .ite ?_ ?_
  · refine .ite ?_ ?_
    · refine Within.after (enterMode_within ..) rfl rfl ?_
      assumption
    · assumption
  · exact .refl _ _ _

theorem enterRun_within (s : State) (cause : Nat) : Within (some [5892]) [.mode, .net, .recd, .sys] s (enterRun s cause) := by
  unfold enterRun
  extract_lets x1 x2
  clear_value x2
  refine Within.have_ (x := x1) ?_ fun hx1 => ?_
  · unfold x1
    refine Within.after (enterMode_within ..) rfl rfl ?_
    exact .refl _ _ _
  clear_value x1
  refine .ite ?_ ?_
  · refine .sys _ rfl ?_
    assumption
  · refine Within.after (enterMode_within ..) rfl rfl ?_
    exact .refl _ _ _

theorem flushRecords_within (s : State) : Within (some []) [.mer, .recd] s (flushRecords s) := by
  unfold flushRecords
  extract_lets x1 x2 x3 x4 x5 x6 x7
  clear_value x1
  clear_value x2
  clear_value x3
  clear_value x4
  clear_value x5
  clear_value x6
  clear_value x7
  refine .mer_recd _ _ rfl rfl ?_
  exact .refl _ _ _

theorem mirrorCommit_within (s : State) : Within (some []) [.mer] s (mirrorCommit s) := by
  unfold mirrorCommit
  extract_lets x1 x2
  clear_value x1
  clear_value x2
  refine .ite ?_ ?_
  · exact .refl _ _ _
  · refine .mer _ rfl ?_
    exact .refl _ _ _

theorem overflowRecord_within (s : State) : Within (some [5892]) [.recd] s (overflowRecord s) := by
  unfold overflowRecord
  extract_lets x1 x2
  clear_value x1
  clear_value x2
  refine .ite ?_ ?_
  · refine Within.after (recordEvent_within ..) rfl rfl ?_
    refine .recd _ rfl ?_
    exact .refl _ _ _
  · exact .refl _ _ _

theorem raiseFault_within (s : State) (bit : Nat) (detail : Nat) :
    Within (some [4160,4163,5892]) [.mode, .net, .recd, .sys] s (raiseFault s bit detail) := by
  unfold raiseFault
  extract_lets x1 x2 x3 x4
  clear_value x4
  refine Within.have_ (x := x1) ?_ fun hx1 => ?_
  · unfold x1
    refine .countSat _ _ rfl ?_
    refine .wrBit _ _ _ _ rfl ?_
    exact .refl _ _ _
  clear_value x1
  refine Within.have_ (x := x2) ?_ fun hx2 => ?_
  · unfold x2
    refine Within.after (recordEvent_within ..) rfl rfl ?_
    assumption
  clear_value x2
  refine Within.have_ (x := x3) ?_ fun hx3 => ?_
  · unfold x3
    refine Within.after (enterMode_within ..) rfl rfl ?_
    assumption
  clear_value x3
  refine .ite ?_ ?_
  · exact .refl _ _ _
  · refine .ite ?_ ?_
    · refine .sys _ rfl ?_
      assumption
    · assumption

theorem setEnv_within (s : State) (b : Nat) (on : Bool) : Within (some [4124,5892]) [.recd] s (setEnv s b on) := by
  unfold setEnv
  refine .ite ?_ ?_
  · exact .refl _ _ _
  · refine Within.after (recordEvent_within ..) rfl rfl ?_
    refine .wrBit _ _ _ _ rfl ?_
    exact .refl _ _ _

theorem specialDone_within (s : State) (seq : Nat) (kind : Nat) : Within (some []) [.mer] s (specialDone s seq kind) := by
  unfold specialDone
  extract_lets x1 x2
  clear_value x1
  clear_value x2
  refine .mer _ rfl ?_
  exact .refl _ _ _

end Sys2Proof.Laws
end

