-- ==== Sys2Proof/Laws/FrameReservoir.lean ====
section
/-!
SUPPORT. What each operation of the reservoirs may change: entries by their indices and parts of the state by name. Meanings and claims
about frames cite these and unfold nothing.
-/
namespace Sys2Proof.Laws

open Sys2Proof Sys2Proof.Machine Sys2Proof.Safety

theorem clockGate_within (nextUs : Nat) (s : State) : Within (some [4171]) [] s (clockGate nextUs s) := by
  unfold clockGate
  refine .ite ?_ ?_
  · refine .wrBit _ _ _ _ rfl ?_
    refine .wrBit _ _ _ _ rfl ?_
    exact .refl _ _ _
  · exact .refl _ _ _

theorem clockStart_within (aheadUs : Nat) (s : State) : Within (some [4171,4172]) [] s (clockStart aheadUs s) := by
  unfold clockStart
  extract_lets x1 x2
  clear_value x1
  refine Within.have_ (x := x2) ?_ fun hx2 => ?_
  · unfold x2
    refine .wrBit _ _ _ _ rfl ?_
    refine .wrBit _ _ _ _ rfl ?_
    exact .refl _ _ _
  clear_value x2
  refine .ite ?_ ?_
  · refine .ite ?_ ?_
    · refine .count _ _ _ rfl ?_
      assumption
    · assumption
  · exact .refl _ _ _

theorem loseTrendPage_within (s : State) : Within (some []) [.free, .trend] s (loseTrendPage s) := by
  unfold loseTrendPage
  extract_lets x1 x2 x3 x4
  clear_value x1
  clear_value x2
  clear_value x4
  refine Within.have_ (x := x3) ?_ fun hx3 => ?_
  · unfold x3
    refine Within.after (State_tookFree_within ..) rfl rfl ?_
    exact .refl _ _ _
  clear_value x3
  refine .trend _ rfl ?_
  assumption

theorem movePage_within (s : State) (r : Retiring) (spare : Nat) (c : Tab Nat) : Within (some []) [.dram,
    .mer] s (movePage s r spare c) := by
  unfold movePage
  extract_lets x1 x2 x3
  clear_value x1
  clear_value x2
  clear_value x3
  split
  · refine .mer_dram _ _ rfl rfl ?_
    exact .refl _ _ _
  · refine .dram _ rfl ?_
    exact .refl _ _ _
  · refine .dram _ rfl ?_
    exact .refl _ _ _

theorem noteRetired_within (s : State) (page : Nat) (spares : Nat) (m : PageMove) :
    Within (some [4164,4165,5892]) [.mer, .recd, .sys] s (noteRetired s page spares m) := by
  unfold noteRetired
  extract_lets x1 x2 x3
  clear_value x1
  clear_value x2
  refine Within.have_ (x := x3) ?_ fun hx3 => ?_
  · unfold x3
    refine .mer_sys _ _ rfl rfl ?_
    exact .refl _ _ _
  clear_value x3
  refine Within.after (recordEvent_within ..) rfl rfl ?_
  refine .wr _ _ _ rfl ?_
  refine .count _ _ _ rfl ?_
  assumption

theorem retirePage_within (s : State) (r : Retiring) (spare : Nat) (held : List (Nat × Nat)) :
    Within (some [4160,4164,4165,5892]) [.dram, .free, .mer, .mode, .net, .out, .recd, .sys, .trend] s (retirePage s r spare held) := by
  unfold retirePage
  extract_lets x1 x2 x3 x4 x5 x6 x7
  clear_value x1
  clear_value x2
  clear_value x3
  clear_value x4
  refine Within.have_ (x := x5) ?_ fun hx5 => ?_
  · unfold x5
    refine .ite ?_ ?_
    · refine .dram _ rfl ?_
      exact .refl _ _ _
    · refine Within.after (movePage_within ..) rfl rfl ?_
      exact .refl _ _ _
  clear_value x5
  refine Within.have_ (x := x6) ?_ fun hx6 => ?_
  · unfold x6
    refine Within.after (noteRetired_within ..) rfl rfl ?_
    assumption
  clear_value x6
  refine Within.have_ (x := x7) ?_ fun hx7 => ?_
  · unfold x7
    refine Within.after (State_send_within ..) rfl rfl ?_
    refine .ite ?_ ?_
    · refine Within.after (loseTrendPage_within ..) rfl rfl ?_
      assumption
    · assumption
  clear_value x7
  refine .ite ?_ ?_
  · refine Within.after (clearFault_within ..) rfl rfl ?_
    assumption
  · assumption

theorem dramPageRetireComplete_within (page : Nat) (spare : Nat) (held : List (Nat × Nat)) (s : State) :
    Within (some [4160,4164,4165,5892]) [.dram, .free, .mer, .mode, .net, .out, .recd, .sys,
        .trend] s (dramPageRetireComplete page spare held s) := by
  unfold dramPageRetireComplete
  split
  · exact .refl _ _ _
  · refine .ite ?_ ?_
    · refine Within.after (retirePage_within ..) rfl rfl ?_
      exact .refl _ _ _
    · exact .refl _ _ _

theorem fabricAccessRefused_within (m : FabricMaster) (t : FabricTarget) (w : FabricWay) (address : Nat) (s : State) :
    Within (some [4173,5892]) [.out, .recd] s (fabricAccessRefused m t w address s) := by
  unfold fabricAccessRefused
  refine .ite ?_ ?_
  · refine Within.after (State_send_within ..) rfl rfl ?_
    refine Within.after (recordEvent_within ..) rfl rfl ?_
    refine .count _ _ _ rfl ?_
    exact .refl _ _ _
  · exact .refl _ _ _

theorem putRes_within (s : State) (r : Nat) (x : Reservoir) : Within (some []) [.sys] s (putRes s r x) := by
  unfold putRes
  extract_lets x1
  clear_value x1
  refine .ite ?_ ?_
  · refine .sys _ rfl ?_
    exact .refl _ _ _
  · refine .sys _ rfl ?_
    exact .refl _ _ _

theorem sramOpened_within (s : State) : Within (some [5892]) [.mer, .recd, .sys] s (sramOpened s) := by
  unfold sramOpened
  extract_lets x1 x2
  clear_value x1
  refine Within.have_ (x := x2) ?_ fun hx2 => ?_
  · unfold x2
    refine .sys _ rfl ?_
    exact .refl _ _ _
  clear_value x2
  refine .ite ?_ ?_
  · assumption
  · refine Within.after (mirrorCommit_within ..) rfl rfl ?_
    refine .ite ?_ ?_
    · refine Within.after (overflowRecord_within ..) rfl rfl ?_
      refine Within.after (flushRecords_within ..) rfl rfl ?_
      assumption
    · assumption

theorem startNextTest_within (s : State) : Within (some []) [.sys] s (startNextTest s) := by
  unfold startNextTest
  split
  · exact .refl _ _ _
  · split
    · exact .refl _ _ _
    · extract_lets x1
      clear_value x1
      refine .sys _ rfl ?_
      exact .refl _ _ _

theorem holdTestComplete_within (stepMv : Nat) (sinkMv : Nat) (s : State) :
    Within (some [4115,4116,4117,4118,4160,4163,5892]) [.free, .mer, .mode, .net, .recd, .sys] s (holdTestComplete stepMv sinkMv s) := by
  unfold holdTestComplete
  split
  · exact .refl _ _ _
  · extract_lets x1 x2 x3 x4 x5 x6 x7 x8 x9 x10 x11 x12
    clear_value x1
    clear_value x3
    clear_value x6
    clear_value x9
    clear_value x10
    refine Within.have_ (x := x2) ?_ fun hx2 => ?_
    · unfold x2
      refine .ite ?_ ?_
      · refine Within.after (State_tookFree_within ..) rfl rfl ?_
        exact .refl _ _ _
      · exact .refl _ _ _
    clear_value x2
    refine Within.have_ (x := x4) ?_ fun hx4 => ?_
    · unfold x4
      refine .wr _ _ _ rfl ?_
      refine .wr _ _ _ rfl ?_
      refine .wr _ _ _ rfl ?_
      assumption
    clear_value x4
    refine Within.have_ (x := x5) ?_ fun hx5 => ?_
    · unfold x5
      refine Within.after (recordEvent_within ..) rfl rfl ?_
      assumption
    clear_value x5
    refine Within.have_ (x := x7) ?_ fun hx7 => ?_
    · unfold x7
      refine Within.after (putRes_within ..) rfl rfl ?_
      assumption
    clear_value x7
    refine Within.have_ (x := x8) ?_ fun hx8 => ?_
    · unfold x8
      refine .ite ?_ ?_
      · refine Within.after (clearFault_within ..) rfl rfl ?_
        refine Within.after (sramOpened_within ..) rfl rfl ?_
        assumption
      · refine Within.after (raiseFault_within ..) rfl rfl ?_
        assumption
    clear_value x8
    refine Within.have_ (x := x11) ?_ fun hx11 => ?_
    · unfold x11
      refine .sys _ rfl ?_
      assumption
    clear_value x11
    refine Within.have_ (x := x12) ?_ fun hx12 => ?_
    · unfold x12
      refine .ite ?_ ?_
      · refine .wr _ _ _ rfl ?_
        assumption
      · assumption
    clear_value x12
    refine Within.after (startNextTest_within ..) rfl rfl ?_
    assumption

theorem queueTest_within (s : State) (t : Nat × Bool) : Within (some []) [.sys] s (queueTest s t) := by
  unfold queueTest
  extract_lets x1
  clear_value x1
  refine Within.after (startNextTest_within ..) rfl rfl ?_
  refine .sys _ rfl ?_
  exact .refl _ _ _

theorem hourlyHoldTest_within (r : Nat) (s : State) : Within (some []) [.sys] s (hourlyHoldTest r s) := by
  unfold hourlyHoldTest
  refine .ite ?_ ?_
  · refine Within.after (queueTest_within ..) rfl rfl ?_
    exact .refl _ _ _
  · exact .refl _ _ _

theorem loadRestart_within (s : State) : Within (some []) [.sys] s (loadRestart s) := by
  unfold loadRestart
  extract_lets x1
  clear_value x1
  refine .sys _ rfl ?_
  exact .refl _ _ _

theorem mpFrame_within (demand : List Nat) (s : State) : Within (some []) [.sys] s (mpFrame demand s) := by
  unfold mpFrame
  extract_lets x1 x2
  clear_value x1
  clear_value x2
  refine .ite ?_ ?_
  · refine .sys _ rfl ?_
    exact .refl _ _ _
  · exact .refl _ _ _

theorem mpLoadUpdate_within (s : State) : Within (some [4166,4167,4168]) [.sys] s (mpLoadUpdate s) := by
  unfold mpLoadUpdate
  extract_lets x1 x2 x3 x4 x5
  clear_value x1
  clear_value x4
  refine Within.have_ (x := x2) ?_ fun hx2 => ?_
  · unfold x2
    refine .foldl (fun t6 x7 => ?_) _ ?_
    · refine .wr _ _ _ rfl ?_
      exact .refl _ _ _
    · refine .wr _ _ _ rfl ?_
      exact .refl _ _ _
  clear_value x2
  refine Within.have_ (x := x3) ?_ fun hx3 => ?_
  · unfold x3
    refine .wr _ _ _ rfl ?_
    assumption
  clear_value x3
  refine Within.have_ (x := x5) ?_ fun hx5 => ?_
  · unfold x5
    refine .wr _ _ _ rfl ?_
    assumption
  clear_value x5
  refine .ite ?_ ?_
  · refine .ite ?_ ?_
    · refine .sys _ rfl ?_
      assumption
    · refine .ite ?_ ?_
      · refine .ite ?_ ?_
        · refine .sys _ rfl ?_
          assumption
        · refine .sys _ rfl ?_
          assumption
      · refine .sys _ rfl ?_
        assumption
  · exact .refl _ _ _

theorem mpRestart_within (romOk : Bool) (s : State) : Within (some []) [.sys] s (mpRestart romOk s) := by
  unfold mpRestart
  extract_lets x1
  clear_value x1
  refine .ite ?_ ?_
  · refine .sys _ rfl ?_
    exact .refl _ _ _
  · exact .refl _ _ _

theorem reservoirChargeRetry_within (r : Nat) (s : State) : Within (some []) [.sys] s (reservoirChargeRetry r s) := by
  unfold reservoirChargeRetry
  extract_lets x1
  clear_value x1
  refine .ite ?_ ?_
  · refine Within.after (putRes_within ..) rfl rfl ?_
    exact .refl _ _ _
  · exact .refl _ _ _

theorem reservoirChargeTimeout_within (r : Nat) (s : State) :
    Within (some [4160,4163,5892]) [.mode, .net, .recd, .sys] s (reservoirChargeTimeout r s) := by
  unfold reservoirChargeTimeout
  extract_lets x1
  clear_value x1
  refine .ite ?_ ?_
  · refine Within.after (startNextTest_within ..) rfl rfl ?_
    refine Within.after (raiseFault_within ..) rfl rfl ?_
    refine Within.after (putRes_within ..) rfl rfl ?_
    exact .refl _ _ _
  · exact .refl _ _ _

theorem reservoirCharged_within (r : Nat) (s : State) : Within (some []) [.sys] s (reservoirCharged r s) := by
  unfold reservoirCharged
  extract_lets x1
  clear_value x1
  refine .ite ?_ ?_
  · refine Within.after (queueTest_within ..) rfl rfl ?_
    refine Within.after (putRes_within ..) rfl rfl ?_
    exact .refl _ _ _
  · exact .refl _ _ _

theorem startHoldTest_within (s : State) : Within (some [4118]) [.sys] s (startHoldTest s) := by
  unfold startHoldTest
  extract_lets x1 x2 x3
  clear_value x2
  refine Within.have_ (x := x1) ?_ fun hx1 => ?_
  · unfold x1
    refine .wr _ _ _ rfl ?_
    exact .refl _ _ _
  clear_value x1
  refine Within.have_ (x := x3) ?_ fun hx3 => ?_
  · unfold x3
    refine .sys _ rfl ?_
    assumption
  clear_value x3
  refine Within.after (queueTest_within ..) rfl rfl ?_
  refine Within.after (queueTest_within ..) rfl rfl ?_
  assumption

theorem startRetire_within (address : Nat) (cls : PageClass) (s : State) :
    Within (some [4160,4163,5892]) [.mode, .net, .recd, .sys] s (startRetire address cls s) := by
  unfold startRetire
  extract_lets x1 x2
  clear_value x1
  clear_value x2
  refine .ite ?_ ?_
  · exact .refl _ _ _
  · refine Within.after (raiseFault_within ..) rfl rfl ?_
    refine .sys _ rfl ?_
    exact .refl _ _ _

theorem trendEntries_within (s : State) : Within (some [4196,4197]) [] s (trendEntries s) := by
  unfold trendEntries
  extract_lets x1
  clear_value x1
  refine .wr _ _ _ rfl ?_
  refine .wr _ _ _ rfl ?_
  exact .refl _ _ _

theorem trendArchiveMove_within (capacity : Nat) (s : State) : Within (some [4196,4197]) [.trend] s (trendArchiveMove capacity s) := by
  unfold trendArchiveMove
  extract_lets x1
  clear_value x1
  refine .ite ?_ ?_
  · refine Within.after (trendEntries_within ..) rfl rfl ?_
    refine .trend _ rfl ?_
    exact .refl _ _ _
  · exact .refl _ _ _

end Sys2Proof.Laws
end

