-- ==== Sys2Proof/Laws/FrameEgress.lean ====
section
/-!
SUPPORT. What each operation of the transmit queues may change: entries by their indices and parts of the state by name. Meanings and claims
about frames cite these and unfold nothing.
-/
namespace Sys2Proof.Laws

open Sys2Proof Sys2Proof.Machine Sys2Proof.Safety

theorem putTx_within (s : State) (p : Nat) (x : FieldTx) : Within (some []) [.fld] s (putTx s p x) := by
  unfold putTx
  extract_lets x1
  clear_value x1
  refine .fld _ rfl ?_
  exact .refl _ _ _

theorem fieldSend_within (s : State) (vlan : Nat) (pcp : Nat) (len : Nat) (p : Nat) :
    Within (some [4629]) [.fld] s (fieldSend s vlan pcp len p) := by
  unfold fieldSend
  extract_lets x1 x2
  clear_value x1
  clear_value x2
  refine .ite ?_ ?_
  · exact .refl _ _ _
  · refine .ite ?_ ?_
    · refine .ite ?_ ?_
      · refine Within.after (putTx_within ..) rfl rfl ?_
        exact .refl _ _ _
      · refine .count _ _ _ rfl ?_
        exact .refl _ _ _
    · refine .ite ?_ ?_
      · refine Within.after (putTx_within ..) rfl rfl ?_
        exact .refl _ _ _
      · refine .count _ _ _ rfl ?_
        exact .refl _ _ _

theorem fieldEgress_within (s : State) (vlan : Nat) (pcp : Nat) (len : Nat) (ports : List Nat) :
    Within (some [4629]) [.fld] s (fieldEgress s vlan pcp len ports) := by
  unfold fieldEgress
  refine .foldl (fun t1 x2 => ?_) _ ?_
  · refine Within.after (fieldSend_within ..) rfl rfl ?_
    exact .refl _ _ _
  · exact .refl _ _ _

theorem t1lSend_within (s : State) (p : Nat) : Within (some [4631]) [.fld] s (t1lSend s p) := by
  unfold t1lSend
  extract_lets x1 x2
  clear_value x1
  clear_value x2
  refine .ite ?_ ?_
  · refine .ite ?_ ?_
    · exact .refl _ _ _
    · refine .count _ _ _ rfl ?_
      refine Within.after (putTx_within ..) rfl rfl ?_
      exact .refl _ _ _
  · exact .refl _ _ _

theorem t1lSendAll_within (s : State) : Within (some [4631]) [.fld] s (t1lSendAll s) := by
  unfold t1lSendAll
  refine .foldl (fun t1 x2 => ?_) _ ?_
  · refine Within.after (t1lSend_within ..) rfl rfl ?_
    exact .refl _ _ _
  · exact .refl _ _ _

end Sys2Proof.Laws
end

