-- ==== Sys2Proof/Laws/FrameUplinks.lean ====
section
/-!
SUPPORT. What each operation of the uplinks may change: entries by their indices and parts of the state by name. Meanings and claims
about frames cite these and unfold nothing.
-/
namespace Sys2Proof.Laws

open Sys2Proof Sys2Proof.Machine Sys2Proof.Safety

theorem putUp_within (s : State) (u : Nat) (x : UplinkState) : Within (some []) [.net] s (putUp s u x) := by
  unfold putUp
  extract_lets x1
  clear_value x1
  refine .ite ?_ ?_
  · refine .net _ rfl ?_
    exact .refl _ _ _
  · refine .net _ rfl ?_
    exact .refl _ _ _

theorem enqueue_within (s : State) (u : Nat) (q : Nat) (f : TxFrame) : Within (some [4373]) [.net] s (enqueue s u q f) := by
  unfold enqueue
  extract_lets x1 x2
  clear_value x1
  clear_value x2
  refine .ite ?_ ?_
  · exact .refl _ _ _
  · refine .ite ?_ ?_
    · refine Within.after (putUp_within ..) rfl rfl ?_
      exact .refl _ _ _
    · refine .count _ _ _ rfl ?_
      exact .refl _ _ _

theorem recordNode_within (s : State) (node : Nat) : Within (some [4391]) [.net] s (recordNode s node) := by
  unfold recordNode
  extract_lets x1 x2
  clear_value x2
  refine Within.have_ (x := x1) ?_ fun hx1 => ?_
  · unfold x1
    refine .wr _ _ _ rfl ?_
    exact .refl _ _ _
  clear_value x1
  refine .ite ?_ ?_
  · exact .refl _ _ _
  · refine .net _ rfl ?_
    assumption

theorem deliver_within (s : State) (u : Nat) (f : UplinkFrame) : Within (some [4373,4391,4629]) [.fld, .net, .out] s (deliver s u f) := by
  unfold deliver
  split
  · refine Within.after (recordNode_within ..) rfl rfl ?_
    exact .refl _ _ _
  · extract_lets x1
    refine Within.have_ (x := x1) ?_ fun hx1 => ?_
    · unfold x1
      refine Within.after (fieldEgress_within ..) rfl rfl ?_
      exact .refl _ _ _
    clear_value x1
    refine .ite ?_ ?_
    · refine Within.after (enqueue_within ..) rfl rfl ?_
      assumption
    · assumption
  · refine Within.after (State_send_within ..) rfl rfl ?_
    exact .refl _ _ _

theorem dupCheck_within {t : State} (s : State) (u : Nat) (src : Nat) (seq : Nat) (h : dupCheck s u src seq = some t) :
    Within (some []) [.net] s t := by
  unfold dupCheck at h
  split at h
  · split at h
    · cases h
      exact .refl _ _ _
    · cases h
  · dsimp only at h
    cases h
    refine .net _ rfl ?_
    exact .refl _ _ _

theorem dupSeen_within (s : State) (src : Nat) (seq : Nat) : Within (some []) [.net] s (dupSeen s src seq) := by
  unfold dupSeen
  extract_lets x1
  clear_value x1
  refine .net _ rfl ?_
  exact .refl _ _ _

theorem acceptFrame_within (s : State) (u : Nat) (f : UplinkFrame) :
    Within (some [4373,4387,4388,4389,4391,4629]) [.fld, .net, .out] s (acceptFrame s u f) := by
  unfold acceptFrame
  refine .ite ?_ ?_
  · refine Within.after (deliver_within ..) rfl rfl ?_
    exact .refl _ _ _
  · split
    · refine Within.after (deliver_within ..) rfl rfl ?_
      exact .refl _ _ _
    · extract_lets x1 x2
      refine Within.have_ (x := x1) ?_ fun hx1 => ?_
      · unfold x1
        refine .count _ _ _ rfl ?_
        exact .refl _ _ _
      clear_value x1
      refine Within.have_ (x := x2) ?_ fun hx2 => ?_
      · unfold x2
        refine .ite ?_ ?_
        · assumption
        · refine .count _ _ _ rfl ?_
          assumption
      clear_value x2
      refine .ite ?_ ?_
      · refine Within.after (deliver_within ..) rfl rfl ?_
        assumption
      · split
        · rename_i r3 r4 r5 r6 r7 r8 r9
          refine Within.after (deliver_within ..) rfl rfl ?_
          refine Within.after (dupCheck_within (h := r9)) rfl rfl ?_
          assumption
        · refine Within.after (dupSeen_within ..) rfl rfl ?_
          refine .count _ _ _ rfl ?_
          assumption

theorem chooseMaster_within (s : State) : Within (some [4403,4404,4407]) [.net] s (chooseMaster s) := by
  unfold chooseMaster
  extract_lets x1 x2 x3 x4 x5
  clear_value x1
  clear_value x2
  clear_value x3
  refine Within.have_ (x := x4) ?_ fun hx4 => ?_
  · unfold x4
    refine .ite ?_ ?_
    · refine .net _ rfl ?_
      exact .refl _ _ _
    · exact .refl _ _ _
  clear_value x4
  refine Within.have_ (x := x5) ?_ fun hx5 => ?_
  · unfold x5
    refine .wr _ _ _ rfl ?_
    refine .wr _ _ _ rfl ?_
    assumption
  clear_value x5
  refine .ite ?_ ?_
  · refine .wr _ _ _ rfl ?_
    assumption
  · assumption

theorem commissionAdmission_within (u : Nat) (s : State) : Within (some [4480]) [] s (commissionAdmission u s) := by
  unfold commissionAdmission
  refine .ite ?_ ?_
  · refine .wr _ _ _ rfl ?_
    exact .refl _ _ _
  · exact .refl _ _ _

theorem reauthDone_within (s : State) (u : Nat) : Within (some []) [.net] s (reauthDone s u) := by
  unfold reauthDone
  extract_lets x1
  clear_value x1
  refine Within.after (putUp_within ..) rfl rfl ?_
  exact .refl _ _ _

theorem stampUsable_within (s : State) (u : Nat) : Within (some []) [.net] s (stampUsable s u) := by
  unfold stampUsable
  extract_lets x1 x2
  clear_value x1
  clear_value x2
  split
  · refine Within.after (putUp_within ..) rfl rfl ?_
    exact .refl _ _ _
  · refine Within.after (putUp_within ..) rfl rfl ?_
    exact .refl _ _ _
  · exact .refl _ _ _

theorem upFault_within (s : State) (u : Nat) : Within (some [4160,4163,5892]) [.mode, .net, .recd, .sys] s (upFault s u) := by
  unfold upFault
  refine Within.after (raiseFault_within ..) rfl rfl ?_
  exact .refl _ _ _

theorem dot1xFail_within (s : State) (u : Nat) : Within (some [4160,4163,4480,4485,5892]) [.mode, .net, .recd, .sys] s (dot1xFail s u) := by
  unfold dot1xFail
  refine Within.after (stampUsable_within ..) rfl rfl ?_
  refine Within.after (upFault_within ..) rfl rfl ?_
  refine Within.after (reauthDone_within ..) rfl rfl ?_
  refine .count _ _ _ rfl ?_
  refine .wr _ _ _ rfl ?_
  exact .refl _ _ _

theorem dot1xExchangeTimeout_within (u : Nat) (s : State) :
    Within (some [4160,4163,4480,4485,5892]) [.mode, .net, .recd, .sys] s (dot1xExchangeTimeout u s) := by
  unfold dot1xExchangeTimeout
  refine .ite ?_ ?_
  · refine Within.after (dot1xFail_within ..) rfl rfl ?_
    exact .refl _ _ _
  · exact .refl _ _ _

theorem offer_within (s : State) (u : Nat) (k : TxKind) (o : Out) : Within (some []) [.out] s (offer s u k o) := by
  unfold offer
  refine .ite ?_ ?_
  · refine Within.after (State_send_within ..) rfl rfl ?_
    exact .refl _ _ _
  · exact .refl _ _ _

theorem sendLink_within (s : State) (u : Nat) (len : Nat) (k : TxKind) (o : Out) :
    Within (some [4373]) [.net, .out] s (sendLink s u len k o) := by
  unfold sendLink
  extract_lets x1
  clear_value x1
  refine Within.after (enqueue_within ..) rfl rfl ?_
  refine Within.after (offer_within ..) rfl rfl ?_
  exact .refl _ _ _

theorem eapolStart_within (s : State) (u : Nat) : Within (some [4373,4480]) [.net, .out] s (eapolStart s u) := by
  unfold eapolStart
  refine Within.after (sendLink_within ..) rfl rfl ?_
  refine .wr _ _ _ rfl ?_
  exact .refl _ _ _

theorem dot1xHoldEnd_within (u : Nat) (s : State) : Within (some [4373,4480]) [.net, .out] s (dot1xHoldEnd u s) := by
  unfold dot1xHoldEnd
  refine .ite ?_ ?_
  · refine Within.after (eapolStart_within ..) rfl rfl ?_
    exact .refl _ _ _
  · exact .refl _ _ _

theorem startMka_within (s : State) (u : Nat) :
    Within (some [4160,4163,4373,4419,5892,6217]) [.mode, .net, .out, .recd, .sys] s (startMka s u) := by
  unfold startMka
  extract_lets x1 x2 x3
  clear_value x1
  refine Within.have_ (x := x2) ?_ fun hx2 => ?_
  · unfold x2
    refine .wr _ _ _ rfl ?_
    exact .refl _ _ _
  clear_value x2
  refine Within.have_ (x := x3) ?_ fun hx3 => ?_
  · unfold x3
    refine .ite ?_ ?_
    · refine .wr _ _ _ rfl ?_
      assumption
    · assumption
  clear_value x3
  refine Within.after (upFault_within ..) rfl rfl ?_
  refine Within.after (sendLink_within ..) rfl rfl ?_
  assumption

theorem dot1xSucceed_within (s : State) (u : Nat) :
    Within (some [4160,4163,4373,4419,4480,4485,5892,6217]) [.mode, .net, .out, .recd, .sys] s (dot1xSucceed s u) := by
  unfold dot1xSucceed
  extract_lets x1
  refine Within.have_ (x := x1) ?_ fun hx1 => ?_
  · unfold x1
    refine Within.after (reauthDone_within ..) rfl rfl ?_
    refine .wr _ _ _ rfl ?_
    exact .refl _ _ _
  clear_value x1
  refine .ite ?_ ?_
  · refine Within.after (dot1xFail_within ..) rfl rfl ?_
    exact .refl _ _ _
  · refine Within.after (stampUsable_within ..) rfl rfl ?_
    refine .ite ?_ ?_
    · refine Within.after (startMka_within ..) rfl rfl ?_
      assumption
    · assumption

theorem offerAll_within (s : State) (u : Nat) : Within (some []) [.net] s (offerAll s u) := by
  unfold offerAll
  extract_lets x1
  clear_value x1
  refine Within.after (putUp_within ..) rfl rfl ?_
  exact .refl _ _ _

theorem linkLost_within (s : State) (u : Nat) (linkState : Nat) :
    Within (some [4160,4163,4352,4353,4419,4480,5892]) [.mode, .net, .recd, .sys] s (linkLost s u linkState) := by
  unfold linkLost
  extract_lets x1 x2
  refine Within.have_ (x := x1) ?_ fun hx1 => ?_
  · unfold x1
    refine Within.after (offerAll_within ..) rfl rfl ?_
    refine Within.after (reauthDone_within ..) rfl rfl ?_
    refine .wr _ _ _ rfl ?_
    refine .wr _ _ _ rfl ?_
    refine .wr _ _ _ rfl ?_
    exact .refl _ _ _
  clear_value x1
  refine Within.have_ (x := x2) ?_ fun hx2 => ?_
  · unfold x2
    refine .wr _ _ _ rfl ?_
    assumption
  clear_value x2
  refine Within.after (stampUsable_within ..) rfl rfl ?_
  refine Within.after (upFault_within ..) rfl rfl ?_
  assumption

theorem negotiate_within (s : State) (u : Nat) (speeds : List Nat) (eee : Bool) : Within (some []) [.net,
    .out] s (negotiate s u speeds eee) := by
  unfold negotiate
  extract_lets x1
  clear_value x1
  refine Within.after (State_send_within ..) rfl rfl ?_
  refine Within.after (putUp_within ..) rfl rfl ?_
  exact .refl _ _ _

theorem shiftStart_within (s : State) (u : Nat) (target : Nat) :
    Within (some [4160,4163,4352,4353,4419,4449,4480,5892]) [.mode, .net, .out, .recd, .sys] s (shiftStart s u target) := by
  unfold shiftStart
  extract_lets x1 x2
  clear_value x2
  refine Within.have_ (x := x1) ?_ fun hx1 => ?_
  · unfold x1
    refine .count _ _ _ rfl ?_
    refine Within.after (linkLost_within ..) rfl rfl ?_
    exact .refl _ _ _
  clear_value x1
  refine Within.after (negotiate_within ..) rfl rfl ?_
  refine Within.after (putUp_within ..) rfl rfl ?_
  assumption

theorem raiseDue_within (s : State) :
    Within (some [4160,4163,4352,4353,4419,4449,4480,5892]) [.mode, .net, .out, .recd, .sys] s (raiseDue s) := by
  unfold raiseDue
  refine .ite ?_ ?_
  · refine .ite ?_ ?_
    · refine Within.after (shiftStart_within ..) rfl rfl ?_
      exact .refl _ _ _
    · refine .ite ?_ ?_
      · refine Within.after (shiftStart_within ..) rfl rfl ?_
        exact .refl _ _ _
      · exact .refl _ _ _
  · exact .refl _ _ _

theorem downshiftOff_within (s : State) :
    Within (some [4160,4163,4352,4353,4419,4449,4480,5892]) [.mode, .net, .out, .recd, .sys] s (downshiftOff s) := by
  unfold downshiftOff
  extract_lets x1
  refine Within.after (raiseDue_within ..) rfl rfl ?_
  simp only [x1]
  refine Within.after (putUp_within ..) rfl rfl ?_
  refine Within.after (putUp_within ..) rfl rfl ?_
  exact .refl _ _ _

theorem downshiftWindow_within (u : Nat) (load : Nat) (s : State) :
    Within (some [4160,4163,4352,4353,4419,4449,4450,4480,5892]) [.mode, .net, .out, .recd, .sys] s (downshiftWindow u load s) := by
  unfold downshiftWindow
  extract_lets x1
  refine Within.have_ (x := x1) ?_ fun hx1 => ?_
  · unfold x1
    refine Within.after (raiseDue_within ..) rfl rfl ?_
    refine .wr _ _ _ rfl ?_
    exact .refl _ _ _
  clear_value x1
  refine .ite ?_ ?_
  · refine .ite ?_ ?_
    · split
      · refine .ite ?_ ?_
        · refine Within.after (shiftStart_within ..) rfl rfl ?_
          assumption
        · assumption
      · assumption
    · assumption
  · exact .refl _ _ _

theorem eapolFrameRx_within (u : Nat) (k : EapolKind) (s : State) :
    Within (some [4160,4163,4373,4419,4480,4485,5892,6217]) [.mode, .net, .out, .recd, .sys] s (eapolFrameRx u k s) := by
  unfold eapolFrameRx
  extract_lets x1 x2 x3
  clear_value x1
  clear_value x3
  refine Within.have_ (x := x2) ?_ fun hx2 => ?_
  · unfold x2
    refine .ite ?_ ?_
    · refine .wr _ _ _ rfl ?_
      exact .refl _ _ _
    · exact .refl _ _ _
  clear_value x2
  refine .ite ?_ ?_
  · refine .ite ?_ ?_
    · exact .refl _ _ _
    · split
      · assumption
      · refine .ite ?_ ?_
        · refine Within.after (putUp_within ..) rfl rfl ?_
          assumption
        · assumption
      · refine Within.after (dot1xSucceed_within ..) rfl rfl ?_
        assumption
      · refine Within.after (dot1xFail_within ..) rfl rfl ?_
        assumption
  · exact .refl _ _ _

theorem eapolStartRepeat_within (u : Nat) (s : State) : Within (some [4373]) [.net, .out] s (eapolStartRepeat u s) := by
  unfold eapolStartRepeat
  refine .ite ?_ ?_
  · refine Within.after (sendLink_within ..) rfl rfl ?_
    exact .refl _ _ _
  · exact .refl _ _ _

theorem endAdmission_within (s : State) : Within (some [4373,4480]) [.net, .out] s (endAdmission s) := by
  unfold endAdmission
  refine .foldl (fun t1 x2 => ?_) _ ?_
  · refine .ite ?_ ?_
    · refine Within.after (eapolStart_within ..) rfl rfl ?_
      exact .refl _ _ _
    · exact .refl _ _ _
  · exact .refl _ _ _

theorem followUtc_within (s : State) (utc : Option Int) : Within (some [5380,5892]) [.recd] s (followUtc s utc) := by
  unfold followUtc
  split
  · exact .refl _ _ _
  · refine .ite ?_ ?_
    · refine Within.after (anchor_within ..) rfl rfl ?_
      refine .wrInt _ _ _ rfl ?_
      exact .refl _ _ _
    · exact .refl _ _ _

theorem sendUp_within (s : State) (u : Nat) (q : Nat) (len : Nat) (dst : Nat) : Within (some [4373]) [.net] s (sendUp s u q len dst) := by
  unfold sendUp
  extract_lets x1 x2 x3
  clear_value x1
  clear_value x2
  refine Within.have_ (x := x3) ?_ fun hx3 => ?_
  · unfold x3
    refine .net _ rfl ?_
    exact .refl _ _ _
  clear_value x3
  refine .ite ?_ ?_
  · refine Within.after (enqueue_within ..) rfl rfl ?_
    refine Within.after (enqueue_within ..) rfl rfl ?_
    assumption
  · refine Within.after (enqueue_within ..) rfl rfl ?_
    exact .refl _ _ _

theorem forwardUp_within (s : State) (src : Nat) (pcp : Nat) (len0 : Nat) (dst : Nat) (u : Nat) :
    Within (some [4373,4392,4393]) [.net] s (forwardUp s src pcp len0 dst u) := by
  unfold forwardUp
  extract_lets x1 x2 x3 x4 x5
  clear_value x1
  clear_value x2
  clear_value x3
  clear_value x5
  refine Within.have_ (x := x4) ?_ fun hx4 => ?_
  · unfold x4
    refine .wr _ _ _ rfl ?_
    exact .refl _ _ _
  clear_value x4
  refine .ite ?_ ?_
  · refine Within.after (enqueue_within ..) rfl rfl ?_
    exact .refl _ _ _
  · refine .ite ?_ ?_
    · refine Within.after (sendUp_within ..) rfl rfl ?_
      exact .refl _ _ _
    · refine .ite ?_ ?_
      · refine Within.after (sendUp_within ..) rfl rfl ?_
        refine .net _ rfl ?_
        assumption
      · refine Within.after (enqueue_within ..) rfl rfl ?_
        refine .count _ _ _ rfl ?_
        exact .refl _ _ _

theorem frameBoundary_within (s : State) (u : Nat) : Within (some [4373]) [.net, .out] s (frameBoundary s u) := by
  unfold frameBoundary
  extract_lets x1 x2
  clear_value x1
  refine Within.have_ (x := x2) ?_ fun hx2 => ?_
  · unfold x2
    refine Within.after (putUp_within ..) rfl rfl ?_
    exact .refl _ _ _
  clear_value x2
  split
  · refine Within.after (sendLink_within ..) rfl rfl ?_
    assumption
  · assumption

theorem hostOut_within (s : State) (o : Out) : Within (some []) [.out] s (hostOut s o) := by
  unfold hostOut
  refine .ite ?_ ?_
  · refine Within.after (State_send_within ..) rfl rfl ?_
    exact .refl _ _ _
  · exact .refl _ _ _

theorem hostDatagram_within (s : State) (q : Nat) (n : Nat) (addr : Nat) (o : Out) :
    Within (some [4373]) [.net, .out] s (hostDatagram s q n addr o) := by
  unfold hostDatagram
  extract_lets x1
  clear_value x1
  refine Within.after (sendUp_within ..) rfl rfl ?_
  refine Within.after (hostOut_within ..) rfl rfl ?_
  exact .refl _ _ _

theorem mkaRestart_within (s : State) (u : Nat) :
    Within (some [4160,4163,4373,4419,5892,6217]) [.mode, .net, .out, .recd, .sys] s (mkaRestart s u) := by
  unfold mkaRestart
  refine .ite ?_ ?_
  · refine .wr _ _ _ rfl ?_
    exact .refl _ _ _
  · refine Within.after (startMka_within ..) rfl rfl ?_
    exact .refl _ _ _

theorem mkaRestartB_within (s : State) : Within (some [4160,4163,4373,4419,5892,6217]) [.mode, .net, .out, .recd,
    .sys] s (mkaRestartB s) := by
  unfold mkaRestartB
  extract_lets x1
  clear_value x1
  refine .ite ?_ ?_
  · refine Within.after (mkaRestart_within ..) rfl rfl ?_
    refine .net _ rfl ?_
    exact .refl _ _ _
  · exact .refl _ _ _

theorem macsecChanged_within (s : State) :
    Within (some [4160,4163,4373,4419,5892,6217]) [.mode, .net, .out, .recd, .sys] s (macsecChanged s) := by
  unfold macsecChanged
  extract_lets x1 x2 x3
  clear_value x2
  refine Within.have_ (x := x1) ?_ fun hx1 => ?_
  · unfold x1
    refine Within.after (mkaRestart_within ..) rfl rfl ?_
    exact .refl _ _ _
  refine Within.have_ (x := x3) ?_ fun hx3 => ?_
  · unfold x3
    refine .net _ rfl ?_
    assumption
  refine .ite ?_ ?_
  · refine Within.after (mkaRestartB_within ..) rfl rfl ?_
    assumption
  · assumption

theorem mkaBRestartTimeout_within (s : State) :
    Within (some [4160,4163,4373,4419,5892,6217]) [.mode, .net, .out, .recd, .sys] s (mkaBRestartTimeout s) := by
  unfold mkaBRestartTimeout
  refine .ite ?_ ?_
  · refine Within.after (mkaRestartB_within ..) rfl rfl ?_
    exact .refl _ _ _
  · exact .refl _ _ _

theorem mkaFailed_within (u : Nat) (s : State) : Within (some [4160,4163,4419,5892]) [.mode, .net, .recd, .sys] s (mkaFailed u s) := by
  unfold mkaFailed
  refine .ite ?_ ?_
  · refine Within.after (upFault_within ..) rfl rfl ?_
    refine .wr _ _ _ rfl ?_
    exact .refl _ _ _
  · exact .refl _ _ _

theorem mkaRetry_within (u : Nat) (s : State) :
    Within (some [4160,4163,4373,4419,5892,6217]) [.mode, .net, .out, .recd, .sys] s (mkaRetry u s) := by
  unfold mkaRetry
  refine .ite ?_ ?_
  · refine Within.after (startMka_within ..) rfl rfl ?_
    exact .refl _ _ _
  · exact .refl _ _ _

theorem mkaSecured_within (u : Nat) (sci : Nat) (s : State) :
    Within (some [4160,4163,4373,4419,5892,6217]) [.mode, .net, .out, .recd, .sys] s (mkaSecured u sci s) := by
  unfold mkaSecured
  extract_lets x1 x2 x3
  clear_value x1
  refine Within.have_ (x := x2) ?_ fun hx2 => ?_
  · unfold x2
    refine Within.after (putUp_within ..) rfl rfl ?_
    exact .refl _ _ _
  clear_value x2
  refine Within.have_ (x := x3) ?_ fun hx3 => ?_
  · unfold x3
    refine .wr _ _ _ rfl ?_
    assumption
  clear_value x3
  refine .ite ?_ ?_
  · refine .ite ?_ ?_
    · refine Within.after (mkaRestartB_within ..) rfl rfl ?_
      assumption
    · assumption
  · exact .refl _ _ _

theorem ptpRestart_within (s : State) : Within (some [4403,4404,4407]) [.net] s (ptpRestart s) := by
  unfold ptpRestart
  extract_lets x1 x2 x3 x4 x5 x6
  clear_value x1
  clear_value x2
  clear_value x6
  refine Within.have_ (x := x3) ?_ fun hx3 => ?_
  · unfold x3
    refine Within.after (putUp_within ..) rfl rfl ?_
    refine Within.after (putUp_within ..) rfl rfl ?_
    exact .refl _ _ _
  clear_value x3
  refine Within.have_ (x := x4) ?_ fun hx4 => ?_
  · unfold x4
    refine .wr _ _ _ rfl ?_
    refine .wr _ _ _ rfl ?_
    assumption
  clear_value x4
  refine Within.have_ (x := x5) ?_ fun hx5 => ?_
  · unfold x5
    refine .wr _ _ _ rfl ?_
    assumption
  clear_value x5
  refine .net _ rfl ?_
  assumption

theorem renegotiate_within (s : State) (u : Nat) :
    Within (some [4160,4163,4352,4353,4419,4480,5892]) [.mode, .net, .out, .recd, .sys] s (renegotiate s u) := by
  unfold renegotiate
  refine Within.after (negotiate_within ..) rfl rfl ?_
  refine Within.after (linkLost_within ..) rfl rfl ?_
  exact .refl _ _ _

theorem netApply_within {t : State} (s : State) (i : Nat) (e : Nat) (v : Nat) (h : netApply s i e v = some t) :
    Within none [.mode, .net, .out, .recd, .sys] s t := by
  unfold netApply at h
  split at h
  · cases h
    refine .wr _ _ _ rfl ?_
    refine .wr _ _ _ rfl ?_
    exact .refl _ _ _
  · split at h
    · cases h
      refine .ite ?_ ?_
      · exact .refl _ _ _
      · refine Within.after (renegotiate_within ..) rfl rfl ?_
        refine .wr _ _ _ rfl ?_
        exact .refl _ _ _
    · split at h
      · cases h
        refine .ite ?_ ?_
        · exact .refl _ _ _
        · refine Within.after (renegotiate_within ..) rfl rfl ?_
          refine Within.after (renegotiate_within ..) rfl rfl ?_
          refine .wr _ _ _ rfl ?_
          exact .refl _ _ _
      · split at h
        · cases h
          refine .ite ?_ ?_
          · refine Within.after (downshiftOff_within ..) rfl rfl ?_
            refine .wr _ _ _ rfl ?_
            exact .refl _ _ _
          · refine .wr _ _ _ rfl ?_
            exact .refl _ _ _
        · split at h
          · cases h
            refine .ite ?_ ?_
            · refine .wr _ _ _ rfl ?_
              exact .refl _ _ _
            · refine Within.after (ptpRestart_within ..) rfl rfl ?_
              refine .wr _ _ _ rfl ?_
              exact .refl _ _ _
          · cases h

theorem netCommitted_within (old : State) (s : State) (touched : List (Nat × Nat)) :
    Within (some [4160,4163,4373,4419,5892,6217]) [.mode, .net, .out, .recd, .sys] s (netCommitted old s touched) := by
  unfold netCommitted
  refine .ite ?_ ?_
  · refine Within.after (macsecChanged_within ..) rfl rfl ?_
    exact .refl _ _ _
  · exact .refl _ _ _

theorem notePn_within (s : State) (u : Nat) (f : UplinkFrame) : Within (some []) [.net] s (notePn s u f) := by
  unfold notePn
  split
  · exact .refl _ _ _
  · extract_lets x1
    clear_value x1
    refine Within.after (putUp_within ..) rfl rfl ?_
    exact .refl _ _ _

theorem proxyEntryAgeout_within (mac : Nat) (s : State) : Within (some [4392]) [.net] s (proxyEntryAgeout mac s) := by
  unfold proxyEntryAgeout
  extract_lets x1 x2 x3
  clear_value x1
  clear_value x3
  refine Within.have_ (x := x2) ?_ fun hx2 => ?_
  · unfold x2
    refine .wr _ _ _ rfl ?_
    exact .refl _ _ _
  clear_value x2
  refine .net _ rfl ?_
  assumption

theorem prpForgetExpiry_within (src : Nat) (seq : Nat) (s : State) : Within (some [4390]) [.net] s (prpForgetExpiry src seq s) := by
  unfold prpForgetExpiry
  split
  · exact .refl _ _ _
  · extract_lets x1 x2
    clear_value x1
    refine Within.have_ (x := x2) ?_ fun hx2 => ?_
    · unfold x2
      refine .net _ rfl ?_
      exact .refl _ _ _
    clear_value x2
    refine .ite ?_ ?_
    · assumption
    · refine .count _ _ _ rfl ?_
      assumption

theorem prpSilenceTimeout_within (u : Nat) (s : State) : Within (some [4160,4163,5892]) [.mode, .net, .recd,
    .sys] s (prpSilenceTimeout u s) := by
  unfold prpSilenceTimeout
  refine .ite ?_ ?_
  · refine Within.after (upFault_within ..) rfl rfl ?_
    exact .refl _ _ _
  · exact .refl _ _ _

theorem sendOwn_within (s : State) (u : Nat) (cls : Nat) (len : Nat) (dst : Nat) : Within (some [4373]) [.net] s (sendOwn s u cls len
    dst) := by
  unfold sendOwn
  refine Within.after (sendUp_within ..) rfl rfl ?_
  exact .refl _ _ _

theorem prpSupervisionTx_within (s : State) : Within (some [4373]) [.net, .out] s (prpSupervisionTx s) := by
  unfold prpSupervisionTx
  refine .ite ?_ ?_
  · refine .foldl (fun t1 x2 => ?_) _ ?_
    · refine Within.after (sendOwn_within ..) rfl rfl ?_
      refine Within.after (offer_within ..) rfl rfl ?_
      refine Within.after (offer_within ..) rfl rfl ?_
      exact .refl _ _ _
    · exact .refl _ _ _
  · exact .refl _ _ _

theorem ptpAnnounceTimeout_within (s : State) : Within (some [4403,4404,4407]) [.net] s (ptpAnnounceTimeout s) := by
  unfold ptpAnnounceTimeout
  extract_lets x1 x2 x3
  clear_value x1
  clear_value x2
  refine Within.have_ (x := x3) ?_ fun hx3 => ?_
  · unfold x3
    refine Within.after (putUp_within ..) rfl rfl ?_
    exact .refl _ _ _
  clear_value x3
  refine .ite ?_ ?_
  · refine .ite ?_ ?_
    · refine .wr _ _ _ rfl ?_
      assumption
    · refine Within.after (chooseMaster_within ..) rfl rfl ?_
      assumption
  · exact .refl _ _ _

theorem servo_within (s0 : State) (offset : Int) (freq : Int) : Within (some []) [.net, .now] s0 (servo s0 offset freq) := by
  unfold servo
  extract_lets x1 x2 x3
  clear_value x1
  clear_value x3
  refine Within.have_ (x := x2) ?_ fun hx2 => ?_
  · unfold x2
    refine .net _ rfl ?_
    exact .refl _ _ _
  clear_value x2
  refine .ite ?_ ?_
  · refine .net _ rfl ?_
    assumption
  · refine .now _ rfl ?_
    assumption

theorem ptpMessageRx_within (u : Nat) (m : PtpMsg) (s : State) :
    Within (some [4373,4403,4404,4405,4406,4407,5380,5892]) [.net, .now, .out, .recd] s (ptpMessageRx u m s) := by
  unfold ptpMessageRx
  refine .ite ?_ ?_
  · exact .refl _ _ _
  · split
    · extract_lets x1 x2
      clear_value x1
      refine Within.have_ (x := x2) ?_ fun hx2 => ?_
      · unfold x2
        refine Within.after (chooseMaster_within ..) rfl rfl ?_
        refine Within.after (putUp_within ..) rfl rfl ?_
        exact .refl _ _ _
      clear_value x2
      refine .ite ?_ ?_
      · refine Within.after (followUtc_within ..) rfl rfl ?_
        assumption
      · assumption
    · extract_lets x3
      refine Within.have_ (x := x3) ?_ fun hx3 => ?_
      · unfold x3
        refine .wr _ _ _ rfl ?_
        refine .wrInt _ _ _ rfl ?_
        exact .refl _ _ _
      clear_value x3
      refine .ite ?_ ?_
      · refine Within.after (servo_within ..) rfl rfl ?_
        refine .wr _ _ _ rfl ?_
        assumption
      · assumption
    · refine .ite ?_ ?_
      · refine Within.after (sendLink_within ..) rfl rfl ?_
        exact .refl _ _ _
      · exact .refl _ _ _
    · extract_lets x4
      clear_value x4
      refine Within.after (sendLink_within ..) rfl rfl ?_
      exact .refl _ _ _

theorem speedShiftEnd_within (u : Nat) (speed : Nat) (s : State) :
    Within (some [4160,4163,4352,4353,4419,4449,4480,5892]) [.mode, .net, .out, .recd, .sys] s (speedShiftEnd u speed s) := by
  unfold speedShiftEnd
  refine .ite ?_ ?_
  · refine Within.after (raiseDue_within ..) rfl rfl ?_
    refine Within.after (offerAll_within ..) rfl rfl ?_
    refine Within.after (stampUsable_within ..) rfl rfl ?_
    refine .wr _ _ _ rfl ?_
    exact .refl _ _ _
  · exact .refl _ _ _

theorem standbyLinkRetry_within (u : Nat) (s : State) : Within (some []) [.net, .out] s (standbyLinkRetry u s) := by
  unfold standbyLinkRetry
  refine .ite ?_ ?_
  · refine Within.after (negotiate_within ..) rfl rfl ?_
    exact .refl _ _ _
  · exact .refl _ _ _

theorem startFrame_within (s : State) (u : Nat) (q : Nat) (f : TxFrame) : Within (some [4374]) [.net, .out] s (startFrame s u q f) := by
  unfold startFrame
  extract_lets x1 x2 x3 x4
  clear_value x1
  clear_value x2
  clear_value x3
  clear_value x4
  refine Within.after (State_send_within ..) rfl rfl ?_
  refine .count _ _ _ rfl ?_
  refine Within.after (putUp_within ..) rfl rfl ?_
  exact .refl _ _ _

theorem txFrameStart_within (u : Nat) (have_ : List Nat) (s : State) : Within (some [4373,4374]) [.net,
    .out] s (txFrameStart u have_ s) := by
  unfold txFrameStart
  extract_lets x1
  refine Within.have_ (x := x1) ?_ fun hx1 => ?_
  · unfold x1
    refine Within.after (frameBoundary_within ..) rfl rfl ?_
    exact .refl _ _ _
  clear_value x1
  refine .ite ?_ ?_
  · split
    · assumption
    · refine Within.after (startFrame_within ..) rfl rfl ?_
      assumption
  · exact .refl _ _ _

theorem txUnderrun_within (u : Nat) (s : State) : Within (some [4369,4375,5892]) [.net, .out, .recd] s (txUnderrun u s) := by
  unfold txUnderrun
  split
  · exact .refl _ _ _
  · extract_lets x1 x2 x3
    clear_value x1
    refine Within.have_ (x := x2) ?_ fun hx2 => ?_
    · unfold x2
      refine Within.after (State_send_within ..) rfl rfl ?_
      refine Within.after (putUp_within ..) rfl rfl ?_
      exact .refl _ _ _
    clear_value x2
    refine Within.have_ (x := x3) ?_ fun hx3 => ?_
    · unfold x3
      refine .wr _ _ _ rfl ?_
      assumption
    clear_value x3
    refine .ite ?_ ?_
    · exact .refl _ _ _
    · refine Within.after (blockEvent_within ..) rfl rfl ?_
      refine .count _ _ _ rfl ?_
      assumption

theorem uplinkFaultClear_within (u : Nat) (s : State) : Within (some [4160,5892]) [.mode, .net, .recd] s (uplinkFaultClear u s) := by
  unfold uplinkFaultClear
  refine .ite ?_ ?_
  · refine Within.after (clearFault_within ..) rfl rfl ?_
    exact .refl _ _ _
  · exact .refl _ _ _

theorem uplinkFrameRx_within (u : Nat) (f : UplinkFrame) (s : State) :
    Within (some [4362,4363,4373,4387,4388,4389,4391,4420,4629]) [.fld, .net, .out] s (uplinkFrameRx u f s) := by
  unfold uplinkFrameRx
  refine .ite ?_ ?_
  · exact .refl _ _ _
  · refine .ite ?_ ?_
    · refine .count _ _ _ rfl ?_
      exact .refl _ _ _
    · refine .ite ?_ ?_
      · refine .count _ _ _ rfl ?_
        exact .refl _ _ _
      · refine .ite ?_ ?_
        · refine .ite ?_ ?_
          · refine .count _ _ _ rfl ?_
            exact .refl _ _ _
          · refine .ite ?_ ?_
            · refine Within.after (acceptFrame_within ..) rfl rfl ?_
              refine Within.after (notePn_within ..) rfl rfl ?_
              exact .refl _ _ _
            · exact .refl _ _ _
        · refine .ite ?_ ?_
          · refine Within.after (acceptFrame_within ..) rfl rfl ?_
            exact .refl _ _ _
          · exact .refl _ _ _

theorem uplinkLinkDown_within (u : Nat) (s : State) :
    Within (some [4160,4163,4352,4353,4419,4480,5892]) [.mode, .net, .recd, .sys] s (uplinkLinkDown u s) := by
  unfold uplinkLinkDown
  extract_lets x1
  clear_value x1
  refine .ite ?_ ?_
  · refine Within.after (putUp_within ..) rfl rfl ?_
    exact .refl _ _ _
  · refine .ite ?_ ?_
    · refine Within.after (linkLost_within ..) rfl rfl ?_
      exact .refl _ _ _
    · exact .refl _ _ _

theorem uplinkLinkUp_within (u : Nat) (speed : Nat) (s : State) :
    Within (some [4160,4163,4352,4353,4373,4480,5892]) [.mode, .net, .out, .recd, .sys] s (uplinkLinkUp u speed s) := by
  unfold uplinkLinkUp
  extract_lets x1 x2 x3
  clear_value x1
  clear_value x2
  refine Within.have_ (x := x3) ?_ fun hx3 => ?_
  · unfold x3
    refine .wr _ _ _ rfl ?_
    refine .wr _ _ _ rfl ?_
    exact .refl _ _ _
  clear_value x3
  refine .ite ?_ ?_
  · refine .ite ?_ ?_
    · refine Within.after (putUp_within ..) rfl rfl ?_
      exact .refl _ _ _
    · exact .refl _ _ _
  · refine .ite ?_ ?_
    · refine .ite ?_ ?_
      · exact .refl _ _ _
      · refine Within.after (upFault_within ..) rfl rfl ?_
        refine Within.after (stampUsable_within ..) rfl rfl ?_
        refine Within.after (eapolStart_within ..) rfl rfl ?_
        assumption
    · exact .refl _ _ _

theorem uplinksBoot_within (s : State) : Within (some [4160,4163,4352,5892]) [.mode, .net, .out, .recd, .sys] s (uplinksBoot s) := by
  unfold uplinksBoot
  refine .foldl (fun t1 x2 => ?_) _ ?_
  · extract_lets x3
    refine Within.have_ (x := x3) ?_ fun hx3 => ?_
    · unfold x3
      refine .ite ?_ ?_
      · refine Within.after (negotiate_within ..) rfl rfl ?_
        refine .wr _ _ _ rfl ?_
        exact .refl _ _ _
      · exact .refl _ _ _
    clear_value x3
    refine .ite ?_ ?_
    · assumption
    · refine Within.after (upFault_within ..) rfl rfl ?_
      assumption
  · exact .refl _ _ _

end Sys2Proof.Laws
end

