-- ==== Sys2Proof/Laws/FrameField.lean ====
section
/-!
SUPPORT. What each operation of the field ports may change: entries by their indices and parts of the state by name. Meanings and claims
about frames cite these and unfold nothing.
-/
namespace Sys2Proof.Laws

open Sys2Proof Sys2Proof.Machine Sys2Proof.Safety

theorem bcastWindowReset_within (p : Nat) (s : State) : Within (some []) [.fld] s (bcastWindowReset p s) := by
  unfold bcastWindowReset
  extract_lets x1
  clear_value x1
  refine .fld _ rfl ?_
  exact .refl _ _ _

theorem countClassified_within (s : State) (rx : RxInfo) : Within (some [4230,4870]) [] s (countClassified s rx) := by
  unfold countClassified
  split
  · refine .count _ _ _ rfl ?_
    exact .refl _ _ _
  · refine .count _ _ _ rfl ?_
    exact .refl _ _ _

theorem fieldEvent_within (s : State) (tag : Nat) (port : Nat) : Within (some [5892]) [.recd] s (fieldEvent s tag port) := by
  unfold fieldEvent
  refine Within.after (blockEvent_within ..) rfl rfl ?_
  exact .refl _ _ _

theorem fieldForward_within (s : State) (p : Nat) (f : FieldFrame) :
    Within (some [4373,4392,4393,4629]) [.fld, .net, .out] s (fieldForward s p f) := by
  unfold fieldForward
  extract_lets x1 x2 x3
  clear_value x1
  refine Within.have_ (x := x2) ?_ fun hx2 => ?_
  · unfold x2
    refine Within.after (fieldEgress_within ..) rfl rfl ?_
    exact .refl _ _ _
  clear_value x2
  refine Within.have_ (x := x3) ?_ fun hx3 => ?_
  · unfold x3
    split
    · refine Within.after (forwardUp_within ..) rfl rfl ?_
      assumption
    · assumption
  clear_value x3
  split
  · refine Within.after (State_send_within ..) rfl rfl ?_
    assumption
  · assumption

theorem noteNode_within (s : State) (p : Nat) (f : FieldFrame) : Within (some [4676]) [] s (noteNode s p f) := by
  unfold noteNode
  refine .ite ?_ ?_
  · refine .wrBit _ _ _ _ rfl ?_
    exact .refl _ _ _
  · exact .refl _ _ _

theorem fieldFrameRx_within (p : Nat) (f : FieldFrame) (s0 : State) :
    Within (some [4373,4392,4393,4627,4628,4629,4630,4676]) [.fld, .net, .out] s0 (fieldFrameRx p f s0) := by
  unfold fieldFrameRx
  extract_lets x1 x2 x3 x4 x5
  clear_value x2
  clear_value x3
  clear_value x4
  refine Within.have_ (x := x1) ?_ fun hx1 => ?_
  · unfold x1
    refine Within.after (noteNode_within ..) rfl rfl ?_
    exact .refl _ _ _
  clear_value x1
  refine Within.have_ (x := x5) ?_ fun hx5 => ?_
  · unfold x5
    refine .ite ?_ ?_
    · refine .fld _ rfl ?_
      assumption
    · assumption
  clear_value x5
  refine .ite ?_ ?_
  · exact .refl _ _ _
  · refine .ite ?_ ?_
    · refine .count _ _ _ rfl ?_
      assumption
    · refine .ite ?_ ?_
      · refine .count _ _ _ rfl ?_
        assumption
      · refine Within.after (fieldForward_within ..) rfl rfl ?_
        refine .count _ _ _ rfl ?_
        assumption

theorem fieldOff_within (s : State) : Within (some [4611,4612,4677,4708]) [.fld] s (fieldOff s) := by
  unfold fieldOff
  extract_lets x1 x2 x3 x4
  clear_value x4
  refine Within.have_ (x := x1) ?_ fun hx1 => ?_
  · unfold x1
    refine .foldl (fun t5 x6 => ?_) _ ?_
    · refine .wr _ _ _ rfl ?_
      refine .wr _ _ _ rfl ?_
      exact .refl _ _ _
    · exact .refl _ _ _
  clear_value x1
  refine Within.have_ (x := x2) ?_ fun hx2 => ?_
  · unfold x2
    refine .foldl (fun t7 x8 => ?_) _ ?_
    · refine .wr _ _ _ rfl ?_
      exact .refl _ _ _
    · assumption
  clear_value x2
  refine Within.have_ (x := x3) ?_ fun hx3 => ?_
  · unfold x3
    refine .foldl (fun t9 x10 => ?_) _ ?_
    · refine .wr _ _ _ rfl ?_
      exact .refl _ _ _
    · assumption
  clear_value x3
  refine .fld _ rfl ?_
  assumption

theorem pseNoteAlloc_within (s : State) : Within (some [4649]) [] s (pseNoteAlloc s) := by
  unfold pseNoteAlloc
  refine .wr _ _ _ rfl ?_
  exact .refl _ _ _

theorem fieldPwrOutOfRange_within (mv : Nat) (s : State) :
    Within (some [4124,4645,4649,4651,5892]) [.fld, .recd] s (fieldPwrOutOfRange mv s) := by
  unfold fieldPwrOutOfRange
  extract_lets x1 x2
  clear_value x2
  refine Within.have_ (x := x1) ?_ fun hx1 => ?_
  · unfold x1
    refine .foldl (fun t3 x4 => ?_) _ ?_
    · refine .ite ?_ ?_
      · exact .refl _ _ _
      · refine .wr _ _ _ rfl ?_
        exact .refl _ _ _
    · refine .wr _ _ _ rfl ?_
      exact .refl _ _ _
  clear_value x1
  refine .ite ?_ ?_
  · refine Within.after (pseNoteAlloc_within ..) rfl rfl ?_
    refine Within.after (setEnv_within ..) rfl rfl ?_
    refine .fld _ rfl ?_
    assumption
  · exact .refl _ _ _

theorem pseRestart_within (s : State) (p : Nat) : Within (some [4645,4646]) [] s (pseRestart s p) := by
  unfold pseRestart
  refine .ite ?_ ?_
  · refine .wr _ _ _ rfl ?_
    refine .wr _ _ _ rfl ?_
    exact .refl _ _ _
  · exact .refl _ _ _

theorem fieldPwrRecovered_within (mv : Nat) (s : State) : Within (some [4124,4645,4646,4651,5892]) [.fld,
    .recd] s (fieldPwrRecovered mv s) := by
  unfold fieldPwrRecovered
  extract_lets x1 x2
  clear_value x2
  refine Within.have_ (x := x1) ?_ fun hx1 => ?_
  · unfold x1
    refine .wr _ _ _ rfl ?_
    exact .refl _ _ _
  clear_value x1
  refine .ite ?_ ?_
  · refine .foldl (fun t3 x4 => ?_) _ ?_
    · refine Within.after (pseRestart_within ..) rfl rfl ?_
      exact .refl _ _ _
    · refine Within.after (setEnv_within ..) rfl rfl ?_
      refine .fld _ rfl ?_
      assumption
  · exact .refl _ _ _

theorem mbDone_within (s : State) (p : Nat) : Within (some []) [.fld] s (mbDone s p) := by
  unfold mbDone
  extract_lets x1
  clear_value x1
  refine .fld _ rfl ?_
  exact .refl _ _ _

theorem rsRestart_within (s : State) (p : Nat) : Within (some [4708]) [.fld] s (rsRestart s p) := by
  unfold rsRestart
  refine Within.after (mbDone_within ..) rfl rfl ?_
  refine .wr _ _ _ rfl ?_
  exact .refl _ _ _

theorem t1sRestart_within (s : State) (g : Nat) : Within (some [4677]) [.fld] s (t1sRestart s g) := by
  unfold t1sRestart
  extract_lets x1 x2
  clear_value x2
  refine Within.have_ (x := x1) ?_ fun hx1 => ?_
  · unfold x1
    refine .wr _ _ _ rfl ?_
    exact .refl _ _ _
  clear_value x1
  refine .fld _ rfl ?_
  assumption

theorem fieldStart_within (s : State) : Within (some [4611,4645,4646,4677,4708]) [.fld] s (fieldStart s) := by
  unfold fieldStart
  extract_lets x1 x2
  refine Within.have_ (x := x1) ?_ fun hx1 => ?_
  · unfold x1
    refine .foldl (fun t3 x4 => ?_) _ ?_
    · refine Within.after (pseRestart_within ..) rfl rfl ?_
      refine .wr _ _ _ rfl ?_
      exact .refl _ _ _
    · exact .refl _ _ _
  clear_value x1
  refine Within.have_ (x := x2) ?_ fun hx2 => ?_
  · unfold x2
    refine .foldl (fun t5 x6 => ?_) _ ?_
    · refine Within.after (t1sRestart_within ..) rfl rfl ?_
      exact .refl _ _ _
    · assumption
  clear_value x2
  refine .foldl (fun t7 x8 => ?_) _ ?_
  · refine Within.after (rsRestart_within ..) rfl rfl ?_
    exact .refl _ _ _
  · assumption

theorem mbStatus_within (s : State) (p : Nat) (k : Nat) (code : Nat) : Within (some [4739]) [] s (mbStatus s p k code) := by
  unfold mbStatus
  refine .wr _ _ _ rfl ?_
  exact .refl _ _ _

theorem mbSend_within (s : State) (p : Nat) (k : Nat) (due : Nat) : Within (some [4739,4742]) [.fld, .out] s (mbSend s p k due) := by
  unfold mbSend
  extract_lets x1 x2
  clear_value x1
  refine Within.have_ (x := x2) ?_ fun hx2 => ?_
  · unfold x2
    refine .ite ?_ ?_
    · refine .count _ _ _ rfl ?_
      exact .refl _ _ _
    · exact .refl _ _ _
  clear_value x2
  refine .ite ?_ ?_
  · exact .refl _ _ _
  · split
    · exact .refl _ _ _
    · refine Within.after (mbStatus_within ..) rfl rfl ?_
      exact .refl _ _ _
    · extract_lets x3 x4
      clear_value x4
      refine Within.have_ (x := x3) ?_ fun hx3 => ?_
      · unfold x3
        refine Within.after (State_send_within ..) rfl rfl ?_
        assumption
      clear_value x3
      refine .ite ?_ ?_
      · refine Within.after (mbStatus_within ..) rfl rfl ?_
        refine .fld _ rfl ?_
        assumption
      · refine .fld _ rfl ?_
        assumption

theorem mbStart_within (p : Nat) (s : State) : Within (some [4739,4742]) [.fld, .out] s (mbStart p s) := by
  unfold mbStart
  split
  · exact .refl _ _ _
  · extract_lets x1 x2
    clear_value x1
    refine Within.have_ (x := x2) ?_ fun hx2 => ?_
    · unfold x2
      refine .fld _ rfl ?_
      exact .refl _ _ _
    clear_value x2
    refine .ite ?_ ?_
    · refine .ite ?_ ?_
      · assumption
      · refine Within.after (mbSend_within ..) rfl rfl ?_
        assumption
    · exact .refl _ _ _

theorem mbNext_within (s : State) (p : Nat) : Within (some [4739,4742]) [.fld, .out] s (mbNext s p) := by
  unfold mbNext
  refine .foldl (fun t1 x2 => ?_) _ ?_
  · refine Within.after (mbStart_within ..) rfl rfl ?_
    exact .refl _ _ _
  · exact .refl _ _ _

theorem mbNextAll_within (s : State) : Within (some [4739,4742]) [.fld, .out] s (mbNextAll s) := by
  unfold mbNextAll
  refine .foldl (fun t1 x2 => ?_) _ ?_
  · refine Within.after (mbNext_within ..) rfl rfl ?_
    exact .refl _ _ _
  · exact .refl _ _ _

theorem pseDetected_within (s : State) : Within (some [4645]) [.fld] s (pseDetected s) := by
  unfold pseDetected
  extract_lets x1
  clear_value x1
  refine .foldl (fun t2 x3 => ?_) _ ?_
  · refine .ite ?_ ?_
    · refine .wr _ _ _ rfl ?_
      exact .refl _ _ _
    · exact .refl _ _ _
  · refine .fld _ rfl ?_
    exact .refl _ _ _

theorem pseTurn_within (s : State) (ports : List Nat) : Within (some [4645,4646]) [.fld] s (pseTurn s ports) := by
  unfold pseTurn
  extract_lets x1 x2 x3
  clear_value x1
  clear_value x2
  refine Within.have_ (x := x3) ?_ fun hx3 => ?_
  · unfold x3
    refine .fld _ rfl ?_
    exact .refl _ _ _
  clear_value x3
  split
  · assumption
  · refine Within.after (pseRestart_within ..) rfl rfl ?_
    assumption

theorem pseNext_within (s : State) : Within (some [4645,4646]) [.fld] s (pseNext s) := by
  unfold pseNext
  split
  · exact .refl _ _ _
  · refine .ite ?_ ?_
    · exact .refl _ _ _
    · refine Within.after (pseTurn_within ..) rfl rfl ?_
      exact .refl _ _ _

theorem fieldTick_within (s : State) : Within (some [4631,4645,4646,4739,4742]) [.fld, .out] s (fieldTick s) := by
  unfold fieldTick
  refine Within.after (mbNextAll_within ..) rfl rfl ?_
  refine Within.after (t1lSendAll_within ..) rfl rfl ?_
  refine Within.after (pseNext_within ..) rfl rfl ?_
  refine Within.after (pseDetected_within ..) rfl rfl ?_
  exact .refl _ _ _

theorem pseShed_within (s : State) (p : Nat) : Within (some [4645]) [] s (pseShed s p) := by
  unfold pseShed
  refine .wr _ _ _ rfl ?_
  exact .refl _ _ _

theorem pseShedUntil_within (done : State → Bool) (a2 : List Nat) (a3 : State) : Within (some [4645]) [] a3 (pseShedUntil done a2 a3) := by
  induction a2 generalizing a3 with
  | nil => exact .refl _ _ _
  | cons q qs ih =>
    unfold pseShedUntil
    refine .ite (.refl _ _ _) ((Within.ite ((pseShed_within ..).mono rfl rfl) (.refl _ _ _)).trans (ih _))

theorem pseFitBudget_within (s : State) : Within (some [4645,4649]) [] s (pseFitBudget s) := by
  unfold pseFitBudget
  refine Within.after (pseNoteAlloc_within ..) rfl rfl ?_
  refine Within.after (pseShedUntil_within ..) rfl rfl ?_
  exact .refl _ _ _

theorem pseRevisit_within (s : State) : Within (some [4645,4646,4649]) [.fld] s (pseRevisit s) := by
  unfold pseRevisit
  extract_lets x1 x2
  clear_value x1
  clear_value x2
  refine Within.after (pseNoteAlloc_within ..) rfl rfl ?_
  split
  · refine Within.after (pseTurn_within ..) rfl rfl ?_
    exact .refl _ _ _
  · refine .ite ?_ ?_
    · refine .fld _ rfl ?_
      exact .refl _ _ _
    · refine Within.after (pseTurn_within ..) rfl rfl ?_
      exact .refl _ _ _

theorem t1lDown_within (s : State) (p : Nat) (st : Nat) : Within (some [4611,4612,4613]) [] s (t1lDown s p st) := by
  unfold t1lDown
  extract_lets x1
  refine Within.have_ (x := x1) ?_ fun hx1 => ?_
  · unfold x1
    refine .wr _ _ _ rfl ?_
    refine .wr _ _ _ rfl ?_
    exact .refl _ _ _
  clear_value x1
  refine .ite ?_ ?_
  · refine .count _ _ _ rfl ?_
    assumption
  · assumption

theorem fldApply_within {t : State} (s : State) (i : Nat) (e : Nat) (v : Nat) (h : fldApply s i e v = some t) : Within none [.fld] s t := by
  unfold fldApply at h
  dsimp only at h
  split at h
  · cases h
    refine .ite ?_ ?_
    · exact .refl _ _ _
    · refine Within.after (t1lDown_within ..) rfl rfl ?_
      refine .wr _ _ _ rfl ?_
      exact .refl _ _ _
  · split at h
    · cases h
      refine .ite ?_ ?_
      · refine .wr _ _ _ rfl ?_
        exact .refl _ _ _
      · refine Within.after (t1lDown_within ..) rfl rfl ?_
        refine .wr _ _ _ rfl ?_
        exact .refl _ _ _
    · split at h
      · cases h
        refine .ite ?_ ?_
        · refine Within.after (pseFitBudget_within ..) rfl rfl ?_
          refine .wr _ _ _ rfl ?_
          exact .refl _ _ _
        · refine .ite ?_ ?_
          · refine Within.after (pseRevisit_within ..) rfl rfl ?_
            refine .wr _ _ _ rfl ?_
            exact .refl _ _ _
          · refine .wr _ _ _ rfl ?_
            exact .refl _ _ _
      · split at h
        · cases h
          refine Within.after (pseNoteAlloc_within ..) rfl rfl ?_
          refine .wr _ _ _ rfl ?_
          exact .refl _ _ _
        · split at h
          · cases h
            refine .ite ?_ ?_
            · exact .refl _ _ _
            · refine .ite ?_ ?_
              · refine .wr _ _ _ rfl ?_
                exact .refl _ _ _
              · refine .ite ?_ ?_
                · refine .ite ?_ ?_
                  · refine Within.after (pseRestart_within ..) rfl rfl ?_
                    refine .wr _ _ _ rfl ?_
                    exact .refl _ _ _
                  · refine .wr _ _ _ rfl ?_
                    exact .refl _ _ _
                · refine Within.after (pseRevisit_within ..) rfl rfl ?_
                  refine .wr _ _ _ rfl ?_
                  refine .wr _ _ _ rfl ?_
                  refine .wr _ _ _ rfl ?_
                  exact .refl _ _ _
          · split at h
            · cases h
              refine .ite ?_ ?_
              · refine .ite ?_ ?_
                · refine .fld _ rfl ?_
                  refine .wr _ _ _ rfl ?_
                  exact .refl _ _ _
                · refine Within.after (pseRestart_within ..) rfl rfl ?_
                  refine .fld _ rfl ?_
                  refine .wr _ _ _ rfl ?_
                  exact .refl _ _ _
              · exact .refl _ _ _
            · split at h
              · cases h
                refine .ite ?_ ?_
                · refine .wr _ _ _ rfl ?_
                  exact .refl _ _ _
                · refine Within.after (t1sRestart_within ..) rfl rfl ?_
                  refine .wr _ _ _ rfl ?_
                  exact .refl _ _ _
              · split at h
                · cases h
                  refine .ite ?_ ?_
                  · refine .wr _ _ _ rfl ?_
                    exact .refl _ _ _
                  · refine Within.after (rsRestart_within ..) rfl rfl ?_
                    refine .wr _ _ _ rfl ?_
                    exact .refl _ _ _
                · cases h

theorem mbAnswered_within (s : State) (p : Nat) (station : Nat) : Within (some []) [.fld] s (mbAnswered s p station) := by
  unfold mbAnswered
  extract_lets x1
  clear_value x1
  refine .fld _ rfl ?_
  exact .refl _ _ _

theorem mbFallsDue_within (s : State) (p : Nat) (k : Nat) (at_ : Nat) : Within (some [4739,4742]) [.fld,
    .out] s (mbFallsDue s p k at_) := by
  unfold mbFallsDue
  extract_lets x1 x2
  clear_value x1
  clear_value x2
  refine .ite ?_ ?_
  · exact .refl _ _ _
  · refine Within.after (mbNext_within ..) rfl rfl ?_
    refine .fld _ rfl ?_
    exact .refl _ _ _

theorem mbStore_within (s : State) (p : Nat) (k : Nat) (m : MbEntry) (ws : List Nat) : Within (some [4737]) [] s (mbStore s p k m ws) := by
  unfold mbStore
  split
  · refine .wr _ _ _ rfl ?_
    exact .refl _ _ _
  · refine .wrQ _ _ _ rfl ?_
    exact .refl _ _ _

theorem mbReply_within (s : State) (p : Nat) (o : MbOut) (r : MbReply) : Within (some [4709,4737,4739]) [.fld] s (mbReply s p o r) := by
  unfold mbReply
  extract_lets x1 x2 x3 x4
  clear_value x1
  clear_value x3
  refine Within.have_ (x := x2) ?_ fun hx2 => ?_
  · unfold x2
    refine Within.after (mbStatus_within ..) rfl rfl ?_
    refine .count _ _ _ rfl ?_
    exact .refl _ _ _
  clear_value x2
  refine Within.have_ (x := x4) ?_ fun hx4 => ?_
  · unfold x4
    refine Within.after (mbStatus_within ..) rfl rfl ?_
    refine Within.after (mbAnswered_within ..) rfl rfl ?_
    refine Within.after (mbDone_within ..) rfl rfl ?_
    exact .refl _ _ _
  clear_value x4
  split
  · refine .fld _ rfl ?_
    assumption
  · refine .wr _ _ _ rfl ?_
    refine Within.after (mbAnswered_within ..) rfl rfl ?_
    refine Within.after (mbDone_within ..) rfl rfl ?_
    exact .refl _ _ _
  · refine .ite ?_ ?_
    · assumption
    · refine Within.after (mbStore_within ..) rfl rfl ?_
      assumption

theorem mbRetry_within (s : State) (p : Nat) (o : MbOut) : Within (some [4739]) [.fld, .out] s (mbRetry s p o) := by
  unfold mbRetry
  extract_lets x1 x2 x3
  clear_value x1
  clear_value x3
  refine Within.have_ (x := x2) ?_ fun hx2 => ?_
  · unfold x2
    refine Within.after (mbStatus_within ..) rfl rfl ?_
    refine Within.after (mbDone_within ..) rfl rfl ?_
    exact .refl _ _ _
  clear_value x2
  refine .ite ?_ ?_
  · refine Within.after (mbDone_within ..) rfl rfl ?_
    exact .refl _ _ _
  · refine .ite ?_ ?_
    · split
      · extract_lets x4 x5
        clear_value x5
        refine Within.have_ (x := x4) ?_ fun hx4 => ?_
        · unfold x4
          refine Within.after (State_send_within ..) rfl rfl ?_
          exact .refl _ _ _
        clear_value x4
        refine .fld _ rfl ?_
        assumption
      · refine Within.after (mbDone_within ..) rfl rfl ?_
        exact .refl _ _ _
    · refine .fld _ rfl ?_
      assumption

theorem modbusOutChange_within (p : Nat) (entry : Nat) (s : State) : Within (some [4739,4742]) [.fld,
    .out] s (modbusOutChange p entry s) := by
  unfold modbusOutChange
  extract_lets x1
  clear_value x1
  refine .ite ?_ ?_
  · refine Within.after (mbFallsDue_within ..) rfl rfl ?_
    exact .refl _ _ _
  · exact .refl _ _ _

theorem modbusPollDue_within (p : Nat) (entry : Nat) (at_ : Nat) (s : State) :
    Within (some [4739,4742]) [.fld, .out] s (modbusPollDue p entry at_ s) := by
  unfold modbusPollDue
  refine .ite ?_ ?_
  · refine Within.after (mbFallsDue_within ..) rfl rfl ?_
    exact .refl _ _ _
  · exact .refl _ _ _

theorem modbusReplyRx_within (p : Nat) (r : MbReply) (s : State) : Within (some [4709,4737,4739,4742]) [.fld,
    .out] s (modbusReplyRx p r s) := by
  unfold modbusReplyRx
  split
  · exact .refl _ _ _
  · refine .ite ?_ ?_
    · refine Within.after (mbNext_within ..) rfl rfl ?_
      refine Within.after (mbReply_within ..) rfl rfl ?_
      exact .refl _ _ _
    · exact .refl _ _ _

theorem modbusReplyTimeout_within (p : Nat) (s : State) : Within (some [4739,4742]) [.fld, .out] s (modbusReplyTimeout p s) := by
  unfold modbusReplyTimeout
  split
  · exact .refl _ _ _
  · refine .ite ?_ ?_
    · refine Within.after (mbNext_within ..) rfl rfl ?_
      refine Within.after (mbRetry_within ..) rfl rfl ?_
      exact .refl _ _ _
    · exact .refl _ _ _

theorem mstpDupClear_within (p : Nat) (s : State) : Within (some [4708]) [] s (mstpDupClear p s) := by
  unfold mstpDupClear
  refine .ite ?_ ?_
  · refine .wr _ _ _ rfl ?_
    exact .refl _ _ _
  · exact .refl _ _ _

theorem mstpFrameRx_within (p : Nat) (src : Nat) (bad : Bool) (request : Bool) (s : State) :
    Within (some [4230,4708,4709,4725,4870,5892]) [.recd] s (mstpFrameRx p src bad request s) := by
  unfold mstpFrameRx
  refine .ite ?_ ?_
  · refine .ite ?_ ?_
    · refine .count _ _ _ rfl ?_
      exact .refl _ _ _
    · refine .ite ?_ ?_
      · refine Within.after (fieldEvent_within ..) rfl rfl ?_
        refine .wr _ _ _ rfl ?_
        refine .count _ _ _ rfl ?_
        exact .refl _ _ _
      · refine .ite ?_ ?_
        · refine Within.after (countClassified_within ..) rfl rfl ?_
          exact .refl _ _ _
        · exact .refl _ _ _
  · exact .refl _ _ _

theorem mstpMasterAgeout_within (p : Nat) (station : Nat) (s : State) : Within (some [4723]) [] s (mstpMasterAgeout p station s) := by
  unfold mstpMasterAgeout
  refine .ite ?_ ?_
  · refine .wrBit _ _ _ _ rfl ?_
    exact .refl _ _ _
  · exact .refl _ _ _

theorem putMstp_within (s : State) (p : Nat) (x : MstpNode) : Within (some []) [.fld] s (putMstp s p x) := by
  unfold putMstp
  extract_lets x1
  clear_value x1
  refine .fld _ rfl ?_
  exact .refl _ _ _

theorem mstpPollOne_within (s : State) (p : Nat) (station : Nat) (reply : Bool) :
    Within (some [4723]) [.fld, .out] s (mstpPollOne s p station reply) := by
  unfold mstpPollOne
  extract_lets x1
  refine Within.have_ (x := x1) ?_ fun hx1 => ?_
  · unfold x1
    refine Within.after (State_send_within ..) rfl rfl ?_
    refine Within.after (putMstp_within ..) rfl rfl ?_
    exact .refl _ _ _
  clear_value x1
  refine .ite ?_ ?_
  · refine .wrBit _ _ _ _ rfl ?_
    assumption
  · assumption

theorem mstpPass_within (s : State) (p : Nat) (reply : Bool) (unused : Nat) :
    Within (some [4723]) [.fld, .out] s (mstpPass s p reply unused) := by
  unfold mstpPass
  extract_lets x1 x2
  clear_value x1
  refine Within.have_ (x := x2) ?_ fun hx2 => ?_
  · unfold x2
    refine Within.after (State_send_within ..) rfl rfl ?_
    exact .refl _ _ _
  clear_value x2
  refine .ite ?_ ?_
  · exact .refl _ _ _
  · refine .ite ?_ ?_
    · assumption
    · refine Within.after (mstpPollOne_within ..) rfl rfl ?_
      refine .wrBit _ _ _ _ rfl ?_
      assumption

theorem mstpPolls_within (s : State) (p : Nat) (reply : Bool) : Within (some [4723]) [.fld, .out] s (mstpPolls s p reply) := by
  unfold mstpPolls
  extract_lets x1 x2
  clear_value x1
  clear_value x2
  refine .ite ?_ ?_
  · refine Within.after (putMstp_within ..) rfl rfl ?_
    exact .refl _ _ _
  · refine .ite ?_ ?_
    · refine Within.after (putMstp_within ..) rfl rfl ?_
      exact .refl _ _ _
    · refine Within.after (mstpPollOne_within ..) rfl rfl ?_
      exact .refl _ _ _

theorem mstpToken_within (p : Nat) (waiting : Nat) (answered : List Nat) (reply : Bool) (unused : Nat) (s : State) :
    Within (some [4723]) [.fld, .out] s (mstpToken p waiting answered reply unused s) := by
  unfold mstpToken
  extract_lets x1 x2
  refine Within.have_ (x := x1) ?_ fun hx1 => ?_
  · unfold x1
    refine .foldl (fun t3 x4 => ?_) _ ?_
    · refine .ite ?_ ?_
      · refine .wrBit _ _ _ _ rfl ?_
        exact .refl _ _ _
      · exact .refl _ _ _
    · exact .refl _ _ _
  clear_value x1
  refine Within.have_ (x := x2) ?_ fun hx2 => ?_
  · unfold x2
    refine Within.after (mstpPolls_within ..) rfl rfl ?_
    assumption
  clear_value x2
  refine .ite ?_ ?_
  · refine Within.after (mstpPass_within ..) rfl rfl ?_
    refine Within.after (State_send_within ..) rfl rfl ?_
    assumption
  · exact .refl _ _ _

theorem mstpTokenLoss_within (p : Nat) (s : State) : Within (some [4723,4724]) [.fld, .out] s (mstpTokenLoss p s) := by
  unfold mstpTokenLoss
  refine .ite ?_ ?_
  · refine Within.after (mstpPollOne_within ..) rfl rfl ?_
    refine .count _ _ _ rfl ?_
    exact .refl _ _ _
  · exact .refl _ _ _

theorem notePseCurrent_within (s : State) (p : Nat) (ma : Nat) : Within (some [4647]) [] s (notePseCurrent s p ma) := by
  unfold notePseCurrent
  refine .wr _ _ _ rfl ?_
  exact .refl _ _ _

theorem notePse_within (s : State) (m : List (Nat × Nat)) : Within (some [4647,4648]) [] s (notePse s m) := by
  unfold notePse
  refine .foldl (fun t1 x2 => ?_) _ ?_
  · refine Within.after (notePseCurrent_within ..) rfl rfl ?_
    refine .wr _ _ _ rfl ?_
    exact .refl _ _ _
  · exact .refl _ _ _

theorem plcaCycle_within (seg : Nat) (burst : Nat) (meanUs : Nat) (s : State) :
    Within (some [4631,4677,4681]) [.fld, .out] s (plcaCycle seg burst meanUs s) := by
  unfold plcaCycle
  extract_lets x1 x2 x3 x4 x5
  clear_value x1
  clear_value x2
  refine Within.have_ (x := x3) ?_ fun hx3 => ?_
  · unfold x3
    refine Within.after (putTx_within ..) rfl rfl ?_
    exact .refl _ _ _
  clear_value x3
  refine Within.have_ (x := x4) ?_ fun hx4 => ?_
  · unfold x4
    refine .count _ _ _ rfl ?_
    refine Within.after (State_send_within ..) rfl rfl ?_
    refine Within.after (State_send_within ..) rfl rfl ?_
    assumption
  clear_value x4
  refine Within.have_ (x := x5) ?_ fun hx5 => ?_
  · unfold x5
    refine .wr _ _ _ rfl ?_
    assumption
  clear_value x5
  refine .ite ?_ ?_
  · refine .ite ?_ ?_
    · refine .wr _ _ _ rfl ?_
      assumption
    · assumption
  · exact .refl _ _ _

theorem plcaPresenceAgeout_within (seg : Nat) (node : Nat) (s : State) : Within (some [4676]) [] s (plcaPresenceAgeout seg node s) := by
  unfold plcaPresenceAgeout
  refine .ite ?_ ?_
  · refine .wrBit _ _ _ _ rfl ?_
    exact .refl _ _ _
  · exact .refl _ _ _

theorem pseAdmit_within (s : State) (p : Nat) (c : Nat) : Within (some [4645,4646,4649]) [.fld] s (pseAdmit s p c) := by
  unfold pseAdmit
  extract_lets x1 x2 x3 x4 x5
  clear_value x1
  clear_value x2
  clear_value x4
  clear_value x5
  refine .ite ?_ ?_
  · refine .wr _ _ _ rfl ?_
    exact .refl _ _ _
  · refine .ite ?_ ?_
    · simp only [x3]
      refine Within.after (pseNoteAlloc_within ..) rfl rfl ?_
      refine .wr _ _ _ rfl ?_
      refine .wr _ _ _ rfl ?_
      exact .refl _ _ _
    · refine .ite ?_ ?_
      · refine .wr _ _ _ rfl ?_
        exact .refl _ _ _
      · refine Within.after (pseRevisit_within ..) rfl rfl ?_
        simp only [x3]
        refine Within.after (pseNoteAlloc_within ..) rfl rfl ?_
        refine .wr _ _ _ rfl ?_
        refine .wr _ _ _ rfl ?_
        refine .foldl (fun t6 x7 => ?_) _ ?_
        · refine Within.after (pseShed_within ..) rfl rfl ?_
          exact .refl _ _ _
        · exact .refl _ _ _

theorem pseDetect_within (s : State) (p : Nat) (foreignMv : Nat) (sigOk : Bool) :
    Within (some [4645]) [.fld] s (pseDetect s p foreignMv sigOk) := by
  unfold pseDetect
  extract_lets x1 x2
  clear_value x2
  refine Within.have_ (x := x1) ?_ fun hx1 => ?_
  · unfold x1
    refine .wr _ _ _ rfl ?_
    exact .refl _ _ _
  clear_value x1
  refine .ite ?_ ?_
  · refine .ite ?_ ?_
    · refine .wr _ _ _ rfl ?_
      exact .refl _ _ _
    · refine .fld _ rfl ?_
      assumption
  · exact .refl _ _ _

theorem pseCheckRepeat_within (p : Nat) (foreignMv : Nat) (sigOk : Bool) (s : State) :
    Within (some [4645]) [.fld] s (pseCheckRepeat p foreignMv sigOk s) := by
  unfold pseCheckRepeat
  refine .ite ?_ ?_
  · refine Within.after (pseDetect_within ..) rfl rfl ?_
    exact .refl _ _ _
  · exact .refl _ _ _

theorem pseClassified_within (p : Nat) (cls : Option Nat) (s : State) : Within (some [4645,4646,
    4649]) [.fld] s (pseClassified p cls s) := by
  unfold pseClassified
  refine .ite ?_ ?_
  · split
    · refine .wr _ _ _ rfl ?_
      exact .refl _ _ _
    · refine .ite ?_ ?_
      · refine .wr _ _ _ rfl ?_
        exact .refl _ _ _
      · refine Within.after (pseAdmit_within ..) rfl rfl ?_
        exact .refl _ _ _
  · exact .refl _ _ _

theorem pseClassificationDone_within (done : List (Nat × Option Nat)) (s : State) :
    Within (some [4645,4646,4649]) [.fld] s (pseClassificationDone done s) := by
  unfold pseClassificationDone
  refine .foldl (fun t1 x2 => ?_) _ ?_
  · split
    · refine Within.after (pseClassified_within ..) rfl rfl ?_
      exact .refl _ _ _
    · exact .refl _ _ _
  · exact .refl _ _ _

theorem pseDisconnect_within (p : Nat) (ma : Nat) (s : State) : Within (some [4645,4646,4647,4649]) [.fld] s (pseDisconnect p ma s) := by
  unfold pseDisconnect
  refine .ite ?_ ?_
  · refine Within.after (pseRevisit_within ..) rfl rfl ?_
    refine Within.after (pseRestart_within ..) rfl rfl ?_
    refine Within.after (notePseCurrent_within ..) rfl rfl ?_
    exact .refl _ _ _
  · exact .refl _ _ _

theorem pseFault_within (s : State) (p : Nat) (tag : Nat) : Within (some [4645,4646,4649,4652,5892]) [.fld,
    .recd] s (pseFault s p tag) := by
  unfold pseFault
  extract_lets x1 x2 x3 x4
  clear_value x1
  clear_value x2
  clear_value x4
  refine Within.have_ (x := x3) ?_ fun hx3 => ?_
  · unfold x3
    refine .count _ _ _ rfl ?_
    refine .wr _ _ _ rfl ?_
    exact .refl _ _ _
  clear_value x3
  refine Within.after (pseRevisit_within ..) rfl rfl ?_
  refine Within.after (fieldEvent_within ..) rfl rfl ?_
  refine .fld _ rfl ?_
  assumption

theorem pseFaultRetry_within (p : Nat) (s : State) : Within (some [4645,4646]) [] s (pseFaultRetry p s) := by
  unfold pseFaultRetry
  refine .ite ?_ ?_
  · refine Within.after (pseRestart_within ..) rfl rfl ?_
    exact .refl _ _ _
  · exact .refl _ _ _

theorem pseInputOverBudget_within (measured : List (Nat × Nat)) (s : State) :
    Within (some [4645,4647,4648,4649,4650]) [] s (pseInputOverBudget measured s) := by
  unfold pseInputOverBudget
  extract_lets x1 x2
  refine Within.have_ (x := x2) ?_ fun hx2 => ?_
  · unfold x2
    refine Within.after (pseShedUntil_within ..) rfl rfl ?_
    refine Within.after (notePse_within ..) rfl rfl ?_
    exact .refl _ _ _
  clear_value x2
  refine Within.after (pseNoteAlloc_within ..) rfl rfl ?_
  refine .wr _ _ _ rfl ?_
  assumption

theorem pseOvercurrentTrip_within (p : Nat) (ma : Nat) (s : State) :
    Within (some [4645,4646,4647,4649,4652,5892]) [.fld, .recd] s (pseOvercurrentTrip p ma s) := by
  unfold pseOvercurrentTrip
  refine .ite ?_ ?_
  · refine Within.after (pseFault_within ..) rfl rfl ?_
    refine Within.after (notePseCurrent_within ..) rfl rfl ?_
    exact .refl _ _ _
  · exact .refl _ _ _

theorem pseOverload_within (p : Nat) (ma : Nat) (s : State) :
    Within (some [4645,4646,4647,4649,4652,5892]) [.fld, .recd] s (pseOverload p ma s) := by
  unfold pseOverload
  refine .ite ?_ ?_
  · refine Within.after (pseFault_within ..) rfl rfl ?_
    refine Within.after (notePseCurrent_within ..) rfl rfl ?_
    exact .refl _ _ _
  · exact .refl _ _ _

theorem psePowerGoodCheck_within (p : Nat) (portMv : Nat) (sourceMv : Nat) (s : State) :
    Within (some [4611,4645,4646,4648,4649,4652,5892]) [.fld, .recd] s (psePowerGoodCheck p portMv sourceMv s) := by
  unfold psePowerGoodCheck
  extract_lets x1 x2
  refine Within.have_ (x := x1) ?_ fun hx1 => ?_
  · unfold x1
    refine .wr _ _ _ rfl ?_
    exact .refl _ _ _
  clear_value x1
  refine Within.have_ (x := x2) ?_ fun hx2 => ?_
  · unfold x2
    refine .wr _ _ _ rfl ?_
    assumption
  clear_value x2
  refine .ite ?_ ?_
  · refine .ite ?_ ?_
    · refine Within.after (pseFault_within ..) rfl rfl ?_
      assumption
    · refine .ite ?_ ?_
      · refine .wr _ _ _ rfl ?_
        assumption
      · assumption
  · exact .refl _ _ _

theorem pseStart_within (p : Nat) (foreignMv : Nat) (sigOk : Bool) (s : State) :
    Within (some [4645]) [.fld] s (pseStart p foreignMv sigOk s) := by
  unfold pseStart
  refine Within.after (pseDetect_within ..) rfl rfl ?_
  exact .refl _ _ _

theorem pseUndervoltage_within (p : Nat) (portMv : Nat) (sourceMv : Nat) (s : State) :
    Within (some [4645,4646,4648,4649,4652,5892]) [.fld, .recd] s (pseUndervoltage p portMv sourceMv s) := by
  unfold pseUndervoltage
  refine .ite ?_ ?_
  · refine Within.after (pseFault_within ..) rfl rfl ?_
    refine .wr _ _ _ rfl ?_
    exact .refl _ _ _
  · exact .refl _ _ _

theorem rs485BusFault_within (p : Nat) (s : State) : Within (some [4708,5892]) [.fld, .recd] s (rs485BusFault p s) := by
  unfold rs485BusFault
  refine .ite ?_ ?_
  · refine Within.after (mbDone_within ..) rfl rfl ?_
    refine Within.after (fieldEvent_within ..) rfl rfl ?_
    refine .wr _ _ _ rfl ?_
    exact .refl _ _ _
  · exact .refl _ _ _

theorem rs485BusIdle_within (p : Nat) (s : State) : Within (some [4708]) [] s (rs485BusIdle p s) := by
  unfold rs485BusIdle
  refine .ite ?_ ?_
  · refine .wr _ _ _ rfl ?_
    exact .refl _ _ _
  · exact .refl _ _ _

theorem t1lLinkDown_within (p : Nat) (s : State) : Within (some [4611,4612,4613]) [] s (t1lLinkDown p s) := by
  unfold t1lLinkDown
  refine .ite ?_ ?_
  · refine Within.after (t1lDown_within ..) rfl rfl ?_
    exact .refl _ _ _
  · exact .refl _ _ _

theorem t1lLinkUp_within (p : Nat) (high : Bool) (snr : Nat) (s : State) : Within (some [4611,4612]) [] s (t1lLinkUp p high snr s) := by
  unfold t1lLinkUp
  extract_lets x1
  clear_value x1
  refine .ite ?_ ?_
  · refine .wr _ _ _ rfl ?_
    refine .wr _ _ _ rfl ?_
    exact .refl _ _ _
  · exact .refl _ _ _

theorem t1sBeaconRestart_within (seg : Nat) (s : State) : Within (some []) [.fld] s (t1sBeaconRestart seg s) := by
  unfold t1sBeaconRestart
  extract_lets x1
  clear_value x1
  refine .fld _ rfl ?_
  exact .refl _ _ _

theorem t1sRetry_within (s : State) (seg : Nat) : Within (some []) [.fld] s (t1sRetry s seg) := by
  unfold t1sRetry
  extract_lets x1
  clear_value x1
  split
  · exact .refl _ _ _
  · refine Within.after (putTx_within ..) rfl rfl ?_
    exact .refl _ _ _

theorem t1sCollision_within (seg : Nat) (own : Bool) (s : State) : Within (some [4678,5892]) [.fld, .recd] s (t1sCollision seg own s) := by
  unfold t1sCollision
  extract_lets x1
  refine Within.have_ (x := x1) ?_ fun hx1 => ?_
  · unfold x1
    refine Within.after (fieldEvent_within ..) rfl rfl ?_
    refine .count _ _ _ rfl ?_
    exact .refl _ _ _
  clear_value x1
  refine .ite ?_ ?_
  · refine .ite ?_ ?_
    · refine Within.after (t1sRetry_within ..) rfl rfl ?_
      assumption
    · assumption
  · exact .refl _ _ _

theorem t1sForeignBeacon_within (seg : Nat) (s : State) : Within (some [4677,4679,5892]) [.recd] s (t1sForeignBeacon seg s) := by
  unfold t1sForeignBeacon
  refine .ite ?_ ?_
  · refine Within.after (fieldEvent_within ..) rfl rfl ?_
    refine .wr _ _ _ rfl ?_
    refine .count _ _ _ rfl ?_
    exact .refl _ _ _
  · exact .refl _ _ _

theorem t1sForeignClear_within (seg : Nat) (s : State) : Within (some [4677]) [] s (t1sForeignClear seg s) := by
  unfold t1sForeignClear
  refine .ite ?_ ?_
  · refine .wr _ _ _ rfl ?_
    exact .refl _ _ _
  · exact .refl _ _ _

theorem t1sJabber_within (seg : Nat) (s : State) : Within (some [4680,5892]) [.recd] s (t1sJabber seg s) := by
  unfold t1sJabber
  refine .ite ?_ ?_
  · refine Within.after (fieldEvent_within ..) rfl rfl ?_
    refine .count _ _ _ rfl ?_
    exact .refl _ _ _
  · exact .refl _ _ _

theorem t1sMediumStuck_within (seg : Nat) (s : State) : Within (some [4677,5892]) [.fld, .recd] s (t1sMediumStuck seg s) := by
  unfold t1sMediumStuck
  extract_lets x1 x2
  clear_value x2
  refine Within.have_ (x := x1) ?_ fun hx1 => ?_
  · unfold x1
    refine Within.after (fieldEvent_within ..) rfl rfl ?_
    refine .wr _ _ _ rfl ?_
    exact .refl _ _ _
  clear_value x1
  refine .ite ?_ ?_
  · refine .fld _ rfl ?_
    assumption
  · exact .refl _ _ _

end Sys2Proof.Laws
end

