-- ==== Sys2Proof/Laws/FrameLocalBus.lean ====
section
/-!
SUPPORT. What each operation of the local bus and the backplane serial port may change: entries by their indices and parts of the state by name. Meanings and claims
about frames cite these and unfold nothing.
-/
namespace Sys2Proof.Laws

open Sys2Proof Sys2Proof.Machine Sys2Proof.Safety

theorem bspSend1_within (s : State) : Within (some [6418]) [.lbs, .out] s (bspSend1 s) := by
  unfold bspSend1
  split
  · exact .refl _ _ _
  · extract_lets x1 x2 x3 x4
    clear_value x1
    clear_value x2
    clear_value x3
    clear_value x4
    refine .ite ?_ ?_
    · refine .ite ?_ ?_
      · refine .lbs _ rfl ?_
        exact .refl _ _ _
      · refine Within.after (State_send_within ..) rfl rfl ?_
        refine .wr _ _ _ rfl ?_
        refine .lbs _ rfl ?_
        exact .refl _ _ _
    · exact .refl _ _ _

theorem bspPump_within (s : State) : Within (some [6418]) [.lbs, .out] s (bspPump s) := by
  unfold bspPump
  refine .foldl (fun t1 x2 => ?_) _ ?_
  · refine Within.after (bspSend1_within ..) rfl rfl ?_
    exact .refl _ _ _
  · exact .refl _ _ _

theorem bspAligned_within (s : State) : Within (some [6417,6418]) [.lbs, .out] s (bspAligned s) := by
  unfold bspAligned
  refine .ite ?_ ?_
  · refine Within.after (bspPump_within ..) rfl rfl ?_
    refine .wr _ _ _ rfl ?_
    refine .wr _ _ _ rfl ?_
    refine .wr _ _ _ rfl ?_
    exact .refl _ _ _
  · exact .refl _ _ _

theorem bspResend_within (s : State) (fs : List BspFrame) : Within (some [6419]) [.out] s (bspResend s fs) := by
  unfold bspResend
  refine .foldl (fun t1 x2 => ?_) _ ?_
  · refine Within.after (State_send_within ..) rfl rfl ?_
    refine .count _ _ _ rfl ?_
    exact .refl _ _ _
  · exact .refl _ _ _

theorem bspCreditRx_within (seq : Nat) (code : Nat) (comp : Nat) (s : State) :
    Within (some [6418,6419,6420]) [.lbs, .out] s (bspCreditRx seq code comp s) := by
  unfold bspCreditRx
  extract_lets x1 x2 x3 x4
  clear_value x1
  clear_value x3
  clear_value x4
  refine Within.have_ (x := x2) ?_ fun hx2 => ?_
  · unfold x2
    refine .lbs _ rfl ?_
    exact .refl _ _ _
  clear_value x2
  refine .ite ?_ ?_
  · refine .ite ?_ ?_
    · refine .ite ?_ ?_
      · refine Within.after (bspPump_within ..) rfl rfl ?_
        refine .wr _ _ _ rfl ?_
        refine .lbs _ rfl ?_
        assumption
      · assumption
    · refine Within.after (bspResend_within ..) rfl rfl ?_
      refine .count _ _ _ rfl ?_
      assumption
  · exact .refl _ _ _

theorem bspCreditTimeout_within (s : State) : Within (some [6419]) [.lbs, .out] s (bspCreditTimeout s) := by
  unfold bspCreditTimeout
  extract_lets x1
  clear_value x1
  refine .ite ?_ ?_
  · refine Within.after (bspResend_within ..) rfl rfl ?_
    refine .lbs _ rfl ?_
    exact .refl _ _ _
  · exact .refl _ _ _

theorem bspReturn_within (s : State) (seq : Nat) (code : Nat) : Within (some [6418]) [.lbs, .out] s (bspReturn s seq code) := by
  unfold bspReturn
  extract_lets x1 x2
  clear_value x2
  refine Within.have_ (x := x1) ?_ fun hx1 => ?_
  · unfold x1
    refine .wr _ _ _ rfl ?_
    exact .refl _ _ _
  clear_value x1
  refine .ite ?_ ?_
  · refine Within.after (State_send_within ..) rfl rfl ?_
    exact .refl _ _ _
  · refine .lbs _ rfl ?_
    assumption

theorem bspDiscard_within (s : State) (seq : Nat) : Within (some [6418]) [.lbs, .out] s (bspDiscard s seq) := by
  unfold bspDiscard
  extract_lets x1 x2 x3
  clear_value x1
  clear_value x2
  clear_value x3
  refine Within.after (bspReturn_within ..) rfl rfl ?_
  refine .lbs _ rfl ?_
  exact .refl _ _ _

theorem bspDrop_within (s : State) (stream : Nat) : Within (some []) [.lbs] s (bspDrop s stream) := by
  unfold bspDrop
  extract_lets x1
  clear_value x1
  refine .lbs _ rfl ?_
  exact .refl _ _ _

theorem bspFail_within (s : State) : Within (some [4194,5921,9298]) [.lbs, .recd] s (bspFail s) := by
  have hk : ∀ k, admits (some [4194,5921,9298]) (bspOwner k) = true := fun k => by
    unfold bspOwner
    split
    · rfl
    · split <;> rfl
  unfold bspFail
  refine .lbs_recd _ _ rfl rfl ?_
  exact .foldl (fun t k => .ite (.wr _ _ _ (hk k) (.refl _ _ _)) (.refl _ _ _)) _ (.refl _ _ _)

theorem bspImage_within (s : State) (xfer : Nat) (off : Nat) (last : Bool) (payload : List Nat) :
    Within (some []) [.lbs] s (bspImage s xfer off last payload) := by
  unfold bspImage
  extract_lets x1 x2
  clear_value x1
  clear_value x2
  split
  · refine .lbs _ rfl ?_
    exact .refl _ _ _
  · refine .ite ?_ ?_
    · refine .lbs _ rfl ?_
      exact .refl _ _ _
    · refine .lbs _ rfl ?_
      exact .refl _ _ _

theorem bspTaken_within (bs : List Nat) (s : State) : Within (some [4230,6420]) [.lbs] s (bspTaken bs s) := by
  unfold bspTaken
  extract_lets x1
  clear_value x1
  refine .ite ?_ ?_
  · exact .refl _ _ _
  · refine .ite ?_ ?_
    · refine .count _ _ _ rfl ?_
      exact .refl _ _ _
    · refine .ite ?_ ?_
      · refine .count _ _ _ rfl ?_
        exact .refl _ _ _
      · refine Within.after (bspImage_within ..) rfl rfl ?_
        exact .refl _ _ _

theorem bspFrameRx_within (bs : List Nat) (s0 : State) : Within (some [4230,6418,6419,6420]) [.lbs, .out] s0 (bspFrameRx bs s0) := by
  unfold bspFrameRx
  extract_lets x1 x2 x3 x4 x5
  clear_value x1
  clear_value x2
  clear_value x4
  refine Within.have_ (x := x3) ?_ fun hx3 => ?_
  · unfold x3
    refine .ite ?_ ?_
    · refine .count _ _ _ rfl ?_
      exact .refl _ _ _
    · exact .refl _ _ _
  clear_value x3
  refine Within.have_ (x := x5) ?_ fun hx5 => ?_
  · unfold x5
    refine .lbs _ rfl ?_
    assumption
  clear_value x5
  refine .ite ?_ ?_
  · exact .refl _ _ _
  · refine .ite ?_ ?_
    · refine Within.after (bspDiscard_within ..) rfl rfl ?_
      refine .count _ _ _ rfl ?_
      assumption
    · refine .ite ?_ ?_
      · refine Within.after (bspDiscard_within ..) rfl rfl ?_
        assumption
      · refine Within.after (bspReturn_within ..) rfl rfl ?_
        refine Within.after (bspTaken_within ..) rfl rfl ?_
        assumption

theorem bspOff_within (s : State) : Within (some [4194,5921,6417,6418,9298]) [.lbs, .recd] s (bspOff s) := by
  unfold bspOff
  extract_lets x1 x2 x3
  clear_value x2
  refine Within.have_ (x := x1) ?_ fun hx1 => ?_
  · unfold x1
    refine Within.after (bspFail_within ..) rfl rfl ?_
    exact .refl _ _ _
  clear_value x1
  refine Within.have_ (x := x3) ?_ fun hx3 => ?_
  · unfold x3
    refine .lbs _ rfl ?_
    assumption
  clear_value x3
  refine .wr _ _ _ rfl ?_
  refine .wr _ _ _ rfl ?_
  refine .wr _ _ _ rfl ?_
  assumption

theorem bspResume_within (s : State) : Within (some [6418]) [.lbs, .out] s (bspResume s) := by
  unfold bspResume
  extract_lets x1 x2 x3
  clear_value x2
  refine Within.have_ (x := x1) ?_ fun hx1 => ?_
  · unfold x1
    refine .foldl (fun t4 x5 => ?_) _ ?_
    · refine Within.after (State_send_within ..) rfl rfl ?_
      exact .refl _ _ _
    · exact .refl _ _ _
  clear_value x1
  refine Within.have_ (x := x3) ?_ fun hx3 => ?_
  · unfold x3
    refine .lbs _ rfl ?_
    assumption
  clear_value x3
  refine .ite ?_ ?_
  · refine Within.after (bspPump_within ..) rfl rfl ?_
    refine .wr _ _ _ rfl ?_
    assumption
  · assumption

theorem bspRetrain_within (invalid : Nat) (s : State) : Within (some [4194,5921,6417,6418,9298]) [.lbs,
    .recd] s (bspRetrain invalid s) := by
  unfold bspRetrain
  extract_lets x1 x2 x3
  clear_value x3
  refine Within.have_ (x := x1) ?_ fun hx1 => ?_
  · unfold x1
    refine .wr _ _ _ rfl ?_
    refine .wr _ _ _ rfl ?_
    refine .wr _ _ _ rfl ?_
    exact .refl _ _ _
  clear_value x1
  refine Within.have_ (x := x2) ?_ fun hx2 => ?_
  · unfold x2
    refine .ite ?_ ?_
    · refine Within.after (bspFail_within ..) rfl rfl ?_
      assumption
    · assumption
  clear_value x2
  refine .ite ?_ ?_
  · refine .lbs _ rfl ?_
    assumption
  · exact .refl _ _ _

theorem bspStart_within (s : State) (stream : Nat) (bytes : List Nat) :
    Within (some [6418]) [.lbs, .nextXfer, .out] s (bspStart s stream bytes) := by
  unfold bspStart
  extract_lets x1 x2
  clear_value x1
  clear_value x2
  refine Within.after (bspPump_within ..) rfl rfl ?_
  refine .lbs_nextXfer _ _ rfl rfl ?_
  exact .refl _ _ _

theorem bspTrain_within (s : State) : Within (some [6417]) [] s (bspTrain s) := by
  unfold bspTrain
  refine .ite ?_ ?_
  · refine .wr _ _ _ rfl ?_
    exact .refl _ _ _
  · exact .refl _ _ _

theorem lbComplete_within (s : State) (reqid : Nat) (status : Nat) (seq : Nat) : Within (some []) [.lbs] s (lbComplete s reqid status
    seq) := by
  unfold lbComplete
  extract_lets x1 x2
  clear_value x1
  clear_value x2
  refine .ite ?_ ?_
  · refine .lbs _ rfl ?_
    exact .refl _ _ _
  · exact .refl _ _ _

theorem lbDrained_within (s : State) : Within (some []) [.lbs] s (lbDrained s) := by
  unfold lbDrained
  extract_lets x1 x2
  clear_value x1
  clear_value x2
  refine .lbs _ rfl ?_
  exact .refl _ _ _

theorem lbMapChanged_within (s : State) (w : Nat) : Within (some []) [.lbs] s (lbMapChanged s w) := by
  unfold lbMapChanged
  extract_lets x1 x2
  clear_value x1
  clear_value x2
  refine .lbs _ rfl ?_
  exact .refl _ _ _

theorem lbPending_within (s : State) (reqid : Nat) : Within (some []) [.lbs] s (lbPending s reqid) := by
  unfold lbPending
  extract_lets x1
  clear_value x1
  refine .lbs _ rfl ?_
  exact .refl _ _ _

theorem lbPostedWrite_within (addr : Nat) (v : Nat) (meets : WriteFacts) (s : State) :
    Within (some [6403]) [.lbs] s (lbPostedWrite addr v meets s) := by
  unfold lbPostedWrite
  extract_lets x1
  clear_value x1
  refine .ite ?_ ?_
  · exact .refl _ _ _
  · refine .ite ?_ ?_
    · refine .count _ _ _ rfl ?_
      exact .refl _ _ _
    · refine Within.after (lbDrained_within ..) rfl rfl ?_
      refine .lbs _ rfl ?_
      exact .refl _ _ _

theorem lbsApply_within {t : State} (s : State) (i : Nat) (e : Nat) (v : Nat) (h : lbsApply s i e v = some t) :
    Within none [.lbs, .recd] s t := by
  unfold lbsApply at h
  dsimp only at h
  split at h
  · cases h
    refine .ite ?_ ?_
    · exact .refl _ _ _
    · refine Within.after (lbMapChanged_within ..) rfl rfl ?_
      refine .wr _ _ _ rfl ?_
      exact .refl _ _ _
  · split at h
    · cases h
      refine .ite ?_ ?_
      · exact .refl _ _ _
      · refine .ite ?_ ?_
        · refine .ite ?_ ?_
          · refine .wr _ _ _ rfl ?_
            refine .wr _ _ _ rfl ?_
            exact .refl _ _ _
          · refine .wr _ _ _ rfl ?_
            exact .refl _ _ _
        · refine Within.after (bspOff_within ..) rfl rfl ?_
          refine .wr _ _ _ rfl ?_
          exact .refl _ _ _
    · cases h

theorem lbsCommitted_within (s : State) (touched : List (Nat × Nat)) : Within (some []) [.lbs] s (lbsCommitted s touched) := by
  unfold lbsCommitted
  extract_lets x1 x2
  clear_value x1
  clear_value x2
  refine .ite ?_ ?_
  · refine .lbs _ rfl ?_
    exact .refl _ _ _
  · exact .refl _ _ _

theorem lbsOff_within (s : State) : Within (some [4194,5921,6417,6418,9298]) [.lbs, .recd] s (lbsOff s) := by
  unfold lbsOff
  extract_lets x1
  refine Within.have_ (x := x1) ?_ fun hx1 => ?_
  · unfold x1
    refine Within.after (bspOff_within ..) rfl rfl ?_
    exact .refl _ _ _
  clear_value x1
  refine .lbs _ rfl ?_
  assumption

theorem lbwDoneRead_within (s : State) : Within (some []) [.lbs, .out] s (lbwDoneRead s) := by
  unfold lbwDoneRead
  extract_lets x1
  clear_value x1
  refine .ite ?_ ?_
  · refine Within.after (State_send_within ..) rfl rfl ?_
    refine .lbs _ rfl ?_
    exact .refl _ _ _
  · exact .refl _ _ _

theorem trendTransferComplete_within (failed : Bool) (s : State) : Within (some [4194]) [.lbs] s (trendTransferComplete failed s) := by
  unfold trendTransferComplete
  refine .ite ?_ ?_
  · refine Within.after (bspDrop_within ..) rfl rfl ?_
    refine .wr _ _ _ rfl ?_
    exact .refl _ _ _
  · exact .refl _ _ _

end Sys2Proof.Laws
end

