-- ==== Sys2Proof/Laws/FrameTurnover.lean ====
section
/-!
SUPPORT. What each operation of the turnover may change: entries by their indices and parts of the state by name. Meanings and claims
about frames cite these and unfold nothing.
-/
namespace Sys2Proof.Laws

open Sys2Proof Sys2Proof.Machine Sys2Proof.Safety

theorem putBank_within (s : State) (b : Nat) (x : TurnBank) : Within (some []) [.turn] s (putBank s b x) := by
  unfold putBank
  extract_lets x1
  clear_value x1
  refine .turn _ rfl ?_
  exact .refl _ _ _

theorem abandonStep_within (s : State) (b : Nat) (j : Nat) : Within (some [8451]) [.turn] s (abandonStep s b j) := by
  unfold abandonStep
  extract_lets x1 x2 x3 x4
  clear_value x1
  clear_value x2
  clear_value x4
  refine Within.have_ (x := x3) ?_ fun hx3 => ?_
  · unfold x3
    refine Within.after (putBank_within ..) rfl rfl ?_
    refine .wr _ _ _ rfl ?_
    exact .refl _ _ _
  clear_value x3
  refine .ite ?_ ?_
  · refine .ite ?_ ?_
    · refine .turn _ rfl ?_
      assumption
    · assumption
  · refine .ite ?_ ?_
    · refine Within.after (putBank_within ..) rfl rfl ?_
      exact .refl _ _ _
    · exact .refl _ _ _

theorem assignSpare_within (s : State) (b : Nat) (j : Nat) : Within (some [8452,8453]) [] s (assignSpare s b j) := by
  unfold assignSpare
  extract_lets x1 x2
  clear_value x1
  clear_value x2
  refine .wr _ _ _ rfl ?_
  refine .wr _ _ _ rfl ?_
  exact .refl _ _ _

theorem startStep_within (s : State) (b : Nat) : Within (some [8451]) [.turn] s (startStep s b) := by
  unfold startStep
  refine .ite ?_ ?_
  · refine Within.after (putBank_within ..) rfl rfl ?_
    refine .wr _ _ _ rfl ?_
    exact .refl _ _ _
  · exact .refl _ _ _

theorem bankRest_within (s : State) (b : Nat) : Within (some [8451]) [.turn] s (bankRest s b) := by
  unfold bankRest
  extract_lets x1
  refine Within.have_ (x := x1) ?_ fun hx1 => ?_
  · unfold x1
    refine Within.after (putBank_within ..) rfl rfl ?_
    refine .wr _ _ _ rfl ?_
    exact .refl _ _ _
  clear_value x1
  refine .ite ?_ ?_
  · refine Within.after (startStep_within ..) rfl rfl ?_
    assumption
  · assumption

theorem calEvent_within (s : State) (tag : Nat) (conv : Nat) (sev : Nat) (set : Bool) (payload : Nat) :
    Within (some [5892]) [.recd] s (calEvent s tag conv sev set payload) := by
  unfold calEvent
  refine Within.after (blockEvent_within ..) rfl rfl ?_
  exact .refl _ _ _

theorem recordClass_within (s : State) (b : Nat) (k : Nat) (cls : Nat) (r : CalResult) (result : Nat) (delay : Nat) (passed : Bool) :
    Within (some [5892,8465,8466,8467,8468,8469,8470,8471]) [.recd] s (recordClass s b k cls r result delay passed) := by
  unfold recordClass
  extract_lets x1 x2 x3 x4
  clear_value x1
  clear_value x2
  refine Within.have_ (x := x3) ?_ fun hx3 => ?_
  · unfold x3
    refine .ite ?_ ?_
    · refine .wr _ _ _ rfl ?_
      refine .wr _ _ _ rfl ?_
      refine .wrQ _ _ _ rfl ?_
      refine .wrQ _ _ _ rfl ?_
      refine .wrQ _ _ _ rfl ?_
      exact .refl _ _ _
    · exact .refl _ _ _
  clear_value x3
  refine Within.have_ (x := x4) ?_ fun hx4 => ?_
  · unfold x4
    refine .wr _ _ _ rfl ?_
    refine .ite ?_ ?_
    · assumption
    · refine .wr _ _ _ rfl ?_
      assumption
  clear_value x4
  refine Within.after (calEvent_within ..) rfl rfl ?_
  assumption

theorem recalibrate_within (s : State) (b : Nat) (k : Nat) :
    Within (some [5892,8465,8466,8467,8468,8469,8470,8471]) [.free, .recd] s (recalibrate s b k) := by
  unfold recalibrate
  extract_lets x1
  clear_value x1
  refine Within.after (State_tookFree_within ..) rfl rfl ?_
  refine .foldl (fun t2 x3 => ?_) _ ?_
  · refine Within.after (recordClass_within ..) rfl rfl ?_
    exact .refl _ _ _
  · exact .refl _ _ _

theorem bankRetested_within (s : State) (b : Nat) :
    Within (some [5892,8453,8465,8466,8467,8468,8469,8470,8471]) [.free, .recd, .turn] s (bankRetested s b) := by
  unfold bankRetested
  extract_lets x1 x2 x3
  clear_value x3
  refine Within.have_ (x := x1) ?_ fun hx1 => ?_
  · unfold x1
    refine .foldl (fun t4 x5 => ?_) _ ?_
    · refine .ite ?_ ?_
      · refine Within.after (recalibrate_within ..) rfl rfl ?_
        exact .refl _ _ _
      · exact .refl _ _ _
    · exact .refl _ _ _
  clear_value x1
  refine Within.have_ (x := x2) ?_ fun hx2 => ?_
  · unfold x2
    refine .ite ?_ ?_
    · split
      · refine Within.after (recalibrate_within ..) rfl rfl ?_
        refine .wr _ _ _ rfl ?_
        assumption
      · assumption
    · assumption
  clear_value x2
  refine .turn _ rfl ?_
  assumption

theorem calApply_within {t : State} (s : State) (i : Nat) (e : Nat) (v : Nat) (h : calApply s i e v = some t) : Within none [.turn] s t
    := by
  unfold calApply at h
  dsimp only at h
  split at h
  · cases h
    refine Within.after (startStep_within ..) rfl rfl ?_
    exact .refl _ _ _
  · split at h
    · cases h
      refine .ite ?_ ?_
      · refine .wr _ _ _ rfl ?_
        refine .wr _ _ _ rfl ?_
        exact .refl _ _ _
      · refine .wr _ _ _ rfl ?_
        exact .refl _ _ _
    · cases h

theorem calStore_within (s : State) (b : Nat) (k : Nat) : Within (some []) [.mer] s (calStore s b k) := by
  unfold calStore
  extract_lets x1
  clear_value x1
  refine .mer _ rfl ?_
  exact .refl _ _ _

theorem checkRepeat_within (b : Nat) (s : State) : Within (some []) [.turn] s (checkRepeat b s) := by
  unfold checkRepeat
  extract_lets x1
  clear_value x1
  refine .ite ?_ ?_
  · refine Within.after (putBank_within ..) rfl rfl ?_
    exact .refl _ _ _
  · exact .refl _ _ _

theorem converterFailed_within (s : State) (b : Nat) (k : Nat) :
    Within (some [4160,4163,5892,8451,8453]) [.mode, .net, .recd, .sys, .turn] s (converterFailed s b k) := by
  unfold converterFailed
  refine Within.after (putBank_within ..) rfl rfl ?_
  refine Within.after (raiseFault_within ..) rfl rfl ?_
  refine .wr _ _ _ rfl ?_
  refine .wr _ _ _ rfl ?_
  exact .refl _ _ _

theorem crossFadeEnd_within (b : Nat) (s : State) : Within (some [8451,8452,8453,8454]) [.turn] s (crossFadeEnd b s) := by
  unfold crossFadeEnd
  extract_lets x1 x2 x3 x4
  clear_value x1
  clear_value x2
  clear_value x4
  refine Within.have_ (x := x3) ?_ fun hx3 => ?_
  · unfold x3
    refine .wr _ _ _ rfl ?_
    refine Within.after (assignSpare_within ..) rfl rfl ?_
    exact .refl _ _ _
  clear_value x3
  refine .ite ?_ ?_
  · refine Within.after (putBank_within ..) rfl rfl ?_
    refine .wr _ _ _ rfl ?_
    assumption
  · exact .refl _ _ _

theorem handOver_within (s : State) (b : Nat) (j : Nat) (h : Handover) : Within (some []) [.turn] s (handOver s b j h) := by
  unfold handOver
  extract_lets x1
  clear_value x1
  refine .turn _ rfl ?_
  exact .refl _ _ _

theorem crossFadeStart_within (b : Nat) (cause : FadeCause) (first : Nat) (s : State) :
    Within (some [8451]) [.turn] s (crossFadeStart b cause first s) := by
  unfold crossFadeStart
  extract_lets x1 x2 x3
  clear_value x1
  clear_value x2
  refine Within.have_ (x := x3) ?_ fun hx3 => ?_
  · unfold x3
    refine Within.after (putBank_within ..) rfl rfl ?_
    refine .wr _ _ _ rfl ?_
    exact .refl _ _ _
  clear_value x3
  refine .ite ?_ ?_
  · refine .ite ?_ ?_
    · assumption
    · refine Within.after (handOver_within ..) rfl rfl ?_
      assumption
  · exact .refl _ _ _

theorem openGap_within (s : State) (b : Nat) (j : Nat) (first : Nat) : Within (some []) [.turn] s (openGap s b j first) := by
  unfold openGap
  extract_lets x1
  clear_value x1
  refine .ite ?_ ?_
  · refine .turn _ rfl ?_
    exact .refl _ _ _
  · refine Within.after (handOver_within ..) rfl rfl ?_
    exact .refl _ _ _

theorem liveConverterFailure_within (b : Nat) (j : Nat) (gapUs : Nat) (first : Nat) (s : State) :
    Within (some [4160,4163,5892,8451,8452,8453]) [.mode, .net, .recd, .sys, .turn] s (liveConverterFailure b j gapUs first s) := by
  unfold liveConverterFailure
  extract_lets x1 x2 x3
  clear_value x1
  clear_value x3
  refine Within.have_ (x := x2) ?_ fun hx2 => ?_
  · unfold x2
    refine Within.after (calEvent_within ..) rfl rfl ?_
    exact .refl _ _ _
  clear_value x2
  refine .ite ?_ ?_
  · refine .ite ?_ ?_
    · refine Within.after (raiseFault_within ..) rfl rfl ?_
      refine .turn _ rfl ?_
      assumption
    · refine Within.after (converterFailed_within ..) rfl rfl ?_
      refine Within.after (assignSpare_within ..) rfl rfl ?_
      refine Within.after (openGap_within ..) rfl rfl ?_
      assumption
  · exact .refl _ _ _

theorem recordCalibration_within (s : State) (b : Nat) (k : Nat) (classes : List CalClass) (delay : Int) (released : Bool) :
    Within (some [5892,8465,8466,8467,8468,8469,8470,8471]) [.mer, .recd] s (recordCalibration s b k classes delay released).1 := by
  unfold recordCalibration
  extract_lets x1 x2 x3 x4 x5 x6
  clear_value x1
  clear_value x2
  clear_value x3
  clear_value x4
  clear_value x5
  refine Within.have_ (x := x6) ?_ fun hx6 => ?_
  · unfold x6
    refine .foldl (fun t7 x8 => ?_) _ ?_
    · refine Within.after (recordClass_within ..) rfl rfl ?_
      exact .refl _ _ _
    · exact .refl _ _ _
  clear_value x6
  dsimp only
  refine .ite ?_ ?_
  · refine Within.after (calStore_within ..) rfl rfl ?_
    assumption
  · assumption

theorem sequencerStop_within (s : State) : Within (some [4160,4163,5892,8451]) [.mode, .net, .recd, .sys, .turn] s (sequencerStop s) := by
  unfold sequencerStop
  extract_lets x1 x2
  clear_value x2
  refine Within.have_ (x := x1) ?_ fun hx1 => ?_
  · unfold x1
    refine .foldl (fun t3 x4 => ?_) _ ?_
    · refine .ite ?_ ?_
      · refine Within.after (putBank_within ..) rfl rfl ?_
        refine .wr _ _ _ rfl ?_
        exact .refl _ _ _
      · exact .refl _ _ _
    · exact .refl _ _ _
  clear_value x1
  refine Within.after (raiseFault_within ..) rfl rfl ?_
  refine .turn _ rfl ?_
  assumption

theorem referenceCompare_within (vref : Int) (iref : Int) (s : State) :
    Within (some [4160,4163,5892,8451,8460]) [.mode, .net, .recd, .sys, .turn] s (referenceCompare vref iref s) := by
  unfold referenceCompare
  extract_lets x1 x2 x3 x4 x5
  clear_value x3
  refine Within.have_ (x := x4) ?_ fun hx4 => ?_
  · unfold x4
    refine .turn _ rfl ?_
    exact .refl _ _ _
  clear_value x4
  refine .ite ?_ ?_
  · refine .ite ?_ ?_
    · refine Within.after (sequencerStop_within ..) rfl rfl ?_
      refine .wr _ _ _ rfl ?_
      assumption
    · assumption
  · exact .refl _ _ _

theorem releasedCalibrationDone_within (b : Nat) (classes : List CalClass) (delay : Int) (s : State) :
    Within (some [4160,4163,5892,8451,8453,8456,8465,8466,8467,8468,8469,8470,8471]) [.mer, .mode, .net, .recd, .sys,
        .turn] s (releasedCalibrationDone b classes delay s) := by
  unfold releasedCalibrationDone
  extract_lets x1 x2
  clear_value x1
  refine Within.have_ (x := x2.1) ?_ fun hx2 => ?_
  · unfold x2
    refine Within.after (recordCalibration_within ..) rfl rfl ?_
    exact .refl _ _ _
  clear_value x2
  refine .ite ?_ ?_
  · refine .ite ?_ ?_
    · refine Within.after (bankRest_within ..) rfl rfl ?_
      refine .count _ _ _ rfl ?_
      assumption
    · refine Within.after (converterFailed_within ..) rfl rfl ?_
      assumption
  · exact .refl _ _ _

theorem spareCalibrationDone_within (b : Nat) (classes : List CalClass) (delay : Int) (s : State) :
    Within (some [4160,4163,5892,8451,8453,8465,8466,8467,8468,8469,8470,8471]) [.mer, .mode, .net, .recd, .sys,
        .turn] s (spareCalibrationDone b classes delay s) := by
  unfold spareCalibrationDone
  extract_lets x1 x2 x3
  clear_value x1
  clear_value x3
  refine Within.have_ (x := x2.1) ?_ fun hx2 => ?_
  · unfold x2
    refine Within.after (recordCalibration_within ..) rfl rfl ?_
    exact .refl _ _ _
  clear_value x2
  refine .ite ?_ ?_
  · refine .ite ?_ ?_
    · refine Within.after (putBank_within ..) rfl rfl ?_
      refine .wr _ _ _ rfl ?_
      assumption
    · refine .ite ?_ ?_
      · refine Within.after (converterFailed_within ..) rfl rfl ?_
        assumption
      · refine Within.after (putBank_within ..) rfl rfl ?_
        assumption
  · exact .refl _ _ _

theorem stepAgain_within (s : State) (b : Nat) (j : Nat) : Within (some []) [.turn] s (stepAgain s b j) := by
  unfold stepAgain
  extract_lets x1
  clear_value x1
  refine .ite ?_ ?_
  · refine Within.after (putBank_within ..) rfl rfl ?_
    exact .refl _ _ _
  · exact .refl _ _ _

theorem turnoverCheckEnd_within (b : Nat) (diff : Nat) (overRange : Bool) (s : State) :
    Within (some [5892,8451,8457,8458,8459]) [.recd, .turn] s (turnoverCheckEnd b diff overRange s) := by
  unfold turnoverCheckEnd
  extract_lets x1 x2 x3
  clear_value x1
  refine Within.have_ (x := x2) ?_ fun hx2 => ?_
  · unfold x2
    refine .wr _ _ _ rfl ?_
    exact .refl _ _ _
  clear_value x2
  refine Within.have_ (x := x3) ?_ fun hx3 => ?_
  · unfold x3
    refine Within.after (calEvent_within ..) rfl rfl ?_
    refine .count _ _ _ rfl ?_
    assumption
  clear_value x3
  refine .ite ?_ ?_
  · refine .ite ?_ ?_
    · refine .ite ?_ ?_
      · refine Within.after (bankRest_within ..) rfl rfl ?_
        refine .count _ _ _ rfl ?_
        exact .refl _ _ _
      · refine Within.after (putBank_within ..) rfl rfl ?_
        exact .refl _ _ _
    · refine .ite ?_ ?_
      · refine .wr _ _ _ rfl ?_
        assumption
      · refine Within.after (putBank_within ..) rfl rfl ?_
        refine .wr _ _ _ rfl ?_
        assumption
  · exact .refl _ _ _

theorem turnoverRetested_within (s : State) :
    Within (some [5892,8451,8453,8460,8465,8466,8467,8468,8469,8470,8471]) [.free, .recd, .turn] s (turnoverRetested s) := by
  unfold turnoverRetested
  extract_lets x1 x2 x3
  clear_value x2
  refine Within.have_ (x := x1) ?_ fun hx1 => ?_
  · unfold x1
    refine .wr _ _ _ rfl ?_
    exact .refl _ _ _
  clear_value x1
  refine Within.have_ (x := x3) ?_ fun hx3 => ?_
  · unfold x3
    refine .turn _ rfl ?_
    assumption
  clear_value x3
  refine .foldl (fun t4 x5 => ?_) _ ?_
  · extract_lets x6
    refine Within.have_ (x := x6) ?_ fun hx6 => ?_
    · unfold x6
      refine Within.after (bankRetested_within ..) rfl rfl ?_
      exact .refl _ _ _
    clear_value x6
    refine .ite ?_ ?_
    · exact .refl _ _ _
    · refine .ite ?_ ?_
      · refine Within.after (bankRest_within ..) rfl rfl ?_
        assumption
      · assumption
  · assumption

theorem turnoverStart_within (s : State) : Within (some [8451]) [.turn] s (turnoverStart s) := by
  unfold turnoverStart
  refine .foldl (fun t1 x2 => ?_) _ ?_
  · refine .ite ?_ ?_
    · refine Within.after (bankRest_within ..) rfl rfl ?_
      exact .refl _ _ _
    · exact .refl _ _ _
  · exact .refl _ _ _

theorem turnoverStepDue_within (b : Nat) (s : State) : Within (some [8451]) [.turn] s (turnoverStepDue b s) := by
  unfold turnoverStepDue
  extract_lets x1 x2
  clear_value x1
  clear_value x2
  refine .ite ?_ ?_
  · exact .refl _ _ _
  · refine .ite ?_ ?_
    · refine Within.after (putBank_within ..) rfl rfl ?_
      exact .refl _ _ _
    · refine Within.after (startStep_within ..) rfl rfl ?_
      exact .refl _ _ _

theorem turnoverTick_within (s : State) : Within (some [8451]) [.turn] s (turnoverTick s) := by
  unfold turnoverTick
  refine .foldl (fun t1 x2 => ?_) _ ?_
  · split
    · refine .ite ?_ ?_
      · refine Within.after (putBank_within ..) rfl rfl ?_
        refine .wr _ _ _ rfl ?_
        exact .refl _ _ _
      · exact .refl _ _ _
    · exact .refl _ _ _
  · exact .refl _ _ _

end Sys2Proof.Laws
end

