-- ==== Sys2Proof/Laws/FrameAnalogue.lean ====
section
/-!
SUPPORT. What each operation of the analogue channels may change: entries by their indices and parts of the state by name. Meanings and claims
about frames cite these and unfold nothing.
-/
namespace Sys2Proof.Laws

open Sys2Proof Sys2Proof.Machine Sys2Proof.Safety

theorem anaDrive_within (s : State) (c : Nat) : Within (some []) [.ana] s (anaDrive s c) := by
  unfold anaDrive
  extract_lets x1 x2 x3 x4
  clear_value x1
  clear_value x2
  clear_value x3
  clear_value x4
  refine .ana _ rfl ?_
  exact .refl _ _ _

theorem anaApply_within {t : State} (s : State) (i : Nat) (e : Nat) (v : Nat) (h : anaApply s i e v = some t) : Within none [.ana] s t := by
  unfold anaApply at h
  dsimp only at h
  split at h
  · cases h
    refine Within.after (anaDrive_within ..) rfl rfl ?_
    refine .wr _ _ _ rfl ?_
    exact .refl _ _ _
  · split at h
    · cases h
      refine .ite ?_ ?_
      · exact .refl _ _ _
      · refine .ana _ rfl ?_
        refine .wr _ _ _ rfl ?_
        refine .wr _ _ _ rfl ?_
        exact .refl _ _ _
    · cases h

theorem anaPut_within (s : State) (c : Nat) (b : Nat) (on : Bool) (forceEvent : Bool) :
    Within (some [5892,8213,8214,8217]) [.recd] s (anaPut s c b on forceEvent) := by
  unfold anaPut
  extract_lets x1 x2 x3 x4
  clear_value x3
  refine Within.have_ (x := x1) ?_ fun hx1 => ?_
  · unfold x1
    refine .wrBit _ _ _ _ rfl ?_
    exact .refl _ _ _
  clear_value x1
  refine Within.have_ (x := x2) ?_ fun hx2 => ?_
  · unfold x2
    refine .ite ?_ ?_
    · refine .wr _ _ _ rfl ?_
      assumption
    · assumption
  clear_value x2
  refine Within.have_ (x := x4) ?_ fun hx4 => ?_
  · unfold x4
    refine .ite ?_ ?_
    · refine .count _ _ _ rfl ?_
      assumption
    · assumption
  clear_value x4
  refine .ite ?_ ?_
  · exact .refl _ _ _
  · refine .ite ?_ ?_
    · refine Within.after (blockEvent_within ..) rfl rfl ?_
      assumption
    · assumption

theorem anaSet_within (s : State) (c : Nat) (b : Nat) : Within (some [5892,8213,8214,8217]) [.recd] s (anaSet s c b) := by
  unfold anaSet
  extract_lets x1 x2
  refine Within.have_ (x := x1) ?_ fun hx1 => ?_
  · unfold x1
    refine Within.after (anaPut_within ..) rfl rfl ?_
    exact .refl _ _ _
  clear_value x1
  refine Within.have_ (x := x2) ?_ fun hx2 => ?_
  · unfold x2
    refine .ite ?_ ?_
    · refine .foldl (fun t3 x4 => ?_) _ ?_
      · refine Within.after (anaPut_within ..) rfl rfl ?_
        exact .refl _ _ _
      · assumption
    · refine .ite ?_ ?_
      · refine Within.after (anaPut_within ..) rfl rfl ?_
        assumption
      · assumption
  clear_value x2
  refine .ite ?_ ?_
  · exact .refl _ _ _
  · refine .ite ?_ ?_
    · exact .refl _ _ _
    · assumption

theorem anaApply1_within (s : State) (c : Nat) (k : Nat) (m : Frac) (limit : Bool) :
    Within (some [5892,8213,8214,8217]) [.recd] s (anaApply1 s c k m limit) := by
  unfold anaApply1
  split
  · refine Within.after (anaSet_within ..) rfl rfl ?_
    exact .refl _ _ _
  · refine Within.after (anaPut_within ..) rfl rfl ?_
    exact .refl _ _ _
  · exact .refl _ _ _

theorem anaConfigured_within (s : State) (c : Nat) : Within (some []) [.ana, .turn] s (anaConfigured s c) := by
  unfold anaConfigured
  extract_lets x1
  clear_value x1
  refine Within.after (stepAgain_within ..) rfl rfl ?_
  refine .ana _ rfl ?_
  exact .refl _ _ _

theorem hartState_within (s : State) (c : Nat) (st : Nat) : Within (some [8213,8230]) [] s (hartState s c st) := by
  unfold hartState
  refine .wrBit _ _ _ _ rfl ?_
  refine .wr _ _ _ rfl ?_
  exact .refl _ _ _

theorem underReconf_within (s : State) (c : Nat) : Within (some []) [.ana] s (underReconf s c) := by
  unfold underReconf
  extract_lets x1
  clear_value x1
  refine .ana _ rfl ?_
  exact .refl _ _ _

theorem anaReconfigure_within (old : State) (s : State) (c : Nat) :
    Within (some [5892,8208,8209,8210,8213,8214,8217,8230,8451]) [.ana, .recd, .turn] s (anaReconfigure old s c) := by
  unfold anaReconfigure
  extract_lets x1 x2 x3 x4 x5 x6
  clear_value x1
  refine Within.have_ (x := x2) ?_ fun hx2 => ?_
  · unfold x2
    refine .foldl (fun t7 x8 => ?_) _ ?_
    · refine Within.after (anaPut_within ..) rfl rfl ?_
      exact .refl _ _ _
    · exact .refl _ _ _
  clear_value x2
  refine Within.have_ (x := x3) ?_ fun hx3 => ?_
  · unfold x3
    refine .wr _ _ _ rfl ?_
    refine .wr _ _ _ rfl ?_
    refine .wrBit _ _ _ _ rfl ?_
    refine Within.after (underReconf_within ..) rfl rfl ?_
    assumption
  clear_value x3
  refine Within.have_ (x := x4) ?_ fun hx4 => ?_
  · unfold x4
    refine .ite ?_ ?_
    · refine .wr _ _ _ rfl ?_
      assumption
    · assumption
  clear_value x4
  refine Within.have_ (x := x5) ?_ fun hx5 => ?_
  · unfold x5
    refine .ite ?_ ?_
    · assumption
    · refine Within.after (hartState_within ..) rfl rfl ?_
      assumption
  clear_value x5
  refine Within.have_ (x := x6) ?_ fun hx6 => ?_
  · unfold x6
    refine Within.after (abandonStep_within ..) rfl rfl ?_
    assumption
  clear_value x6
  refine Within.after (anaDrive_within ..) rfl rfl ?_
  refine .ite ?_ ?_
  · refine Within.after (anaConfigured_within ..) rfl rfl ?_
    assumption
  · assumption

theorem anaCommitted_within (old : State) (s : State) (touched : List (Nat × Nat)) :
    Within (some [5892,8208,8209,8210,8213,8214,8217,8230,8451]) [.ana, .recd, .turn] s (anaCommitted old s touched) := by
  unfold anaCommitted
  refine .foldl (fun t1 x2 => ?_) _ ?_
  · refine .ite ?_ ?_
    · refine Within.after (anaReconfigure_within ..) rfl rfl ?_
      exact .refl _ _ _
    · refine Within.after (anaDrive_within ..) rfl rfl ?_
      exact .refl _ _ _
  · exact .refl _ _ _

theorem anaConditionChange_within (c : Nat) (k : Nat) (m : Nat) (limit : Bool) (s : State) :
    Within (some [5892,8213,8214,8217]) [.recd] s (anaConditionChange c k m limit s) := by
  unfold anaConditionChange
  refine .ite ?_ ?_
  · refine Within.after (anaApply1_within ..) rfl rfl ?_
    exact .refl _ _ _
  · exact .refl _ _ _

theorem anaDeliver_within (s : State) (c : Nat) (m : Nat) : Within (some [5892,8208,8209,8213,8214,8217]) [.recd] s (anaDeliver s c m) := by
  unfold anaDeliver
  extract_lets x1 x2
  clear_value x1
  refine Within.have_ (x := x2) ?_ fun hx2 => ?_
  · unfold x2
    refine .wr _ _ _ rfl ?_
    refine .wr _ _ _ rfl ?_
    exact .refl _ _ _
  clear_value x2
  refine Within.after (anaApply1_within ..) rfl rfl ?_
  refine Within.after (anaApply1_within ..) rfl rfl ?_
  assumption

theorem anaFromLoop_within (s : State) (slot : Nat) : Within (some []) [.ana] s (anaFromLoop s slot) := by
  unfold anaFromLoop
  refine .foldl (fun t1 x2 => ?_) _ ?_
  · refine .ite ?_ ?_
    · refine Within.after (anaDrive_within ..) rfl rfl ?_
      exact .refl _ _ _
    · exact .refl _ _ _
  · exact .refl _ _ _

theorem anaOff_within (s : State) : Within (some []) [.ana] s (anaOff s) := by
  unfold anaOff
  extract_lets x1
  clear_value x1
  refine .ana _ rfl ?_
  exact .refl _ _ _

theorem anaStart_within (s : State) : Within (some [8210,8213,8230]) [.ana] s (anaStart s) := by
  unfold anaStart
  refine .foldl (fun t1 x2 => ?_) _ ?_
  · extract_lets x3 x4
    refine Within.have_ (x := x3) ?_ fun hx3 => ?_
    · unfold x3
      refine .wr _ _ _ rfl ?_
      exact .refl _ _ _
    clear_value x3
    refine Within.have_ (x := x4) ?_ fun hx4 => ?_
    · unfold x4
      refine .ite ?_ ?_
      · refine Within.after (hartState_within ..) rfl rfl ?_
        assumption
      · assumption
    clear_value x4
    refine Within.after (anaDrive_within ..) rfl rfl ?_
    assumption
  · exact .refl _ _ _

theorem anaTake_within (s : State) (c : Nat) (live : Nat) (spare : Nat) :
    Within (some [5892,8208,8209,8213,8214,8217]) [.recd, .turn] s (anaTake s c live spare) := by
  unfold anaTake
  extract_lets x1 x2 x3
  clear_value x1
  clear_value x2
  clear_value x3
  split
  · refine Within.after (anaDeliver_within ..) rfl rfl ?_
    exact .refl _ _ _
  · extract_lets x4
    clear_value x4
    refine Within.after (anaDeliver_within ..) rfl rfl ?_
    refine Within.after (putBank_within ..) rfl rfl ?_
    exact .refl _ _ _

theorem closeGap_within (s : State) (c : Nat) : Within (some []) [.turn] s (closeGap s c) := by
  unfold closeGap
  extract_lets x1
  clear_value x1
  refine .turn _ rfl ?_
  exact .refl _ _ _

theorem analogueSample_within (c : Nat) (live : Nat) (spare : Nat) (term : Nat) (s : State) :
    Within (some [5892,8208,8209,8213,8214,8216,8217]) [.recd, .turn] s (analogueSample c live spare term s) := by
  unfold analogueSample
  extract_lets x1
  refine Within.have_ (x := x1) ?_ fun hx1 => ?_
  · unfold x1
    refine .wr _ _ _ rfl ?_
    exact .refl _ _ _
  clear_value x1
  refine .ite ?_ ?_
  · refine .ite ?_ ?_
    · assumption
    · refine .ite ?_ ?_
      · refine .wr _ _ _ rfl ?_
        refine .wr _ _ _ rfl ?_
        assumption
      · refine Within.after (anaTake_within ..) rfl rfl ?_
        refine Within.after (closeGap_within ..) rfl rfl ?_
        assumption
  · exact .refl _ _ _

theorem channelFirstSample_within (c : Nat) (m : Nat) (term : Nat) (s : State) :
    Within (some [5892,8208,8209,8213,8214,8216,8217]) [.ana, .recd, .turn] s (channelFirstSample c m term s) := by
  unfold channelFirstSample
  extract_lets x1
  refine Within.have_ (x := x1) ?_ fun hx1 => ?_
  · unfold x1
    refine Within.after (anaConfigured_within ..) rfl rfl ?_
    refine .wr _ _ _ rfl ?_
    refine .wrBit _ _ _ _ rfl ?_
    exact .refl _ _ _
  clear_value x1
  refine .ite ?_ ?_
  · refine Within.after (anaDrive_within ..) rfl rfl ?_
    refine Within.after (anaDeliver_within ..) rfl rfl ?_
    assumption
  · exact .refl _ _ _

theorem complianceClear_within (c : Nat) (m : Nat) (limit : Bool) (s : State) :
    Within (some [5892,8213,8214,8217]) [.recd] s (complianceClear c m limit s) := by
  unfold complianceClear
  extract_lets x1
  clear_value x1
  refine .ite ?_ ?_
  · refine Within.after (anaPut_within ..) rfl rfl ?_
    exact .refl _ _ _
  · exact .refl _ _ _

theorem complianceSet_within (c : Nat) (m : Nat) (limit : Bool) (s : State) :
    Within (some [5892,8213,8214,8217]) [.recd] s (complianceSet c m limit s) := by
  unfold complianceSet
  extract_lets x1 x2
  clear_value x1
  clear_value x2
  refine .ite ?_ ?_
  · refine Within.after (anaSet_within ..) rfl rfl ?_
    exact .refl _ _ _
  · exact .refl _ _ _

theorem hartOut_within (s : State) (c : Nat) (long : Bool) (cmd : Nat) (data : List Nat) :
    Within (some []) [.out] s (hartOut s c long cmd data) := by
  unfold hartOut
  refine Within.after (State_send_within ..) rfl rfl ?_
  exact .refl _ _ _

theorem hartSend_within (s : State) (c : Nat) (kind : Nat) : Within (some []) [.out] s (hartSend s c kind) := by
  unfold hartSend
  extract_lets x1 x2
  clear_value x1
  clear_value x2
  refine .ite ?_ ?_
  · refine Within.after (hartOut_within ..) rfl rfl ?_
    exact .refl _ _ _
  · refine .ite ?_ ?_
    · refine Within.after (hartOut_within ..) rfl rfl ?_
      exact .refl _ _ _
    · refine .ite ?_ ?_
      · refine Within.after (hartOut_within ..) rfl rfl ?_
        exact .refl _ _ _
      · refine Within.after (hartOut_within ..) rfl rfl ?_
        exact .refl _ _ _

theorem hartBegin_within (s : State) (c : Nat) (kind : Nat) : Within (some [8233,8234]) [.ana, .out] s (hartBegin s c kind) := by
  unfold hartBegin
  extract_lets x1 x2 x3 x4
  clear_value x1
  clear_value x2
  clear_value x4
  refine Within.have_ (x := x3) ?_ fun hx3 => ?_
  · unfold x3
    refine .ite ?_ ?_
    · refine .wr _ _ _ rfl ?_
      refine .wr _ _ _ rfl ?_
      exact .refl _ _ _
    · refine .ite ?_ ?_
      · refine .ana _ rfl ?_
        exact .refl _ _ _
      · exact .refl _ _ _
  clear_value x3
  refine Within.after (hartSend_within ..) rfl rfl ?_
  refine .ana _ rfl ?_
  assumption

theorem hartEnd_within (s : State) (m : Nat) : Within (some []) [.ana] s (hartEnd s m) := by
  unfold hartEnd
  extract_lets x1
  clear_value x1
  refine .ana _ rfl ?_
  exact .refl _ _ _

theorem hartResult_within (s : State) (t : HartTx) (st : Nat) : Within (some [8213,8230]) [] s (hartResult s t st) := by
  unfold hartResult
  refine .ite ?_ ?_
  · refine Within.after (hartState_within ..) rfl rfl ?_
    exact .refl _ _ _
  · exact .refl _ _ _

theorem hartFail_within (s : State) (m : Nat) (t : HartTx) (rspState : Nat) :
    Within (some [8213,8230,8233]) [.ana, .out] s (hartFail s m t rspState) := by
  unfold hartFail
  extract_lets x1 x2
  clear_value x1
  refine Within.have_ (x := x2) ?_ fun hx2 => ?_
  · unfold x2
    refine Within.after (hartResult_within ..) rfl rfl ?_
    refine Within.after (hartEnd_within ..) rfl rfl ?_
    exact .refl _ _ _
  clear_value x2
  refine .ite ?_ ?_
  · refine Within.after (hartSend_within ..) rfl rfl ?_
    refine .ana _ rfl ?_
    exact .refl _ _ _
  · refine .ite ?_ ?_
    · refine .wr _ _ _ rfl ?_
      assumption
    · assumption

theorem hartIdentify_within (c : Nat) (s : State) : Within (some [8233,8234]) [.ana, .out] s (hartIdentify c s) := by
  unfold hartIdentify
  refine .ite ?_ ?_
  · refine Within.after (hartBegin_within ..) rfl rfl ?_
    exact .refl _ _ _
  · exact .refl _ _ _

theorem hartIdentifyRetry_within (c : Nat) (s : State) : Within (some [8233,8234]) [.ana, .out] s (hartIdentifyRetry c s) := by
  unfold hartIdentifyRetry
  refine .ite ?_ ?_
  · refine Within.after (hartBegin_within ..) rfl rfl ?_
    exact .refl _ _ _
  · exact .refl _ _ _

theorem hartModemVisit_within (m : Nat) (s : State) : Within (some [8233,8234]) [.ana, .out] s (hartModemVisit m s) := by
  unfold hartModemVisit
  extract_lets x1 x2 x3
  clear_value x1
  clear_value x2
  clear_value x3
  refine .ite ?_ ?_
  · exact .refl _ _ _
  · split
    · exact .refl _ _ _
    · extract_lets x4 x5 x6 x7
      clear_value x5
      clear_value x6
      clear_value x7
      refine Within.have_ (x := x4) ?_ fun hx4 => ?_
      · unfold x4
        refine .ana _ rfl ?_
        exact .refl _ _ _
      clear_value x4
      refine .ite ?_ ?_
      · assumption
      · refine .ite ?_ ?_
        · refine Within.after (hartBegin_within ..) rfl rfl ?_
          assumption
        · refine .ite ?_ ?_
          · refine Within.after (hartBegin_within ..) rfl rfl ?_
            assumption
          · assumption

theorem hartOff_within (s : State) : Within (some [8213,8230]) [.ana] s (hartOff s) := by
  unfold hartOff
  extract_lets x1 x2
  clear_value x1
  refine Within.have_ (x := x2) ?_ fun hx2 => ?_
  · unfold x2
    refine .ana _ rfl ?_
    exact .refl _ _ _
  clear_value x2
  refine .foldl (fun t3 x4 => ?_) _ ?_
  · refine .ite ?_ ?_
    · exact .refl _ _ _
    · refine Within.after (hartState_within ..) rfl rfl ?_
      exact .refl _ _ _
  · assumption

theorem hartVars_within (s : State) (c : Nat) (r : HartReply) : Within (some [8227,8228]) [] s (hartVars s c r) := by
  unfold hartVars
  refine .foldl (fun t1 x2 => ?_) _ ?_
  · split
    · refine .wr _ _ _ rfl ?_
      refine .wr _ _ _ rfl ?_
      exact .refl _ _ _
    · exact .refl _ _ _
  · refine .wr _ _ _ rfl ?_
    exact .refl _ _ _

theorem hartReplyRx_within (m : Nat) (r : HartReply) (s : State) :
    Within (some [8213,8227,8228,8229,8230,8231,8233]) [.ana, .out] s (hartReplyRx m r s) := by
  unfold hartReplyRx
  split
  · exact .refl _ _ _
  · extract_lets x1
    refine Within.have_ (x := x1) ?_ fun hx1 => ?_
    · unfold x1
      refine .wr _ _ _ rfl ?_
      refine Within.after (hartResult_within ..) rfl rfl ?_
      refine Within.after (hartEnd_within ..) rfl rfl ?_
      exact .refl _ _ _
    clear_value x1
    refine .ite ?_ ?_
    · exact .refl _ _ _
    · refine .ite ?_ ?_
      · refine Within.after (hartFail_within ..) rfl rfl ?_
        exact .refl _ _ _
      · refine .ite ?_ ?_
        · refine .wr _ _ _ rfl ?_
          assumption
        · refine .ite ?_ ?_
          · refine Within.after (hartVars_within ..) rfl rfl ?_
            assumption
          · refine .wr _ _ _ rfl ?_
            assumption

theorem hartReplyTimeout_within (m : Nat) (s : State) : Within (some [8213,8230,8233]) [.ana, .out] s (hartReplyTimeout m s) := by
  unfold hartReplyTimeout
  split
  · exact .refl _ _ _
  · refine .ite ?_ ?_
    · refine Within.after (hartFail_within ..) rfl rfl ?_
      exact .refl _ _ _
    · exact .refl _ _ _

theorem putWires_within (s : State) (c : Nat) (w : Nat × Nat) : Within (some [5892,8213,8214,8215,8217]) [.ana,
    .recd] s (putWires s c w) := by
  unfold putWires
  extract_lets x1 x2
  clear_value x1
  refine Within.have_ (x := x2) ?_ fun hx2 => ?_
  · unfold x2
    refine .wr _ _ _ rfl ?_
    refine .ana _ rfl ?_
    exact .refl _ _ _
  clear_value x2
  refine Within.after (anaDrive_within ..) rfl rfl ?_
  refine .ite ?_ ?_
  · refine Within.after (anaPut_within ..) rfl rfl ?_
    assumption
  · refine Within.after (anaSet_within ..) rfl rfl ?_
    assumption

theorem miswireClear_within (c : Nat) (lp : Int) (io : Int) (s : State) :
    Within (some [5892,8213,8214,8215,8217]) [.ana, .recd] s (miswireClear c lp io s) := by
  unfold miswireClear
  extract_lets x1 x2
  clear_value x1
  clear_value x2
  refine .ite ?_ ?_
  · refine Within.after (putWires_within ..) rfl rfl ?_
    exact .refl _ _ _
  · exact .refl _ _ _

theorem miswireDetect_within (c : Nat) (lp : Int) (io : Int) (drive : Int) (readback : Int) (s : State) :
    Within (some [5892,8213,8214,8215,8217]) [.ana, .recd] s (miswireDetect c lp io drive readback s) := by
  unfold miswireDetect
  extract_lets x1 x2
  clear_value x1
  clear_value x2
  refine .ite ?_ ?_
  · refine Within.after (putWires_within ..) rfl rfl ?_
    exact .refl _ _ _
  · exact .refl _ _ _

end Sys2Proof.Laws
end

