-- ==== Sys2Proof/Laws/FrameEnergy.lean ====
section
/-!
SUPPORT. What each operation of metering may change: entries by their indices and parts of the state by name. Meanings and claims
about frames cite these and unfold nothing.
-/
namespace Sys2Proof.Laws

open Sys2Proof Sys2Proof.Machine Sys2Proof.Safety

theorem accAdd_within (s : State) (m : Nat) (q : Nat) (units : Nat) : Within (some [9232]) [.mer] s (accAdd s m q units).1 := by
  unfold accAdd
  extract_lets x1 x2 x3 x4 x5
  clear_value x1
  clear_value x2
  clear_value x3
  clear_value x5
  refine Within.have_ (x := x4) ?_ fun hx4 => ?_
  · unfold x4
    refine .wr _ _ _ rfl ?_
    exact .refl _ _ _
  clear_value x4
  dsimp only
  refine .mer _ rfl ?_
  assumption

theorem spill_within (s : State) (m : Nat) (inc : Nat → Nat) : Within (some [9268,9269]) [] s (spill s m inc) := by
  unfold spill
  refine .foldl (fun t1 x2 => ?_) _ ?_
  · extract_lets x3 x4 x5 x6
    clear_value x3
    clear_value x4
    clear_value x5
    clear_value x6
    refine .ite ?_ ?_
    · refine .wr _ _ _ rfl ?_
      refine .wr _ _ _ rfl ?_
      exact .refl _ _ _
    · exact .refl _ _ _
  · exact .refl _ _ _

theorem meterAdd_within (s : State) (m : Nat) (pq : Nat) (p : Nat) (qq : Nat) (q : Nat) :
    Within (some [9232,9268,9269]) [.mer] s (meterAdd s m pq p qq q) := by
  unfold meterAdd
  extract_lets x1 x2
  refine Within.have_ (x := x1.1) ?_ fun hx1 => ?_
  · unfold x1
    refine Within.after (accAdd_within ..) rfl rfl ?_
    exact .refl _ _ _
  clear_value x1
  refine Within.have_ (x := x2.1) ?_ fun hx2 => ?_
  · unfold x2
    refine Within.after (accAdd_within ..) rfl rfl ?_
    assumption
  clear_value x2
  refine Within.after (spill_within ..) rfl rfl ?_
  assumption

theorem accumulate_within (s : State) (meters : List Nat) (p : Frac) (q : Frac) :
    Within (some [9232,9268,9269]) [.mer] s (accumulate s meters p q) := by
  unfold accumulate
  refine .foldl (fun t1 x2 => ?_) _ ?_
  · refine Within.after (meterAdd_within ..) rfl rfl ?_
    exact .refl _ _ _
  · exact .refl _ _ _

theorem captureComplete_within (failed : Bool) (s : State) : Within (some [9298]) [.lbs] s (captureComplete failed s) := by
  unfold captureComplete
  refine .ite ?_ ?_
  · refine Within.after (bspDrop_within ..) rfl rfl ?_
    refine .wr _ _ _ rfl ?_
    exact .refl _ _ _
  · exact .refl _ _ _

theorem captureSend_within (s : State) (x : Capture) : Within (some [6418,9298,9299]) [.lbs, .nextXfer, .nrg,
    .out] s (captureSend s x) := by
  unfold captureSend
  extract_lets x1 x2 x3
  clear_value x1
  clear_value x3
  refine Within.have_ (x := x2) ?_ fun hx2 => ?_
  · unfold x2
    refine .nrg _ rfl ?_
    exact .refl _ _ _
  clear_value x2
  refine .ite ?_ ?_
  · refine Within.after (bspStart_within ..) rfl rfl ?_
    refine .wr _ _ _ rfl ?_
    assumption
  · refine .wr _ _ _ rfl ?_
    assumption

theorem captureStart_within (first : Nat) (s : State) : Within (some [9298]) [.nrg] s (captureStart first s) := by
  unfold captureStart
  extract_lets x1 x2
  clear_value x2
  refine Within.have_ (x := x1) ?_ fun hx1 => ?_
  · unfold x1
    refine .wr _ _ _ rfl ?_
    exact .refl _ _ _
  clear_value x1
  refine .ite ?_ ?_
  · refine .nrg _ rfl ?_
    assumption
  · exact .refl _ _ _

theorem captureTake_within (s : State) (c : Nat) (a : Nat) (n : Nat) (rs : List PhaseResult) :
    Within (some [6418,9298,9299]) [.lbs, .nextXfer, .nrg, .out] s (captureTake s c a n rs) := by
  unfold captureTake
  split
  · exact .refl _ _ _
  · extract_lets x1 x2
    clear_value x1
    clear_value x2
    refine .ite ?_ ?_
    · refine .nrg _ rfl ?_
      exact .refl _ _ _
    · refine .ite ?_ ?_
      · refine .ite ?_ ?_
        · refine Within.after (captureSend_within ..) rfl rfl ?_
          exact .refl _ _ _
        · refine .nrg _ rfl ?_
          exact .refl _ _ _
      · exact .refl _ _ _

theorem nrgEvent_within (s : State) (tag : Nat) (inst : Nat) (old : Nat) (new : Nat) :
    Within (some [5892]) [.recd] s (nrgEvent s tag inst old new) := by
  unfold nrgEvent
  refine Within.after (blockEvent_within ..) rfl rfl ?_
  exact .refl _ _ _

theorem clearLoss_within (s : State) (v : Nat) (spacing : Option Nat) : Within (some [5892,9256]) [.recd] s (clearLoss s v spacing) := by
  unfold clearLoss
  split
  · refine .ite ?_ ?_
    · refine Within.after (nrgEvent_within ..) rfl rfl ?_
      refine .wr _ _ _ rfl ?_
      exact .refl _ _ _
    · exact .refl _ _ _
  · exact .refl _ _ _

theorem closeInterval_within (s : State) (t : Nat) (metered : Bool) : Within (some [9235,9236]) [.mer] s (closeInterval s t metered) := by
  unfold closeInterval
  extract_lets x1
  refine Within.have_ (x := x1) ?_ fun hx1 => ?_
  · unfold x1
    refine .foldl (fun t2 x3 => ?_) _ ?_
    · extract_lets x4 x5 x6 x7
      clear_value x5
      clear_value x7
      refine Within.have_ (x := x6) ?_ fun hx6 => ?_
      · unfold x6
        refine .wr _ _ _ rfl ?_
        exact .refl _ _ _
      clear_value x6
      refine .ite ?_ ?_
      · exact .refl _ _ _
      · refine .mer _ rfl ?_
        assumption
    · exact .refl _ _ _
  clear_value x1
  refine .wr _ _ _ rfl ?_
  assumption

theorem closeMissed_within (s : State) (span : Nat) : Within (some [9235,9236]) [.mer] s (closeMissed s span) := by
  unfold closeMissed
  extract_lets x1 x2 x3
  clear_value x1
  clear_value x2
  clear_value x3
  refine .ite ?_ ?_
  · refine Within.after (closeInterval_within ..) rfl rfl ?_
    exact .refl _ _ _
  · exact .refl _ _ _

theorem raiseVersion_within (s : State) (i : Nat) : Within (some []) [.txn] s (raiseVersion s i) := by
  unfold raiseVersion
  extract_lets x1
  clear_value x1
  refine .txn _ rfl ?_
  exact .refl _ _ _

theorem constsDue_within (s : State) (m : Nat) : Within (some [9264,9265]) [.mer, .txn] s (constsDue s m) := by
  unfold constsDue
  refine .foldl (fun t1 x2 => ?_) _ ?_
  · extract_lets x3 x4 x5
    clear_value x3
    clear_value x5
    refine Within.have_ (x := x4) ?_ fun hx4 => ?_
    · unfold x4
      refine Within.after (raiseVersion_within ..) rfl rfl ?_
      refine .wr _ _ _ rfl ?_
      refine .wr _ _ _ rfl ?_
      exact .refl _ _ _
    clear_value x4
    refine .ite ?_ ?_
    · refine .mer _ rfl ?_
      assumption
    · exact .refl _ _ _
  · exact .refl _ _ _

theorem cycleBegins_within (s : State) (c : Nat) (phase : Nat) (at_ : Nat) : Within (some []) [.nrg] s (cycleBegins s c phase at_) := by
  unfold cycleBegins
  extract_lets x1
  clear_value x1
  refine .nrg _ rfl ?_
  exact .refl _ _ _

theorem reversal_within (s : State) (c : Nat) (negative : Bool) : Within (some [5892,9254,9257]) [.mer,
    .recd] s (reversal s c negative) := by
  unfold reversal
  extract_lets x1 x2 x3
  clear_value x1
  clear_value x3
  refine .ite ?_ ?_
  · simp only [x2]
    refine .mer _ rfl ?_
    exact .refl _ _ _
  · refine .ite ?_ ?_
    · refine Within.after (nrgEvent_within ..) rfl rfl ?_
      simp only [x2]
      refine .mer _ rfl ?_
      refine .count _ _ _ rfl ?_
      refine .wr _ _ _ rfl ?_
      exact .refl _ _ _
    · simp only [x2]
      refine .mer _ rfl ?_
      exact .refl _ _ _

theorem spillNothing_within (s : State) (meters : List Nat) : Within (some [9268,9269]) [] s (spillNothing s meters) := by
  unfold spillNothing
  refine .foldl (fun t1 x2 => ?_) _ ?_
  · refine Within.after (spill_within ..) rfl rfl ?_
    exact .refl _ _ _
  · exact .refl _ _ _

theorem cycleEnergy_within (s : State) (c : Nat) (rs : List (PhaseResult × Bool)) :
    Within (some [5892,9232,9254,9257,9264,9265,9268,9269]) [.mer, .recd, .txn] s (cycleEnergy s c rs) := by
  unfold cycleEnergy
  extract_lets x1 x2 x3 x4 x5
  clear_value x1
  clear_value x2
  clear_value x3
  clear_value x4
  refine Within.have_ (x := x5) ?_ fun hx5 => ?_
  · unfold x5
    refine .ite ?_ ?_
    · refine Within.after (reversal_within ..) rfl rfl ?_
      refine Within.after (accumulate_within ..) rfl rfl ?_
      exact .refl _ _ _
    · refine Within.after (spillNothing_within ..) rfl rfl ?_
      exact .refl _ _ _
  clear_value x5
  refine .foldl (fun t6 x7 => ?_) _ ?_
  · refine Within.after (constsDue_within ..) rfl rfl ?_
    exact .refl _ _ _
  · assumption

theorem cycleKept_within (s : State) (d : LineCycle) (a : Nat) (n : Nat) (rs : List (PhaseResult × Bool)) :
    Within (some []) [.nrg] s (cycleKept s d a n rs) := by
  unfold cycleKept
  extract_lets x1 x2 x3 x4 x5 x6
  clear_value x1
  clear_value x2
  clear_value x3
  clear_value x4
  clear_value x5
  clear_value x6
  refine .nrg _ rfl ?_
  exact .refl _ _ _

theorem intervalBoundary_within (t : Nat) (s : State) : Within (some [9235,9236]) [.mer] s (intervalBoundary t s) := by
  unfold intervalBoundary
  refine .ite ?_ ?_
  · refine Within.after (closeInterval_within ..) rfl rfl ?_
    exact .refl _ _ _
  · exact .refl _ _ _

theorem windowEnd_within (s : State) (c : Nat) (w : NrgWin) : Within (some [9248,9249,9250,9251,9252,9253]) [] s (windowEnd s c w) := by
  unfold windowEnd
  extract_lets x1 x2 x3 x4
  clear_value x1
  clear_value x2
  refine Within.have_ (x := x3) ?_ fun hx3 => ?_
  · unfold x3
    refine .foldl (fun t5 x6 => ?_) _ ?_
    · extract_lets x7 x8
      clear_value x7
      clear_value x8
      refine .wr _ _ _ rfl ?_
      refine .wr _ _ _ rfl ?_
      refine .wr _ _ _ rfl ?_
      refine .wr _ _ _ rfl ?_
      exact .refl _ _ _
    · exact .refl _ _ _
  clear_value x3
  refine Within.have_ (x := x4) ?_ fun hx4 => ?_
  · unfold x4
    refine .wr _ _ _ rfl ?_
    refine .wr _ _ _ rfl ?_
    assumption
  clear_value x4
  refine .foldl (fun t9 x10 => ?_) _ ?_
  · refine .ite ?_ ?_
    · refine .wrQ _ _ _ rfl ?_
      exact .refl _ _ _
    · exact .refl _ _ _
  · assumption

theorem windowAdd_within (s : State) (c : Nat) (period : Nat) (rs : List (PhaseResult × Bool)) :
    Within (some [9248,9249,9250,9251,9252,9253]) [.nrg] s (windowAdd s c period rs) := by
  unfold windowAdd
  extract_lets x1 x2 x3 x4 x5 x6 x7 x8 x9
  clear_value x1
  clear_value x2
  clear_value x3
  clear_value x4
  clear_value x5
  clear_value x6
  clear_value x8
  clear_value x9
  refine Within.have_ (x := x7) ?_ fun hx7 => ?_
  · unfold x7
    refine Within.after (windowEnd_within ..) rfl rfl ?_
    exact .refl _ _ _
  clear_value x7
  refine .ite ?_ ?_
  · refine .nrg _ rfl ?_
    assumption
  · refine .nrg _ rfl ?_
    exact .refl _ _ _

theorem lineCycle_within (timed : Bool) (sameRef : Bool) (d : LineCycle) (a : Nat) (b : Nat) (s : State) :
    Within (some [5892,6418,9232,9248,9249,9250,9251,9252,9253,9254,9255,9256,9257,9264,9265,9268,9269,9298,9299]) [.lbs, .mer, .nextXfer,
        .nrg, .out, .recd, .txn] s (lineCycle timed sameRef d a b s) := by
  unfold lineCycle
  extract_lets x1 x2 x3 x4 x5 x6 x7 x8 x9
  clear_value x1
  clear_value x2
  clear_value x3
  clear_value x4
  clear_value x6
  refine Within.have_ (x := x5) ?_ fun hx5 => ?_
  · unfold x5
    refine Within.after (cycleEnergy_within ..) rfl rfl ?_
    exact .refl _ _ _
  clear_value x5
  refine Within.have_ (x := x7) ?_ fun hx7 => ?_
  · unfold x7
    refine .wrBit _ _ _ _ rfl ?_
    refine .wrBit _ _ _ _ rfl ?_
    refine .wrBit _ _ _ _ rfl ?_
    assumption
  clear_value x7
  refine Within.have_ (x := x8) ?_ fun hx8 => ?_
  · unfold x8
    refine Within.after (captureTake_within ..) rfl rfl ?_
    refine Within.after (windowAdd_within ..) rfl rfl ?_
    assumption
  clear_value x8
  refine Within.have_ (x := x9) ?_ fun hx9 => ?_
  · unfold x9
    refine .foldl (fun t10 x11 => ?_) _ ?_
    · refine Within.after (clearLoss_within ..) rfl rfl ?_
      exact .refl _ _ _
    · assumption
  clear_value x9
  refine Within.after (cycleKept_within ..) rfl rfl ?_
  assumption

theorem lineCycleEnd_within (x : Crossing) (d : LineCycle) (s : State) :
    Within (some [5892,6418,9232,9248,9249,9250,9251,9252,9253,9254,9255,9256,9257,9264,9265,9268,9269,9298,9299]) [.lbs, .mer, .nextXfer,
        .nrg, .out, .recd, .txn] s (lineCycleEnd x d s) := by
  unfold lineCycleEnd
  extract_lets x1
  clear_value x1
  refine .ite ?_ ?_
  · split
    · refine Within.after (cycleBegins_within ..) rfl rfl ?_
      exact .refl _ _ _
    · refine .ite ?_ ?_
      · refine Within.after (cycleBegins_within ..) rfl rfl ?_
        refine Within.after (lineCycle_within ..) rfl rfl ?_
        exact .refl _ _ _
      · exact .refl _ _ _
  · exact .refl _ _ _

theorem meteringResumes_within (s : State) : Within (some [5892,9235,9236,9258]) [.free, .mer, .recd] s (meteringResumes s) := by
  unfold meteringResumes
  split
  · exact .refl _ _ _
  · extract_lets x1 x2 x3 x4 x5 x6
    clear_value x1
    clear_value x2
    clear_value x5
    refine Within.have_ (x := x3) ?_ fun hx3 => ?_
    · unfold x3
      refine .ite ?_ ?_
      · refine Within.after (State_tookFree_within ..) rfl rfl ?_
        exact .refl _ _ _
      · exact .refl _ _ _
    clear_value x3
    refine Within.have_ (x := x4) ?_ fun hx4 => ?_
    · unfold x4
      refine .count _ _ _ rfl ?_
      assumption
    clear_value x4
    refine Within.have_ (x := x6) ?_ fun hx6 => ?_
    · unfold x6
      refine .mer _ rfl ?_
      assumption
    clear_value x6
    refine Within.after (nrgEvent_within ..) rfl rfl ?_
    refine .ite ?_ ?_
    · assumption
    · refine Within.after (closeMissed_within ..) rfl rfl ?_
      assumption

theorem meteringStops_within (s : State) : Within (some []) [.mer, .nrg] s (meteringStops s) := by
  unfold meteringStops
  extract_lets x1 x2 x3
  clear_value x1
  clear_value x3
  refine Within.have_ (x := x2) ?_ fun hx2 => ?_
  · unfold x2
    refine .ite ?_ ?_
    · refine .mer _ rfl ?_
      exact .refl _ _ _
    · exact .refl _ _ _
  clear_value x2
  refine .nrg _ rfl ?_
  assumption

theorem nrgApply_within {t : State} (s : State) (i : Nat) (e : Nat) (v : Nat) (h : nrgApply s i e v = some t) :
    Within none [.nrg, .recd] s t := by
  unfold nrgApply at h
  dsimp only at h
  split at h
  · cases h
    refine .ite ?_ ?_
    · exact .refl _ _ _
    · refine Within.after (blockEvent_within ..) rfl rfl ?_
      refine .wr _ _ _ rfl ?_
      refine .wr _ _ _ rfl ?_
      exact .refl _ _ _
  · split at h
    · cases h
      refine .ite ?_ ?_
      · refine .wr _ _ _ rfl ?_
        exact .refl _ _ _
      · exact .refl _ _ _
    · split at h
      · cases h
        refine .nrg _ rfl ?_
        refine .wr _ _ _ rfl ?_
        exact .refl _ _ _
      · cases h

theorem nrgCommitted_within (old : State) (s : State) (touched : List (Nat × Nat)) :
    Within (some [5892]) [.recd] s (nrgCommitted old s touched) := by
  unfold nrgCommitted
  refine .foldl (fun t1 x2 => ?_) _ ?_
  · refine .ite ?_ ?_
    · refine Within.after (nrgEvent_within ..) rfl rfl ?_
      exact .refl _ _ _
    · exact .refl _ _ _
  · exact .refl _ _ _

theorem partialCycle_within (s : State) (stop : Nat) (d : LineCycle) : Within (some [9232,9268,9269]) [.mer] s (partialCycle s stop d) := by
  unfold partialCycle
  extract_lets x1
  clear_value x1
  split
  · exact .refl _ _ _
  · extract_lets x2 x3
    clear_value x2
    clear_value x3
    refine .ite ?_ ?_
    · exact .refl _ _ _
    · refine Within.after (accumulate_within ..) rfl rfl ?_
      exact .refl _ _ _

theorem pulseEnd_within (o : Nat) (s : State) : Within (some [9269,9270]) [.nrg] s (pulseEnd o s) := by
  unfold pulseEnd
  extract_lets x1 x2
  clear_value x1
  refine Within.have_ (x := x2) ?_ fun hx2 => ?_
  · unfold x2
    refine .nrg _ rfl ?_
    exact .refl _ _ _
  clear_value x2
  refine .ite ?_ ?_
  · refine .wr _ _ _ rfl ?_
    refine .countMod _ _ rfl ?_
    assumption
  · exact .refl _ _ _

theorem pulseStart_within (o : Nat) (s : State) : Within (some []) [.nrg] s (pulseStart o s) := by
  unfold pulseStart
  extract_lets x1
  clear_value x1
  refine .ite ?_ ?_
  · refine .nrg _ rfl ?_
    exact .refl _ _ _
  · exact .refl _ _ _

theorem timedLineCycleEnd_within (d : LineCycle) (s : State) :
    Within (some [5892,6418,9232,9248,9249,9250,9251,9252,9253,9254,9255,9256,9257,9264,9265,9268,9269,9298,9299]) [.lbs, .mer, .nextXfer,
        .nrg, .out, .recd, .txn] s (timedLineCycleEnd d s) := by
  unfold timedLineCycleEnd
  extract_lets x1 x2 x3
  clear_value x1
  clear_value x2
  clear_value x3
  refine .ite ?_ ?_
  · refine Within.after (cycleBegins_within ..) rfl rfl ?_
    refine Within.after (lineCycle_within ..) rfl rfl ?_
    exact .refl _ _ _
  · exact .refl _ _ _

theorem voltageLoss_within (v : Nat) (s : State) : Within (some [5892,9256]) [.recd] s (voltageLoss v s) := by
  unfold voltageLoss
  refine .ite ?_ ?_
  · refine Within.after (nrgEvent_within ..) rfl rfl ?_
    refine .wr _ _ _ rfl ?_
    exact .refl _ _ _
  · exact .refl _ _ _

end Sys2Proof.Laws
end

