-- ==== Sys2Proof/Laws/FrameControl.lean ====
section
/-!
SUPPORT. What each operation of the loop engines may change: entries by their indices and parts of the state by name. Meanings and claims
about frames cite these and unfold nothing.
-/
namespace Sys2Proof.Laws

open Sys2Proof Sys2Proof.Machine Sys2Proof.Safety

theorem deliverLoop_within (s : State) (k : Nat) (y : Nat) : Within (some [10258,10259]) [.ana] s (deliverLoop s k y) := by
  unfold deliverLoop
  refine Within.after (anaFromLoop_within ..) rfl rfl ?_
  refine .wr _ _ _ rfl ?_
  refine .wr _ _ _ rfl ?_
  exact .refl _ _ _

theorem putRep_within (s : State) (u : Nat) (x : RepUnit) : Within (some [10503,10504]) [.ctl] s (putRep s u x) := by
  unfold putRep
  extract_lets x1 x2 x3
  clear_value x1
  refine Within.have_ (x := x2) ?_ fun hx2 => ?_
  · unfold x2
    refine .ctl _ rfl ?_
    exact .refl _ _ _
  clear_value x2
  refine Within.have_ (x := x3) ?_ fun hx3 => ?_
  · unfold x3
    refine .wr _ _ _ rfl ?_
    assumption
  clear_value x3
  refine .ite ?_ ?_
  · refine .wrQ _ _ _ rfl ?_
    assumption
  · assumption

theorem putSlot_within (s : State) (k : Nat) (x : LoopState) : Within (some []) [.ctl] s (putSlot s k x) := by
  unfold putSlot
  extract_lets x1
  clear_value x1
  refine .ctl _ rfl ?_
  exact .refl _ _ _

theorem sampleBits_within (s : State) (k : Nat) (sat : Bool) (frozen : Bool) (lo : Bool) (hi : Bool) (rate : Bool) (ramp : Bool) (learn :
    Bool) :
    Within (some [10263]) [] s (sampleBits s k sat frozen lo hi rate ramp learn) := by
  unfold sampleBits
  refine .wr _ _ _ rfl ?_
  exact .refl _ _ _

theorem autoSample_within (s : State) (k : Nat) (pv : Frac) (held : Bool) :
    Within (some [10258,10259,10263,10264,10503,10504]) [.ana, .ctl] s (autoSample s k pv held) := by
  unfold autoSample
  extract_lets x1 x2 x3 x4 x5 x6 x7 x8 x9 x10 x11 x12 x13 x14 x15 x16 x17 x18 x19 x20 x21 x22 x23 x24 x25 x26 x27 x28 x29 x30 x31 x32
  clear_value x1
  clear_value x2
  clear_value x3
  clear_value x4
  clear_value x5
  clear_value x6
  clear_value x7
  clear_value x8
  clear_value x9
  clear_value x10
  clear_value x11
  clear_value x12
  clear_value x13
  clear_value x14
  clear_value x15
  clear_value x16
  clear_value x17
  clear_value x18
  clear_value x19
  clear_value x20
  clear_value x21
  clear_value x22
  clear_value x23
  clear_value x24
  clear_value x25
  clear_value x26
  clear_value x27
  clear_value x28
  refine Within.have_ (x := x29) ?_ fun hx29 => ?_
  · unfold x29
    refine Within.after (putSlot_within ..) rfl rfl ?_
    exact .refl _ _ _
  clear_value x29
  refine Within.have_ (x := x30) ?_ fun hx30 => ?_
  · unfold x30
    refine .foldl (fun t33 x34 => ?_) _ ?_
    · refine Within.after (putRep_within ..) rfl rfl ?_
      exact .refl _ _ _
    · assumption
  clear_value x30
  refine Within.have_ (x := x31) ?_ fun hx31 => ?_
  · unfold x31
    refine Within.after (sampleBits_within ..) rfl rfl ?_
    assumption
  clear_value x31
  refine Within.have_ (x := x32) ?_ fun hx32 => ?_
  · unfold x32
    refine .ite ?_ ?_
    · refine .count _ _ _ rfl ?_
      assumption
    · assumption
  clear_value x32
  refine .ite ?_ ?_
  · assumption
  · refine Within.after (deliverLoop_within ..) rfl rfl ?_
    assumption

theorem clearReps_within (s : State) (k : Nat) : Within (some [10503,10504]) [.ctl] s (clearReps s k) := by
  unfold clearReps
  refine .foldl (fun t1 x2 => ?_) _ ?_
  · refine .ite ?_ ?_
    · refine Within.after (putRep_within ..) rfl rfl ?_
      exact .refl _ _ _
    · exact .refl _ _ _
  · exact .refl _ _ _

theorem noLearning_within (s : State) (k : Nat) : Within (some [10263]) [] s (noLearning s k) := by
  unfold noLearning
  refine .wrBit _ _ _ _ rfl ?_
  exact .refl _ _ _

theorem holdSlot_within (s : State) (k : Nat) : Within (some [10258,10259,10263]) [.ana] s (holdSlot s k) := by
  unfold holdSlot
  extract_lets x1
  clear_value x1
  refine Within.after (deliverLoop_within ..) rfl rfl ?_
  refine Within.after (noLearning_within ..) rfl rfl ?_
  refine .wrBit _ _ _ _ rfl ?_
  exact .refl _ _ _

theorem modeInHold_within (s : State) (k : Nat) (old : Nat) (new : Nat) :
    Within (some [10258,10259,10263]) [.ana] s (modeInHold s k old new) := by
  unfold modeInHold
  refine .ite ?_ ?_
  · exact .refl _ _ _
  · refine .ite ?_ ?_
    · refine Within.after (deliverLoop_within ..) rfl rfl ?_
      refine .wrBit _ _ _ _ rfl ?_
      exact .refl _ _ _
    · refine .ite ?_ ?_
      · refine Within.after (holdSlot_within ..) rfl rfl ?_
        exact .refl _ _ _
      · exact .refl _ _ _

theorem ctlApply_within {t : State} (s : State) (i : Nat) (e : Nat) (v : Nat) (h : ctlApply s i e v = some t) : Within none [.ana,
    .ctl] s t := by
  unfold ctlApply at h
  dsimp only at h
  split at h
  · cases h
    refine Within.after (modeInHold_within ..) rfl rfl ?_
    refine .ite ?_ ?_
    · refine Within.after (putSlot_within ..) rfl rfl ?_
      refine .wr _ _ _ rfl ?_
      exact .refl _ _ _
    · refine .ite ?_ ?_
      · refine Within.after (putSlot_within ..) rfl rfl ?_
        refine .wr _ _ _ rfl ?_
        exact .refl _ _ _
      · refine .wr _ _ _ rfl ?_
        exact .refl _ _ _
  · split at h
    · cases h
      refine .ite ?_ ?_
      · exact .refl _ _ _
      · refine .wr _ _ _ rfl ?_
        exact .refl _ _ _
    · split at h
      · cases h
        refine .wrBit _ _ _ _ rfl ?_
        refine .wr _ _ _ rfl ?_
        exact .refl _ _ _
      · split at h
        · cases h
          refine Within.after (putSlot_within ..) rfl rfl ?_
          refine .wr _ _ _ rfl ?_
          exact .refl _ _ _
        · split at h
          · cases h
            refine .ctl _ rfl ?_
            exact .refl _ _ _
          · cases h

theorem ctlEvent_within (s : State) (tag : Nat) (slot : Nat) (sev : Nat) (set : Bool) :
    Within (some [5892]) [.recd] s (ctlEvent s tag slot sev set) := by
  unfold ctlEvent
  refine Within.after (blockEvent_within ..) rfl rfl ?_
  exact .refl _ _ _

theorem slotInHold_within (s : State) (k : Nat) : Within (some [10258,10259,10263]) [.ana] s (slotInHold s k) := by
  unfold slotInHold
  refine .ite ?_ ?_
  · refine .wr _ _ _ rfl ?_
    exact .refl _ _ _
  · refine Within.after (holdSlot_within ..) rfl rfl ?_
    exact .refl _ _ _

theorem ctlCommitted_within (old : State) (s : State) (touched : List (Nat × Nat)) :
    Within (some [5892,10257,10258,10259,10263]) [.ana, .ctl, .recd] s (ctlCommitted old s touched) := by
  unfold ctlCommitted
  refine .foldl (fun t1 x2 => ?_) _ ?_
  · extract_lets x3 x4 x5 x6 x7 x8 x9 x10 x11
    clear_value x3
    clear_value x4
    clear_value x5
    clear_value x9
    clear_value x10
    clear_value x11
    refine Within.have_ (x := x6) ?_ fun hx6 => ?_
    · unfold x6
      refine .ite ?_ ?_
      · refine Within.after (ctlEvent_within ..) rfl rfl ?_
        exact .refl _ _ _
      · exact .refl _ _ _
    clear_value x6
    refine Within.have_ (x := x7) ?_ fun hx7 => ?_
    · unfold x7
      refine Within.after (putSlot_within ..) rfl rfl ?_
      refine .wr _ _ _ rfl ?_
      refine .wr _ _ _ rfl ?_
      assumption
    clear_value x7
    refine Within.have_ (x := x8) ?_ fun hx8 => ?_
    · unfold x8
      refine .ite ?_ ?_
      · refine Within.after (slotInHold_within ..) rfl rfl ?_
        exact .refl _ _ _
      · exact .refl _ _ _
    clear_value x8
    refine .ite ?_ ?_
    · exact .refl _ _ _
    · refine .ite ?_ ?_
      · refine .ite ?_ ?_
        · refine Within.after (anaFromLoop_within ..) rfl rfl ?_
          refine .ite ?_ ?_
          · refine Within.after (slotInHold_within ..) rfl rfl ?_
            assumption
          · assumption
        · refine .ite ?_ ?_
          · refine Within.after (putSlot_within ..) rfl rfl ?_
            refine .wr _ _ _ rfl ?_
            refine .wr _ _ _ rfl ?_
            exact .refl _ _ _
          · exact .refl _ _ _
      · refine .ite ?_ ?_
        · refine .ite ?_ ?_
          · refine Within.after (anaFromLoop_within ..) rfl rfl ?_
            assumption
          · refine .ite ?_ ?_
            · refine Within.after (deliverLoop_within ..) rfl rfl ?_
              assumption
            · assumption
        · refine .ite ?_ ?_
          · refine Within.after (putSlot_within ..) rfl rfl ?_
            exact .refl _ _ _
          · refine .ite ?_ ?_
            · refine .ctl _ rfl ?_
              exact .refl _ _ _
            · exact .refl _ _ _
  · exact .refl _ _ _

theorem ctlReturn_within (s : State) : Within (some []) [.ctl] s (ctlReturn s) := by
  unfold ctlReturn
  refine .foldl (fun t1 x2 => ?_) _ ?_
  · extract_lets x3
    clear_value x3
    refine .ite ?_ ?_
    · refine Within.after (putSlot_within ..) rfl rfl ?_
      exact .refl _ _ _
    · exact .refl _ _ _
  · exact .refl _ _ _

theorem ctlSafeExit_within (s : State) : Within (some [10263]) [.ctl] s (ctlSafeExit s) := by
  unfold ctlSafeExit
  refine Within.after (ctlReturn_within ..) rfl rfl ?_
  refine .foldl (fun t1 x2 => ?_) _ ?_
  · refine .wrBit _ _ _ _ rfl ?_
    exact .refl _ _ _
  · exact .refl _ _ _

theorem ctlSafeHold_within (s : State) : Within (some [10258,10259,10263]) [.ana] s (ctlSafeHold s) := by
  unfold ctlSafeHold
  refine .foldl (fun t1 x2 => ?_) _ ?_
  · refine Within.after (slotInHold_within ..) rfl rfl ?_
    exact .refl _ _ _
  · exact .refl _ _ _

theorem safeOutputs_within (s : State) : Within (some [10258,10259]) [] s (safeOutputs s) := by
  unfold safeOutputs
  refine .foldl (fun t1 x2 => ?_) _ ?_
  · refine .wr _ _ _ rfl ?_
    refine .wr _ _ _ rfl ?_
    exact .refl _ _ _
  · exact .refl _ _ _

theorem ctlStart_within (s : State) : Within (some [10257,10258,10259,10369]) [.ctl] s (ctlStart s) := by
  unfold ctlStart
  extract_lets x1 x2 x3
  clear_value x1
  clear_value x2
  refine Within.have_ (x := x3) ?_ fun hx3 => ?_
  · unfold x3
    refine .wr _ _ _ rfl ?_
    refine Within.after (safeOutputs_within ..) rfl rfl ?_
    exact .refl _ _ _
  clear_value x3
  refine .foldl (fun t4 x5 => ?_) _ ?_
  · extract_lets x6 x7 x8 x9
    clear_value x6
    clear_value x7
    clear_value x9
    refine Within.have_ (x := x8) ?_ fun hx8 => ?_
    · unfold x8
      refine .wr _ _ _ rfl ?_
      refine .wr _ _ _ rfl ?_
      refine .wr _ _ _ rfl ?_
      exact .refl _ _ _
    clear_value x8
    refine .ite ?_ ?_
    · refine Within.after (putSlot_within ..) rfl rfl ?_
      assumption
    · assumption
  · assumption

theorem engineFailed_within (s : State) (a : Bool) (b : Bool) :
    Within (some [4160,4163,5892,10369]) [.mode, .net, .recd, .sys] s (engineFailed s a b) := by
  unfold engineFailed
  extract_lets x1 x2 x3 x4
  clear_value x3
  clear_value x4
  refine Within.have_ (x := x1) ?_ fun hx1 => ?_
  · unfold x1
    refine .ite ?_ ?_
    · refine Within.after (raiseFault_within ..) rfl rfl ?_
      exact .refl _ _ _
    · exact .refl _ _ _
  clear_value x1
  refine Within.have_ (x := x2) ?_ fun hx2 => ?_
  · unfold x2
    refine .ite ?_ ?_
    · refine Within.after (raiseFault_within ..) rfl rfl ?_
      assumption
    · assumption
  clear_value x2
  refine .wr _ _ _ rfl ?_
  assumption

theorem engineMismatch_within (s : State) : Within (some [10370]) [.ctl] s (engineMismatch s) := by
  unfold engineMismatch
  extract_lets x1 x2
  clear_value x2
  refine Within.have_ (x := x1) ?_ fun hx1 => ?_
  · unfold x1
    refine .count _ _ _ rfl ?_
    exact .refl _ _ _
  clear_value x1
  refine .ctl _ rfl ?_
  assumption

theorem engineResynced_within (s : State) : Within (some [10369]) [] s (engineResynced s) := by
  unfold engineResynced
  extract_lets x1 x2
  clear_value x1
  clear_value x2
  refine .ite ?_ ?_
  · refine .wr _ _ _ rfl ?_
    exact .refl _ _ _
  · exact .refl _ _ _

theorem engineRetested_within (s : State) : Within (some [10369]) [] s (engineRetested s) := by
  unfold engineRetested
  refine .ite ?_ ?_
  · exact .refl _ _ _
  · refine .wr _ _ _ rfl ?_
    exact .refl _ _ _

theorem restBits_within (s : State) (k : Nat) : Within (some [10263]) [] s (restBits s k) := by
  unfold restBits
  refine Within.after (noLearning_within ..) rfl rfl ?_
  refine Within.after (sampleBits_within ..) rfl rfl ?_
  exact .refl _ _ _

theorem faultedSample_within (s0 : State) (k : Nat) (held : Bool) :
    Within (some [5892,10257,10258,10259,10263]) [.ana, .ctl, .recd] s0 (faultedSample s0 k held) := by
  unfold faultedSample
  extract_lets x1 x2 x3 x4
  clear_value x3
  refine Within.have_ (x := x1) ?_ fun hx1 => ?_
  · unfold x1
    refine Within.after (restBits_within ..) rfl rfl ?_
    exact .refl _ _ _
  clear_value x1
  refine Within.have_ (x := x2) ?_ fun hx2 => ?_
  · unfold x2
    refine .ite ?_ ?_
    · assumption
    · refine Within.after (ctlEvent_within ..) rfl rfl ?_
      refine .wrBit _ _ _ _ rfl ?_
      assumption
  clear_value x2
  refine Within.have_ (x := x4) ?_ fun hx4 => ?_
  · unfold x4
    refine Within.after (putSlot_within ..) rfl rfl ?_
    assumption
  clear_value x4
  refine .ite ?_ ?_
  · assumption
  · split
    · refine Within.after (putSlot_within ..) rfl rfl ?_
      assumption
    · refine .ite ?_ ?_
      · assumption
      · refine Within.after (deliverLoop_within ..) rfl rfl ?_
        assumption
    · refine .wr _ _ _ rfl ?_
      refine .wr _ _ _ rfl ?_
      assumption

theorem manualSample_within (s : State) (k : Nat) (held : Bool) : Within (some [10259,10263]) [.ana] s (manualSample s k held) := by
  unfold manualSample
  extract_lets x1 x2 x3 x4
  clear_value x1
  clear_value x2
  clear_value x3
  refine Within.have_ (x := x4) ?_ fun hx4 => ?_
  · unfold x4
    refine Within.after (noLearning_within ..) rfl rfl ?_
    refine Within.after (sampleBits_within ..) rfl rfl ?_
    exact .refl _ _ _
  clear_value x4
  refine .ite ?_ ?_
  · assumption
  · refine Within.after (anaFromLoop_within ..) rfl rfl ?_
    refine .wrQ _ _ _ rfl ?_
    assumption

theorem offSample_within (s : State) (k : Nat) (held : Bool) : Within (some [10259,10263]) [.ana] s (offSample s k held) := by
  unfold offSample
  extract_lets x1
  refine Within.have_ (x := x1) ?_ fun hx1 => ?_
  · unfold x1
    refine Within.after (noLearning_within ..) rfl rfl ?_
    refine Within.after (sampleBits_within ..) rfl rfl ?_
    exact .refl _ _ _
  clear_value x1
  refine .ite ?_ ?_
  · assumption
  · refine Within.after (anaFromLoop_within ..) rfl rfl ?_
    refine .wr _ _ _ rfl ?_
    assumption

theorem sampleOf_within (read : State → Nat → Nat → Nat) (from_ : State) (s : State) (k : Nat) (held : Bool) :
    Within (some [5892,10257,10258,10259,10263,10264,10265,10503,10504]) [.ana, .ctl, .recd] s (sampleOf read from_ s k held) := by
  unfold sampleOf
  extract_lets x1 x2 x3
  clear_value x1
  clear_value x2
  refine Within.have_ (x := x3) ?_ fun hx3 => ?_
  · unfold x3
    refine Within.after (faultedSample_within ..) rfl rfl ?_
    refine .wr _ _ _ rfl ?_
    exact .refl _ _ _
  clear_value x3
  refine .ite ?_ ?_
  · refine Within.after (offSample_within ..) rfl rfl ?_
    exact .refl _ _ _
  · refine .ite ?_ ?_
    · refine Within.after (putSlot_within ..) rfl rfl ?_
      refine Within.after (restBits_within ..) rfl rfl ?_
      exact .refl _ _ _
    · split
      · refine .ite ?_ ?_
        · refine Within.after (manualSample_within ..) rfl rfl ?_
          assumption
        · assumption
      · extract_lets x4 x5
        refine Within.have_ (x := x4) ?_ fun hx4 => ?_
        · unfold x4
          refine .wrQ _ _ _ rfl ?_
          exact .refl _ _ _
        clear_value x4
        refine Within.have_ (x := x5) ?_ fun hx5 => ?_
        · unfold x5
          refine .ite ?_ ?_
          · refine Within.after (ctlEvent_within ..) rfl rfl ?_
            refine .wrBit _ _ _ _ rfl ?_
            assumption
          · assumption
        clear_value x5
        refine .ite ?_ ?_
        · refine Within.after (manualSample_within ..) rfl rfl ?_
          assumption
        · refine Within.after (autoSample_within ..) rfl rfl ?_
          assumption

theorem loopSample_within (read : State → Nat → Nat → Nat) (k : Nat) (mismatch : Bool) (from_ : State) :
    Within (some [5892,10257,10258,10259,10263,10264,10265,10370,10503,10504]) [.ana, .ctl,
        .recd] from_ (loopSample read k mismatch from_) := by
  unfold loopSample
  extract_lets x1 x2 x3 x4
  clear_value x1
  clear_value x3
  refine Within.have_ (x := x2) ?_ fun hx2 => ?_
  · unfold x2
    refine Within.after (clearReps_within ..) rfl rfl ?_
    refine Within.after (putSlot_within ..) rfl rfl ?_
    exact .refl _ _ _
  clear_value x2
  refine Within.have_ (x := x4) ?_ fun hx4 => ?_
  · unfold x4
    refine Within.after (sampleOf_within ..) rfl rfl ?_
    assumption
  clear_value x4
  refine .ite ?_ ?_
  · exact .refl _ _ _
  · refine .ite ?_ ?_
    · refine Within.after (engineMismatch_within ..) rfl rfl ?_
      assumption
    · assumption

theorem selfCheck_within (a : Bool) (b : Bool) (agree : Bool) (s : State) :
    Within (some [4160,4163,5892,10369,10371]) [.ctl, .mode, .net, .recd, .sys] s (selfCheck a b agree s).1 := by
  unfold selfCheck
  extract_lets x1 x2 x3 x4 x5
  clear_value x1
  clear_value x3
  clear_value x4
  clear_value x5
  refine Within.have_ (x := x2) ?_ fun hx2 => ?_
  · unfold x2
    refine .ctl _ rfl ?_
    exact .refl _ _ _
  clear_value x2
  split
  · dsimp only
    exact .refl _ _ _
  · split
    · split
      · dsimp only
        refine .count _ _ _ rfl ?_
        assumption
      · dsimp only
        refine Within.after (engineFailed_within ..) rfl rfl ?_
        assumption
    · split
      · dsimp only
        refine Within.after (engineFailed_within ..) rfl rfl ?_
        assumption
      · split
        · dsimp only
          refine Within.after (engineFailed_within ..) rfl rfl ?_
          assumption
        · dsimp only
          refine Within.after (engineFailed_within ..) rfl rfl ?_
          assumption

end Sys2Proof.Laws
end

