-- ==== Sys2Proof/Laws/FrameMotion.lean ====
section
/-!
SUPPORT. What each operation of motion may change: entries by their indices and parts of the state by name. Meanings and claims
about frames cite these and unfold nothing.
-/
namespace Sys2Proof.Laws

open Sys2Proof Sys2Proof.Machine Sys2Proof.Safety

theorem motPut_within (s : State) (c : Nat) (b : Nat) (on : Bool) : Within (some [11283]) [] s (motPut s c b on) := by
  unfold motPut
  refine .wrBit _ _ _ _ rfl ?_
  exact .refl _ _ _

theorem putChan_within (s : State) (c : Nat) (x : MotChan) : Within (some []) [.mot] s (putChan s c x) := by
  unfold putChan
  extract_lets x1
  clear_value x1
  refine .mot _ rfl ?_
  exact .refl _ _ _

theorem showChan_within (s : State) (c : Nat) : Within (some [11278,11279,11280,11283]) [] s (showChan s c) := by
  unfold showChan
  extract_lets x1
  clear_value x1
  refine Within.after (motPut_within ..) rfl rfl ?_
  refine .wrQ _ _ _ rfl ?_
  refine .wrQ _ _ _ rfl ?_
  refine .wr _ _ _ rfl ?_
  exact .refl _ _ _

theorem shiftCar_within (s : State) (c : Nat) (d : Int) : Within (some [11278,11279,11280,11283]) [.mot] s (shiftCar s c d) := by
  unfold shiftCar
  extract_lets x1
  clear_value x1
  refine Within.after (showChan_within ..) rfl rfl ?_
  refine Within.after (putChan_within ..) rfl rfl ?_
  exact .refl _ _ _

theorem carEdge_within (s : State) (c : Nat) (input : Nat) (level : Bool) (count : Int) :
    Within (some [11278,11279,11280,11282,11283,11311]) [.mot] s (carEdge s c input level count) := by
  unfold carEdge
  extract_lets x1 x2 x3 x4 x5 x6 x7 x8 x9 x10
  clear_value x1
  clear_value x2
  clear_value x3
  clear_value x4
  clear_value x5
  clear_value x7
  clear_value x8
  refine Within.have_ (x := x6) ?_ fun hx6 => ?_
  · unfold x6
    refine Within.after (shiftCar_within ..) rfl rfl ?_
    exact .refl _ _ _
  clear_value x6
  refine Within.have_ (x := x9) ?_ fun hx9 => ?_
  · unfold x9
    refine Within.after (putChan_within ..) rfl rfl ?_
    assumption
  clear_value x9
  refine Within.have_ (x := x10) ?_ fun hx10 => ?_
  · unfold x10
    refine .wr _ _ _ rfl ?_
    refine .wr _ _ _ rfl ?_
    assumption
  clear_value x10
  refine .ite ?_ ?_
  · refine Within.after (motPut_within ..) rfl rfl ?_
    refine Within.after (motPut_within ..) rfl rfl ?_
    refine Within.after (motPut_within ..) rfl rfl ?_
    assumption
  · exact .refl _ _ _

theorem dueShift_within (s : State) (c : Nat) : Within (some [11278,11279,11280,11283]) [.mot] s (dueShift s c) := by
  unfold dueShift
  extract_lets x1 x2 x3
  clear_value x1
  clear_value x3
  refine Within.have_ (x := x2) ?_ fun hx2 => ?_
  · unfold x2
    refine Within.after (shiftCar_within ..) rfl rfl ?_
    refine Within.after (putChan_within ..) rfl rfl ?_
    exact .refl _ _ _
  clear_value x2
  refine .ite ?_ ?_
  · exact .refl _ _ _
  · refine .ite ?_ ?_
    · refine Within.after (putChan_within ..) rfl rfl ?_
      assumption
    · refine Within.after (putChan_within ..) rfl rfl ?_
      assumption

theorem moveOn_within (s : State) (c : Nat) : Within (some [11278,11279,11280,11282,11283]) [.mot] s (moveOn s c) := by
  unfold moveOn
  extract_lets x1 x2 x3 x4 x5 x6 x7
  clear_value x1
  clear_value x2
  clear_value x3
  clear_value x4
  clear_value x6
  clear_value x7
  refine Within.have_ (x := x5) ?_ fun hx5 => ?_
  · unfold x5
    refine Within.after (putChan_within ..) rfl rfl ?_
    exact .refl _ _ _
  clear_value x5
  refine .ite ?_ ?_
  · exact .refl _ _ _
  · refine .ite ?_ ?_
    · refine Within.after (showChan_within ..) rfl rfl ?_
      refine .ite ?_ ?_
      · refine .wr _ _ _ rfl ?_
        assumption
      · assumption
    · refine Within.after (showChan_within ..) rfl rfl ?_
      refine Within.after (putChan_within ..) rfl rfl ?_
      exact .refl _ _ _

theorem planTo_within (s : State) (c : Nat) (xt : Int) (V : Frac) : Within (some [11278,11279,11280,11283]) [.mot] s (planTo s c xt V) := by
  unfold planTo
  extract_lets x1 x2 x3 x4
  clear_value x1
  clear_value x2
  refine Within.have_ (x := x3) ?_ fun hx3 => ?_
  · unfold x3
    refine Within.after (putChan_within ..) rfl rfl ?_
    exact .refl _ _ _
  clear_value x3
  refine Within.have_ (x := x4) ?_ fun hx4 => ?_
  · unfold x4
    refine .ite ?_ ?_
    · assumption
    · refine Within.after (motPut_within ..) rfl rfl ?_
      assumption
  clear_value x4
  refine Within.after (showChan_within ..) rfl rfl ?_
  assumption

theorem moveTo_within (s : State) (c : Nat) (xt : Int) (V : Frac) : Within (some [11278,11279,11280,11282,
    11283]) [.mot] s (moveTo s c xt V) := by
  unfold moveTo
  extract_lets x1
  refine Within.have_ (x := x1) ?_ fun hx1 => ?_
  · unfold x1
    refine Within.after (planTo_within ..) rfl rfl ?_
    exact .refl _ _ _
  clear_value x1
  refine .wr _ _ _ rfl ?_
  assumption

theorem haltChan_within (s : State) (c : Nat) : Within (some [11278,11279,11280,11283]) [.mot] s (haltChan s c) := by
  unfold haltChan
  extract_lets x1 x2
  clear_value x1
  clear_value x2
  refine Within.after (showChan_within ..) rfl rfl ?_
  refine Within.after (putChan_within ..) rfl rfl ?_
  exact .refl _ _ _

theorem motEvent_within (s : State) (tag : Nat) (c : Nat) (sev : Nat) (set : Bool) :
    Within (some [5892]) [.recd] s (motEvent s tag c sev set) := by
  unfold motEvent
  refine Within.after (blockEvent_within ..) rfl rfl ?_
  exact .refl _ _ _

theorem refFail_within (s : State) (c : Nat) (result : Nat) :
    Within (some [5892,11278,11279,11280,11282,11283,11311]) [.mot, .recd] s (refFail s c result) := by
  unfold refFail
  extract_lets x1 x2 x3
  clear_value x2
  refine Within.have_ (x := x1) ?_ fun hx1 => ?_
  · unfold x1
    refine Within.after (haltChan_within ..) rfl rfl ?_
    exact .refl _ _ _
  clear_value x1
  refine Within.have_ (x := x3) ?_ fun hx3 => ?_
  · unfold x3
    refine Within.after (putChan_within ..) rfl rfl ?_
    assumption
  clear_value x3
  refine Within.after (motEvent_within ..) rfl rfl ?_
  refine Within.after (motPut_within ..) rfl rfl ?_
  refine .wr _ _ _ rfl ?_
  refine .wr _ _ _ rfl ?_
  assumption

theorem refTick_within (s : State) (c : Nat) (valid : Bool) :
    Within (some [5892,11278,11279,11280,11282,11283,11311]) [.mot, .recd] s (refTick s c valid) := by
  unfold refTick
  extract_lets x1 x2 x3 x4
  clear_value x1
  clear_value x2
  clear_value x3
  clear_value x4
  refine .ite ?_ ?_
  · refine Within.after (motPut_within ..) rfl rfl ?_
    refine Within.after (putChan_within ..) rfl rfl ?_
    exact .refl _ _ _
  · refine .ite ?_ ?_
    · refine .ite ?_ ?_
      · refine Within.after (refFail_within ..) rfl rfl ?_
        exact .refl _ _ _
      · refine .ite ?_ ?_
        · refine Within.after (refFail_within ..) rfl rfl ?_
          exact .refl _ _ _
        · refine Within.after (putChan_within ..) rfl rfl ?_
          exact .refl _ _ _
    · refine .ite ?_ ?_
      · refine Within.after (refFail_within ..) rfl rfl ?_
        exact .refl _ _ _
      · exact .refl _ _ _

theorem stopRamp_within (s : State) (c : Nat) : Within (some [11278,11279,11280,11283]) [.mot] s (stopRamp s c) := by
  unfold stopRamp
  extract_lets x1 x2
  clear_value x1
  clear_value x2
  refine Within.after (showChan_within ..) rfl rfl ?_
  refine Within.after (putChan_within ..) rfl rfl ?_
  exact .refl _ _ _

theorem replanLimits_within (s : State) (c : Nat) : Within (some [11278,11279,11280,11283]) [.mot] s (replanLimits s c) := by
  unfold replanLimits
  extract_lets x1 x2 x3 x4 x5
  clear_value x1
  clear_value x3
  clear_value x5
  refine Within.have_ (x := x2) ?_ fun hx2 => ?_
  · unfold x2
    refine Within.after (putChan_within ..) rfl rfl ?_
    exact .refl _ _ _
  clear_value x2
  refine Within.have_ (x := x4) ?_ fun hx4 => ?_
  · unfold x4
    split
    · refine Within.after (planTo_within ..) rfl rfl ?_
      assumption
    · refine .ite ?_ ?_
      · refine Within.after (stopRamp_within ..) rfl rfl ?_
        assumption
      · refine Within.after (showChan_within ..) rfl rfl ?_
        refine Within.after (putChan_within ..) rfl rfl ?_
        assumption
  clear_value x4
  refine .ite ?_ ?_
  · assumption
  · refine Within.after (putChan_within ..) rfl rfl ?_
    assumption

theorem senseFilter_within (s : State) (c : Nat) (va : Frac) (vb : Frac) : Within (some []) [.mot] s (senseFilter s c va vb) := by
  unfold senseFilter
  extract_lets x1 x2 x3 x4
  clear_value x1
  clear_value x2
  clear_value x3
  clear_value x4
  refine Within.after (putChan_within ..) rfl rfl ?_
  exact .refl _ _ _

theorem refStall_within (s : State) (c : Nat) : Within (some [5892,11278,11279,11280,11282,11283,11311]) [.mot,
    .recd] s (refStall s c) := by
  unfold refStall
  extract_lets x1 x2 x3 x4 x5 x6 x7
  clear_value x1
  clear_value x2
  clear_value x3
  clear_value x4
  clear_value x5
  refine Within.have_ (x := x6) ?_ fun hx6 => ?_
  · unfold x6
    refine Within.after (putChan_within ..) rfl rfl ?_
    exact .refl _ _ _
  clear_value x6
  refine Within.have_ (x := x7) ?_ fun hx7 => ?_
  · unfold x7
    refine Within.after (planTo_within ..) rfl rfl ?_
    assumption
  clear_value x7
  refine .ite ?_ ?_
  · refine Within.after (refFail_within ..) rfl rfl ?_
    exact .refl _ _ _
  · refine Within.after (motPut_within ..) rfl rfl ?_
    assumption

theorem stallChan_within (s : State) (c : Nat) : Within (some [5892,11278,11279,11280,11282,11283,11311]) [.mot,
    .recd] s (stallChan s c) := by
  unfold stallChan
  extract_lets x1 x2 x3 x4 x5 x6
  clear_value x2
  clear_value x5
  refine Within.have_ (x := x1) ?_ fun hx1 => ?_
  · unfold x1
    refine Within.after (motEvent_within ..) rfl rfl ?_
    refine Within.after (motPut_within ..) rfl rfl ?_
    refine Within.after (motPut_within ..) rfl rfl ?_
    exact .refl _ _ _
  clear_value x1
  refine Within.have_ (x := x3) ?_ fun hx3 => ?_
  · unfold x3
    refine Within.after (putChan_within ..) rfl rfl ?_
    assumption
  clear_value x3
  refine Within.have_ (x := x4) ?_ fun hx4 => ?_
  · unfold x4
    refine Within.after (haltChan_within ..) rfl rfl ?_
    assumption
  clear_value x4
  refine Within.have_ (x := x6) ?_ fun hx6 => ?_
  · unfold x6
    refine Within.after (putChan_within ..) rfl rfl ?_
    assumption
  clear_value x6
  refine .ite ?_ ?_
  · refine Within.after (refStall_within ..) rfl rfl ?_
    refine Within.after (haltChan_within ..) rfl rfl ?_
    assumption
  · refine .ite ?_ ?_
    · refine Within.after (haltChan_within ..) rfl rfl ?_
      assumption
    · refine .ite ?_ ?_
      · refine .wr _ _ _ rfl ?_
        refine .ite ?_ ?_
        · refine Within.after (motPut_within ..) rfl rfl ?_
          assumption
        · assumption
      · assumption

theorem watchAngle_within (s : State) (c : Nat) (δ : Option Frac) :
    Within (some [5892,11278,11279,11280,11282,11283,11297,11303,11311]) [.mot, .recd] s (watchAngle s c δ) := by
  unfold watchAngle
  extract_lets x1 x2 x3
  clear_value x1
  clear_value x2
  clear_value x3
  split
  · refine Within.after (motPut_within ..) rfl rfl ?_
    refine .wr _ _ _ rfl ?_
    refine Within.after (putChan_within ..) rfl rfl ?_
    exact .refl _ _ _
  · extract_lets x4 x5 x6 x7 x8 x9 x10 x11 x12 x13
    clear_value x4
    clear_value x5
    clear_value x6
    clear_value x7
    clear_value x8
    clear_value x9
    refine Within.have_ (x := x10) ?_ fun hx10 => ?_
    · unfold x10
      refine Within.after (putChan_within ..) rfl rfl ?_
      exact .refl _ _ _
    clear_value x10
    refine Within.have_ (x := x11) ?_ fun hx11 => ?_
    · unfold x11
      refine Within.after (motPut_within ..) rfl rfl ?_
      refine .wrQ _ _ _ rfl ?_
      assumption
    clear_value x11
    refine Within.have_ (x := x12) ?_ fun hx12 => ?_
    · unfold x12
      refine .ite ?_ ?_
      · refine Within.after (motPut_within ..) rfl rfl ?_
        assumption
      · refine .ite ?_ ?_
        · refine Within.after (motPut_within ..) rfl rfl ?_
          assumption
        · assumption
    clear_value x12
    refine Within.have_ (x := x13) ?_ fun hx13 => ?_
    · unfold x13
      refine .ite ?_ ?_
      · refine .count _ _ _ rfl ?_
        assumption
      · assumption
    clear_value x13
    refine .ite ?_ ?_
    · refine Within.after (stallChan_within ..) rfl rfl ?_
      assumption
    · assumption

theorem chanTick_within (sense : List PhaseSense) (s : State) (c : Nat) :
    Within (some [5892,11278,11279,11280,11282,11283,11297,11303,11311]) [.mot, .recd] s (chanTick sense s c) := by
  unfold chanTick
  extract_lets x1 x2 x3 x4 x5 x6
  clear_value x3
  clear_value x6
  refine Within.have_ (x := x1) ?_ fun hx1 => ?_
  · unfold x1
    refine Within.after (dueShift_within ..) rfl rfl ?_
    refine Within.after (moveOn_within ..) rfl rfl ?_
    exact .refl _ _ _
  clear_value x1
  refine Within.have_ (x := x2) ?_ fun hx2 => ?_
  · unfold x2
    split
    · refine .ite ?_ ?_
      · refine Within.after (senseFilter_within ..) rfl rfl ?_
        assumption
      · assumption
    · assumption
  clear_value x2
  refine Within.have_ (x := x4) ?_ fun hx4 => ?_
  · unfold x4
    refine .ite ?_ ?_
    · assumption
    · refine Within.after (watchAngle_within ..) rfl rfl ?_
      assumption
  clear_value x4
  refine Within.have_ (x := x5) ?_ fun hx5 => ?_
  · unfold x5
    refine Within.after (refTick_within ..) rfl rfl ?_
    assumption
  clear_value x5
  refine .ite ?_ ?_
  · refine Within.after (moveTo_within ..) rfl rfl ?_
    assumption
  · refine .ite ?_ ?_
    · refine Within.after (replanLimits_within ..) rfl rfl ?_
      assumption
    · assumption

theorem encoderEdgeCount_within (k : Nat) (up : Bool) (s : State) : Within (some [11328]) [] s (encoderEdgeCount k up s) := by
  unfold encoderEdgeCount
  refine .ite ?_ ?_
  · refine .wr _ _ _ rfl ?_
    exact .refl _ _ _
  · exact .refl _ _ _

theorem encoderIllegalTransition_within (k : Nat) (s : State) : Within (some [11329]) [] s (encoderIllegalTransition k s) := by
  unfold encoderIllegalTransition
  refine .ite ?_ ?_
  · refine .count _ _ _ rfl ?_
    exact .refl _ _ _
  · exact .refl _ _ _

theorem haltIdle_within (s : State) (c : Nat) : Within (some [11278,11279,11280,11282,11283]) [.mot] s (haltIdle s c) := by
  unfold haltIdle
  refine .wr _ _ _ rfl ?_
  refine Within.after (haltChan_within ..) rfl rfl ?_
  exact .refl _ _ _

theorem idleCurrentReduce_within (c : Nat) (s : State) : Within (some [11283]) [] s (idleCurrentReduce c s) := by
  unfold idleCurrentReduce
  refine .ite ?_ ?_
  · refine Within.after (motPut_within ..) rfl rfl ?_
    exact .refl _ _ _
  · exact .refl _ _ _

theorem laneRetested_within (s : State) : Within (some []) [.mot] s (laneRetested s) := by
  unfold laneRetested
  extract_lets x1
  clear_value x1
  refine .mot _ rfl ?_
  exact .refl _ _ _

theorem laneVerdict_within (s : State) (l : Option LaneCheck) :
    Within (some [4160,4163,5892]) [.mode, .net, .recd, .sys] s (laneVerdict s l).1 := by
  unfold laneVerdict
  split
  · dsimp only
    exact .refl _ _ _
  · split
    · dsimp only
      exact .refl _ _ _
    · split
      · split
        · dsimp only
          exact .refl _ _ _
        · dsimp only
          refine Within.after (raiseFault_within ..) rfl rfl ?_
          exact .refl _ _ _
      · split
        · dsimp only
          refine Within.after (raiseFault_within ..) rfl rfl ?_
          exact .refl _ _ _
        · dsimp only
          refine Within.after (raiseFault_within ..) rfl rfl ?_
          exact .refl _ _ _

theorem newTarget_within (s : State) (c : Nat) (t : Int) : Within (some [11283]) [.mot] s (newTarget s c t) := by
  unfold newTarget
  extract_lets x1 x2
  clear_value x1
  refine Within.have_ (x := x2) ?_ fun hx2 => ?_
  · unfold x2
    refine Within.after (putChan_within ..) rfl rfl ?_
    exact .refl _ _ _
  clear_value x2
  refine .ite ?_ ?_
  · exact .refl _ _ _
  · refine .ite ?_ ?_
    · assumption
    · refine Within.after (motPut_within ..) rfl rfl ?_
      assumption

theorem refStart_within (s : State) (c : Nat) : Within (some [11278,11279,11280,11282,11283]) [.mot] s (refStart s c) := by
  unfold refStart
  extract_lets x1 x2 x3 x4 x5
  clear_value x2
  clear_value x3
  clear_value x5
  refine Within.have_ (x := x1) ?_ fun hx1 => ?_
  · unfold x1
    refine Within.after (motPut_within ..) rfl rfl ?_
    refine .wr _ _ _ rfl ?_
    exact .refl _ _ _
  clear_value x1
  refine Within.have_ (x := x4) ?_ fun hx4 => ?_
  · unfold x4
    refine Within.after (stopRamp_within ..) rfl rfl ?_
    assumption
  clear_value x4
  refine .ite ?_ ?_
  · refine Within.after (planTo_within ..) rfl rfl ?_
    refine Within.after (putChan_within ..) rfl rfl ?_
    assumption
  · refine .ite ?_ ?_
    · refine Within.after (motPut_within ..) rfl rfl ?_
      refine Within.after (putChan_within ..) rfl rfl ?_
      assumption
    · refine Within.after (putChan_within ..) rfl rfl ?_
      assumption

theorem motApply_within {t : State} (s : State) (i : Nat) (e : Nat) (v : Nat) (h : motApply s i e v = some t) : Within none [.mot] s t := by
  unfold motApply at h
  dsimp only at h
  split at h
  · cases h
    refine .ite ?_ ?_
    · exact .refl _ _ _
    · refine .ite ?_ ?_
      · refine Within.after (newTarget_within ..) rfl rfl ?_
        refine .wr _ _ _ rfl ?_
        exact .refl _ _ _
      · refine .wr _ _ _ rfl ?_
        exact .refl _ _ _
  · split at h
    · cases h
      refine .ite ?_ ?_
      · exact .refl _ _ _
      · refine .ite ?_ ?_
        · refine .wr _ _ _ rfl ?_
          exact .refl _ _ _
        · refine Within.after (refStart_within ..) rfl rfl ?_
          exact .refl _ _ _
    · cases h

theorem noLoadAngle_within (s : State) (c : Nat) : Within (some [11283,11297,11303]) [.mot] s (noLoadAngle s c) := by
  unfold noLoadAngle
  extract_lets x1 x2
  clear_value x1
  refine Within.have_ (x := x2) ?_ fun hx2 => ?_
  · unfold x2
    refine Within.after (putChan_within ..) rfl rfl ?_
    exact .refl _ _ _
  clear_value x2
  refine Within.after (motPut_within ..) rfl rfl ?_
  refine Within.after (motPut_within ..) rfl rfl ?_
  refine .wr _ _ _ rfl ?_
  refine .wr _ _ _ rfl ?_
  assumption

theorem rampDown_within (s : State) (c : Nat) : Within (some [11278,11279,11280,11282,11283]) [.mot] s (rampDown s c) := by
  unfold rampDown
  extract_lets x1
  refine Within.have_ (x := x1) ?_ fun hx1 => ?_
  · unfold x1
    refine Within.after (stopRamp_within ..) rfl rfl ?_
    exact .refl _ _ _
  clear_value x1
  refine .ite ?_ ?_
  · refine .wr _ _ _ rfl ?_
    assumption
  · refine .wr _ _ _ rfl ?_
    assumption

theorem useStops_within (s : State) (c : Nat) : Within (some [5892,11278,11279,11280,11282,11283,11311]) [.mot,
    .recd] s (useStops s c) := by
  unfold useStops
  extract_lets x1 x2 x3
  clear_value x1
  clear_value x3
  refine Within.have_ (x := x2) ?_ fun hx2 => ?_
  · unfold x2
    refine .ite ?_ ?_
    · refine Within.after (refFail_within ..) rfl rfl ?_
      exact .refl _ _ _
    · refine Within.after (rampDown_within ..) rfl rfl ?_
      exact .refl _ _ _
  clear_value x2
  refine Within.after (motPut_within ..) rfl rfl ?_
  refine Within.after (putChan_within ..) rfl rfl ?_
  assumption

theorem useChanged_within (old : State) (s : State) (c : Nat) :
    Within (some [5892,11278,11279,11280,11282,11283,11297,11303,11311]) [.mot, .recd] s (useChanged old s c) := by
  unfold useChanged
  extract_lets x1 x2 x3 x4 x5
  clear_value x2
  clear_value x3
  clear_value x5
  refine Within.have_ (x := x1) ?_ fun hx1 => ?_
  · unfold x1
    refine Within.after (useStops_within ..) rfl rfl ?_
    exact .refl _ _ _
  clear_value x1
  refine Within.have_ (x := x4) ?_ fun hx4 => ?_
  · unfold x4
    refine .ite ?_ ?_
    · refine Within.after (noLoadAngle_within ..) rfl rfl ?_
      assumption
    · refine .ite ?_ ?_
      · refine Within.after (putChan_within ..) rfl rfl ?_
        assumption
      · assumption
  clear_value x4
  refine .ite ?_ ?_
  · refine Within.after (newTarget_within ..) rfl rfl ?_
    assumption
  · assumption

theorem motCommitted_within (old : State) (s : State) (touched : List (Nat × Nat)) :
    Within (some [5892,11278,11279,11280,11282,11283,11297,11303,11311]) [.mot, .recd] s (motCommitted old s touched) := by
  unfold motCommitted
  refine .foldl (fun t1 x2 => ?_) _ ?_
  · extract_lets x3 x4
    clear_value x3
    clear_value x4
    refine .ite ?_ ?_
    · exact .refl _ _ _
    · refine .ite ?_ ?_
      · refine Within.after (useChanged_within ..) rfl rfl ?_
        exact .refl _ _ _
      · refine .ite ?_ ?_
        · refine .ite ?_ ?_
          · exact .refl _ _ _
          · refine Within.after (putChan_within ..) rfl rfl ?_
            exact .refl _ _ _
        · refine .ite ?_ ?_
          · refine .ite ?_ ?_
            · refine Within.after (motPut_within ..) rfl rfl ?_
              exact .refl _ _ _
            · exact .refl _ _ _
          · refine .ite ?_ ?_
            · refine Within.after (newTarget_within ..) rfl rfl ?_
              exact .refl _ _ _
            · exact .refl _ _ _
  · exact .refl _ _ _

theorem motFromLoop_within (s : State) (slot : Nat) : Within (some [11283]) [.mot] s (motFromLoop s slot) := by
  unfold motFromLoop
  refine .foldl (fun t1 x2 => ?_) _ ?_
  · extract_lets x3
    clear_value x3
    refine .ite ?_ ?_
    · refine .ite ?_ ?_
      · exact .refl _ _ _
      · refine Within.after (newTarget_within ..) rfl rfl ?_
        exact .refl _ _ _
    · exact .refl _ _ _
  · exact .refl _ _ _

theorem motHaltAll_within (s : State) : Within (some [11278,11279,11280,11282,11283]) [.mot] s (motHaltAll s) := by
  unfold motHaltAll
  refine .foldl (fun t1 x2 => ?_) _ ?_
  · refine .ite ?_ ?_
    · refine Within.after (haltIdle_within ..) rfl rfl ?_
      exact .refl _ _ _
    · refine Within.after (haltChan_within ..) rfl rfl ?_
      exact .refl _ _ _
  · exact .refl _ _ _

theorem motOff_within (s : State) : Within (some []) [.mot] s (motOff s) := by
  unfold motOff
  refine .mot _ rfl ?_
  exact .refl _ _ _

theorem motSafeExit_within (s : State) : Within (some [11278,11279,11280,11282,11283]) [.mot] s (motSafeExit s) := by
  unfold motSafeExit
  refine .foldl (fun t1 x2 => ?_) _ ?_
  · extract_lets x3
    clear_value x3
    refine .ite ?_ ?_
    · exact .refl _ _ _
    · refine .ite ?_ ?_
      · refine Within.after (putChan_within ..) rfl rfl ?_
        exact .refl _ _ _
      · refine .ite ?_ ?_
        · refine Within.after (refStart_within ..) rfl rfl ?_
          exact .refl _ _ _
        · exact .refl _ _ _
  · exact .refl _ _ _

theorem motSafeHold_within (s : State) : Within (some [5892,11278,11279,11280,11282,11283,11311]) [.mot, .recd] s (motSafeHold s) := by
  unfold motSafeHold
  refine .foldl (fun t1 x2 => ?_) _ ?_
  · extract_lets x3
    clear_value x3
    refine .ite ?_ ?_
    · refine Within.after (refFail_within ..) rfl rfl ?_
      exact .refl _ _ _
    · refine .ite ?_ ?_
      · exact .refl _ _ _
      · refine Within.after (rampDown_within ..) rfl rfl ?_
        exact .refl _ _ _
  · exact .refl _ _ _

theorem motStart_within (s : State) : Within (some [11278,11279,11280,11282,11283]) [.mot] s (motStart s) := by
  unfold motStart
  refine .foldl (fun t1 x2 => ?_) _ ?_
  · extract_lets x3
    refine Within.have_ (x := x3) ?_ fun hx3 => ?_
    · unfold x3
      refine .wr _ _ _ rfl ?_
      exact .refl _ _ _
    clear_value x3
    refine .ite ?_ ?_
    · refine Within.after (refStart_within ..) rfl rfl ?_
      assumption
    · assumption
  · exact .refl _ _ _

theorem motionTick_within (sense : List PhaseSense) (lanes : Option LaneCheck) (s : State) :
    Within (some [4160,4163,5892,11278,11279,11280,11282,11283,11297,11303,11311]) [.mode, .mot, .net, .recd,
        .sys] s (motionTick sense lanes s).1 := by
  unfold motionTick
  extract_lets x1 x2 x3 x4
  clear_value x3
  refine Within.have_ (x := x1.1) ?_ fun hx1 => ?_
  · unfold x1
    refine Within.after (laneVerdict_within ..) rfl rfl ?_
    exact .refl _ _ _
  clear_value x1
  refine Within.have_ (x := x2) ?_ fun hx2 => ?_
  · unfold x2
    assumption
  clear_value x2
  refine Within.have_ (x := x4) ?_ fun hx4 => ?_
  · unfold x4
    refine .mot _ rfl ?_
    assumption
  clear_value x4
  split
  · split
    · dsimp only
      refine Within.after (motHaltAll_within ..) rfl rfl ?_
      assumption
    · dsimp only
      refine .foldl (fun t5 x6 => ?_) _ ?_
      · refine Within.after (chanTick_within ..) rfl rfl ?_
        exact .refl _ _ _
      · assumption
  · dsimp only
    exact .refl _ _ _

theorem refDone_within (s : State) (c : Nat) : Within (some [11282,11283,11311]) [.mot] s (refDone s c) := by
  unfold refDone
  extract_lets x1 x2 x3
  clear_value x3
  refine Within.have_ (x := x1) ?_ fun hx1 => ?_
  · unfold x1
    refine .wr _ _ _ rfl ?_
    refine .wr _ _ _ rfl ?_
    exact .refl _ _ _
  clear_value x1
  refine Within.have_ (x := x2) ?_ fun hx2 => ?_
  · unfold x2
    refine Within.after (motPut_within ..) rfl rfl ?_
    refine Within.after (motPut_within ..) rfl rfl ?_
    refine Within.after (motPut_within ..) rfl rfl ?_
    assumption
  clear_value x2
  refine Within.after (putChan_within ..) rfl rfl ?_
  assumption

theorem referenceBackoffDone_within (c : Nat) (s : State) : Within (some [11282,11283,11311]) [.mot] s (referenceBackoffDone c s) := by
  unfold referenceBackoffDone
  extract_lets x1
  clear_value x1
  refine .ite ?_ ?_
  · refine Within.after (refDone_within ..) rfl rfl ?_
    refine Within.after (motPut_within ..) rfl rfl ?_
    exact .refl _ _ _
  · exact .refl _ _ _

theorem referenceSettled_within (c : Nat) (s : State) : Within (some [11278,11279,11280,11283]) [.mot] s (referenceSettled c s) := by
  unfold referenceSettled
  extract_lets x1 x2 x3
  clear_value x1
  clear_value x2
  refine Within.have_ (x := x3) ?_ fun hx3 => ?_
  · unfold x3
    refine Within.after (putChan_within ..) rfl rfl ?_
    exact .refl _ _ _
  clear_value x3
  refine .ite ?_ ?_
  · refine Within.after (motPut_within ..) rfl rfl ?_
    refine Within.after (planTo_within ..) rfl rfl ?_
    assumption
  · exact .refl _ _ _

theorem stepPulse_within (c : Nat) (gapNs : Nat) (s : State) : Within (some [11288]) [.mot, .out] s (stepPulse c gapNs s) := by
  unfold stepPulse
  extract_lets x1 x2 x3 x4 x5 x6
  clear_value x1
  clear_value x2
  clear_value x3
  clear_value x4
  clear_value x5
  refine Within.have_ (x := x6) ?_ fun hx6 => ?_
  · unfold x6
    refine Within.after (State_send_within ..) rfl rfl ?_
    refine Within.after (putChan_within ..) rfl rfl ?_
    exact .refl _ _ _
  clear_value x6
  refine .ite ?_ ?_
  · exact .refl _ _ _
  · refine .ite ?_ ?_
    · refine .count _ _ _ rfl ?_
      assumption
    · assumption

theorem switchEdgeLatch_within (k : Nat) (input : Nat) (level : Bool) (count : Int) (time : Nat) (s : State) :
    Within (some [11278,11279,11280,11282,11283,11311,11331,11332,11333,11334]) [.mot] s (switchEdgeLatch k input level count time s) := by
  unfold switchEdgeLatch
  extract_lets x1 x2
  clear_value x1
  refine Within.have_ (x := x2) ?_ fun hx2 => ?_
  · unfold x2
    refine .count _ _ _ rfl ?_
    refine .wr _ _ _ rfl ?_
    refine .wr _ _ _ rfl ?_
    refine .wr _ _ _ rfl ?_
    exact .refl _ _ _
  clear_value x2
  refine .ite ?_ ?_
  · refine .ite ?_ ?_
    · refine Within.after (carEdge_within ..) rfl rfl ?_
      assumption
    · assumption
  · exact .refl _ _ _

end Sys2Proof.Laws
end

