-- ==== Sys2Proof/Laws/FrameIsland.lean ====
section
/-!
SUPPORT. What each operation of the safety island may change: entries by their indices and parts of the state by name. Meanings and claims
about frames cite these and unfold nothing.
-/
namespace Sys2Proof.Laws

open Sys2Proof Sys2Proof.Machine Sys2Proof.Safety

theorem clearTrip_within (s : State) (b : Nat) : Within (some [13313]) [] s (clearTrip s b) := by
  unfold clearTrip
  refine .ite ?_ ?_
  · refine .wrBit _ _ _ _ rfl ?_
    exact .refl _ _ _
  · exact .refl _ _ _

theorem putConn_within (s : State) (c : Nat) (x : MacConn) : Within (some []) [.saf] s (putConn s c x) := by
  unfold putConn
  extract_lets x1
  clear_value x1
  refine .saf _ rfl ?_
  exact .refl _ _ _

theorem putPair_within (s : State) (p : Nat) (x : PairState) : Within (some []) [.saf] s (putPair s p x) := by
  unfold putPair
  extract_lets x1
  clear_value x1
  refine .saf _ rfl ?_
  exact .refl _ _ _

theorem safEvent_within (s : State) (tag : Nat) (inst : Nat) (sev : Nat) (code : Nat) (set : Bool) :
    Within (some [5892]) [.recd] s (safEvent s tag inst sev code set) := by
  unfold safEvent
  refine Within.after (blockEvent_within ..) rfl rfl ?_
  exact .refl _ _ _

theorem showOut_within (s : State) (o : Nat) : Within (some [13382]) [] s (showOut s o) := by
  unfold showOut
  refine .wr _ _ _ rfl ?_
  exact .refl _ _ _

theorem ackLatches_within (s : State) : Within (some [5892,13313,13338,13341,13382,13383,13449,13455]) [.mer, .recd,
    .saf] s (ackLatches s) := by
  unfold ackLatches
  extract_lets x1 x2 x3 x4 x5
  refine Within.have_ (x := x1) ?_ fun hx1 => ?_
  · unfold x1
    refine .foldl (fun t6 x7 => ?_) _ ?_
    · extract_lets x8
      clear_value x8
      refine .ite ?_ ?_
      · refine Within.after (putPair_within ..) rfl rfl ?_
        refine .wrBit _ _ _ _ rfl ?_
        refine .wrBit _ _ _ _ rfl ?_
        refine .wr _ _ _ rfl ?_
        exact .refl _ _ _
      · exact .refl _ _ _
    · exact .refl _ _ _
  clear_value x1
  refine Within.have_ (x := x2) ?_ fun hx2 => ?_
  · unfold x2
    refine .foldl (fun t9 x10 => ?_) _ ?_
    · extract_lets x11
      clear_value x11
      refine .ite ?_ ?_
      · refine Within.after (showOut_within ..) rfl rfl ?_
        refine .wr _ _ _ rfl ?_
        refine .mer _ rfl ?_
        exact .refl _ _ _
      · exact .refl _ _ _
    · assumption
  clear_value x2
  refine Within.have_ (x := x3) ?_ fun hx3 => ?_
  · unfold x3
    refine .foldl (fun t12 x13 => ?_) _ ?_
    · extract_lets x14 x15 x16
      clear_value x16
      refine Within.have_ (x := x14) ?_ fun hx14 => ?_
      · unfold x14
        refine .ite ?_ ?_
        · refine .wr _ _ _ rfl ?_
          exact .refl _ _ _
        · exact .refl _ _ _
      clear_value x14
      refine Within.have_ (x := x15) ?_ fun hx15 => ?_
      · unfold x15
        refine .ite ?_ ?_
        · refine .wr _ _ _ rfl ?_
          assumption
        · assumption
      clear_value x15
      refine .ite ?_ ?_
      · refine Within.after (putConn_within ..) rfl rfl ?_
        assumption
      · assumption
    · assumption
  clear_value x3
  refine Within.have_ (x := x4) ?_ fun hx4 => ?_
  · unfold x4
    refine .ite ?_ ?_
    · assumption
    · refine Within.after (clearTrip_within ..) rfl rfl ?_
      assumption
  clear_value x4
  refine Within.have_ (x := x5) ?_ fun hx5 => ?_
  · unfold x5
    refine .ite ?_ ?_
    · assumption
    · refine Within.after (clearTrip_within ..) rfl rfl ?_
      assumption
  clear_value x5
  refine Within.after (safEvent_within ..) rfl rfl ?_
  assumption

theorem ackUcm_within (s : State) (k : Nat) : Within (some [5892,13313]) [.mer, .recd] s (ackUcm s k) := by
  unfold ackUcm
  extract_lets x1
  clear_value x1
  refine .ite ?_ ?_
  · refine Within.after (safEvent_within ..) rfl rfl ?_
    refine Within.after (clearTrip_within ..) rfl rfl ?_
    refine .mer _ rfl ?_
    exact .refl _ _ _
  · exact .refl _ _ _

theorem latchSet_within (s : State) : Within (some [13316]) [] s (latchSet s) := by
  unfold latchSet
  refine .countMod _ _ rfl ?_
  exact .refl _ _ _

theorem putPermit_within (s : State) (k : Nat) (x : CarPermit) : Within (some []) [.saf] s (putPermit s k x) := by
  unfold putPermit
  extract_lets x1
  clear_value x1
  refine .saf _ rfl ?_
  exact .refl _ _ _

theorem setTrip_within (s : State) (b : Nat) : Within (some [5892,13313,13314]) [.recd, .sys] s (setTrip s b) := by
  unfold setTrip
  extract_lets x1 x2 x3
  clear_value x3
  refine Within.have_ (x := x1) ?_ fun hx1 => ?_
  · unfold x1
    refine .countMod _ _ rfl ?_
    refine .wrBit _ _ _ _ rfl ?_
    exact .refl _ _ _
  clear_value x1
  refine Within.have_ (x := x2) ?_ fun hx2 => ?_
  · unfold x2
    refine Within.after (blockEvent_within ..) rfl rfl ?_
    assumption
  clear_value x2
  refine .ite ?_ ?_
  · exact .refl _ _ _
  · refine .ite ?_ ?_
    · refine .sys _ rfl ?_
      assumption
    · assumption

theorem evalCar_within (s : State) (k : Nat) : Within (some [5892,13313,13314,13316]) [.mer, .recd, .saf, .sys] s (evalCar s k) := by
  unfold evalCar
  extract_lets x1 x2 x3 x4 x5 x6 x7 x8 x9 x10 x11
  clear_value x1
  clear_value x2
  clear_value x3
  clear_value x4
  clear_value x5
  clear_value x6
  clear_value x7
  clear_value x8
  clear_value x11
  refine Within.have_ (x := x9) ?_ fun hx9 => ?_
  · unfold x9
    refine Within.after (latchSet_within ..) rfl rfl ?_
    refine .mer _ rfl ?_
    exact .refl _ _ _
  clear_value x9
  refine Within.have_ (x := x10) ?_ fun hx10 => ?_
  · unfold x10
    refine .ite ?_ ?_
    · refine Within.after (setTrip_within ..) rfl rfl ?_
      refine Within.after (safEvent_within ..) rfl rfl ?_
      assumption
    · exact .refl _ _ _
  clear_value x10
  refine Within.after (putPermit_within ..) rfl rfl ?_
  assumption

theorem noteCode_within (s : State) (o : Nat) : Within (some []) [.mer] s (noteCode s o) := by
  unfold noteCode
  extract_lets x1
  clear_value x1
  refine .mer _ rfl ?_
  exact .refl _ _ _

theorem putOut_within (s : State) (o : Nat) (x : OutState) : Within (some []) [.saf] s (putOut s o x) := by
  unfold putOut
  extract_lets x1
  clear_value x1
  refine .saf _ rfl ?_
  exact .refl _ _ _

theorem switchOff_within (s : State) (o : Nat) : Within (some []) [.saf] s (switchOff s o) := by
  unfold switchOff
  extract_lets x1
  clear_value x1
  refine .ite ?_ ?_
  · refine Within.after (putOut_within ..) rfl rfl ?_
    exact .refl _ _ _
  · exact .refl _ _ _

theorem latchOut_within (s : State) (o : Nat) (code : Nat) :
    Within (some [5892,13313,13314,13316,13382,13383,13385]) [.mer, .recd, .saf, .sys] s (latchOut s o code) := by
  unfold latchOut
  extract_lets x1 x2 x3 x4 x5 x6
  clear_value x2
  refine Within.have_ (x := x1) ?_ fun hx1 => ?_
  · unfold x1
    refine Within.after (switchOff_within ..) rfl rfl ?_
    exact .refl _ _ _
  clear_value x1
  refine Within.have_ (x := x3) ?_ fun hx3 => ?_
  · unfold x3
    refine .ite ?_ ?_
    · refine Within.after (putOut_within ..) rfl rfl ?_
      assumption
    · assumption
  clear_value x3
  refine Within.have_ (x := x4) ?_ fun hx4 => ?_
  · unfold x4
    refine Within.after (latchSet_within ..) rfl rfl ?_
    refine .count _ _ _ rfl ?_
    refine .wr _ _ _ rfl ?_
    refine Within.after (noteCode_within ..) rfl rfl ?_
    assumption
  clear_value x4
  refine Within.have_ (x := x5) ?_ fun hx5 => ?_
  · unfold x5
    refine Within.after (safEvent_within ..) rfl rfl ?_
    assumption
  clear_value x5
  refine Within.have_ (x := x6) ?_ fun hx6 => ?_
  · unfold x6
    refine .ite ?_ ?_
    · refine Within.after (setTrip_within ..) rfl rfl ?_
      assumption
    · refine .ite ?_ ?_
      · refine Within.after (setTrip_within ..) rfl rfl ?_
        assumption
      · assumption
  clear_value x6
  refine .ite ?_ ?_
  · refine Within.after (showOut_within ..) rfl rfl ?_
    assumption
  · refine Within.after (showOut_within ..) rfl rfl ?_
    assumption

theorem evalOut_within (i : IslandIn) (s : State) (o : Nat) :
    Within (some [5892,13313,13314,13316,13382,13383,13385]) [.mer, .recd, .saf, .sys] s (evalOut i s o) := by
  unfold evalOut
  extract_lets x1 x2 x3 x4 x5 x6 x7 x8
  clear_value x1
  clear_value x2
  clear_value x3
  clear_value x4
  clear_value x5
  clear_value x6
  clear_value x8
  refine Within.have_ (x := x7) ?_ fun hx7 => ?_
  · unfold x7
    refine .ite ?_ ?_
    · refine Within.after (putOut_within ..) rfl rfl ?_
      exact .refl _ _ _
    · exact .refl _ _ _
  clear_value x7
  refine .ite ?_ ?_
  · refine .ite ?_ ?_
    · refine Within.after (showOut_within ..) rfl rfl ?_
      refine Within.after (switchOff_within ..) rfl rfl ?_
      exact .refl _ _ _
    · refine .ite ?_ ?_
      · refine Within.after (putOut_within ..) rfl rfl ?_
        exact .refl _ _ _
      · refine .ite ?_ ?_
        · refine Within.after (latchOut_within ..) rfl rfl ?_
          exact .refl _ _ _
        · refine .ite ?_ ?_
          · refine Within.after (latchOut_within ..) rfl rfl ?_
            exact .refl _ _ _
          · refine Within.after (putOut_within ..) rfl rfl ?_
            exact .refl _ _ _
  · refine .ite ?_ ?_
    · refine Within.after (latchOut_within ..) rfl rfl ?_
      exact .refl _ _ _
    · refine .ite ?_ ?_
      · refine .ite ?_ ?_
        · refine Within.after (putOut_within ..) rfl rfl ?_
          assumption
        · refine .ite ?_ ?_
          · refine Within.after (latchOut_within ..) rfl rfl ?_
            refine Within.after (putOut_within ..) rfl rfl ?_
            assumption
          · refine Within.after (putOut_within ..) rfl rfl ?_
            assumption
      · refine .ite ?_ ?_
        · refine .ite ?_ ?_
          · refine Within.after (showOut_within ..) rfl rfl ?_
            refine Within.after (putOut_within ..) rfl rfl ?_
            assumption
          · refine Within.after (latchOut_within ..) rfl rfl ?_
            assumption
        · assumption

theorem latchPair_within (s : State) (p : Nat) (code : Nat) :
    Within (some [5892,13316,13337,13338,13340,13341]) [.recd, .saf] s (latchPair s p code) := by
  unfold latchPair
  extract_lets x1 x2 x3 x4
  clear_value x1
  clear_value x4
  refine Within.have_ (x := x2) ?_ fun hx2 => ?_
  · unfold x2
    refine .count _ _ _ rfl ?_
    refine .wr _ _ _ rfl ?_
    refine .wrBit _ _ _ _ rfl ?_
    exact .refl _ _ _
  clear_value x2
  refine Within.have_ (x := x3) ?_ fun hx3 => ?_
  · unfold x3
    refine Within.after (safEvent_within ..) rfl rfl ?_
    refine Within.after (latchSet_within ..) rfl rfl ?_
    assumption
  clear_value x3
  refine .ite ?_ ?_
  · exact .refl _ _ _
  · refine Within.after (putPair_within ..) rfl rfl ?_
    refine .wr _ _ _ rfl ?_
    assumption

theorem pairResult_within (s : State) (p : Nat) (x : PairState) (v : PairView) (level : Bool) (a : Bool) (b : Bool) :
    Within (some [13337,13338]) [.saf] s (pairResult s p x v level a b) := by
  unfold pairResult
  extract_lets x1 x2 x3 x4 x5 x6 x7 x8 x9
  clear_value x1
  clear_value x2
  clear_value x3
  clear_value x4
  clear_value x5
  clear_value x6
  clear_value x7
  clear_value x8
  clear_value x9
  refine Within.after (putPair_within ..) rfl rfl ?_
  refine .wr _ _ _ rfl ?_
  refine .wr _ _ _ rfl ?_
  exact .refl _ _ _

theorem evalPair_within (i : IslandIn) (s : State) (p : Nat) :
    Within (some [5892,13316,13337,13338,13339,13340,13341]) [.recd, .saf] s (evalPair i s p) := by
  unfold evalPair
  extract_lets x1 x2 x3 x4 x5 x6 x7 x8 x9 x10 x11 x12 x13 x14 x15 x16
  clear_value x1
  clear_value x2
  clear_value x3
  clear_value x4
  clear_value x5
  clear_value x6
  clear_value x7
  clear_value x8
  clear_value x9
  clear_value x10
  clear_value x11
  clear_value x12
  clear_value x13
  clear_value x14
  refine Within.have_ (x := x15) ?_ fun hx15 => ?_
  · unfold x15
    refine Within.after (putPair_within ..) rfl rfl ?_
    refine .wr _ _ _ rfl ?_
    exact .refl _ _ _
  clear_value x15
  refine Within.have_ (x := x16) ?_ fun hx16 => ?_
  · unfold x16
    refine .ite ?_ ?_
    · refine Within.after (latchPair_within ..) rfl rfl ?_
      assumption
    · assumption
  clear_value x16
  refine .ite ?_ ?_
  · refine .wr _ _ _ rfl ?_
    refine .wr _ _ _ rfl ?_
    refine .wr _ _ _ rfl ?_
    exact .refl _ _ _
  · refine Within.after (pairResult_within ..) rfl rfl ?_
    assumption

theorem inputTestPulse_within (p : Nat) (b : Bool) (siA : Bool) (siB : Bool) (s : State) :
    Within (some [5892,13316,13337,13338,13340,13341]) [.recd, .saf] s (inputTestPulse p b siA siB s) := by
  unfold inputTestPulse
  extract_lets x1 x2
  clear_value x1
  clear_value x2
  refine .ite ?_ ?_
  · refine Within.after (latchPair_within ..) rfl rfl ?_
    exact .refl _ _ _
  · exact .refl _ _ _

theorem outsOff_within (s : State) : Within (some [13382]) [.saf] s (outsOff s) := by
  unfold outsOff
  refine .foldl (fun t1 x2 => ?_) _ ?_
  · refine Within.after (showOut_within ..) rfl rfl ?_
    refine Within.after (switchOff_within ..) rfl rfl ?_
    exact .refl _ _ _
  · exact .refl _ _ _

theorem islandBoot_within (s : State) : Within (some [13313,13338,13382]) [.saf] s (islandBoot s) := by
  unfold islandBoot
  extract_lets x1
  refine Within.have_ (x := x1) ?_ fun hx1 => ?_
  · unfold x1
    refine .wr _ _ _ rfl ?_
    refine .saf _ rfl ?_
    exact .refl _ _ _
  clear_value x1
  refine .foldl (fun t2 x3 => ?_) _ ?_
  · extract_lets x4
    clear_value x4
    refine .ite ?_ ?_
    · refine .wrBit _ _ _ _ rfl ?_
      exact .refl _ _ _
    · refine .ite ?_ ?_
      · refine .wrBit _ _ _ _ rfl ?_
        exact .refl _ _ _
      · exact .refl _ _ _
  · refine Within.after (outsOff_within ..) rfl rfl ?_
    assumption

theorem islandFault_within (s : State) : Within (some [4160,4163,5892,13313,13314,13382]) [.mode, .net, .recd, .saf,
    .sys] s (islandFault s) := by
  unfold islandFault
  refine Within.after (outsOff_within ..) rfl rfl ?_
  refine Within.after (setTrip_within ..) rfl rfl ?_
  refine Within.after (raiseFault_within ..) rfl rfl ?_
  exact .refl _ _ _

theorem liveCauses_within (s : State) : Within (some [5892,13313,13314]) [.recd, .sys] s (liveCauses s) := by
  unfold liveCauses
  extract_lets x1 x2 x3
  clear_value x1
  clear_value x3
  refine Within.have_ (x := x2) ?_ fun hx2 => ?_
  · unfold x2
    refine .ite ?_ ?_
    · refine Within.after (setTrip_within ..) rfl rfl ?_
      exact .refl _ _ _
    · refine Within.after (clearTrip_within ..) rfl rfl ?_
      exact .refl _ _ _
  clear_value x2
  refine .ite ?_ ?_
  · refine Within.after (setTrip_within ..) rfl rfl ?_
    assumption
  · refine .ite ?_ ?_
    · assumption
    · refine Within.after (clearTrip_within ..) rfl rfl ?_
      assumption

theorem islandCycle_within (i : IslandIn) (s : State) :
    Within (some [4160,4163,5892,13312,13313,13314,13316,13337,13338,13339,13340,13341,13382,13383,13384,13385]) [.mer, .mode, .net,
        .recd, .saf, .sys] s (islandCycle i s) := by
  unfold islandCycle
  extract_lets x1 x2 x3 x4 x5 x6 x7
  refine Within.have_ (x := x1) ?_ fun hx1 => ?_
  · unfold x1
    refine .wr _ _ _ rfl ?_
    exact .refl _ _ _
  clear_value x1
  refine Within.have_ (x := x2) ?_ fun hx2 => ?_
  · unfold x2
    refine .foldl (fun t8 x9 => ?_) _ ?_
    · refine Within.after (putPair_within ..) rfl rfl ?_
      exact .refl _ _ _
    · assumption
  clear_value x2
  refine Within.have_ (x := x3) ?_ fun hx3 => ?_
  · unfold x3
    refine .foldl (fun t10 x11 => ?_) _ ?_
    · refine Within.after (evalPair_within ..) rfl rfl ?_
      exact .refl _ _ _
    · assumption
  clear_value x3
  refine Within.have_ (x := x4) ?_ fun hx4 => ?_
  · unfold x4
    refine .ite ?_ ?_
    · refine Within.after (evalCar_within ..) rfl rfl ?_
      refine Within.after (evalCar_within ..) rfl rfl ?_
      assumption
    · assumption
  clear_value x4
  refine Within.have_ (x := x5) ?_ fun hx5 => ?_
  · unfold x5
    refine Within.after (liveCauses_within ..) rfl rfl ?_
    assumption
  clear_value x5
  refine Within.have_ (x := x6) ?_ fun hx6 => ?_
  · unfold x6
    refine .ite ?_ ?_
    · assumption
    · refine Within.after (islandFault_within ..) rfl rfl ?_
      assumption
  clear_value x6
  refine Within.have_ (x := x7) ?_ fun hx7 => ?_
  · unfold x7
    refine .foldl (fun t12 x13 => ?_) _ ?_
    · refine .wr _ _ _ rfl ?_
      exact .refl _ _ _
    · assumption
  clear_value x7
  refine .ite ?_ ?_
  · refine .foldl (fun t14 x15 => ?_) _ ?_
    · refine Within.after (evalOut_within ..) rfl rfl ?_
      exact .refl _ _ _
    · assumption
  · exact .refl _ _ _

theorem islandOff_within (s : State) : Within (some [13312,13382]) [.saf] s (islandOff s) := by
  unfold islandOff
  extract_lets x1
  refine Within.have_ (x := x1) ?_ fun hx1 => ?_
  · unfold x1
    refine Within.after (outsOff_within ..) rfl rfl ?_
    exact .refl _ _ _
  clear_value x1
  refine .wr _ _ _ rfl ?_
  refine .saf _ rfl ?_
  assumption

theorem openConn_within (s : State) (c : Nat) : Within (some [13449,13450]) [.saf] s (openConn s c) := by
  unfold openConn
  extract_lets x1
  refine Within.have_ (x := x1) ?_ fun hx1 => ?_
  · unfold x1
    refine Within.after (putConn_within ..) rfl rfl ?_
    exact .refl _ _ _
  clear_value x1
  refine .wr _ _ _ rfl ?_
  refine .wr _ _ _ rfl ?_
  assumption

theorem islandStart_within (s : State) : Within (some [13449,13450]) [.saf] s (islandStart s) := by
  unfold islandStart
  refine .foldl (fun t1 x2 => ?_) _ ?_
  · refine .ite ?_ ?_
    · exact .refl _ _ _
    · refine Within.after (openConn_within ..) rfl rfl ?_
      exact .refl _ _ _
  · exact .refl _ _ _

theorem macDone_within (s : State) (c : Nat) (num : Nat) : Within (some [13454]) [.saf] s (macDone s c num) := by
  unfold macDone
  extract_lets x1 x2
  clear_value x1
  refine Within.have_ (x := x2) ?_ fun hx2 => ?_
  · unfold x2
    split
    · refine .ite ?_ ?_
      · refine .count _ _ _ rfl ?_
        exact .refl _ _ _
      · exact .refl _ _ _
    · exact .refl _ _ _
  clear_value x2
  refine Within.after (putConn_within ..) rfl rfl ?_
  assumption

theorem macSafe_within (s : State) (c : Nat) : Within (some [13449]) [.saf] s (macSafe s c) := by
  unfold macSafe
  extract_lets x1
  clear_value x1
  refine .ite ?_ ?_
  · exact .refl _ _ _
  · refine Within.after (putConn_within ..) rfl rfl ?_
    refine .wr _ _ _ rfl ?_
    exact .refl _ _ _

theorem macAccept_within (s : State) (c : Nat) (num : Nat) (pdu : List Nat) (absent : Option Nat) :
    Within (some [13449,13450,13451,13452,13454]) [.saf] s (macAccept s c num pdu absent) := by
  unfold macAccept
  extract_lets x1 x2 x3 x4 x5 x6
  clear_value x1
  clear_value x3
  clear_value x4
  clear_value x5
  refine Within.have_ (x := x2) ?_ fun hx2 => ?_
  · unfold x2
    refine .wr _ _ _ rfl ?_
    refine .count _ _ _ rfl ?_
    refine Within.after (macDone_within ..) rfl rfl ?_
    exact .refl _ _ _
  clear_value x2
  refine Within.have_ (x := x6) ?_ fun hx6 => ?_
  · unfold x6
    refine .wr _ _ _ rfl ?_
    refine .wr _ _ _ rfl ?_
    assumption
  clear_value x6
  split
  · refine .ite ?_ ?_
    · refine Within.after (putConn_within ..) rfl rfl ?_
      refine .wr _ _ _ rfl ?_
      assumption
    · refine Within.after (putConn_within ..) rfl rfl ?_
      assumption
  · extract_lets x7 x8 x9
    clear_value x8
    refine Within.have_ (x := x7) ?_ fun hx7 => ?_
    · unfold x7
      refine .count _ _ _ rfl ?_
      refine .wr _ _ _ rfl ?_
      assumption
    clear_value x7
    refine Within.have_ (x := x9) ?_ fun hx9 => ?_
    · unfold x9
      refine Within.after (putConn_within ..) rfl rfl ?_
      assumption
    clear_value x9
    refine .ite ?_ ?_
    · refine Within.after (macSafe_within ..) rfl rfl ?_
      assumption
    · assumption

theorem macHold_within (s : State) (c : Nat) (lan : Nat) (num : Nat) (pdu : List Nat) : Within (some []) [.saf] s (macHold s c lan num
    pdu) := by
  unfold macHold
  extract_lets x1
  clear_value x1
  refine Within.after (putConn_within ..) rfl rfl ?_
  exact .refl _ _ _

theorem macMismatch_within (s : State) (c : Nat) : Within (some [5892,13316,13449,13455]) [.recd, .saf] s (macMismatch s c) := by
  unfold macMismatch
  extract_lets x1 x2
  clear_value x1
  refine Within.have_ (x := x2) ?_ fun hx2 => ?_
  · unfold x2
    refine Within.after (putConn_within ..) rfl rfl ?_
    exact .refl _ _ _
  clear_value x2
  refine Within.after (safEvent_within ..) rfl rfl ?_
  refine Within.after (latchSet_within ..) rfl rfl ?_
  refine .wr _ _ _ rfl ?_
  refine .wr _ _ _ rfl ?_
  assumption

theorem macFresh_within (s : State) (c : Nat) (lan : Nat) (num : Nat) (pdu : List Nat) :
    Within (some [5892,13316,13449,13454,13455]) [.recd, .saf] s (macFresh s c lan num pdu) := by
  unfold macFresh
  extract_lets x1 x2
  clear_value x1
  refine Within.have_ (x := x2) ?_ fun hx2 => ?_
  · unfold x2
    refine .ite ?_ ?_
    · exact .refl _ _ _
    · refine .wr _ _ _ rfl ?_
      exact .refl _ _ _
  clear_value x2
  split
  · refine .ite ?_ ?_
    · refine Within.after (putConn_within ..) rfl rfl ?_
      exact .refl _ _ _
    · refine Within.after (macMismatch_within ..) rfl rfl ?_
      exact .refl _ _ _
  · split
    · refine Within.after (macHold_within ..) rfl rfl ?_
      exact .refl _ _ _
    · refine .ite ?_ ?_
      · refine Within.after (macHold_within ..) rfl rfl ?_
        exact .refl _ _ _
      · refine .ite ?_ ?_
        · refine Within.after (macHold_within ..) rfl rfl ?_
          refine Within.after (putConn_within ..) rfl rfl ?_
          assumption
        · refine .count _ _ _ rfl ?_
          exact .refl _ _ _

theorem macaronCopyRx_within (lan : Nat) (src : Nat) (bytes : List Nat) (s : State) :
    Within (some [5892,13316,13449,13450,13451,13452,13453,13454,13455]) [.recd, .saf] s (macaronCopyRx lan src bytes s) := by
  unfold macaronCopyRx
  refine .ite ?_ ?_
  · split
    · exact .refl _ _ _
    · extract_lets x1 x2
      clear_value x1
      clear_value x2
      refine .ite ?_ ?_
      · refine .count _ _ _ rfl ?_
        exact .refl _ _ _
      · split
        · refine Within.after (macFresh_within ..) rfl rfl ?_
          exact .refl _ _ _
        · refine .ite ?_ ?_
          · refine .count _ _ _ rfl ?_
            exact .refl _ _ _
          · refine .ite ?_ ?_
            · refine Within.after (macAccept_within ..) rfl rfl ?_
              exact .refl _ _ _
            · refine Within.after (macMismatch_within ..) rfl rfl ?_
              refine Within.after (macDone_within ..) rfl rfl ?_
              exact .refl _ _ _
  · exact .refl _ _ _

theorem macaronProducerSend_within (c : Nat) (s : State) : Within (some [4373,13449,13450]) [.net, .out,
    .saf] s (macaronProducerSend c s) := by
  unfold macaronProducerSend
  extract_lets x1 x2 x3 x4 x5 x6
  clear_value x1
  clear_value x2
  clear_value x3
  clear_value x5
  refine Within.have_ (x := x4) ?_ fun hx4 => ?_
  · unfold x4
    refine .ite ?_ ?_
    · refine Within.after (sendUp_within ..) rfl rfl ?_
      exact .refl _ _ _
    · refine Within.after (enqueue_within ..) rfl rfl ?_
      refine Within.after (enqueue_within ..) rfl rfl ?_
      exact .refl _ _ _
  clear_value x4
  refine Within.have_ (x := x6) ?_ fun hx6 => ?_
  · unfold x6
    refine Within.after (putConn_within ..) rfl rfl ?_
    assumption
  clear_value x6
  refine .ite ?_ ?_
  · refine Within.after (State_send_within ..) rfl rfl ?_
    refine .wr _ _ _ rfl ?_
    refine .wr _ _ _ rfl ?_
    assumption
  · exact .refl _ _ _

theorem macaronSkewExpiry_within (c : Nat) (s : State) : Within (some [13449,13450,13451,13452,
    13454]) [.saf] s (macaronSkewExpiry c s) := by
  unfold macaronSkewExpiry
  split
  · refine .ite ?_ ?_
    · refine Within.after (macAccept_within ..) rfl rfl ?_
      exact .refl _ _ _
    · exact .refl _ _ _
  · exact .refl _ _ _

theorem macaronWatchdog_within (c : Nat) (s : State) : Within (some [13449]) [.saf] s (macaronWatchdog c s) := by
  unfold macaronWatchdog
  refine .ite ?_ ?_
  · refine Within.after (macSafe_within ..) rfl rfl ?_
    exact .refl _ _ _
  · exact .refl _ _ _

theorem outputOverload_within (o : Nat) (s : State) :
    Within (some [5892,13313,13314,13316,13382,13383,13385]) [.mer, .recd, .saf, .sys] s (outputOverload o s) := by
  unfold outputOverload
  refine .ite ?_ ?_
  · refine Within.after (latchOut_within ..) rfl rfl ?_
    exact .refl _ _ _
  · exact .refl _ _ _

theorem outputTestPulse_within (o : Nat) (half : Bool) (soH : Nat) (soL : Nat) (moved : Bool) (demand : Bool) (s : State) :
    Within (some [5892,13313,13314,13316,13382,13383,13385]) [.mer, .recd, .saf,
        .sys] s (outputTestPulse o half soH soL moved demand s) := by
  unfold outputTestPulse
  extract_lets x1 x2 x3
  clear_value x1
  clear_value x2
  clear_value x3
  refine .ite ?_ ?_
  · refine .ite ?_ ?_
    · refine Within.after (latchOut_within ..) rfl rfl ?_
      exact .refl _ _ _
    · refine .ite ?_ ?_
      · refine Within.after (latchOut_within ..) rfl rfl ?_
        exact .refl _ _ _
      · refine Within.after (putOut_within ..) rfl rfl ?_
        exact .refl _ _ _
  · exact .refl _ _ _

theorem safApply_within {t : State} (s : State) (i : Nat) (e : Nat) (v : Nat) (h : safApply s i e v = some t) :
    Within (some [5892,13313,13338,13341,13382,13383,13449,13455]) [.mer, .recd, .saf] s t := by
  unfold safApply at h
  dsimp only at h
  split at h
  · cases h
    refine .ite ?_ ?_
    · refine Within.after (ackLatches_within ..) rfl rfl ?_
      exact .refl _ _ _
    · exact .refl _ _ _
  · split at h
    · cases h
      refine .ite ?_ ?_
      · refine Within.after (ackUcm_within ..) rfl rfl ?_
        exact .refl _ _ _
      · exact .refl _ _ _
    · split at h
      · cases h
        refine .ite ?_ ?_
        · refine .saf _ rfl ?_
          exact .refl _ _ _
        · exact .refl _ _ _
      · cases h

theorem safCommitted_within (old : State) (s : State) (touched : List (Nat × Nat)) :
    Within (some [5892,13382,13449,13450]) [.recd, .saf] s (safCommitted old s touched) := by
  unfold safCommitted
  extract_lets x1 x2 x3 x4 x5
  clear_value x1
  clear_value x2
  clear_value x5
  refine Within.have_ (x := x3) ?_ fun hx3 => ?_
  · unfold x3
    refine .foldl (fun t6 x7 => ?_) _ ?_
    · extract_lets x8 x9
      clear_value x8
      clear_value x9
      refine .ite ?_ ?_
      · refine Within.after (showOut_within ..) rfl rfl ?_
        refine Within.after (switchOff_within ..) rfl rfl ?_
        exact .refl _ _ _
      · exact .refl _ _ _
    · exact .refl _ _ _
  clear_value x3
  refine Within.have_ (x := x4) ?_ fun hx4 => ?_
  · unfold x4
    refine .foldl (fun t10 x11 => ?_) _ ?_
    · extract_lets x12
      clear_value x12
      refine .ite ?_ ?_
      · refine Within.after (putPair_within ..) rfl rfl ?_
        exact .refl _ _ _
      · exact .refl _ _ _
    · assumption
  clear_value x4
  refine .ite ?_ ?_
  · exact .refl _ _ _
  · refine Within.after (safEvent_within ..) rfl rfl ?_
    refine .foldl (fun t13 x14 => ?_) _ ?_
    · refine Within.after (openConn_within ..) rfl rfl ?_
      exact .refl _ _ _
    · assumption

end Sys2Proof.Laws
end

