-- ==== Sys2Proof/Laws/FrameLift.lean ====
section
/-!
SUPPORT. What each operation of the lift unit may change: entries by their indices and parts of the state by name. Meanings and claims
about frames cite these and unfold nothing.
-/
namespace Sys2Proof.Laws

open Sys2Proof Sys2Proof.Machine Sys2Proof.Safety

theorem learnAborted_within (s : State) (k : Nat) : Within (some [12326]) [] s (learnAborted s k) := by
  unfold learnAborted
  split
  · refine .ite ?_ ?_
    · refine .wr _ _ _ rfl ?_
      exact .refl _ _ _
    · exact .refl _ _ _
  · exact .refl _ _ _

theorem putCar_within (s : State) (k : Nat) (x : LiftCar) : Within (some []) [.lft] s (putCar s k x) := by
  unfold putCar
  extract_lets x1
  clear_value x1
  refine .lft _ rfl ?_
  exact .refl _ _ _

theorem dropRun_within (s : State) (k : Nat) : Within (some [11278,11279,11280,11282,11283,12326]) [.lft, .mot] s (dropRun s k) := by
  unfold dropRun
  extract_lets x1 x2
  clear_value x2
  refine Within.have_ (x := x1) ?_ fun hx1 => ?_
  · unfold x1
    refine Within.after (haltIdle_within ..) rfl rfl ?_
    refine Within.after (learnAborted_within ..) rfl rfl ?_
    exact .refl _ _ _
  clear_value x1
  refine Within.after (putCar_within ..) rfl rfl ?_
  assumption

theorem setLs_within (s : State) (k : Nat) (st : Nat) : Within (some [12291]) [] s (setLs s k st) := by
  unfold setLs
  refine .wr _ _ _ rfl ?_
  exact .refl _ _ _

theorem abandonRun_within (s : State) (k : Nat) : Within (some [11278,11279,11280,11282,11283,12291,12326]) [.lft,
    .mot] s (abandonRun s k) := by
  unfold abandonRun
  refine Within.after (setLs_within ..) rfl rfl ?_
  refine Within.after (dropRun_within ..) rfl rfl ?_
  exact .refl _ _ _

theorem queueCall_within (s : State) (seq : Nat) (k : Nat) (v : Nat) : Within (some []) [.lft] s (queueCall s seq k v) := by
  unfold queueCall
  extract_lets x1
  clear_value x1
  refine .lft _ rfl ?_
  exact .refl _ _ _

theorem applyCall_within (s : State) (seq : Nat) (k : Nat) (v : Nat) : Within (some []) [.lft, .mer] s (applyCall s seq k v) := by
  unfold applyCall
  refine .ite ?_ ?_
  · refine Within.after (callDone_within ..) rfl rfl ?_
    refine .ite ?_ ?_
    · refine Within.after (queueCall_within ..) rfl rfl ?_
      exact .refl _ _ _
    · exact .refl _ _ _
  · refine Within.after (queueCall_within ..) rfl rfl ?_
    exact .refl _ _ _

theorem toBrake_within (s : State) (k : Nat) : Within (some [11278,11279,11280,11282,11283,12326]) [.lft, .mot] s (toBrake s k) := by
  unfold toBrake
  extract_lets x1 x2
  clear_value x2
  refine Within.have_ (x := x1) ?_ fun hx1 => ?_
  · unfold x1
    refine Within.after (haltIdle_within ..) rfl rfl ?_
    refine Within.after (learnAborted_within ..) rfl rfl ?_
    exact .refl _ _ _
  clear_value x1
  refine Within.after (putCar_within ..) rfl rfl ?_
  assumption

theorem brakeStop_within (s : State) (k : Nat) : Within (some [11278,11279,11280,11282,11283,12291,12326]) [.lft,
    .mot] s (brakeStop s k) := by
  unfold brakeStop
  refine Within.after (setLs_within ..) rfl rfl ?_
  refine Within.after (toBrake_within ..) rfl rfl ?_
  exact .refl _ _ _

theorem rampStop_within (s : State) (k : Nat) : Within (some [11278,11279,11280,11282,11283,12291,12326]) [.lft,
    .mot] s (rampStop s k) := by
  unfold rampStop
  extract_lets x1 x2
  clear_value x2
  refine Within.have_ (x := x1) ?_ fun hx1 => ?_
  · unfold x1
    refine Within.after (rampDown_within ..) rfl rfl ?_
    refine Within.after (learnAborted_within ..) rfl rfl ?_
    exact .refl _ _ _
  clear_value x1
  refine Within.after (setLs_within ..) rfl rfl ?_
  refine Within.after (putCar_within ..) rfl rfl ?_
  assumption

theorem faultAction_within (s : State) (k : Nat) (onBrake : Bool) :
    Within (some [11278,11279,11280,11282,11283,12291,12326]) [.lft, .mot] s (faultAction s k onBrake) := by
  unfold faultAction
  refine .ite ?_ ?_
  · refine .ite ?_ ?_
    · refine Within.after (brakeStop_within ..) rfl rfl ?_
      exact .refl _ _ _
    · refine .ite ?_ ?_
      · exact .refl _ _ _
      · refine Within.after (rampStop_within ..) rfl rfl ?_
        exact .refl _ _ _
  · refine .ite ?_ ?_
    · exact .refl _ _ _
    · refine Within.after (abandonRun_within ..) rfl rfl ?_
      exact .refl _ _ _

theorem liftEvent_within (s : State) (tag : Nat) (k : Nat) (sev : Nat) (set : Bool) (code : Nat) (count : Nat) :
    Within (some [5892]) [.recd] s (liftEvent s tag k sev set code count) := by
  unfold liftEvent
  refine Within.after (blockEvent_within ..) rfl rfl ?_
  exact .refl _ _ _

theorem takeFault_within (s : State) (k : Nat) (code : Nat) : Within (some [5892,12298]) [.recd] s (takeFault s k code) := by
  unfold takeFault
  refine Within.after (liftEvent_within ..) rfl rfl ?_
  refine .wr _ _ _ rfl ?_
  exact .refl _ _ _

theorem carFault_within (s : State) (k : Nat) (code : Nat) (onBrake : Bool) :
    Within (some [5892,11278,11279,11280,11282,11283,12291,12298,12326]) [.lft, .mot, .recd] s (carFault s k code onBrake) := by
  unfold carFault
  refine .ite ?_ ?_
  · exact .refl _ _ _
  · refine Within.after (faultAction_within ..) rfl rfl ?_
    refine Within.after (takeFault_within ..) rfl rfl ?_
    exact .refl _ _ _

theorem putDoor_within (s : State) (d : Nat) (x : LiftDoor) : Within (some []) [.lft] s (putDoor s d x) := by
  unfold putDoor
  extract_lets x1
  clear_value x1
  refine .lft _ rfl ?_
  exact .refl _ _ _

theorem setDoor_within (s : State) (d : Nat) (st : Nat) : Within (some [12380]) [] s (setDoor s d st) := by
  unfold setDoor
  refine .wr _ _ _ rfl ?_
  exact .refl _ _ _

theorem doorHold_within (s : State) (d : Nat) (why : Nat) :
    Within (some [11278,11279,11280,11282,11283,12380]) [.lft, .mot] s (doorHold s d why) := by
  unfold doorHold
  split
  · extract_lets x1
    clear_value x1
    refine Within.after (setDoor_within ..) rfl rfl ?_
    refine Within.after (putDoor_within ..) rfl rfl ?_
    refine Within.after (rampDown_within ..) rfl rfl ?_
    exact .refl _ _ _
  · exact .refl _ _ _

theorem blockedOpening_within (s : State) (k : Nat) (d : Nat) :
    Within (some [5892,11278,11279,11280,11282,11283,12291,12298,12326,12380]) [.lft, .mot, .recd] s (blockedOpening s k d) := by
  unfold blockedOpening
  extract_lets x1 x2 x3 x4 x5
  clear_value x1
  clear_value x3
  clear_value x4
  refine Within.have_ (x := x2) ?_ fun hx2 => ?_
  · unfold x2
    refine Within.after (doorHold_within ..) rfl rfl ?_
    exact .refl _ _ _
  clear_value x2
  refine Within.have_ (x := x5) ?_ fun hx5 => ?_
  · unfold x5
    refine Within.after (putDoor_within ..) rfl rfl ?_
    assumption
  clear_value x5
  refine .ite ?_ ?_
  · refine Within.after (carFault_within ..) rfl rfl ?_
    refine Within.after (setDoor_within ..) rfl rfl ?_
    assumption
  · assumption

theorem blockedOpeningRetry_within (d : Nat) (s : State) : Within (some [11283]) [.lft] s (blockedOpeningRetry d s) := by
  unfold blockedOpeningRetry
  refine .ite ?_ ?_
  · split
    · extract_lets x1
      clear_value x1
      refine Within.after (putDoor_within ..) rfl rfl ?_
      refine Within.after (motPut_within ..) rfl rfl ?_
      exact .refl _ _ _
    · exact .refl _ _ _
  · exact .refl _ _ _

theorem putDue_within (s : State) (k : Nat) (d : LiftDue) : Within (some []) [.lft] s (putDue s k d) := by
  unfold putDue
  extract_lets x1
  clear_value x1
  refine .ite ?_ ?_
  · exact .refl _ _ _
  · refine Within.after (putCar_within ..) rfl rfl ?_
    exact .refl _ _ _

theorem lateFault_within (s : State) (k : Nat) (code : Nat) : Within (some [5892,12298]) [.lft, .recd] s (lateFault s k code) := by
  unfold lateFault
  refine .ite ?_ ?_
  · exact .refl _ _ _
  · refine Within.after (putDue_within ..) rfl rfl ?_
    refine Within.after (takeFault_within ..) rfl rfl ?_
    exact .refl _ _ _

theorem brakeOpenTimeout_within (k : Nat) (s : State) : Within (some [5892,12298]) [.lft, .recd] s (brakeOpenTimeout k s) := by
  unfold brakeOpenTimeout
  refine .ite ?_ ?_
  · refine Within.after (lateFault_within ..) rfl rfl ?_
    exact .refl _ _ _
  · exact .refl _ _ _

theorem brakeReleaseDelay_within (k : Nat) (s : State) : Within (some []) [.lft] s (brakeReleaseDelay k s) := by
  unfold brakeReleaseDelay
  split
  · extract_lets x1
    clear_value x1
    refine .ite ?_ ?_
    · refine Within.after (putCar_within ..) rfl rfl ?_
      exact .refl _ _ _
    · exact .refl _ _ _
  · exact .refl _ _ _

theorem putCall_within (s : State) (k : Nat) (t : Nat) (l : Nat) (on : Bool) : Within (some [12305,12306,
    12307]) [] s (putCall s k t l on) := by
  have hk : admits (some [12305,12306,12307]) (callEntry t) = true := by
    unfold callEntry
    split
    · rfl
    · split <;> rfl
  exact .wr _ _ _ hk (.refl _ _ _)

theorem removeCall_within (s : State) (k : Nat) (t : Nat) (l : Nat) : Within (some [12305,12306,12307,
    12308]) [.mer] s (removeCall s k t l) := by
  unfold removeCall
  extract_lets x1 x2
  clear_value x1
  clear_value x2
  refine .ite ?_ ?_
  · refine .wr _ _ _ rfl ?_
    refine Within.after (putCall_within ..) rfl rfl ?_
    refine .mer _ rfl ?_
    exact .refl _ _ _
  · exact .refl _ _ _

theorem clearServed_within (s : State) (k : Nat) (l : Nat) : Within (some [12296,12305,12306,12307,
    12308]) [.mer] s (clearServed s k l) := by
  unfold clearServed
  extract_lets x1 x2 x3 x4 x5 x6
  clear_value x1
  clear_value x2
  clear_value x3
  refine Within.have_ (x := x4) ?_ fun hx4 => ?_
  · unfold x4
    refine Within.after (removeCall_within ..) rfl rfl ?_
    exact .refl _ _ _
  clear_value x4
  refine Within.have_ (x := x5) ?_ fun hx5 => ?_
  · unfold x5
    refine .ite ?_ ?_
    · refine Within.after (removeCall_within ..) rfl rfl ?_
      assumption
    · assumption
  clear_value x5
  refine Within.have_ (x := x6) ?_ fun hx6 => ?_
  · unfold x6
    refine .ite ?_ ?_
    · refine Within.after (removeCall_within ..) rfl rfl ?_
      assumption
    · assumption
  clear_value x6
  refine .wr _ _ _ rfl ?_
  assumption

theorem doorGo_within (s : State) (d : Nat) (c : Nat) (t : Int) (v : Option Frac) : Within (some [11265]) [.mot] s (doorGo s d c t v) := by
  unfold doorGo
  extract_lets x1 x2
  clear_value x1
  clear_value x2
  refine .wr _ _ _ rfl ?_
  refine Within.after (putChan_within ..) rfl rfl ?_
  exact .refl _ _ _

theorem doorOpenNow_within (s : State) (d : Nat) (st : Nat) : Within (some [11265,12380]) [.lft, .mot] s (doorOpenNow s d st) := by
  unfold doorOpenNow
  split
  · extract_lets x1
    clear_value x1
    refine Within.after (setDoor_within ..) rfl rfl ?_
    refine Within.after (putDoor_within ..) rfl rfl ?_
    refine Within.after (doorGo_within ..) rfl rfl ?_
    exact .refl _ _ _
  · exact .refl _ _ _

theorem openAt_within (s : State) (k : Nat) : Within (some [11265,12296,12305,12306,12307,12308,12380]) [.lft, .mer,
    .mot] s (openAt s k) := by
  unfold openAt
  extract_lets x1 x2 x3 x4 x5 x6
  clear_value x1
  clear_value x2
  clear_value x5
  refine Within.have_ (x := x3) ?_ fun hx3 => ?_
  · unfold x3
    refine .ite ?_ ?_
    · refine Within.after (clearServed_within ..) rfl rfl ?_
      exact .refl _ _ _
    · exact .refl _ _ _
  clear_value x3
  refine Within.have_ (x := x4) ?_ fun hx4 => ?_
  · unfold x4
    refine .ite ?_ ?_
    · refine .foldl (fun t7 x8 => ?_) _ ?_
      · refine Within.after (removeCall_within ..) rfl rfl ?_
        exact .refl _ _ _
      · assumption
    · assumption
  clear_value x4
  refine Within.have_ (x := x6) ?_ fun hx6 => ?_
  · unfold x6
    refine Within.after (putCar_within ..) rfl rfl ?_
    assumption
  clear_value x6
  refine .ite ?_ ?_
  · assumption
  · refine .foldl (fun t9 x10 => ?_) _ ?_
    · extract_lets x11
      clear_value x11
      refine .ite ?_ ?_
      · refine .ite ?_ ?_
        · refine Within.after (doorOpenNow_within ..) rfl rfl ?_
          exact .refl _ _ _
        · refine .ite ?_ ?_
          · refine Within.after (doorOpenNow_within ..) rfl rfl ?_
            exact .refl _ _ _
          · exact .refl _ _ _
      · exact .refl _ _ _
    · assumption

theorem wantOpen_within (s : State) (k : Nat) :
    Within (some [11265,12296,12305,12306,12307,12308,12380]) [.lft, .mer, .mot] s (wantOpen s k) := by
  unfold wantOpen
  extract_lets x1
  clear_value x1
  refine .ite ?_ ?_
  · refine Within.after (openAt_within ..) rfl rfl ?_
    exact .refl _ _ _
  · refine Within.after (putCar_within ..) rfl rfl ?_
    exact .refl _ _ _

theorem callHere_within (s : State) (k : Nat) :
    Within (some [11265,12291,12296,12305,12306,12307,12308,12380]) [.lft, .mer, .mot] s (callHere s k) := by
  unfold callHere
  extract_lets x1 x2 x3
  clear_value x1
  clear_value x2
  clear_value x3
  refine .ite ?_ ?_
  · exact .refl _ _ _
  · refine .ite ?_ ?_
    · refine Within.after (wantOpen_within ..) rfl rfl ?_
      exact .refl _ _ _
    · refine .ite ?_ ?_
      · refine Within.after (wantOpen_within ..) rfl rfl ?_
        refine Within.after (setLs_within ..) rfl rfl ?_
        refine Within.after (putCar_within ..) rfl rfl ?_
        exact .refl _ _ _
      · exact .refl _ _ _

theorem carOff_within (s : State) (k : Nat) : Within (some [12291,12326]) [.lft] s (carOff s k) := by
  unfold carOff
  extract_lets x1 x2 x3
  clear_value x3
  refine Within.have_ (x := x1) ?_ fun hx1 => ?_
  · unfold x1
    refine Within.after (learnAborted_within ..) rfl rfl ?_
    exact .refl _ _ _
  clear_value x1
  refine Within.have_ (x := x2) ?_ fun hx2 => ?_
  · unfold x2
    refine .ite ?_ ?_
    · refine .wr _ _ _ rfl ?_
      assumption
    · assumption
  clear_value x2
  refine .ite ?_ ?_
  · exact .refl _ _ _
  · refine Within.after (setLs_within ..) rfl rfl ?_
    refine Within.after (putCar_within ..) rfl rfl ?_
    assumption

theorem commandFrame_within (s : State) (k : Nat) : Within (some []) [.lft, .out] s (commandFrame s k) := by
  unfold commandFrame
  extract_lets x1 x2 x3 x4 x5 x6 x7 x8 x9 x10 x11
  clear_value x1
  clear_value x2
  clear_value x3
  clear_value x4
  clear_value x5
  clear_value x6
  clear_value x7
  clear_value x8
  clear_value x9
  clear_value x11
  refine Within.have_ (x := x10) ?_ fun hx10 => ?_
  · unfold x10
    refine Within.after (putCar_within ..) rfl rfl ?_
    exact .refl _ _ _
  clear_value x10
  split
  · refine .ite ?_ ?_
    · assumption
    · refine Within.after (State_send_within ..) rfl rfl ?_
      assumption
  · assumption

theorem doorTarget_within (s : State) (c : Nat) (t : Int) (cap : Option Nat) : Within (some [11265]) [.mot] s (doorTarget s c t cap) := by
  unfold doorTarget
  extract_lets x1
  clear_value x1
  refine .wr _ _ _ rfl ?_
  refine Within.after (putChan_within ..) rfl rfl ?_
  exact .refl _ _ _

theorem doorCloseNow_within (s : State) (d : Nat) (nudge : Bool) :
    Within (some [11265,11278,11279,11280,11282,11283,12380]) [.lft, .mot] s (doorCloseNow s d nudge) := by
  unfold doorCloseNow
  split
  · extract_lets x1 x2
    clear_value x1
    clear_value x2
    refine .ite ?_ ?_
    · refine Within.after (setDoor_within ..) rfl rfl ?_
      refine Within.after (putDoor_within ..) rfl rfl ?_
      refine Within.after (refStart_within ..) rfl rfl ?_
      refine Within.after (doorTarget_within ..) rfl rfl ?_
      exact .refl _ _ _
    · refine Within.after (setDoor_within ..) rfl rfl ?_
      refine Within.after (putDoor_within ..) rfl rfl ?_
      refine Within.after (doorGo_within ..) rfl rfl ?_
      exact .refl _ _ _
  · exact .refl _ _ _

theorem strokeBack_within (s : State) (d : Nat) : Within (some []) [.lft] s (strokeBack s d) := by
  unfold strokeBack
  extract_lets x1
  clear_value x1
  refine Within.after (putDoor_within ..) rfl rfl ?_
  exact .refl _ _ _

theorem doorButtons_within (read : State → Nat → Nat → Nat) (s : State) (k : Nat) (d : Nat) :
    Within (some [11265,11278,11279,11280,11282,11283,12291,12380]) [.lft, .mot] s (doorButtons read s k d) := by
  unfold doorButtons
  extract_lets x1 x2 x3 x4 x5
  clear_value x1
  clear_value x2
  clear_value x3
  clear_value x4
  clear_value x5
  refine .ite ?_ ?_
  · refine .ite ?_ ?_
    · refine Within.after (setLs_within ..) rfl rfl ?_
      refine Within.after (doorOpenNow_within ..) rfl rfl ?_
      exact .refl _ _ _
    · refine .ite ?_ ?_
      · refine Within.after (doorCloseNow_within ..) rfl rfl ?_
        exact .refl _ _ _
      · refine .ite ?_ ?_
        · refine Within.after (doorCloseNow_within ..) rfl rfl ?_
          exact .refl _ _ _
        · refine .ite ?_ ?_
          · refine Within.after (strokeBack_within ..) rfl rfl ?_
            refine Within.after (doorCloseNow_within ..) rfl rfl ?_
            exact .refl _ _ _
          · refine .ite ?_ ?_
            · refine Within.after (doorOpenNow_within ..) rfl rfl ?_
              exact .refl _ _ _
            · refine .ite ?_ ?_
              · refine Within.after (strokeBack_within ..) rfl rfl ?_
                refine Within.after (doorOpenNow_within ..) rfl rfl ?_
                exact .refl _ _ _
              · exact .refl _ _ _
  · refine .ite ?_ ?_
    · exact .refl _ _ _
    · refine .ite ?_ ?_
      · refine Within.after (doorCloseNow_within ..) rfl rfl ?_
        exact .refl _ _ _
      · refine .ite ?_ ?_
        · refine Within.after (doorCloseNow_within ..) rfl rfl ?_
          exact .refl _ _ _
        · exact .refl _ _ _

theorem doorRef_within (s : State) (d : Nat) : Within (some [11265,11278,11279,11280,11282,11283,12380]) [.mot] s (doorRef s d) := by
  unfold doorRef
  split
  · refine Within.after (setDoor_within ..) rfl rfl ?_
    refine Within.after (refStart_within ..) rfl rfl ?_
    refine Within.after (doorTarget_within ..) rfl rfl ?_
    exact .refl _ _ _
  · exact .refl _ _ _

theorem doorShutNow_within (s : State) (k : Nat) (d : Nat) : Within (some [12380]) [.lft] s (doorShutNow s k d) := by
  unfold doorShutNow
  extract_lets x1 x2
  clear_value x2
  refine Within.have_ (x := x1) ?_ fun hx1 => ?_
  · unfold x1
    refine Within.after (setDoor_within ..) rfl rfl ?_
    exact .refl _ _ _
  clear_value x1
  refine .ite ?_ ?_
  · refine Within.after (putCar_within ..) rfl rfl ?_
    assumption
  · assumption

theorem nudgeStart_within (s : State) (k : Nat) : Within (some []) [.lft] s (nudgeStart s k) := by
  unfold nudgeStart
  extract_lets x1
  clear_value x1
  refine .ite ?_ ?_
  · refine Within.after (putCar_within ..) rfl rfl ?_
    exact .refl _ _ _
  · exact .refl _ _ _

theorem obstruction_within (s : State) (k : Nat) (d : Nat) :
    Within (some [5892,11265,11278,11279,11280,11282,11283,12380,12382]) [.lft, .mot, .recd] s (obstruction s k d) := by
  unfold obstruction
  extract_lets x1
  refine Within.have_ (x := x1) ?_ fun hx1 => ?_
  · unfold x1
    refine Within.after (nudgeStart_within ..) rfl rfl ?_
    refine .count _ _ _ rfl ?_
    exact .refl _ _ _
  clear_value x1
  refine .ite ?_ ?_
  · refine Within.after (doorOpenNow_within ..) rfl rfl ?_
    assumption
  · refine .ite ?_ ?_
    · refine Within.after (liftEvent_within ..) rfl rfl ?_
      assumption
    · refine Within.after (doorHold_within ..) rfl rfl ?_
      refine Within.after (liftEvent_within ..) rfl rfl ?_
      assumption

theorem doorStep_within (read : State → Nat → Nat → Nat) (s : State) (k : Nat) (d : Nat) :
    Within (some [5892,11265,11278,11279,11280,11282,11283,12291,12298,12326,12380,12382]) [.lft, .mot, .recd] s (doorStep read s k d) := by
  unfold doorStep
  split
  · refine .ite ?_ ?_
    · exact .refl _ _ _
    · refine Within.after (setDoor_within ..) rfl rfl ?_
      exact .refl _ _ _
  · extract_lets x1 x2 x3 x4
    clear_value x1
    clear_value x2
    clear_value x3
    clear_value x4
    refine .ite ?_ ?_
    · refine Within.after (setDoor_within ..) rfl rfl ?_
      exact .refl _ _ _
    · refine .ite ?_ ?_
      · refine .ite ?_ ?_
        · exact .refl _ _ _
        · refine Within.after (doorRef_within ..) rfl rfl ?_
          exact .refl _ _ _
      · refine .ite ?_ ?_
        · refine .ite ?_ ?_
          · refine Within.after (carFault_within ..) rfl rfl ?_
            refine Within.after (setDoor_within ..) rfl rfl ?_
            exact .refl _ _ _
          · refine .ite ?_ ?_
            · refine Within.after (doorShutNow_within ..) rfl rfl ?_
              refine Within.after (putDoor_within ..) rfl rfl ?_
              exact .refl _ _ _
            · exact .refl _ _ _
        · refine .ite ?_ ?_
          · refine .ite ?_ ?_
            · refine Within.after (blockedOpening_within ..) rfl rfl ?_
              exact .refl _ _ _
            · refine .ite ?_ ?_
              · refine Within.after (doorHold_within ..) rfl rfl ?_
                exact .refl _ _ _
              · refine .ite ?_ ?_
                · refine Within.after (setDoor_within ..) rfl rfl ?_
                  refine Within.after (putDoor_within ..) rfl rfl ?_
                  exact .refl _ _ _
                · refine Within.after (doorButtons_within ..) rfl rfl ?_
                  exact .refl _ _ _
          · refine .ite ?_ ?_
            · refine .ite ?_ ?_
              · refine Within.after (doorRef_within ..) rfl rfl ?_
                exact .refl _ _ _
              · refine .ite ?_ ?_
                · refine Within.after (obstruction_within ..) rfl rfl ?_
                  exact .refl _ _ _
                · refine .ite ?_ ?_
                  · refine Within.after (doorShutNow_within ..) rfl rfl ?_
                    refine Within.after (putDoor_within ..) rfl rfl ?_
                    exact .refl _ _ _
                  · refine .ite ?_ ?_
                    · refine Within.after (doorCloseNow_within ..) rfl rfl ?_
                      exact .refl _ _ _
                    · refine Within.after (doorButtons_within ..) rfl rfl ?_
                      exact .refl _ _ _
            · refine .ite ?_ ?_
              · refine .ite ?_ ?_
                · exact .refl _ _ _
                · refine .ite ?_ ?_
                  · refine Within.after (doorButtons_within ..) rfl rfl ?_
                    exact .refl _ _ _
                  · refine .ite ?_ ?_
                    · refine .ite ?_ ?_
                      · exact .refl _ _ _
                      · refine Within.after (doorCloseNow_within ..) rfl rfl ?_
                        exact .refl _ _ _
                    · refine .ite ?_ ?_
                      · refine .ite ?_ ?_
                        · exact .refl _ _ _
                        · refine .ite ?_ ?_
                          · refine Within.after (doorOpenNow_within ..) rfl rfl ?_
                            exact .refl _ _ _
                          · exact .refl _ _ _
                      · refine .ite ?_ ?_
                        · refine Within.after (doorCloseNow_within ..) rfl rfl ?_
                          exact .refl _ _ _
                        · exact .refl _ _ _
              · refine Within.after (doorButtons_within ..) rfl rfl ?_
                exact .refl _ _ _

theorem forceRead_within (s : State) (d : Nat) : Within (some []) [.lft] s (forceRead s d) := by
  unfold forceRead
  extract_lets x1
  clear_value x1
  refine .ite ?_ ?_
  · refine Within.after (putDoor_within ..) rfl rfl ?_
    exact .refl _ _ _
  · exact .refl _ _ _

theorem doorSteps_within (read : State → Nat → Nat → Nat) (s : State) (k : Nat) :
    Within (some [5892,11265,11278,11279,11280,11282,11283,12291,12298,12326,12380,12382]) [.lft, .mot, .recd] s (doorSteps read s k) := by
  unfold doorSteps
  refine .foldl (fun t1 x2 => ?_) _ ?_
  · refine Within.after (forceRead_within ..) rfl rfl ?_
    refine Within.after (doorStep_within ..) rfl rfl ?_
    exact .refl _ _ _
  · exact .refl _ _ _

theorem carSync_within (s : State) (k : Nat) : Within (some [11278,11279,11280,11283]) [.mot] s (carSync s k) := by
  unfold carSync
  extract_lets x1 x2
  clear_value x1
  clear_value x2
  refine .ite ?_ ?_
  · refine Within.after (showChan_within ..) rfl rfl ?_
    refine Within.after (putChan_within ..) rfl rfl ?_
    exact .refl _ _ _
  · exact .refl _ _ _

theorem startRun_within (s : State) (k : Nat) (st : Nat) (r : LiftRun) :
    Within (some [11278,11279,11280,11283,12291]) [.lft, .mot] s (startRun s k st r) := by
  unfold startRun
  extract_lets x1 x2
  clear_value x2
  refine Within.have_ (x := x1) ?_ fun hx1 => ?_
  · unfold x1
    refine Within.after (carSync_within ..) rfl rfl ?_
    exact .refl _ _ _
  clear_value x1
  refine Within.after (setLs_within ..) rfl rfl ?_
  refine Within.after (putCar_within ..) rfl rfl ?_
  assumption

theorem findPosition_within (s : State) (k : Nat) (kind : Nat) :
    Within (some [11278,11279,11280,11283,12291]) [.lft, .mot] s (findPosition s k kind) := by
  unfold findPosition
  refine Within.after (startRun_within ..) rfl rfl ?_
  refine .foldl (fun t1 x2 => ?_) _ ?_
  · extract_lets x3
    clear_value x3
    refine Within.after (putDoor_within ..) rfl rfl ?_
    exact .refl _ _ _
  · exact .refl _ _ _

theorem refDoors_within (s : State) (k : Nat) : Within (some [11265,11278,11279,11280,11282,11283,12380]) [.mot] s (refDoors s k) := by
  unfold refDoors
  refine .foldl (fun t1 x2 => ?_) _ ?_
  · refine .ite ?_ ?_
    · refine Within.after (doorRef_within ..) rfl rfl ?_
      exact .refl _ _ _
    · exact .refl _ _ _
  · exact .refl _ _ _

theorem learnNow_within (s : State) (k : Nat) :
    Within (some [11265,11278,11279,11280,11282,11283,12291,12326,12380]) [.lft, .mot] s (learnNow s k) := by
  unfold learnNow
  extract_lets x1 x2
  clear_value x1
  clear_value x2
  refine .ite ?_ ?_
  · refine .ite ?_ ?_
    · refine Within.after (findPosition_within ..) rfl rfl ?_
      refine Within.after (putCar_within ..) rfl rfl ?_
      exact .refl _ _ _
    · refine Within.after (refDoors_within ..) rfl rfl ?_
      refine Within.after (putCar_within ..) rfl rfl ?_
      exact .refl _ _ _
  · refine .wr _ _ _ rfl ?_
    exact .refl _ _ _

theorem carGo_within (s : State) (k : Nat) (t : Int) (v : Option Frac) : Within (some [11265]) [.mot] s (carGo s k t v) := by
  unfold carGo
  extract_lets x1 x2
  clear_value x1
  clear_value x2
  refine .wr _ _ _ rfl ?_
  refine Within.after (putChan_within ..) rfl rfl ?_
  exact .refl _ _ _

theorem redirect_within (s : State) (k : Nat) (r : LiftRun) : Within (some [11265]) [.lft, .mot] s (redirect s k r) := by
  unfold redirect
  split
  · extract_lets x1
    clear_value x1
    refine Within.after (carGo_within ..) rfl rfl ?_
    refine Within.after (putCar_within ..) rfl rfl ?_
    exact .refl _ _ _
  · exact .refl _ _ _

theorem linkAction_within (s : State) (k : Nat) :
    Within (some [11265,11278,11279,11280,11282,11283,12291,12326]) [.lft, .mot] s (linkAction s k) := by
  unfold linkAction
  refine .ite ?_ ?_
  · refine Within.after (faultAction_within ..) rfl rfl ?_
    exact .refl _ _ _
  · split
    · extract_lets x1 x2 x3
      clear_value x1
      clear_value x2
      refine Within.have_ (x := x3) ?_ fun hx3 => ?_
      · unfold x3
        refine Within.after (putCar_within ..) rfl rfl ?_
        exact .refl _ _ _
      clear_value x3
      refine .ite ?_ ?_
      · refine Within.after (redirect_within ..) rfl rfl ?_
        exact .refl _ _ _
      · refine .ite ?_ ?_
        · assumption
        · refine .ite ?_ ?_
          · assumption
          · refine Within.after (faultAction_within ..) rfl rfl ?_
            exact .refl _ _ _
    · refine Within.after (faultAction_within ..) rfl rfl ?_
      exact .refl _ _ _

theorem doorKeep_within (s : State) (d : Nat) : Within (some [11278,11279,11280,11282,11283,12380]) [.lft, .mot] s (doorKeep s d) := by
  unfold doorKeep
  extract_lets x1
  clear_value x1
  refine .ite ?_ ?_
  · refine Within.after (doorHold_within ..) rfl rfl ?_
    exact .refl _ _ _
  · refine .ite ?_ ?_
    · split
      · extract_lets x2
        clear_value x2
        refine Within.after (setDoor_within ..) rfl rfl ?_
        refine Within.after (rampDown_within ..) rfl rfl ?_
        refine Within.after (motPut_within ..) rfl rfl ?_
        refine Within.after (putChan_within ..) rfl rfl ?_
        exact .refl _ _ _
      · exact .refl _ _ _
    · exact .refl _ _ _

theorem relevelNow_within (s : State) (k : Nat) :
    Within (some [5892,11278,11279,11280,11282,11283,12291,12298,12326,12380]) [.lft, .mot, .recd] s (relevelNow s k) := by
  unfold relevelNow
  extract_lets x1 x2
  clear_value x1
  clear_value x2
  refine .ite ?_ ?_
  · refine .ite ?_ ?_
    · refine .ite ?_ ?_
      · refine .ite ?_ ?_
        · refine Within.after (startRun_within ..) rfl rfl ?_
          exact .refl _ _ _
        · exact .refl _ _ _
      · refine Within.after (startRun_within ..) rfl rfl ?_
        refine .foldl (fun t3 x4 => ?_) _ ?_
        · refine Within.after (doorKeep_within ..) rfl rfl ?_
          exact .refl _ _ _
        · exact .refl _ _ _
    · refine Within.after (carFault_within ..) rfl rfl ?_
      exact .refl _ _ _
  · exact .refl _ _ _

theorem runTo_within (s : State) (k : Nat) (l : Nat) : Within (some [11278,11279,11280,11283,12291,12296]) [.lft,
    .mot] s (runTo s k l) := by
  unfold runTo
  extract_lets x1
  clear_value x1
  refine Within.after (startRun_within ..) rfl rfl ?_
  refine .wr _ _ _ rfl ?_
  exact .refl _ _ _

theorem takeDue_within (k : Nat) (s : State) (a3 : LiftDue) :
    Within (some [5892,11265,11278,11279,11280,11282,11283,12291,12296,12298,12326,12380]) [.lft, .mot, .recd] s (takeDue k s a3) := by
  unfold takeDue
  split
  · refine Within.after (linkAction_within ..) rfl rfl ?_
    exact .refl _ _ _
  · refine Within.after (faultAction_within ..) rfl rfl ?_
    exact .refl _ _ _
  · refine Within.after (relevelNow_within ..) rfl rfl ?_
    exact .refl _ _ _
  · refine .ite ?_ ?_
    · refine Within.after (runTo_within ..) rfl rfl ?_
      exact .refl _ _ _
    · exact .refl _ _ _
  · refine Within.after (learnNow_within ..) rfl rfl ?_
    exact .refl _ _ _
  · refine .ite ?_ ?_
    · exact .refl _ _ _
    · refine Within.after (setLs_within ..) rfl rfl ?_
      exact .refl _ _ _

theorem dueStep_within (s : State) (k : Nat) :
    Within (some [5892,11265,11278,11279,11280,11282,11283,12291,12296,12298,12326,12380]) [.lft, .mot, .recd] s (dueStep s k) := by
  unfold dueStep
  extract_lets x1
  clear_value x1
  refine .foldl (fun t2 x3 => ?_) _ ?_
  · refine Within.after (takeDue_within ..) rfl rfl ?_
    exact .refl _ _ _
  · refine Within.after (putCar_within ..) rfl rfl ?_
    exact .refl _ _ _

theorem correctionDue_within (s : State) (k : Nat) :
    Within (some [5892,11265,11278,11279,11280,11282,11283,12291,12298,12326,12380]) [.lft, .mot, .recd] s (correctionDue s k) := by
  unfold correctionDue
  extract_lets x1
  clear_value x1
  refine .ite ?_ ?_
  · refine Within.after (carFault_within ..) rfl rfl ?_
    exact .refl _ _ _
  · refine .ite ?_ ?_
    · refine .ite ?_ ?_
      · refine Within.after (findPosition_within ..) rfl rfl ?_
        exact .refl _ _ _
      · refine Within.after (refDoors_within ..) rfl rfl ?_
        exact .refl _ _ _
    · exact .refl _ _ _

theorem dispatch_within (s : State) (k : Nat) :
    Within (some [11265,11278,11279,11280,11283,12291,12296,12305,12306,12307,12308,12380]) [.lft, .mer, .mot] s (dispatch s k) := by
  unfold dispatch
  extract_lets x1 x2 x3 x4 x5
  clear_value x1
  clear_value x2
  clear_value x5
  refine Within.have_ (x := x4) ?_ fun hx4 => ?_
  · unfold x4
    refine .wr _ _ _ rfl ?_
    exact .refl _ _ _
  clear_value x4
  refine .ite ?_ ?_
  · simp only [x3]
    refine .ite ?_ ?_
    · exact .refl _ _ _
    · refine Within.after (setLs_within ..) rfl rfl ?_
      exact .refl _ _ _
  · refine .ite ?_ ?_
    · refine .ite ?_ ?_
      · refine .ite ?_ ?_
        · refine Within.after (wantOpen_within ..) rfl rfl ?_
          refine Within.after (setLs_within ..) rfl rfl ?_
          exact .refl _ _ _
        · simp only [x3]
          refine .ite ?_ ?_
          · exact .refl _ _ _
          · refine Within.after (setLs_within ..) rfl rfl ?_
            exact .refl _ _ _
      · refine .ite ?_ ?_
        · refine Within.after (runTo_within ..) rfl rfl ?_
          exact .refl _ _ _
        · simp only [x3]
          refine .ite ?_ ?_
          · exact .refl _ _ _
          · refine Within.after (setLs_within ..) rfl rfl ?_
            exact .refl _ _ _
    · split
      · refine .ite ?_ ?_
        · refine Within.after (runTo_within ..) rfl rfl ?_
          exact .refl _ _ _
        · simp only [x3]
          refine .ite ?_ ?_
          · exact .refl _ _ _
          · refine Within.after (setLs_within ..) rfl rfl ?_
            exact .refl _ _ _
      · refine .ite ?_ ?_
        · refine Within.after (runTo_within ..) rfl rfl ?_
          assumption
        · simp only [x3]
          refine .ite ?_ ?_
          · assumption
          · refine Within.after (setLs_within ..) rfl rfl ?_
            assumption

theorem levelRun_within (s : State) (k : Nat) : Within (some [11278,11279,11280,11283,12291]) [.lft, .mot] s (levelRun s k) := by
  unfold levelRun
  split
  · extract_lets x1
    clear_value x1
    refine Within.after (startRun_within ..) rfl rfl ?_
    refine Within.after (putCar_within ..) rfl rfl ?_
    exact .refl _ _ _
  · exact .refl _ _ _

theorem heldStep_within (s : State) (k : Nat) :
    Within (some [11265,11278,11279,11280,11283,12291,12296,12298,12305,12306,12307,12308,12380]) [.lft, .mer, .mot] s (heldStep s k) := by
  unfold heldStep
  extract_lets x1 x2 x3 x4
  clear_value x1
  refine Within.have_ (x := x2) ?_ fun hx2 => ?_
  · unfold x2
    refine Within.after (putCar_within ..) rfl rfl ?_
    exact .refl _ _ _
  clear_value x2
  refine Within.have_ (x := x3) ?_ fun hx3 => ?_
  · unfold x3
    refine Within.after (putCar_within ..) rfl rfl ?_
    refine .wr _ _ _ rfl ?_
    exact .refl _ _ _
  clear_value x3
  refine Within.have_ (x := x4) ?_ fun hx4 => ?_
  · unfold x4
    refine .foldl (fun t5 x6 => ?_) _ ?_
    · refine .ite ?_ ?_
      · refine Within.after (putDoor_within ..) rfl rfl ?_
        refine Within.after (setDoor_within ..) rfl rfl ?_
        exact .refl _ _ _
      · exact .refl _ _ _
    · assumption
  clear_value x4
  refine .ite ?_ ?_
  · refine Within.after (openAt_within ..) rfl rfl ?_
    exact .refl _ _ _
  · refine .ite ?_ ?_
    · refine .ite ?_ ?_
      · refine Within.after (setLs_within ..) rfl rfl ?_
        assumption
      · refine .ite ?_ ?_
        · refine Within.after (wantOpen_within ..) rfl rfl ?_
          refine Within.after (setLs_within ..) rfl rfl ?_
          assumption
        · refine .ite ?_ ?_
          · refine .ite ?_ ?_
            · refine Within.after (levelRun_within ..) rfl rfl ?_
              assumption
            · exact .refl _ _ _
          · refine Within.after (setLs_within ..) rfl rfl ?_
            assumption
    · refine .ite ?_ ?_
      · refine .ite ?_ ?_
        · refine Within.after (setLs_within ..) rfl rfl ?_
          assumption
        · refine Within.after (setLs_within ..) rfl rfl ?_
          refine Within.after (motPut_within ..) rfl rfl ?_
          assumption
      · exact .refl _ _ _

theorem idleStep_within (read : State → Nat → Nat → Nat) (s : State) (k : Nat) :
    Within (some [5892,11265,11278,11279,11280,11282,11283,12291,12296,12298,12305,12306,12307,12308,12326,12380]) [.lft, .mer, .mot,
        .recd] s (idleStep read s k) := by
  unfold idleStep
  extract_lets x1 x2
  clear_value x1
  clear_value x2
  split
  · refine .ite ?_ ?_
    · refine Within.after (setLs_within ..) rfl rfl ?_
      refine Within.after (putCar_within ..) rfl rfl ?_
      exact .refl _ _ _
    · refine Within.after (setLs_within ..) rfl rfl ?_
      exact .refl _ _ _
  · refine .ite ?_ ?_
    · refine Within.after (setLs_within ..) rfl rfl ?_
      exact .refl _ _ _
    · refine .ite ?_ ?_
      · refine Within.after (setLs_within ..) rfl rfl ?_
        exact .refl _ _ _
      · refine Within.after (correctionDue_within ..) rfl rfl ?_
        exact .refl _ _ _
  · refine .ite ?_ ?_
    · refine Within.after (setLs_within ..) rfl rfl ?_
      exact .refl _ _ _
    · refine .ite ?_ ?_
      · refine Within.after (correctionDue_within ..) rfl rfl ?_
        exact .refl _ _ _
      · refine .ite ?_ ?_
        · refine .ite ?_ ?_
          · refine Within.after (putCar_within ..) rfl rfl ?_
            exact .refl _ _ _
          · refine .ite ?_ ?_
            · refine Within.after (levelRun_within ..) rfl rfl ?_
              exact .refl _ _ _
            · exact .refl _ _ _
        · refine .ite ?_ ?_
          · refine Within.after (wantOpen_within ..) rfl rfl ?_
            refine Within.after (setLs_within ..) rfl rfl ?_
            exact .refl _ _ _
          · refine Within.after (dispatch_within ..) rfl rfl ?_
            exact .refl _ _ _
  · refine .ite ?_ ?_
    · refine Within.after (setLs_within ..) rfl rfl ?_
      exact .refl _ _ _
    · refine .ite ?_ ?_
      · refine .ite ?_ ?_
        · refine Within.after (openAt_within ..) rfl rfl ?_
          exact .refl _ _ _
        · exact .refl _ _ _
      · refine .ite ?_ ?_
        · refine Within.after (dispatch_within ..) rfl rfl ?_
          exact .refl _ _ _
        · exact .refl _ _ _
  · refine Within.after (heldStep_within ..) rfl rfl ?_
    exact .refl _ _ _
  · refine .ite ?_ ?_
    · refine Within.after (setLs_within ..) rfl rfl ?_
      refine Within.after (putCar_within ..) rfl rfl ?_
      exact .refl _ _ _
    · refine .ite ?_ ?_
      · refine Within.after (startRun_within ..) rfl rfl ?_
        exact .refl _ _ _
      · exact .refl _ _ _
  · exact .refl _ _ _

theorem setLanding_within (s : State) (k : Nat) (l : Nat) : Within (some [12295]) [.lft] s (setLanding s k l) := by
  unfold setLanding
  refine .ite ?_ ?_
  · exact .refl _ _ _
  · refine .foldl (fun t1 x2 => ?_) _ ?_
    · extract_lets x3
      clear_value x3
      refine .ite ?_ ?_
      · exact .refl _ _ _
      · refine Within.after (putDoor_within ..) rfl rfl ?_
        exact .refl _ _ _
    · refine .wr _ _ _ rfl ?_
      exact .refl _ _ _

theorem latchCar_within (s : State) (k : Nat) : Within (some [12294,12295,12297]) [.lft] s (latchCar s k) := by
  unfold latchCar
  extract_lets x1 x2 x3 x4 x5 x6 x7 x8 x9
  clear_value x1
  clear_value x2
  clear_value x3
  clear_value x4
  clear_value x5
  clear_value x6
  clear_value x7
  clear_value x8
  refine Within.have_ (x := x9) ?_ fun hx9 => ?_
  · unfold x9
    refine .wrQ _ _ _ rfl ?_
    refine .wr _ _ _ rfl ?_
    refine Within.after (putCar_within ..) rfl rfl ?_
    exact .refl _ _ _
  clear_value x9
  split
  · refine Within.after (setLanding_within ..) rfl rfl ?_
    assumption
  · assumption

theorem clearCalls_within (s : State) (k : Nat) (types : List Nat) :
    Within (some [5892,12305,12306,12307,12308]) [.mer, .recd] s (clearCalls s k types) := by
  unfold clearCalls
  extract_lets x1 x2
  clear_value x1
  refine Within.have_ (x := x2) ?_ fun hx2 => ?_
  · unfold x2
    refine .foldl (fun t3 x4 => ?_) _ ?_
    · refine .foldl (fun t5 x6 => ?_) _ ?_
      · refine Within.after (removeCall_within ..) rfl rfl ?_
        exact .refl _ _ _
      · exact .refl _ _ _
    · exact .refl _ _ _
  clear_value x2
  refine Within.after (liftEvent_within ..) rfl rfl ?_
  assumption

theorem opEntered_within (s : State) (k : Nat) (op : Nat) :
    Within (some [5892,11265,11278,11279,11280,11282,11283,12291,12305,12306,12307,12308,12326,12380]) [.lft, .mer, .mot,
        .recd] s (opEntered s k op) := by
  unfold opEntered
  extract_lets x1 x2 x3
  clear_value x3
  refine Within.have_ (x := x1) ?_ fun hx1 => ?_
  · unfold x1
    refine Within.after (clearCalls_within ..) rfl rfl ?_
    exact .refl _ _ _
  clear_value x1
  refine Within.have_ (x := x2) ?_ fun hx2 => ?_
  · unfold x2
    refine .ite ?_ ?_
    · refine .ite ?_ ?_
      · assumption
      · refine Within.after (rampStop_within ..) rfl rfl ?_
        assumption
    · refine .ite ?_ ?_
      · refine Within.after (setLs_within ..) rfl rfl ?_
        refine Within.after (dropRun_within ..) rfl rfl ?_
        assumption
      · assumption
  clear_value x2
  refine .ite ?_ ?_
  · refine .foldl (fun t4 x5 => ?_) _ ?_
    · extract_lets x6
      clear_value x6
      refine .ite ?_ ?_
      · refine Within.after (doorHold_within ..) rfl rfl ?_
        exact .refl _ _ _
      · exact .refl _ _ _
    · assumption
  · refine .ite ?_ ?_
    · split
      · extract_lets x7
        refine .ite ?_ ?_
        · refine .ite ?_ ?_
          · refine Within.after (redirect_within ..) rfl rfl ?_
            assumption
          · refine Within.after (carGo_within ..) rfl rfl ?_
            refine Within.after (putCar_within ..) rfl rfl ?_
            assumption
        · refine .ite ?_ ?_
          · refine Within.after (putCar_within ..) rfl rfl ?_
            assumption
          · assumption
      · assumption
    · refine .ite ?_ ?_
      · refine .ite ?_ ?_
        · exact .refl _ _ _
        · refine Within.after (clearCalls_within ..) rfl rfl ?_
          exact .refl _ _ _
      · exact .refl _ _ _

theorem opStep_within (read : State → Nat → Nat → Nat) (s : State) (k : Nat) :
    Within (some [5892,11265,11278,11279,11280,11282,11283,12291,12292,12305,12306,12307,12308,12326,12380]) [.lft, .mer, .mot,
        .recd] s (opStep read s k) := by
  unfold opStep
  extract_lets x1 x2 x3
  clear_value x1
  clear_value x2
  refine Within.have_ (x := x3) ?_ fun hx3 => ?_
  · unfold x3
    refine Within.after (putCar_within ..) rfl rfl ?_
    exact .refl _ _ _
  clear_value x3
  refine .ite ?_ ?_
  · assumption
  · refine Within.after (opEntered_within ..) rfl rfl ?_
    refine .wr _ _ _ rfl ?_
    assumption

theorem endRun_within (s : State) (k : Nat) (r : LiftRun) :
    Within (some [11265,11278,11279,11280,11283,12291,12295,12296,12305,12306,12307,12308,12380]) [.lft, .mer, .mot] s (endRun s k r) := by
  unfold endRun
  extract_lets x1 x2 x3
  clear_value x1
  refine Within.have_ (x := x2) ?_ fun hx2 => ?_
  · unfold x2
    refine Within.after (putCar_within ..) rfl rfl ?_
    exact .refl _ _ _
  clear_value x2
  refine Within.have_ (x := x3) ?_ fun hx3 => ?_
  · unfold x3
    refine Within.after (setLanding_within ..) rfl rfl ?_
    assumption
  clear_value x3
  refine .ite ?_ ?_
  · refine Within.after (setLs_within ..) rfl rfl ?_
    assumption
  · refine .ite ?_ ?_
    · refine Within.after (setLs_within ..) rfl rfl ?_
      assumption
    · refine .ite ?_ ?_
      · refine Within.after (setLs_within ..) rfl rfl ?_
        assumption
      · refine .ite ?_ ?_
        · refine .ite ?_ ?_
          · refine Within.after (setLs_within ..) rfl rfl ?_
            refine Within.after (wantOpen_within ..) rfl rfl ?_
            assumption
          · refine .ite ?_ ?_
            · refine Within.after (setLs_within ..) rfl rfl ?_
              assumption
            · refine Within.after (startRun_within ..) rfl rfl ?_
              assumption
        · refine .ite ?_ ?_
          · refine Within.after (setLs_within ..) rfl rfl ?_
            refine Within.after (wantOpen_within ..) rfl rfl ?_
            assumption
          · refine .ite ?_ ?_
            · refine Within.after (setLs_within ..) rfl rfl ?_
              assumption
            · refine Within.after (wantOpen_within ..) rfl rfl ?_
              refine Within.after (setLs_within ..) rfl rfl ?_
              assumption

theorem launch_within (read : State → Nat → Nat → Nat) (s : State) (k : Nat) (r : LiftRun) :
    Within (some [11265,11283,12291]) [.lft, .mot] s (launch read s k r) := by
  unfold launch
  extract_lets x1 x2
  clear_value x2
  refine .ite ?_ ?_
  · refine Within.after (carGo_within ..) rfl rfl ?_
    simp only [x1]
    refine Within.after (setLs_within ..) rfl rfl ?_
    refine Within.after (putCar_within ..) rfl rfl ?_
    refine Within.after (motPut_within ..) rfl rfl ?_
    exact .refl _ _ _
  · refine .ite ?_ ?_
    · refine Within.after (carGo_within ..) rfl rfl ?_
      simp only [x1]
      refine Within.after (setLs_within ..) rfl rfl ?_
      refine Within.after (putCar_within ..) rfl rfl ?_
      exact .refl _ _ _
    · refine .ite ?_ ?_
      · refine Within.after (carGo_within ..) rfl rfl ?_
        simp only [x1]
        refine Within.after (setLs_within ..) rfl rfl ?_
        refine Within.after (putCar_within ..) rfl rfl ?_
        exact .refl _ _ _
      · refine .ite ?_ ?_
        · refine Within.after (carGo_within ..) rfl rfl ?_
          simp only [x1]
          refine Within.after (setLs_within ..) rfl rfl ?_
          refine Within.after (putCar_within ..) rfl rfl ?_
          exact .refl _ _ _
        · refine Within.after (carGo_within ..) rfl rfl ?_
          simp only [x1]
          refine Within.after (setLs_within ..) rfl rfl ?_
          refine Within.after (putCar_within ..) rfl rfl ?_
          exact .refl _ _ _

theorem startReference_within (s : State) (k : Nat) :
    Within (some [11278,11279,11280,11282,11283,11306,11335,11336]) [.mot] s (startReference s k) := by
  unfold startReference
  extract_lets x1
  clear_value x1
  refine Within.after (refStart_within ..) rfl rfl ?_
  refine .wr _ _ _ rfl ?_
  refine .wr _ _ _ rfl ?_
  refine .wr _ _ _ rfl ?_
  exact .refl _ _ _

theorem correctionMove_within (read : State → Nat → Nat → Nat) (s : State) (k : Nat) (r : LiftRun) :
    Within (some [5892,11265,11278,11279,11280,11282,11283,11306,11335,11336,12291,12298,12326]) [.lft, .mot,
        .recd] s (correctionMove read s k r) := by
  unfold correctionMove
  extract_lets x1 x2 x3 x4
  clear_value x1
  clear_value x2
  clear_value x4
  refine .ite ?_ ?_
  · refine .ite ?_ ?_
    · exact .refl _ _ _
    · refine Within.after (carGo_within ..) rfl rfl ?_
      simp only [x3]
      refine Within.after (putCar_within ..) rfl rfl ?_
      exact .refl _ _ _
  · refine .ite ?_ ?_
    · refine .ite ?_ ?_
      · refine Within.after (startReference_within ..) rfl rfl ?_
        simp only [x3]
        refine Within.after (putCar_within ..) rfl rfl ?_
        exact .refl _ _ _
      · exact .refl _ _ _
    · refine .ite ?_ ?_
      · refine .ite ?_ ?_
        · refine .ite ?_ ?_
          · refine Within.after (carGo_within ..) rfl rfl ?_
            simp only [x3]
            refine Within.after (putCar_within ..) rfl rfl ?_
            exact .refl _ _ _
          · exact .refl _ _ _
        · refine .ite ?_ ?_
          · refine Within.after (carFault_within ..) rfl rfl ?_
            exact .refl _ _ _
          · exact .refl _ _ _
      · refine .ite ?_ ?_
        · refine .ite ?_ ?_
          · refine .ite ?_ ?_
            · refine Within.after (carGo_within ..) rfl rfl ?_
              simp only [x3]
              refine Within.after (putCar_within ..) rfl rfl ?_
              refine Within.after (putCar_within ..) rfl rfl ?_
              exact .refl _ _ _
            · simp only [x3]
              refine Within.after (putCar_within ..) rfl rfl ?_
              exact .refl _ _ _
          · exact .refl _ _ _
        · refine .ite ?_ ?_
          · refine .ite ?_ ?_
            · simp only [x3]
              refine Within.after (putCar_within ..) rfl rfl ?_
              exact .refl _ _ _
            · exact .refl _ _ _
          · refine .ite ?_ ?_
            · refine .ite ?_ ?_
              · refine Within.after (rampDown_within ..) rfl rfl ?_
                simp only [x3]
                refine Within.after (putCar_within ..) rfl rfl ?_
                refine Within.after (putCar_within ..) rfl rfl ?_
                exact .refl _ _ _
              · exact .refl _ _ _
            · refine .ite ?_ ?_
              · simp only [x3]
                refine Within.after (putCar_within ..) rfl rfl ?_
                exact .refl _ _ _
              · exact .refl _ _ _

theorem moveRun_within (read : State → Nat → Nat → Nat) (s : State) (k : Nat) (r : LiftRun) :
    Within (some [5892,11265,11278,11279,11280,11282,11283,11306,11335,11336,12291,12298,12326]) [.lft, .mot,
        .recd] s (moveRun read s k r) := by
  unfold moveRun
  extract_lets x1 x2 x3 x4 x5
  clear_value x1
  clear_value x2
  clear_value x4
  refine Within.have_ (x := x5) ?_ fun hx5 => ?_
  · unfold x5
    refine .ite ?_ ?_
    · exact .refl _ _ _
    · refine Within.after (carGo_within ..) rfl rfl ?_
      simp only [x3]
      refine Within.after (putCar_within ..) rfl rfl ?_
      exact .refl _ _ _
  clear_value x5
  refine .ite ?_ ?_
  · refine Within.after (correctionMove_within ..) rfl rfl ?_
    exact .refl _ _ _
  · refine .ite ?_ ?_
    · refine .ite ?_ ?_
      · simp only [x3]
        refine Within.after (putCar_within ..) rfl rfl ?_
        exact .refl _ _ _
      · refine .ite ?_ ?_
        · refine .ite ?_ ?_
          · exact .refl _ _ _
          · refine Within.after (rampDown_within ..) rfl rfl ?_
            simp only [x3]
            refine Within.after (putCar_within ..) rfl rfl ?_
            exact .refl _ _ _
        · exact .refl _ _ _
    · refine .ite ?_ ?_
      · simp only [x3]
        refine Within.after (putCar_within ..) rfl rfl ?_
        exact .refl _ _ _
      · refine .ite ?_ ?_
        · refine .ite ?_ ?_
          · refine Within.after (setLs_within ..) rfl rfl ?_
            assumption
          · assumption
        · refine .ite ?_ ?_
          · refine Within.after (setLs_within ..) rfl rfl ?_
            exact .refl _ _ _
          · exact .refl _ _ _

theorem runStep_within (read : State → Nat → Nat → Nat) (s : State) (k : Nat) (r : LiftRun) :
    Within (some [5892,11265,11278,11279,11280,11282,11283,11306,11335,11336,12291,12295,12296,12298,12305,12306,12307,12308,12326,
        12380]) [.lft, .mer, .mot, .recd] s (runStep read s k r) := by
  unfold runStep
  extract_lets x1 x2
  clear_value x1
  split
  · refine .ite ?_ ?_
    · simp only [x2]
      refine Within.after (putCar_within ..) rfl rfl ?_
      exact .refl _ _ _
    · exact .refl _ _ _
  · refine .ite ?_ ?_
    · simp only [x2]
      refine Within.after (putCar_within ..) rfl rfl ?_
      exact .refl _ _ _
    · exact .refl _ _ _
  · refine .ite ?_ ?_
    · refine Within.after (launch_within ..) rfl rfl ?_
      exact .refl _ _ _
    · exact .refl _ _ _
  · refine .ite ?_ ?_
    · refine .ite ?_ ?_
      · simp only [x2]
        refine Within.after (putCar_within ..) rfl rfl ?_
        exact .refl _ _ _
      · exact .refl _ _ _
    · refine Within.after (moveRun_within ..) rfl rfl ?_
      exact .refl _ _ _
  · exact .refl _ _ _
  · refine .ite ?_ ?_
    · simp only [x2]
      refine Within.after (putCar_within ..) rfl rfl ?_
      exact .refl _ _ _
    · exact .refl _ _ _
  · refine Within.after (endRun_within ..) rfl rfl ?_
    exact .refl _ _ _

theorem vaneStep_within (s : State) (k : Nat) :
    Within (some [5892,11278,11279,11280,11282,11283,12291,12298,12301,12302,12326]) [.lft, .mot, .recd] s (vaneStep s k) := by
  unfold vaneStep
  extract_lets x1 x2 x3 x4 x5 x6 x7 x8 x9 x10 x11
  clear_value x1
  clear_value x2
  clear_value x3
  clear_value x5
  clear_value x6
  clear_value x7
  clear_value x8
  clear_value x9
  clear_value x10
  clear_value x11
  refine Within.have_ (x := x4) ?_ fun hx4 => ?_
  · unfold x4
    refine Within.after (putCar_within ..) rfl rfl ?_
    exact .refl _ _ _
  clear_value x4
  refine .ite ?_ ?_
  · exact .refl _ _ _
  · refine .ite ?_ ?_
    · refine .ite ?_ ?_
      · assumption
      · refine Within.after (putCar_within ..) rfl rfl ?_
        assumption
    · refine .ite ?_ ?_
      · assumption
      · split
        · assumption
        · extract_lets x12 x13
          clear_value x12
          refine Within.have_ (x := x13) ?_ fun hx13 => ?_
          · unfold x13
            refine Within.after (putChan_within ..) rfl rfl ?_
            assumption
          clear_value x13
          refine .ite ?_ ?_
          · refine .count _ _ _ rfl ?_
            refine .wrQ _ _ _ rfl ?_
            assumption
          · refine Within.after (carFault_within ..) rfl rfl ?_
            refine Within.after (motPut_within ..) rfl rfl ?_
            assumption

theorem watchCar_within (s : State) (k : Nat) (old : Nat) :
    Within (some [5892,11278,11279,11280,11282,11283,12291,12298,12326]) [.lft, .mot, .recd] s (watchCar s k old) := by
  unfold watchCar
  extract_lets x1 x2 x3 x4
  clear_value x1
  clear_value x2
  clear_value x3
  clear_value x4
  refine .ite ?_ ?_
  · exact .refl _ _ _
  · refine .ite ?_ ?_
    · refine Within.after (carFault_within ..) rfl rfl ?_
      exact .refl _ _ _
    · refine .ite ?_ ?_
      · refine Within.after (carFault_within ..) rfl rfl ?_
        exact .refl _ _ _
      · refine .ite ?_ ?_
        · refine Within.after (carFault_within ..) rfl rfl ?_
          exact .refl _ _ _
        · refine .ite ?_ ?_
          · refine .ite ?_ ?_
            · refine Within.after (putCar_within ..) rfl rfl ?_
              exact .refl _ _ _
            · refine .ite ?_ ?_
              · refine Within.after (brakeStop_within ..) rfl rfl ?_
                exact .refl _ _ _
              · refine Within.after (abandonRun_within ..) rfl rfl ?_
                exact .refl _ _ _
          · exact .refl _ _ _

theorem carCycle_within (read : State → Nat → Nat → Nat) (s : State) (k : Nat) :
    Within (some [5892,11265,11278,11279,11280,11282,11283,11306,11335,11336,12291,12292,12294,12295,12296,12297,12298,12301,12302,12305,
        12306,12307,12308,12326,12380,12382]) [.lft, .mer, .mot, .out, .recd] s (carCycle read s k) := by
  unfold carCycle
  extract_lets x1 x2 x3 x4
  clear_value x1
  refine Within.have_ (x := x2) ?_ fun hx2 => ?_
  · unfold x2
    refine Within.after (opStep_within ..) rfl rfl ?_
    refine Within.after (dueStep_within ..) rfl rfl ?_
    refine Within.after (vaneStep_within ..) rfl rfl ?_
    refine Within.after (latchCar_within ..) rfl rfl ?_
    exact .refl _ _ _
  clear_value x2
  refine Within.have_ (x := x3) ?_ fun hx3 => ?_
  · unfold x3
    refine Within.after (watchCar_within ..) rfl rfl ?_
    assumption
  clear_value x3
  refine Within.have_ (x := x4) ?_ fun hx4 => ?_
  · unfold x4
    refine .ite ?_ ?_
    · refine Within.after (carOff_within ..) rfl rfl ?_
      assumption
    · split
      · refine Within.after (runStep_within ..) rfl rfl ?_
        assumption
      · refine .ite ?_ ?_
        · assumption
        · refine Within.after (idleStep_within ..) rfl rfl ?_
          assumption
  clear_value x4
  refine .ite ?_ ?_
  · refine Within.after (doorSteps_within ..) rfl rfl ?_
    refine Within.after (carOff_within ..) rfl rfl ?_
    exact .refl _ _ _
  · refine Within.after (commandFrame_within ..) rfl rfl ?_
    refine Within.after (doorSteps_within ..) rfl rfl ?_
    assumption

theorem doorDwellExpiry_within (k : Nat) (s : State) :
    Within (some [11265,11278,11279,11280,11282,11283,12380]) [.lft, .mot] s (doorDwellExpiry k s) := by
  unfold doorDwellExpiry
  extract_lets x1 x2 x3
  clear_value x1
  clear_value x2
  clear_value x3
  refine .ite ?_ ?_
  · refine .ite ?_ ?_
    · refine Within.after (nudgeStart_within ..) rfl rfl ?_
      exact .refl _ _ _
    · refine .foldl (fun t4 x5 => ?_) _ ?_
      · refine .ite ?_ ?_
        · refine Within.after (doorCloseNow_within ..) rfl rfl ?_
          exact .refl _ _ _
        · exact .refl _ _ _
      · exact .refl _ _ _
  · exact .refl _ _ _

theorem doorForceTick_within (s : State) : Within (some [12381]) [.lft] s (doorForceTick s) := by
  unfold doorForceTick
  refine .ite ?_ ?_
  · exact .refl _ _ _
  · refine .foldl (fun t1 x2 => ?_) _ ?_
    · split
      · exact .refl _ _ _
      · extract_lets x3 x4 x5 x6 x7
        clear_value x3
        clear_value x4
        clear_value x5
        clear_value x6
        clear_value x7
        refine .ite ?_ ?_
        · refine .wr _ _ _ rfl ?_
          refine Within.after (putDoor_within ..) rfl rfl ?_
          exact .refl _ _ _
        · refine .wrQ _ _ _ rfl ?_
          refine Within.after (putDoor_within ..) rfl rfl ?_
          exact .refl _ _ _
    · exact .refl _ _ _

theorem driveLinkLost_within (k : Nat) (s : State) : Within (some [5892,12297,12298,12348]) [.lft, .recd] s (driveLinkLost k s) := by
  unfold driveLinkLost
  extract_lets x1 x2 x3 x4
  clear_value x1
  refine Within.have_ (x := x2) ?_ fun hx2 => ?_
  · unfold x2
    refine .count _ _ _ rfl ?_
    refine Within.after (putCar_within ..) rfl rfl ?_
    exact .refl _ _ _
  clear_value x2
  refine Within.have_ (x := x3) ?_ fun hx3 => ?_
  · unfold x3
    refine .wrBit _ _ _ _ rfl ?_
    refine .wrBit _ _ _ _ rfl ?_
    assumption
  clear_value x3
  refine Within.have_ (x := x4) ?_ fun hx4 => ?_
  · unfold x4
    refine .ite ?_ ?_
    · refine Within.after (putCar_within ..) rfl rfl ?_
      assumption
    · assumption
  clear_value x4
  refine .ite ?_ ?_
  · refine Within.after (lateFault_within ..) rfl rfl ?_
    assumption
  · exact .refl _ _ _

theorem driveLinkRestored_within (k : Nat) (s : State) : Within (some [12297]) [.lft] s (driveLinkRestored k s) := by
  unfold driveLinkRestored
  extract_lets x1
  clear_value x1
  refine .ite ?_ ?_
  · refine .wrBit _ _ _ _ rfl ?_
    refine .wrBit _ _ _ _ rfl ?_
    refine Within.after (putCar_within ..) rfl rfl ?_
    exact .refl _ _ _
  · exact .refl _ _ _

theorem driveStatusFrameRx_within (k : Nat) (src : Nat) (bytes : List Nat) (s : State) :
    Within (some [12303]) [.lft] s (driveStatusFrameRx k src bytes s) := by
  unfold driveStatusFrameRx
  extract_lets x1
  clear_value x1
  refine .ite ?_ ?_
  · refine .wr _ _ _ rfl ?_
    refine Within.after (putCar_within ..) rfl rfl ?_
    exact .refl _ _ _
  · exact .refl _ _ _

theorem registerCall_within (s : State) (k : Nat) (t : Nat) (l : Nat) (sides : Nat) (seq : Nat) :
    Within (some [12305,12306,12307,12308]) [.mer] s (registerCall s k t l sides seq) := by
  unfold registerCall
  extract_lets x1 x2 x3 x4
  clear_value x1
  clear_value x2
  clear_value x3
  refine Within.have_ (x := x4) ?_ fun hx4 => ?_
  · unfold x4
    refine .mer _ rfl ?_
    exact .refl _ _ _
  clear_value x4
  refine .ite ?_ ?_
  · assumption
  · refine .wr _ _ _ rfl ?_
    refine Within.after (putCall_within ..) rfl rfl ?_
    assumption

theorem enterCall_within (s : State) (k : Nat) (v : Nat) (seq : Nat) :
    Within (some [11265,12291,12296,12305,12306,12307,12308,12380]) [.lft, .mer, .mot] s (enterCall s k v seq) := by
  unfold enterCall
  extract_lets x1 x2 x3
  clear_value x1
  clear_value x2
  refine Within.have_ (x := x3) ?_ fun hx3 => ?_
  · unfold x3
    refine Within.after (registerCall_within ..) rfl rfl ?_
    exact .refl _ _ _
  clear_value x3
  refine .ite ?_ ?_
  · refine .ite ?_ ?_
    · refine Within.after (callHere_within ..) rfl rfl ?_
      assumption
    · assumption
  · refine Within.after (removeCall_within ..) rfl rfl ?_
    exact .refl _ _ _

theorem enterCalls_within (s : State) : Within (some [11265,12291,12296,12305,12306,12307,12308,12380]) [.lft, .mer,
    .mot] s (enterCalls s) := by
  unfold enterCalls
  extract_lets x1 x2
  clear_value x2
  refine Within.have_ (x := x1) ?_ fun hx1 => ?_
  · unfold x1
    refine .foldl (fun t3 x4 => ?_) _ ?_
    · refine Within.after (callDone_within ..) rfl rfl ?_
      refine Within.after (enterCall_within ..) rfl rfl ?_
      exact .refl _ _ _
    · exact .refl _ _ _
  clear_value x1
  refine .lft _ rfl ?_
  assumption

theorem followingError_within (k : Nat) (s : State) : Within (some [5892,12298]) [.lft, .recd] s (followingError k s) := by
  unfold followingError
  extract_lets x1
  clear_value x1
  refine .ite ?_ ?_
  · refine Within.after (lateFault_within ..) rfl rfl ?_
    exact .refl _ _ _
  · exact .refl _ _ _

theorem storeVane_within (s : State) (k : Nat) (l : Nat) (v : Option Int × Int) : Within (some [12320,12321,
    12322]) [] s (storeVane s k l v) := by
  unfold storeVane
  extract_lets x1 x2 x3 x4
  clear_value x1
  clear_value x2
  clear_value x3
  clear_value x4
  refine .wr _ _ _ rfl ?_
  refine .wr _ _ _ rfl ?_
  refine .wr _ _ _ rfl ?_
  exact .refl _ _ _

theorem learnRunEnd_within (k : Nat) (s : State) : Within (some [12320,12321,12322,12326]) [.lft] s (learnRunEnd k s) := by
  unfold learnRunEnd
  extract_lets x1 x2 x3 x4
  clear_value x1
  clear_value x2
  clear_value x4
  refine Within.have_ (x := x3) ?_ fun hx3 => ?_
  · unfold x3
    refine .ite ?_ ?_
    · refine .foldl (fun t5 x6 => ?_) _ ?_
      · refine Within.after (storeVane_within ..) rfl rfl ?_
        exact .refl _ _ _
      · exact .refl _ _ _
    · exact .refl _ _ _
  clear_value x3
  refine .ite ?_ ?_
  · refine .wr _ _ _ rfl ?_
    refine Within.after (putCar_within ..) rfl rfl ?_
    assumption
  · exact .refl _ _ _

theorem lftApply_within {t : State} (s : State) (i : Nat) (e : Nat) (_v : Nat) (h : lftApply s i e _v = some t) :
    Within (some [12326]) [.lft] s t := by
  unfold lftApply at h
  dsimp only at h
  split at h
  · cases h
    refine .ite ?_ ?_
    · refine Within.after (putCar_within ..) rfl rfl ?_
      exact .refl _ _ _
    · exact .refl _ _ _
  · split at h
    · cases h
      refine .ite ?_ ?_
      · refine Within.after (putDue_within ..) rfl rfl ?_
        exact .refl _ _ _
      · refine .wr _ _ _ rfl ?_
        exact .refl _ _ _
    · cases h

theorem lftSafeHold_within (s : State) : Within (some [11278,11279,11280,11282,11283,12326,12380]) [.lft, .mot] s (lftSafeHold s) := by
  unfold lftSafeHold
  extract_lets x1
  refine Within.have_ (x := x1) ?_ fun hx1 => ?_
  · unfold x1
    refine .foldl (fun t2 x3 => ?_) _ ?_
    · extract_lets x4 x5 x6
      clear_value x4
      clear_value x5
      refine Within.have_ (x := x6) ?_ fun hx6 => ?_
      · unfold x6
        refine .ite ?_ ?_
        · exact .refl _ _ _
        · refine Within.after (putCar_within ..) rfl rfl ?_
          exact .refl _ _ _
      clear_value x6
      refine .ite ?_ ?_
      · exact .refl _ _ _
      · refine .ite ?_ ?_
        · refine Within.after (putDue_within ..) rfl rfl ?_
          refine Within.after (toBrake_within ..) rfl rfl ?_
          assumption
        · refine .ite ?_ ?_
          · assumption
          · refine Within.after (putDue_within ..) rfl rfl ?_
            refine Within.after (dropRun_within ..) rfl rfl ?_
            assumption
    · exact .refl _ _ _
  clear_value x1
  refine .ite ?_ ?_
  · exact .refl _ _ _
  · refine .foldl (fun t7 x8 => ?_) _ ?_
    · extract_lets x9
      clear_value x9
      refine .ite ?_ ?_
      · refine Within.after (doorHold_within ..) rfl rfl ?_
        exact .refl _ _ _
      · refine .ite ?_ ?_
        · refine Within.after (setDoor_within ..) rfl rfl ?_
          exact .refl _ _ _
        · exact .refl _ _ _
    · assumption

theorem liftCycle_within (read : State → Nat → Nat → Nat) (s : State) :
    Within (some [5892,11265,11278,11279,11280,11282,11283,11306,11335,11336,12291,12292,12294,12295,12296,12297,12298,12301,12302,12305,
        12306,12307,12308,12326,12380,12382]) [.lft, .mer, .mot, .out, .recd] s (liftCycle read s) := by
  unfold liftCycle
  refine .ite ?_ ?_
  · refine Within.after (carCycle_within ..) rfl rfl ?_
    refine Within.after (carCycle_within ..) rfl rfl ?_
    refine Within.after (enterCalls_within ..) rfl rfl ?_
    exact .refl _ _ _
  · exact .refl _ _ _

theorem liftOff_within (s : State) : Within (some []) [.lft] s (liftOff s) := by
  unfold liftOff
  refine .lft _ rfl ?_
  exact .refl _ _ _

theorem liftStatusPublish_within (k : Nat) (s : State) : Within (some [4373]) [.free, .lft, .net, .out] s (liftStatusPublish k s) := by
  unfold liftStatusPublish
  extract_lets x1 x2 x3 x4
  clear_value x1
  clear_value x3
  refine Within.have_ (x := x2) ?_ fun hx2 => ?_
  · unfold x2
    refine .ite ?_ ?_
    · refine Within.after (State_tookFree_within ..) rfl rfl ?_
      exact .refl _ _ _
    · exact .refl _ _ _
  clear_value x2
  refine Within.have_ (x := x4) ?_ fun hx4 => ?_
  · unfold x4
    refine Within.after (putCar_within ..) rfl rfl ?_
    assumption
  clear_value x4
  refine .ite ?_ ?_
  · refine Within.after (hostDatagram_within ..) rfl rfl ?_
    assumption
  · exact .refl _ _ _

theorem magnetiseTimeout_within (k : Nat) (s : State) : Within (some [5892,12298]) [.lft, .recd] s (magnetiseTimeout k s) := by
  unfold magnetiseTimeout
  refine .ite ?_ ?_
  · refine Within.after (lateFault_within ..) rfl rfl ?_
    exact .refl _ _ _
  · exact .refl _ _ _

theorem nudgeTimeout_within (k : Nat) (s : State) : Within (some [12297]) [.lft] s (nudgeTimeout k s) := by
  unfold nudgeTimeout
  extract_lets x1
  clear_value x1
  refine .ite ?_ ?_
  · refine .wrBit _ _ _ _ rfl ?_
    refine Within.after (putCar_within ..) rfl rfl ?_
    exact .refl _ _ _
  · exact .refl _ _ _

theorem parkTimeout_within (k : Nat) (s : State) : Within (some []) [.lft] s (parkTimeout k s) := by
  unfold parkTimeout
  refine .ite ?_ ?_
  · refine Within.after (putDue_within ..) rfl rfl ?_
    exact .refl _ _ _
  · exact .refl _ _ _

theorem relevelStart_within (k : Nat) (s : State) : Within (some []) [.lft] s (relevelStart k s) := by
  unfold relevelStart
  refine .ite ?_ ?_
  · refine Within.after (putDue_within ..) rfl rfl ?_
    exact .refl _ _ _
  · exact .refl _ _ _

end Sys2Proof.Laws
end

