-- ==== Sys2Proof/Laws/FramePrograms.lean ====
section
/-!
SUPPORT. What each operation of programs may change: entries by their indices and parts of the state by name. Meanings and claims
about frames cite these and unfold nothing.
-/
namespace Sys2Proof.Laws

open Sys2Proof Sys2Proof.Machine Sys2Proof.Safety

theorem putPrg_within (s : State) (p : Nat) (x : PrgSlot) : Within (some []) [.prg] s (putPrg s p x) := by
  unfold putPrg
  extract_lets x1
  clear_value x1
  refine .prg _ rfl ?_
  exact .refl _ _ _

theorem applyOutputs_within {ps : List Part} (hps : ps.contains .prg = true) (bad : State → ElemW → Bool) (put : State → ElemW → State)
    (hput : ∀ u x, Within none ps u (put u x)) (s : State) :
    Within none ps s (applyOutputs bad put s) := by
  have hmem : ∀ p ∈ ([.prg] : List Part), ps.contains p = true := fun p hp => by
    rw [List.mem_singleton.mp hp]
    exact hps
  have hall : ([.prg] : List Part).all ps.contains = true := List.all_eq_true.mpr hmem
  unfold applyOutputs
  refine .foldl (fun t p => ?_) _ (.refl _ _ _)
  extract_lets x t1 refused t2
  have h1 : Within none ps t t1 := (putPrg_within ..).mono rfl hall
  have h2 : Within none ps t t2 := .wrBit _ _ _ _ rfl (.ite h1 (.count _ _ _ rfl h1))
  exact .ite (.refl _ _ _) (.ite h1 (.foldl (fun u w => .ite (.refl _ _ _) (hput u w)) _ h2))

theorem prgEvent_within (s : State) (tag : Nat) (p : Nat) (sev : Nat) (fault : Nat) (x : Nat) :
    Within (some [5892]) [.recd] s (prgEvent s tag p sev fault x) := by
  unfold prgEvent
  refine Within.after (blockEvent_within ..) rfl rfl ?_
  exact .refl _ _ _

theorem exchangeDone_within (s : State) (p : Nat) (seq : Nat) : Within (some [5892,14345]) [.mer, .recd] s (exchangeDone s p seq) := by
  unfold exchangeDone
  refine Within.after (prgEvent_within ..) rfl rfl ?_
  refine .wr _ _ _ rfl ?_
  refine .ite ?_ ?_
  · exact .refl _ _ _
  · refine Within.after (specialDone_within ..) rfl rfl ?_
    exact .refl _ _ _

theorem setPrg_within (s : State) (p : Nat) (st : Nat) : Within (some [14336]) [] s (setPrg s p st) := by
  unfold setPrg
  refine .wr _ _ _ rfl ?_
  exact .refl _ _ _

theorem storeRetain_within (s : State) (p : Nat) (x : PrgSlot) : Within (some []) [.mer] s (storeRetain s p x) := by
  unfold storeRetain
  extract_lets x1
  clear_value x1
  refine .mer _ rfl ?_
  exact .refl _ _ _

theorem loadImage_within (s : State) (p : Nat) (seq : Nat) (carry : Bool) :
    Within (some [5892,14336,14341,14342,14343,14345,14352,14384,14385,14386,14387,14388]) [.mer, .prg,
        .recd] s (loadImage s p seq carry) := by
  unfold loadImage
  extract_lets x1 x2 x3 x4 x5 x6 x7 x8 x9 x10 x11 x12 x13
  clear_value x1
  clear_value x2
  clear_value x3
  clear_value x4
  clear_value x5
  clear_value x6
  clear_value x7
  clear_value x13
  refine Within.have_ (x := x8) ?_ fun hx8 => ?_
  · unfold x8
    refine Within.after (putPrg_within ..) rfl rfl ?_
    exact .refl _ _ _
  clear_value x8
  refine Within.have_ (x := x9) ?_ fun hx9 => ?_
  · unfold x9
    refine .wr _ _ _ rfl ?_
    refine .wr _ _ _ rfl ?_
    refine .wr _ _ _ rfl ?_
    refine .wr _ _ _ rfl ?_
    assumption
  clear_value x9
  refine Within.have_ (x := x10) ?_ fun hx10 => ?_
  · unfold x10
    refine .foldl (fun t14 x15 => ?_) _ ?_
    · refine .wr _ _ _ rfl ?_
      exact .refl _ _ _
    · assumption
  clear_value x10
  refine Within.have_ (x := x11) ?_ fun hx11 => ?_
  · unfold x11
    refine .wr _ _ _ rfl ?_
    refine .wr _ _ _ rfl ?_
    refine .wr _ _ _ rfl ?_
    assumption
  clear_value x11
  refine Within.have_ (x := x12) ?_ fun hx12 => ?_
  · unfold x12
    refine Within.after (storeRetain_within ..) rfl rfl ?_
    refine .wr _ _ _ rfl ?_
    assumption
  clear_value x12
  refine .ite ?_ ?_
  · refine Within.after (exchangeDone_within ..) rfl rfl ?_
    refine Within.after (setPrg_within ..) rfl rfl ?_
    refine Within.after (putPrg_within ..) rfl rfl ?_
    assumption
  · refine Within.after (setPrg_within ..) rfl rfl ?_
    assumption

theorem unloadImage_within (s : State) (p : Nat) (seq : Nat) :
    Within (some [5892,14336,14341,14342,14343,14345,14352]) [.mer, .prg, .recd] s (unloadImage s p seq) := by
  unfold unloadImage
  extract_lets x1 x2 x3 x4 x5
  clear_value x1
  clear_value x3
  refine Within.have_ (x := x2) ?_ fun hx2 => ?_
  · unfold x2
    refine Within.after (putPrg_within ..) rfl rfl ?_
    exact .refl _ _ _
  clear_value x2
  refine Within.have_ (x := x4) ?_ fun hx4 => ?_
  · unfold x4
    refine .mer _ rfl ?_
    assumption
  clear_value x4
  refine Within.have_ (x := x5) ?_ fun hx5 => ?_
  · unfold x5
    refine .wr _ _ _ rfl ?_
    refine .wr _ _ _ rfl ?_
    refine .wr _ _ _ rfl ?_
    assumption
  clear_value x5
  refine Within.after (exchangeDone_within ..) rfl rfl ?_
  refine Within.after (setPrg_within ..) rfl rfl ?_
  refine .wr _ _ _ rfl ?_
  assumption

theorem exchangeDue_within (s : State) (p : Nat) :
    Within (some [5892,14336,14341,14342,14343,14345,14352,14384,14385,14386,14387,14388]) [.mer, .prg, .recd] s (exchangeDue s p) := by
  unfold exchangeDue
  extract_lets x1
  clear_value x1
  split
  · refine .ite ?_ ?_
    · refine .ite ?_ ?_
      · refine Within.after (loadImage_within ..) rfl rfl ?_
        exact .refl _ _ _
      · refine Within.after (unloadImage_within ..) rfl rfl ?_
        exact .refl _ _ _
    · exact .refl _ _ _
  · exact .refl _ _ _

theorem cycleBoundary_within (s : State) (p : Nat) :
    Within (some [5892,14336,14341,14342,14343,14345,14352,14384,14385,14386,14387,14388]) [.mer, .prg, .recd] s (cycleBoundary s p) := by
  unfold cycleBoundary
  extract_lets x1 x2 x3
  clear_value x1
  clear_value x3
  refine Within.have_ (x := x2) ?_ fun hx2 => ?_
  · unfold x2
    split
    · refine Within.after (setPrg_within ..) rfl rfl ?_
      refine Within.after (exchangeDone_within ..) rfl rfl ?_
      refine Within.after (putPrg_within ..) rfl rfl ?_
      exact .refl _ _ _
    · exact .refl _ _ _
  clear_value x2
  refine Within.after (exchangeDue_within ..) rfl rfl ?_
  refine .ite ?_ ?_
  · refine Within.after (setPrg_within ..) rfl rfl ?_
    assumption
  · assumption

theorem discardCycle_within (s : State) (p : Nat) : Within (some []) [.prg] s (discardCycle s p) := by
  unfold discardCycle
  extract_lets x1
  clear_value x1
  refine Within.after (putPrg_within ..) rfl rfl ?_
  exact .refl _ _ _

theorem exchangeAccepted_within (s : State) (seq : Nat) (p : Nat) (v : Nat) : Within (some []) [.prg] s (exchangeAccepted s seq p v) := by
  unfold exchangeAccepted
  extract_lets x1 x2
  clear_value x1
  clear_value x2
  refine .ite ?_ ?_
  · exact .refl _ _ _
  · refine Within.after (putPrg_within ..) rfl rfl ?_
    exact .refl _ _ _

theorem overrunWarnClear_within (p : Nat) (s : State) : Within (some [14346]) [] s (overrunWarnClear p s) := by
  unfold overrunWarnClear
  refine .ite ?_ ?_
  · refine .wrBit _ _ _ _ rfl ?_
    exact .refl _ _ _
  · exact .refl _ _ _

theorem prgApply_within {t : State} (s : State) (port : Nat) (i : Nat) (e : Nat) (v : Nat) (h : prgApply s port i e v = some t) :
    Within none [.prg] s t := by
  unfold prgApply at h
  dsimp only at h
  split at h
  · split at h
    · cases h
      refine .wr _ _ _ rfl ?_
      exact .refl _ _ _
    · split at h
      · cases h
        refine .ite ?_ ?_
        · refine Within.after (setPrg_within ..) rfl rfl ?_
          refine .wr _ _ _ rfl ?_
          refine Within.after (putPrg_within ..) rfl rfl ?_
          refine .wr _ _ _ rfl ?_
          exact .refl _ _ _
        · refine .wr _ _ _ rfl ?_
          exact .refl _ _ _
      · cases h
        refine .ite ?_ ?_
        · refine Within.after (setPrg_within ..) rfl rfl ?_
          refine .wr _ _ _ rfl ?_
          exact .refl _ _ _
        · refine .wr _ _ _ rfl ?_
          exact .refl _ _ _
  · split at h
    · cases h
      refine .wr _ _ _ rfl ?_
      refine Within.after (putPrg_within ..) rfl rfl ?_
      exact .refl _ _ _
    · cases h

theorem prgBootSlot_within (s : State) (p : Nat) : Within (some [14336,14352]) [.prg] s (prgBootSlot s p) := by
  unfold prgBootSlot
  extract_lets x1 x2 x3 x4 x5 x6 x7 x8
  clear_value x1
  clear_value x3
  clear_value x4
  clear_value x5
  clear_value x6
  clear_value x7
  refine Within.have_ (x := x8) ?_ fun hx8 => ?_
  · unfold x8
    refine Within.after (putPrg_within ..) rfl rfl ?_
    exact .refl _ _ _
  clear_value x8
  refine .ite ?_ ?_
  · refine Within.after (setPrg_within ..) rfl rfl ?_
    exact .refl _ _ _
  · refine .ite ?_ ?_
    · refine .wr _ _ _ rfl ?_
      refine Within.after (setPrg_within ..) rfl rfl ?_
      assumption
    · refine .ite ?_ ?_
      · refine .wr _ _ _ rfl ?_
        refine Within.after (setPrg_within ..) rfl rfl ?_
        assumption
      · refine Within.after (setPrg_within ..) rfl rfl ?_
        assumption

theorem prgBoot_within (s : State) : Within (some [14336,14352]) [.prg] s (prgBoot s) := by
  unfold prgBoot
  extract_lets x1
  clear_value x1
  refine .foldl (fun t2 x3 => ?_) _ ?_
  · refine Within.after (prgBootSlot_within ..) rfl rfl ?_
    exact .refl _ _ _
  · refine .prg _ rfl ?_
    exact .refl _ _ _

theorem prgFollow_within (s : State) :
    Within (some [5892,14336,14341,14342,14343,14345,14352,14384,14385,14386,14387,14388]) [.mer, .prg, .recd] s (prgFollow s) := by
  unfold prgFollow
  refine .ite ?_ ?_
  · refine .foldl (fun t1 x2 => ?_) _ ?_
    · extract_lets x3 x4
      clear_value x3
      refine Within.have_ (x := x4) ?_ fun hx4 => ?_
      · unfold x4
        refine .ite ?_ ?_
        · exact .refl _ _ _
        · refine .ite ?_ ?_
          · refine Within.after (setPrg_within ..) rfl rfl ?_
            exact .refl _ _ _
          · refine .ite ?_ ?_
            · refine Within.after (setPrg_within ..) rfl rfl ?_
              exact .refl _ _ _
            · exact .refl _ _ _
      clear_value x4
      refine .ite ?_ ?_
      · exact .refl _ _ _
      · refine .ite ?_ ?_
        · assumption
        · refine Within.after (exchangeDue_within ..) rfl rfl ?_
          assumption
    · exact .refl _ _ _
  · exact .refl _ _ _

theorem prgHalt_within (s : State) : Within (some []) [.prg] s (prgHalt s) := by
  unfold prgHalt
  refine .foldl (fun t1 x2 => ?_) _ ?_
  · extract_lets x3
    clear_value x3
    refine .ite ?_ ?_
    · exact .refl _ _ _
    · refine Within.after (putPrg_within ..) rfl rfl ?_
      exact .refl _ _ _
  · exact .refl _ _ _

theorem prgStart_within (s : State) : Within (some [14336]) [] s (prgStart s) := by
  unfold prgStart
  refine .foldl (fun t1 x2 => ?_) _ ?_
  · refine .ite ?_ ?_
    · refine Within.after (setPrg_within ..) rfl rfl ?_
      exact .refl _ _ _
    · exact .refl _ _ _
  · exact .refl _ _ _

theorem prgTakeover_within (s : State) : Within (some [14401]) [.prg] s (prgTakeover s) := by
  unfold prgTakeover
  extract_lets x1 x2
  clear_value x2
  refine Within.have_ (x := x1) ?_ fun hx1 => ?_
  · unfold x1
    refine .foldl (fun t3 x4 => ?_) _ ?_
    · refine .ite ?_ ?_
      · refine Within.after (discardCycle_within ..) rfl rfl ?_
        exact .refl _ _ _
      · exact .refl _ _ _
    · exact .refl _ _ _
  clear_value x1
  refine .count _ _ _ rfl ?_
  refine .prg _ rfl ?_
  assumption

theorem usedPair_within (s : State) (us : Nat) : Within (some []) [.prg] s (usedPair s us) := by
  unfold usedPair
  extract_lets x1
  clear_value x1
  refine .prg _ rfl ?_
  exact .refl _ _ _

theorem programOverrun_within (p : Nat) (s : State) :
    Within (some [5892,14336,14341,14342,14343,14345,14346,14348,14352,14384,14385,14386,14387,14388]) [.mer, .prg,
        .recd] s (programOverrun p s) := by
  unfold programOverrun
  extract_lets x1 x2 x3 x4 x5 x6 x7
  clear_value x1
  clear_value x4
  clear_value x6
  refine Within.have_ (x := x2) ?_ fun hx2 => ?_
  · unfold x2
    refine .count _ _ _ rfl ?_
    refine Within.after (usedPair_within ..) rfl rfl ?_
    refine Within.after (discardCycle_within ..) rfl rfl ?_
    exact .refl _ _ _
  clear_value x2
  refine Within.have_ (x := x3) ?_ fun hx3 => ?_
  · unfold x3
    refine Within.after (prgEvent_within ..) rfl rfl ?_
    refine .wrBit _ _ _ _ rfl ?_
    assumption
  clear_value x3
  refine Within.have_ (x := x5) ?_ fun hx5 => ?_
  · unfold x5
    refine Within.after (putPrg_within ..) rfl rfl ?_
    assumption
  clear_value x5
  refine Within.have_ (x := x7) ?_ fun hx7 => ?_
  · unfold x7
    refine Within.after (cycleBoundary_within ..) rfl rfl ?_
    assumption
  clear_value x7
  refine .ite ?_ ?_
  · refine .ite ?_ ?_
    · refine .wr _ _ _ rfl ?_
      refine Within.after (setPrg_within ..) rfl rfl ?_
      assumption
    · assumption
  · exact .refl _ _ _

theorem programCycleEnd_within (p : Nat) (at_ : Nat) (writes : List (Nat × List Nat)) (s : State) :
    Within (some [5892,14336,14341,14342,14343,14345,14346,14347,14348,14349,14350,14352,14384,14385,14386,14387,14388]) [.mer, .prg,
        .recd] s (programCycleEnd p at_ writes s) := by
  unfold programCycleEnd
  extract_lets x1 x2
  clear_value x1
  clear_value x2
  split
  · exact .refl _ _ _
  · extract_lets x3 x4 x5 x6 x7 x8 x9 x10
    clear_value x3
    clear_value x4
    clear_value x5
    clear_value x10
    refine Within.have_ (x := x6) ?_ fun hx6 => ?_
    · unfold x6
      refine Within.after (storeRetain_within ..) rfl rfl ?_
      refine Within.after (putPrg_within ..) rfl rfl ?_
      exact .refl _ _ _
    clear_value x6
    refine Within.have_ (x := x7) ?_ fun hx7 => ?_
    · unfold x7
      refine .wr _ _ _ rfl ?_
      refine .count _ _ _ rfl ?_
      assumption
    clear_value x7
    refine Within.have_ (x := x8) ?_ fun hx8 => ?_
    · unfold x8
      refine .ite ?_ ?_
      · refine .wr _ _ _ rfl ?_
        assumption
      · assumption
    clear_value x8
    refine Within.have_ (x := x9) ?_ fun hx9 => ?_
    · unfold x9
      refine Within.after (usedPair_within ..) rfl rfl ?_
      assumption
    clear_value x9
    refine .ite ?_ ?_
    · refine Within.after (programOverrun_within ..) rfl rfl ?_
      exact .refl _ _ _
    · refine Within.after (cycleBoundary_within ..) rfl rfl ?_
      refine .prg _ rfl ?_
      assumption

theorem programCycleStart_within (read : State → Nat → Nat → Nat) (p : Nat) (at_ : Nat) (s : State) :
    Within (some [14346,14351]) [.prg] s (programCycleStart read p at_ s) := by
  unfold programCycleStart
  extract_lets x1 x2 x3 x4 x5 x6 x7
  clear_value x1
  clear_value x2
  clear_value x3
  clear_value x7
  refine Within.have_ (x := x4) ?_ fun hx4 => ?_
  · unfold x4
    refine .wrBit _ _ _ _ rfl ?_
    exact .refl _ _ _
  clear_value x4
  refine Within.have_ (x := x5) ?_ fun hx5 => ?_
  · unfold x5
    refine .ite ?_ ?_
    · refine .wr _ _ _ rfl ?_
      assumption
    · assumption
  clear_value x5
  refine Within.have_ (x := x6) ?_ fun hx6 => ?_
  · unfold x6
    refine Within.after (putPrg_within ..) rfl rfl ?_
    assumption
  clear_value x6
  refine .ite ?_ ?_
  · refine .prg _ rfl ?_
    assumption
  · exact .refl _ _ _

theorem programTrap_within (p : Nat) (illegal : Bool) (pc : Nat) (s : State) :
    Within (some [5892,14336,14341,14342,14343,14345,14352,14384,14385,14386,14387,14388]) [.mer, .prg,
        .recd] s (programTrap p illegal pc s) := by
  unfold programTrap
  extract_lets x1 x2 x3
  clear_value x1
  refine Within.have_ (x := x2) ?_ fun hx2 => ?_
  · unfold x2
    refine Within.after (prgEvent_within ..) rfl rfl ?_
    refine Within.after (usedPair_within ..) rfl rfl ?_
    refine Within.after (discardCycle_within ..) rfl rfl ?_
    exact .refl _ _ _
  clear_value x2
  refine Within.have_ (x := x3) ?_ fun hx3 => ?_
  · unfold x3
    refine Within.after (cycleBoundary_within ..) rfl rfl ?_
    assumption
  clear_value x3
  refine .ite ?_ ?_
  · refine .ite ?_ ?_
    · refine .wr _ _ _ rfl ?_
      refine Within.after (setPrg_within ..) rfl rfl ?_
      assumption
    · assumption
  · exact .refl _ _ _

theorem stageCheckDone_within (p : Nat) (s : State) : Within (some [14371,14372,14373]) [.prg] s (stageCheckDone p s) := by
  unfold stageCheckDone
  extract_lets x1 x2 x3 x4
  clear_value x1
  clear_value x2
  clear_value x3
  refine Within.have_ (x := x4) ?_ fun hx4 => ?_
  · unfold x4
    refine .wr _ _ _ rfl ?_
    exact .refl _ _ _
  clear_value x4
  refine .ite ?_ ?_
  · refine .ite ?_ ?_
    · refine .wr _ _ _ rfl ?_
      refine .wr _ _ _ rfl ?_
      refine Within.after (putPrg_within ..) rfl rfl ?_
      assumption
    · refine .wr _ _ _ rfl ?_
      refine Within.after (putPrg_within ..) rfl rfl ?_
      assumption
  · exact .refl _ _ _

end Sys2Proof.Laws
end

