-- ==== Sys2Proof/Laws/FrameClock.lean ====
section
/-!
SUPPORT. What each operation of the clocks may change: entries by their indices and parts of the state by name. Meanings and claims
about frames cite these and unfold nothing.
-/
namespace Sys2Proof.Laws

open Sys2Proof Sys2Proof.Machine Sys2Proof.Safety

theorem timeEvent_within (s : State) (tag : Nat) (set : Bool) (d : Int) (old : Nat) (new : Nat) (sev : Nat) :
    Within (some [5892]) [.recd] s (timeEvent s tag set d old new sev) := by
  unfold timeEvent
  refine Within.after (blockEvent_within ..) rfl rfl ?_
  exact .refl _ _ _

theorem cancelShift_within (s : State) : Within (some [5381,5892]) [.recd, .rtc] s (cancelShift s) := by
  unfold cancelShift
  extract_lets x1 x2
  clear_value x2
  refine Within.have_ (x := x1) ?_ fun hx1 => ?_
  · unfold x1
    refine Within.after (timeEvent_within ..) rfl rfl ?_
    refine .wr _ _ _ rfl ?_
    exact .refl _ _ _
  clear_value x1
  refine .ite ?_ ?_
  · exact .refl _ _ _
  · refine .rtc _ rfl ?_
    assumption

theorem setCount_within (s : State) (c : Nat) (sub : Nat) : Within (some [5376,5377,5384]) [.rtc] s (setCount s c sub) := by
  unfold setCount
  extract_lets x1 x2
  clear_value x2
  refine Within.have_ (x := x1) ?_ fun hx1 => ?_
  · unfold x1
    refine .wr _ _ _ rfl ?_
    refine .wr _ _ _ rfl ?_
    refine .wr _ _ _ rfl ?_
    exact .refl _ _ _
  clear_value x1
  refine .rtc _ rfl ?_
  assumption

theorem applyTime_within (s : State) (count : Nat) (at_ : Nat) :
    Within (some [5376,5377,5381,5383,5384,5892]) [.recd, .rtc] s (applyTime s count at_) := by
  unfold applyTime
  extract_lets x1 x2
  clear_value x1
  refine Within.have_ (x := x2) ?_ fun hx2 => ?_
  · unfold x2
    refine Within.after (setCount_within ..) rfl rfl ?_
    refine Within.after (cancelShift_within ..) rfl rfl ?_
    exact .refl _ _ _
  clear_value x2
  refine Within.after (anchor_within ..) rfl rfl ?_
  refine .wr _ _ _ rfl ?_
  assumption

theorem backupDefaults_within (s : State) : Within none [] s (backupDefaults s) := by
  unfold backupDefaults
  extract_lets x1
  clear_value x1
  refine .drop _ ?_
  exact .refl _ _ _

theorem backupDomainBrownout_within (s : State) : Within none [.rtc] s (backupDomainBrownout s) := by
  unfold backupDomainBrownout
  extract_lets x1 x2 x3
  clear_value x2
  refine Within.have_ (x := x1) ?_ fun hx1 => ?_
  · unfold x1
    refine .wr _ _ _ rfl ?_
    refine Within.after (backupDefaults_within ..) rfl rfl ?_
    exact .refl _ _ _
  clear_value x1
  refine Within.have_ (x := x3) ?_ fun hx3 => ?_
  · unfold x3
    refine .wr _ _ _ rfl ?_
    assumption
  clear_value x3
  refine .rtc _ rfl ?_
  assumption

theorem carryDomain_within (s : State) : Within (some []) [.mer, .nvs] s (carryDomain s) := by
  unfold carryDomain
  extract_lets x1 x2 x3
  clear_value x1
  clear_value x2
  clear_value x3
  refine .ite ?_ ?_
  · refine .mer_nvs _ _ rfl rfl ?_
    exact .refl _ _ _
  · exact .refl _ _ _

theorem countLost_within (s : State) : Within (some [5392]) [.rtc] s (countLost s) := by
  unfold countLost
  extract_lets x1
  clear_value x1
  refine .foldl (fun t2 x3 => ?_) _ ?_
  · refine .toDefault _ _ rfl ?_
    exact .refl _ _ _
  · refine .rtc _ rfl ?_
    exact .refl _ _ _

theorem checkDomain_within (s : State) : Within (some [5376,5377,5383,5384,5389,5392,5892]) [.recd, .rtc] s (checkDomain s) := by
  unfold checkDomain
  extract_lets x1 x2 x3 x4
  clear_value x1
  clear_value x4
  refine Within.have_ (x := x2) ?_ fun hx2 => ?_
  · unfold x2
    refine .ite ?_ ?_
    · exact .refl _ _ _
    · refine Within.after (countLost_within ..) rfl rfl ?_
      exact .refl _ _ _
  clear_value x2
  refine Within.have_ (x := x3) ?_ fun hx3 => ?_
  · unfold x3
    refine .count _ _ _ rfl ?_
    refine .wr _ _ _ rfl ?_
    refine Within.after (setCount_within ..) rfl rfl ?_
    assumption
  clear_value x3
  refine .ite ?_ ?_
  · refine Within.after (timeEvent_within ..) rfl rfl ?_
    refine .rtc _ rfl ?_
    assumption
  · exact .refl _ _ _

theorem secondBoundary_within (s : State) : Within (some [5376,5377,5381,5383,5384,5892]) [.mer, .recd, .rtc] s (secondBoundary s) := by
  unfold secondBoundary
  extract_lets x1 x2 x3 x4 x5 x6 x7 x8
  clear_value x1
  clear_value x2
  clear_value x4
  clear_value x6
  refine Within.have_ (x := x3) ?_ fun hx3 => ?_
  · unfold x3
    refine Within.after (setCount_within ..) rfl rfl ?_
    exact .refl _ _ _
  clear_value x3
  refine Within.have_ (x := x5) ?_ fun hx5 => ?_
  · unfold x5
    refine .rtc _ rfl ?_
    assumption
  clear_value x5
  refine Within.have_ (x := x7) ?_ fun hx7 => ?_
  · unfold x7
    refine .ite ?_ ?_
    · refine .mer _ rfl ?_
      assumption
    · assumption
  clear_value x7
  refine Within.have_ (x := x8) ?_ fun hx8 => ?_
  · unfold x8
    refine .ite ?_ ?_
    · assumption
    · refine Within.after (anchor_within ..) rfl rfl ?_
      refine .wr _ _ _ rfl ?_
      refine .ite ?_ ?_
      · refine .wr _ _ _ rfl ?_
        assumption
      · assumption
  clear_value x8
  refine .ite ?_ ?_
  · refine Within.after (anchor_within ..) rfl rfl ?_
    assumption
  · assumption

theorem crystalTick_within (s : State) : Within (some [5376,5377,5381,5383,5384,5892]) [.crystal, .mer, .recd, .rtc] s (crystalTick s) := by
  unfold crystalTick
  extract_lets x1 x2 x3 x4
  clear_value x2
  clear_value x3
  clear_value x4
  refine Within.have_ (x := x1) ?_ fun hx1 => ?_
  · unfold x1
    refine .crystal _ rfl ?_
    exact .refl _ _ _
  clear_value x1
  refine .ite ?_ ?_
  · refine .wr _ _ _ rfl ?_
    assumption
  · refine .ite ?_ ?_
    · refine .rtc _ rfl ?_
      assumption
    · refine Within.after (secondBoundary_within ..) rfl rfl ?_
      assumption

theorem rtcSecondBoundary_within (s : State) :
    Within (some [5376,5377,5381,5383,5384,5892]) [.crystal, .mer, .recd, .rtc] s (rtcSecondBoundary s) := by
  unfold rtcSecondBoundary
  extract_lets x1 x2
  clear_value x1
  clear_value x2
  refine Within.after (secondBoundary_within ..) rfl rfl ?_
  refine .crystal _ rfl ?_
  exact .refl _ _ _

theorem rtcSyncCompare_within (s : State) : Within (some [5381,5382,5388,5892]) [.recd, .rtc] s (rtcSyncCompare s) := by
  unfold rtcSyncCompare
  extract_lets x1 x2 x3 x4 x5 x6 x7 x8 x9
  clear_value x1
  clear_value x2
  clear_value x3
  clear_value x5
  clear_value x8
  clear_value x9
  refine Within.have_ (x := x4) ?_ fun hx4 => ?_
  · unfold x4
    refine .wr _ _ _ rfl ?_
    exact .refl _ _ _
  clear_value x4
  refine Within.have_ (x := x6) ?_ fun hx6 => ?_
  · unfold x6
    refine .wrBit _ _ _ _ rfl ?_
    assumption
  clear_value x6
  refine Within.have_ (x := x7) ?_ fun hx7 => ?_
  · unfold x7
    refine .wr _ _ _ rfl ?_
    assumption
  clear_value x7
  refine .ite ?_ ?_
  · refine .ite ?_ ?_
    · assumption
    · refine .ite ?_ ?_
      · refine Within.after (timeEvent_within ..) rfl rfl ?_
        refine .rtc _ rfl ?_
        assumption
      · refine Within.after (timeEvent_within ..) rfl rfl ?_
        refine .rtc _ rfl ?_
        assumption
  · exact .refl _ _ _

theorem timeApply_within {t : State} (s : State) (at_ : Nat) (i : Nat) (v : Nat) (h : timeApply s at_ i v = some t) :
    Within none [.recd, .rtc] s t := by
  unfold timeApply at h
  dsimp only at h
  split at h
  · cases h
    refine Within.after (applyTime_within ..) rfl rfl ?_
    exact .refl _ _ _
  · split at h
    · cases h
      refine Within.after (applyTime_within ..) rfl rfl ?_
      exact .refl _ _ _
    · split at h
      · split at h
        · cases h
          exact .refl _ _ _
        · cases h
          refine .rtc _ rfl ?_
          refine .wr _ _ _ rfl ?_
          exact .refl _ _ _
      · split at h
        · cases h
          refine .ite ?_ ?_
          · exact .refl _ _ _
          · refine Within.after (anchor_within ..) rfl rfl ?_
            refine .wr _ _ _ rfl ?_
            exact .refl _ _ _
        · cases h

theorem timebaseSecond_within (old : Nat) (s : State) : Within (some [5376,5377,5381,5383,5384,5892]) [.recd,
    .rtc] s (timebaseSecond old s) := by
  unfold timebaseSecond
  extract_lets x1 x2 x3
  clear_value x1
  clear_value x3
  refine Within.have_ (x := x2) ?_ fun hx2 => ?_
  · unfold x2
    refine .wr _ _ _ rfl ?_
    refine Within.after (setCount_within ..) rfl rfl ?_
    refine Within.after (cancelShift_within ..) rfl rfl ?_
    exact .refl _ _ _
  clear_value x2
  refine .ite ?_ ?_
  · refine Within.after (anchor_within ..) rfl rfl ?_
    refine .rtc _ rfl ?_
    assumption
  · exact .refl _ _ _

theorem vaonSwitchBack_within (s : State) : Within (some []) [.rtc] s (vaonSwitchBack s) := by
  unfold vaonSwitchBack
  extract_lets x1
  clear_value x1
  refine .rtc _ rfl ?_
  exact .refl _ _ _

theorem vbatMeasure_within (mv : Nat) (s : State) : Within (some [5382,5385,5892]) [.recd] s (vbatMeasure mv s) := by
  unfold vbatMeasure
  extract_lets x1 x2
  clear_value x1
  refine Within.have_ (x := x2) ?_ fun hx2 => ?_
  · unfold x2
    refine .wrBit _ _ _ _ rfl ?_
    refine .wr _ _ _ rfl ?_
    exact .refl _ _ _
  clear_value x2
  refine .ite ?_ ?_
  · refine .ite ?_ ?_
    · refine Within.after (blockEvent_within ..) rfl rfl ?_
      refine .wrBit _ _ _ _ rfl ?_
      assumption
    · refine .ite ?_ ?_
      · refine .wrBit _ _ _ _ rfl ?_
        assumption
      · assumption
  · exact .refl _ _ _

theorem vbatSwitchOver_within (s : State) : Within (some [9280,9281]) [.mer, .nvs, .rtc] s (vbatSwitchOver s) := by
  unfold vbatSwitchOver
  extract_lets x1 x2 x3
  clear_value x3
  refine Within.have_ (x := x1) ?_ fun hx1 => ?_
  · unfold x1
    refine .countMod _ _ rfl ?_
    exact .refl _ _ _
  clear_value x1
  refine Within.have_ (x := x2) ?_ fun hx2 => ?_
  · unfold x2
    refine .ite ?_ ?_
    · refine .wr _ _ _ rfl ?_
      assumption
    · assumption
  clear_value x2
  refine .ite ?_ ?_
  · exact .refl _ _ _
  · refine Within.after (carryDomain_within ..) rfl rfl ?_
    refine .rtc _ rfl ?_
    assumption

end Sys2Proof.Laws
end

