-- ==== Sys2Proof/Laws/FrameNvs.lean ====
section
/-!
SUPPORT. What each operation of the Meringue store may change: entries by their indices and parts of the state by name. Meanings and claims
about frames cite these and unfold nothing.
-/
namespace Sys2Proof.Laws

open Sys2Proof Sys2Proof.Machine Sys2Proof.Safety

theorem allowanceReplenish_within (s : State) : Within (some [5633]) [] s (allowanceReplenish s) := by
  unfold allowanceReplenish
  refine .ite ?_ ?_
  · refine .wr _ _ _ rfl ?_
    exact .refl _ _ _
  · exact .refl _ _ _

theorem bankLost_within (s : State) : Within none [.mer, .recd] s (bankLost s) := by
  unfold bankLost
  extract_lets x1
  refine Within.have_ (x := x1) ?_ fun hx1 => ?_
  · unfold x1
    refine .od_mer _ _ rfl ?_
    exact .refl _ _ _
  clear_value x1
  refine Within.after (recordEvent_within ..) rfl rfl ?_
  refine .wr _ _ _ rfl ?_
  assumption

theorem putShadow_within (s : State) (b : Nat) (x : Option Bank) : Within (some []) [.nvs] s (putShadow s b x) := by
  unfold putShadow
  extract_lets x1
  clear_value x1
  refine .ite ?_ ?_
  · refine .nvs _ rfl ?_
    exact .refl _ _ _
  · refine .nvs _ rfl ?_
    exact .refl _ _ _

theorem storeCounters_within (s : State) (bank : Nat) (gen : Nat) (cause : Nat) (at_ : Nat) :
    Within (some [5634,5636,5637,5638]) [] s (storeCounters s bank gen cause at_) := by
  unfold storeCounters
  refine .wr _ _ _ rfl ?_
  refine .wr _ _ _ rfl ?_
  refine .wr _ _ _ rfl ?_
  refine .count _ _ _ rfl ?_
  exact .refl _ _ _

theorem writeSel_within (s : State) (w : SelWord) : Within (some []) [.nvs] s (writeSel s w) := by
  unfold writeSel
  extract_lets x1 x2 x3
  clear_value x1
  clear_value x3
  refine Within.have_ (x := x2) ?_ fun hx2 => ?_
  · unfold x2
    refine .nvs _ rfl ?_
    exact .refl _ _ _
  clear_value x2
  refine .nvs _ rfl ?_
  assumption

theorem beginInPlace_within (s : State) (bank : Nat) (snap : Bank) : Within none [.nvs] s (beginInPlace s bank snap) := by
  unfold beginInPlace
  extract_lets x1 x2 x3 x4 x5 x6
  clear_value x5
  clear_value x6
  refine Within.have_ (x := x1) ?_ fun hx1 => ?_
  · unfold x1
    refine Within.after (storeCounters_within ..) rfl rfl ?_
    exact .refl _ _ _
  clear_value x1
  refine Within.have_ (x := x4) ?_ fun hx4 => ?_
  · unfold x4
    refine Within.after (writeSel_within ..) rfl rfl ?_
    refine .wr _ _ _ rfl ?_
    refine .wr _ _ _ rfl ?_
    refine Within.after (putShadow_within ..) rfl rfl ?_
    assumption
  clear_value x4
  refine .nvs _ rfl ?_
  assumption

theorem beginStore_within (s : State) (cause : Nat) (at_ : Nat) :
    Within (some [5634,5636,5637,5638]) [.mer, .nvs] s (beginStore s cause at_) := by
  unfold beginStore
  extract_lets x1 x2 x3 x4 x5 x6
  clear_value x1
  clear_value x2
  clear_value x3
  clear_value x6
  refine Within.have_ (x := x4) ?_ fun hx4 => ?_
  · unfold x4
    refine .mer _ rfl ?_
    exact .refl _ _ _
  clear_value x4
  refine Within.have_ (x := x5) ?_ fun hx5 => ?_
  · unfold x5
    refine Within.after (storeCounters_within ..) rfl rfl ?_
    assumption
  clear_value x5
  refine .nvs _ rfl ?_
  assumption

theorem calTorn_within (s : State) (c : Nat) : Within (some [8465,8466,8467,8468]) [.mer] s (calTorn s c) := by
  unfold calTorn
  extract_lets x1 x2 x3
  clear_value x1
  clear_value x2
  refine Within.have_ (x := x3) ?_ fun hx3 => ?_
  · unfold x3
    refine .mer _ rfl ?_
    exact .refl _ _ _
  clear_value x3
  refine .foldl (fun t4 x5 => ?_) _ ?_
  · extract_lets x6
    clear_value x6
    refine .wr _ _ _ rfl ?_
    refine .wr _ _ _ rfl ?_
    refine .wr _ _ _ rfl ?_
    refine .wr _ _ _ rfl ?_
    exact .refl _ _ _
  · assumption

theorem drawAllowance_within (s : State) : Within (some [5633]) [] s (drawAllowance s) := by
  unfold drawAllowance
  refine .wr _ _ _ rfl ?_
  exact .refl _ _ _

theorem keyTorn_within (s : State) (n : Nat) : Within (some [6208,6209,6210,6211,6213]) [.mer] s (keyTorn s n) := by
  unfold keyTorn
  extract_lets x1 x2 x3 x4
  clear_value x1
  clear_value x2
  clear_value x3
  refine Within.have_ (x := x4) ?_ fun hx4 => ?_
  · unfold x4
    refine .mer _ rfl ?_
    exact .refl _ _ _
  clear_value x4
  refine .wr _ _ _ rfl ?_
  refine .wr _ _ _ rfl ?_
  refine .wr _ _ _ rfl ?_
  refine .wr _ _ _ rfl ?_
  refine .wr _ _ _ rfl ?_
  assumption

theorem ledgerLoaded_within (s : State) : Within (some [5136]) [.mer] s (ledgerLoaded s) := by
  unfold ledgerLoaded
  extract_lets x1 x2 x3
  clear_value x1
  clear_value x3
  refine Within.have_ (x := x2) ?_ fun hx2 => ?_
  · unfold x2
    refine .wr _ _ _ rfl ?_
    exact .refl _ _ _
  clear_value x2
  refine .mer _ rfl ?_
  assumption

theorem loadFrom_within (s : State) (b : Bank) : Within none [.mer] s (loadFrom s b) := by
  unfold loadFrom
  refine .od_mer _ _ rfl ?_
  exact .refl _ _ _

theorem putCells_within (s : State) (cs : List Cell) : Within none [] s (putCells s cs) := by
  unfold putCells
  refine .foldl (fun t1 x2 => ?_) _ ?_
  · refine .wr _ _ _ rfl ?_
    exact .refl _ _ _
  · exact .refl _ _ _

theorem restoreBank_within (s : State) (b : Bank) : Within none [.mer] s (restoreBank s b) := by
  unfold restoreBank
  refine Within.after (putCells_within ..) rfl rfl ?_
  refine Within.after (loadFrom_within ..) rfl rfl ?_
  exact .refl _ _ _

theorem loadBank_within (s : State) (bad0 : Bool) (bad1 : Bool) (corr0 : Nat) (corr1 : Nat) :
    Within none [.mer, .recd] s (loadBank s bad0 bad1 corr0 corr1) := by
  unfold loadBank
  extract_lets x1 x2 x3 x4 x5 x6
  clear_value x1
  clear_value x2
  refine Within.have_ (x := x5) ?_ fun hx5 => ?_
  · unfold x5
    refine Within.after (recordEvent_within ..) rfl rfl ?_
    exact .refl _ _ _
  clear_value x5
  refine Within.have_ (x := x6) ?_ fun hx6 => ?_
  · unfold x6
    refine .ite ?_ ?_
    · refine Within.after (bankLost_within ..) rfl rfl ?_
      exact .refl _ _ _
    · refine .ite ?_ ?_
      · simp only [x4]
        refine .ite ?_ ?_
        · refine .count _ _ _ rfl ?_
          simp only [x3]
          split
          · refine Within.after (restoreBank_within ..) rfl rfl ?_
            exact .refl _ _ _
          · exact .refl _ _ _
        · simp only [x3]
          split
          · refine Within.after (restoreBank_within ..) rfl rfl ?_
            exact .refl _ _ _
          · exact .refl _ _ _
      · refine .wr _ _ _ rfl ?_
        simp only [x4]
        refine .ite ?_ ?_
        · refine .count _ _ _ rfl ?_
          refine .ite ?_ ?_
          · refine .count _ _ _ rfl ?_
            refine .ite ?_ ?_
            · refine Within.after (bankLost_within ..) rfl rfl ?_
              assumption
            · simp only [x3]
              split
              · refine Within.after (restoreBank_within ..) rfl rfl ?_
                assumption
              · assumption
          · refine .ite ?_ ?_
            · refine Within.after (bankLost_within ..) rfl rfl ?_
              assumption
            · simp only [x3]
              split
              · refine Within.after (restoreBank_within ..) rfl rfl ?_
                assumption
              · assumption
        · refine .ite ?_ ?_
          · refine .count _ _ _ rfl ?_
            refine .ite ?_ ?_
            · refine Within.after (bankLost_within ..) rfl rfl ?_
              assumption
            · simp only [x3]
              split
              · refine Within.after (restoreBank_within ..) rfl rfl ?_
                assumption
              · assumption
          · refine .ite ?_ ?_
            · refine Within.after (bankLost_within ..) rfl rfl ?_
              assumption
            · simp only [x3]
              split
              · refine Within.after (restoreBank_within ..) rfl rfl ?_
                assumption
              · assumption
  clear_value x6
  refine .wr _ _ _ rfl ?_
  assumption

theorem triggerStore_within (s : State) (cause : Nat) : Within (some [5638]) [.nvs] s (triggerStore s cause) := by
  unfold triggerStore
  extract_lets x1 x2
  clear_value x1
  refine Within.have_ (x := x2) ?_ fun hx2 => ?_
  · unfold x2
    refine .nvs _ rfl ?_
    exact .refl _ _ _
  clear_value x2
  refine .ite ?_ ?_
  · assumption
  · refine .wr _ _ _ rfl ?_
    assumption

theorem nvsApply_within {t : State} (s : State) (i : Nat) (h : nvsApply s i = some t) : Within (some [5638]) [.nvs] s t := by
  unfold nvsApply at h
  split at h
  · cases h
    refine Within.after (triggerStore_within ..) rfl rfl ?_
    exact .refl _ _ _
  · cases h

theorem selSpoiled_within (s : State) (bad : Nat) : Within (some []) [.nvs] s (selSpoiled s bad) := by
  unfold selSpoiled
  extract_lets x1 x2 x3
  clear_value x1
  clear_value x2
  clear_value x3
  refine .nvs _ rfl ?_
  exact .refl _ _ _

theorem storePassed_within (s : State) (snap : Bank) (us : Nat) :
    Within (some [4160,5635,5639,5642,5644,5645,5892]) [.mode, .net, .nvs, .recd] s (storePassed s snap us) := by
  unfold storePassed
  extract_lets x1 x2 x3 x4 x5
  clear_value x1
  clear_value x3
  refine Within.have_ (x := x2) ?_ fun hx2 => ?_
  · unfold x2
    refine Within.after (writeSel_within ..) rfl rfl ?_
    refine Within.after (putShadow_within ..) rfl rfl ?_
    exact .refl _ _ _
  clear_value x2
  refine Within.have_ (x := x4) ?_ fun hx4 => ?_
  · unfold x4
    refine .nvs _ rfl ?_
    assumption
  clear_value x4
  refine Within.have_ (x := x5) ?_ fun hx5 => ?_
  · unfold x5
    refine Within.after (clearFault_within ..) rfl rfl ?_
    refine .wr _ _ _ rfl ?_
    refine .wr _ _ _ rfl ?_
    refine .wr _ _ _ rfl ?_
    assumption
  clear_value x5
  refine .wr _ _ _ rfl ?_
  refine .wr _ _ _ rfl ?_
  assumption

theorem storeComplete_within (bad : Bool) (us : Nat) (s : State) : Within none [.mode, .net, .nvs, .recd,
    .sys] s (storeComplete bad us s) := by
  unfold storeComplete
  split
  · exact .refl _ _ _
  · extract_lets x1 x2 x3 x4
    clear_value x1
    clear_value x4
    refine Within.have_ (x := x2) ?_ fun hx2 => ?_
    · unfold x2
      refine Within.after (raiseFault_within ..) rfl rfl ?_
      refine .wr _ _ _ rfl ?_
      refine Within.after (putShadow_within ..) rfl rfl ?_
      exact .refl _ _ _
    clear_value x2
    refine Within.have_ (x := x3) ?_ fun hx3 => ?_
    · unfold x3
      refine .wr _ _ _ rfl ?_
      assumption
    clear_value x3
    refine .ite ?_ ?_
    · refine Within.after (storePassed_within ..) rfl rfl ?_
      exact .refl _ _ _
    · refine .ite ?_ ?_
      · refine .nvs _ rfl ?_
        assumption
      · refine Within.after (beginInPlace_within ..) rfl rfl ?_
        assumption

theorem storeStart_within (s : State) : Within (some [5634,5636,5637,5638,5892]) [.mer, .nvs, .recd] s (storeStart s) := by
  unfold storeStart
  split
  · extract_lets x1 x2
    clear_value x1
    refine Within.have_ (x := x2) ?_ fun hx2 => ?_
    · unfold x2
      refine .nvs _ rfl ?_
      exact .refl _ _ _
    clear_value x2
    refine .ite ?_ ?_
    · refine Within.after (beginStore_within ..) rfl rfl ?_
      refine .ite ?_ ?_
      · refine Within.after (overflowRecord_within ..) rfl rfl ?_
        refine Within.after (flushRecords_within ..) rfl rfl ?_
        assumption
      · assumption
    · exact .refl _ _ _
  · exact .refl _ _ _

theorem tornAt_within (s : State) (off : Nat) : Within (some [6208,6209,6210,6211,6213,8465,8466,8467,8468]) [.mer] s (tornAt s off) := by
  unfold tornAt
  extract_lets x1
  clear_value x1
  refine .ite ?_ ?_
  · refine .mer _ rfl ?_
    exact .refl _ _ _
  · refine .ite ?_ ?_
    · refine .mer _ rfl ?_
      exact .refl _ _ _
    · split
      · refine .mer _ rfl ?_
        exact .refl _ _ _
      · refine Within.after (keyTorn_within ..) rfl rfl ?_
        exact .refl _ _ _
      · refine Within.after (calTorn_within ..) rfl rfl ?_
        exact .refl _ _ _
      · exact .refl _ _ _

theorem tornEvents_within (s : State) (l : List (Nat × Nat)) :
    Within (some [5643,5892,6208,6209,6210,6211,6213,8465,8466,8467,8468]) [.mer, .recd] s (tornEvents s l) := by
  unfold tornEvents
  refine .foldl (fun t1 x2 => ?_) _ ?_
  · refine Within.after (recordEvent_within ..) rfl rfl ?_
    refine .count _ _ _ rfl ?_
    refine Within.after (tornAt_within ..) rfl rfl ?_
    exact .refl _ _ _
  · exact .refl _ _ _

end Sys2Proof.Laws
end

