-- ==== Sys2Proof/Laws/FrameRecorder.lean ====
section
/-!
SUPPORT. What each operation of the recorder may change: entries by their indices and parts of the state by name. Meanings and claims
about frames cite these and unfold nothing.
-/
namespace Sys2Proof.Laws

open Sys2Proof Sys2Proof.Machine Sys2Proof.Safety

theorem clearAccepted_within (s : State) (seq : Nat) (x : Nat) : Within (some []) [.recd] s (clearAccepted s seq x) := by
  unfold clearAccepted
  extract_lets x1
  clear_value x1
  refine .recd _ rfl ?_
  exact .refl _ _ _

theorem moveBlock_within (s : State) (n : Nat) : Within (some [5892]) [.mer, .recd] s (moveBlock s n) := by
  unfold moveBlock
  extract_lets x1 x2 x3 x4 x5 x6 x7 x8
  clear_value x1
  clear_value x2
  clear_value x3
  clear_value x4
  clear_value x5
  clear_value x6
  clear_value x7
  refine Within.have_ (x := x8) ?_ fun hx8 => ?_
  · unfold x8
    refine .recd _ rfl ?_
    exact .refl _ _ _
  clear_value x8
  refine .ite ?_ ?_
  · refine Within.after (overflowRecord_within ..) rfl rfl ?_
    refine .ite ?_ ?_
    · assumption
    · refine Within.after (flushRecords_within ..) rfl rfl ?_
      assumption
  · assumption

theorem startDump_within (s : State) (v : Nat) : Within (some [5921,5922,6418]) [.lbs, .nextXfer, .out, .recd] s (startDump s v) := by
  unfold startDump
  extract_lets x1 x2 x3
  clear_value x1
  clear_value x3
  refine Within.have_ (x := x2) ?_ fun hx2 => ?_
  · unfold x2
    refine .wr _ _ _ rfl ?_
    refine .wr _ _ _ rfl ?_
    exact .refl _ _ _
  clear_value x2
  refine Within.after (bspStart_within ..) rfl rfl ?_
  refine .recd _ rfl ?_
  assumption

theorem takeSnapshot_within (s : State) (port : Nat) (client : Nat) (r : Nat) (v : Nat) :
    Within (some [5904,5905,5906,5907]) [.recd] s (takeSnapshot s port client r v) := by
  unfold takeSnapshot
  extract_lets x1 x2 x3 x4 x5
  clear_value x1
  clear_value x2
  clear_value x5
  refine Within.have_ (x := x3) ?_ fun hx3 => ?_
  · unfold x3
    refine .wr _ _ _ rfl ?_
    refine .wr _ _ _ rfl ?_
    refine .wr _ _ _ rfl ?_
    exact .refl _ _ _
  clear_value x3
  refine Within.have_ (x := x4) ?_ fun hx4 => ?_
  · unfold x4
    refine .foldl (fun t6 x7 => ?_) _ ?_
    · refine .wr _ _ _ rfl ?_
      exact .refl _ _ _
    · assumption
  clear_value x4
  refine .recd _ rfl ?_
  assumption

theorem recApply_within {t : State} (s : State) (port : Nat) (client : Nat) (i : Nat) (e : Nat) (v : Nat) (h : recApply s port client i e
    v = some t) :
    Within (some [5904,5905,5906,5907,5921,5922,6418]) [.lbs, .nextXfer, .out, .recd] s t := by
  unfold recApply at h
  split at h
  · cases h
    refine Within.after (takeSnapshot_within ..) rfl rfl ?_
    exact .refl _ _ _
  · split at h
    · cases h
      refine Within.after (startDump_within ..) rfl rfl ?_
      exact .refl _ _ _
    · cases h

theorem recClearApply_within (s : State) : Within (some [5892,5894]) [.mer, .recd] s (recClearApply s) := by
  unfold recClearApply
  split
  · exact .refl _ _ _
  · extract_lets x1 x2 x3 x4 x5 x6
    clear_value x1
    clear_value x5
    refine Within.have_ (x := x2) ?_ fun hx2 => ?_
    · unfold x2
      refine .recd _ rfl ?_
      exact .refl _ _ _
    clear_value x2
    refine Within.have_ (x := x3) ?_ fun hx3 => ?_
    · unfold x3
      refine Within.after (recordEvent_within ..) rfl rfl ?_
      assumption
    clear_value x3
    refine Within.have_ (x := x4) ?_ fun hx4 => ?_
    · unfold x4
      refine .wr _ _ _ rfl ?_
      assumption
    clear_value x4
    refine Within.have_ (x := x6) ?_ fun hx6 => ?_
    · unfold x6
      refine .ite ?_ ?_
      · refine .recd _ rfl ?_
        assumption
      · assumption
    clear_value x6
    refine .ite ?_ ?_
    · refine Within.after (overflowRecord_within ..) rfl rfl ?_
      refine Within.after (specialDone_within ..) rfl rfl ?_
      assumption
    · exact .refl _ _ _

theorem recContextExpiry_within (r : Nat) (s : State) : Within (some [5905]) [.recd] s (recContextExpiry r s) := by
  unfold recContextExpiry
  extract_lets x1 x2
  clear_value x2
  refine Within.have_ (x := x1) ?_ fun hx1 => ?_
  · unfold x1
    refine .wr _ _ _ rfl ?_
    exact .refl _ _ _
  clear_value x1
  refine .ite ?_ ?_
  · refine .recd _ rfl ?_
    assumption
  · exact .refl _ _ _

theorem waitedErase_within (s : State) : Within (some [5892]) [.mer, .recd] s (waitedErase s) := by
  unfold waitedErase
  refine .ite ?_ ?_
  · refine Within.after (moveBlock_within ..) rfl rfl ?_
    exact .refl _ _ _
  · exact .refl _ _ _

theorem recDumpComplete_within (failed : Bool) (s : State) : Within (some [5892,5921]) [.lbs, .mer,
    .recd] s (recDumpComplete failed s) := by
  unfold recDumpComplete
  extract_lets x1 x2
  clear_value x2
  refine Within.have_ (x := x1) ?_ fun hx1 => ?_
  · unfold x1
    refine Within.after (bspDrop_within ..) rfl rfl ?_
    refine .wr _ _ _ rfl ?_
    exact .refl _ _ _
  clear_value x1
  refine .ite ?_ ?_
  · refine Within.after (waitedErase_within ..) rfl rfl ?_
    refine .recd _ rfl ?_
    assumption
  · exact .refl _ _ _

theorem recDumpEraseTimeout_within (s : State) : Within (some [5892,5921]) [.lbs, .mer, .recd] s (recDumpEraseTimeout s) := by
  unfold recDumpEraseTimeout
  refine .ite ?_ ?_
  · refine Within.after (recDumpComplete_within ..) rfl rfl ?_
    exact .refl _ _ _
  · exact .refl _ _ _

theorem recordMove_within (rest : Bool) (s : State) : Within (some [5892]) [.mer, .recd] s (recordMove rest s) := by
  unfold recordMove
  extract_lets x1 x2 x3
  clear_value x1
  clear_value x2
  clear_value x3
  refine .ite ?_ ?_
  · refine .ite ?_ ?_
    · refine .recd _ rfl ?_
      exact .refl _ _ _
    · refine Within.after (moveBlock_within ..) rfl rfl ?_
      exact .refl _ _ _
  · exact .refl _ _ _

theorem recorderBoot_within (s : State) (keepBuf : Bool) : Within (some [5892]) [.recd] s (recorderBoot s keepBuf) := by
  unfold recorderBoot
  extract_lets x1 x2 x3 x4 x5 x6 x7 x8 x9 x10 x11 x12 x13
  clear_value x1
  clear_value x2
  clear_value x4
  clear_value x5
  clear_value x6
  clear_value x8
  clear_value x9
  clear_value x10
  clear_value x11
  clear_value x12
  refine Within.have_ (x := x3) ?_ fun hx3 => ?_
  · unfold x3
    refine .recd _ rfl ?_
    exact .refl _ _ _
  refine Within.have_ (x := x13) ?_ fun hx13 => ?_
  · unfold x13
    refine .recd _ rfl ?_
    assumption
  clear_value x13
  refine .ite ?_ ?_
  · refine Within.after (recordEvent_within ..) rfl rfl ?_
    assumption
  · assumption

theorem recorderFlush_within (s : State) : Within (some [5892]) [.mer, .recd] s (recorderFlush s) := by
  unfold recorderFlush
  refine .ite ?_ ?_
  · refine Within.after (overflowRecord_within ..) rfl rfl ?_
    refine Within.after (flushRecords_within ..) rfl rfl ?_
    exact .refl _ _ _
  · exact .refl _ _ _

end Sys2Proof.Laws
end

