-- ==== Sys2Proof/Laws/FrameKeys.lean ====
section
/-!
SUPPORT. What each operation of the keys may change: entries by their indices and parts of the state by name. Meanings and claims
about frames cite these and unfold nothing.
-/
namespace Sys2Proof.Laws

open Sys2Proof Sys2Proof.Machine Sys2Proof.Safety

theorem renewChallenge_within (s : State) (n : Nat) : Within (some []) [.free, .keys] s (renewChallenge s n) := by
  unfold renewChallenge
  extract_lets x1 x2
  clear_value x2
  refine Within.have_ (x := x1) ?_ fun hx1 => ?_
  · unfold x1
    refine Within.after (State_tookFree_within ..) rfl rfl ?_
    exact .refl _ _ _
  clear_value x1
  refine .keys _ rfl ?_
  assumption

theorem updEvent_within (s : State) (tag : Nat) (inst : Nat) (sev : Nat) (status : Nat) :
    Within (some [5892]) [.recd] s (updEvent s tag inst sev status) := by
  unfold updEvent
  refine Within.after (blockEvent_within ..) rfl rfl ?_
  exact .refl _ _ _

theorem keyFlip_within (s : State) (n : Nat) (seq : Nat) (p : KeyHalf) :
    Within (some [5892,6144,6153,6208,6209,6210,6211,6212,6213,6217]) [.free, .keys, .mer, .recd] s (keyFlip s n seq p) := by
  unfold keyFlip
  refine .ite (Within.after (updEvent_within ..) rfl rfl ?_) ?_
  all_goals
    refine .ite (.wr _ _ _ rfl (.wr _ _ _ rfl ?_)) ?_
  all_goals
    refine .ite ?_ (.wr _ _ _ rfl ?_)
  all_goals
    refine .mer _ rfl (Within.after (renewChallenge_within ..) rfl rfl ?_)
    exact .wr _ _ _ rfl (.wr _ _ _ rfl (.wr _ _ _ rfl (.wr _ _ _ rfl (.wr _ _ _ rfl (.wr _ _ _ rfl (.refl _ _ _))))))

theorem applyKey_within {t : State} (s : State) (seq : Nat) (payload : Nat) (h : applyKey s seq payload = some t) :
    Within (some [5892,6144,6153,6208,6209,6210,6211,6212,6213,6217]) [.free, .keys, .mer, .recd] s t := by
  unfold applyKey at h
  split at h
  · cases h
    refine Within.after (specialDone_within ..) rfl rfl ?_
    refine Within.after (keyFlip_within ..) rfl rfl ?_
    exact .refl _ _ _
  · cases h

theorem keyAccepted_within (s : State) (v : Nat) : Within (some []) [.mer] s (keyAccepted s v) := by
  unfold keyAccepted
  extract_lets x1 x2
  clear_value x1
  clear_value x2
  refine .mer _ rfl ?_
  exact .refl _ _ _

theorem keyFailed_within (s : State) (v : Nat) : Within (some [6218]) [.free, .keys] s (keyFailed s v) := by
  unfold keyFailed
  refine .count _ _ _ rfl ?_
  refine Within.after (renewChallenge_within ..) rfl rfl ?_
  exact .refl _ _ _

theorem keysBoot_within (s : State) : Within (some []) [.free, .keys, .mer] s (keysBoot s) := by
  unfold keysBoot
  extract_lets x1 x2
  clear_value x2
  refine Within.have_ (x := x1) ?_ fun hx1 => ?_
  · unfold x1
    refine Within.after (State_tookFree_within ..) rfl rfl ?_
    exact .refl _ _ _
  clear_value x1
  refine .mer_keys _ _ rfl rfl ?_
  assumption

end Sys2Proof.Laws
end

