-- ==== Sys2Proof/Laws/FrameUpdate.lean ====
section
/-!
SUPPORT. What each operation of updates may change: entries by their indices and parts of the state by name. Meanings and claims
about frames cite these and unfold nothing.
-/
namespace Sys2Proof.Laws

open Sys2Proof Sys2Proof.Machine Sys2Proof.Safety

theorem setMap_within (s : State) (m : Nat) : Within (some [6149,6150]) [] s (setMap s m) := by
  unfold setMap
  extract_lets x1
  clear_value x1
  refine .wr _ _ _ rfl ?_
  refine .wr _ _ _ rfl ?_
  exact .refl _ _ _

theorem blockProgrammed_within (s : State) : Within (some [6149,6150]) [.upd] s (blockProgrammed s) := by
  unfold blockProgrammed
  split
  · exact .refl _ _ _
  · extract_lets x1 x2
    clear_value x1
    refine Within.have_ (x := x2) ?_ fun hx2 => ?_
    · unfold x2
      refine .upd _ rfl ?_
      exact .refl _ _ _
    clear_value x2
    refine .ite ?_ ?_
    · refine Within.after (setMap_within ..) rfl rfl ?_
      assumption
    · exact .refl _ _ _

theorem programBlock_within (s : State) (b : Nat) (data : List Nat) : Within (some [6149,6150]) [.upd] s (programBlock s b data) := by
  unfold programBlock
  extract_lets x1 x2
  clear_value x1
  refine Within.have_ (x := x2) ?_ fun hx2 => ?_
  · unfold x2
    refine .upd _ rfl ?_
    exact .refl _ _ _
  clear_value x2
  refine Within.after (setMap_within ..) rfl rfl ?_
  assumption

theorem bspImageBlock_within (s : State) : Within (some [5892,6149,6150,6166]) [.lbs, .recd, .upd] s (bspImageBlock s) := by
  unfold bspImageBlock
  split
  · exact .refl _ _ _
  · extract_lets x1 x2 x3 x4 x5 x6 x7
    clear_value x1
    clear_value x3
    clear_value x4
    clear_value x5
    clear_value x6
    refine Within.have_ (x := x2) ?_ fun hx2 => ?_
    · unfold x2
      refine .lbs _ rfl ?_
      exact .refl _ _ _
    clear_value x2
    refine Within.have_ (x := x7) ?_ fun hx7 => ?_
    · unfold x7
      refine .count _ _ _ rfl ?_
      assumption
    clear_value x7
    refine .ite ?_ ?_
    · refine .ite ?_ ?_
      · refine Within.after (programBlock_within ..) rfl rfl ?_
        assumption
      · refine Within.after (blockEvent_within ..) rfl rfl ?_
        assumption
    · exact .refl _ _ _

theorem confirmSlot_within (s : State) (n : Nat) : Within (some [5892,6160,6165]) [.recd] s (confirmSlot s n) := by
  unfold confirmSlot
  extract_lets x1
  refine Within.have_ (x := x1) ?_ fun hx1 => ?_
  · unfold x1
    refine .wr _ _ _ rfl ?_
    refine .wr _ _ _ rfl ?_
    exact .refl _ _ _
  clear_value x1
  refine Within.after (updEvent_within ..) rfl rfl ?_
  assumption

theorem confirmPending_within (s : State) : Within (some [5892,6160,6165]) [.mer, .recd] s (confirmPending s) := by
  unfold confirmPending
  extract_lets x1 x2 x3 x4
  clear_value x1
  clear_value x2
  clear_value x4
  refine Within.have_ (x := x3) ?_ fun hx3 => ?_
  · unfold x3
    refine Within.after (confirmSlot_within ..) rfl rfl ?_
    exact .refl _ _ _
  clear_value x3
  refine .ite ?_ ?_
  · refine .mer _ rfl ?_
    assumption
  · exact .refl _ _ _

theorem nameSlot_within (s : State) (n : Nat) : Within (some []) [.upd] s (nameSlot s n) := by
  unfold nameSlot
  extract_lets x1
  clear_value x1
  refine .upd _ rfl ?_
  exact .refl _ _ _

theorem copyDone_within (s : State) (o : Nat) : Within (some [6160,6161,6162,6168]) [.upd] s (copyDone s o) := by
  unfold copyDone
  extract_lets x1 x2 x3 x4
  clear_value x1
  clear_value x2
  refine Within.have_ (x := x3) ?_ fun hx3 => ?_
  · unfold x3
    refine .upd _ rfl ?_
    exact .refl _ _ _
  clear_value x3
  refine Within.have_ (x := x4) ?_ fun hx4 => ?_
  · unfold x4
    refine .wr _ _ _ rfl ?_
    refine .wr _ _ _ rfl ?_
    refine .wr _ _ _ rfl ?_
    assumption
  clear_value x4
  refine Within.after (nameSlot_within ..) rfl rfl ?_
  refine .wr _ _ _ rfl ?_
  assumption

theorem copyPart_within (s : State) (o : Nat) (n : Nat) : Within (some [6168]) [.upd] s (copyPart s o n) := by
  unfold copyPart
  extract_lets x1 x2 x3 x4
  clear_value x1
  clear_value x2
  clear_value x4
  refine Within.have_ (x := x3) ?_ fun hx3 => ?_
  · unfold x3
    refine .wr _ _ _ rfl ?_
    exact .refl _ _ _
  clear_value x3
  refine .upd _ rfl ?_
  assumption

theorem healthOk_within (s : State) : Within (some [5892,6159,6160,6165]) [.mode, .net, .recd, .sys] s (healthOk s) := by
  unfold healthOk
  extract_lets x1 x2
  clear_value x2
  refine Within.have_ (x := x1) ?_ fun hx1 => ?_
  · unfold x1
    refine .wr _ _ _ rfl ?_
    refine Within.after (confirmSlot_within ..) rfl rfl ?_
    exact .refl _ _ _
  clear_value x1
  refine .ite ?_ ?_
  · refine Within.after (enterRun_within ..) rfl rfl ?_
    assumption
  · refine .ite ?_ ?_
    · refine .sys _ rfl ?_
      assumption
    · assumption

theorem probationExpiry_within (s : State) : Within (some [5892]) [.recd, .sys] s (probationExpiry s) := by
  unfold probationExpiry
  extract_lets x1 x2
  clear_value x2
  refine Within.have_ (x := x1) ?_ fun hx1 => ?_
  · unfold x1
    refine Within.after (updEvent_within ..) rfl rfl ?_
    exact .refl _ _ _
  clear_value x1
  refine .ite ?_ ?_
  · refine .sys _ rfl ?_
    assumption
  · exact .refl _ _ _

theorem probationTick_within (old : State) (s : State) : Within (some [6159]) [.upd] s (probationTick old s) := by
  unfold probationTick
  extract_lets x1 x2 x3 x4
  clear_value x1
  clear_value x2
  clear_value x4
  refine Within.have_ (x := x3) ?_ fun hx3 => ?_
  · unfold x3
    refine .wr _ _ _ rfl ?_
    exact .refl _ _ _
  clear_value x3
  refine .ite ?_ ?_
  · refine .upd _ rfl ?_
    assumption
  · exact .refl _ _ _

theorem runSlot_within (s : State) (n : Nat) : Within (some [6163,6164]) [] s (runSlot s n) := by
  unfold runSlot
  refine .wr _ _ _ rfl ?_
  refine .wr _ _ _ rfl ?_
  exact .refl _ _ _

theorem selectSlot_within (f : StartFacts) (s : State) : Within (some [5892,6160,6163,6164,6167]) [.recd, .upd] s (selectSlot f s) := by
  unfold selectSlot
  extract_lets x1 x2 x3 x4 x5 x6 x7 x8 x9 x10
  clear_value x1
  clear_value x4
  clear_value x6
  clear_value x8
  clear_value x10
  refine Within.have_ (x := x2) ?_ fun hx2 => ?_
  · unfold x2
    refine Within.after (updEvent_within ..) rfl rfl ?_
    refine .count _ _ _ rfl ?_
    refine .wr _ _ _ rfl ?_
    exact .refl _ _ _
  clear_value x2
  refine Within.have_ (x := x3) ?_ fun hx3 => ?_
  · unfold x3
    refine Within.after (nameSlot_within ..) rfl rfl ?_
    assumption
  clear_value x3
  refine Within.have_ (x := x5) ?_ fun hx5 => ?_
  · unfold x5
    refine .ite ?_ ?_
    · refine .upd _ rfl ?_
      assumption
    · exact .refl _ _ _
  clear_value x5
  refine Within.have_ (x := x7) ?_ fun hx7 => ?_
  · unfold x7
    refine Within.after (nameSlot_within ..) rfl rfl ?_
    assumption
  clear_value x7
  refine Within.have_ (x := x9) ?_ fun hx9 => ?_
  · unfold x9
    refine .ite ?_ ?_
    · refine .upd _ rfl ?_
      assumption
    · assumption
  clear_value x9
  refine .ite ?_ ?_
  · refine .upd _ rfl ?_
    assumption
  · refine Within.after (runSlot_within ..) rfl rfl ?_
    assumption

theorem selectImage_within (f : StartFacts) (s : State) :
    Within (some [4101,5892,6144,6152,6160,6161,6162,6163,6164,6165,6167,6168]) [.mer, .recd, .sys, .upd] s (selectImage f s) := by
  unfold selectImage
  extract_lets x1 x2 x3 x4 x5 x6 x7 x8 x9
  clear_value x1
  clear_value x3
  clear_value x6
  clear_value x9
  refine Within.have_ (x := x2) ?_ fun hx2 => ?_
  · unfold x2
    refine Within.after (confirmPending_within ..) rfl rfl ?_
    refine .upd _ rfl ?_
    exact .refl _ _ _
  clear_value x2
  refine Within.have_ (x := x4) ?_ fun hx4 => ?_
  · unfold x4
    refine .ite ?_ ?_
    · refine .ite ?_ ?_
      · refine .wr _ _ _ rfl ?_
        refine .wr _ _ _ rfl ?_
        refine .wr _ _ _ rfl ?_
        assumption
      · refine .wr _ _ _ rfl ?_
        assumption
    · assumption
  clear_value x4
  refine Within.have_ (x := x5) ?_ fun hx5 => ?_
  · unfold x5
    refine Within.after (updEvent_within ..) rfl rfl ?_
    refine .wr _ _ _ rfl ?_
    refine .wr _ _ _ rfl ?_
    refine .wr _ _ _ rfl ?_
    assumption
  clear_value x5
  refine Within.have_ (x := x7) ?_ fun hx7 => ?_
  · unfold x7
    refine Within.after (runSlot_within ..) rfl rfl ?_
    refine Within.after (copyDone_within ..) rfl rfl ?_
    assumption
  clear_value x7
  refine Within.have_ (x := x8) ?_ fun hx8 => ?_
  · unfold x8
    refine .wr _ _ _ rfl ?_
    assumption
  clear_value x8
  refine .ite ?_ ?_
  · refine .ite ?_ ?_
    · refine .sys _ rfl ?_
      assumption
    · split
      · refine Within.after (copyPart_within ..) rfl rfl ?_
        assumption
      · refine .sys _ rfl ?_
        assumption
  · refine Within.after (selectSlot_within ..) rfl rfl ?_
    assumption

theorem startProbation_within (s : State) : Within (some [6159]) [.upd] s (startProbation s) := by
  unfold startProbation
  extract_lets x1 x2
  clear_value x2
  refine Within.have_ (x := x1) ?_ fun hx1 => ?_
  · unfold x1
    refine .wr _ _ _ rfl ?_
    exact .refl _ _ _
  clear_value x1
  refine .upd _ rfl ?_
  assumption

theorem startVerify_within (s : State) : Within (some [6144]) [.upd] s (startVerify s) := by
  unfold startVerify
  extract_lets x1 x2 x3
  clear_value x1
  clear_value x3
  refine Within.have_ (x := x2) ?_ fun hx2 => ?_
  · unfold x2
    refine .wr _ _ _ rfl ?_
    exact .refl _ _ _
  clear_value x2
  refine .upd _ rfl ?_
  assumption

theorem updBegun_within (s : State) (len : Nat) : Within (some [6144,6145,6149,6150,6153,6154,6155]) [.upd] s (updBegun s len) := by
  unfold updBegun
  extract_lets x1 x2 x3
  clear_value x1
  refine Within.have_ (x := x2) ?_ fun hx2 => ?_
  · unfold x2
    refine .upd _ rfl ?_
    exact .refl _ _ _
  clear_value x2
  refine Within.have_ (x := x3) ?_ fun hx3 => ?_
  · unfold x3
    refine .wr _ _ _ rfl ?_
    refine .wr _ _ _ rfl ?_
    refine .wr _ _ _ rfl ?_
    assumption
  clear_value x3
  refine Within.after (setMap_within ..) rfl rfl ?_
  refine .wr _ _ _ rfl ?_
  refine .wr _ _ _ rfl ?_
  assumption

theorem updApply_within {t : State} (s : State) (i : Nat) (v : Nat) (h : updApply s i v = some t) :
    Within (some [5892,6144,6145,6149,6150,6153,6154,6155,6159,6160,6165]) [.mode, .net, .recd, .sys, .upd] s t := by
  unfold updApply at h
  dsimp only at h
  split at h
  · cases h
    refine Within.after (updBegun_within ..) rfl rfl ?_
    exact .refl _ _ _
  · split at h
    · cases h
      refine Within.after (programBlock_within ..) rfl rfl ?_
      exact .refl _ _ _
    · split at h
      · cases h
        refine Within.after (startVerify_within ..) rfl rfl ?_
        exact .refl _ _ _
      · split at h
        · cases h
          refine .ite ?_ ?_
          · refine .sys _ rfl ?_
            refine .wr _ _ _ rfl ?_
            exact .refl _ _ _
          · exact .refl _ _ _
        · split at h
          · cases h
            refine Within.after (healthOk_within ..) rfl rfl ?_
            exact .refl _ _ _
          · cases h

theorem updBoot_within (s : State) : Within (some [6144,6159]) [.upd] s (updBoot s) := by
  unfold updBoot
  extract_lets x1 x2 x3
  clear_value x2
  refine Within.have_ (x := x1) ?_ fun hx1 => ?_
  · unfold x1
    refine .wr _ _ _ rfl ?_
    exact .refl _ _ _
  refine Within.have_ (x := x3) ?_ fun hx3 => ?_
  · unfold x3
    refine .upd _ rfl ?_
    assumption
  refine .ite ?_ ?_
  · refine Within.after (startVerify_within ..) rfl rfl ?_
    assumption
  · assumption

theorem verifyComplete_within (badBlock : Bool) (s : State) : Within (some [6144,6152,6153,6154,
    6155]) [] s (verifyComplete badBlock s) := by
  unfold verifyComplete
  extract_lets x1 x2 x3
  clear_value x1
  clear_value x2
  refine Within.have_ (x := x3) ?_ fun hx3 => ?_
  · unfold x3
    refine .wr _ _ _ rfl ?_
    exact .refl _ _ _
  clear_value x3
  refine .ite ?_ ?_
  · refine .ite ?_ ?_
    · refine .wr _ _ _ rfl ?_
      refine .wr _ _ _ rfl ?_
      refine .wr _ _ _ rfl ?_
      refine .wr _ _ _ rfl ?_
      assumption
    · refine .wr _ _ _ rfl ?_
      assumption
  · exact .refl _ _ _

end Sys2Proof.Laws
end

