-- ==== Sys2Proof/Laws/FrameEnvironment.lean ====
section
/-!
SUPPORT. What each operation of supply and temperature may change: entries by their indices and parts of the state by name. Meanings and claims
about frames cite these and unfold nothing.
-/
namespace Sys2Proof.Laws

open Sys2Proof Sys2Proof.Machine Sys2Proof.Safety

theorem tempMeasure_within (land : Int) (soc : Int) (s : State) :
    Within (some [4120,4121,4122,4124,5892]) [.recd] s (tempMeasure land soc s) := by
  unfold tempMeasure
  extract_lets x1 x2
  refine Within.have_ (x := x1) ?_ fun hx1 => ?_
  · unfold x1
    refine .wrInt _ _ _ rfl ?_
    refine .wrInt _ _ _ rfl ?_
    exact .refl _ _ _
  clear_value x1
  refine Within.have_ (x := x2) ?_ fun hx2 => ?_
  · unfold x2
    refine .wrInt _ _ _ rfl ?_
    assumption
  clear_value x2
  refine .ite ?_ ?_
  · refine .ite ?_ ?_
    · refine Within.after (setEnv_within ..) rfl rfl ?_
      assumption
    · refine .ite ?_ ?_
      · refine Within.after (setEnv_within ..) rfl rfl ?_
        assumption
      · assumption
  · exact .refl _ _ _

theorem vmainMeasure_within (vmain : Nat) (vsafe : Nat) (power : Nat) (s : State) :
    Within (some [4112,4113,4119,4124,5892]) [.recd] s (vmainMeasure vmain vsafe power s) := by
  unfold vmainMeasure
  extract_lets x1
  refine Within.have_ (x := x1) ?_ fun hx1 => ?_
  · unfold x1
    refine .wr _ _ _ rfl ?_
    refine .wr _ _ _ rfl ?_
    refine .wr _ _ _ rfl ?_
    exact .refl _ _ _
  clear_value x1
  refine .ite ?_ ?_
  · refine Within.after (setEnv_within ..) rfl rfl ?_
    assumption
  · exact .refl _ _ _

theorem vsafeFell_within (mv : Nat) (s : State) : Within (some [4119,4124,5892]) [.recd] s (vsafeFell mv s) := by
  unfold vsafeFell
  refine .ite ?_ ?_
  · refine Within.after (setEnv_within ..) rfl rfl ?_
    refine .wr _ _ _ rfl ?_
    exact .refl _ _ _
  · exact .refl _ _ _

theorem vsafeRecovered_within (mv : Nat) (s : State) : Within (some [4119,4124,5892]) [.recd, .saf] s (vsafeRecovered mv s) := by
  unfold vsafeRecovered
  extract_lets x1
  refine Within.have_ (x := x1) ?_ fun hx1 => ?_
  · unfold x1
    refine Within.after (setEnv_within ..) rfl rfl ?_
    refine .wr _ _ _ rfl ?_
    exact .refl _ _ _
  clear_value x1
  refine .ite ?_ ?_
  · refine .foldl (fun t2 x3 => ?_) _ ?_
    · extract_lets x4
      clear_value x4
      refine Within.after (putOut_within ..) rfl rfl ?_
      exact .refl _ _ _
    · assumption
  · exact .refl _ _ _

end Sys2Proof.Laws
end

