-- ==== Sys2Proof/Laws/FramePoints.lean ====
section
/-!
SUPPORT. What each operation of points may change: entries by their indices and parts of the state by name. Meanings and claims
about frames cite these and unfold nothing.
-/
namespace Sys2Proof.Laws

open Sys2Proof Sys2Proof.Machine Sys2Proof.Safety

theorem ptDue_within (s : State) (n : Nat) : Within (some []) [.pts] s (ptDue s n) := by
  unfold ptDue
  extract_lets x1
  clear_value x1
  refine .ite ?_ ?_
  · exact .refl _ _ _
  · refine .pts _ rfl ?_
    exact .refl _ _ _

theorem ptFollow_within (s : State) (n : Nat) : Within none [.pts] s (ptFollow s n) := by
  unfold ptFollow
  extract_lets x1 x2
  clear_value x1
  refine Within.have_ (x := x2) ?_ fun hx2 => ?_
  · unfold x2
    refine .ite ?_ ?_
    · exact .refl _ _ _
    · refine Within.after (ptDue_within ..) rfl rfl ?_
      refine .wr _ _ _ rfl ?_
      exact .refl _ _ _
  clear_value x2
  refine .ite ?_ ?_
  · assumption
  · exact .refl _ _ _

theorem ptApply_within {t : State} (s : State) (i : Nat) (e : Nat) (v : Nat) (h : ptApply s i e v = some t) : Within none [.pts] s t := by
  unfold ptApply at h
  dsimp only at h
  split at h
  · cases h
    refine Within.after (ptFollow_within ..) rfl rfl ?_
    refine .wr _ _ _ rfl ?_
    exact .refl _ _ _
  · split at h
    · cases h
      refine .ite ?_ ?_
      · exact .refl _ _ _
      · refine .ite ?_ ?_
        · refine Within.after (ptDue_within ..) rfl rfl ?_
          refine Within.after (ptFollow_within ..) rfl rfl ?_
          refine .pts _ rfl ?_
          refine .wr _ _ _ rfl ?_
          exact .refl _ _ _
        · refine .pts _ rfl ?_
          refine .wr _ _ _ rfl ?_
          exact .refl _ _ _
    · cases h

theorem ptRefresh_within (s : State) (n : Nat) : Within none [] s (ptRefresh s n) := by
  unfold ptRefresh
  split
  · exact .refl _ _ _
  · extract_lets x1
    clear_value x1
    refine .wr _ _ _ rfl ?_
    exact .refl _ _ _

theorem ptStart_within (s : State) : Within none [.pts] s (ptStart s) := by
  unfold ptStart
  refine .foldl (fun t1 x2 => ?_) _ ?_
  · refine .ite ?_ ?_
    · refine Within.after (ptDue_within ..) rfl rfl ?_
      refine Within.after (ptFollow_within ..) rfl rfl ?_
      exact .refl _ _ _
    · exact .refl _ _ _
  · exact .refl _ _ _

theorem trendSample_within (n : Nat) (s : State) : Within (some []) [.trend] s (trendSample n s) := by
  unfold trendSample
  extract_lets x1 x2 x3
  clear_value x1
  clear_value x2
  clear_value x3
  refine .ite ?_ ?_
  · refine .ite ?_ ?_
    · refine .trend _ rfl ?_
      exact .refl _ _ _
    · refine .ite ?_ ?_
      · exact .refl _ _ _
      · refine .trend _ rfl ?_
        exact .refl _ _ _
  · exact .refl _ _ _

end Sys2Proof.Laws
end

