-- ==== Sys2Proof/Laws/FrameWrite.lean ====
section
/-!
SUPPORT. What each operation of element writes may change: entries by their indices and parts of the state by name. Meanings and claims
about frames cite these and unfold nothing.
-/
namespace Sys2Proof.Laws

open Sys2Proof Sys2Proof.Machine Sys2Proof.Safety

theorem startTrendDump_within (s : State) (v : Nat) : Within (some [4194,4195,6418]) [.lbs, .nextXfer, .out] s (startTrendDump s v) := by
  unfold startTrendDump
  extract_lets x1 x2 x3 x4 x5 x6 x7 x8 x9 x10 x11
  clear_value x1
  clear_value x2
  clear_value x3
  clear_value x4
  clear_value x5
  clear_value x6
  clear_value x7
  clear_value x8
  clear_value x9
  clear_value x10
  clear_value x11
  refine Within.after (bspStart_within ..) rfl rfl ?_
  refine .wr _ _ _ rfl ?_
  refine .wr _ _ _ rfl ?_
  exact .refl _ _ _

theorem applyElem_within (s : State) (port : Nat) (client : Nat) (at_ : Nat) (i : Nat) (e : Nat) (v : Nat) :
    Within none [.ana, .ctl, .flashValid, .fld, .lbs, .lft, .mer, .mode, .mot, .net, .nextXfer, .nrg, .nvs, .out, .prg, .pts, .recd, .rtc,
        .saf, .sys, .turn, .upd] s (applyElem s port client at_ i e v) := by
  unfold applyElem
  extract_lets r s1
  have hr : ∀ u, r = some u → Within none [.ana, .ctl, .flashValid, .fld, .lbs, .lft, .mer, .mode, .mot, .net, .nextXfer, .nrg, .nvs,
      .out, .prg, .pts, .recd, .rtc, .saf, .sys, .turn, .upd] s u := by
    unfold r
    refine .someIte (.someIte (fun u h => ?_) (fun u h => nomatch h)) ?_
    · cases h
      exact (startTrendDump_within ..).mono rfl rfl
    refine .someIte (fun u h => (netApply_within (h := h)).mono rfl rfl) ?_
    refine .someIte (fun u h => (fldApply_within (h := h)).mono rfl rfl) ?_
    refine .someIte (fun u h => (ptApply_within (h := h)).mono rfl rfl) ?_
    refine .someIte (fun u h => nomatch h) ?_
    refine .someIte (fun u h => (timeApply_within (h := h)).mono rfl rfl) ?_
    refine .someIte (fun u h => (nvsApply_within (h := h)).mono rfl rfl) ?_
    refine .someIte (fun u h => (recApply_within (h := h)).mono rfl rfl) ?_
    refine .someIte (fun u h => (updApply_within (h := h)).mono rfl rfl) ?_
    refine .someIte (fun u h => nomatch h) ?_
    refine .someIte (fun u h => (lbsApply_within (h := h)).mono rfl rfl) ?_
    refine .someIte (fun u h => (anaApply_within (h := h)).mono rfl rfl) ?_
    refine .someIte (fun u h => (calApply_within (h := h)).mono rfl rfl) ?_
    refine .someIte (fun u h => (nrgApply_within (h := h)).mono rfl rfl) ?_
    refine .someIte (fun u h => (ctlApply_within (h := h)).mono rfl rfl) ?_
    refine .someIte (fun u h => (motApply_within (h := h)).mono rfl rfl) ?_
    refine .someIte (fun u h => (lftApply_within (h := h)).mono rfl rfl) ?_
    refine .someIte (fun u h => (safApply_within (h := h)).mono rfl rfl) ?_
    refine .someIte (fun u h => (prgApply_within (h := h)).mono rfl rfl) ?_
    exact fun u h => (ptApply_within (h := h)).mono rfl rfl
  have h1 : Within none [.ana, .ctl, .flashValid, .fld, .lbs, .lft, .mer, .mode, .mot, .net, .nextXfer, .nrg, .nvs, .out, .prg, .pts,
      .recd, .rtc, .saf, .sys, .turn, .upd] s s1 := .getD hr (.wr _ _ _ rfl (.refl _ _ _))
  exact .ite (.flashValid _ rfl h1) h1

theorem bumpVersions_within (s : State) (is : List Nat) : Within (some []) [.txn] s (bumpVersions s is) := by
  unfold bumpVersions
  refine .foldl (fun t1 x2 => ?_) _ ?_
  · extract_lets x3
    clear_value x3
    refine .txn _ rfl ?_
    exact .refl _ _ _
  · exact .refl _ _ _

theorem committed_within (old : State) (s : State) (touched : List (Nat × Nat)) :
    Within (some [4160,4163,4373,4419,5892,6217,8208,8209,8210,8213,8214,8217,8230,8451,10257,10258,10259,10263,11278,11279,11280,11282,
        11283,11297,11303,11311,13382,13449,13450]) [.ana, .ctl, .lbs, .mer, .mode, .mot, .net, .out, .recd, .saf, .sys,
        .turn] s (committed old s touched) := by
  unfold committed
  extract_lets x1 x2 x3 x4
  refine Within.have_ (x := x1) ?_ fun hx1 => ?_
  · unfold x1
    refine Within.after (anaCommitted_within ..) rfl rfl ?_
    refine Within.after (netCommitted_within ..) rfl rfl ?_
    refine Within.after (lbsCommitted_within ..) rfl rfl ?_
    exact .refl _ _ _
  clear_value x1
  refine Within.have_ (x := x2) ?_ fun hx2 => ?_
  · unfold x2
    refine Within.after (nrgCommitted_within ..) rfl rfl ?_
    assumption
  clear_value x2
  refine Within.have_ (x := x3) ?_ fun hx3 => ?_
  · unfold x3
    refine Within.after (ctlCommitted_within ..) rfl rfl ?_
    assumption
  clear_value x3
  refine Within.have_ (x := x4) ?_ fun hx4 => ?_
  · unfold x4
    refine Within.after (motCommitted_within ..) rfl rfl ?_
    assumption
  clear_value x4
  refine Within.after (mirrorCommit_within ..) rfl rfl ?_
  refine Within.after (safCommitted_within ..) rfl rfl ?_
  assumption

theorem applyWrites_within (s : State) (port : Nat) (client : Nat) (at_ : Nat) (ws : List ElemW) :
    Within none [.ana, .ctl, .flashValid, .fld, .lbs, .lft, .mer, .mode, .mot, .net, .nextXfer, .nrg, .nvs, .out, .prg, .pts, .recd, .rtc,
        .saf, .sys, .turn, .txn, .upd] s (applyWrites s port client at_ ws) := by
  unfold applyWrites
  extract_lets x1
  refine Within.have_ (x := x1) ?_ fun hx1 => ?_
  · unfold x1
    refine .foldl (fun t2 x3 => ?_) _ ?_
    · refine Within.after (applyElem_within ..) rfl rfl ?_
      exact .refl _ _ _
    · exact .refl _ _ _
  clear_value x1
  refine Within.after (committed_within ..) rfl rfl ?_
  refine Within.after (bumpVersions_within ..) rfl rfl ?_
  assumption

theorem requestMode_within (s : State) (seq : Nat) (v : Nat) : Within (some [5633]) [.sys] s (requestMode s seq v) := by
  unfold requestMode
  extract_lets x1 x2 x3
  clear_value x1
  clear_value x3
  refine Within.have_ (x := x2) ?_ fun hx2 => ?_
  · unfold x2
    refine .ite ?_ ?_
    · refine Within.after (drawAllowance_within ..) rfl rfl ?_
      refine .sys _ rfl ?_
      exact .refl _ _ _
    · exact .refl _ _ _
  clear_value x2
  refine .ite ?_ ?_
  · exact .refl _ _ _
  · refine .sys _ rfl ?_
    assumption

theorem ptTransfer_within (s : State) (n : Nat) :
    Within none [.ana, .ctl, .flashValid, .fld, .lbs, .lft, .mer, .mode, .mot, .net, .nextXfer, .nrg, .nvs, .out, .prg, .pts, .recd, .rtc,
        .saf, .sys, .turn, .upd] s (ptTransfer s n) := by
  unfold ptTransfer
  split
  · exact .refl _ _ _
  · extract_lets x1 x2 x3 x4 x5 x6 x7 x8 x9
    clear_value x1
    clear_value x2
    clear_value x3
    clear_value x4
    clear_value x5
    clear_value x8
    clear_value x9
    refine Within.have_ (x := x6) ?_ fun hx6 => ?_
    · unfold x6
      refine .ite ?_ ?_
      · refine Within.after (applyElem_within ..) rfl rfl ?_
        exact .refl _ _ _
      · refine Within.after (requestMode_within ..) rfl rfl ?_
        exact .refl _ _ _
    clear_value x6
    refine Within.have_ (x := x7) ?_ fun hx7 => ?_
    · unfold x7
      refine Within.after (committed_within ..) rfl rfl ?_
      assumption
    clear_value x7
    refine .ite ?_ ?_
    · exact .refl _ _ _
    · refine .ite ?_ ?_
      · refine .pts _ rfl ?_
        assumption
      · refine .pts _ rfl ?_
        exact .refl _ _ _

theorem ptTransfers_within (s : State) :
    Within none [.ana, .ctl, .flashValid, .fld, .lbs, .lft, .mer, .mode, .mot, .net, .nextXfer, .nrg, .nvs, .out, .prg, .pts, .recd, .rtc,
        .saf, .sys, .turn, .upd] s (ptTransfers s) := by
  unfold ptTransfers
  extract_lets x1 x2
  clear_value x1
  clear_value x2
  refine .foldl (fun t3 x4 => ?_) _ ?_
  · refine Within.after (ptTransfer_within ..) rfl rfl ?_
    exact .refl _ _ _
  · refine .pts _ rfl ?_
    exact .refl _ _ _

theorem wouldLeave_within (s : State) (ws : List ElemW) : Within none [] s (wouldLeave s ws) := by
  unfold wouldLeave
  refine .foldl (fun t1 x2 => ?_) _ ?_
  · refine .wr _ _ _ rfl ?_
    exact .refl _ _ _
  · exact .refl _ _ _

end Sys2Proof.Laws
end

