-- ==== Sys2Proof/Laws/FrameLedger.lean ====
section
/-!
SUPPORT. What each operation of the ledger may change: entries by their indices and parts of the state by name. Meanings and claims
about frames cite these and unfold nothing.
-/
namespace Sys2Proof.Laws

open Sys2Proof Sys2Proof.Machine Sys2Proof.Safety

theorem acceptElem_within (s : State) (w : ElemW) : Within (some [5633]) [.mer] s (acceptElem s w) := by
  unfold acceptElem
  refine .ite ?_ ?_
  · refine Within.after (keyAccepted_within ..) rfl rfl ?_
    exact .refl _ _ _
  · refine .ite ?_ ?_
    · refine Within.after (drawAllowance_within ..) rfl rfl ?_
      exact .refl _ _ _
    · exact .refl _ _ _

theorem beginItem_within (s : State) (seq : Nat) (w : ElemW) : Within (some [4118,4169,5633]) [.prg, .recd,
    .sys] s (beginItem s seq w) := by
  unfold beginItem
  extract_lets x1 x2
  clear_value x2
  refine Within.have_ (x := x1) ?_ fun hx1 => ?_
  · unfold x1
    refine .wr _ _ _ rfl ?_
    exact .refl _ _ _
  clear_value x1
  refine .ite ?_ ?_
  · refine .ite ?_ ?_
    · exact .refl _ _ _
    · refine Within.after (clearAccepted_within ..) rfl rfl ?_
      exact .refl _ _ _
  · refine .ite ?_ ?_
    · refine Within.after (exchangeAccepted_within ..) rfl rfl ?_
      exact .refl _ _ _
    · refine .ite ?_ ?_
      · refine Within.after (requestMode_within ..) rfl rfl ?_
        exact .refl _ _ _
      · refine .ite ?_ ?_
        · refine Within.after (startHoldTest_within ..) rfl rfl ?_
          exact .refl _ _ _
        · refine .ite ?_ ?_
          · refine .ite ?_ ?_
            · refine .sys _ rfl ?_
              assumption
            · exact .refl _ _ _
          · refine .ite ?_ ?_
            · refine .sys _ rfl ?_
              exact .refl _ _ _
            · exact .refl _ _ _

theorem modRec_within (s : State) (seq : Nat) (f : LedgerRec → LedgerRec) : Within (some []) [.mer] s (modRec s seq f) := by
  unfold modRec
  extract_lets x1
  clear_value x1
  refine .mer _ rfl ?_
  exact .refl _ _ _

theorem beginSpecial_within (s : State) (r : LedgerRec) :
    Within (some [4118,4169,5633]) [.mer, .prg, .recd, .sys, .txn] s (beginSpecial s r) := by
  unfold beginSpecial
  extract_lets x1 x2 x3
  clear_value x1
  refine Within.have_ (x := x2) ?_ fun hx2 => ?_
  · unfold x2
    refine Within.after (bumpVersions_within ..) rfl rfl ?_
    refine Within.after (modRec_within ..) rfl rfl ?_
    exact .refl _ _ _
  clear_value x2
  refine Within.have_ (x := x3) ?_ fun hx3 => ?_
  · unfold x3
    refine .foldl (fun t4 x5 => ?_) _ ?_
    · refine Within.after (beginItem_within ..) rfl rfl ?_
      exact .refl _ _ _
    · assumption
  clear_value x3
  refine .ite ?_ ?_
  · refine Within.after (specialDone_within ..) rfl rfl ?_
    assumption
  · assumption

theorem beginDue_within (s : State) : Within (some [4118,4169,5633]) [.mer, .prg, .recd, .sys, .txn] s (beginDue s) := by
  unfold beginDue
  refine .ite ?_ ?_
  · exact .refl _ _ _
  · refine .foldl (fun t1 x2 => ?_) _ ?_
    · refine Within.after (beginSpecial_within ..) rfl rfl ?_
      exact .refl _ _ _
    · exact .refl _ _ _

theorem noteLedger_within (s : State) (added : Nat) : Within (some []) [.mer] s (noteLedger s added) := by
  unfold noteLedger
  extract_lets x1 x2 x3
  clear_value x1
  clear_value x2
  refine .mer _ rfl ?_
  exact .refl _ _ _

theorem answerFrame_within (s : State) (o : Source) (cls : Nat) (n : Nat) : Within (some [4373,4629]) [.fld,
    .net] s (answerFrame s o cls n) := by
  unfold answerFrame
  refine .ite ?_ ?_
  · refine Within.after (sendOwn_within ..) rfl rfl ?_
    exact .refl _ _ _
  · refine .ite ?_ ?_
    · refine Within.after (fieldSend_within ..) rfl rfl ?_
      exact .refl _ _ _
    · refine .ite ?_ ?_
      · refine Within.after (fieldSend_within ..) rfl rfl ?_
        exact .refl _ _ _
      · exact .refl _ _ _

theorem bacSend_within (s : State) (o : Source) (n : Nat) (x : Out) : Within (some [4373,4629]) [.fld, .net, .out] s (bacSend s o n x) := by
  unfold bacSend
  refine .ite ?_ ?_
  · exact .refl _ _ _
  · refine Within.after (State_send_within ..) rfl rfl ?_
    refine Within.after (answerFrame_within ..) rfl rfl ?_
    exact .refl _ _ _

theorem respond_within (s : State) (op : Nat) (w : Who) (status : Nat) (handle : Nat) (seq : Nat) (items : List RespItem) :
    Within (some [4373,4629]) [.fld, .lbs, .net, .out] s (respond s op w status handle seq items) := by
  unfold respond
  extract_lets x1
  clear_value x1
  refine .ite ?_ ?_
  · refine .ite ?_ ?_
    · refine Within.after (bacSend_within ..) rfl rfl ?_
      exact .refl _ _ _
    · refine Within.after (bacSend_within ..) rfl rfl ?_
      exact .refl _ _ _
  · refine .ite ?_ ?_
    · refine Within.after (lbComplete_within ..) rfl rfl ?_
      exact .refl _ _ _
    · refine Within.after (State_send_within ..) rfl rfl ?_
      refine Within.after (answerFrame_within ..) rfl rfl ?_
      exact .refl _ _ _

theorem sendWaiting_within (s : State) (seq : Nat) : Within (some [4373,4629]) [.fld, .lbs, .net, .out, .txn] s (sendWaiting s seq) := by
  unfold sendWaiting
  split
  · exact .refl _ _ _
  · extract_lets x1 x2
    clear_value x1
    refine Within.have_ (x := x2) ?_ fun hx2 => ?_
    · unfold x2
      refine .txn _ rfl ?_
      exact .refl _ _ _
    clear_value x2
    refine Within.after (respond_within ..) rfl rfl ?_
    assumption

theorem settle_within (s : State) : Within (some [4373,4629]) [.fld, .lbs, .mer, .net, .out, .txn] s (settle s) := by
  unfold settle
  extract_lets x1 x2 x3
  clear_value x1
  clear_value x2
  refine Within.have_ (x := x3) ?_ fun hx3 => ?_
  · unfold x3
    refine .mer _ rfl ?_
    exact .refl _ _ _
  clear_value x3
  refine .ite ?_ ?_
  · exact .refl _ _ _
  · refine .foldl (fun t4 x5 => ?_) _ ?_
    · refine Within.after (sendWaiting_within ..) rfl rfl ?_
      exact .refl _ _ _
    · refine .ite ?_ ?_
      · assumption
      · refine Within.after (noteLedger_within ..) rfl rfl ?_
        assumption

theorem accept_within (s : State) (kind : Nat) (w : Who) (digest : Nat) (size : Nat) (ws : List ElemW) (op : Nat) (handle : Nat) (items :
    List WItem) :
    Within (some [4118,4169,4373,4629,5136,5633]) [.fld, .lbs, .mer, .net, .out, .prg, .recd, .sys,
        .txn] s (accept s kind w digest size ws op handle items) := by
  unfold accept
  extract_lets x1 x2 x3 x4 x5 x6 x7 x8
  clear_value x1
  clear_value x2
  clear_value x3
  clear_value x4
  clear_value x5
  clear_value x6
  refine Within.have_ (x := x7) ?_ fun hx7 => ?_
  · unfold x7
    refine .mer_txn _ _ rfl rfl ?_
    exact .refl _ _ _
  clear_value x7
  refine Within.have_ (x := x8) ?_ fun hx8 => ?_
  · unfold x8
    refine .foldl (fun t9 x10 => ?_) _ ?_
    · refine Within.after (acceptElem_within ..) rfl rfl ?_
      exact .refl _ _ _
    · refine .wr _ _ _ rfl ?_
      assumption
  clear_value x8
  refine Within.after (settle_within ..) rfl rfl ?_
  refine Within.after (beginDue_within ..) rfl rfl ?_
  refine Within.after (noteLedger_within ..) rfl rfl ?_
  assumption

theorem answerDuplicate_within (s : State) (r : LedgerRec) (op : Nat) (w : Who) (handle : Nat) (items : List WItem) :
    Within (some [4373,4629,5145,5146,5892]) [.fld, .lbs, .net, .out, .recd] s (answerDuplicate s r op w handle items) := by
  unfold answerDuplicate
  extract_lets x1 x2 x3
  clear_value x1
  refine Within.have_ (x := x2) ?_ fun hx2 => ?_
  · unfold x2
    refine .count _ _ _ rfl ?_
    exact .refl _ _ _
  clear_value x2
  refine Within.have_ (x := x3) ?_ fun hx3 => ?_
  · unfold x3
    refine .ite ?_ ?_
    · assumption
    · refine Within.after (recordEvent_within ..) rfl rfl ?_
      refine .count _ _ _ rfl ?_
      assumption
  clear_value x3
  refine Within.after (respond_within ..) rfl rfl ?_
  assumption

theorem closeTxn_within (s : State) (h : Nat) (cause : Nat) (status : Nat) (reqid : Nat) (seq : Nat) :
    Within (some [5130]) [.mer, .txn] s (closeTxn s h cause status reqid seq) := by
  unfold closeTxn
  split
  · exact .refl _ _ _
  · extract_lets x1 x2 x3 x4 x5 x6
    clear_value x1
    clear_value x2
    clear_value x5
    clear_value x6
    refine Within.have_ (x := x3) ?_ fun hx3 => ?_
    · unfold x3
      refine .foldl (fun t7 x8 => ?_) _ ?_
      · refine .wr _ _ _ rfl ?_
        exact .refl _ _ _
      · exact .refl _ _ _
    clear_value x3
    refine Within.have_ (x := x4) ?_ fun hx4 => ?_
    · unfold x4
      refine .wr _ _ _ rfl ?_
      assumption
    clear_value x4
    refine .mer_txn _ _ rfl rfl ?_
    assumption

theorem dropBegun_within (s : State) (todo : List LedgerRec) : Within (some []) [.lft, .recd, .sys] s (dropBegun s todo) := by
  unfold dropBegun
  extract_lets x1 x2 x3 x4
  clear_value x1
  clear_value x2
  clear_value x3
  clear_value x4
  refine .sys_recd_lft _ _ _ rfl rfl rfl ?_
  exact .refl _ _ _

theorem keyAtTick_within (s : State) (seq : Nat) (w : ElemW) :
    Within (some [5143,5892,6144,6153,6208,6209,6210,6211,6212,6213,6217]) [.free, .keys, .mer, .recd] s (keyAtTick s seq w) := by
  unfold keyAtTick
  refine .ite ?_ ?_
  · exact .refl _ _ _
  · split
    · rename_i r1 r2 r3
      refine Within.after (applyKey_within (h := r3)) rfl rfl ?_
      exact .refl _ _ _
    · extract_lets x4 x5
      clear_value x5
      refine Within.have_ (x := x4) ?_ fun hx4 => ?_
      · unfold x4
        refine Within.after (updEvent_within ..) rfl rfl ?_
        refine .count _ _ _ rfl ?_
        exact .refl _ _ _
      clear_value x4
      refine .mer _ rfl ?_
      assumption

theorem rollBackPorts_within (s : State) (ports : List Nat) : Within (some [5130]) [.mer, .txn] s (rollBackPorts s ports) := by
  unfold rollBackPorts
  refine .foldl (fun t1 x2 => ?_) _ ?_
  · refine Within.after (closeTxn_within ..) rfl rfl ?_
    exact .refl _ _ _
  · exact .refl _ _ _

theorem tickOrdinary_within (s : State) (r : LedgerRec) :
    Within none [.ana, .ctl, .flashValid, .fld, .lbs, .lft, .mer, .mode, .mot, .net, .nextXfer, .nrg, .nvs, .out, .prg, .pts, .recd, .rtc,
        .saf, .sys, .turn, .txn, .upd] s (tickOrdinary s r) := by
  unfold tickOrdinary
  extract_lets x1 x2
  clear_value x2
  refine Within.have_ (x := x1) ?_ fun hx1 => ?_
  · unfold x1
    refine Within.after (applyWrites_within ..) rfl rfl ?_
    exact .refl _ _ _
  clear_value x1
  refine .mer _ rfl ?_
  assumption

theorem tickSpecial_within (s : State) (r : LedgerRec) (done : ElemW → Bool) :
    Within (some [5143,5892,6144,6153,6208,6209,6210,6211,6212,6213,6217]) [.free, .keys, .lft, .mer, .recd] s (tickSpecial s r done) := by
  unfold tickSpecial
  extract_lets x1 x2 x3 x4 x5 x6
  clear_value x1
  clear_value x4
  clear_value x5
  clear_value x6
  refine Within.have_ (x := x2) ?_ fun hx2 => ?_
  · unfold x2
    refine .foldl (fun t7 x8 => ?_) _ ?_
    · refine Within.after (applyCall_within ..) rfl rfl ?_
      exact .refl _ _ _
    · exact .refl _ _ _
  clear_value x2
  refine Within.have_ (x := x3) ?_ fun hx3 => ?_
  · unfold x3
    refine .foldl (fun t9 x10 => ?_) _ ?_
    · refine Within.after (keyAtTick_within ..) rfl rfl ?_
      exact .refl _ _ _
    · assumption
  clear_value x3
  refine .ite ?_ ?_
  · refine .mer _ rfl ?_
    assumption
  · assumption

theorem tickVersions_within (s : State) (r : LedgerRec) : Within (some []) [.txn] s (tickVersions s r) := by
  unfold tickVersions
  refine Within.after (bumpVersions_within ..) rfl rfl ?_
  exact .refl _ _ _

theorem replayRecord_within (s : State) (r : LedgerRec) :
    Within none [.ana, .ctl, .flashValid, .fld, .free, .keys, .lbs, .lft, .mer, .mode, .mot, .net, .nextXfer, .nrg, .nvs, .out, .prg,
        .pts, .recd, .rtc, .saf, .sys, .turn, .txn, .upd] s (replayRecord s r) := by
  unfold replayRecord
  extract_lets x1 x2 x3 x4 x5 x6 x7 x8
  clear_value x1
  clear_value x2
  clear_value x3
  refine Within.have_ (x := x4) ?_ fun hx4 => ?_
  · unfold x4
    refine Within.after (recordEvent_within ..) rfl rfl ?_
    refine .count _ _ _ rfl ?_
    exact .refl _ _ _
  clear_value x4
  refine Within.have_ (x := x5) ?_ fun hx5 => ?_
  · unfold x5
    refine Within.after (tickSpecial_within ..) rfl rfl ?_
    refine Within.after (tickVersions_within ..) rfl rfl ?_
    refine Within.after (tickOrdinary_within ..) rfl rfl ?_
    exact .refl _ _ _
  clear_value x5
  refine Within.have_ (x := x6) ?_ fun hx6 => ?_
  · unfold x6
    refine .foldl (fun t9 x10 => ?_) _ ?_
    · refine Within.after (drawAllowance_within ..) rfl rfl ?_
      exact .refl _ _ _
    · assumption
  clear_value x6
  refine Within.have_ (x := x7) ?_ fun hx7 => ?_
  · unfold x7
    refine Within.after (beginSpecial_within ..) rfl rfl ?_
    assumption
  clear_value x7
  refine Within.have_ (x := x8) ?_ fun hx8 => ?_
  · unfold x8
    refine .ite ?_ ?_
    · assumption
    · refine Within.after (modRec_within ..) rfl rfl ?_
      assumption
  clear_value x8
  refine .ite ?_ ?_
  · refine Within.after (modRec_within ..) rfl rfl ?_
    exact .refl _ _ _
  · refine .ite ?_ ?_
    · refine Within.after (modRec_within ..) rfl rfl ?_
      assumption
    · refine Within.after (rollBackPorts_within ..) rfl rfl ?_
      assumption

theorem replay_within (s : State) (upTo : Nat) :
    Within none [.ana, .ctl, .flashValid, .fld, .free, .keys, .lbs, .lft, .mer, .mode, .mot, .net, .nextXfer, .nrg, .nvs, .out, .prg,
        .pts, .recd, .rtc, .saf, .sys, .turn, .txn, .upd] s (replay s upTo) := by
  unfold replay
  extract_lets x1 x2 x3
  clear_value x1
  clear_value x3
  refine Within.have_ (x := x2) ?_ fun hx2 => ?_
  · unfold x2
    refine .foldl (fun t4 x5 => ?_) _ ?_
    · refine Within.after (replayRecord_within ..) rfl rfl ?_
      exact .refl _ _ _
    · refine .wr _ _ _ rfl ?_
      refine Within.after (dropBegun_within ..) rfl rfl ?_
      exact .refl _ _ _
  clear_value x2
  refine .sys _ rfl ?_
  assumption

theorem responseTimeout_within (seq : Nat) (s : State) : Within (some [4373,4629]) [.fld, .lbs, .net, .out,
    .txn] s (responseTimeout seq s) := by
  unfold responseTimeout
  refine .ite ?_ ?_
  · refine Within.after (sendWaiting_within ..) rfl rfl ?_
    exact .refl _ _ _
  · exact .refl _ _ _

theorem tickRecord_within (s : State) (r : LedgerRec) :
    Within none [.ana, .ctl, .flashValid, .fld, .free, .keys, .lbs, .lft, .mer, .mode, .mot, .net, .nextXfer, .nrg, .nvs, .out, .prg,
        .pts, .recd, .rtc, .saf, .sys, .turn, .txn, .upd] s (tickRecord s r) := by
  unfold tickRecord
  extract_lets x1
  refine Within.have_ (x := x1) ?_ fun hx1 => ?_
  · unfold x1
    refine Within.after (tickSpecial_within ..) rfl rfl ?_
    refine Within.after (tickVersions_within ..) rfl rfl ?_
    refine Within.after (tickOrdinary_within ..) rfl rfl ?_
    exact .refl _ _ _
  clear_value x1
  refine Within.after (rollBackPorts_within ..) rfl rfl ?_
  assumption

end Sys2Proof.Laws
end

