-- ==== Sys2Proof/Laws/FrameRequests.lean ====
section
/-!
SUPPORT. What each operation of requests may change: entries by their indices and parts of the state by name. Meanings and claims
about frames cite these and unfold nothing.
-/
namespace Sys2Proof.Laws

open Sys2Proof Sys2Proof.Machine Sys2Proof.Safety

theorem beginRequest_within (s : State) (op : Nat) (w : Who) :
    Within (some [4373,4629]) [.fld, .lbs, .mer, .net, .out, .txn] s (beginRequest s op w) := by
  unfold beginRequest
  extract_lets x1 x2 x3
  clear_value x1
  clear_value x2
  clear_value x3
  refine .ite ?_ ?_
  · refine Within.after (respond_within ..) rfl rfl ?_
    exact .refl _ _ _
  · split
    · refine Within.after (respond_within ..) rfl rfl ?_
      exact .refl _ _ _
    · extract_lets x4 x5
      clear_value x4
      clear_value x5
      refine .ite ?_ ?_
      · refine Within.after (respond_within ..) rfl rfl ?_
        exact .refl _ _ _
      · refine Within.after (respond_within ..) rfl rfl ?_
        refine .mer_txn _ _ rfl rfl ?_
        exact .refl _ _ _

theorem stampDesc_within (s : State) (h : Nat) (seq : Nat) (reqid : Nat) : Within (some []) [.mer] s (stampDesc s h seq reqid) := by
  unfold stampDesc
  extract_lets x1
  clear_value x1
  refine .mer _ rfl ?_
  exact .refl _ _ _

theorem commitRequest_within (s : State) (op : Nat) (w : Who) (h : Nat) :
    Within (some [4118,4169,4373,4629,5130,5136,5144,5147,5633]) [.fld, .lbs, .mer, .net, .out, .prg, .recd, .sys,
        .txn] s (commitRequest s op w h) := by
  unfold commitRequest
  split
  · refine Within.after (respond_within ..) rfl rfl ?_
    exact .refl _ _ _
  · extract_lets x1 x2 x3 x4 x5 x6 x7
    clear_value x1
    clear_value x3
    clear_value x4
    clear_value x5
    clear_value x6
    refine Within.have_ (x := x2) ?_ fun hx2 => ?_
    · unfold x2
      refine .ite ?_ ?_
      · refine .count _ _ _ rfl ?_
        exact .refl _ _ _
      · exact .refl _ _ _
    clear_value x2
    refine Within.have_ (x := x7) ?_ fun hx7 => ?_
    · unfold x7
      refine Within.after (stampDesc_within ..) rfl rfl ?_
      exact .refl _ _ _
    clear_value x7
    refine .ite ?_ ?_
    · refine Within.after (respond_within ..) rfl rfl ?_
      refine Within.after (closeTxn_within ..) rfl rfl ?_
      assumption
    · refine .ite ?_ ?_
      · refine Within.after (respond_within ..) rfl rfl ?_
        refine .ite ?_ ?_
        · refine .count _ _ _ rfl ?_
          exact .refl _ _ _
        · exact .refl _ _ _
      · refine Within.after (closeTxn_within ..) rfl rfl ?_
        refine Within.after (accept_within ..) rfl rfl ?_
        assumption

theorem modTxn_within (s : State) (h : Nat) (f : TxnOpen → TxnOpen) : Within (some []) [.txn] s (modTxn s h f) := by
  unfold modTxn
  extract_lets x1
  clear_value x1
  refine .txn _ rfl ?_
  exact .refl _ _ _

theorem holdTxn_within (s : State) (op : Nat) (w : Who) (handle : Nat) : Within (some []) [.txn] s (holdTxn s op w handle) := by
  unfold holdTxn
  extract_lets x1 x2
  clear_value x1
  refine Within.have_ (x := x2) ?_ fun hx2 => ?_
  · unfold x2
    refine .txn _ rfl ?_
    exact .refl _ _ _
  clear_value x2
  refine .ite ?_ ?_
  · refine Within.after (modTxn_within ..) rfl rfl ?_
    assumption
  · assumption

theorem rollbackRequest_within (s : State) (op : Nat) (w : Who) (h : Nat) :
    Within (some [4373,4629,5130]) [.fld, .lbs, .mer, .net, .out, .txn] s (rollbackRequest s op w h) := by
  unfold rollbackRequest
  refine Within.after (respond_within ..) rfl rfl ?_
  refine Within.after (closeTxn_within ..) rfl rfl ?_
  exact .refl _ _ _

theorem lbTxnWrite_within (s : State) (w : Who) (i : Nat) :
    Within (some [4118,4169,4373,4629,5130,5136,5144,5147,5633]) [.fld, .lbs, .mer, .net, .out, .prg, .recd, .sys,
        .txn] s (lbTxnWrite s w i) := by
  unfold lbTxnWrite
  extract_lets x1
  clear_value x1
  split
  · refine Within.after (respond_within ..) rfl rfl ?_
    exact .refl _ _ _
  · refine .ite ?_ ?_
    · refine .ite ?_ ?_
      · refine Within.after (holdTxn_within ..) rfl rfl ?_
        exact .refl _ _ _
      · refine Within.after (beginRequest_within ..) rfl rfl ?_
        exact .refl _ _ _
    · refine .ite ?_ ?_
      · refine Within.after (respond_within ..) rfl rfl ?_
        exact .refl _ _ _
      · refine Within.after (respond_within ..) rfl rfl ?_
        exact .refl _ _ _
  · refine .ite ?_ ?_
    · refine Within.after (respond_within ..) rfl rfl ?_
      exact .refl _ _ _
    · refine .ite ?_ ?_
      · refine Within.after (respond_within ..) rfl rfl ?_
        exact .refl _ _ _
      · refine .ite ?_ ?_
        · refine Within.after (holdTxn_within ..) rfl rfl ?_
          exact .refl _ _ _
        · refine .ite ?_ ?_
          · refine Within.after (commitRequest_within ..) rfl rfl ?_
            exact .refl _ _ _
          · refine Within.after (rollbackRequest_within ..) rfl rfl ?_
            exact .refl _ _ _

theorem touchTxn_within (s : State) (h : Nat) : Within (some []) [.txn] s (touchTxn s h) := by
  unfold touchTxn
  refine Within.after (modTxn_within ..) rfl rfl ?_
  exact .refl _ _ _

theorem noteVersions_within (s : State) (h : Nat) (is : List Nat) : Within (some []) [.txn] s (noteVersions s h is) := by
  unfold noteVersions
  refine Within.after (modTxn_within ..) rfl rfl ?_
  exact .refl _ _ _

theorem stage_within (s : State) (op : Nat) (w : Who) (h : Nat) (items : List WItem) :
    Within (some [4373,4629]) [.fld, .lbs, .net, .out, .txn] s (stage s op w h items) := by
  unfold stage
  split
  · refine Within.after (respond_within ..) rfl rfl ?_
    exact .refl _ _ _
  · extract_lets x1 x2
    clear_value x1
    refine Within.have_ (x := x2) ?_ fun hx2 => ?_
    · unfold x2
      refine Within.after (noteVersions_within ..) rfl rfl ?_
      refine Within.after (modTxn_within ..) rfl rfl ?_
      exact .refl _ _ _
    clear_value x2
    refine .ite ?_ ?_
    · refine Within.after (respond_within ..) rfl rfl ?_
      exact .refl _ _ _
    · refine Within.after (respond_within ..) rfl rfl ?_
      assumption

theorem submit_within (s : State) (op : Nat) (w : Who) (items : List WItem) :
    Within (some [4118,4169,4373,4629,5136,5144,5633]) [.fld, .lbs, .mer, .net, .out, .prg, .recd, .sys, .txn] s (submit s op w items) := by
  unfold submit
  extract_lets x1 x2 x3
  clear_value x1
  clear_value x2
  clear_value x3
  refine .ite ?_ ?_
  · refine .txn _ rfl ?_
    exact .refl _ _ _
  · refine .ite ?_ ?_
    · refine Within.after (accept_within ..) rfl rfl ?_
      exact .refl _ _ _
    · refine Within.after (respond_within ..) rfl rfl ?_
      refine .ite ?_ ?_
      · refine .count _ _ _ rfl ?_
        exact .refl _ _ _
      · exact .refl _ _ _

theorem verifyFailures_within (s : State) (items : List WItem) (sts : List Status) :
    Within (some [6218]) [.free, .keys] s (verifyFailures s items sts) := by
  unfold verifyFailures
  refine .foldl (fun t1 x2 => ?_) _ ?_
  · refine .ite ?_ ?_
    · refine Within.after (keyFailed_within ..) rfl rfl ?_
      exact .refl _ _ _
    · exact .refl _ _ _
  · exact .refl _ _ _

theorem writeRequest_within (s : State) (op : Nat) (w : Who) (handle : Nat) (items : List WItem) :
    Within (some [4118,4169,4373,4629,5136,5144,5633,6218]) [.fld, .free, .keys, .lbs, .mer, .net, .out, .prg, .recd, .sys,
        .txn] s (writeRequest s op w handle items) := by
  unfold writeRequest
  extract_lets x1 x2 x3
  clear_value x1
  clear_value x2
  clear_value x3
  refine .ite ?_ ?_
  · refine Within.after (respond_within ..) rfl rfl ?_
    exact .refl _ _ _
  · refine .ite ?_ ?_
    · refine .txn _ rfl ?_
      exact .refl _ _ _
    · refine .ite ?_ ?_
      · refine Within.after (respond_within ..) rfl rfl ?_
        refine Within.after (verifyFailures_within ..) rfl rfl ?_
        exact .refl _ _ _
      · refine .ite ?_ ?_
        · refine Within.after (respond_within ..) rfl rfl ?_
          exact .refl _ _ _
        · refine .ite ?_ ?_
          · refine Within.after (stage_within ..) rfl rfl ?_
            exact .refl _ _ _
          · refine .ite ?_ ?_
            · refine Within.after (respond_within ..) rfl rfl ?_
              exact .refl _ _ _
            · refine Within.after (submit_within ..) rfl rfl ?_
              exact .refl _ _ _

theorem lbServe_within (s : State) (w : Who) (items : List WItem) (bad : Bool) :
    Within (some [4118,4169,4373,4629,5130,5136,5144,5145,5146,5147,5633,5892,6218]) [.fld, .free, .keys, .lbs, .mer, .net, .out, .prg,
        .recd, .sys, .txn] s (lbServe s w items bad) := by
  unfold lbServe
  extract_lets x1 x2 x3 x4
  clear_value x1
  clear_value x2
  clear_value x3
  clear_value x4
  split
  · refine Within.after (answerDuplicate_within ..) rfl rfl ?_
    exact .refl _ _ _
  · refine .ite ?_ ?_
    · refine Within.after (respond_within ..) rfl rfl ?_
      exact .refl _ _ _
    · refine .ite ?_ ?_
      · refine Within.after (respond_within ..) rfl rfl ?_
        exact .refl _ _ _
      · split
        · extract_lets x5
          clear_value x5
          refine .ite ?_ ?_
          · refine Within.after (writeRequest_within ..) rfl rfl ?_
            exact .refl _ _ _
          · refine Within.after (lbTxnWrite_within ..) rfl rfl ?_
            exact .refl _ _ _
        · split
          · refine .ite ?_ ?_
            · refine Within.after (respond_within ..) rfl rfl ?_
              exact .refl _ _ _
            · refine Within.after (writeRequest_within ..) rfl rfl ?_
              refine Within.after (touchTxn_within ..) rfl rfl ?_
              exact .refl _ _ _
          · refine Within.after (writeRequest_within ..) rfl rfl ?_
            exact .refl _ _ _

theorem lbTaken_within (s : State) : Within (some []) [.lbs] s (lbTaken s) := by
  unfold lbTaken
  split
  · extract_lets x1
    clear_value x1
    refine Within.after (lbPending_within ..) rfl rfl ?_
    refine Within.after (lbDrained_within ..) rfl rfl ?_
    refine .lbs _ rfl ?_
    exact .refl _ _ _
  · exact .refl _ _ _

theorem lbwGo_within (s : State) :
    Within (some [4118,4169,4232,4373,4629,4870,5130,5136,5144,5145,5146,5147,5633,5892,6218]) [.fld, .free, .keys, .lbs, .mer, .net,
        .out, .prg, .recd, .sys, .txn] s (lbwGo s) := by
  unfold lbwGo
  split
  · extract_lets x1 x2 x3
    clear_value x1
    clear_value x3
    refine Within.have_ (x := x2) ?_ fun hx2 => ?_
    · unfold x2
      refine .count _ _ _ rfl ?_
      refine Within.after (lbTaken_within ..) rfl rfl ?_
      exact .refl _ _ _
    clear_value x2
    refine .ite ?_ ?_
    · refine .ite ?_ ?_
      · refine Within.after (respond_within ..) rfl rfl ?_
        refine .count _ _ _ rfl ?_
        assumption
      · refine .ite ?_ ?_
        · refine Within.after (lbServe_within ..) rfl rfl ?_
          assumption
        · refine .txn _ rfl ?_
          assumption
    · exact .refl _ _ _
  · exact .refl _ _ _

theorem respondItems_within (s : State) (op : Nat) (w : Who) (handle : Nat) (items : List WItem) (rs : List (Status × List Nat)) :
    Within (some [4373,4629]) [.fld, .lbs, .net, .out] s (respondItems s op w handle items rs) := by
  unfold respondItems
  refine .ite ?_ ?_
  · refine Within.after (respond_within ..) rfl rfl ?_
    exact .refl _ _ _
  · refine Within.after (respond_within ..) rfl rfl ?_
    exact .refl _ _ _

theorem readRequest_within (s : State) (w : Who) (handle : Nat) (items : List WItem) :
    Within (some [4373,4629]) [.fld, .lbs, .net, .out, .txn] s (readRequest s w handle items) := by
  unfold readRequest
  extract_lets x1 x2 x3
  clear_value x1
  clear_value x2
  clear_value x3
  refine Within.after (respondItems_within ..) rfl rfl ?_
  refine .ite ?_ ?_
  · exact .refl _ _ _
  · refine Within.after (noteVersions_within ..) rfl rfl ?_
    exact .refl _ _ _

theorem serve_within (s : State) (op : Nat) (w : Who) (handle : Nat) (items : List WItem) (bad : Bool) :
    Within (some [4118,4169,4373,4629,5130,5136,5144,5145,5146,5147,5633,5892,6218]) [.fld, .free, .keys, .lbs, .mer, .net, .out, .prg,
        .recd, .sys, .txn] s (serve s op w handle items bad) := by
  unfold serve
  split
  · refine Within.after (answerDuplicate_within ..) rfl rfl ?_
    exact .refl _ _ _
  · refine .ite ?_ ?_
    · refine Within.after (respond_within ..) rfl rfl ?_
      exact .refl _ _ _
    · refine .ite ?_ ?_
      · refine Within.after (respond_within ..) rfl rfl ?_
        exact .refl _ _ _
      · split
        · refine Within.after (respond_within ..) rfl rfl ?_
          exact .refl _ _ _
        · extract_lets x1
          refine Within.have_ (x := x1) ?_ fun hx1 => ?_
          · unfold x1
            refine .ite ?_ ?_
            · exact .refl _ _ _
            · refine Within.after (touchTxn_within ..) rfl rfl ?_
              exact .refl _ _ _
          clear_value x1
          refine .ite ?_ ?_
          · refine Within.after (readRequest_within ..) rfl rfl ?_
            assumption
          · refine .ite ?_ ?_
            · refine Within.after (writeRequest_within ..) rfl rfl ?_
              assumption
            · refine .ite ?_ ?_
              · refine Within.after (respondItems_within ..) rfl rfl ?_
                assumption
              · refine .ite ?_ ?_
                · refine Within.after (holdTxn_within ..) rfl rfl ?_
                  assumption
                · refine .ite ?_ ?_
                  · refine Within.after (beginRequest_within ..) rfl rfl ?_
                    assumption
                  · refine .ite ?_ ?_
                    · refine Within.after (commitRequest_within ..) rfl rfl ?_
                      assumption
                    · refine Within.after (rollbackRequest_within ..) rfl rfl ?_
                      assumption

theorem request_within (s : State) (op : Nat) (w : Who) (handle : Nat) (items : List WItem) (bad : Bool) :
    Within (some [4118,4169,4230,4373,4629,4870,5130,5136,5144,5145,5146,5147,5633,5892,6218]) [.fld, .free, .keys, .lbs, .mer, .net,
        .out, .prg, .recd, .sys, .txn] s (request s op w handle items bad) := by
  unfold request
  extract_lets x1
  refine Within.have_ (x := x1) ?_ fun hx1 => ?_
  · unfold x1
    refine .count _ _ _ rfl ?_
    exact .refl _ _ _
  clear_value x1
  refine .ite ?_ ?_
  · refine .ite ?_ ?_
    · refine .ite ?_ ?_
      · refine .count _ _ _ rfl ?_
        exact .refl _ _ _
      · exact .refl _ _ _
    · refine .ite ?_ ?_
      · refine Within.after (serve_within ..) rfl rfl ?_
        assumption
      · refine .ite ?_ ?_
        · refine Within.after (lbServe_within ..) rfl rfl ?_
          refine Within.after (lbPending_within ..) rfl rfl ?_
          assumption
        · exact .refl _ _ _
  · exact .refl _ _ _

theorem serveHeld_within (s : State) (x : Held) :
    Within (some [4118,4169,4373,4629,5130,5136,5144,5145,5146,5147,5633,5892,6218]) [.fld, .free, .keys, .lbs, .mer, .net, .out, .prg,
        .recd, .sys, .txn] s (serveHeld s x) := by
  unfold serveHeld
  extract_lets x1
  refine Within.have_ (x := x1) ?_ fun hx1 => ?_
  · unfold x1
    refine .ite ?_ ?_
    · refine Within.after (modTxn_within ..) rfl rfl ?_
      exact .refl _ _ _
    · exact .refl _ _ _
  clear_value x1
  refine .ite ?_ ?_
  · refine Within.after (writeRequest_within ..) rfl rfl ?_
    assumption
  · refine .ite ?_ ?_
    · refine .ite ?_ ?_
      · refine Within.after (lbServe_within ..) rfl rfl ?_
        assumption
      · refine .ite ?_ ?_
        · refine Within.after (beginRequest_within ..) rfl rfl ?_
          assumption
        · refine .ite ?_ ?_
          · refine Within.after (holdTxn_within ..) rfl rfl ?_
            assumption
          · refine .ite ?_ ?_
            · refine Within.after (commitRequest_within ..) rfl rfl ?_
              assumption
            · refine Within.after (rollbackRequest_within ..) rfl rfl ?_
              assumption
    · refine Within.after (serve_within ..) rfl rfl ?_
      assumption

theorem serveAllHeld_within (s : State) :
    Within (some [4118,4169,4373,4629,5130,5136,5144,5145,5146,5147,5633,5892,6218]) [.fld, .free, .keys, .lbs, .mer, .net, .out, .prg,
        .recd, .sys, .txn] s (serveAllHeld s) := by
  unfold serveAllHeld
  extract_lets x1
  clear_value x1
  refine .foldl (fun t2 x3 => ?_) _ ?_
  · refine Within.after (serveHeld_within ..) rfl rfl ?_
    exact .refl _ _ _
  · refine .txn _ rfl ?_
    exact .refl _ _ _

theorem txnIdleTimeout_within (h : Nat) (s : State) : Within (some [5130,5148]) [.mer, .txn] s (txnIdleTimeout h s) := by
  unfold txnIdleTimeout
  split
  · refine .ite ?_ ?_
    · refine .count _ _ _ rfl ?_
      refine Within.after (closeTxn_within ..) rfl rfl ?_
      exact .refl _ _ _
    · exact .refl _ _ _
  · exact .refl _ _ _

theorem waferRefresh_within (period : Nat) (s : State) : Within (some []) [.lbs] s (waferRefresh period s) := by
  unfold waferRefresh
  extract_lets x1 x2 x3 x4
  clear_value x1
  clear_value x2
  clear_value x3
  clear_value x4
  refine .ite ?_ ?_
  · refine .ite ?_ ?_
    · exact .refl _ _ _
    · refine .lbs _ rfl ?_
      exact .refl _ _ _
  · exact .refl _ _ _

theorem writeEntry_within (w : Who) (i : Nat) (e : Nat) (v : Nat) (s : State) :
    Within (some [4118,4169,4230,4373,4629,4870,5130,5136,5144,5145,5146,5147,5633,5892,6218]) [.fld, .free, .keys, .lbs, .mer, .net,
        .out, .prg, .recd, .sys, .txn] s (writeEntry w i e v s) := by
  unfold writeEntry
  refine Within.after (request_within ..) rfl rfl ?_
  exact .refl _ _ _

end Sys2Proof.Laws
end

