-- ==== Sys2Proof/Laws/FrameModes.lean ====
section
/-!
SUPPORT. What each operation of the modes may change: entries by their indices and parts of the state by name. Meanings and claims
about frames cite these and unfold nothing.
-/
namespace Sys2Proof.Laws

open Sys2Proof Sys2Proof.Machine Sys2Proof.Safety

theorem abandonEntry_within (s : State) : Within (some [4645,4646,5638]) [.nvs, .sys] s (abandonEntry s) := by
  unfold abandonEntry
  extract_lets x1 x2 x3 x4 x5 x6 x7
  clear_value x1
  clear_value x2
  clear_value x3
  clear_value x6
  refine Within.have_ (x := x4) ?_ fun hx4 => ?_
  · unfold x4
    refine .sys_nvs _ _ rfl rfl ?_
    exact .refl _ _ _
  clear_value x4
  refine Within.have_ (x := x5) ?_ fun hx5 => ?_
  · unfold x5
    refine .wr _ _ _ rfl ?_
    assumption
  clear_value x5
  refine Within.have_ (x := x7) ?_ fun hx7 => ?_
  · unfold x7
    split
    · refine .nvs _ rfl ?_
      assumption
    · assumption
  clear_value x7
  refine .ite ?_ ?_
  · refine .foldl (fun t8 x9 => ?_) _ ?_
    · refine .ite ?_ ?_
      · exact .refl _ _ _
      · refine Within.after (pseRestart_within ..) rfl rfl ?_
        exact .refl _ _ _
    · assumption
  · assumption

theorem anaResume_within (s : State) : Within (some []) [.ana] s (anaResume s) := by
  unfold anaResume
  refine .foldl (fun t1 x2 => ?_) _ ?_
  · refine Within.after (anaDrive_within ..) rfl rfl ?_
    exact .refl _ _ _
  · exact .refl _ _ _

theorem asPowerFail_within (s : State) : Within (some [5638]) [.nvs] s (asPowerFail s) := by
  unfold asPowerFail
  split
  · extract_lets x1 x2 x3 x4
    clear_value x1
    clear_value x2
    clear_value x4
    refine Within.have_ (x := x3) ?_ fun hx3 => ?_
    · unfold x3
      refine .wr _ _ _ rfl ?_
      exact .refl _ _ _
    clear_value x3
    refine .ite ?_ ?_
    · refine .nvs _ rfl ?_
      assumption
    · exact .refl _ _ _
  · exact .refl _ _ _

theorem bankFailed_within (s : State) (address : Nat) :
    Within (some [4160,4163,5892]) [.free, .mode, .net, .recd, .sys] s (bankFailed s address) := by
  unfold bankFailed
  extract_lets x1 x2 x3
  clear_value x2
  clear_value x3
  refine Within.have_ (x := x1) ?_ fun hx1 => ?_
  · unfold x1
    refine Within.after (raiseFault_within ..) rfl rfl ?_
    exact .refl _ _ _
  clear_value x1
  refine Within.after (putUp_within ..) rfl rfl ?_
  refine Within.after (State_tookFree_within ..) rfl rfl ?_
  assumption

theorem coreFailed_within (s : State) (address : Nat) : Within (some [4160,4163,5892]) [.mode, .net, .recd,
    .sys] s (coreFailed s address) := by
  unfold coreFailed
  extract_lets x1 x2
  clear_value x2
  refine Within.have_ (x := x1) ?_ fun hx1 => ?_
  · unfold x1
    refine Within.after (raiseFault_within ..) rfl rfl ?_
    exact .refl _ _ _
  clear_value x1
  refine .ite ?_ ?_
  · refine .sys _ rfl ?_
    assumption
  · assumption

theorem degradeNow_within (s : State) : Within (some [5892]) [.mode, .net, .recd, .sys] s (degradeNow s) := by
  unfold degradeNow
  extract_lets x1 x2
  clear_value x2
  refine Within.have_ (x := x1) ?_ fun hx1 => ?_
  · unfold x1
    refine Within.after (enterMode_within ..) rfl rfl ?_
    exact .refl _ _ _
  clear_value x1
  refine .ite ?_ ?_
  · refine .sys _ rfl ?_
    assumption
  · exact .refl _ _ _

theorem enterSafeHold_within (s : State) (cause : Nat) :
    Within (some [4373,4480,4645,4646,5638,5892,10258,10259,10263,11278,11279,11280,11282,11283,11311,12326,12380,13382]) [.ana, .lft,
        .mode, .mot, .net, .nvs, .out, .recd, .saf, .sys] s (enterSafeHold s cause) := by
  unfold enterSafeHold
  extract_lets x1 x2 x3 x4 x5 x6
  clear_value x1
  clear_value x4
  refine Within.have_ (x := x2) ?_ fun hx2 => ?_
  · unfold x2
    refine .ite ?_ ?_
    · refine Within.after (abandonEntry_within ..) rfl rfl ?_
      exact .refl _ _ _
    · exact .refl _ _ _
  clear_value x2
  refine Within.have_ (x := x3) ?_ fun hx3 => ?_
  · unfold x3
    refine .ite ?_ ?_
    · refine Within.after (endAdmission_within ..) rfl rfl ?_
      assumption
    · assumption
  clear_value x3
  refine Within.have_ (x := x5) ?_ fun hx5 => ?_
  · unfold x5
    refine Within.after (enterMode_within ..) rfl rfl ?_
    refine .sys _ rfl ?_
    assumption
  clear_value x5
  refine Within.have_ (x := x6) ?_ fun hx6 => ?_
  · unfold x6
    refine .ite ?_ ?_
    · refine Within.after (anaResume_within ..) rfl rfl ?_
      assumption
    · assumption
  clear_value x6
  refine .ite ?_ ?_
  · refine Within.after (lftSafeHold_within ..) rfl rfl ?_
    refine Within.after (motSafeHold_within ..) rfl rfl ?_
    refine Within.after (ctlSafeHold_within ..) rfl rfl ?_
    refine Within.after (outsOff_within ..) rfl rfl ?_
    assumption
  · exact .refl _ _ _

theorem pairFailed_within (s : State) (p : Nat) (address : Nat) :
    Within (some [4160,4163,4170,5892,13313,13314,14401]) [.mode, .net, .prg, .recd, .sys] s (pairFailed s p address) := by
  unfold pairFailed
  extract_lets x1
  refine Within.have_ (x := x1) ?_ fun hx1 => ?_
  · unfold x1
    refine Within.after (raiseFault_within ..) rfl rfl ?_
    exact .refl _ _ _
  clear_value x1
  refine .ite ?_ ?_
  · refine Within.after (setTrip_within ..) rfl rfl ?_
    assumption
  · refine .ite ?_ ?_
    · refine Within.after (prgTakeover_within ..) rfl rfl ?_
      refine .wr _ _ _ rfl ?_
      assumption
    · assumption

theorem escalate_within (s : State) (initiator : Nat) (address : Nat) (cls : PageClass) :
    Within (some [4160,4163,4170,5892,8451,13313,13314,13382,14401]) [.ctl, .free, .mode, .net, .prg, .recd, .saf, .sys,
        .turn] s (escalate s initiator address cls) := by
  unfold escalate
  split
  · refine Within.after (coreFailed_within ..) rfl rfl ?_
    exact .refl _ _ _
  · refine Within.after (coreFailed_within ..) rfl rfl ?_
    exact .refl _ _ _
  · refine Within.after (coreFailed_within ..) rfl rfl ?_
    exact .refl _ _ _
  · refine Within.after (coreFailed_within ..) rfl rfl ?_
    exact .refl _ _ _
  · refine Within.after (pairFailed_within ..) rfl rfl ?_
    exact .refl _ _ _
  · refine Within.after (pairFailed_within ..) rfl rfl ?_
    exact .refl _ _ _
  · extract_lets x1
    clear_value x1
    refine .ctl _ rfl ?_
    exact .refl _ _ _
  · extract_lets x2
    clear_value x2
    refine .ctl _ rfl ?_
    exact .refl _ _ _
  · refine Within.after (raiseFault_within ..) rfl rfl ?_
    exact .refl _ _ _
  · refine Within.after (raiseFault_within ..) rfl rfl ?_
    exact .refl _ _ _
  · refine Within.after (sequencerStop_within ..) rfl rfl ?_
    exact .refl _ _ _
  · refine Within.after (islandFault_within ..) rfl rfl ?_
    exact .refl _ _ _
  · refine Within.after (bankFailed_within ..) rfl rfl ?_
    exact .refl _ _ _
  · refine Within.after (startRetire_within ..) rfl rfl ?_
    exact .refl _ _ _
  · exact .refl _ _ _

theorem retestPassed_within (s : State) (bit : Nat) :
    Within (some [4160,5892,8451,8453,8460,8465,8466,8467,8468,8469,8470,8471,10369,13313]) [.free, .mode, .mot, .net, .recd,
        .turn] s (retestPassed s bit) := by
  unfold retestPassed
  extract_lets x1
  refine Within.have_ (x := x1) ?_ fun hx1 => ?_
  · unfold x1
    refine Within.after (clearFault_within ..) rfl rfl ?_
    exact .refl _ _ _
  clear_value x1
  refine .ite ?_ ?_
  · refine Within.after (engineRetested_within ..) rfl rfl ?_
    assumption
  · refine .ite ?_ ?_
    · refine Within.after (clearTrip_within ..) rfl rfl ?_
      assumption
    · refine .ite ?_ ?_
      · refine Within.after (turnoverRetested_within ..) rfl rfl ?_
        assumption
      · refine .ite ?_ ?_
        · refine Within.after (laneRetested_within ..) rfl rfl ?_
          assumption
        · assumption

theorem faultRetestComplete_within (pass : Bool) (s : State) :
    Within (some [4160,4169,5892,8451,8453,8460,8465,8466,8467,8468,8469,8470,8471,10369,13313]) [.free, .mode, .mot, .net, .recd, .sys,
        .turn] s (faultRetestComplete pass s) := by
  unfold faultRetestComplete
  split
  · exact .refl _ _ _
  · extract_lets x1 x2
    clear_value x1
    refine Within.have_ (x := x2) ?_ fun hx2 => ?_
    · unfold x2
      refine .sys _ rfl ?_
      exact .refl _ _ _
    clear_value x2
    refine .ite ?_ ?_
    · refine .ite ?_ ?_
      · refine .wr _ _ _ rfl ?_
        refine Within.after (retestPassed_within ..) rfl rfl ?_
        assumption
      · refine .wr _ _ _ rfl ?_
        assumption
    · exact .refl _ _ _

theorem podlOff_within (s : State) : Within (some [4645,4649]) [] s (podlOff s) := by
  unfold podlOff
  refine Within.after (pseNoteAlloc_within ..) rfl rfl ?_
  refine .foldl (fun t1 x2 => ?_) _ ?_
  · refine .ite ?_ ?_
    · exact .refl _ _ _
    · refine .wr _ _ _ rfl ?_
      exact .refl _ _ _
  · exact .refl _ _ _

theorem standbyBegins_within (s : State) : Within (some [4645,4649,5638]) [.ana, .nvs, .sys] s (standbyBegins s) := by
  unfold standbyBegins
  extract_lets x1 x2
  clear_value x1
  refine Within.have_ (x := x2) ?_ fun hx2 => ?_
  · unfold x2
    refine Within.after (podlOff_within ..) rfl rfl ?_
    refine Within.after (anaOff_within ..) rfl rfl ?_
    refine .sys _ rfl ?_
    exact .refl _ _ _
  clear_value x2
  refine Within.after (triggerStore_within ..) rfl rfl ?_
  assumption

theorem grantMode_within (s : State) (v : Nat) :
    Within (some [4098,4373,4480,4645,4649,5638,5892]) [.ana, .ctl, .mode, .net, .nvs, .out, .recd, .sys] s (grantMode s v) := by
  unfold grantMode
  extract_lets x1 x2
  refine Within.have_ (x := x1) ?_ fun hx1 => ?_
  · unfold x1
    refine .wr _ _ _ rfl ?_
    exact .refl _ _ _
  clear_value x1
  refine Within.have_ (x := x2) ?_ fun hx2 => ?_
  · unfold x2
    refine .ite ?_ ?_
    · refine Within.after (ctlReturn_within ..) rfl rfl ?_
      refine Within.after (endAdmission_within ..) rfl rfl ?_
      assumption
    · assumption
  clear_value x2
  split
  · refine Within.after (enterMode_within ..) rfl rfl ?_
    assumption
  · refine Within.after (enterRun_within ..) rfl rfl ?_
    assumption
  · refine Within.after (enterMode_within ..) rfl rfl ?_
    assumption
  · refine Within.after (standbyBegins_within ..) rfl rfl ?_
    assumption
  · refine Within.after (enterMode_within ..) rfl rfl ?_
    assumption
  · assumption

theorem holdIfTripped_within (s : State) :
    Within (some [4373,4480,4645,4646,5638,5892,10258,10259,10263,11278,11279,11280,11282,11283,11311,12326,12380,13382]) [.ana, .lft,
        .mode, .mot, .net, .nvs, .out, .recd, .saf, .sys] s (holdIfTripped s) := by
  unfold holdIfTripped
  refine .ite ?_ ?_
  · exact .refl _ _ _
  · refine Within.after (enterSafeHold_within ..) rfl rfl ?_
    exact .refl _ _ _

theorem lastStore_within (s : State) (back : Bool) : Within (some []) [.nvs, .sys] s (lastStore s back) := by
  unfold lastStore
  extract_lets x1 x2
  clear_value x1
  clear_value x2
  refine .sys_nvs _ _ rfl rfl ?_
  exact .refl _ _ _

theorem shedLoads_within (s : State) (partials : List (Nat × LineCycle)) :
    Within (some [4171,4194,4611,4612,4645,4649,4677,4708,5921,6417,6418,8213,8230,9232,9268,9269,9298,13312,13382]) [.ana, .fld, .lbs,
        .lft, .mer, .mot, .nrg, .prg, .recd, .saf, .sys, .txn] s (shedLoads s partials) := by
  unfold shedLoads
  extract_lets x1 x2 x3 x4 x5 x6
  clear_value x1
  clear_value x4
  clear_value x5
  clear_value x6
  refine Within.have_ (x := x2) ?_ fun hx2 => ?_
  · unfold x2
    refine .ite ?_ ?_
    · refine Within.after (meteringStops_within ..) rfl rfl ?_
      refine .foldl (fun t7 x8 => ?_) _ ?_
      · refine Within.after (partialCycle_within ..) rfl rfl ?_
        exact .refl _ _ _
      · exact .refl _ _ _
    · exact .refl _ _ _
  clear_value x2
  refine Within.have_ (x := x3) ?_ fun hx3 => ?_
  · unfold x3
    refine .wr _ _ _ rfl ?_
    refine Within.after (fieldOff_within ..) rfl rfl ?_
    refine Within.after (lbsOff_within ..) rfl rfl ?_
    refine Within.after (prgHalt_within ..) rfl rfl ?_
    refine Within.after (liftOff_within ..) rfl rfl ?_
    refine Within.after (islandOff_within ..) rfl rfl ?_
    refine Within.after (motOff_within ..) rfl rfl ?_
    refine Within.after (anaOff_within ..) rfl rfl ?_
    refine Within.after (hartOff_within ..) rfl rfl ?_
    refine Within.after (podlOff_within ..) rfl rfl ?_
    assumption
  clear_value x3
  refine .sys_txn _ _ rfl rfl ?_
  assumption

theorem powerFailure_within (s : State) (vmain : Nat) (partials : List (Nat × LineCycle)) (back : Bool) :
    Within (some [4112,4171,4194,4611,4612,4645,4649,4677,4708,5634,5636,5637,5638,5892,5921,6417,6418,8213,8230,9232,9268,9269,9298,
        13312,13382]) [.ana, .fld, .lbs, .lft, .mer, .mode, .mot, .net, .nrg, .nvs, .prg, .recd, .saf, .sys,
        .txn] s (powerFailure s vmain partials back) := by
  unfold powerFailure
  extract_lets x1 x2 x3 x4
  clear_value x1
  refine Within.have_ (x := x2) ?_ fun hx2 => ?_
  · unfold x2
    refine Within.after (shedLoads_within ..) rfl rfl ?_
    refine .wr _ _ _ rfl ?_
    exact .refl _ _ _
  clear_value x2
  refine Within.have_ (x := x3) ?_ fun hx3 => ?_
  · unfold x3
    refine Within.after (enterMode_within ..) rfl rfl ?_
    assumption
  clear_value x3
  refine Within.have_ (x := x4) ?_ fun hx4 => ?_
  · unfold x4
    refine Within.after (lastStore_within ..) rfl rfl ?_
    refine Within.after (recordEvent_within ..) rfl rfl ?_
    assumption
  clear_value x4
  refine .ite ?_ ?_
  · exact .refl _ _ _
  · refine .ite ?_ ?_
    · refine Within.after (asPowerFail_within ..) rfl rfl ?_
      assumption
    · refine Within.after (beginStore_within ..) rfl rfl ?_
      refine Within.after (flushRecords_within ..) rfl rfl ?_
      assumption

theorem internalRailFault_within (vmain : Nat) (partials : List (Nat × LineCycle)) (s : State) :
    Within (some [4112,4171,4194,4611,4612,4645,4649,4677,4708,5634,5636,5637,5638,5892,5921,6417,6418,8213,8230,9232,9268,9269,9298,
        13312,13382]) [.ana, .fld, .lbs, .lft, .mer, .mode, .mot, .net, .nrg, .nvs, .prg, .recd, .saf, .sys,
        .txn] s (internalRailFault vmain partials s) := by
  unfold internalRailFault
  refine .ite ?_ ?_
  · refine Within.after (powerFailure_within ..) rfl rfl ?_
    exact .refl _ _ _
  · exact .refl _ _ _

theorem lapseMode_within (s : State) (v : Nat) : Within (some [5892]) [.mode, .net, .recd, .sys] s (lapseMode s v) := by
  unfold lapseMode
  extract_lets x1 x2
  clear_value x2
  refine Within.have_ (x := x1) ?_ fun hx1 => ?_
  · unfold x1
    refine Within.after (recordEvent_within ..) rfl rfl ?_
    exact .refl _ _ _
  clear_value x1
  refine .ite ?_ ?_
  · refine Within.after (degradeNow_within ..) rfl rfl ?_
    refine .sys _ rfl ?_
    assumption
  · assumption

theorem leaveSafeHold_within (s : State) :
    Within (some [5892,10263,11278,11279,11280,11282,11283]) [.ctl, .mode, .mot, .net, .recd, .saf, .sys] s (leaveSafeHold s) := by
  unfold leaveSafeHold
  extract_lets x1 x2 x3
  clear_value x1
  refine Within.have_ (x := x2) ?_ fun hx2 => ?_
  · unfold x2
    refine .saf _ rfl ?_
    exact .refl _ _ _
  clear_value x2
  refine Within.have_ (x := x3) ?_ fun hx3 => ?_
  · unfold x3
    split
    · refine Within.after (enterMode_within ..) rfl rfl ?_
      assumption
    · refine Within.after (enterRun_within ..) rfl rfl ?_
      assumption
  clear_value x3
  refine .ite ?_ ?_
  · refine Within.after (motSafeExit_within ..) rfl rfl ?_
    refine Within.after (ctlSafeExit_within ..) rfl rfl ?_
    assumption
  · refine .saf _ rfl ?_
    exact .refl _ _ _

theorem loopSampleAll_within (slot : Nat) (mismatch : Bool) (s : State) :
    Within (some [5892,10257,10258,10259,10263,10264,10265,10370,10503,10504,11283]) [.ana, .ctl, .mot,
        .recd] s (loopSampleAll slot mismatch s) := by
  unfold loopSampleAll
  refine .ite ?_ ?_
  · exact .refl _ _ _
  · refine Within.after (motFromLoop_within ..) rfl rfl ?_
    refine Within.after (loopSample_within ..) rfl rfl ?_
    exact .refl _ _ _

theorem noteGrant_within (s : State) (seq : Nat) : Within (some []) [.txn] s (noteGrant s seq) := by
  unfold noteGrant
  refine .ite ?_ ?_
  · exact .refl _ _ _
  · refine Within.after (bumpVersions_within ..) rfl rfl ?_
    exact .refl _ _ _

theorem modeTransitionStart_within (s : State) :
    Within (some [4098,4373,4480,4629,4645,4649,5638,5892]) [.ana, .ctl, .fld, .lbs, .mer, .mode, .net, .nvs, .out, .recd, .sys,
        .txn] s (modeTransitionStart s) := by
  unfold modeTransitionStart
  split
  · exact .refl _ _ _
  · extract_lets x1 x2 x3
    clear_value x1
    refine Within.have_ (x := x2) ?_ fun hx2 => ?_
    · unfold x2
      refine .sys _ rfl ?_
      exact .refl _ _ _
    clear_value x2
    refine Within.have_ (x := x3) ?_ fun hx3 => ?_
    · unfold x3
      refine .ite ?_ ?_
      · assumption
      · refine .ite ?_ ?_
        · refine Within.after (grantMode_within ..) rfl rfl ?_
          refine Within.after (noteGrant_within ..) rfl rfl ?_
          assumption
        · refine Within.after (lapseMode_within ..) rfl rfl ?_
          assumption
    clear_value x3
    refine .ite ?_ ?_
    · refine Within.after (settle_within ..) rfl rfl ?_
      refine .ite ?_ ?_
      · assumption
      · refine Within.after (specialDone_within ..) rfl rfl ?_
        assumption
    · exact .refl _ _ _

theorem motionTickAll_within (sense : List PhaseSense) (lanes : Option LaneCheck) (s : State) :
    Within (some [4160,4163,4373,4480,4645,4646,5638,5892,10258,10259,10263,11278,11279,11280,11282,11283,11297,11303,11311,12326,12380,
        12381,13382]) [.ana, .lft, .mode, .mot, .net, .nvs, .out, .recd, .saf, .sys] s (motionTickAll sense lanes s) := by
  unfold motionTickAll
  extract_lets x1
  refine Within.have_ (x := x1.1) ?_ fun hx1 => ?_
  · unfold x1
    refine Within.after (motionTick_within ..) rfl rfl ?_
    exact .refl _ _ _
  clear_value x1
  refine .ite ?_ ?_
  · refine Within.after (doorForceTick_within ..) rfl rfl ?_
    refine .ite ?_ ?_
    · refine Within.after (enterSafeHold_within ..) rfl rfl ?_
      assumption
    · assumption
  · exact .refl _ _ _

theorem parityMismatch_within (initiator : Nat) (words : List Nat) (address : Nat) (cls : PageClass) (s : State) :
    Within (some [4160,4161,4162,4163,4170,4373,4480,4645,4646,5638,5892,8451,10258,10259,10263,11278,11279,11280,11282,11283,11311,12326,
        12380,13313,13314,13382,14401]) [.ana, .ctl, .free, .lft, .mode, .mot, .net, .nvs, .out, .prg, .recd, .saf, .sys,
        .turn] s (parityMismatch initiator words address cls s) := by
  unfold parityMismatch
  extract_lets x1
  refine Within.have_ (x := x1) ?_ fun hx1 => ?_
  · unfold x1
    refine Within.after (recordEvent_within ..) rfl rfl ?_
    refine .count _ _ _ rfl ?_
    exact .refl _ _ _
  clear_value x1
  refine .ite ?_ ?_
  · refine .ite ?_ ?_
    · refine .count _ _ _ rfl ?_
      exact .refl _ _ _
    · refine Within.after (holdIfTripped_within ..) rfl rfl ?_
      refine Within.after (escalate_within ..) rfl rfl ?_
      assumption
  · exact .refl _ _ _

theorem powerFail_within (vmain : Nat) (partials : List (Nat × LineCycle)) (s : State) :
    Within (some [4112,4171,4194,4611,4612,4645,4649,4677,4708,5634,5636,5637,5638,5892,5921,6417,6418,8213,8230,9232,9268,9269,9298,
        13312,13382]) [.ana, .fld, .lbs, .lft, .mer, .mode, .mot, .net, .nrg, .nvs, .prg, .recd, .saf, .sys,
        .txn] s (powerFail vmain partials s) := by
  unfold powerFail
  refine .ite ?_ ?_
  · refine Within.after (powerFailure_within ..) rfl rfl ?_
    exact .refl _ _ _
  · exact .refl _ _ _

theorem selfCheckAll_within (a : Bool) (b : Bool) (agree : Bool) (s : State) :
    Within (some [4160,4163,4373,4480,4645,4646,5638,5892,10258,10259,10263,10369,10371,11278,11279,11280,11282,11283,11311,12326,12380,
        13313,13314,13382]) [.ana, .ctl, .lft, .mode, .mot, .net, .nvs, .out, .recd, .saf, .sys] s (selfCheckAll a b agree s) := by
  unfold selfCheckAll
  extract_lets x1
  refine Within.have_ (x := x1.1) ?_ fun hx1 => ?_
  · unfold x1
    refine Within.after (selfCheck_within ..) rfl rfl ?_
    exact .refl _ _ _
  clear_value x1
  refine .ite ?_ ?_
  · refine Within.after (holdIfTripped_within ..) rfl rfl ?_
    refine Within.after (setTrip_within ..) rfl rfl ?_
    assumption
  · assumption

theorem standbyReached_within (s : State) :
    Within (some [4171,4194,4611,4612,4677,4708,5892,5921,6417,6418,8213,8230,9298,13312,13382]) [.ana, .fld, .lbs, .mode, .net, .nrg,
        .out, .recd, .saf, .sys, .txn] s (standbyReached s) := by
  unfold standbyReached
  extract_lets x1 x2 x3 x4 x5 x6
  clear_value x1
  clear_value x3
  clear_value x4
  clear_value x5
  refine Within.have_ (x := x2) ?_ fun hx2 => ?_
  · unfold x2
    refine Within.after (enterMode_within ..) rfl rfl ?_
    refine .wr _ _ _ rfl ?_
    refine Within.after (fieldOff_within ..) rfl rfl ?_
    refine Within.after (lbsOff_within ..) rfl rfl ?_
    refine Within.after (islandOff_within ..) rfl rfl ?_
    refine Within.after (hartOff_within ..) rfl rfl ?_
    exact .refl _ _ _
  clear_value x2
  refine Within.have_ (x := x6) ?_ fun hx6 => ?_
  · unfold x6
    refine .sys_txn_net_nrg _ _ _ _ rfl rfl rfl rfl ?_
    assumption
  clear_value x6
  refine .foldl (fun t7 x8 => ?_) _ ?_
  · refine Within.after (negotiate_within ..) rfl rfl ?_
    exact .refl _ _ _
  · assumption

theorem standbyStored_within {t : State} (us : Nat) (s : State) (h : standbyStored us s = some t) :
    Within (some [4160,4171,4194,4611,4612,4677,4708,5635,5639,5642,5644,5645,5892,5921,6417,6418,8213,8230,9298,13312,13382]) [.ana,
        .fld, .lbs, .mer, .mode, .net, .nrg, .nvs, .out, .recd, .saf, .sys, .txn] s t := by
  unfold standbyStored at h
  split at h
  · dsimp only at h
    split at h
    · cases h
      refine Within.after (standbyReached_within ..) rfl rfl ?_
      refine Within.after (storePassed_within ..) rfl rfl ?_
      refine .mer _ rfl ?_
      exact .refl _ _ _
    · cases h
  · cases h

theorem standbyVmainFail_within (s : State) : Within (some [5892]) [.mode, .net, .recd] s (standbyVmainFail s) := by
  unfold standbyVmainFail
  refine .ite ?_ ?_
  · refine Within.after (enterMode_within ..) rfl rfl ?_
    exact .refl _ _ _
  · exact .refl _ _ _

theorem stepPulseAll_within (c : Nat) (gapNs : Nat) (s : State) : Within (some [11288]) [.mot, .out] s (stepPulseAll c gapNs s) := by
  unfold stepPulseAll
  refine .ite ?_ ?_
  · exact .refl _ _ _
  · refine Within.after (stepPulse_within ..) rfl rfl ?_
    exact .refl _ _ _

theorem vmainReturnInHoldup_within (s : State) : Within (some []) [.sys] s (vmainReturnInHoldup s) := by
  unfold vmainReturnInHoldup
  extract_lets x1
  clear_value x1
  refine .ite ?_ ?_
  · refine .sys _ rfl ?_
    exact .refl _ _ _
  · exact .refl _ _ _

theorem withoutRecord_within (s : State) (seq : Nat) : Within (some []) [.mer] s (withoutRecord s seq) := by
  unfold withoutRecord
  extract_lets x1
  clear_value x1
  refine .mer _ rfl ?_
  exact .refl _ _ _

end Sys2Proof.Laws
end

