-- ==== Sys2Proof/Laws/FrameStart.lean ====
section
/-!
SUPPORT. What each operation of starts may change: entries by their indices and parts of the state by name. Meanings and claims
about frames cite these and unfold nothing.
-/
namespace Sys2Proof.Laws

open Sys2Proof Sys2Proof.Machine Sys2Proof.Safety

theorem clearVolatile_within (k : StartKind) (f : StartFacts) (s : State) :
    Within none [.ana, .ctl, .dram, .flashValid, .fld, .lbs, .lft, .mot, .net, .nrg, .nvs, .pts, .sys, .trend, .turn,
        .txn] s (clearVolatile k f s) := by
  unfold clearVolatile
  extract_lets x1 x2 x3
  refine Within.have_ (x := x1) ?_ fun hx1 => ?_
  · unfold x1
    refine .flashValid_od_sys _ _ _ rfl rfl ?_
    exact .refl _ _ _
  clear_value x1
  refine Within.have_ (x := x2) ?_ fun hx2 => ?_
  · unfold x2
    refine .txn_nvs_trend_pts _ _ _ _ rfl rfl rfl rfl ?_
    assumption
  clear_value x2
  refine Within.have_ (x := x3) ?_ fun hx3 => ?_
  · unfold x3
    refine .net_fld_lbs_ana_turn_nrg_dram _ _ _ _ _ _ _ rfl rfl rfl rfl rfl rfl rfl ?_
    assumption
  clear_value x3
  refine .ctl_mot_lft _ _ _ rfl rfl rfl ?_
  assumption

theorem retake_within (s : State) (l : List Rec) : Within (some [5892]) [.recd] s (retake s l) := by
  unfold retake
  refine .foldl (fun t1 x2 => ?_) _ ?_
  · refine Within.after (recordEvent_within ..) rfl rfl ?_
    exact .refl _ _ _
  · exact .refl _ _ _

theorem sramNoted_within (s : State) : Within (some []) [.sys] s (sramNoted s) := by
  unfold sramNoted
  extract_lets x1
  clear_value x1
  refine .sys _ rfl ?_
  exact .refl _ _ _

theorem meringueRow_within (k : StartKind) (f : StartFacts) (s : State) : Within none [.mer, .nvs, .recd, .rtc,
    .sys] s (meringueRow k f s) := by
  unfold meringueRow
  extract_lets x1 x2 x3 x4 x5 x6
  clear_value x1
  refine Within.have_ (x := x2) ?_ fun hx2 => ?_
  · unfold x2
    refine .recd _ rfl ?_
    exact .refl _ _ _
  clear_value x2
  refine Within.have_ (x := x3) ?_ fun hx3 => ?_
  · unfold x3
    refine .ite ?_ ?_
    · refine Within.after (ledgerLoaded_within ..) rfl rfl ?_
      refine Within.after (tornEvents_within ..) rfl rfl ?_
      refine Within.after (loadBank_within ..) rfl rfl ?_
      refine Within.after (selSpoiled_within ..) rfl rfl ?_
      assumption
    · assumption
  clear_value x3
  refine Within.have_ (x := x4) ?_ fun hx4 => ?_
  · unfold x4
    refine Within.after (checkDomain_within ..) rfl rfl ?_
    refine Within.after (sramNoted_within ..) rfl rfl ?_
    assumption
  clear_value x4
  refine Within.have_ (x := x5) ?_ fun hx5 => ?_
  · unfold x5
    refine .ite ?_ ?_
    · refine .foldl (fun t7 x8 => ?_) _ ?_
      · refine Within.after (recordEvent_within ..) rfl rfl ?_
        exact .refl _ _ _
      · assumption
    · assumption
  clear_value x5
  refine Within.have_ (x := x6) ?_ fun hx6 => ?_
  · unfold x6
    refine Within.after (recorderBoot_within ..) rfl rfl ?_
    refine .recd _ rfl ?_
    assumption
  clear_value x6
  refine Within.after (retake_within ..) rfl rfl ?_
  assumption

theorem selfTests_within (f : StartFacts) (s : State) :
    Within (some [4160,4163,4170,5892,8451,10369,13313,13314,13382]) [.mode, .net, .recd, .saf, .sys, .turn] s (selfTests f s) := by
  unfold selfTests
  extract_lets x1 x2 x3 x4 x5 x6
  clear_value x1
  refine Within.have_ (x := x2) ?_ fun hx2 => ?_
  · unfold x2
    refine .foldl (fun t7 x8 => ?_) _ ?_
    · refine .ite ?_ ?_
      · refine Within.after (raiseFault_within ..) rfl rfl ?_
        exact .refl _ _ _
      · exact .refl _ _ _
    · exact .refl _ _ _
  clear_value x2
  refine Within.have_ (x := x3) ?_ fun hx3 => ?_
  · unfold x3
    refine .ite ?_ ?_
    · refine Within.after (setTrip_within ..) rfl rfl ?_
      assumption
    · refine .ite ?_ ?_
      · refine .wr _ _ _ rfl ?_
        assumption
      · assumption
  clear_value x3
  refine Within.have_ (x := x4) ?_ fun hx4 => ?_
  · unfold x4
    refine .ite ?_ ?_
    · refine Within.after (engineFailed_within ..) rfl rfl ?_
      assumption
    · assumption
  clear_value x4
  refine Within.have_ (x := x5) ?_ fun hx5 => ?_
  · unfold x5
    refine .ite ?_ ?_
    · refine Within.after (setTrip_within ..) rfl rfl ?_
      assumption
    · assumption
  clear_value x5
  refine Within.have_ (x := x6) ?_ fun hx6 => ?_
  · unfold x6
    refine .ite ?_ ?_
    · refine Within.after (islandFault_within ..) rfl rfl ?_
      assumption
    · assumption
  clear_value x6
  refine .ite ?_ ?_
  · refine Within.after (sequencerStop_within ..) rfl rfl ?_
    assumption
  · assumption

theorem sramFound_within (k : StartKind) (s : State) : Within none [.mer] s (sramFound k s) := by
  unfold sramFound
  split
  · refine .ite ?_ ?_
    · exact .refl _ _ _
    · refine Within.after (restoreBank_within ..) rfl rfl ?_
      exact .refl _ _ _
  · exact .refl _ _ _

theorem timebaseStart_within (k : StartKind) (s : State) : Within (some []) [.now, .trend] s (timebaseStart k s) := by
  unfold timebaseStart
  extract_lets x1
  clear_value x1
  refine .ite ?_ ?_
  · exact .refl _ _ _
  · refine .now_trend _ _ rfl rfl ?_
    exact .refl _ _ _

theorem startEntries_within (k : StartKind) (before : Nat) (wake : Option (Nat × Nat)) (s : State) :
    Within (some [4099,4101,4102,4105,4171,4434]) [.mer, .now, .trend] s (startEntries k before wake s) := by
  unfold startEntries
  extract_lets x1 x2 x3 x4 x5
  clear_value x5
  refine Within.have_ (x := x1) ?_ fun hx1 => ?_
  · unfold x1
    refine .wr _ _ _ rfl ?_
    refine .wr _ _ _ rfl ?_
    exact .refl _ _ _
  clear_value x1
  refine Within.have_ (x := x2) ?_ fun hx2 => ?_
  · unfold x2
    refine .ite ?_ ?_
    · assumption
    · refine .countSat _ _ rfl ?_
      assumption
  clear_value x2
  refine Within.have_ (x := x3) ?_ fun hx3 => ?_
  · unfold x3
    split
    · refine .wr _ _ _ rfl ?_
      refine .wr _ _ _ rfl ?_
      assumption
    · assumption
  clear_value x3
  refine Within.have_ (x := x4) ?_ fun hx4 => ?_
  · unfold x4
    refine .wr _ _ _ rfl ?_
    assumption
  clear_value x4
  refine Within.after (timebaseStart_within ..) rfl rfl ?_
  refine .mer _ rfl ?_
  assumption

theorem thresholds_within (k : StartKind) (old : State) (s : State) : Within (some [4369,4375]) [] s (thresholds k old s) := by
  unfold thresholds
  refine .foldl (fun t1 x2 => ?_) _ ?_
  · refine .ite ?_ ?_
    · refine .wr _ _ _ rfl ?_
      refine .wr _ _ _ rfl ?_
      exact .refl _ _ _
    · refine .wr _ _ _ rfl ?_
      exact .refl _ _ _
  · exact .refl _ _ _

theorem startOnce_within (k : StartKind) (f : StartFacts) (wake : Option (Nat × Nat)) (s : State) :
    Within none [.ana, .ctl, .dram, .flashValid, .fld, .free, .keys, .lbs, .lft, .mer, .mode, .mot, .net, .now, .nrg, .nvs, .prg, .pts,
        .recd, .rtc, .saf, .sys, .trend, .turn, .txn, .upd] s (startOnce k f wake s) := by
  unfold startOnce
  extract_lets x1 x2 x3 x4 x5 x6
  clear_value x1
  refine Within.have_ (x := x2) ?_ fun hx2 => ?_
  · unfold x2
    refine .ite ?_ ?_
    · refine .recd _ rfl ?_
      exact .refl _ _ _
    · exact .refl _ _ _
  clear_value x2
  refine Within.have_ (x := x3) ?_ fun hx3 => ?_
  · unfold x3
    refine Within.after (enterMode_within ..) rfl rfl ?_
    refine .ite ?_ ?_
    · refine Within.after (meteringStops_within ..) rfl rfl ?_
      assumption
    · assumption
  clear_value x3
  refine Within.have_ (x := x4) ?_ fun hx4 => ?_
  · unfold x4
    refine Within.after (meringueRow_within ..) rfl rfl ?_
    refine Within.after (clearVolatile_within ..) rfl rfl ?_
    refine Within.after (sramFound_within ..) rfl rfl ?_
    assumption
  clear_value x4
  refine Within.have_ (x := x5) ?_ fun hx5 => ?_
  · unfold x5
    refine Within.after (thresholds_within ..) rfl rfl ?_
    refine Within.after (startEntries_within ..) rfl rfl ?_
    assumption
  clear_value x5
  refine Within.have_ (x := x6) ?_ fun hx6 => ?_
  · unfold x6
    refine Within.after (updBoot_within ..) rfl rfl ?_
    refine Within.after (selectImage_within ..) rfl rfl ?_
    refine Within.after (keysBoot_within ..) rfl rfl ?_
    assumption
  clear_value x6
  refine Within.after (selfTests_within ..) rfl rfl ?_
  refine Within.after (prgBoot_within ..) rfl rfl ?_
  refine Within.after (islandBoot_within ..) rfl rfl ?_
  assumption

theorem startUp_within (k : StartKind) (f : StartFacts) (wake : Option (Nat × Nat)) (s : State) :
    Within none [.ana, .ctl, .dram, .flashValid, .fld, .free, .keys, .lbs, .lft, .mer, .mode, .mot, .net, .now, .nrg, .nvs, .prg, .pts,
        .recd, .rtc, .saf, .sys, .trend, .turn, .txn, .upd] s (startUp k f wake s) := by
  unfold startUp
  extract_lets x1
  refine Within.have_ (x := x1) ?_ fun hx1 => ?_
  · unfold x1
    refine Within.after (startOnce_within ..) rfl rfl ?_
    exact .refl _ _ _
  clear_value x1
  refine .ite ?_ ?_
  · refine Within.after (startOnce_within ..) rfl rfl ?_
    assumption
  · assumption

theorem actReset_within (f : StartFacts) (s : State) :
    Within none [.ana, .ctl, .dram, .flashValid, .fld, .free, .keys, .lbs, .lft, .mer, .mode, .mot, .net, .now, .nrg, .nvs, .prg, .pts,
        .recd, .rtc, .saf, .sys, .trend, .turn, .txn, .upd] s (actReset f s) := by
  unfold actReset
  refine .ite ?_ ?_
  · refine Within.after (startUp_within ..) rfl rfl ?_
    exact .refl _ _ _
  · exact .refl _ _ _

theorem freeDesc_within (s : State) (d : TxnDesc) : Within (some [5130]) [.mer, .txn] s (freeDesc s d) := by
  unfold freeDesc
  extract_lets x1 x2
  clear_value x1
  clear_value x2
  refine .ite ?_ ?_
  · refine .mer _ rfl ?_
    exact .refl _ _ _
  · refine .ite ?_ ?_
    · refine Within.after (closeTxn_within ..) rfl rfl ?_
      exact .refl _ _ _
    · refine Within.after (closeTxn_within ..) rfl rfl ?_
      exact .refl _ _ _

theorem rollBackAll_within (s : State) : Within (some [5130]) [.mer, .txn] s (rollBackAll s) := by
  unfold rollBackAll
  extract_lets x1
  clear_value x1
  refine .foldl (fun t2 x3 => ?_) _ ?_
  · refine Within.after (freeDesc_within ..) rfl rfl ?_
    exact .refl _ _ _
  · refine .txn _ rfl ?_
    exact .refl _ _ _

theorem startRecord_within (s : State) : Within (some [5892]) [.recd] s (startRecord s) := by
  unfold startRecord
  refine Within.after (recordEvent_within ..) rfl rfl ?_
  exact .refl _ _ _

theorem mpReset_within (s : State) : Within none [.mer, .pts, .recd, .sys, .txn] s (mpReset s) := by
  unfold mpReset
  extract_lets x1 x2 x3 x4 x5 x6 x7 x8 x9
  clear_value x5
  clear_value x6
  clear_value x8
  clear_value x9
  refine Within.have_ (x := x1) ?_ fun hx1 => ?_
  · unfold x1
    refine Within.after (rollBackAll_within ..) rfl rfl ?_
    refine Within.after (loadRestart_within ..) rfl rfl ?_
    refine .drop _ ?_
    exact .refl _ _ _
  clear_value x1
  refine Within.have_ (x := x2) ?_ fun hx2 => ?_
  · unfold x2
    refine .wr _ _ _ rfl ?_
    refine .countSat _ _ rfl ?_
    refine .wr _ _ _ rfl ?_
    assumption
  clear_value x2
  refine Within.have_ (x := x3) ?_ fun hx3 => ?_
  · unfold x3
    refine .ite ?_ ?_
    · refine .wr _ _ _ rfl ?_
      assumption
    · assumption
  clear_value x3
  refine Within.have_ (x := x4) ?_ fun hx4 => ?_
  · unfold x4
    refine .wrBit _ _ _ _ rfl ?_
    assumption
  clear_value x4
  refine Within.have_ (x := x7) ?_ fun hx7 => ?_
  · unfold x7
    refine .sys_txn _ _ rfl rfl ?_
    assumption
  clear_value x7
  refine Within.after (startRecord_within ..) rfl rfl ?_
  refine .recd_pts _ _ rfl rfl ?_
  assumption

theorem appWatchdogExpiry_within (s : State) : Within none [.mer, .pts, .recd, .sys, .txn] s (appWatchdogExpiry s) := by
  unfold appWatchdogExpiry
  refine .ite ?_ ?_
  · refine Within.after (mpReset_within ..) rfl rfl ?_
    exact .refl _ _ _
  · exact .refl _ _ _

theorem bootExit_within (s : State) : Within (some [5892]) [.mode, .net, .recd, .sys] s (bootExit s) := by
  unfold bootExit
  extract_lets x1 x2 x3
  clear_value x1
  clear_value x2
  clear_value x3
  refine Within.after (enterMode_within ..) rfl rfl ?_
  refine .sys _ rfl ?_
  exact .refl _ _ _

theorem serviceStarts_within (s : State) : Within (some [4171]) [.sys] s (serviceStarts s) := by
  unfold serviceStarts
  extract_lets x1 x2
  clear_value x2
  refine Within.have_ (x := x1) ?_ fun hx1 => ?_
  · unfold x1
    refine .wrBit _ _ _ _ rfl ?_
    exact .refl _ _ _
  clear_value x1
  refine .sys _ rfl ?_
  assumption

theorem startParts_within (s : State) :
    Within none [.ana, .ctl, .fld, .free, .mer, .mot, .net, .pts, .recd, .saf, .turn, .upd] s (startParts s) := by
  unfold startParts
  extract_lets x1 x2 x3
  refine Within.have_ (x := x1) ?_ fun hx1 => ?_
  · unfold x1
    refine Within.after (anaStart_within ..) rfl rfl ?_
    refine Within.after (ctlStart_within ..) rfl rfl ?_
    refine Within.after (turnoverStart_within ..) rfl rfl ?_
    refine Within.after (fieldStart_within ..) rfl rfl ?_
    refine Within.after (ptpRestart_within ..) rfl rfl ?_
    exact .refl _ _ _
  clear_value x1
  refine Within.have_ (x := x2) ?_ fun hx2 => ?_
  · unfold x2
    refine Within.after (prgStart_within ..) rfl rfl ?_
    refine Within.after (islandStart_within ..) rfl rfl ?_
    refine Within.after (motStart_within ..) rfl rfl ?_
    assumption
  clear_value x2
  refine Within.have_ (x := x3) ?_ fun hx3 => ?_
  · unfold x3
    refine Within.after (ptStart_within ..) rfl rfl ?_
    refine Within.after (meteringResumes_within ..) rfl rfl ?_
    assumption
  clear_value x3
  refine .ite ?_ ?_
  · refine Within.after (startProbation_within ..) rfl rfl ?_
    assumption
  · assumption

theorem bootEnd_within (ms : Nat) (s : State) :
    Within none [.ana, .ctl, .fld, .free, .lbs, .lft, .mer, .mode, .mot, .net, .out, .pts, .recd, .saf, .sys, .turn, .txn,
        .upd] s (bootEnd ms s) := by
  unfold bootEnd
  extract_lets x1 x2 x3
  refine Within.have_ (x := x1) ?_ fun hx1 => ?_
  · unfold x1
    refine Within.after (bootExit_within ..) rfl rfl ?_
    refine Within.after (uplinksBoot_within ..) rfl rfl ?_
    refine .wr _ _ _ rfl ?_
    refine Within.after (rollBackAll_within ..) rfl rfl ?_
    exact .refl _ _ _
  clear_value x1
  refine Within.have_ (x := x2) ?_ fun hx2 => ?_
  · unfold x2
    refine Within.after (startParts_within ..) rfl rfl ?_
    refine Within.after (bspResume_within ..) rfl rfl ?_
    refine Within.after (serviceStarts_within ..) rfl rfl ?_
    assumption
  clear_value x2
  refine Within.have_ (x := x3) ?_ fun hx3 => ?_
  · unfold x3
    refine Within.after (startRecord_within ..) rfl rfl ?_
    refine Within.after (anchor_within ..) rfl rfl ?_
    refine Within.after (trendEntries_within ..) rfl rfl ?_
    assumption
  clear_value x3
  refine .ite ?_ ?_
  · refine .ite ?_ ?_
    · refine Within.after (lftSafeHold_within ..) rfl rfl ?_
      refine Within.after (motSafeHold_within ..) rfl rfl ?_
      refine Within.after (ctlSafeHold_within ..) rfl rfl ?_
      assumption
    · assumption
  · exact .refl _ _ _

theorem holdupStoreComplete_within (bad : Bool) (us : Nat) (f : StartFacts) (s : State) :
    Within none [.ana, .ctl, .dram, .flashValid, .fld, .free, .keys, .lbs, .lft, .mer, .mode, .mot, .net, .now, .nrg, .nvs, .prg, .pts,
        .recd, .rtc, .saf, .sys, .trend, .turn, .txn, .upd] s (holdupStoreComplete bad us f s) := by
  unfold holdupStoreComplete
  extract_lets x1
  refine Within.have_ (x := x1) ?_ fun hx1 => ?_
  · unfold x1
    refine Within.after (storeComplete_within ..) rfl rfl ?_
    exact .refl _ _ _
  clear_value x1
  refine .ite ?_ ?_
  · refine .ite ?_ ?_
    · assumption
    · refine .ite ?_ ?_
      · refine Within.after (startUp_within ..) rfl rfl ?_
        assumption
      · refine Within.after (enterMode_within ..) rfl rfl ?_
        refine .wr _ _ _ rfl ?_
        assumption
  · exact .refl _ _ _

theorem mprCommand_within (w : Who) (s : State) :
    Within none [.fld, .free, .keys, .lbs, .mer, .net, .out, .prg, .pts, .recd, .sys, .txn] s (mprCommand w s) := by
  unfold mprCommand
  extract_lets x1
  refine Within.have_ (x := x1) ?_ fun hx1 => ?_
  · unfold x1
    refine .ite ?_ ?_
    · exact .refl _ _ _
    · refine Within.after (writeEntry_within ..) rfl rfl ?_
      exact .refl _ _ _
  clear_value x1
  refine .ite ?_ ?_
  · refine Within.after (mpReset_within ..) rfl rfl ?_
    assumption
  · assumption

theorem mprComplete_within (s : State) : Within (some [4171,6418]) [.lbs, .out, .sys] s (mprComplete s) := by
  unfold mprComplete
  refine .ite ?_ ?_
  · refine Within.after (bspResume_within ..) rfl rfl ?_
    refine Within.after (serviceStarts_within ..) rfl rfl ?_
    exact .refl _ _ _
  · exact .refl _ _ _

theorem powerOnReset_within (f : StartFacts) (s : State) :
    Within none [.ana, .ctl, .dram, .flashValid, .fld, .free, .keys, .lbs, .lft, .mer, .mode, .mot, .net, .now, .nrg, .nvs, .prg, .pts,
        .recd, .rtc, .saf, .sys, .trend, .turn, .txn, .upd] s (powerOnReset f s) := by
  unfold powerOnReset
  refine .ite ?_ ?_
  · exact .refl _ _ _
  · refine Within.after (startUp_within ..) rfl rfl ?_
    exact .refl _ _ _

theorem softwareReset_within (w : Who) (f : StartFacts) (s : State) :
    Within none [.ana, .ctl, .dram, .flashValid, .fld, .free, .keys, .lbs, .lft, .mer, .mode, .mot, .net, .now, .nrg, .nvs, .out, .prg,
        .pts, .recd, .rtc, .saf, .sys, .trend, .turn, .txn, .upd] s (softwareReset w f s) := by
  unfold softwareReset
  extract_lets x1
  refine Within.have_ (x := x1) ?_ fun hx1 => ?_
  · unfold x1
    refine .ite ?_ ?_
    · exact .refl _ _ _
    · refine Within.after (writeEntry_within ..) rfl rfl ?_
      exact .refl _ _ _
  clear_value x1
  refine .ite ?_ ?_
  · refine Within.after (startUp_within ..) rfl rfl ?_
    assumption
  · assumption

theorem thenWake_within (x : Option (Nat × Nat × StartFacts)) (s : State) :
    Within none [.ana, .ctl, .dram, .flashValid, .fld, .free, .keys, .lbs, .lft, .mer, .mode, .mot, .net, .now, .nrg, .nvs, .prg, .pts,
        .recd, .rtc, .saf, .sys, .trend, .turn, .txn, .upd] s (thenWake x s) := by
  unfold thenWake
  split
  · refine Within.after (startUp_within ..) rfl rfl ?_
    exact .refl _ _ _
  · exact .refl _ _ _

theorem standbyEntryComplete_within (us : Nat) (s : State) :
    Within none [.ana, .ctl, .dram, .flashValid, .fld, .free, .keys, .lbs, .lft, .mer, .mode, .mot, .net, .now, .nrg, .nvs, .out, .prg,
        .pts, .recd, .rtc, .saf, .sys, .trend, .turn, .txn, .upd] s (standbyEntryComplete us s) := by
  unfold standbyEntryComplete
  split
  · rename_i r1 r2 r3
    refine Within.after (thenWake_within ..) rfl rfl ?_
    refine Within.after (standbyStored_within (h := r3)) rfl rfl ?_
    exact .refl _ _ _
  · exact .refl _ _ _

theorem storeReleased_within (bad : Bool) (us : Nat) (s : State) :
    Within none [.ana, .ctl, .dram, .flashValid, .fld, .free, .keys, .lbs, .lft, .mer, .mode, .mot, .net, .now, .nrg, .nvs, .out, .prg,
        .pts, .recd, .rtc, .saf, .sys, .trend, .turn, .txn, .upd] s (storeReleased bad us s) := by
  unfold storeReleased
  refine .ite ?_ (.refl _ _ _)
  split
  · rename_i t h
    split at h
    · cases h
    · exact Within.after (thenWake_within ..) rfl rfl ((standbyStored_within (h := h)).mono rfl rfl)
  · exact .ite ((storeComplete_within ..).mono rfl rfl)
      (Within.after (settle_within ..) rfl rfl (Within.after (serveAllHeld_within ..) rfl rfl ((storeComplete_within ..).mono rfl rfl)))

theorem wakePatternMatch_within (u : Nat) (frame : List Nat) (fcsOk : Bool) (f : StartFacts) (s : State) :
    Within none [.ana, .ctl, .dram, .flashValid, .fld, .free, .keys, .lbs, .lft, .mer, .mode, .mot, .net, .now, .nrg, .nvs, .prg, .pts,
        .recd, .rtc, .saf, .sys, .trend, .turn, .txn, .upd] s (wakePatternMatch u frame fcsOk f s) := by
  unfold wakePatternMatch
  refine .ite ?_ ?_
  · split
    · refine Within.after (startUp_within ..) rfl rfl ?_
      exact .refl _ _ _
    · exact .refl _ _ _
  · exact .refl _ _ _

theorem wakeUp_within (bits : Nat) (hit : Nat) (f : StartFacts) (s : State) :
    Within none [.ana, .ctl, .dram, .flashValid, .fld, .free, .keys, .lbs, .lft, .mer, .mode, .mot, .net, .now, .nrg, .nvs, .prg, .pts,
        .recd, .rtc, .saf, .sys, .trend, .turn, .txn, .upd] s (wakeUp bits hit f s) := by
  unfold wakeUp
  extract_lets x1
  clear_value x1
  refine .ite ?_ ?_
  · refine Within.after (startUp_within ..) rfl rfl ?_
    exact .refl _ _ _
  · refine .ite ?_ ?_
    · refine .sys _ rfl ?_
      exact .refl _ _ _
    · exact .refl _ _ _

theorem wakePin_within (f : StartFacts) (s : State) :
    Within none [.ana, .ctl, .dram, .flashValid, .fld, .free, .keys, .lbs, .lft, .mer, .mode, .mot, .net, .now, .nrg, .nvs, .prg, .pts,
        .recd, .rtc, .saf, .sys, .trend, .turn, .txn, .upd] s (wakePin f s) := by
  unfold wakePin
  refine .ite ?_ ?_
  · refine Within.after (wakeUp_within ..) rfl rfl ?_
    exact .refl _ _ _
  · exact .refl _ _ _

theorem wakeTimed_within (f : StartFacts) (s : State) :
    Within none [.ana, .ctl, .dram, .flashValid, .fld, .free, .keys, .lbs, .lft, .mer, .mode, .mot, .net, .now, .nrg, .nvs, .prg, .pts,
        .recd, .rtc, .saf, .sys, .trend, .turn, .txn, .upd] s (wakeTimed f s) := by
  unfold wakeTimed
  extract_lets x1
  clear_value x1
  refine .ite ?_ ?_
  · refine Within.after (wakeUp_within ..) rfl rfl ?_
    exact .refl _ _ _
  · exact .refl _ _ _

theorem watchdogReset_within (f : StartFacts) (s : State) :
    Within none [.ana, .ctl, .dram, .flashValid, .fld, .free, .keys, .lbs, .lft, .mer, .mode, .mot, .net, .now, .nrg, .nvs, .prg, .pts,
        .recd, .rtc, .saf, .sys, .trend, .turn, .txn, .upd] s (watchdogReset f s) := by
  unfold watchdogReset
  refine .ite ?_ ?_
  · refine Within.after (startUp_within ..) rfl rfl ?_
    exact .refl _ _ _
  · exact .refl _ _ _

end Sys2Proof.Laws
end

