-- ==== Sys2Proof/Laws/FrameTick.lean ====
section
/-!
SUPPORT. What each operation of the commit tick may change: entries by their indices and parts of the state by name. Meanings and claims
about frames cite these and unfold nothing.
-/
namespace Sys2Proof.Laws

open Sys2Proof Sys2Proof.Machine Sys2Proof.Safety

theorem heldAfterTick_within (s : State) :
    Within (some [4118,4169,4373,4629,5130,5136,5144,5145,5146,5147,5633,5892,6218]) [.fld, .free, .keys, .lbs, .mer, .net, .out, .prg,
        .recd, .sys, .txn] s (heldAfterTick s) := by
  unfold heldAfterTick
  refine .ite ?_ ?_
  · refine Within.after (serveAllHeld_within ..) rfl rfl ?_
    exact .refl _ _ _
  · exact .refl _ _ _

theorem tickTime_within (s : State) : Within (some []) [.net, .now] s (tickTime s) := by
  unfold tickTime
  extract_lets x1
  clear_value x1
  refine .now_net _ _ rfl rfl ?_
  exact .refl _ _ _

theorem outputPut_within (s : State) (w : ElemW) :
    Within none [.ana, .ctl, .flashValid, .fld, .lbs, .lft, .mer, .mode, .mot, .net, .nextXfer, .nrg, .nvs, .out, .prg, .pts, .recd, .rtc,
        .saf, .sys, .turn, .upd] s (outputPut s w) := by
  unfold outputPut
  refine Within.after (committed_within ..) rfl rfl ?_
  refine Within.after (applyElem_within ..) rfl rfl ?_
  exact .refl _ _ _

theorem tickWork_within (s : State) :
    Within none [.ana, .ctl, .flashValid, .fld, .free, .keys, .lbs, .lft, .mer, .mode, .mot, .net, .nextXfer, .nrg, .nvs, .out, .prg,
        .pts, .recd, .rtc, .saf, .sys, .turn, .txn, .upd] s (tickWork s) := by
  unfold tickWork
  extract_lets s1 s2 s3
  have h1 : Within none [.ana, .ctl, .flashValid, .fld, .free, .keys, .lbs, .lft, .mer, .mode, .mot, .net, .nextXfer, .nrg, .nvs, .out,
      .prg, .pts, .recd, .rtc, .saf, .sys, .turn, .txn, .upd] s s1 := by
    unfold s1
    split
    · exact .ite ((replay_within ..).mono rfl rfl) (.refl _ _ _)
    · exact .refl _ _ _
  clear_value s1
  have h2 : Within none [.ana, .ctl, .flashValid, .fld, .free, .keys, .lbs, .lft, .mer, .mode, .mot, .net, .nextXfer, .nrg, .nvs, .out,
      .prg, .pts, .recd, .rtc, .saf, .sys, .turn, .txn,
      .upd] s s2 := .ite (Within.after (beginDue_within ..) rfl rfl (.foldl (fun t x => (tickRecord_within ..).mono rfl rfl) _ h1)) h1
  have h3 : Within none [.ana, .ctl, .flashValid, .fld, .free, .keys, .lbs, .lft, .mer, .mode, .mot, .net, .nextXfer, .nrg, .nvs, .out,
      .prg, .pts, .recd, .rtc, .saf, .sys, .turn, .txn, .upd] s s3 := .ite (Within.after (leaveSafeHold_within ..) rfl rfl h2) h2
  refine Within.after (ptTransfers_within ..) rfl rfl (Within.after (prgFollow_within ..) rfl rfl (h3.trans ?_))
  exact applyOutputs_within rfl _ _ (fun u x => (outputPut_within ..).mono rfl rfl) _

theorem commitTick_within (s : State) :
    Within none [.ana, .ctl, .flashValid, .fld, .free, .keys, .lbs, .lft, .mer, .mode, .mot, .net, .nextXfer, .now, .nrg, .nvs, .out,
        .prg, .pts, .recd, .rtc, .saf, .sys, .turn, .txn, .upd] s (commitTick s) := by
  unfold commitTick
  extract_lets x1 x2
  refine Within.have_ (x := x1) ?_ fun hx1 => ?_
  · unfold x1
    refine Within.after (tickTime_within ..) rfl rfl ?_
    exact .refl _ _ _
  clear_value x1
  refine Within.have_ (x := x2) ?_ fun hx2 => ?_
  · unfold x2
    refine .ite ?_ ?_
    · refine Within.after (heldAfterTick_within ..) rfl rfl ?_
      refine Within.after (settle_within ..) rfl rfl ?_
      refine Within.after (tickWork_within ..) rfl rfl ?_
      refine Within.after (turnoverTick_within ..) rfl rfl ?_
      assumption
    · assumption
  clear_value x2
  refine .ite ?_ ?_
  · refine Within.after (holdIfTripped_within ..) rfl rfl ?_
    refine Within.after (settle_within ..) rfl rfl ?_
    refine Within.after (probationTick_within ..) rfl rfl ?_
    refine Within.after (timebaseSecond_within ..) rfl rfl ?_
    refine Within.after (fieldTick_within ..) rfl rfl ?_
    assumption
  · exact .refl _ _ _

theorem covNotify_within (s : State) (c : CovSub) : Within (some [4373,4629]) [.fld, .net, .out] s (covNotify s c) := by
  unfold covNotify
  refine Within.after (bacSend_within ..) rfl rfl ?_
  exact .refl _ _ _

theorem covScan_within (s : State) (c : CovSub) : Within (some [4373,4629]) [.fld, .net, .out, .pts] s (covScan s c) := by
  unfold covScan
  split
  · exact .refl _ _ _
  · extract_lets x1 x2 x3 x4
    clear_value x1
    clear_value x2
    clear_value x3
    clear_value x4
    refine .ite ?_ ?_
    · refine Within.after (covNotify_within ..) rfl rfl ?_
      refine .pts _ rfl ?_
      exact .refl _ _ _
    · exact .refl _ _ _

theorem pointScan_within (s : State) :
    Within none [.ana, .ctl, .flashValid, .fld, .lbs, .lft, .mer, .mode, .mot, .net, .nextXfer, .nrg, .nvs, .out, .prg, .pts, .recd, .rtc,
        .saf, .sys, .turn, .upd] s (pointScan s) := by
  unfold pointScan
  extract_lets x1 x2
  refine Within.have_ (x := x1) ?_ fun hx1 => ?_
  · unfold x1
    refine .foldl (fun t3 x4 => ?_) _ ?_
    · refine .ite ?_ ?_
      · refine Within.after (ptRefresh_within ..) rfl rfl ?_
        exact .refl _ _ _
      · exact .refl _ _ _
    · exact .refl _ _ _
  clear_value x1
  refine Within.have_ (x := x2) ?_ fun hx2 => ?_
  · unfold x2
    refine .foldl (fun t5 x6 => ?_) _ ?_
    · refine Within.after (ptTransfer_within ..) rfl rfl ?_
      exact .refl _ _ _
    · assumption
  clear_value x2
  refine .ite ?_ ?_
  · refine .ite ?_ ?_
    · refine .foldl (fun t7 x8 => ?_) _ ?_
      · refine Within.after (covScan_within ..) rfl rfl ?_
        exact .refl _ _ _
      · assumption
    · assumption
  · exact .refl _ _ _

end Sys2Proof.Laws
end

