-- ==== Sys2Proof/Laws/FrameCop.lean ====
section
/-!
SUPPORT. What each operation of datagrams may change: entries by their indices and parts of the state by name. Meanings and claims
about frames cite these and unfold nothing.
-/
namespace Sys2Proof.Laws

open Sys2Proof Sys2Proof.Machine Sys2Proof.Safety

theorem copDatagramRx_within (rx : RxInfo) (bytes : List Nat) (s : State) :
    Within (some [4118,4169,4230,4231,4232,4373,4629,4870,5130,5136,5144,5145,5146,5147,5633,5892,6218]) [.fld, .free, .keys, .lbs, .mer,
        .net, .out, .prg, .recd, .sys, .txn] s (copDatagramRx rx bytes s) := by
  unfold copDatagramRx
  refine .ite ?_ ?_
  · exact .refl _ _ _
  · split
    · refine .count _ _ _ rfl ?_
      exact .refl _ _ _
    · split
      · refine .count _ _ _ rfl ?_
        exact .refl _ _ _
      · extract_lets x1 x2
        clear_value x2
        refine Within.have_ (x := x1) ?_ fun hx1 => ?_
        · unfold x1
          refine .count _ _ _ rfl ?_
          exact .refl _ _ _
        clear_value x1
        refine .ite ?_ ?_
        · refine Within.after (respond_within ..) rfl rfl ?_
          assumption
        · refine .ite ?_ ?_
          · refine Within.after (respond_within ..) rfl rfl ?_
            refine .count _ _ _ rfl ?_
            assumption
          · refine Within.after (serve_within ..) rfl rfl ?_
            assumption

end Sys2Proof.Laws
end

