-- ==== Sys2Proof/Laws/FrameBacnet.lean ====
section
/-!
SUPPORT. What each operation of BACnet may change: entries by their indices and parts of the state by name. Meanings and claims
about frames cite these and unfold nothing.
-/
namespace Sys2Proof.Laws

open Sys2Proof Sys2Proof.Machine Sys2Proof.Safety

theorem bacCounted_within (rx : RxInfo) (s : State) : Within (some [4230,4870]) [] s (bacCounted rx s) := by
  unfold bacCounted
  refine .ite ?_ ?_
  · refine Within.after (countClassified_within ..) rfl rfl ?_
    exact .refl _ _ _
  · exact .refl _ _ _

theorem bacIHaveSend_within (s : State) (o : Source) (port : Nat) (objType : Nat) (inst : Nat) (name : List Nat) :
    Within (some [4373,4629]) [.fld, .net, .out] s (bacIHaveSend s o port objType inst name) := by
  unfold bacIHaveSend
  refine Within.after (bacSend_within ..) rfl rfl ?_
  exact .refl _ _ _

theorem bacRead_within (s : State) (port : Nat) (objType : Nat) (inst : Nat) (prop : Nat) :
    Within (some []) [.free] s (bacRead s port objType inst prop).1 := by
  unfold bacRead
  split
  · split
    · dsimp only
      exact .refl _ _ _
    · split
      · dsimp only
        exact .refl _ _ _
      · split
        · dsimp only
          exact .refl _ _ _
        · dsimp only
          refine Within.after (State_tookFree_within ..) rfl rfl ?_
          exact .refl _ _ _
  · split
    · dsimp only
      exact .refl _ _ _
    · split
      · dsimp only
        exact .refl _ _ _
      · split
        · dsimp only
          exact .refl _ _ _
        · dsimp only
          exact .refl _ _ _

theorem bacReadAll_within (port : Nat) (a2 : List (Nat × Nat × Nat)) (a3 : State) : Within (some []) [.free] a3 (bacReadAll port a2 a3).1
    := by
  induction a2 generalizing a3 with
  | nil => exact .refl _ _ _
  | cons p ps ih => exact ((bacRead_within ..).mono rfl rfl).trans (ih _)

theorem bacnetCovExpiry_within (client : Nat) (process : Nat) (objType : Nat) (inst : Nat) (s : State) :
    Within (some []) [.pts] s (bacnetCovExpiry client process objType inst s) := by
  unfold bacnetCovExpiry
  extract_lets x1
  clear_value x1
  refine .pts _ rfl ?_
  exact .refl _ _ _

theorem bacnetFdRegistration_within (s : State) : Within (some [4373]) [.net, .out] s (bacnetFdRegistration s) := by
  unfold bacnetFdRegistration
  extract_lets x1
  clear_value x1
  refine .ite ?_ ?_
  · refine Within.after (hostDatagram_within ..) rfl rfl ?_
    exact .refl _ _ _
  · exact .refl _ _ _

theorem bacnetReadProperty_within (rx : RxInfo) (props : List (Nat × Nat × Nat)) (s : State) :
    Within (some [4230,4373,4629,4870]) [.fld, .free, .net, .out] s (bacnetReadProperty rx props s) := by
  unfold bacnetReadProperty
  extract_lets x1
  refine Within.have_ (x := x1) ?_ fun hx1 => ?_
  · unfold x1
    refine Within.after (bacCounted_within ..) rfl rfl ?_
    exact .refl _ _ _
  clear_value x1
  split
  · assumption
  · extract_lets x2 x3
    clear_value x3
    refine Within.have_ (x := x2.1) ?_ fun hx2 => ?_
    · unfold x2
      refine Within.after (bacReadAll_within ..) rfl rfl ?_
      assumption
    clear_value x2
    refine .ite ?_ ?_
    · refine Within.after (bacSend_within ..) rfl rfl ?_
      assumption
    · refine Within.after (bacSend_within ..) rfl rfl ?_
      assumption

theorem covSubscribe_within (s : State) (o : Source) (port : Nat) (client : Nat) (process : Nat) (objType : Nat) (inst : Nat) (n : Nat)
    (confirmed : Bool) (lifetime : Nat) :
    Within (some [4373,4629]) [.fld, .net, .out, .pts] s (covSubscribe s o port client process objType inst n confirmed lifetime) := by
  unfold covSubscribe
  extract_lets x1 x2 x3
  clear_value x1
  clear_value x2
  clear_value x3
  refine .ite ?_ ?_
  · refine Within.after (bacSend_within ..) rfl rfl ?_
    exact .refl _ _ _
  · refine .ite ?_ ?_
    · refine Within.after (bacSend_within ..) rfl rfl ?_
      exact .refl _ _ _
    · refine .ite ?_ ?_
      · refine Within.after (bacSend_within ..) rfl rfl ?_
        exact .refl _ _ _
      · refine Within.after (covNotify_within ..) rfl rfl ?_
        refine Within.after (bacSend_within ..) rfl rfl ?_
        refine .pts _ rfl ?_
        exact .refl _ _ _

theorem bacnetSubscribeCov_within (rx : RxInfo) (client : Nat) (process : Nat) (objType : Nat) (inst : Nat) (terms : Option (Bool × Nat))
    (s : State) :
    Within (some [4230,4373,4629,4870]) [.fld, .net, .out, .pts] s (bacnetSubscribeCov rx client process objType inst terms s) := by
  unfold bacnetSubscribeCov
  extract_lets x1 x2 x3
  clear_value x2
  clear_value x3
  refine Within.have_ (x := x1) ?_ fun hx1 => ?_
  · unfold x1
    refine Within.after (bacCounted_within ..) rfl rfl ?_
    exact .refl _ _ _
  clear_value x1
  split
  · assumption
  · split
    · refine Within.after (bacSend_within ..) rfl rfl ?_
      assumption
    · refine Within.after (bacSend_within ..) rfl rfl ?_
      refine .pts _ rfl ?_
      assumption
    · refine Within.after (covSubscribe_within ..) rfl rfl ?_
      assumption

theorem bacnetUnsupportedService_within (rx : RxInfo) (confirmed : Bool) (invoke : Nat) (s : State) :
    Within (some [4230,4373,4629,4870]) [.fld, .net, .out] s (bacnetUnsupportedService rx confirmed invoke s) := by
  unfold bacnetUnsupportedService
  extract_lets x1
  refine Within.have_ (x := x1) ?_ fun hx1 => ?_
  · unfold x1
    refine Within.after (bacCounted_within ..) rfl rfl ?_
    exact .refl _ _ _
  clear_value x1
  split
  · assumption
  · refine .ite ?_ ?_
    · refine Within.after (bacSend_within ..) rfl rfl ?_
      assumption
    · assumption

theorem bacnetWhoHas_within (rx : RxInfo) (range : Option (Nat × Nat)) (what : BacHas) (s : State) :
    Within (some [4230,4373,4629,4870]) [.fld, .net, .out] s (bacnetWhoHas rx range what s) := by
  unfold bacnetWhoHas
  extract_lets x1
  refine Within.have_ (x := x1) ?_ fun hx1 => ?_
  · unfold x1
    refine Within.after (bacCounted_within ..) rfl rfl ?_
    exact .refl _ _ _
  clear_value x1
  split
  · assumption
  · split
    · assumption
    · extract_lets x2
      clear_value x2
      refine .ite ?_ ?_
      · refine Within.after (bacIHaveSend_within ..) rfl rfl ?_
        assumption
      · assumption

theorem bacnetWhoIs_within (rx : RxInfo) (lo : Nat) (hi : Nat) (s : State) :
    Within (some [4230,4373,4629,4870]) [.fld, .net, .out] s (bacnetWhoIs rx lo hi s) := by
  unfold bacnetWhoIs
  extract_lets x1 x2 x3
  clear_value x1
  clear_value x3
  refine Within.have_ (x := x2) ?_ fun hx2 => ?_
  · unfold x2
    refine Within.after (bacCounted_within ..) rfl rfl ?_
    exact .refl _ _ _
  clear_value x2
  split
  · assumption
  · refine .ite ?_ ?_
    · refine Within.after (bacSend_within ..) rfl rfl ?_
      assumption
    · assumption

theorem bacnetWriteProperty_within (rx : RxInfo) (rs : List BacWrite) (s : State) :
    Within (some [4118,4169,4230,4373,4629,4870,5136,5144,5633,6218]) [.fld, .free, .keys, .lbs, .mer, .net, .out, .prg, .recd, .sys,
        .txn] s (bacnetWriteProperty rx rs s) := by
  unfold bacnetWriteProperty
  extract_lets x1
  refine Within.have_ (x := x1) ?_ fun hx1 => ?_
  · unfold x1
    refine Within.after (bacCounted_within ..) rfl rfl ?_
    exact .refl _ _ _
  clear_value x1
  split
  · assumption
  · split
    · refine Within.after (bacSend_within ..) rfl rfl ?_
      assumption
    · refine Within.after (writeRequest_within ..) rfl rfl ?_
      assumption

end Sys2Proof.Laws
end

