-- ==== Sys2Proof/Laws/State.lean ====
section
/-!
SUPPORT. The small lemmas of the state's updates: a write of an entry changes the store and no other field; a free value and something
sent change their own field.
-/
namespace Sys2Proof.Laws

open Sys2Proof.Machine

/-- A committed value, from the two fields it depends on. -/
def rdIn (v : Variant) (od : List Cell) (i e : Nat) : Nat :=
  match odGet i e od with
  | some x => x
  | none => dfltOf v i e

/-- The store after a write. -/
def odWr (v : Variant) (od : List Cell) (i x e : Nat) : List Cell := odPut (dfltOf v i e) i e (x % 2 ^ widthOf i) od

theorem rd_eq (s : State) (i e : Nat) : s.rd i e = rdIn s.variant s.od i e := rfl
@[simp] theorem wr_od (s : State) (i v e : Nat) : (s.wr i v e).od = odWr s.variant s.od i v e := rfl
theorem count_eq (s : State) (i e n : Nat) : s.count i e n =
    s.wr i (if s.rd i e + n < 2 ^ widthOf i then s.rd i e + n else Config.counterOverflow i e) e := rfl
theorem countSat_eq (s : State) (i e : Nat) : s.countSat i e =
    s.wr i (if s.rd i e + 1 < 2 ^ widthOf i then s.rd i e + 1 else 2 ^ widthOf i - 1) e := rfl
theorem countMod_eq (s : State) (i e : Nat) : s.countMod i e = s.wr i (s.rd i e + 1) e := rfl
theorem wrBit_eq (s : State) (i b : Nat) (on : Bool) (e : Nat) : s.wrBit i b on e = s.wr i (putBit (s.rd i e) b on) e := rfl
theorem wrInt_eq (s : State) (i : Nat) (v : Int) (e : Nat) : s.wrInt i v e = s.wr i (ofInt (widthOf i) v) e := rfl
theorem wrQ_eq (s : State) (i : Nat) (q : Frac) (e : Nat) : s.wrQ i q e = s.wr i (qf32 q) e := rfl
theorem toDefault_eq (s : State) (i e : Nat) : s.toDefault i e = s.wr i (dfltOf s.variant i e) e := rfl

/-! ## What each update leaves, field by field -/

variable (s : State) (i v e n b : Nat) (on : Bool) (z : Int) (q : Frac) (x : Out)

@[simp] theorem wr_variant : (s.wr i v e).variant = s.variant := rfl
@[simp] theorem toDefault_variant : (s.toDefault i e).variant = s.variant := rfl
@[simp] theorem count_variant : (s.count i e n).variant = s.variant := rfl
@[simp] theorem countSat_variant : (s.countSat i e).variant = s.variant := rfl
@[simp] theorem countMod_variant : (s.countMod i e).variant = s.variant := rfl
@[simp] theorem wrBit_variant : (s.wrBit i b on e).variant = s.variant := rfl
@[simp] theorem wrInt_variant : (s.wrInt i z e).variant = s.variant := rfl
@[simp] theorem wrQ_variant : (s.wrQ i q e).variant = s.variant := rfl
@[simp] theorem tookFree_variant : (s.tookFree n).variant = s.variant := rfl
@[simp] theorem send_variant : (s.send x).variant = s.variant := rfl

@[simp] theorem wr_pending : (s.wr i v e).pending = s.pending := rfl
@[simp] theorem toDefault_pending : (s.toDefault i e).pending = s.pending := rfl
@[simp] theorem count_pending : (s.count i e n).pending = s.pending := rfl
@[simp] theorem countSat_pending : (s.countSat i e).pending = s.pending := rfl
@[simp] theorem countMod_pending : (s.countMod i e).pending = s.pending := rfl
@[simp] theorem wrBit_pending : (s.wrBit i b on e).pending = s.pending := rfl
@[simp] theorem wrInt_pending : (s.wrInt i z e).pending = s.pending := rfl
@[simp] theorem wrQ_pending : (s.wrQ i q e).pending = s.pending := rfl
@[simp] theorem tookFree_pending : (s.tookFree n).pending = s.pending := rfl
@[simp] theorem send_pending : (s.send x).pending = s.pending := rfl

@[simp] theorem wr_free : (s.wr i v e).free = s.free := rfl
@[simp] theorem toDefault_free : (s.toDefault i e).free = s.free := rfl
@[simp] theorem count_free : (s.count i e n).free = s.free := rfl
@[simp] theorem countSat_free : (s.countSat i e).free = s.free := rfl
@[simp] theorem countMod_free : (s.countMod i e).free = s.free := rfl
@[simp] theorem wrBit_free : (s.wrBit i b on e).free = s.free := rfl
@[simp] theorem wrInt_free : (s.wrInt i z e).free = s.free := rfl
@[simp] theorem wrQ_free : (s.wrQ i q e).free = s.free := rfl
@[simp] theorem tookFree_free : (s.tookFree n).free = s.free + n := rfl
@[simp] theorem send_free : (s.send x).free = s.free := rfl

@[simp] theorem wr_mode : (s.wr i v e).mode = s.mode := rfl
@[simp] theorem toDefault_mode : (s.toDefault i e).mode = s.mode := rfl
@[simp] theorem count_mode : (s.count i e n).mode = s.mode := rfl
@[simp] theorem countSat_mode : (s.countSat i e).mode = s.mode := rfl
@[simp] theorem countMod_mode : (s.countMod i e).mode = s.mode := rfl
@[simp] theorem wrBit_mode : (s.wrBit i b on e).mode = s.mode := rfl
@[simp] theorem wrInt_mode : (s.wrInt i z e).mode = s.mode := rfl
@[simp] theorem wrQ_mode : (s.wrQ i q e).mode = s.mode := rfl
@[simp] theorem tookFree_mode : (s.tookFree n).mode = s.mode := rfl
@[simp] theorem send_mode : (s.send x).mode = s.mode := rfl

@[simp] theorem wr_now : (s.wr i v e).now = s.now := rfl
@[simp] theorem toDefault_now : (s.toDefault i e).now = s.now := rfl
@[simp] theorem count_now : (s.count i e n).now = s.now := rfl
@[simp] theorem countSat_now : (s.countSat i e).now = s.now := rfl
@[simp] theorem countMod_now : (s.countMod i e).now = s.now := rfl
@[simp] theorem wrBit_now : (s.wrBit i b on e).now = s.now := rfl
@[simp] theorem wrInt_now : (s.wrInt i z e).now = s.now := rfl
@[simp] theorem wrQ_now : (s.wrQ i q e).now = s.now := rfl
@[simp] theorem tookFree_now : (s.tookFree n).now = s.now := rfl
@[simp] theorem send_now : (s.send x).now = s.now := rfl

@[simp] theorem wr_crystal : (s.wr i v e).crystal = s.crystal := rfl
@[simp] theorem toDefault_crystal : (s.toDefault i e).crystal = s.crystal := rfl
@[simp] theorem count_crystal : (s.count i e n).crystal = s.crystal := rfl
@[simp] theorem countSat_crystal : (s.countSat i e).crystal = s.crystal := rfl
@[simp] theorem countMod_crystal : (s.countMod i e).crystal = s.crystal := rfl
@[simp] theorem wrBit_crystal : (s.wrBit i b on e).crystal = s.crystal := rfl
@[simp] theorem wrInt_crystal : (s.wrInt i z e).crystal = s.crystal := rfl
@[simp] theorem wrQ_crystal : (s.wrQ i q e).crystal = s.crystal := rfl
@[simp] theorem tookFree_crystal : (s.tookFree n).crystal = s.crystal := rfl
@[simp] theorem send_crystal : (s.send x).crystal = s.crystal := rfl

@[simp] theorem wr_flashValid : (s.wr i v e).flashValid = s.flashValid := rfl
@[simp] theorem toDefault_flashValid : (s.toDefault i e).flashValid = s.flashValid := rfl
@[simp] theorem count_flashValid : (s.count i e n).flashValid = s.flashValid := rfl
@[simp] theorem countSat_flashValid : (s.countSat i e).flashValid = s.flashValid := rfl
@[simp] theorem countMod_flashValid : (s.countMod i e).flashValid = s.flashValid := rfl
@[simp] theorem wrBit_flashValid : (s.wrBit i b on e).flashValid = s.flashValid := rfl
@[simp] theorem wrInt_flashValid : (s.wrInt i z e).flashValid = s.flashValid := rfl
@[simp] theorem wrQ_flashValid : (s.wrQ i q e).flashValid = s.flashValid := rfl
@[simp] theorem tookFree_flashValid : (s.tookFree n).flashValid = s.flashValid := rfl
@[simp] theorem send_flashValid : (s.send x).flashValid = s.flashValid := rfl

@[simp] theorem wr_out : (s.wr i v e).out = s.out := rfl
@[simp] theorem toDefault_out : (s.toDefault i e).out = s.out := rfl
@[simp] theorem count_out : (s.count i e n).out = s.out := rfl
@[simp] theorem countSat_out : (s.countSat i e).out = s.out := rfl
@[simp] theorem countMod_out : (s.countMod i e).out = s.out := rfl
@[simp] theorem wrBit_out : (s.wrBit i b on e).out = s.out := rfl
@[simp] theorem wrInt_out : (s.wrInt i z e).out = s.out := rfl
@[simp] theorem wrQ_out : (s.wrQ i q e).out = s.out := rfl
@[simp] theorem tookFree_out : (s.tookFree n).out = s.out := rfl
@[simp] theorem send_out : (s.send x).out = x :: s.out := rfl

@[simp] theorem wr_mer : (s.wr i v e).mer = s.mer := rfl
@[simp] theorem toDefault_mer : (s.toDefault i e).mer = s.mer := rfl
@[simp] theorem count_mer : (s.count i e n).mer = s.mer := rfl
@[simp] theorem countSat_mer : (s.countSat i e).mer = s.mer := rfl
@[simp] theorem countMod_mer : (s.countMod i e).mer = s.mer := rfl
@[simp] theorem wrBit_mer : (s.wrBit i b on e).mer = s.mer := rfl
@[simp] theorem wrInt_mer : (s.wrInt i z e).mer = s.mer := rfl
@[simp] theorem wrQ_mer : (s.wrQ i q e).mer = s.mer := rfl
@[simp] theorem tookFree_mer : (s.tookFree n).mer = s.mer := rfl
@[simp] theorem send_mer : (s.send x).mer = s.mer := rfl

@[simp] theorem wr_sys : (s.wr i v e).sys = s.sys := rfl
@[simp] theorem toDefault_sys : (s.toDefault i e).sys = s.sys := rfl
@[simp] theorem count_sys : (s.count i e n).sys = s.sys := rfl
@[simp] theorem countSat_sys : (s.countSat i e).sys = s.sys := rfl
@[simp] theorem countMod_sys : (s.countMod i e).sys = s.sys := rfl
@[simp] theorem wrBit_sys : (s.wrBit i b on e).sys = s.sys := rfl
@[simp] theorem wrInt_sys : (s.wrInt i z e).sys = s.sys := rfl
@[simp] theorem wrQ_sys : (s.wrQ i q e).sys = s.sys := rfl
@[simp] theorem tookFree_sys : (s.tookFree n).sys = s.sys := rfl
@[simp] theorem send_sys : (s.send x).sys = s.sys := rfl

@[simp] theorem wr_txn : (s.wr i v e).txn = s.txn := rfl
@[simp] theorem toDefault_txn : (s.toDefault i e).txn = s.txn := rfl
@[simp] theorem count_txn : (s.count i e n).txn = s.txn := rfl
@[simp] theorem countSat_txn : (s.countSat i e).txn = s.txn := rfl
@[simp] theorem countMod_txn : (s.countMod i e).txn = s.txn := rfl
@[simp] theorem wrBit_txn : (s.wrBit i b on e).txn = s.txn := rfl
@[simp] theorem wrInt_txn : (s.wrInt i z e).txn = s.txn := rfl
@[simp] theorem wrQ_txn : (s.wrQ i q e).txn = s.txn := rfl
@[simp] theorem tookFree_txn : (s.tookFree n).txn = s.txn := rfl
@[simp] theorem send_txn : (s.send x).txn = s.txn := rfl

@[simp] theorem wr_nvs : (s.wr i v e).nvs = s.nvs := rfl
@[simp] theorem toDefault_nvs : (s.toDefault i e).nvs = s.nvs := rfl
@[simp] theorem count_nvs : (s.count i e n).nvs = s.nvs := rfl
@[simp] theorem countSat_nvs : (s.countSat i e).nvs = s.nvs := rfl
@[simp] theorem countMod_nvs : (s.countMod i e).nvs = s.nvs := rfl
@[simp] theorem wrBit_nvs : (s.wrBit i b on e).nvs = s.nvs := rfl
@[simp] theorem wrInt_nvs : (s.wrInt i z e).nvs = s.nvs := rfl
@[simp] theorem wrQ_nvs : (s.wrQ i q e).nvs = s.nvs := rfl
@[simp] theorem tookFree_nvs : (s.tookFree n).nvs = s.nvs := rfl
@[simp] theorem send_nvs : (s.send x).nvs = s.nvs := rfl

@[simp] theorem wr_recd : (s.wr i v e).recd = s.recd := rfl
@[simp] theorem toDefault_recd : (s.toDefault i e).recd = s.recd := rfl
@[simp] theorem count_recd : (s.count i e n).recd = s.recd := rfl
@[simp] theorem countSat_recd : (s.countSat i e).recd = s.recd := rfl
@[simp] theorem countMod_recd : (s.countMod i e).recd = s.recd := rfl
@[simp] theorem wrBit_recd : (s.wrBit i b on e).recd = s.recd := rfl
@[simp] theorem wrInt_recd : (s.wrInt i z e).recd = s.recd := rfl
@[simp] theorem wrQ_recd : (s.wrQ i q e).recd = s.recd := rfl
@[simp] theorem tookFree_recd : (s.tookFree n).recd = s.recd := rfl
@[simp] theorem send_recd : (s.send x).recd = s.recd := rfl

@[simp] theorem wr_rtc : (s.wr i v e).rtc = s.rtc := rfl
@[simp] theorem toDefault_rtc : (s.toDefault i e).rtc = s.rtc := rfl
@[simp] theorem count_rtc : (s.count i e n).rtc = s.rtc := rfl
@[simp] theorem countSat_rtc : (s.countSat i e).rtc = s.rtc := rfl
@[simp] theorem countMod_rtc : (s.countMod i e).rtc = s.rtc := rfl
@[simp] theorem wrBit_rtc : (s.wrBit i b on e).rtc = s.rtc := rfl
@[simp] theorem wrInt_rtc : (s.wrInt i z e).rtc = s.rtc := rfl
@[simp] theorem wrQ_rtc : (s.wrQ i q e).rtc = s.rtc := rfl
@[simp] theorem tookFree_rtc : (s.tookFree n).rtc = s.rtc := rfl
@[simp] theorem send_rtc : (s.send x).rtc = s.rtc := rfl

@[simp] theorem wr_trend : (s.wr i v e).trend = s.trend := rfl
@[simp] theorem toDefault_trend : (s.toDefault i e).trend = s.trend := rfl
@[simp] theorem count_trend : (s.count i e n).trend = s.trend := rfl
@[simp] theorem countSat_trend : (s.countSat i e).trend = s.trend := rfl
@[simp] theorem countMod_trend : (s.countMod i e).trend = s.trend := rfl
@[simp] theorem wrBit_trend : (s.wrBit i b on e).trend = s.trend := rfl
@[simp] theorem wrInt_trend : (s.wrInt i z e).trend = s.trend := rfl
@[simp] theorem wrQ_trend : (s.wrQ i q e).trend = s.trend := rfl
@[simp] theorem tookFree_trend : (s.tookFree n).trend = s.trend := rfl
@[simp] theorem send_trend : (s.send x).trend = s.trend := rfl

@[simp] theorem wr_pts : (s.wr i v e).pts = s.pts := rfl
@[simp] theorem toDefault_pts : (s.toDefault i e).pts = s.pts := rfl
@[simp] theorem count_pts : (s.count i e n).pts = s.pts := rfl
@[simp] theorem countSat_pts : (s.countSat i e).pts = s.pts := rfl
@[simp] theorem countMod_pts : (s.countMod i e).pts = s.pts := rfl
@[simp] theorem wrBit_pts : (s.wrBit i b on e).pts = s.pts := rfl
@[simp] theorem wrInt_pts : (s.wrInt i z e).pts = s.pts := rfl
@[simp] theorem wrQ_pts : (s.wrQ i q e).pts = s.pts := rfl
@[simp] theorem tookFree_pts : (s.tookFree n).pts = s.pts := rfl
@[simp] theorem send_pts : (s.send x).pts = s.pts := rfl

@[simp] theorem wr_net : (s.wr i v e).net = s.net := rfl
@[simp] theorem toDefault_net : (s.toDefault i e).net = s.net := rfl
@[simp] theorem count_net : (s.count i e n).net = s.net := rfl
@[simp] theorem countSat_net : (s.countSat i e).net = s.net := rfl
@[simp] theorem countMod_net : (s.countMod i e).net = s.net := rfl
@[simp] theorem wrBit_net : (s.wrBit i b on e).net = s.net := rfl
@[simp] theorem wrInt_net : (s.wrInt i z e).net = s.net := rfl
@[simp] theorem wrQ_net : (s.wrQ i q e).net = s.net := rfl
@[simp] theorem tookFree_net : (s.tookFree n).net = s.net := rfl
@[simp] theorem send_net : (s.send x).net = s.net := rfl

@[simp] theorem wr_fld : (s.wr i v e).fld = s.fld := rfl
@[simp] theorem toDefault_fld : (s.toDefault i e).fld = s.fld := rfl
@[simp] theorem count_fld : (s.count i e n).fld = s.fld := rfl
@[simp] theorem countSat_fld : (s.countSat i e).fld = s.fld := rfl
@[simp] theorem countMod_fld : (s.countMod i e).fld = s.fld := rfl
@[simp] theorem wrBit_fld : (s.wrBit i b on e).fld = s.fld := rfl
@[simp] theorem wrInt_fld : (s.wrInt i z e).fld = s.fld := rfl
@[simp] theorem wrQ_fld : (s.wrQ i q e).fld = s.fld := rfl
@[simp] theorem tookFree_fld : (s.tookFree n).fld = s.fld := rfl
@[simp] theorem send_fld : (s.send x).fld = s.fld := rfl

@[simp] theorem wr_lbs : (s.wr i v e).lbs = s.lbs := rfl
@[simp] theorem toDefault_lbs : (s.toDefault i e).lbs = s.lbs := rfl
@[simp] theorem count_lbs : (s.count i e n).lbs = s.lbs := rfl
@[simp] theorem countSat_lbs : (s.countSat i e).lbs = s.lbs := rfl
@[simp] theorem countMod_lbs : (s.countMod i e).lbs = s.lbs := rfl
@[simp] theorem wrBit_lbs : (s.wrBit i b on e).lbs = s.lbs := rfl
@[simp] theorem wrInt_lbs : (s.wrInt i z e).lbs = s.lbs := rfl
@[simp] theorem wrQ_lbs : (s.wrQ i q e).lbs = s.lbs := rfl
@[simp] theorem tookFree_lbs : (s.tookFree n).lbs = s.lbs := rfl
@[simp] theorem send_lbs : (s.send x).lbs = s.lbs := rfl

@[simp] theorem wr_nextXfer : (s.wr i v e).nextXfer = s.nextXfer := rfl
@[simp] theorem toDefault_nextXfer : (s.toDefault i e).nextXfer = s.nextXfer := rfl
@[simp] theorem count_nextXfer : (s.count i e n).nextXfer = s.nextXfer := rfl
@[simp] theorem countSat_nextXfer : (s.countSat i e).nextXfer = s.nextXfer := rfl
@[simp] theorem countMod_nextXfer : (s.countMod i e).nextXfer = s.nextXfer := rfl
@[simp] theorem wrBit_nextXfer : (s.wrBit i b on e).nextXfer = s.nextXfer := rfl
@[simp] theorem wrInt_nextXfer : (s.wrInt i z e).nextXfer = s.nextXfer := rfl
@[simp] theorem wrQ_nextXfer : (s.wrQ i q e).nextXfer = s.nextXfer := rfl
@[simp] theorem tookFree_nextXfer : (s.tookFree n).nextXfer = s.nextXfer := rfl
@[simp] theorem send_nextXfer : (s.send x).nextXfer = s.nextXfer := rfl

@[simp] theorem wr_ana : (s.wr i v e).ana = s.ana := rfl
@[simp] theorem toDefault_ana : (s.toDefault i e).ana = s.ana := rfl
@[simp] theorem count_ana : (s.count i e n).ana = s.ana := rfl
@[simp] theorem countSat_ana : (s.countSat i e).ana = s.ana := rfl
@[simp] theorem countMod_ana : (s.countMod i e).ana = s.ana := rfl
@[simp] theorem wrBit_ana : (s.wrBit i b on e).ana = s.ana := rfl
@[simp] theorem wrInt_ana : (s.wrInt i z e).ana = s.ana := rfl
@[simp] theorem wrQ_ana : (s.wrQ i q e).ana = s.ana := rfl
@[simp] theorem tookFree_ana : (s.tookFree n).ana = s.ana := rfl
@[simp] theorem send_ana : (s.send x).ana = s.ana := rfl

@[simp] theorem wr_turn : (s.wr i v e).turn = s.turn := rfl
@[simp] theorem toDefault_turn : (s.toDefault i e).turn = s.turn := rfl
@[simp] theorem count_turn : (s.count i e n).turn = s.turn := rfl
@[simp] theorem countSat_turn : (s.countSat i e).turn = s.turn := rfl
@[simp] theorem countMod_turn : (s.countMod i e).turn = s.turn := rfl
@[simp] theorem wrBit_turn : (s.wrBit i b on e).turn = s.turn := rfl
@[simp] theorem wrInt_turn : (s.wrInt i z e).turn = s.turn := rfl
@[simp] theorem wrQ_turn : (s.wrQ i q e).turn = s.turn := rfl
@[simp] theorem tookFree_turn : (s.tookFree n).turn = s.turn := rfl
@[simp] theorem send_turn : (s.send x).turn = s.turn := rfl

@[simp] theorem wr_nrg : (s.wr i v e).nrg = s.nrg := rfl
@[simp] theorem toDefault_nrg : (s.toDefault i e).nrg = s.nrg := rfl
@[simp] theorem count_nrg : (s.count i e n).nrg = s.nrg := rfl
@[simp] theorem countSat_nrg : (s.countSat i e).nrg = s.nrg := rfl
@[simp] theorem countMod_nrg : (s.countMod i e).nrg = s.nrg := rfl
@[simp] theorem wrBit_nrg : (s.wrBit i b on e).nrg = s.nrg := rfl
@[simp] theorem wrInt_nrg : (s.wrInt i z e).nrg = s.nrg := rfl
@[simp] theorem wrQ_nrg : (s.wrQ i q e).nrg = s.nrg := rfl
@[simp] theorem tookFree_nrg : (s.tookFree n).nrg = s.nrg := rfl
@[simp] theorem send_nrg : (s.send x).nrg = s.nrg := rfl

@[simp] theorem wr_ctl : (s.wr i v e).ctl = s.ctl := rfl
@[simp] theorem toDefault_ctl : (s.toDefault i e).ctl = s.ctl := rfl
@[simp] theorem count_ctl : (s.count i e n).ctl = s.ctl := rfl
@[simp] theorem countSat_ctl : (s.countSat i e).ctl = s.ctl := rfl
@[simp] theorem countMod_ctl : (s.countMod i e).ctl = s.ctl := rfl
@[simp] theorem wrBit_ctl : (s.wrBit i b on e).ctl = s.ctl := rfl
@[simp] theorem wrInt_ctl : (s.wrInt i z e).ctl = s.ctl := rfl
@[simp] theorem wrQ_ctl : (s.wrQ i q e).ctl = s.ctl := rfl
@[simp] theorem tookFree_ctl : (s.tookFree n).ctl = s.ctl := rfl
@[simp] theorem send_ctl : (s.send x).ctl = s.ctl := rfl

@[simp] theorem wr_mot : (s.wr i v e).mot = s.mot := rfl
@[simp] theorem toDefault_mot : (s.toDefault i e).mot = s.mot := rfl
@[simp] theorem count_mot : (s.count i e n).mot = s.mot := rfl
@[simp] theorem countSat_mot : (s.countSat i e).mot = s.mot := rfl
@[simp] theorem countMod_mot : (s.countMod i e).mot = s.mot := rfl
@[simp] theorem wrBit_mot : (s.wrBit i b on e).mot = s.mot := rfl
@[simp] theorem wrInt_mot : (s.wrInt i z e).mot = s.mot := rfl
@[simp] theorem wrQ_mot : (s.wrQ i q e).mot = s.mot := rfl
@[simp] theorem tookFree_mot : (s.tookFree n).mot = s.mot := rfl
@[simp] theorem send_mot : (s.send x).mot = s.mot := rfl

@[simp] theorem wr_lft : (s.wr i v e).lft = s.lft := rfl
@[simp] theorem toDefault_lft : (s.toDefault i e).lft = s.lft := rfl
@[simp] theorem count_lft : (s.count i e n).lft = s.lft := rfl
@[simp] theorem countSat_lft : (s.countSat i e).lft = s.lft := rfl
@[simp] theorem countMod_lft : (s.countMod i e).lft = s.lft := rfl
@[simp] theorem wrBit_lft : (s.wrBit i b on e).lft = s.lft := rfl
@[simp] theorem wrInt_lft : (s.wrInt i z e).lft = s.lft := rfl
@[simp] theorem wrQ_lft : (s.wrQ i q e).lft = s.lft := rfl
@[simp] theorem tookFree_lft : (s.tookFree n).lft = s.lft := rfl
@[simp] theorem send_lft : (s.send x).lft = s.lft := rfl

@[simp] theorem wr_saf : (s.wr i v e).saf = s.saf := rfl
@[simp] theorem toDefault_saf : (s.toDefault i e).saf = s.saf := rfl
@[simp] theorem count_saf : (s.count i e n).saf = s.saf := rfl
@[simp] theorem countSat_saf : (s.countSat i e).saf = s.saf := rfl
@[simp] theorem countMod_saf : (s.countMod i e).saf = s.saf := rfl
@[simp] theorem wrBit_saf : (s.wrBit i b on e).saf = s.saf := rfl
@[simp] theorem wrInt_saf : (s.wrInt i z e).saf = s.saf := rfl
@[simp] theorem wrQ_saf : (s.wrQ i q e).saf = s.saf := rfl
@[simp] theorem tookFree_saf : (s.tookFree n).saf = s.saf := rfl
@[simp] theorem send_saf : (s.send x).saf = s.saf := rfl

@[simp] theorem wr_prg : (s.wr i v e).prg = s.prg := rfl
@[simp] theorem toDefault_prg : (s.toDefault i e).prg = s.prg := rfl
@[simp] theorem count_prg : (s.count i e n).prg = s.prg := rfl
@[simp] theorem countSat_prg : (s.countSat i e).prg = s.prg := rfl
@[simp] theorem countMod_prg : (s.countMod i e).prg = s.prg := rfl
@[simp] theorem wrBit_prg : (s.wrBit i b on e).prg = s.prg := rfl
@[simp] theorem wrInt_prg : (s.wrInt i z e).prg = s.prg := rfl
@[simp] theorem wrQ_prg : (s.wrQ i q e).prg = s.prg := rfl
@[simp] theorem tookFree_prg : (s.tookFree n).prg = s.prg := rfl
@[simp] theorem send_prg : (s.send x).prg = s.prg := rfl

@[simp] theorem wr_upd : (s.wr i v e).upd = s.upd := rfl
@[simp] theorem toDefault_upd : (s.toDefault i e).upd = s.upd := rfl
@[simp] theorem count_upd : (s.count i e n).upd = s.upd := rfl
@[simp] theorem countSat_upd : (s.countSat i e).upd = s.upd := rfl
@[simp] theorem countMod_upd : (s.countMod i e).upd = s.upd := rfl
@[simp] theorem wrBit_upd : (s.wrBit i b on e).upd = s.upd := rfl
@[simp] theorem wrInt_upd : (s.wrInt i z e).upd = s.upd := rfl
@[simp] theorem wrQ_upd : (s.wrQ i q e).upd = s.upd := rfl
@[simp] theorem tookFree_upd : (s.tookFree n).upd = s.upd := rfl
@[simp] theorem send_upd : (s.send x).upd = s.upd := rfl

@[simp] theorem wr_keys : (s.wr i v e).keys = s.keys := rfl
@[simp] theorem toDefault_keys : (s.toDefault i e).keys = s.keys := rfl
@[simp] theorem count_keys : (s.count i e n).keys = s.keys := rfl
@[simp] theorem countSat_keys : (s.countSat i e).keys = s.keys := rfl
@[simp] theorem countMod_keys : (s.countMod i e).keys = s.keys := rfl
@[simp] theorem wrBit_keys : (s.wrBit i b on e).keys = s.keys := rfl
@[simp] theorem wrInt_keys : (s.wrInt i z e).keys = s.keys := rfl
@[simp] theorem wrQ_keys : (s.wrQ i q e).keys = s.keys := rfl
@[simp] theorem tookFree_keys : (s.tookFree n).keys = s.keys := rfl
@[simp] theorem send_keys : (s.send x).keys = s.keys := rfl

@[simp] theorem wr_dram : (s.wr i v e).dram = s.dram := rfl
@[simp] theorem toDefault_dram : (s.toDefault i e).dram = s.dram := rfl
@[simp] theorem count_dram : (s.count i e n).dram = s.dram := rfl
@[simp] theorem countSat_dram : (s.countSat i e).dram = s.dram := rfl
@[simp] theorem countMod_dram : (s.countMod i e).dram = s.dram := rfl
@[simp] theorem wrBit_dram : (s.wrBit i b on e).dram = s.dram := rfl
@[simp] theorem wrInt_dram : (s.wrInt i z e).dram = s.dram := rfl
@[simp] theorem wrQ_dram : (s.wrQ i q e).dram = s.dram := rfl
@[simp] theorem tookFree_dram : (s.tookFree n).dram = s.dram := rfl
@[simp] theorem send_dram : (s.send x).dram = s.dram := rfl

@[simp] theorem tookFree_od : (s.tookFree n).od = s.od := rfl
@[simp] theorem send_od : (s.send x).od = s.od := rfl

end Sys2Proof.Laws
end

