-- ==== Sys2Proof/Laws/Effects.lean ====
section
/-!
SUPPORT. What the shared operations leave, said once: reads after writes, bits, recorder events, faults and modes.
-/
namespace Sys2Proof.Laws

open Sys2Proof Sys2Proof.Machine Sys2Proof.Safety

/-! ## Reads after writes -/

@[simp] theorem rdIn_odWr (v : Variant) (od : List Cell) (i x e j k : Nat) :
    rdIn v (odWr v od i x e) j k = if j = i ∧ k = e then x % 2 ^ widthOf i else rdIn v od j k := by
  unfold rdIn odWr
  rw [odGet_put]
  by_cases h : j = i ∧ k = e
  · obtain ⟨rfl, rfl⟩ := h
    by_cases hv : x % 2 ^ widthOf j = dfltOf v j k <;> simp [hv]
  · simp [h]

/-- A read of what was written there, where the value fits. -/
theorem rd_wr_fit (s : State) (i v e : Nat) (h : v < 2 ^ widthOf i) : (s.wr i v e).rd i e = v := by
  rw [rd_wr_self, Nat.mod_eq_of_lt h]

/-- Another element of an index keeps its value. -/
theorem rd_wr_elem (s : State) (i v e j k : Nat) (h : k ≠ e) : (s.wr i v e).rd j k = s.rd j k := by simp [rd_wr, h]

/-! ## Bits -/

theorem testBit_putBit_on (w b : Nat) : (putBit w b true).testBit b = true := by
  simp [putBit]

/-- Taking away a set bit leaves the others. -/
theorem testBit_sub_bit (w b c : Nat) (h : w.testBit b = true) : (w - 2 ^ b).testBit c = (w.testBit c && decide (c ≠ b)) := by
  have hm : w / 2 ^ b % 2 = 1 := by simpa [Nat.testBit, Nat.shiftRight_eq_div_pow, Nat.one_and_eq_mod_two] using h
  have hw := Nat.div_add_mod w (2 ^ b)
  have hr := Nat.mod_lt w (Nat.two_pow_pos b)
  generalize hq : w / 2 ^ b = q at *
  generalize hr' : w % 2 ^ b = r at *
  obtain ⟨k, rfl⟩ : ∃ k, q = 2 * k + 1 := ⟨q / 2, by omega⟩
  have e : w - 2 ^ b = 2 ^ b * (2 * k) + r := by rw [← hw, Nat.mul_add]; omega
  rw [e, ← hw, Nat.testBit_two_pow_mul_add _ hr, Nat.testBit_two_pow_mul_add _ hr]
  split
  · have : c ≠ b := by omega
    simp [this]
  · rcases Nat.eq_or_lt_of_le (Nat.not_lt.mp ‹¬c < b›) with rfl | hlt
    · simp
    · obtain ⟨n, hn⟩ : ∃ n, c - b = n + 1 := ⟨c - b - 1, by omega⟩
      have : c ≠ b := by omega
      rw [hn, Nat.testBit_succ, Nat.testBit_succ]
      have e1 : 2 * k / 2 = k := by omega
      have e2 : (2 * k + 1) / 2 = k := by omega
      rw [e1, e2]
      simp [this]

theorem testBit_putBit (w b c : Nat) (on : Bool) : (putBit w b on).testBit c = if c = b then on else w.testBit c := by
  unfold putBit
  cases on
  · rw [if_neg (by decide), Nat.one_shiftLeft]
    by_cases h : w.testBit b = true
    · rw [if_pos h, testBit_sub_bit _ _ _ h]
      by_cases hc : c = b <;> simp [hc]
    · rw [if_neg h]
      by_cases hc : c = b
      · simp [hc] at h ⊢
        exact h
      · simp [hc]
  · simp only [if_true, Nat.testBit_or, Nat.one_shiftLeft, Nat.testBit_two_pow]
    by_cases hc : c = b
    · simp [hc]
    · simp [hc, Ne.symm hc]

theorem putBit_lt (w b n : Nat) (on : Bool) (hb : b < n) (h : w < 2 ^ n) : putBit w b on < 2 ^ n := by
  unfold putBit
  split
  · exact Nat.or_lt_two_pow h (by rw [Nat.one_shiftLeft]; exact Nat.pow_lt_pow_right (by decide) hb)
  · split
    · exact Nat.lt_of_le_of_lt (Nat.sub_le _ _) h
    · exact h

theorem testBit_mod (w b n : Nat) (hb : b < n) : (w % 2 ^ n).testBit b = w.testBit b := by
  simp [Nat.testBit_mod_two_pow, hb]

/-- A bit of an entry after a write of one bit of it. -/
theorem rdBit_wrBit (s : State) (i b c e : Nat) (on : Bool) (hc : c < widthOf i) :
    (s.wrBit i b on e).rdBit i c e = if c = b then on else s.rdBit i c e := by
  unfold State.rdBit State.wrBit
  rw [rd_wr_self, testBit_mod _ _ _ hc, testBit_putBit]

theorem rdBit_of_rd {s t : State} {i e : Nat} (h : t.rd i e = s.rd i e) (b : Nat) : t.rdBit i b e = s.rdBit i b e := by
  unfold State.rdBit
  rw [h]

/-! ## Events, modes and faults -/

theorem recordEvent_mode (s : State) (code inst flags payload : Nat) : (recordEvent s code inst flags payload).mode = s.mode :=
  (recordEvent_within ..).parts .mode rfl

theorem enterMode_mode (s : State) (m : Mode) (cause : Nat) : (enterMode s m cause).mode = m := by
  unfold enterMode
  split
  · assumption
  · dsimp only
    split <;> rfl

theorem widthOf_health : widthOf Od.sys_health = 32 := by rfl

theorem raiseFault_bit (s : State) (b d : Nat) (hb : b < 32) : (raiseFault s b d).rdBit Od.sys_health b = true := by
  unfold raiseFault
  split
  · assumption
  · extract_lets s1 s2 s3
    have h1 : s1.rdBit Od.sys_health b = true := by
      have e : s1.rd Od.sys_health = (s.wrBit Od.sys_health b true).rd Od.sys_health := rd_wr_ne _ _ _ _ _ _ (by decide)
      rw [rdBit_of_rd e, rdBit_wrBit _ _ _ _ _ _ (by rw [widthOf_health]; exact hb)]
      simp
    have h2 : s2.rdBit Od.sys_health b = true := (rdBit_of_rd ((recordEvent_within ..).keeps _ _) _).trans h1
    split
    · exact (rdBit_of_rd ((enterMode_within ..).keeps _ _) _).trans h2
    · exact h2

/-- Raising a fault leaves the other bits of the health word. -/
theorem raiseFault_bit_ne (s : State) (b c d : Nat) (hc : c < 32) (h : c ≠ b) :
    (raiseFault s b d).rdBit Od.sys_health c = s.rdBit Od.sys_health c := by
  unfold raiseFault
  split
  · rfl
  · extract_lets s1 s2 s3
    have h1 : s1.rdBit Od.sys_health c = s.rdBit Od.sys_health c := by
      have e : s1.rd Od.sys_health = (s.wrBit Od.sys_health b true).rd Od.sys_health := rd_wr_ne _ _ _ _ _ _ (by decide)
      rw [rdBit_of_rd e, rdBit_wrBit _ _ _ _ _ _ (by rw [widthOf_health]; exact hc)]
      simp [h]
    have h2 : s2.rdBit Od.sys_health c = _ := (rdBit_of_rd ((recordEvent_within ..).keeps _ _) _).trans h1
    split
    · exact (rdBit_of_rd ((enterMode_within ..).keeps _ _) _).trans h2
    · exact h2

theorem clearFault_bit (s : State) (b : Nat) (hb : b < 32) : (clearFault s b).rdBit Od.sys_health b = false := by
  unfold clearFault
  split
  · have h1 : (recordEvent (s.wrBit Od.sys_health b false) 0x0101 b 2 0).rdBit Od.sys_health b = false := by
      rw [rdBit_of_rd ((recordEvent_within ..).keeps _ _), rdBit_wrBit _ _ _ _ _ _ (by rw [widthOf_health]; exact hb)]
      simp
    dsimp only
    split
    · exact (rdBit_of_rd ((enterMode_within ..).keeps _ _) _).trans h1
    · exact h1
  · exact Bool.not_eq_true _ ▸ ‹¬s.rdBit Od.sys_health b = true›

theorem enterRun_mode (s : State) (cause : Nat) : (enterRun s cause).mode = if degraded s then .runDegraded else .run := by
  unfold enterRun
  split <;> simp [*, enterMode_mode]

end Sys2Proof.Laws
end

