-- ==== Sys2Proof/WellFormed.lean ====
section
/-!
DEFINITION. Well-formed commands: operands that the hardware or a request can present. A unit's number is one the X variant has (R1), a raw
value fits its entry's type (R8), a byte is below 256. A write names its element by 16 bits (R7): one past the entry's elements is well-formed
and is answered NO_SUCH_INDEX (R67). `Machine.exec` has a meaning for every command, well-formed or not.
-/
namespace Sys2Proof

/-- A value of so many bits. -/
def fits (bits v : Nat) : Bool := decide (v < 2 ^ bits)

/-- Bytes. -/
def bytesOk (bs : List Nat) : Bool := bs.all (fits 8)

/-- Where a request comes from (R73). -/
def sourceOk (o : Source) : Bool := fits 8 o.kind && fits 8 o.phys && fits 16 o.vlan && fits 128 o.src && fits 48 o.mac && fits 16 o.udp

/-- Who makes a request (R68, R73): logical port, client ID, request ID, origin. -/
def whoOk (w : Who) : Bool := fits 8 w.port && fits 32 w.client && fits 32 w.reqid && sourceOk w.origin

/-- What a start finds: `sys_health` bits (R42), image slots (R403). -/
def factsOk (f : StartFacts) : Bool := fits 16 f.health && fits 2 f.slotBad

/-- An item of a request (R68). -/
def itemOk (it : WItem) : Bool := fits 16 it.index && fits 16 it.first && fits 16 it.count && fits 8 it.ty && bytesOk it.data

/-- The origin of a datagram (R73). -/
def rxOk (rx : RxInfo) : Bool := sourceOk rx.toSource && fits 8 rx.node

/-- A BACnet object (R82): ten bits of type, 22 of instance. -/
def objectOk (objType inst : Nat) : Bool := fits 10 objType && fits 22 inst

/-- One property of a BACnet write (R82): a value of at most 32 bytes, a priority of one byte. -/
def bacOk (r : BacWrite) : Bool :=
  objectOk r.objType r.inst && (r.priority.map (fits 8)).getD true && (r.value.map (fits 256)).getD true

/-- What Who-Has asks for (R82). -/
def hasOk (what : BacHas) : Bool :=
  match what with
  | .object t i => objectOk t i
  | .named b => bytesOk b

/-- A SecTAG (R121). -/
def tagOk (x : SecTag) : Bool := fits 64 x.sci && fits 32 x.pn

/-- A frame of an uplink (R109, R114). -/
def upFrameOk (f : UplinkFrame) : Bool :=
  fits 48 f.src && fits 48 f.dst && (f.tag.map (fun t => fits 12 t.1 && fits 3 t.2)).getD true &&
    (f.trailer.map (fun t => fits 16 t.1 && fits 4 t.2)).getD true && (f.sec.map tagOk).getD true

/-- A frame of a bridge port (R131). -/
def fieldFrameOk (f : FieldFrame) : Bool :=
  (f.vid.map (fits 12)).getD true && fits 3 f.pcp && fits 48 f.src && fits 48 f.dst && f.ports.all (fun p => decide (p < 24)) &&
    (f.uplink.map (fun u => decide (u < 2))).getD true

/-- A master of the fabric (R22). -/
def masterOk (m : FabricMaster) : Bool :=
  match m with
  | .unit n => decide (n < 14)
  | .storeSequencer => true
  | .bspDma => true

/-- What a cross-fade starts at (R196): a voltage input of the module. -/
def causeOk (c : FadeCause) : Bool :=
  match c with
  | .sample => true
  | .crossing v => decide (v < 6)
  | .timeout => true

/-- A Modbus reply (R150). -/
def mbOk (r : MbReply) : Bool :=
  match r with
  | .ok ws => ws.all (fits 16)
  | .exception c => fits 8 c
  | .crcError => true

/-- A HART reply (R183 to R185). -/
def hartOk (r : HartReply) : Bool :=
  fits 8 r.code && fits 8 r.dev && fits 40 r.uid && fits 32 r.current && r.vars.all (fun v => fits 8 v.1 && fits 32 v.2) && bytesOk r.data

/-- The readings of an input (R203): F32 words. -/
def streamOk (x : InputStream) : Bool := (x.served ++ x.former).all (fun r => (r.map (fits 32)).getD true)

/-- A line cycle (R203, R205): a circuit of the module and its phases. -/
def cycleOk (d : LineCycle) : Bool := decide (d.circuit < 8) && d.phases.all (fun p => streamOk p.v && streamOk p.i)

/-- A crossing (R205): a phase, F32 words. -/
def crossingOk (x : Crossing) : Bool := decide (x.phase < 3) && fits 32 x.low && fits 32 x.before && fits 32 x.after

/-- The phase sense inputs of a channel (R261). -/
def senseOk (x : PhaseSense) : Bool := decide (x.chan < 16) && fits 32 x.va && fits 32 x.vb

/-- What an island cycle latches (R307): masks of 16 pairs and of the outputs. -/
def islandOk (i : IslandIn) : Bool := fits 16 i.a && fits 16 i.b && fits 8 i.edm && fits 8 i.soHigh && i.pulses.all (fun p => decide (p.1 < 16))

/-- Whether a command is well-formed. -/
def Instr.wf : Instr → Bool
  | .powerOnReset f => factsOk f
  | .bootEnd _ => true
  | .powerFail _ partials => partials.all (fun x => cycleOk x.2)
  | .internalRailFault _ partials => partials.all (fun x => cycleOk x.2)
  | .vmainReturnInHoldup => true
  | .holdupStoreComplete _ _ f => factsOk f
  | .standbyVmainFail => true
  | .watchdogReset f => factsOk f
  | .softwareReset w f => whoOk w && factsOk f
  | .mprCommand w => whoOk w
  | .appWatchdogExpiry => true
  | .mprComplete => true
  | .actReset f => factsOk f
  | .mpRestart _ => true
  | .reservoirCharged r => decide (r < 2)
  | .reservoirChargeTimeout r => decide (r < 2)
  | .reservoirChargeRetry r => decide (r < 2)
  | .hourlyHoldTest r => decide (r < 2)
  | .holdTestCmd w v => whoOk w && fits 8 v
  | .holdTestComplete _ _ => true
  | .modeRequest w code => whoOk w && fits 8 code
  | .modeTransitionStart => true
  | .standbyEntryComplete _ => true
  | .wakePin f => factsOk f
  | .wakeTimed f => factsOk f
  | .wakePatternMatch uplink frame f => decide (uplink < 2) && bytesOk frame.bytes && factsOk f
  | .parityMismatch initiator word replays _ _ => decide (initiator < 15) && fits 33 word && replays.all (fits 33)
  | .dramPageRetireComplete r => r.held.all (fun x => fits 32 x.2)
  | .fabricAccessRefused access _ => masterOk access.master
  | .faultRetestCmd w bit => whoOk w && fits 8 bit
  | .faultRetestComplete _ => true
  | .clockStart _ => true
  | .clockGate _ => true
  | .mpFrame demand => decide (demand.length = 7)
  | .mpLoadUpdate => true
  | .trendSample n => decide (n < 8192)
  | .trendArchiveMove _ => true
  | .trendDumpCmd w v => whoOk w && fits 192 v
  | .trendTransferComplete _ => true
  | .copDatagramRx rx bytes => rxOk rx && bytesOk bytes
  | .copRead w handle items => whoOk w && fits 16 handle && items.all itemOk
  | .copWrite w handle items => whoOk w && fits 16 handle && items.all itemOk
  | .copDescribe w handle items => whoOk w && fits 16 handle && items.all itemOk
  | .txnBegin w => whoOk w
  | .txnCommit w handle => whoOk w && fits 16 handle
  | .txnRollback w handle => whoOk w && fits 16 handle
  | .commitTick => true
  | .responseTimeout _ => true
  | .txnIdleTimeout handle => decide (handle < 9)
  | .lbTxnBegin w v => whoOk w && fits 8 v
  | .lbTxnCommit w v => whoOk w && fits 8 v
  | .lbTxnRollback w v => whoOk w && fits 8 v
  | .entryWrite w index elem ty _ => whoOk w && fits 16 index && fits 16 elem && fits 8 ty
  | .pointScan => true
  | .bacnetReadProperty rx props => rxOk rx && props.all (fun x => objectOk x.1 x.2.1)
  | .bacnetWriteProperty rx rs => rxOk rx && rs.all bacOk
  | .bacnetSubscribeCov rx _ _ objType inst _ _ => rxOk rx && fits 10 objType && fits 22 inst
  | .bacnetCovExpiry _ _ objType inst => fits 10 objType && fits 22 inst
  | .bacnetWhoIs rx _ _ => rxOk rx
  | .bacnetWhoHas rx _ what => rxOk rx && hasOk what
  | .bacnetUnsupportedService rx _ _ => rxOk rx
  | .bacnetFdRegistration => true
  | .eapolStartRepeat u => decide (u < 2)
  | .eapolFrameRx u _ => decide (u < 2)
  | .dot1xExchangeTimeout u => decide (u < 2)
  | .dot1xHoldEnd u => decide (u < 2)
  | .commissionAdmission u => decide (u < 2)
  | .uplinkLinkUp u _ => decide (u < 2)
  | .uplinkLinkDown u => decide (u < 2)
  | .prpSilenceTimeout u => decide (u < 2)
  | .uplinkFaultClear u => decide (u < 2)
  | .uplinkFrameRx u f => decide (u < 2) && upFrameOk f
  | .prpForgetExpiry src seq => fits 48 src && fits 16 seq
  | .prpSupervisionTx => true
  | .proxyEntryAgeout mac => fits 48 mac
  | .txFrameStart u have_ => decide (u < 2) && decide (have_.length ≤ 8)
  | .txUnderrun u => decide (u < 2)
  | .txStartWrite w u v => whoOk w && fits 16 u && fits 16 v
  | .speedMaxWrite w u v => whoOk w && fits 16 u && fits 16 v
  | .ptpMessageRx u _ => decide (u < 2)
  | .ptpAnnounceTimeout => true
  | .mkaSecured session => decide (session.uplink < 2) && fits 64 session.sci
  | .mkaRetry u => decide (u < 2)
  | .mkaBRestartTimeout => true
  | .standbyLinkRetry u => decide (u < 2)
  | .downshiftWindow u _ => decide (u < 2)
  | .speedShiftEnd u _ => decide (u < 2)
  | .downshiftDisable w v => whoOk w && fits 8 v
  | .mkaFailed u => decide (u < 2)
  | .fieldFrameRx p f => decide (p < 24) && fieldFrameOk f
  | .bcastWindowReset p => decide (p < 24)
  | .pseStart p _ _ => decide (p < 16)
  | .pseCheckRepeat p _ _ => decide (p < 16)
  | .pseClassificationDone port others => (port :: others).all (fun x => decide (x.1 < 16))
  | .psePowerGoodCheck p _ _ => decide (p < 16)
  | .pseOvercurrentTrip p _ => decide (p < 16)
  | .pseOverload p _ => decide (p < 16)
  | .pseUndervoltage p _ _ => decide (p < 16)
  | .pseDisconnect p _ => decide (p < 16)
  | .fieldPwrOutOfRange _ => true
  | .fieldPwrRecovered _ => true
  | .pseFaultRetry p => decide (p < 16)
  | .pseResetCmd w v => whoOk w && fits 8 v
  | .pseInputOverBudget measured => decide (measured.length ≤ 16) && measured.all (fun x => fits 20 x.1 && fits 16 x.2)
  | .plcaCycle seg _ _ => decide (seg < 8)
  | .t1sForeignBeacon seg => decide (seg < 8)
  | .t1sForeignClear seg => decide (seg < 8)
  | .t1sCollision collision => decide (collision.seg < 8)
  | .t1sJabber seg => decide (seg < 8)
  | .t1sMediumStuck seg => decide (seg < 8)
  | .t1sBeaconRestart seg => decide (seg < 8)
  | .mstpToken p _ others => decide (p < 4) && others.answered.all (fits 8) && fits 8 others.unused
  | .mstpTokenLoss p => decide (p < 4)
  | .mstpFrameRx p src _ _ => decide (p < 4) && fits 8 src
  | .mstpDupClear p => decide (p < 4)
  | .modbusPollDue p entry _ => decide (p < 4) && fits 8 entry
  | .modbusReplyRx p r => decide (p < 4) && mbOk r
  | .modbusReplyTimeout p => decide (p < 4)
  | .modbusOutChange p entry => decide (p < 4) && fits 8 entry
  | .rs485BusFault p => decide (p < 4)
  | .rs485BusIdle p => decide (p < 4)
  | .t1lLinkUp p _ _ => decide (p < 16)
  | .t1lLinkDown p => decide (p < 16)
  | .plcaPresenceAgeout seg node => decide (seg < 8) && fits 8 node
  | .mstpMasterAgeout p station => decide (p < 4) && fits 8 station
  | .lbPostedWrite addr v _ => fits 16 addr && fits 32 v
  | .lbwGo => true
  | .lbwDoneRead => true
  | .waferRefresh period => fits 16 period
  | .bspTrain => true
  | .bspAligned => true
  | .bspRetrain _ => true
  | .bspFrameRx bytes => bytesOk bytes
  | .bspCreditRx seq code comp => fits 16 seq && fits 8 code && fits 8 comp
  | .bspCreditTimeout => true
  | .bspEnableWrite w v => whoOk w && fits 8 v
  | .analogueSample c live spare term => decide (c < 32) && fits 32 live && fits 32 spare && fits 32 term
  | .anaOutWrite w c v => whoOk w && fits 16 c && fits 32 v
  | .channelFirstSample c m term => decide (c < 32) && fits 32 m && fits 32 term
  | .anaConditionChange c k m _ => decide (c < 32) && decide (k < 4) && fits 32 m
  | .complianceSet c m _ => decide (c < 32) && fits 32 m
  | .complianceClear c stage => decide (c < 32) && fits 32 stage.value
  | .miswireDetect c _ _ _ _ => decide (c < 32)
  | .miswireClear c _ _ => decide (c < 32)
  | .hartIdentify c => decide (c < 32)
  | .hartIdentifyRetry c => decide (c < 32)
  | .hartModemVisit modem => decide (modem < 8)
  | .hartReplyRx modem r => decide (modem < 8) && hartOk r
  | .hartReplyTimeout modem => decide (modem < 8)
  | .hartPassthroughReq w c v => whoOk w && fits 16 c && fits 560 v
  | .referenceCompare _ _ => true
  | .turnoverStepDue b => decide (b < 6)
  | .spareCalibrationDone b _ _ => decide (b < 6)
  | .turnoverCheckEnd b diff _ => decide (b < 6) && fits 32 diff
  | .checkRepeat b => decide (b < 6)
  | .crossFadeStart start => decide (start.bank < 6) && causeOk start.cause
  | .crossFadeEnd b => decide (b < 6)
  | .releasedCalibrationDone b _ _ => decide (b < 6)
  | .calStepNow w b v => whoOk w && fits 16 b && fits 8 v
  | .calRunClear w b v => whoOk w && fits 16 b && fits 8 v
  | .liveConverterFailure b j _ => decide (b < 6) && decide (j < 15)
  | .lineCycleEnd e => crossingOk e.crossing && cycleOk e.cycle
  | .voltageLoss v => decide (v < 6)
  | .intervalBoundary t => fits 64 t
  | .pulseStart o => decide (o < 8)
  | .pulseEnd o => decide (o < 8)
  | .pulseConstWrite w m v => whoOk w && fits 16 m && fits 32 v
  | .vbatClear w gen => whoOk w && fits 16 gen
  | .captureCmd w c => whoOk w && fits 8 c
  | .captureStart _ => true
  | .captureComplete _ => true
  | .timedLineCycleEnd d => cycleOk d
  | .loopSample slot _ => decide (slot < 1024)
  | .selfCheckDone _ _ _ => true
  | .engineResyncComplete => true
  | .softSetpointWrite w slot v => whoOk w && fits 16 slot && fits 32 v
  | .ctlModeWrite w slot v => whoOk w && fits 16 slot && fits 8 v
  | .repMemoryClear w u v => whoOk w && fits 16 u && fits 8 v
  | .motionTick sense _ => sense.all senseOk
  | .stepPulse c _ => decide (c < 16)
  | .idleCurrentReduce c => decide (c < 16)
  | .motTargetWrite w c v => whoOk w && fits 16 c && fits 64 v
  | .referenceCmd w c v => whoOk w && fits 16 c && fits 8 v
  | .referenceSettled c => decide (c < 16)
  | .referenceBackoffDone c => decide (c < 16)
  | .switchEdgeLatch k input _ _ time => decide (k < 2) && decide (input < 3) && fits 64 time
  | .encoderIllegalTransition k => decide (k < 2)
  | .encoderEdgeCount k _ => decide (k < 2)
  | .liftCycle => true
  | .driveStatusFrameRx k src bytes => decide (k < 2) && fits 48 src && bytesOk bytes
  | .driveLinkLost k => decide (k < 2)
  | .driveLinkRestored k => decide (k < 2)
  | .magnetiseTimeout k => decide (k < 2)
  | .brakeOpenTimeout k => decide (k < 2)
  | .followingError k => decide (k < 2)
  | .brakeReleaseDelay k => decide (k < 2)
  | .learnRunCmd w k v => whoOk w && fits 16 k && fits 8 v
  | .learnRunEnd k => decide (k < 2)
  | .liftFaultReset w k v => whoOk w && fits 16 k && fits 8 v
  | .relevelStart k => decide (k < 2)
  | .liftCall w k v => whoOk w && fits 16 k && fits 64 v
  | .liftStatusPublish k => decide (k < 2)
  | .parkTimeout k => decide (k < 2)
  | .doorDwellExpiry k => decide (k < 2)
  | .nudgeTimeout k => decide (k < 2)
  | .blockedOpeningRetry d => decide (d < 4)
  | .islandCycle i => islandOk i
  | .inputTestPulse p _ _ _ => decide (p < 16)
  | .outputTestPulse o _ _ _ _ _ => decide (o < 8)
  | .outputOverload o => decide (o < 8)
  | .macaronProducerSend c => decide (c < 32)
  | .macaronCopyRx lan src pdu => decide (lan < 2) && fits 48 src && bytesOk pdu
  | .macaronSkewExpiry c => decide (c < 32)
  | .macaronWatchdog c => decide (c < 32)
  | .safAck w v => whoOk w && fits 16 v
  | .safUcmAck w k v => whoOk w && fits 16 k && fits 16 v
  | .safHoldExit w v => whoOk w && fits 16 v
  | .programCycleStart p at_ => decide (p < 4) && fits 64 at_
  | .programCycleEnd p at_ writes => decide (p < 4) && fits 64 at_ && writes.all (fun x => bytesOk x.2)
  | .programOverrun p => decide (p < 4)
  | .overrunWarnClear p => decide (p < 4)
  | .programTrap p _ pc => decide (p < 4) && fits 32 pc
  | .programRunWrite w p v => whoOk w && fits 16 p && fits 8 v
  | .stageCheckCmd w p v => whoOk w && fits 16 p && fits 8 v
  | .stageCheckDone p => decide (p < 4)
  | .programExchange w p v => whoOk w && fits 16 p && fits 64 v
  | .rtcSecondBoundary => true
  | .rtcSecondsWrite w v => whoOk w && fits 64 v
  | .rtcCalWrite w v => whoOk w && fits 64 v
  | .rtcShiftWrite w v => whoOk w && fits 16 v
  | .rtcSyncCompare => true
  | .vbatSwitchOver => true
  | .vaonSwitchBack => true
  | .vbatMeasure _ => true
  | .backupDomainBrownout => true
  | .storeCmd w v => whoOk w && fits 8 v
  | .storeStart => true
  | .storeComplete _ _ => true
  | .allowanceReplenish => true
  | .recorderFlush => true
  | .recordMove _ => true
  | .recReadRequest w r v => whoOk w && fits 16 r && fits 128 v
  | .recContextExpiry r => decide (r < 8)
  | .recDump w v => whoOk w && fits 128 v
  | .recDumpEraseTimeout => true
  | .recDumpComplete _ => true
  | .recClear w v => whoOk w && fits 64 v
  | .recClearApply => true
  | .updBegin w v => whoOk w && fits 32 v
  | .updBlock w v => whoOk w && fits 128 v
  | .blockProgrammed => true
  | .bspImageBlock => true
  | .updVerify w v => whoOk w && fits 8 v
  | .verifyComplete _ => true
  | .updActivate w v => whoOk w && fits 32 v
  | .updHealthOk w v => whoOk w && fits 32 v
  | .probationExpiry => true
  | .keyReplace w v => whoOk w && fits 1216 v
  | .vmainMeasure _ _ _ => true
  | .vsafeLow _ => true
  | .vsafeRecover _ => true
  | .tempMeasure _ _ => true

end Sys2Proof
end

