-- ==== Sys2Proof/Tests/Slice0.lean ====
section
/-!
SUPPORT. Tests. Each `witness_<Name>` shows, for every clause of `Obligations.<Name>`, a concrete state and operands that meet all its hypotheses
together, at a boundary of their range where there is one, and what the clause says of them; the expected values are those of the rule that the
statement cites. The other tests are of well-formedness and of the block's interface.
-/
namespace Sys2Proof.Tests

open Sys2Proof.Machine Sys2Proof.Safety

set_option Elab.async false

/-- The module after reset, in a mode and with some entries written as (index, element, value); its object service answers. -/
def st (m : Mode) (ws : List (Nat × Nat × Nat)) : State :=
  ws.foldl (fun s x => s.wr x.1 x.2.2 x.2.1) { State.reset with mode := m, sys := { appUp := true, qualified := true } }

/-- A start that finds nothing wrong. -/
def clean : StartFacts := ⟨false, false, 0, 0, 0, [], 0, [], false, false, none, 0⟩

/-- A Modbus poll entry (R149): station 1, function 3, address 0x100, U16, every 500 ms, scale 1.0. -/
def pollRead : Nat := 0x010301000100 * 2 ^ 48 + 0x01F43F800000

/-- A Modbus poll entry: station 1, function 6, address 0x100, U16, ON_CHANGE, 500 ms, scale 1.0. -/
def pollWrite : Nat := 0x010601000101 * 2 ^ 48 + 0x01F43F800000

/-- Car 1 wired (R272), with entries written and its hidden state. -/
def lift (ws : List (Nat × Nat × Nat)) (car : LiftCar) : State :=
  { st .run ([(Od.lft_enable, 1, 1), (Od.mot_use, 15, 9), (Od.fld_t1l_role, 15, 2)] ++ ws) with lft := { cars := [(1, car)] } }

/-- A client of the local bus. -/
def busClient : Who := ⟨0, 0, 9, localBus⟩

/-- A circuit's configuration: ratios 1, no Rogowski input, no sum meter. -/
def plainCfg : NrgCfg := ⟨true, [0x3F800000, 0x3F800000, 0x3F800000], [0x3F800000, 0x3F800000, 0x3F800000], [0, 0, 0], [0, 0, 0], [0, 0, 0], 0x3F800000, 400, []⟩

/-- Readings of 0.5 V from sample 0 on. -/
def halfVolts (n : Nat) : InputStream := ⟨0, List.replicate n (some 0x3F000000), []⟩

/-- A cycle of circuit 7 whose phases read 0.5 V and −0.25 V. -/
def loadedCycle : LineCycle :=
  let p : PhaseCycle := ⟨halfVolts 80, ⟨0, List.replicate 80 (some 0xBE800000), []⟩, none⟩
  ⟨7, [p, p, p]⟩

/-- A cycle of circuit 7 whose phases read 0.5 V and no current. -/
def idleCycle : LineCycle :=
  let p : PhaseCycle := ⟨halfVolts 80, ⟨0, List.replicate 80 (some 0), []⟩, none⟩
  ⟨7, [p, p, p]⟩

/-- Both uplinks up and authorised. -/
def upBoth : List (Nat × Nat × Nat) :=
  [(Od.net_link_state, 0, 2), (Od.net_dot1x_state, 0, 3), (Od.net_link_state, 1, 2), (Od.net_dot1x_state, 1, 3)]

/-- Connection 31 as a consumer of identifier 0x77 with two bytes from source 5, its state 2. -/
def consumer : List (Nat × Nat × Nat) :=
  upBoth ++ [(Od.saf_mac_dir, 31, 2), (Od.saf_mac_id, 31, 0x77), (Od.saf_mac_len, 31, 2), (Od.saf_mac_peer, 31, 5), (Od.saf_mac_state, 31, 2)]

/-- Port 255, of field port 15, bound to tenant 3, and tenants 0 and 3 with every right and every index granted. -/
def rights : List (Nat × Nat × Nat) :=
  [(Od.od_port_kind, 255, 2), (Od.od_port_phys, 255, 15), (Od.od_port_vlan, 255, 0xFFFF), (Od.od_port_tenant, 255, 3),
    (Od.od_tenant_rights, 3, 0xFFFF), (Od.od_grant_lo, 96, 0x1000), (Od.od_grant_hi, 96, 0x80FF), (Od.od_grant_rights, 96, 3),
    (Od.od_tenant_rights, 0, 0xFFFF), (Od.od_grant_lo, 0, 0x1000), (Od.od_grant_hi, 0, 0x80FF), (Od.od_grant_rights, 0, 3)]

/-- A client of port 255. -/
def client : Who := ⟨255, 7, 9, ⟨2, 15, 0xFFFF, 5, 0xC0A80001, 4747⟩⟩

/-- Handle 8 open, begun by a client with request 1 of a port, with one staged write of `ctl_sp`. -/
def opened (port clientId : Nat) (ws : List (Nat × Nat × Nat)) : State :=
  { st .run (rights ++ ws) with
    mer := { descs := [⟨8, port, clientId, 1, 0, 0⟩] }
    txn := { opens := [{ handle := 8, staged := [⟨Od.ctl_sp, 5, 0x41200000⟩] }] } }

/-- BACnet device 5 with point 8191, an analogue output of instance 3. -/
def bacnet : State :=
  st .run (rights ++ [(Od.od_bacnet_dev, 0, 5), (Od.od_pt_kind, 8191, 2), (Od.od_pt_inst, 8191, 3), (ptIndex 8191, 0, 0x41200000)])

/-- The bytes of a READ (R68) of one element of `od_malformed` by client 7, request 9. -/
def readBytes : List Nat :=
  beBytes 2 0xCE15 ++ [1, 0, 1, 0, 0, 1] ++ beBytes 4 7 ++ beBytes 4 9 ++ [0, 0, 0, 0, 0, 0, 0, 0] ++ [0, 0] ++ beBytes 2 12 ++
    beBytes 2 Od.od_malformed ++ [0, 0, 0, 1, 4, 0, 0, 0, 0, 0]

/-- The origin of a datagram on field port 15. -/
def origin : RxInfo := ⟨⟨2, 15, 0, 5, 0xC0A80001, 4747⟩, 0, false, false⟩

/-- A whole transfer of one frame on the image stream, with sequence 65535 and payload 1, 2, 3. -/
def imageFrame : List Nat :=
  let b := [4, 1, 0, 3, 0xFF, 0xFF, 0, 7, 0, 0, 0, 0, 1, 2, 3]
  b ++ beBytes 4 (crc32c b)

/-! ## Well-formedness: a well-formed command of every constructor, and for each check an ill-formed one that it refuses -/

theorem test_wf_accepts_1 : ([
    .powerOnReset clean, .bootEnd 0, .powerFail 0 [], .internalRailFault 0 [], .vmainReturnInHoldup, .holdupStoreComplete true 0 clean,
    .standbyVmainFail, .watchdogReset clean, .softwareReset ⟨1, 2, 3, ⟨2, 15, 0, 5, 6, 7⟩⟩ clean, .mprCommand ⟨1, 2, 3, ⟨2, 15, 0, 5, 6, 7⟩⟩,
    .appWatchdogExpiry, .mprComplete, .actReset clean, .mpRestart true, .reservoirCharged 0, .reservoirChargeTimeout 0, .reservoirChargeRetry 0,
    .hourlyHoldTest 0, .holdTestCmd ⟨1, 2, 3, ⟨2, 15, 0, 5, 6, 7⟩⟩ 0, .holdTestComplete 0 0, .modeRequest ⟨1, 2, 3, ⟨2, 15, 0, 5, 6, 7⟩⟩ 0,
    .modeTransitionStart, .standbyEntryComplete 0, .wakePin clean, .wakeTimed clean, .wakePatternMatch 0 ⟨[], true⟩ clean, .parityMismatch 14 (2 ^ 33
    - 1) [] 0 .mirrored, .dramPageRetireComplete ⟨0, 0, []⟩, .fabricAccessRefused ⟨.bspDma, .dram, .plain⟩ 0, .faultRetestCmd ⟨1, 2, 3, ⟨2, 15, 0, 5,
    6, 7⟩⟩ 0] : List Instr).all (fun c => c.wf) = true := by decide +kernel

theorem test_wf_accepts_2 : ([
    .faultRetestComplete true, .clockStart 0, .clockGate 0, .mpFrame [0, 0, 0, 0, 0, 0, 0], .mpLoadUpdate, .trendSample 0, .trendArchiveMove 0,
    .trendDumpCmd ⟨1, 2, 3, ⟨2, 15, 0, 5, 6, 7⟩⟩ 0, .trendTransferComplete true, .copDatagramRx ⟨⟨2, 15, 0, 5, 6, 7⟩, 0, false, false⟩ [], .copRead
    ⟨1, 2, 3, ⟨2, 15, 0, 5, 6, 7⟩⟩ 0 [], .copWrite ⟨1, 2, 3, ⟨2, 15, 0, 5, 6, 7⟩⟩ 0 [], .copDescribe ⟨1, 2, 3, ⟨2, 15, 0, 5, 6, 7⟩⟩ 0 [], .txnBegin
    ⟨1, 2, 3, ⟨2, 15, 0, 5, 6, 7⟩⟩, .txnCommit ⟨1, 2, 3, ⟨2, 15, 0, 5, 6, 7⟩⟩ 0, .txnRollback ⟨1, 2, 3, ⟨2, 15, 0, 5, 6, 7⟩⟩ 0, .commitTick,
    .responseTimeout 0, .txnIdleTimeout 0, .lbTxnBegin ⟨1, 2, 3, ⟨2, 15, 0, 5, 6, 7⟩⟩ 0, .lbTxnCommit ⟨1, 2, 3, ⟨2, 15, 0, 5, 6, 7⟩⟩ 0, .lbTxnRollback
    ⟨1, 2, 3, ⟨2, 15, 0, 5, 6, 7⟩⟩ 0, .entryWrite ⟨1, 2, 3, ⟨2, 15, 0, 5, 6, 7⟩⟩ 0 0 0 0, .pointScan, .bacnetReadProperty ⟨⟨2, 15, 0, 5, 6, 7⟩, 0,
    false, false⟩ [], .bacnetWriteProperty ⟨⟨2, 15, 0, 5, 6, 7⟩, 0, false, false⟩ [], .bacnetSubscribeCov ⟨⟨2, 15, 0, 5, 6, 7⟩, 0, false, false⟩ 0 0 0
    0 (some true) 0, .bacnetCovExpiry 0 0 0 0, .bacnetWhoIs ⟨⟨2, 15, 0, 5, 6, 7⟩, 0, false, false⟩ 0 0, .bacnetWhoHas ⟨⟨2, 15, 0, 5, 6, 7⟩, 0, false,
    false⟩ none (.object 1 3)] : List Instr).all (fun c => c.wf) = true := by decide +kernel

theorem test_wf_accepts_3 : ([
    .bacnetUnsupportedService ⟨⟨2, 15, 0, 5, 6, 7⟩, 0, false, false⟩ true 0, .bacnetFdRegistration, .eapolStartRepeat 0, .eapolFrameRx 0 .success,
    .dot1xExchangeTimeout 0, .dot1xHoldEnd 0, .commissionAdmission 0, .uplinkLinkUp 0 0, .uplinkLinkDown 0, .prpSilenceTimeout 0, .uplinkFaultClear 0,
    .uplinkFrameRx 0 ⟨64, 5, 6, none, none, none, .own⟩, .prpForgetExpiry 0 0, .prpSupervisionTx, .proxyEntryAgeout 0, .txFrameStart 0 [], .txUnderrun
    0, .txStartWrite ⟨1, 2, 3, ⟨2, 15, 0, 5, 6, 7⟩⟩ 0 0, .speedMaxWrite ⟨1, 2, 3, ⟨2, 15, 0, 5, 6, 7⟩⟩ 0 0, .ptpMessageRx 0 .pdelayReq,
    .ptpAnnounceTimeout, .mkaSecured ⟨0, 0⟩, .mkaRetry 0, .mkaBRestartTimeout, .standbyLinkRetry 0, .downshiftWindow 0 0, .speedShiftEnd 0 0,
    .downshiftDisable ⟨1, 2, 3, ⟨2, 15, 0, 5, 6, 7⟩⟩ 0, .mkaFailed 0, .fieldFrameRx 0 ⟨false, none, 0, false, 5, 6, 64, 0, none, none, []⟩] : List Instr).all (fun c => c.wf) = true := by decide +kernel

theorem test_wf_accepts_4 : ([
    .bcastWindowReset 0, .pseStart 0 0 true, .pseCheckRepeat 0 0 true, .pseClassificationDone (15, none) [], .psePowerGoodCheck 0 0 0,
    .pseOvercurrentTrip 0 0, .pseOverload 0 0, .pseUndervoltage 0 0 0, .pseDisconnect 0 0, .fieldPwrOutOfRange 0, .fieldPwrRecovered 0, .pseFaultRetry
    0, .pseResetCmd ⟨1, 2, 3, ⟨2, 15, 0, 5, 6, 7⟩⟩ 0, .pseInputOverBudget (List.replicate 16 (2 ^ 20 - 1, 2 ^ 16 - 1)), .plcaCycle 0 0 0,
    .t1sForeignBeacon 0, .t1sForeignClear 0, .t1sCollision ⟨7, true⟩, .t1sJabber 0, .t1sMediumStuck 0, .t1sBeaconRestart 0, .mstpToken 3 0 ⟨[], true,
    0⟩, .mstpTokenLoss 0, .mstpFrameRx 0 0 true true, .mstpDupClear 0, .modbusPollDue 0 0 0, .modbusReplyRx 0 .crcError, .modbusReplyTimeout 0,
    .modbusOutChange 0 0, .rs485BusFault 0] : List Instr).all (fun c => c.wf) = true := by decide +kernel

theorem test_wf_accepts_5 : ([
    .rs485BusIdle 0, .t1lLinkUp 0 true 0, .t1lLinkDown 0, .plcaPresenceAgeout 0 0, .mstpMasterAgeout 0 0, .lbPostedWrite 0 0 ⟨true, true⟩, .lbwGo,
    .lbwDoneRead, .waferRefresh 0, .bspTrain, .bspAligned, .bspRetrain 0, .bspFrameRx [], .bspCreditRx 0 0 0, .bspCreditTimeout, .bspEnableWrite ⟨1,
    2, 3, ⟨2, 15, 0, 5, 6, 7⟩⟩ 0, .analogueSample 0 0 0 0, .anaOutWrite ⟨1, 2, 3, ⟨2, 15, 0, 5, 6, 7⟩⟩ 0 0, .channelFirstSample 0 0 0,
    .anaConditionChange 0 0 0 true, .complianceSet 0 0 true, .complianceClear 31 ⟨0, true⟩, .miswireDetect 0 0 0 0 0, .miswireClear 0 0 0,
    .hartIdentify 0, .hartIdentifyRetry 0, .hartModemVisit 0, .hartReplyRx 0 ⟨false, false, 0, 0, 0, 0, [], []⟩, .hartReplyTimeout 0,
    .hartPassthroughReq ⟨1, 2, 3, ⟨2, 15, 0, 5, 6, 7⟩⟩ 0 0] : List Instr).all (fun c => c.wf) = true := by decide +kernel

theorem test_wf_accepts_6 : ([
    .referenceCompare 0 0, .turnoverStepDue 0, .spareCalibrationDone 0 [] 0, .turnoverCheckEnd 0 0 true, .checkRepeat 0, .crossFadeStart ⟨5, .sample,
    0⟩, .crossFadeEnd 0, .releasedCalibrationDone 0 [] 0, .calStepNow ⟨1, 2, 3, ⟨2, 15, 0, 5, 6, 7⟩⟩ 0 0, .calRunClear ⟨1, 2, 3, ⟨2, 15, 0, 5, 6, 7⟩⟩
    0 0, .liveConverterFailure 0 0 ⟨0, 0⟩, .lineCycleEnd ⟨⟨0, 0, 0, 0, 0⟩, ⟨7, []⟩⟩, .voltageLoss 0, .intervalBoundary 0, .pulseStart 0, .pulseEnd 0,
    .pulseConstWrite ⟨1, 2, 3, ⟨2, 15, 0, 5, 6, 7⟩⟩ 0 0, .vbatClear ⟨1, 2, 3, ⟨2, 15, 0, 5, 6, 7⟩⟩ 0, .captureCmd ⟨1, 2, 3, ⟨2, 15, 0, 5, 6, 7⟩⟩ 0,
    .captureStart 0, .captureComplete true, .timedLineCycleEnd ⟨7, []⟩, .loopSample 0 true, .selfCheckDone true true true, .engineResyncComplete,
    .softSetpointWrite ⟨1, 2, 3, ⟨2, 15, 0, 5, 6, 7⟩⟩ 0 0, .ctlModeWrite ⟨1, 2, 3, ⟨2, 15, 0, 5, 6, 7⟩⟩ 0 0, .repMemoryClear ⟨1, 2, 3, ⟨2, 15, 0, 5,
    6, 7⟩⟩ 0 0, .motionTick [] none, .stepPulse 0 0] : List Instr).all (fun c => c.wf) = true := by decide +kernel

theorem test_wf_accepts_7 : ([
    .idleCurrentReduce 0, .motTargetWrite ⟨1, 2, 3, ⟨2, 15, 0, 5, 6, 7⟩⟩ 0 0, .referenceCmd ⟨1, 2, 3, ⟨2, 15, 0, 5, 6, 7⟩⟩ 0 0, .referenceSettled 0,
    .referenceBackoffDone 0, .switchEdgeLatch 0 0 true 0 0, .encoderIllegalTransition 0, .encoderEdgeCount 0 true, .liftCycle, .driveStatusFrameRx 0 0
    [], .driveLinkLost 0, .driveLinkRestored 0, .magnetiseTimeout 0, .brakeOpenTimeout 0, .followingError 0, .brakeReleaseDelay 0, .learnRunCmd ⟨1, 2,
    3, ⟨2, 15, 0, 5, 6, 7⟩⟩ 0 0, .learnRunEnd 0, .liftFaultReset ⟨1, 2, 3, ⟨2, 15, 0, 5, 6, 7⟩⟩ 0 0, .relevelStart 0, .liftCall ⟨1, 2, 3, ⟨2, 15, 0,
    5, 6, 7⟩⟩ 0 0, .liftStatusPublish 0, .parkTimeout 0, .doorDwellExpiry 0, .nudgeTimeout 0, .blockedOpeningRetry 0, .islandCycle ⟨0, 0, 0, 0, [],
    true, true, true⟩, .inputTestPulse 0 true true true, .outputTestPulse 0 true 0 0 true true, .outputOverload 0] : List Instr).all (fun c => c.wf) = true := by decide +kernel

theorem test_wf_accepts_8 : ([
    .macaronProducerSend 0, .macaronCopyRx 0 0 [], .macaronSkewExpiry 0, .macaronWatchdog 0, .safAck ⟨1, 2, 3, ⟨2, 15, 0, 5, 6, 7⟩⟩ 0, .safUcmAck ⟨1,
    2, 3, ⟨2, 15, 0, 5, 6, 7⟩⟩ 0 0, .safHoldExit ⟨1, 2, 3, ⟨2, 15, 0, 5, 6, 7⟩⟩ 0, .programCycleStart 0 0, .programCycleEnd 0 0 [], .programOverrun 0,
    .overrunWarnClear 0, .programTrap 0 true 0, .programRunWrite ⟨1, 2, 3, ⟨2, 15, 0, 5, 6, 7⟩⟩ 0 0, .stageCheckCmd ⟨1, 2, 3, ⟨2, 15, 0, 5, 6, 7⟩⟩ 0
    0, .stageCheckDone 0, .programExchange ⟨1, 2, 3, ⟨2, 15, 0, 5, 6, 7⟩⟩ 0 0, .rtcSecondBoundary, .rtcSecondsWrite ⟨1, 2, 3, ⟨2, 15, 0, 5, 6, 7⟩⟩ 0,
    .rtcCalWrite ⟨1, 2, 3, ⟨2, 15, 0, 5, 6, 7⟩⟩ 0, .rtcShiftWrite ⟨1, 2, 3, ⟨2, 15, 0, 5, 6, 7⟩⟩ 0, .rtcSyncCompare, .vbatSwitchOver, .vaonSwitchBack,
    .vbatMeasure 0, .backupDomainBrownout, .storeCmd ⟨1, 2, 3, ⟨2, 15, 0, 5, 6, 7⟩⟩ 0, .storeStart, .storeComplete true 0, .allowanceReplenish,
    .recorderFlush] : List Instr).all (fun c => c.wf) = true := by decide +kernel

theorem test_wf_accepts_9 : ([
    .recordMove true, .recReadRequest ⟨1, 2, 3, ⟨2, 15, 0, 5, 6, 7⟩⟩ 0 0, .recContextExpiry 0, .recDump ⟨1, 2, 3, ⟨2, 15, 0, 5, 6, 7⟩⟩ 0,
    .recDumpEraseTimeout, .recDumpComplete true, .recClear ⟨1, 2, 3, ⟨2, 15, 0, 5, 6, 7⟩⟩ 0, .recClearApply, .updBegin ⟨1, 2, 3, ⟨2, 15, 0, 5, 6, 7⟩⟩
    0, .updBlock ⟨1, 2, 3, ⟨2, 15, 0, 5, 6, 7⟩⟩ 0, .blockProgrammed, .bspImageBlock, .updVerify ⟨1, 2, 3, ⟨2, 15, 0, 5, 6, 7⟩⟩ 0, .verifyComplete
    true, .updActivate ⟨1, 2, 3, ⟨2, 15, 0, 5, 6, 7⟩⟩ 0, .updHealthOk ⟨1, 2, 3, ⟨2, 15, 0, 5, 6, 7⟩⟩ 0, .probationExpiry, .keyReplace ⟨1, 2, 3, ⟨2,
    15, 0, 5, 6, 7⟩⟩ 0, .vmainMeasure 0 0 0, .vsafeLow 0, .vsafeRecover 0, .tempMeasure 0 0] : List Instr).all (fun c => c.wf) = true := by decide +kernel

theorem test_wf_refuses_1 : ([
    .powerOnReset { clean with health := 65536 }, .powerFail 0 [(0, ⟨8, []⟩)], .internalRailFault 0 [(0, ⟨8, []⟩)], .holdupStoreComplete true 0
    { clean with health := 65536 }, .watchdogReset { clean with health := 65536 }, .softwareReset ⟨256, 2, 3, ⟨2, 15, 0, 5, 6, 7⟩⟩ clean,
    .softwareReset ⟨1, 2, 3, ⟨2, 15, 0, 5, 6, 7⟩⟩ { clean with health := 65536 }, .mprCommand ⟨256, 2, 3, ⟨2, 15, 0, 5, 6, 7⟩⟩, .actReset
    { clean with health := 65536 }, .reservoirCharged 2, .reservoirChargeTimeout 2, .reservoirChargeRetry 2, .hourlyHoldTest 2, .holdTestCmd ⟨256, 2,
    3, ⟨2, 15, 0, 5, 6, 7⟩⟩ 0, .holdTestCmd ⟨1, 2, 3, ⟨2, 15, 0, 5, 6, 7⟩⟩ (2 ^ 8), .modeRequest ⟨256, 2, 3, ⟨2, 15, 0, 5, 6, 7⟩⟩ 0, .modeRequest ⟨1,
    2, 3, ⟨2, 15, 0, 5, 6, 7⟩⟩ (2 ^ 8), .wakePin { clean with health := 65536 }, .wakeTimed { clean with health := 65536 }, .wakePatternMatch 2 ⟨[],
    true⟩ clean, .wakePatternMatch 0 ⟨[256], true⟩ clean, .wakePatternMatch 0 ⟨[], true⟩ { clean with health := 65536 }, .parityMismatch 15 0 [] 0
    .mirrored, .parityMismatch 0 (2 ^ 33) [] 0 .mirrored, .parityMismatch 0 0 [2 ^ 33] 0 .mirrored, .dramPageRetireComplete ⟨0, 0, [(0, 2 ^ 32)]⟩,
    .fabricAccessRefused ⟨.unit 15, .dram, .plain⟩ 0, .faultRetestCmd ⟨256, 2, 3, ⟨2, 15, 0, 5, 6, 7⟩⟩ 0, .faultRetestCmd ⟨1, 2, 3, ⟨2, 15, 0, 5, 6,
    7⟩⟩ (2 ^ 8), .mpFrame []] : List Instr).all (fun c => !c.wf) = true := by decide +kernel

theorem test_wf_refuses_2 : ([
    .trendSample 8192, .trendDumpCmd ⟨256, 2, 3, ⟨2, 15, 0, 5, 6, 7⟩⟩ 0, .trendDumpCmd ⟨1, 2, 3, ⟨2, 15, 0, 5, 6, 7⟩⟩ (2 ^ 192), .copDatagramRx ⟨⟨2,
    15, 0, 5, 6, 7⟩, 256, false, false⟩ [], .copDatagramRx ⟨⟨2, 15, 0, 5, 6, 7⟩, 0, false, false⟩ [256], .copRead ⟨256, 2, 3, ⟨2, 15, 0, 5, 6, 7⟩⟩ 0
    [], .copRead ⟨1, 2, 3, ⟨2, 15, 0, 5, 6, 7⟩⟩ (2 ^ 16) [], .copRead ⟨1, 2, 3, ⟨2, 15, 0, 5, 6, 7⟩⟩ 0 [⟨65536, 0, 1, 1, []⟩], .copWrite ⟨256, 2, 3,
    ⟨2, 15, 0, 5, 6, 7⟩⟩ 0 [], .copWrite ⟨1, 2, 3, ⟨2, 15, 0, 5, 6, 7⟩⟩ (2 ^ 16) [], .copWrite ⟨1, 2, 3, ⟨2, 15, 0, 5, 6, 7⟩⟩ 0 [⟨65536, 0, 1, 1,
    []⟩], .copDescribe ⟨256, 2, 3, ⟨2, 15, 0, 5, 6, 7⟩⟩ 0 [], .copDescribe ⟨1, 2, 3, ⟨2, 15, 0, 5, 6, 7⟩⟩ (2 ^ 16) [], .copDescribe ⟨1, 2, 3, ⟨2, 15,
    0, 5, 6, 7⟩⟩ 0 [⟨65536, 0, 1, 1, []⟩], .txnBegin ⟨256, 2, 3, ⟨2, 15, 0, 5, 6, 7⟩⟩, .txnCommit ⟨256, 2, 3, ⟨2, 15, 0, 5, 6, 7⟩⟩ 0, .txnCommit ⟨1,
    2, 3, ⟨2, 15, 0, 5, 6, 7⟩⟩ (2 ^ 16), .txnRollback ⟨256, 2, 3, ⟨2, 15, 0, 5, 6, 7⟩⟩ 0, .txnRollback ⟨1, 2, 3, ⟨2, 15, 0, 5, 6, 7⟩⟩ (2 ^ 16),
    .txnIdleTimeout 9, .lbTxnBegin ⟨256, 2, 3, ⟨2, 15, 0, 5, 6, 7⟩⟩ 0, .lbTxnBegin ⟨1, 2, 3, ⟨2, 15, 0, 5, 6, 7⟩⟩ (2 ^ 8), .lbTxnCommit ⟨256, 2, 3,
    ⟨2, 15, 0, 5, 6, 7⟩⟩ 0, .lbTxnCommit ⟨1, 2, 3, ⟨2, 15, 0, 5, 6, 7⟩⟩ (2 ^ 8), .lbTxnRollback ⟨256, 2, 3, ⟨2, 15, 0, 5, 6, 7⟩⟩ 0, .lbTxnRollback ⟨1,
    2, 3, ⟨2, 15, 0, 5, 6, 7⟩⟩ (2 ^ 8), .entryWrite ⟨256, 2, 3, ⟨2, 15, 0, 5, 6, 7⟩⟩ 0 0 0 0, .entryWrite ⟨1, 2, 3, ⟨2, 15, 0, 5, 6, 7⟩⟩ (2 ^ 16) 0 0
    0, .entryWrite ⟨1, 2, 3, ⟨2, 15, 0, 5, 6, 7⟩⟩ 0 (2 ^ 16) 0 0, .entryWrite ⟨1, 2, 3, ⟨2, 15, 0, 5, 6, 7⟩⟩ 0 0 (2 ^ 8) 0] : List Instr).all (fun c => !c.wf) = true := by decide +kernel

theorem test_wf_refuses_3 : ([
    .bacnetReadProperty ⟨⟨2, 15, 0, 5, 6, 7⟩, 256, false, false⟩ [], .bacnetReadProperty ⟨⟨2, 15, 0, 5, 6, 7⟩, 0, false, false⟩ [(1024, 0, 85)],
    .bacnetWriteProperty ⟨⟨2, 15, 0, 5, 6, 7⟩, 256, false, false⟩ [], .bacnetWriteProperty ⟨⟨2, 15, 0, 5, 6, 7⟩, 0, false, false⟩ [⟨1, 3, 85, some
    256, none, true⟩], .bacnetSubscribeCov ⟨⟨2, 15, 0, 5, 6, 7⟩, 256, false, false⟩ 0 0 0 0 (some true) 0, .bacnetSubscribeCov ⟨⟨2, 15, 0, 5, 6, 7⟩,
    0, false, false⟩ 0 0 (2 ^ 10) 0 (some true) 0, .bacnetSubscribeCov ⟨⟨2, 15, 0, 5, 6, 7⟩, 0, false, false⟩ 0 0 0 (2 ^ 22) (some true) 0,
    .bacnetCovExpiry 0 0 (2 ^ 10) 0, .bacnetCovExpiry 0 0 0 (2 ^ 22), .bacnetWhoIs ⟨⟨2, 15, 0, 5, 6, 7⟩, 256, false, false⟩ 0 0, .bacnetWhoHas ⟨⟨2,
    15, 0, 5, 6, 7⟩, 256, false, false⟩ none (.object 1 3), .bacnetWhoHas ⟨⟨2, 15, 0, 5, 6, 7⟩, 0, false, false⟩ none (.object 1024 3),
    .bacnetUnsupportedService ⟨⟨2, 15, 0, 5, 6, 7⟩, 256, false, false⟩ true 0, .eapolStartRepeat 2, .eapolFrameRx 2 .success, .dot1xExchangeTimeout 2,
    .dot1xHoldEnd 2, .commissionAdmission 2, .uplinkLinkUp 2 0, .uplinkLinkDown 2, .prpSilenceTimeout 2, .uplinkFaultClear 2, .uplinkFrameRx 2 ⟨64, 5,
    6, none, none, none, .own⟩, .uplinkFrameRx 0 ⟨64, 5, 6, some (1, 8), none, none, .own⟩, .prpForgetExpiry (2 ^ 48) 0, .prpForgetExpiry 0 (2 ^ 16),
    .proxyEntryAgeout (2 ^ 48), .txFrameStart 2 [], .txFrameStart 0 (List.replicate 9 0), .txUnderrun 2] : List Instr).all (fun c => !c.wf) = true := by decide +kernel

theorem test_wf_refuses_4 : ([
    .txStartWrite ⟨256, 2, 3, ⟨2, 15, 0, 5, 6, 7⟩⟩ 0 0, .txStartWrite ⟨1, 2, 3, ⟨2, 15, 0, 5, 6, 7⟩⟩ (2 ^ 16) 0, .txStartWrite ⟨1, 2, 3, ⟨2, 15, 0, 5,
    6, 7⟩⟩ 0 (2 ^ 16), .speedMaxWrite ⟨256, 2, 3, ⟨2, 15, 0, 5, 6, 7⟩⟩ 0 0, .speedMaxWrite ⟨1, 2, 3, ⟨2, 15, 0, 5, 6, 7⟩⟩ (2 ^ 16) 0, .speedMaxWrite
    ⟨1, 2, 3, ⟨2, 15, 0, 5, 6, 7⟩⟩ 0 (2 ^ 16), .ptpMessageRx 2 .pdelayReq, .mkaSecured ⟨2, 0⟩, .mkaSecured ⟨0, 2 ^ 64⟩, .mkaRetry 2, .standbyLinkRetry
    2, .downshiftWindow 2 0, .speedShiftEnd 2 0, .downshiftDisable ⟨256, 2, 3, ⟨2, 15, 0, 5, 6, 7⟩⟩ 0, .downshiftDisable ⟨1, 2, 3, ⟨2, 15, 0, 5, 6,
    7⟩⟩ (2 ^ 8), .mkaFailed 2, .fieldFrameRx 24 ⟨false, none, 0, false, 5, 6, 64, 0, none, none, []⟩, .fieldFrameRx 0 ⟨false, none, 0, false, 5, 6,
    64, 0, none, some 2, []⟩, .bcastWindowReset 24, .pseStart 16 0 true, .pseCheckRepeat 16 0 true, .pseClassificationDone (16, none) [],
    .pseClassificationDone (0, none) [(16, none)], .psePowerGoodCheck 16 0 0, .pseOvercurrentTrip 16 0, .pseOverload 16 0, .pseUndervoltage 16 0 0,
    .pseDisconnect 16 0, .pseFaultRetry 16, .pseResetCmd ⟨256, 2, 3, ⟨2, 15, 0, 5, 6, 7⟩⟩ 0] : List Instr).all (fun c => !c.wf) = true := by decide +kernel

theorem test_wf_refuses_5 : ([
    .pseResetCmd ⟨1, 2, 3, ⟨2, 15, 0, 5, 6, 7⟩⟩ (2 ^ 8), .pseInputOverBudget (List.replicate 17 (0, 0)), .pseInputOverBudget [(2 ^ 20, 0)],
    .pseInputOverBudget [(0, 2 ^ 16)], .plcaCycle 8 0 0, .t1sForeignBeacon 8, .t1sForeignClear 8, .t1sCollision ⟨8, true⟩, .t1sJabber 8,
    .t1sMediumStuck 8, .t1sBeaconRestart 8, .mstpToken 4 0 ⟨[], true, 0⟩, .mstpToken 0 0 ⟨[256], true, 0⟩, .mstpToken 0 0 ⟨[], true, 256⟩,
    .mstpTokenLoss 4, .mstpFrameRx 4 0 true true, .mstpFrameRx 0 (2 ^ 8) true true, .mstpDupClear 4, .modbusPollDue 4 0 0, .modbusPollDue 0 (2 ^ 8) 0,
    .modbusReplyRx 4 .crcError, .modbusReplyRx 0 (.exception 256), .modbusReplyTimeout 4, .modbusOutChange 4 0, .modbusOutChange 0 (2 ^ 8),
    .rs485BusFault 4, .rs485BusIdle 4, .t1lLinkUp 16 true 0, .t1lLinkDown 16, .plcaPresenceAgeout 8 0] : List Instr).all (fun c => !c.wf) = true := by decide +kernel

theorem test_wf_refuses_6 : ([
    .plcaPresenceAgeout 0 (2 ^ 8), .mstpMasterAgeout 4 0, .mstpMasterAgeout 0 (2 ^ 8), .lbPostedWrite (2 ^ 16) 0 ⟨true, true⟩, .lbPostedWrite 0 (2 ^
    32) ⟨true, true⟩, .waferRefresh (2 ^ 16), .bspFrameRx [256], .bspCreditRx (2 ^ 16) 0 0, .bspCreditRx 0 (2 ^ 8) 0, .bspCreditRx 0 0 (2 ^ 8),
    .bspEnableWrite ⟨256, 2, 3, ⟨2, 15, 0, 5, 6, 7⟩⟩ 0, .bspEnableWrite ⟨1, 2, 3, ⟨2, 15, 0, 5, 6, 7⟩⟩ (2 ^ 8), .analogueSample 32 0 0 0,
    .analogueSample 0 (2 ^ 32) 0 0, .analogueSample 0 0 (2 ^ 32) 0, .analogueSample 0 0 0 (2 ^ 32), .anaOutWrite ⟨256, 2, 3, ⟨2, 15, 0, 5, 6, 7⟩⟩ 0 0,
    .anaOutWrite ⟨1, 2, 3, ⟨2, 15, 0, 5, 6, 7⟩⟩ (2 ^ 16) 0, .anaOutWrite ⟨1, 2, 3, ⟨2, 15, 0, 5, 6, 7⟩⟩ 0 (2 ^ 32), .channelFirstSample 32 0 0,
    .channelFirstSample 0 (2 ^ 32) 0, .channelFirstSample 0 0 (2 ^ 32), .anaConditionChange 32 0 0 true, .anaConditionChange 0 4 0 true,
    .anaConditionChange 0 0 (2 ^ 32) true, .complianceSet 32 0 true, .complianceSet 0 (2 ^ 32) true, .complianceClear 32 ⟨0, true⟩, .complianceClear 0
    ⟨2 ^ 32, true⟩, .miswireDetect 32 0 0 0 0] : List Instr).all (fun c => !c.wf) = true := by decide +kernel

theorem test_wf_refuses_7 : ([
    .miswireClear 32 0 0, .hartIdentify 32, .hartIdentifyRetry 32, .hartModemVisit 8, .hartReplyRx 8 ⟨false, false, 0, 0, 0, 0, [], []⟩, .hartReplyRx
    0 ⟨false, false, 0, 0, 2 ^ 40, 0, [], []⟩, .hartReplyTimeout 8, .hartPassthroughReq ⟨256, 2, 3, ⟨2, 15, 0, 5, 6, 7⟩⟩ 0 0, .hartPassthroughReq ⟨1,
    2, 3, ⟨2, 15, 0, 5, 6, 7⟩⟩ (2 ^ 16) 0, .hartPassthroughReq ⟨1, 2, 3, ⟨2, 15, 0, 5, 6, 7⟩⟩ 0 (2 ^ 560), .turnoverStepDue 6, .spareCalibrationDone 6
    [] 0, .turnoverCheckEnd 6 0 true, .turnoverCheckEnd 0 (2 ^ 32) true, .checkRepeat 6, .crossFadeStart ⟨6, .sample, 0⟩, .crossFadeStart ⟨0,
    .crossing 6, 0⟩, .crossFadeEnd 6, .releasedCalibrationDone 6 [] 0, .calStepNow ⟨256, 2, 3, ⟨2, 15, 0, 5, 6, 7⟩⟩ 0 0, .calStepNow ⟨1, 2, 3, ⟨2, 15,
    0, 5, 6, 7⟩⟩ (2 ^ 16) 0, .calStepNow ⟨1, 2, 3, ⟨2, 15, 0, 5, 6, 7⟩⟩ 0 (2 ^ 8), .calRunClear ⟨256, 2, 3, ⟨2, 15, 0, 5, 6, 7⟩⟩ 0 0, .calRunClear ⟨1,
    2, 3, ⟨2, 15, 0, 5, 6, 7⟩⟩ (2 ^ 16) 0, .calRunClear ⟨1, 2, 3, ⟨2, 15, 0, 5, 6, 7⟩⟩ 0 (2 ^ 8), .liveConverterFailure 6 0 ⟨0, 0⟩,
    .liveConverterFailure 0 15 ⟨0, 0⟩, .lineCycleEnd ⟨⟨3, 0, 0, 0, 0⟩, ⟨7, []⟩⟩, .lineCycleEnd ⟨⟨0, 0, 0, 0, 0⟩, ⟨8, []⟩⟩, .voltageLoss 6] : List Instr).all (fun c => !c.wf) = true := by decide +kernel

theorem test_wf_refuses_8 : ([
    .intervalBoundary (2 ^ 64), .pulseStart 8, .pulseEnd 8, .pulseConstWrite ⟨256, 2, 3, ⟨2, 15, 0, 5, 6, 7⟩⟩ 0 0, .pulseConstWrite ⟨1, 2, 3, ⟨2, 15,
    0, 5, 6, 7⟩⟩ (2 ^ 16) 0, .pulseConstWrite ⟨1, 2, 3, ⟨2, 15, 0, 5, 6, 7⟩⟩ 0 (2 ^ 32), .vbatClear ⟨256, 2, 3, ⟨2, 15, 0, 5, 6, 7⟩⟩ 0, .vbatClear ⟨1,
    2, 3, ⟨2, 15, 0, 5, 6, 7⟩⟩ (2 ^ 16), .captureCmd ⟨256, 2, 3, ⟨2, 15, 0, 5, 6, 7⟩⟩ 0, .captureCmd ⟨1, 2, 3, ⟨2, 15, 0, 5, 6, 7⟩⟩ (2 ^ 8),
    .timedLineCycleEnd ⟨8, []⟩, .loopSample 1024 true, .softSetpointWrite ⟨256, 2, 3, ⟨2, 15, 0, 5, 6, 7⟩⟩ 0 0, .softSetpointWrite ⟨1, 2, 3, ⟨2, 15,
    0, 5, 6, 7⟩⟩ (2 ^ 16) 0, .softSetpointWrite ⟨1, 2, 3, ⟨2, 15, 0, 5, 6, 7⟩⟩ 0 (2 ^ 32), .ctlModeWrite ⟨256, 2, 3, ⟨2, 15, 0, 5, 6, 7⟩⟩ 0 0,
    .ctlModeWrite ⟨1, 2, 3, ⟨2, 15, 0, 5, 6, 7⟩⟩ (2 ^ 16) 0, .ctlModeWrite ⟨1, 2, 3, ⟨2, 15, 0, 5, 6, 7⟩⟩ 0 (2 ^ 8), .repMemoryClear ⟨256, 2, 3, ⟨2,
    15, 0, 5, 6, 7⟩⟩ 0 0, .repMemoryClear ⟨1, 2, 3, ⟨2, 15, 0, 5, 6, 7⟩⟩ (2 ^ 16) 0, .repMemoryClear ⟨1, 2, 3, ⟨2, 15, 0, 5, 6, 7⟩⟩ 0 (2 ^ 8),
    .motionTick [⟨16, 0, 0⟩] none, .stepPulse 16 0, .idleCurrentReduce 16, .motTargetWrite ⟨256, 2, 3, ⟨2, 15, 0, 5, 6, 7⟩⟩ 0 0, .motTargetWrite ⟨1,
    2, 3, ⟨2, 15, 0, 5, 6, 7⟩⟩ (2 ^ 16) 0, .motTargetWrite ⟨1, 2, 3, ⟨2, 15, 0, 5, 6, 7⟩⟩ 0 (2 ^ 64), .referenceCmd ⟨256, 2, 3, ⟨2, 15, 0, 5, 6, 7⟩⟩ 0
    0, .referenceCmd ⟨1, 2, 3, ⟨2, 15, 0, 5, 6, 7⟩⟩ (2 ^ 16) 0, .referenceCmd ⟨1, 2, 3, ⟨2, 15, 0, 5, 6, 7⟩⟩ 0 (2 ^ 8)] : List Instr).all (fun c => !c.wf) = true := by decide +kernel

theorem test_wf_refuses_9 : ([
    .referenceSettled 16, .referenceBackoffDone 16, .switchEdgeLatch 2 0 true 0 0, .switchEdgeLatch 0 3 true 0 0, .switchEdgeLatch 0 0 true 0 (2 ^
    64), .encoderIllegalTransition 2, .encoderEdgeCount 2 true, .driveStatusFrameRx 2 0 [], .driveStatusFrameRx 0 (2 ^ 48) [], .driveStatusFrameRx 0 0
    [256], .driveLinkLost 2, .driveLinkRestored 2, .magnetiseTimeout 2, .brakeOpenTimeout 2, .followingError 2, .brakeReleaseDelay 2, .learnRunCmd
    ⟨256, 2, 3, ⟨2, 15, 0, 5, 6, 7⟩⟩ 0 0, .learnRunCmd ⟨1, 2, 3, ⟨2, 15, 0, 5, 6, 7⟩⟩ (2 ^ 16) 0, .learnRunCmd ⟨1, 2, 3, ⟨2, 15, 0, 5, 6, 7⟩⟩ 0 (2 ^
    8), .learnRunEnd 2, .liftFaultReset ⟨256, 2, 3, ⟨2, 15, 0, 5, 6, 7⟩⟩ 0 0, .liftFaultReset ⟨1, 2, 3, ⟨2, 15, 0, 5, 6, 7⟩⟩ (2 ^ 16) 0,
    .liftFaultReset ⟨1, 2, 3, ⟨2, 15, 0, 5, 6, 7⟩⟩ 0 (2 ^ 8), .relevelStart 2, .liftCall ⟨256, 2, 3, ⟨2, 15, 0, 5, 6, 7⟩⟩ 0 0, .liftCall ⟨1, 2, 3, ⟨2,
    15, 0, 5, 6, 7⟩⟩ (2 ^ 16) 0, .liftCall ⟨1, 2, 3, ⟨2, 15, 0, 5, 6, 7⟩⟩ 0 (2 ^ 64), .liftStatusPublish 2, .parkTimeout 2, .doorDwellExpiry 2] : List Instr).all (fun c => !c.wf) = true := by decide +kernel

theorem test_wf_refuses_10 : ([
    .nudgeTimeout 2, .blockedOpeningRetry 4, .islandCycle ⟨65536, 0, 0, 0, [], true, true, true⟩, .inputTestPulse 16 true true true, .outputTestPulse
    8 true 0 0 true true, .outputOverload 8, .macaronProducerSend 32, .macaronCopyRx 2 0 [], .macaronCopyRx 0 (2 ^ 48) [], .macaronCopyRx 0 0 [256],
    .macaronSkewExpiry 32, .macaronWatchdog 32, .safAck ⟨256, 2, 3, ⟨2, 15, 0, 5, 6, 7⟩⟩ 0, .safAck ⟨1, 2, 3, ⟨2, 15, 0, 5, 6, 7⟩⟩ (2 ^ 16),
    .safUcmAck ⟨256, 2, 3, ⟨2, 15, 0, 5, 6, 7⟩⟩ 0 0, .safUcmAck ⟨1, 2, 3, ⟨2, 15, 0, 5, 6, 7⟩⟩ (2 ^ 16) 0, .safUcmAck ⟨1, 2, 3, ⟨2, 15, 0, 5, 6, 7⟩⟩ 0
    (2 ^ 16), .safHoldExit ⟨256, 2, 3, ⟨2, 15, 0, 5, 6, 7⟩⟩ 0, .safHoldExit ⟨1, 2, 3, ⟨2, 15, 0, 5, 6, 7⟩⟩ (2 ^ 16), .programCycleStart 4 0,
    .programCycleStart 0 (2 ^ 64), .programCycleEnd 4 0 [], .programCycleEnd 0 (2 ^ 64) [], .programCycleEnd 0 0 [(0, [256])], .programOverrun 4,
    .overrunWarnClear 4, .programTrap 4 true 0, .programTrap 0 true (2 ^ 32), .programRunWrite ⟨256, 2, 3, ⟨2, 15, 0, 5, 6, 7⟩⟩ 0 0, .programRunWrite
    ⟨1, 2, 3, ⟨2, 15, 0, 5, 6, 7⟩⟩ (2 ^ 16) 0] : List Instr).all (fun c => !c.wf) = true := by decide +kernel

theorem test_wf_refuses_11 : ([
    .programRunWrite ⟨1, 2, 3, ⟨2, 15, 0, 5, 6, 7⟩⟩ 0 (2 ^ 8), .stageCheckCmd ⟨256, 2, 3, ⟨2, 15, 0, 5, 6, 7⟩⟩ 0 0, .stageCheckCmd ⟨1, 2, 3, ⟨2, 15,
    0, 5, 6, 7⟩⟩ (2 ^ 16) 0, .stageCheckCmd ⟨1, 2, 3, ⟨2, 15, 0, 5, 6, 7⟩⟩ 0 (2 ^ 8), .stageCheckDone 4, .programExchange ⟨256, 2, 3, ⟨2, 15, 0, 5, 6,
    7⟩⟩ 0 0, .programExchange ⟨1, 2, 3, ⟨2, 15, 0, 5, 6, 7⟩⟩ (2 ^ 16) 0, .programExchange ⟨1, 2, 3, ⟨2, 15, 0, 5, 6, 7⟩⟩ 0 (2 ^ 64), .rtcSecondsWrite
    ⟨256, 2, 3, ⟨2, 15, 0, 5, 6, 7⟩⟩ 0, .rtcSecondsWrite ⟨1, 2, 3, ⟨2, 15, 0, 5, 6, 7⟩⟩ (2 ^ 64), .rtcCalWrite ⟨256, 2, 3, ⟨2, 15, 0, 5, 6, 7⟩⟩ 0,
    .rtcCalWrite ⟨1, 2, 3, ⟨2, 15, 0, 5, 6, 7⟩⟩ (2 ^ 64), .rtcShiftWrite ⟨256, 2, 3, ⟨2, 15, 0, 5, 6, 7⟩⟩ 0, .rtcShiftWrite ⟨1, 2, 3, ⟨2, 15, 0, 5, 6,
    7⟩⟩ (2 ^ 16), .storeCmd ⟨256, 2, 3, ⟨2, 15, 0, 5, 6, 7⟩⟩ 0, .storeCmd ⟨1, 2, 3, ⟨2, 15, 0, 5, 6, 7⟩⟩ (2 ^ 8), .recReadRequest ⟨256, 2, 3, ⟨2, 15,
    0, 5, 6, 7⟩⟩ 0 0, .recReadRequest ⟨1, 2, 3, ⟨2, 15, 0, 5, 6, 7⟩⟩ (2 ^ 16) 0, .recReadRequest ⟨1, 2, 3, ⟨2, 15, 0, 5, 6, 7⟩⟩ 0 (2 ^ 128),
    .recContextExpiry 8, .recDump ⟨256, 2, 3, ⟨2, 15, 0, 5, 6, 7⟩⟩ 0, .recDump ⟨1, 2, 3, ⟨2, 15, 0, 5, 6, 7⟩⟩ (2 ^ 128), .recClear ⟨256, 2, 3, ⟨2, 15,
    0, 5, 6, 7⟩⟩ 0, .recClear ⟨1, 2, 3, ⟨2, 15, 0, 5, 6, 7⟩⟩ (2 ^ 64), .updBegin ⟨256, 2, 3, ⟨2, 15, 0, 5, 6, 7⟩⟩ 0, .updBegin ⟨1, 2, 3, ⟨2, 15, 0, 5,
    6, 7⟩⟩ (2 ^ 32), .updBlock ⟨256, 2, 3, ⟨2, 15, 0, 5, 6, 7⟩⟩ 0, .updBlock ⟨1, 2, 3, ⟨2, 15, 0, 5, 6, 7⟩⟩ (2 ^ 128), .updVerify ⟨256, 2, 3, ⟨2, 15,
    0, 5, 6, 7⟩⟩ 0, .updVerify ⟨1, 2, 3, ⟨2, 15, 0, 5, 6, 7⟩⟩ (2 ^ 8)] : List Instr).all (fun c => !c.wf) = true := by decide +kernel

theorem test_wf_refuses_12 : ([
    .updActivate ⟨256, 2, 3, ⟨2, 15, 0, 5, 6, 7⟩⟩ 0, .updActivate ⟨1, 2, 3, ⟨2, 15, 0, 5, 6, 7⟩⟩ (2 ^ 32), .updHealthOk ⟨256, 2, 3, ⟨2, 15, 0, 5, 6,
    7⟩⟩ 0, .updHealthOk ⟨1, 2, 3, ⟨2, 15, 0, 5, 6, 7⟩⟩ (2 ^ 32), .keyReplace ⟨256, 2, 3, ⟨2, 15, 0, 5, 6, 7⟩⟩ 0, .keyReplace ⟨1, 2, 3, ⟨2, 15, 0, 5,
    6, 7⟩⟩ (2 ^ 1216)] : List Instr).all (fun c => !c.wf) = true := by decide +kernel

/-! ## The interface -/

/-- No row of the table gives a word bits. -/
theorem test_no_word_is_a_command : decodeTableWord 8 0x41 = none := rfl

/-- So placing a word in front of the queue leaves the state. -/
theorem test_withFetchWord : State.reset.withFetchWord 16 0xFFFF = State.reset := rfl

/-- The commands are taken first in, first out. -/
theorem test_queue_order :
    (match step { State.reset with pending := [.vbatSwitchOver, .vaonSwitchBack] } with
      | .next t => t.pending == [.vaonSwitchBack] && t.rtc.onVbat
      | _ => false) = true := by decide +kernel

/-- At the last count of the prescaler an idle step rolls the second over (R350). -/
theorem test_idle_rolls_over :
    (match step (st .run [(Od.rtc_subsec, 0, 32767), (Od.rtc_seconds, 0, 41)]) with
      | .next t => t.rd Od.rtc_seconds == 42 && t.rd Od.rtc_subsec == 0
      | _ => false) = true := by decide +kernel

/-- Reset meets the invariant of `Obligations.StepKeepsTheStoreCanonical`. -/
theorem test_reset_canonical : Canonical State.reset := by
  unfold Canonical
  decide +kernel

/-! ## Witnesses -/

theorem witness_ReservoirsChargeAndTest :
    (∃ (s : State) (r : Nat), powered s = true ∧ ((resOf s r).charging = true ∨ (s.mode = .boot ∧ (resOf s r).charged = false)) ∧ ∃ t, exec
    (.reservoirCharged r) s = .next t ∧ (resOf t r).charged = true ∧ (resOf t r).charging = false ∧ (resOf t r).chargeFailed = false ∧ t.od = s.od) ∧
    (∃ (s : State) (r : Nat), powered s = true ∧ (resOf s r).charging = true ∧ s.sys.testing = none ∧ s.sys.testQueue = [] ∧ (r = 0 ∨
    s.sys.res0.tested = true) ∧ ∃ t, exec (.reservoirCharged r) s = .next t ∧ t.sys.testing = some (if r = 0 then 0 else 1, false) ∧ t.sys.testQueue =
    []) ∧
    (∃ (s : State) (r : Nat), powered s = true ∧ ((resOf s r).charging = true ∨ (s.mode = .boot ∧ (resOf s r).charged = false ∧ (resOf s
    r).chargeFailed = false)) ∧ ∃ t, exec (.reservoirChargeTimeout r) s = .next t ∧ t.rdBit Od.sys_health (if r = 0 then 0 else 1) = true ∧ (resOf t
    r).chargeFailed = true ∧ (resOf t r).charging = false ∧ (resOf t r).charged = false) ∧
    (∃ (s : State) (r : Nat), powered s = true ∧ (resOf s r).chargeFailed = true ∧ (resOf s r).charging = false ∧ ∃ t, exec (.reservoirChargeRetry r)
    s = .next t ∧ resOf t r = { resOf s r with charging := true } ∧ t.od = s.od) ∧
    (∃ (s : State) (r : Nat), powered s = true ∧ (resOf s r).tested = true ∧ s.sys.testing = none ∧ s.sys.testQueue = [] ∧ (r = 0 ∨ s.sys.res0.tested
    = true) ∧ ∃ t, exec (.hourlyHoldTest r) s = .next t ∧ t.sys.testing = some (if r = 0 then 0 else 1, false) ∧ t.od = s.od) ∧
    (∃ (s : State) (r : Nat) (stepMv : Nat) (sinkMv : Nat), s.sys.testing = some (r, false) ∧ 10 ≤ sinkMv ∧ sinkMv < 65536 ∧ stepMv < 65536 ∧ ∃ t,
    exec (.holdTestComplete stepMv sinkMv) s = .next t ∧ t.rd Od.sys_hold_cap r = (600000 + sinkMv) / (2 * sinkMv) ∧ t.rd Od.sys_hold_esr r = stepMv ∧
    t.rd Od.sys_hold_energy r = holdEnergy ((600000 + sinkMv) / (2 * sinkMv)) ∧ t.rdBit Od.sys_health r = !(holdQualifies r ((600000 + sinkMv) / (2 *
    sinkMv)) stepMv) ∧ (s.sys.testQueue = [] → t.sys.testing = none)) :=
  ⟨⟨{ st .boot [] with sys := { res1 := { charging := true } } }, 1, by decide +kernel, by decide +kernel, ⟨_, rfl, by decide +kernel⟩⟩,
    ⟨{ st .run [] with sys := { res0 := { tested := true }, res1 := { charging := true } } }, 1, by decide +kernel, by decide +kernel,
    by decide +kernel, by decide +kernel, by decide +kernel, ⟨_, rfl, by decide +kernel⟩⟩,
    ⟨{ st .boot [] with sys := { } }, 0, by decide +kernel, by decide +kernel, ⟨_, rfl, by decide +kernel⟩⟩,
    ⟨{ st .run [] with sys := { res1 := { chargeFailed := true } } }, 1, by decide +kernel, by decide +kernel, by decide +kernel, ⟨_, rfl,
    by decide +kernel⟩⟩,
    ⟨{ st .run [] with sys := { res0 := { tested := true }, res1 := { tested := true } } }, 1, by decide +kernel, by decide +kernel,
    by decide +kernel, by decide +kernel, by decide +kernel, ⟨_, rfl, by decide +kernel⟩⟩,
    ⟨{ st .run [] with sys := { testing := some (0, false) } }, 0, 600, 10, by decide +kernel, by decide +kernel, by decide +kernel,
    by decide +kernel, ⟨_, rfl, by decide +kernel⟩⟩⟩

theorem witness_ManagementFramesAndClocks :
    (∃ (s : State) (demand : List Nat), powered s = true ∧ s.sys.mpHeld = false ∧ ∃ t, exec (.mpFrame demand) s = .next t ∧ t.od = s.od ∧
    t.sys.classWindow = (mpGrants (s.rd Od.sys_mp_deferred) demand :: s.sys.classWindow).take 10) ∧
    (∃ (s : State) (load : Nat), powered s = true ∧ s.sys.mpHeld = false ∧ s.sys.loadWindow.foldl (· + ·) 0 / 1000 = load ∧ 85 < load ∧ load ≤ 100 ∧ ∃
    t, exec .mpLoadUpdate s = .next t ∧ t.rd Od.sys_mp_load = load ∧ t.rd Od.sys_mp_deferred = 3 ∧ t.sys.lowFrames = 0) ∧
    (∃ (s : State), exec (.mpRestart true) s = .next s) ∧
    (∃ (s : State), powered s = true ∧ ∃ t, exec (.mpRestart false) s = .next t ∧ t.sys = { s.sys with mpHeld := true } ∧ t.od = s.od) ∧
    (∃ (s : State) (aheadUs : Nat), running s = true ∧ s.sys.mpHeld = false ∧ ∃ t, exec (.clockStart aheadUs) s = .next t ∧ t.rdBit Od.sys_clk_run 2 =
    true ∧ t.rdBit Od.sys_clk_run 3 = true ∧ (60 ≤ aheadUs → t.rd Od.sys_clk_late = s.rd Od.sys_clk_late)) ∧
    (∃ (s : State) (aheadUs : Nat), running s = true ∧ s.sys.mpHeld = false ∧ s.rdBit Od.sys_clk_run 2 = false ∧ aheadUs < 60 ∧ s.rd Od.sys_clk_late +
    1 < 2 ^ 32 ∧ ∃ t, exec (.clockStart aheadUs) s = .next t ∧ t.rd Od.sys_clk_late = s.rd Od.sys_clk_late + 1) ∧
    (∃ (s : State) (nextUs : Nat), running s = true ∧ s.sys.mpHeld = false ∧ 200 < nextUs ∧ clocksHeld s = false ∧ ∃ t, exec (.clockGate nextUs) s =
    .next t ∧ t.rdBit Od.sys_clk_run 2 = false ∧ t.rdBit Od.sys_clk_run 3 = false) :=
  ⟨⟨st .run [], [9, 0, 1, 0, 0, 0, 200], by decide +kernel, by decide +kernel, ⟨_, rfl, by decide +kernel⟩⟩,
    ⟨{ st .run [] with sys := { loadWindow := [86000] } }, 86, by decide +kernel, by decide +kernel, by decide +kernel, by decide +kernel,
    by decide +kernel, ⟨_, rfl, by decide +kernel⟩⟩,
    ⟨st .run [], congrArg Host.Outcome.next (by decide +kernel)⟩,
    ⟨st .run [], by decide +kernel, ⟨_, rfl, by decide +kernel⟩⟩,
    ⟨st .run [], 60, by decide +kernel, by decide +kernel, ⟨_, rfl, by decide +kernel⟩⟩,
    ⟨st .run [(Od.sys_clk_run, 0, 3)], 59, by decide +kernel, by decide +kernel, by decide +kernel, by decide +kernel, by decide +kernel, ⟨_, rfl,
    by decide +kernel⟩⟩,
    ⟨st .run [(Od.sys_clk_run, 0, 255)], 201, by decide +kernel, by decide +kernel, by decide +kernel, by decide +kernel, ⟨_, rfl, by decide +kernel⟩⟩⟩

theorem witness_FabricFaultsAreCountedAndRetested :
    (∃ (s : State) (initiator : Nat) (w1 : Nat) (w2 : Nat) (w3 : Nat) (w4 : Nat) (address : Nat) (cls : PageClass), fabricRuns s = true ∧ initiator <
    15 ∧ parityOk w1 = false ∧ (parityOk w2 = true ∨ parityOk w3 = true ∨ parityOk w4 = true) ∧ exec (.parityMismatch initiator w1 [w2, w3, w4]
    address cls) s = .next (s.count Od.sys_parity_replays initiator)) ∧
    (∃ (s : State) (initiator : Nat) (w : Nat) (replays : List Nat) (address : Nat) (cls : PageClass), parityOk w = true ∧ exec (.parityMismatch
    initiator w replays address cls) s = .next s) ∧
    (∃ (s : State) (w : Nat) (replays : List Nat) (address : Nat) (cls : PageClass), fabricRuns s = true ∧ (∀ x ∈ w :: replays, parityOk x = false) ∧
    s.rd Od.saf_trip_cause = 0 ∧ s.rd Od.sys_parity_persist 8 + 1 < 2 ^ 32 ∧ ∃ t, exec (.parityMismatch 8 w replays address cls) s = .next t ∧ t.rdBit
    Od.sys_health bitMetLane = true ∧ t.rd Od.sys_parity_persist 8 = s.rd Od.sys_parity_persist 8 + 1) ∧
    (∃ (s : State) (r : Retiring) (spare : Nat) (held : List (Nat × Nat)), fabricRuns s = true ∧ s.sys.retiring = [r] ∧ spareFree s r.page spare =
    true ∧ 0 < s.rd Od.sys_dram_spares ∧ s.rd Od.sys_dram_spares < 2 ^ 32 ∧ ∃ t, exec (.dramPageRetireComplete ⟨r.page, spare, held⟩) s = .next t ∧
    t.rd Od.sys_dram_spares = s.rd Od.sys_dram_spares - 1 ∧ t.sys.retiring = [] ∧ t.mer.retired = tabPut r.page ⟨some spare, false⟩ s.mer.retired ∧
    t.rdBit Od.sys_health 16 = false ∧ tabGet [] spare t.dram.pages = heldApplied held (rebuildSource s r) ∧ .dramRead r.page r.off (tabGet 0 r.off
    (heldApplied held (rebuildSource s r))) ∈ t.out) ∧
    (∃ (s : State) (m : FabricMaster) (target : FabricTarget) (way : FabricWay) (address : Nat), fabricRuns s = true ∧ fabricAdmits m target way =
    false ∧ s.rd Od.sys_access_refused + 1 < 2 ^ 32 ∧ ∃ t, exec (.fabricAccessRefused ⟨m, target, way⟩ address) s = .next t ∧ t.rd
    Od.sys_access_refused = s.rd Od.sys_access_refused + 1 ∧ t.out = .fabricError m address :: s.out) ∧
    (∃ (s : State) (m : FabricMaster) (target : FabricTarget) (way : FabricWay) (address : Nat), fabricAdmits m target way = true ∧ exec
    (.fabricAccessRefused ⟨m, target, way⟩ address) s = .next s) ∧
    (∃ (s : State) (bit : Nat), powered s = true ∧ s.sys.retest = some bit ∧ ∃ t, exec (.faultRetestComplete false) s = .next t ∧ t.rd
    Od.sys_fault_retest = 3 ∧ t.sys.retest = none ∧ t.rd Od.sys_health = s.rd Od.sys_health) ∧
    (∃ (s : State) (bit : Nat), powered s = true ∧ s.sys.retest = some bit ∧ bit < 8 ∧ ∃ t, exec (.faultRetestComplete true) s = .next t ∧ t.rd
    Od.sys_fault_retest = 2 ∧ t.sys.retest = none ∧ t.rdBit Od.sys_health bit = false) :=
  ⟨⟨st .run [], 14, 0, 3, 5, 1, 0x1000, .nonCritical, by decide +kernel, by decide +kernel, by decide +kernel, by decide +kernel, congrArg
    Host.Outcome.next (by decide +kernel)⟩,
    ⟨st .run [], 14, 0x100000000, [], 0x1000, .mirrored, by decide +kernel, congrArg Host.Outcome.next (by decide +kernel)⟩,
    ⟨st .run [], 0, [3, 5, 6], 0x1000, .mirrored, by decide +kernel, by decide +kernel, by decide +kernel, by decide +kernel, ⟨_, rfl,
    by decide +kernel⟩⟩,
    ⟨{ st .run [(Od.sys_health, 0, 0x10000)] with sys := { retiring := [⟨7, .duplicated, 2⟩] }, dram := { dup := [(7, [(2, 9)])] } }, ⟨7, .duplicated,
    2⟩, 900, [(1, 4)], by decide +kernel, by decide +kernel, by decide +kernel, by decide +kernel, by decide +kernel, ⟨_, rfl, by decide +kernel⟩⟩,
    ⟨st .run [(Od.sys_access_refused, 0, 0xFFFFFFFE)], .unit 3, .praline, .plain, 0x2000, by decide +kernel, by decide +kernel, by decide +kernel, ⟨_,
    rfl, by decide +kernel⟩⟩,
    ⟨st .run [], .unit 13, .praline, .plain, 0x2000, by decide +kernel, congrArg Host.Outcome.next (by decide +kernel)⟩,
    ⟨{ st .runDegraded [(Od.sys_health, 0, 0x80)] with sys := { retest := some 7 } }, 7, by decide +kernel, by decide +kernel, ⟨_, rfl,
    by decide +kernel⟩⟩,
    ⟨{ st .runDegraded [(Od.sys_health, 0, 0x80)] with sys := { retest := some 7 } }, 7, by decide +kernel, by decide +kernel, by decide +kernel, ⟨_,
    rfl, by decide +kernel⟩⟩⟩

theorem witness_PowerFailureLeadsThroughHoldup :
    (∃ (s : State) (vmain : Nat) (partials : List (Nat × LineCycle)), powered s = true ∧ vmain < 17000 ∧ ∃ t, exec (.powerFail vmain partials) s =
    .next t ∧ t.mode = .holdup ∧ t.txn.waiting = [] ∧ t.sys.appUp = false ∧ t.sys.vmainBack = false) ∧
    (∃ (s : State) (vmain : Nat) (partials : List (Nat × LineCycle)), powered s = true ∧ 17000 ≤ vmain ∧ ∃ t, exec (.internalRailFault vmain partials)
    s = .next t ∧ t.mode = .holdup ∧ t.txn.waiting = [] ∧ t.sys.appUp = false ∧ t.sys.vmainBack = true) ∧
    (∃ (s : State), s.mode = .holdup ∧ exec .vmainReturnInHoldup s = .next { s with sys := { s.sys with vmainBack := true } }) ∧
    (∃ (s : State) (us : Nat) (f : StartFacts), s.mode = .holdup ∧ s.sys.vmainBack = false ∧ ∃ t, exec (.holdupStoreComplete false us f) s = .next t ∧
    t.mode = .backup ∧ t.nvs.storing = none) ∧
    (∃ (s : State), s.mode = .standby ∧ ∃ t, exec .standbyVmainFail s = .next t ∧ t.mode = .backup ∧ t.nvs = s.nvs ∧ t.od = s.od) :=
  ⟨⟨{ st .run [] with txn := { waiting := [⟨1, 2, client, 0, []⟩] } }, 16999, [], by decide +kernel, by decide +kernel, ⟨_, rfl, by decide +kernel⟩⟩,
    ⟨st .run [], 17000, [], by decide +kernel, by decide +kernel, ⟨_, rfl, by decide +kernel⟩⟩,
    ⟨st .holdup [], by decide +kernel, congrArg Host.Outcome.next (by decide +kernel)⟩,
    ⟨st .holdup [], 900, clean, by decide +kernel, by decide +kernel, ⟨_, rfl, by decide +kernel⟩⟩,
    ⟨st .standby [], by decide +kernel, ⟨_, rfl, by decide +kernel⟩⟩⟩

theorem witness_EveryStartEntersBoot :
    (∃ (s : State) (f : StartFacts), s.mode ≠ .holdup ∧ ∃ t, exec (.powerOnReset f) s = .next t ∧ t.mode = .boot ∧ t.pts = {} ∧ t.fld = {} ∧ t.lbs =
    {}) ∧
    (∃ (s : State) (f : StartFacts), s.mode ≠ .holdup ∧ s.mode ≠ .backup ∧ ∃ t, exec (.watchdogReset f) s = .next t ∧ t.mode = .boot ∧ t.pts = {} ∧
    t.fld = {} ∧ t.lbs = {}) ∧
    (∃ (s : State) (w : Who) (f : StartFacts), s.sys.resetDue = some .swr ∧ ∃ t, exec (.softwareReset w f) s = .next t ∧ t.mode = .boot ∧ t.pts = {} ∧
    t.fld = {} ∧ t.lbs = {}) ∧
    (∃ (s : State) (f : StartFacts), powered s = true ∧ s.sys.resetDue = some .act ∧ ∃ t, exec (.actReset f) s = .next t ∧ t.mode = .boot ∧ t.pts = {}
    ∧ t.fld = {} ∧ t.lbs = {}) ∧
    (∃ (s : State) (f : StartFacts), s.mode = .standby ∧ s.rdBit Od.sys_wake_src 2 = true ∧ ∃ t, exec (.wakePin f) s = .next t ∧ t.mode = .boot ∧
    t.pts = {} ∧ t.fld = {} ∧ t.lbs = {}) ∧
    (∃ (s : State) (f : StartFacts), s.mode = .standby ∧ s.rdBit Od.sys_wake_src 3 = true ∧ s.rd Od.sys_wake_time ≠ 0 ∧ s.rd Od.sys_wake_time /
    1000000000 ≤ rtcTime s / 1000000000 ∧ ∃ t, exec (.wakeTimed f) s = .next t ∧ t.mode = .boot ∧ t.pts = {} ∧ t.fld = {} ∧ t.lbs = {}) ∧
    (∃ (s : State) (u : Nat) (frame : List Nat) (p : Nat) (f : StartFacts), u < 2 ∧ s.mode = .standby ∧ s.rdBit Od.sys_wake_src u = true ∧ (upOf s
    u).standbyLink = true ∧ wakeHit s u frame = some p ∧ ∃ t, exec (.wakePatternMatch u ⟨frame, true⟩ f) s = .next t ∧ t.mode = .boot ∧ t.pts = {} ∧
    t.fld = {} ∧ t.lbs = {}) ∧
    (∃ (s : State) (u : Nat) (frame : List Nat) (f : StartFacts), exec (.wakePatternMatch u ⟨frame, false⟩ f) s = .next s) :=
  ⟨⟨st .backup [], clean, by decide +kernel, ⟨_, rfl, by decide +kernel⟩⟩,
    ⟨st .standby [], clean, by decide +kernel, by decide +kernel, ⟨_, rfl, by decide +kernel⟩⟩,
    ⟨{ st .run [] with sys := { resetDue := some .swr } }, client, clean, by decide +kernel, ⟨_, rfl, by decide +kernel⟩⟩,
    ⟨{ st .run [] with sys := { resetDue := some .act } }, clean, by decide +kernel, by decide +kernel, ⟨_, rfl, by decide +kernel⟩⟩,
    ⟨st .standby [(Od.sys_wake_src, 0, 4)], clean, by decide +kernel, by decide +kernel, ⟨_, rfl, by decide +kernel⟩⟩,
    ⟨st .standby [(Od.sys_wake_src, 0, 8), (Od.sys_wake_time, 0, 1000000000), (Od.rtc_seconds, 0, 1)], clean, by decide +kernel, by decide +kernel,
    by decide +kernel, by decide +kernel, ⟨_, rfl, by decide +kernel⟩⟩,
    ⟨{ st .standby [(Od.sys_wake_src, 0, 2), (Od.net_wake_mask, 63, 2 ^ 120), (Od.net_wake_check, 63, crc16 [0xAB])] with net := { b := { standbyLink := true } } },
    1, [0xAB], 31, clean, by decide +kernel, by decide +kernel, by decide +kernel, by decide +kernel, by decide +kernel, ⟨_, rfl, by decide +kernel⟩⟩,
    ⟨{ st .standby [(Od.sys_wake_src, 0, 2), (Od.net_wake_mask, 63, 2 ^ 120), (Od.net_wake_check, 63, crc16 [0xAB])] with net := { b := { standbyLink := true } } },
    1, [0xAB], clean, congrArg Host.Outcome.next (by decide +kernel)⟩⟩

theorem witness_ServiceStopsAndStarts :
    (∃ (s : State) (w : Who), s.sys.resetDue = some .mpr ∧ s.sys.appUp = true ∧ ∃ t, exec (.mprCommand w) s = .next t ∧ t.sys.appUp = false ∧ t.rd
    Od.sys_reset_cause = 4 ∧ t.txn.opens = [] ∧ t.mode = s.mode) ∧
    (∃ (s : State), running s = true ∧ s.sys.appUp = true ∧ ∃ t, exec .appWatchdogExpiry s = .next t ∧ t.sys.appUp = false ∧ t.rd Od.sys_reset_cause =
    4 ∧ t.txn.opens = [] ∧ t.mode = s.mode) ∧
    (∃ (s : State), running s = true ∧ s.sys.appUp = false ∧ ∃ t, exec .mprComplete s = .next t ∧ t.sys.appUp = true ∧ t.sys.replayTo = some (s.rd
    Od.txn_next_seq - 1) ∧ t.mode = s.mode) ∧
    (∃ (s : State) (ms : Nat), s.mode = .boot ∧ bootWaits s = false ∧ ∃ t, exec (.bootEnd ms) s = .next t ∧ t.sys.appUp = true ∧ t.mode = if bootHolds
    s then .safeHold else bootSelection (uplinksBoot s)) :=
  ⟨⟨{ st .run [] with sys := { appUp := true, resetDue := some .mpr } }, client, by decide +kernel, by decide +kernel, ⟨_, rfl, by decide +kernel⟩⟩,
    ⟨st .safeHold [], by decide +kernel, by decide +kernel, ⟨_, rfl, by decide +kernel⟩⟩,
    ⟨{ st .run [] with sys := { } }, by decide +kernel, by decide +kernel, ⟨_, rfl, by decide +kernel⟩⟩,
    ⟨st .boot [], 700, by decide +kernel, by decide +kernel, ⟨_, rfl, by decide +kernel⟩⟩⟩

theorem witness_ModeTransitions :
    (∃ (s : State) (seq : Nat), s.mode = .run ∧ s.sys.modeReqs = [(seq, 6)] ∧ s.sys.mpHeld = false ∧ ∃ t, exec .modeTransitionStart s = .next t ∧
    t.mode = .maintenance ∧ t.sys.modeReqs = []) ∧
    (∃ (s : State) (seq : Nat), s.mode = .doze ∧ s.sys.modeReqs = [(seq, 6)] ∧ s.sys.mpHeld = false ∧ ∃ t, exec .modeTransitionStart s = .next t ∧
    t.mode = .maintenance ∧ t.sys.modeReqs = []) ∧
    (∃ (s : State) (seq : Nat), s.mode = .run ∧ s.sys.modeReqs = [(seq, 4)] ∧ s.sys.mpHeld = false ∧ ∃ t, exec .modeTransitionStart s = .next t ∧
    t.mode = .doze ∧ t.sys.modeReqs = []) ∧
    (∃ (s : State) (seq : Nat) (v : Nat), s.mode = .safeHold ∧ s.sys.modeReqs = [(seq, v)] ∧ s.sys.mpHeld = false ∧ ∃ t, exec .modeTransitionStart s =
    .next t ∧ t.mode = .safeHold ∧ t.sys.modeReqs = []) ∧
    (∃ (s : State) (us : Nat) (b : Bank), s.nvs.storing = some (3, b) ∧ s.nvs.queued.any (fun q => q.1 == 3) = false ∧ entryOff s = true ∧
    s.sys.wakeDuringEntry = none ∧ ∃ t, exec (.standbyEntryComplete us) s = .next t ∧ t.mode = .standby ∧ t.sys.appUp = false ∧ t.nvs.storing = none) :=
  ⟨⟨{ st .run [] with sys := { modeReqs := [(9, 6)] } }, 9, by decide +kernel, by decide +kernel, by decide +kernel, ⟨_, rfl, by decide +kernel⟩⟩,
    ⟨{ st .doze [] with sys := { modeReqs := [(9, 6)] } }, 9, by decide +kernel, by decide +kernel, by decide +kernel, ⟨_, rfl, by decide +kernel⟩⟩,
    ⟨{ st .run [] with sys := { modeReqs := [(9, 4)] } }, 9, by decide +kernel, by decide +kernel, by decide +kernel, ⟨_, rfl, by decide +kernel⟩⟩,
    ⟨{ st .safeHold [] with sys := { modeReqs := [(9, 6)] } }, 9, 6, by decide +kernel, by decide +kernel, by decide +kernel, ⟨_, rfl,
    by decide +kernel⟩⟩,
    ⟨{ st .run [] with sys := { standbyEntry := true }, nvs := { storing := some (3, ⟨[], {}, 1⟩) } }, 900, ⟨[], {}, 1⟩, by decide +kernel,
    by decide +kernel, by decide +kernel, by decide +kernel, ⟨_, rfl, by decide +kernel⟩⟩⟩

theorem witness_TrendsAreSampledAndArchived :
    (∃ (s : State) (n : Nat), n < pointCount s ∧ s.rd Od.sys_trend_period n ≠ 0 ∧ running s = true ∧ s.sys.appUp = true ∧ trendDue s n = true ∧
    trendRoom s = true ∧ ∃ t, exec (.trendSample n) s = .next t ∧ t.od = s.od ∧ t.trend.archive = s.trend.archive ∧ ∃ flags, t.trend.cache = ⟨s.now,
    n, flags, s.rd (Od.od_point + n) 0⟩ :: s.trend.cache) ∧
    (∃ (s : State) (n : Nat), trendDue s n = false ∧ exec (.trendSample n) s = .next s) ∧
    (∃ (s : State) (capacity : Nat), housekeeping s = true ∧ 400000000 ≤ capacity ∧ ∃ t, exec (.trendArchiveMove capacity) s = .next t ∧ t.trend.cache
    = [] ∧ t.trend.archive = (s.trend.cache ++ s.trend.archive).take capacity) ∧
    (∃ (s : State) (failed : Bool), s.rd Od.sys_trend_state = 1 ∧ ∃ t, exec (.trendTransferComplete failed) s = .next t ∧ t.rd Od.sys_trend_state = if
    failed then 3 else 2) :=
  ⟨⟨{ st .run [(Od.sys_trend_period, 8191, 1)] with now := 3000000000 }, 8191, by decide +kernel, by decide +kernel, by decide +kernel,
    by decide +kernel, by decide +kernel, by decide +kernel, ⟨_, rfl, by decide +kernel, by decide +kernel, _, rfl⟩⟩,
    ⟨{ st .run [(Od.sys_trend_period, 8191, 1)] with now := 3000000001 }, 8191, by decide +kernel, congrArg Host.Outcome.next (by decide +kernel)⟩,
    ⟨{ st .run [] with trend := { cache := [⟨5, 1, 0, 2⟩] } }, 400000000, by decide +kernel, by decide +kernel, ⟨_, rfl, by decide +kernel⟩⟩,
    ⟨st .run [(Od.sys_trend_state, 0, 1)], true, by decide +kernel, ⟨_, rfl, by decide +kernel⟩⟩⟩

theorem witness_UplinkAuthentication :
    (∃ (s : State) (u : Nat), running s = true ∧ s.rd Od.net_dot1x_state u = 1 ∧ ∃ t, exec (.eapolStartRepeat u) s = .next t ∧ t.out = .eapolStart u
    :: s.out ∧ t.rd Od.net_dot1x_state u = 1) ∧
    (∃ (s : State) (u : Nat), running s = true ∧ s.rd Od.net_link_state u ≠ 0 ∧ s.rd Od.net_dot1x_state u = 1 ∧ ∃ t, exec (.eapolFrameRx u .proceed) s
    = .next t ∧ t.rd Od.net_dot1x_state u = 2) ∧
    (∃ (s : State) (u : Nat), running s = true ∧ s.rd Od.net_link_state u ≠ 0 ∧ s.rd Od.net_dot1x_state u = 2 ∧ s.rd Od.net_dot1x_key ≠ 0xFF ∧ s.rd
    Od.net_macsec = 0 ∧ ∃ t, exec (.eapolFrameRx u .success) s = .next t ∧ t.rd Od.net_dot1x_state u = 3) ∧
    (∃ (s : State) (u : Nat), running s = true ∧ s.rd Od.net_link_state u ≠ 0 ∧ s.rd Od.net_dot1x_state u = 2 ∧ ∃ t, exec (.eapolFrameRx u .failure) s
    = .next t ∧ t.rd Od.net_dot1x_state u = 4 ∧ t.rdBit Od.sys_health (upBit u) = true) ∧
    (∃ (s : State) (u : Nat), s.rd Od.net_dot1x_state u = 2 ∧ ∃ t, exec (.dot1xExchangeTimeout u) s = .next t ∧ t.rd Od.net_dot1x_state u = 4 ∧
    t.rdBit Od.sys_health (upBit u) = true) ∧
    (∃ (s : State) (u : Nat), running s = true ∧ s.rd Od.net_link_state u ≠ 0 ∧ s.rd Od.net_dot1x_state u = 3 ∧ ∃ t, exec (.eapolFrameRx u .reauth) s
    = .next t ∧ t.rd Od.net_dot1x_state u = 3 ∧ (upOf t u).reauth = true) ∧
    (∃ (s : State) (u : Nat), s.rd Od.net_dot1x_state u = 3 ∧ (upOf s u).reauth = true ∧ ∃ t, exec (.dot1xExchangeTimeout u) s = .next t ∧ t.rd
    Od.net_dot1x_state u = 4 ∧ (upOf t u).reauth = false) ∧
    (∃ (s : State) (u : Nat), s.rd Od.net_dot1x_state u = 4 ∧ ∃ t, exec (.dot1xHoldEnd u) s = .next t ∧ t.rd Od.net_dot1x_state u = 1 ∧ t.out =
    .eapolStart u :: s.out) ∧
    (∃ (s : State) (u : Nat), s.mode = .commission ∧ s.rd Od.net_dot1x_state u = 1 ∧ exec (.commissionAdmission u) s = .next (s.wr Od.net_dot1x_state
    5 u)) :=
  ⟨⟨st .run [(Od.net_dot1x_state, 1, 1)], 1, by decide +kernel, by decide +kernel, ⟨_, rfl, by decide +kernel⟩⟩,
    ⟨st .run [(Od.net_link_state, 1, 2), (Od.net_dot1x_state, 1, 1)], 1, by decide +kernel, by decide +kernel, by decide +kernel, ⟨_, rfl,
    by decide +kernel⟩⟩,
    ⟨st .run [(Od.net_link_state, 1, 2), (Od.net_dot1x_state, 1, 2), (Od.net_dot1x_key, 0, 3)], 1, by decide +kernel, by decide +kernel,
    by decide +kernel, by decide +kernel, by decide +kernel, ⟨_, rfl, by decide +kernel⟩⟩,
    ⟨st .run [(Od.net_link_state, 1, 2), (Od.net_dot1x_state, 1, 2)], 1, by decide +kernel, by decide +kernel, by decide +kernel, ⟨_, rfl,
    by decide +kernel⟩⟩,
    ⟨st .run [(Od.net_dot1x_state, 1, 2)], 1, by decide +kernel, ⟨_, rfl, by decide +kernel⟩⟩,
    ⟨st .run [(Od.net_link_state, 1, 2), (Od.net_dot1x_state, 1, 3)], 1, by decide +kernel, by decide +kernel, by decide +kernel, ⟨_, rfl,
    by decide +kernel⟩⟩,
    ⟨{ st .run [(Od.net_dot1x_state, 1, 3)] with net := { b := { reauth := true } } }, 1, by decide +kernel, by decide +kernel, ⟨_, rfl,
    by decide +kernel⟩⟩,
    ⟨st .run [(Od.net_dot1x_state, 1, 4)], 1, by decide +kernel, ⟨_, rfl, by decide +kernel⟩⟩,
    ⟨st .commission [(Od.net_dot1x_state, 1, 1)], 1, by decide +kernel, by decide +kernel, congrArg Host.Outcome.next (by decide +kernel)⟩⟩

theorem witness_UplinkLinksAndFaults :
    (∃ (s : State) (u : Nat) (speed : Nat), powered s = true ∧ speed ∈ ([100, 1000, 2500, 5000, 10000] : List Nat) ∧ speedOffered s u speed = true ∧
    s.rd Od.net_link_state u ≤ 1 ∧ ∃ t, exec (.uplinkLinkUp u speed) s = .next t ∧ t.rd Od.net_link_state u = 2 ∧ t.rd Od.net_speed u = speed ∧ t.rd
    Od.net_dot1x_state u = 1 ∧ t.rdBit Od.sys_health (upBit u) = true) ∧
    (∃ (s : State) (u : Nat), powered s = true ∧ ∃ t, exec (.uplinkLinkDown u) s = .next t ∧ t.rd Od.net_link_state u = 0 ∧ t.rd Od.net_speed u = 0 ∧
    t.rd Od.net_dot1x_state u = 0 ∧ t.rdBit Od.sys_health (upBit u) = true) ∧
    (∃ (s : State) (u : Nat), powered s = true ∧ s.rd Od.net_mode = 1 ∧ upUsable s u = true ∧ ∃ t, exec (.prpSilenceTimeout u) s = .next t ∧ t.rdBit
    Od.sys_health (upBit u) = true) ∧
    (∃ (s : State) (u : Nat), powered s = true ∧ upUsable s u = true ∧ ∃ t, exec (.uplinkFaultClear u) s = .next t ∧ t.rdBit Od.sys_health (upBit u) =
    false) ∧
    (∃ (s : State) (u : Nat), s.mode = .standby ∧ (upOf s u).standbyLink = false ∧ ∃ t, exec (.standbyLinkRetry u) s = .next t ∧ t.out = .negotiate u
    [100] true :: s.out ∧ t.od = s.od ∧ (upOf t u).advertised = [100]) ∧
    (∃ (s : State) (u : Nat), s.mode = .standby ∧ (upOf s u).standbyLink = false ∧ ∃ t, exec (.uplinkLinkUp u 100) s = .next t ∧ (upOf t
    u).standbyLink = true ∧ t.od = s.od) :=
  ⟨⟨st .run [(Od.net_speed_max, 1, 10000), (Od.net_link_state, 1, 1)], 1, 10000, by decide +kernel, by decide +kernel, by decide +kernel,
    by decide +kernel, ⟨_, rfl, by decide +kernel⟩⟩,
    ⟨st .run [(Od.net_link_state, 1, 2), (Od.net_speed, 1, 1000)], 1, by decide +kernel, ⟨_, rfl, by decide +kernel⟩⟩,
    ⟨st .run [(Od.net_mode, 0, 1), (Od.net_link_state, 1, 2), (Od.net_dot1x_state, 1, 3)], 1, by decide +kernel, by decide +kernel, by decide +kernel,
    ⟨_, rfl, by decide +kernel⟩⟩,
    ⟨st .runDegraded [(Od.sys_health, 0, 0x8000), (Od.net_link_state, 1, 2), (Od.net_dot1x_state, 1, 3)], 1, by decide +kernel, by decide +kernel, ⟨_,
    rfl, by decide +kernel⟩⟩,
    ⟨st .standby [], 1, by decide +kernel, by decide +kernel, ⟨_, rfl, by decide +kernel⟩⟩,
    ⟨st .standby [], 1, by decide +kernel, by decide +kernel, ⟨_, rfl, by decide +kernel⟩⟩⟩

theorem witness_UplinkFrames :
    (∃ (s : State) (u : Nat) (f : UplinkFrame), running s = true ∧ f.len ≤ 2048 ∧ f.kind = .own ∧ s.rd Od.net_macsec = 0 ∧ s.rd Od.net_mode = 0 ∧
    upUsable s u = true ∧ exec (.uplinkFrameRx u f) s = .next (s.send (.routed .own f.len))) ∧
    (∃ (s : State) (u : Nat) (f : UplinkFrame) (x : SecTag), running s = true ∧ f.len ≤ 2048 ∧ f.kind = .own ∧ s.rd Od.net_macsec ≠ 0 ∧ s.rd
    Od.net_macsec_state u = 2 ∧ f.sec = some x ∧ x.pn + s.rd Od.net_macsec_window < (upOf s u).rxPn ∧ exec (.uplinkFrameRx u f) s = .next (s.count
    Od.net_macsec_drops u)) ∧
    (∃ (s : State) (f : UplinkFrame) (seq : Nat), running s = true ∧ f.len ≤ 2048 ∧ f.kind = .own ∧ f.trailer = some (seq, 0xA) ∧ s.rd Od.net_macsec =
    0 ∧ s.rd Od.net_mode = 1 ∧ upUsable s 0 = true ∧ s.net.dup = [⟨f.src, seq, 1, false⟩] ∧ ∃ t, exec (.uplinkFrameRx 0 f) s = .next t ∧ t.out = s.out
    ∧ t.net.dup = [⟨f.src, seq, 1, true⟩]) ∧
    (∃ (s : State) (u : Nat) (f : UplinkFrame), running s = true ∧ 2048 < f.len ∧ exec (.uplinkFrameRx u f) s = .next (s.count Od.net_rx_oversize u)) ∧
    (∃ (s : State) (d : DupEntry), s.net.dup = [d] ∧ d.second = false ∧ s.rd Od.net_prp_single d.lan + 1 < 2 ^ 32 ∧ ∃ t, exec (.prpForgetExpiry d.src
    d.seq) s = .next t ∧ t.net.dup = [] ∧ t.rd Od.net_prp_single d.lan = s.rd Od.net_prp_single d.lan + 1) ∧
    (∃ (s : State), running s = true ∧ s.rd Od.net_mode = 1 ∧ s.net.proxies = [] ∧ maySend s 0 .traffic = true ∧ maySend s 1 .traffic = true ∧ ∃ t,
    exec .prpSupervisionTx s = .next t ∧ t.out = .supervision 1 0 :: .supervision 0 0 :: s.out ∧ tabGet 0 0x01154E000100 t.net.prpSeq = (tabGet 0
    0x01154E000100 s.net.prpSeq + 1) % 65536) ∧
    (∃ (s : State) (mac : Nat), s.net.proxies.length ≤ 4096 ∧ ∃ t, exec (.proxyEntryAgeout mac) s = .next t ∧ t.net.proxies = s.net.proxies.filter (·
    != mac) ∧ t.rd Od.net_prp_proxied = t.net.proxies.length) ∧
    (∃ (s : State) (u : Nat) (q : Nat) (have_ : List Nat) (f : TxFrame), running s = true ∧ s.rd Od.net_speed u ≠ 0 ∧ pickQueue (frameBoundary s u) u
    have_ = some (q, f) ∧ secured s u f.kind = false ∧ ∃ t, exec (.txFrameStart u have_) s = .next t ∧ .txStart u q f.len f.resend f.trailer none ∈
    t.out ∧ (upOf t u).started = some (q, f)) ∧
    (∃ (s : State) (u : Nat) (q : Nat) (f : TxFrame), (upOf s u).started = some (q, f) ∧ f.resend = false ∧ ∃ t, exec (.txUnderrun u) s = .next t ∧
    t.rd Od.net_tx_thresh u = min (s.rd Od.net_tx_thresh u + 256) 2048 ∧ (upOf t u).started = none ∧ t.out = .txAborted u q :: s.out) :=
  ⟨⟨st .run [(Od.net_mode, 0, 0), (Od.net_link_state, 1, 2), (Od.net_dot1x_state, 1, 3)], 1, ⟨2048, 5, 6, none, none, none, .own⟩, by decide +kernel,
    by decide +kernel, by decide +kernel, by decide +kernel, by decide +kernel, by decide +kernel, congrArg Host.Outcome.next (by decide +kernel)⟩,
    ⟨{ st .run [(Od.net_macsec, 0, 1), (Od.net_macsec_state, 1, 2), (Od.net_macsec_window, 0, 1)] with net := { b := { peerSci := some 9, rxPn := 10 } } },
    1, ⟨2048, 5, 6, none, none, some ⟨9, 8, true⟩, .own⟩, ⟨9, 8, true⟩, by decide +kernel, by decide +kernel, by decide +kernel, by decide +kernel,
    by decide +kernel, by decide +kernel, by decide +kernel, congrArg Host.Outcome.next (by decide +kernel)⟩,
    ⟨{ st .run [(Od.net_mode, 0, 1), (Od.net_link_state, 0, 2), (Od.net_dot1x_state, 0, 3)] with net := { dup := [⟨5, 77, 1, false⟩] } }, ⟨2048, 5, 6,
    none, some (77, 0xA), none, .own⟩, 77, by decide +kernel, by decide +kernel, by decide +kernel, by decide +kernel, by decide +kernel,
    by decide +kernel, by decide +kernel, by decide +kernel, ⟨_, rfl, by decide +kernel⟩⟩,
    ⟨st .run [], 1, ⟨2049, 5, 6, none, none, none, .own⟩, by decide +kernel, by decide +kernel, congrArg Host.Outcome.next (by decide +kernel)⟩,
    ⟨{ st .run [] with net := { dup := [⟨5, 6, 1, false⟩] } }, ⟨5, 6, 1, false⟩, by decide +kernel, by decide +kernel, by decide +kernel, ⟨_, rfl,
    by decide +kernel⟩⟩,
    ⟨{ st .run (upBoth ++ [(Od.net_mode, 0, 1)]) with net := { prpSeq := [(0x01154E000100, 65535)] } }, by decide +kernel, by decide +kernel,
    by decide +kernel, by decide +kernel, by decide +kernel, ⟨_, rfl, by decide +kernel⟩⟩,
    ⟨{ st .run [] with net := { proxies := [7, 8] } }, 7, by decide +kernel, ⟨_, rfl, by decide +kernel⟩⟩,
    ⟨{ st .run [(Od.net_link_state, 1, 2), (Od.net_speed, 1, 1000), (Od.net_dot1x_state, 1, 3)] with net := { b := { queues := [[], [], [{ len := 64 }], [{ len := 70 }]] } } },
    1, 3, [0, 0, 64, 70], { len := 70 }, by decide +kernel, by decide +kernel, by decide +kernel, by decide +kernel, ⟨_, rfl, by decide +kernel⟩⟩,
    ⟨{ st .run [(Od.net_tx_thresh, 1, 1900)] with net := { b := { started := some (3, { len := 70 }) } } }, 1, 3, { len := 70 }, by decide +kernel,
    by decide +kernel, ⟨_, rfl, by decide +kernel⟩⟩⟩

theorem witness_PtpAndMacsec :
    (∃ (s : State) (u : Nat) (offset : Int) (delay : Nat) (freq : Int), running s = true ∧ upUsable s u = true ∧ s.rd Od.net_ptp_profile ≠ 0 ∧ s.rd
    Od.net_ptp_port = u ∧ s.rd Od.net_ptp_state = 2 ∧ s.net.ran = true ∧ ∃ t, exec (.ptpMessageRx u (.sync offset delay true freq)) s = .next t ∧ t.rd
    Od.net_ptp_state = 3 ∧ t.net.slew = -offset ∧ t.net.freq = clampInt (-100000) 100000 freq ∧ t.now = s.now) ∧
    (∃ (s : State), running s = true ∧ s.rd Od.net_ptp_port = 0 ∧ s.net.b.master = none ∧ ∃ t, exec .ptpAnnounceTimeout s = .next t ∧ t.rd
    Od.net_ptp_state = 4 ∧ t.net.a.master = none ∧ t.net.freq = s.net.freq) ∧
    (∃ (s : State) (u : Nat), running s = true ∧ upUsable s u = true ∧ 2 ≤ s.rd Od.net_ptp_profile ∧ ∃ t, exec (.ptpMessageRx u .pdelayReq) s = .next
    t ∧ t.out = .pdelayResp u (ptpTransport s) :: s.out) ∧
    (∃ (s : State) (u : Nat) (sci : Nat), running s = true ∧ s.rd Od.net_macsec ≠ 0 ∧ s.rd Od.net_macsec_state u = 1 ∧ s.net.mkaBWaits = false ∧ ∃ t,
    exec (.mkaSecured ⟨u, sci⟩) s = .next t ∧ t.rd Od.net_macsec_state u = 2 ∧ (upOf t u).peerSci = some sci) ∧
    (∃ (s : State) (u : Nat), running s = true ∧ s.rd Od.net_macsec ≠ 0 ∧ ∃ t, exec (.mkaFailed u) s = .next t ∧ t.rd Od.net_macsec_state u = 3 ∧
    t.rdBit Od.sys_health (upBit u) = true) ∧
    (∃ (s : State) (u : Nat), running s = true ∧ s.rd Od.net_macsec_state u = 3 ∧ ∃ t, exec (.mkaRetry u) s = .next t ∧ t.rd Od.net_macsec_state u =
    1) ∧
    (∃ (s : State), running s = true ∧ s.net.mkaBWaits = true ∧ s.rd Od.net_macsec ≠ 0 ∧ ∃ t, exec .mkaBRestartTimeout s = .next t ∧ t.net.mkaBWaits =
    false ∧ t.rd Od.net_macsec_state 1 = 1) :=
  ⟨⟨{ st .run [(Od.net_link_state, 1, 2), (Od.net_dot1x_state, 1, 3), (Od.net_ptp_profile, 0, 1), (Od.net_ptp_port, 0, 1), (Od.net_ptp_state, 0, 2)] with net := { ran := true } },
    1, -70, 300, 200000, by decide +kernel, by decide +kernel, by decide +kernel, by decide +kernel, by decide +kernel, by decide +kernel, ⟨_, rfl,
    by decide +kernel⟩⟩,
    ⟨{ st .run [(Od.net_ptp_port, 0, 0)] with net := { a := { master := some (4, 5) }, freq := -5 } }, by decide +kernel, by decide +kernel,
    by decide +kernel, ⟨_, rfl, by decide +kernel⟩⟩,
    ⟨st .run [(Od.net_link_state, 1, 2), (Od.net_dot1x_state, 1, 3), (Od.net_ptp_profile, 0, 2), (Od.net_ptp_transport, 0, 1)], 1, by decide +kernel,
    by decide +kernel, by decide +kernel, ⟨_, rfl, by decide +kernel⟩⟩,
    ⟨st .run [(Od.net_macsec, 0, 1), (Od.net_macsec_state, 1, 1)], 1, 9, by decide +kernel, by decide +kernel, by decide +kernel, by decide +kernel,
    ⟨_, rfl, by decide +kernel⟩⟩,
    ⟨st .run [(Od.net_macsec, 0, 1)], 1, by decide +kernel, by decide +kernel, ⟨_, rfl, by decide +kernel⟩⟩,
    ⟨st .run [(Od.net_macsec_state, 1, 3)], 1, by decide +kernel, by decide +kernel, ⟨_, rfl, by decide +kernel⟩⟩,
    ⟨{ st .run [(Od.net_macsec, 0, 1)] with net := { mkaBWaits := true } }, by decide +kernel, by decide +kernel, by decide +kernel, ⟨_, rfl,
    by decide +kernel⟩⟩⟩

theorem witness_SpeedShifts :
    (∃ (s : State) (u : Nat) (load : Nat), s.variant = .s ∧ running s = true ∧ s.net.a.raiseDue = false ∧ s.net.b.raiseDue = false ∧ s.rd
    Od.net_downshift = 0 ∧ exec (.downshiftWindow u load) s = .next (s.wr Od.net_shift_load load u)) ∧
    (∃ (s : State) (u : Nat) (load : Nat), s.variant = .s ∧ running s = true ∧ s.net.a.raiseDue = false ∧ s.net.b.raiseDue = false ∧ s.rd
    Od.net_downshift = 1 ∧ load < 100000 ∧ s.rd Od.net_speed u = 2500 ∧ 1000 ≤ s.rd Od.net_speed_max u ∧ shiftAllowed s u = true ∧ ∃ t, exec
    (.downshiftWindow u load) s = .next t ∧ t.rd Od.net_shift_load u = load ∧ t.rd Od.net_link_state u = 3 ∧ t.out = .negotiate u (if s.rd
    Od.net_speed_max u = 1000 then speedsUpTo 1000 else [1000]) false :: s.out) ∧
    (∃ (s : State) (u : Nat) (speed : Nat), running s = true ∧ s.rd Od.net_link_state u = 3 ∧ s.rd Od.net_speed u = speed ∧ speed ≠ 0 ∧ s.rd
    Od.net_dot1x_state u = 3 ∧ s.net.a.raiseDue = false ∧ s.net.b.raiseDue = false ∧ ∃ t, exec (.speedShiftEnd u speed) s = .next t ∧ t.rd
    Od.net_link_state u = 2 ∧ t.rd Od.net_speed u = speed ∧ t.rd Od.net_dot1x_state u = 3 ∧ t.rd Od.sys_health = s.rd Od.sys_health) :=
  ⟨⟨{ st .run [(Od.net_downshift, 0, 0)] with variant := .s }, 1, 99999, by decide +kernel, by decide +kernel, by decide +kernel, by decide +kernel,
    by decide +kernel, congrArg Host.Outcome.next (by decide +kernel)⟩,
    ⟨{ st .run [(Od.net_downshift, 0, 1), (Od.net_speed, 1, 2500), (Od.net_link_state, 1, 2)] with variant := .s, now := 70000000000, net := { a := { usableSince := some 5 } } },
    1, 99999, by decide +kernel, by decide +kernel, by decide +kernel, by decide +kernel, by decide +kernel, by decide +kernel, by decide +kernel,
    by decide +kernel, by decide +kernel, ⟨_, rfl, by decide +kernel⟩⟩,
    ⟨st .run [(Od.net_link_state, 1, 3), (Od.net_speed, 1, 1000), (Od.net_dot1x_state, 1, 3), (Od.sys_health, 0, 0x20)], 1, 1000, by decide +kernel,
    by decide +kernel, by decide +kernel, by decide +kernel, by decide +kernel, by decide +kernel, by decide +kernel, ⟨_, rfl, by decide +kernel⟩⟩⟩

theorem witness_FieldBridgeAndT1lLinks :
    (∃ (s : State) (p : Nat) (f : FieldFrame), running s = true ∧ bridgePort s p = true ∧ p < 16 ∧ f.fcsBad = true ∧ exec (.fieldFrameRx p f) s =
    .next (s.count Od.fld_rx_discards p)) ∧
    (∃ (s : State) (seg : Nat) (f : FieldFrame), running s = true ∧ bridgePort s (16 + seg) = true ∧ f.node < s.rd Od.fld_plca_count seg ∧ f.fcsBad =
    true ∧ exec (.fieldFrameRx (16 + seg) f) s = .next ((s.wrBit Od.fld_plca_present f.node true seg).count Od.fld_rx_discards (16 + seg))) ∧
    (∃ (s : State) (p : Nat) (f : FieldFrame) (k : FrameKind), running s = true ∧ bridgePort s p = true ∧ p < 16 ∧ f.fcsBad = false ∧ f.vid = none ∧
    f.multi = false ∧ f.ports = [] ∧ f.uplink = none ∧ f.own = some k ∧ exec (.fieldFrameRx p f) s = .next ((s.count Od.fld_rx_frames p).send (.routed
    k f.len))) ∧
    (∃ (s : State) (p : Nat) (q : Nat) (f : FieldFrame), running s = true ∧ bridgePort s p = true ∧ p < 16 ∧ f.fcsBad = false ∧ f.vid = none ∧ f.multi
    = false ∧ f.ports = [q] ∧ f.uplink = none ∧ f.own = none ∧ bridgePort s q = true ∧ s.rd Od.fld_pvid q = s.rd Od.fld_pvid p ∧ 4 ≤ s.rd Od.fld_pcp p
    ∧ txBytes (txOf s q).high + f.len ≤ 32768 ∧ ∃ t, exec (.fieldFrameRx p f) s = .next t ∧ t.od = (s.count Od.fld_rx_frames p).od ∧ txOf t q =
    { txOf s q with high := (txOf s q).high ++ [⟨s.now, f.len, 0⟩] }) ∧
    (∃ (s : State) (p : Nat) (q : Nat) (f : FieldFrame), running s = true ∧ bridgePort s p = true ∧ p < 16 ∧ f.fcsBad = false ∧ f.vid = none ∧ f.multi
    = false ∧ f.ports = [q] ∧ f.uplink = none ∧ f.own = none ∧ bridgePort s q = true ∧ s.rd Od.fld_pvid q = s.rd Od.fld_pvid p ∧ s.rd Od.fld_pcp p < 4
    ∧ 32768 < txBytes (txOf s q).low + f.len ∧ exec (.fieldFrameRx p f) s = .next ((s.count Od.fld_rx_frames p).count Od.fld_tx_drops q)) ∧
    (∃ (s : State) (p : Nat), ∃ t, exec (.bcastWindowReset p) s = .next t ∧ t.od = s.od ∧ tabGet 0 p t.fld.bcast = 0) ∧
    (∃ (s : State) (seg : Nat) (node : Nat), seg < t1sCount s ∧ 0 < node ∧ node < 16 ∧ exec (.plcaPresenceAgeout seg node) s = .next (s.wrBit
    Od.fld_plca_present node false seg)) ∧
    (∃ (s : State) (p : Nat) (snr : Nat) (high : Bool), running s = true ∧ p < t1lCount s ∧ s.rd Od.fld_t1l_enable p = 1 ∧ s.rd Od.fld_t1l_amp p = 0 ∧
    snr < 256 ∧ ∃ t, exec (.t1lLinkUp p high snr) s = .next t ∧ t.rd Od.fld_t1l_state p = (if high then 4 else 3) ∧ t.rd Od.fld_t1l_snr p = snr) ∧
    (∃ (s : State) (p : Nat), p < t1lCount s ∧ 3 ≤ s.rd Od.fld_t1l_state p ∧ ∃ t, exec (.t1lLinkDown p) s = .next t ∧ t.rd Od.fld_t1l_state p = 1 ∧
    t.rd Od.fld_t1l_snr p = 0) :=
  ⟨⟨st .run [], 15, ⟨true, none, 0, false, 5, 6, 64, 0, none, none, []⟩, by decide +kernel, by decide +kernel, by decide +kernel, by decide +kernel,
    congrArg Host.Outcome.next (by decide +kernel)⟩,
    ⟨st .run [(Od.fld_plca_count, 7, 16)], 7, ⟨true, none, 0, false, 5, 6, 64, 15, none, none, []⟩, by decide +kernel, by decide +kernel,
    by decide +kernel, by decide +kernel, congrArg Host.Outcome.next (by decide +kernel)⟩,
    ⟨st .run [], 15, ⟨false, none, 0, false, 5, 6, 64, 0, some .macaron, none, []⟩, .macaron, by decide +kernel, by decide +kernel, by decide +kernel,
    by decide +kernel, by decide +kernel, by decide +kernel, by decide +kernel, by decide +kernel, by decide +kernel, congrArg Host.Outcome.next
    (by decide +kernel)⟩,
    ⟨st .run [(Od.fld_pcp, 15, 4)], 15, 23, ⟨false, none, 0, false, 5, 6, 32768, 0, none, none, [23]⟩, by decide +kernel, by decide +kernel,
    by decide +kernel, by decide +kernel, by decide +kernel, by decide +kernel, by decide +kernel, by decide +kernel, by decide +kernel,
    by decide +kernel, by decide +kernel, by decide +kernel, by decide +kernel, ⟨_, rfl, by decide +kernel⟩⟩,
    ⟨st .run [(Od.fld_pcp, 15, 3)], 15, 23, ⟨false, none, 0, false, 5, 6, 32769, 0, none, none, [23]⟩, by decide +kernel, by decide +kernel,
    by decide +kernel, by decide +kernel, by decide +kernel, by decide +kernel, by decide +kernel, by decide +kernel, by decide +kernel,
    by decide +kernel, by decide +kernel, by decide +kernel, by decide +kernel, congrArg Host.Outcome.next (by decide +kernel)⟩,
    ⟨{ st .run [] with fld := { bcast := [(4, 9)] } }, 4, ⟨_, rfl, by decide +kernel⟩⟩,
    ⟨st .run [(Od.fld_plca_present, 7, 0xFFFF)], 7, 15, by decide +kernel, by decide +kernel, by decide +kernel, congrArg Host.Outcome.next
    (by decide +kernel)⟩,
    ⟨st .run [(Od.fld_t1l_state, 15, 2)], 15, 255, true, by decide +kernel, by decide +kernel, by decide +kernel, by decide +kernel,
    by decide +kernel, ⟨_, rfl, by decide +kernel⟩⟩,
    ⟨st .run [(Od.fld_t1l_state, 15, 3), (Od.fld_t1l_snr, 15, 200)], 15, by decide +kernel, by decide +kernel, ⟨_, rfl, by decide +kernel⟩⟩⟩

theorem witness_PowerIsDetectedAndGranted :
    (∃ (s : State) (p : Nat) (foreignMv : Nat) (sigOk : Bool), running s = true ∧ p < t1lCount s ∧ s.rd Od.fld_pse_enable p = 1 ∧ s.fld.pwrBad = false
    ∧ entryOff s = false ∧ s.rd Od.fld_pse_state p = 0 ∧ s.fld.detects = [] ∧ ∃ t, exec (.pseStart p foreignMv sigOk) s = .next t ∧ t.rd
    Od.fld_pse_state p = (if 3000 ≤ foreignMv then 1 else 2) ∧ (foreignMv < 3000 → (pseDetected t).rd Od.fld_pse_state p = if sigOk then 4 else 3)) ∧
    (∃ (s : State) (p : Nat) (foreignMv : Nat) (sigOk : Bool), running s = true ∧ p < t1lCount s ∧ s.rd Od.fld_pse_enable p = 1 ∧ s.fld.pwrBad = false
    ∧ entryOff s = false ∧ (s.rd Od.fld_pse_state p = 1 ∨ s.rd Od.fld_pse_state p = 3) ∧ s.fld.detects = [] ∧ ∃ t, exec (.pseCheckRepeat p foreignMv
    sigOk) s = .next t ∧ t.rd Od.fld_pse_state p = (if 3000 ≤ foreignMv then 1 else 2) ∧ (foreignMv < 3000 → (pseDetected t).rd Od.fld_pse_state p =
    if sigOk then 4 else 3)) ∧
    (∃ (s : State) (p : Nat) (c : Nat), running s = true ∧ p < t1lCount s ∧ s.rd Od.fld_pse_state p = 4 ∧ s.rd Od.fld_pse_prio p ≤ 3 ∧ 10 ≤ c ∧ c ≤ 15
    ∧ c ≤ s.rd Od.fld_pse_max_class p ∧ (countedAlloc s c).le ((pseBudget s).sub (pseAllocated s)) = true ∧ ∃ t, exec (.pseClassificationDone (p, some
    c) []) s = .next t ∧ t.rd Od.fld_pse_state p = 6 ∧ t.rd Od.fld_pse_class p = c) ∧
    (∃ (s : State) (p : Nat) (c : Nat), running s = true ∧ p < t1lCount s ∧ s.rd Od.fld_pse_state p = 4 ∧ s.rd Od.fld_pse_prio p ≤ 3 ∧ c < 10 ∧ exec
    (.pseClassificationDone (p, some c) []) s = .next (s.wr Od.fld_pse_state 5 p)) ∧
    (∃ (s : State) (p : Nat) (q : Nat), running s = true ∧ p < t1lCount s ∧ q < t1lCount s ∧ s.rd Od.fld_pse_state p = 4 ∧ s.rd Od.fld_pse_state q = 4
    ∧ s.rd Od.fld_pse_prio p = 0 ∧ s.rd Od.fld_pse_prio q = 1 ∧ 15 ≤ s.rd Od.fld_pse_max_class p ∧ 15 ≤ s.rd Od.fld_pse_max_class q ∧ (countedAlloc s
    15).le ((pseBudget s).sub (pseAllocated s)) = true ∧ ∃ t, exec (.pseClassificationDone (q, some 15) [(p, some 15)]) s = .next t ∧ t.rd
    Od.fld_pse_state p = 6) ∧
    (∃ (s : State) (p : Nat) (portMv : Nat) (sourceMv : Nat), p < t1lCount s ∧ s.rd Od.fld_pse_state p = 6 ∧ sourceMv * 9 ≤ portMv * 10 ∧ ∃ t, exec
    (.psePowerGoodCheck p portMv sourceMv) s = .next t ∧ t.rd Od.fld_pse_state p = 7) :=
  ⟨⟨st .run [(Od.fld_pse_enable, 15, 1), (Od.fld_pse_state, 15, 0)], 15, 3000, true, by decide +kernel, by decide +kernel, by decide +kernel,
    by decide +kernel, by decide +kernel, by decide +kernel, by decide +kernel, ⟨_, rfl, by decide +kernel⟩⟩,
    ⟨st .run [(Od.fld_pse_enable, 15, 1), (Od.fld_pse_state, 15, 3)], 15, 2999, true, by decide +kernel, by decide +kernel, by decide +kernel,
    by decide +kernel, by decide +kernel, by decide +kernel, by decide +kernel, ⟨_, rfl, by decide +kernel⟩⟩,
    ⟨st .run [(Od.fld_pse_state, 15, 4), (Od.fld_pse_budget, 0, 900)], 15, 15, by decide +kernel, by decide +kernel, by decide +kernel,
    by decide +kernel, by decide +kernel, by decide +kernel, by decide +kernel, by decide +kernel, ⟨_, rfl, by decide +kernel⟩⟩,
    ⟨st .run [(Od.fld_pse_state, 15, 4)], 15, 9, by decide +kernel, by decide +kernel, by decide +kernel, by decide +kernel, by decide +kernel,
    congrArg Host.Outcome.next (by decide +kernel)⟩,
    ⟨st .run [(Od.fld_pse_state, 15, 4), (Od.fld_pse_state, 2, 4), (Od.fld_pse_prio, 15, 0), (Od.fld_pse_prio, 2, 1), (Od.fld_pse_budget, 0, 900)],
    15, 2, by decide +kernel, by decide +kernel, by decide +kernel, by decide +kernel, by decide +kernel, by decide +kernel, by decide +kernel,
    by decide +kernel, by decide +kernel, by decide +kernel, ⟨_, rfl, by decide +kernel⟩⟩,
    ⟨st .run [(Od.fld_pse_state, 15, 6), (Od.fld_pse_class, 15, 15)], 15, 45000, 50000, by decide +kernel, by decide +kernel, by decide +kernel, ⟨_,
    rfl, by decide +kernel⟩⟩⟩

theorem witness_PowerFaultsLatchAtTheThird :
    (∃ (s : State) (p : Nat) (ma : Nat), p < t1lCount s ∧ psePowered s p = true ∧ tripLimit (s.rd Od.fld_pse_class p) ≤ ma ∧ ((tabGet [] p
    s.fld.faultTimes).filter (fun t => decide (s.now < t + 600000000000))).length < 2 ∧ ∃ t, exec (.pseOvercurrentTrip p ma) s = .next t ∧ t.rd
    Od.fld_pse_state p = 8) ∧
    (∃ (s : State) (p : Nat) (ma : Nat), p < t1lCount s ∧ psePowered s p = true ∧ tripLimit (s.rd Od.fld_pse_class p) ≤ ma ∧ 2 ≤ ((tabGet [] p
    s.fld.faultTimes).filter (fun t => decide (s.now < t + 600000000000))).length ∧ ∃ t, exec (.pseOvercurrentTrip p ma) s = .next t ∧ t.rd
    Od.fld_pse_state p = 9) ∧
    (∃ (s : State) (p : Nat) (ma : Nat), p < t1lCount s ∧ psePowered s p = true ∧ 11 * classLimit (s.rd Od.fld_pse_class p) < 10 * ma ∧ ∃ t, exec
    (.pseOverload p ma) s = .next t ∧ (t.rd Od.fld_pse_state p = 8 ∨ t.rd Od.fld_pse_state p = 9)) ∧
    (∃ (s : State) (p : Nat) (portMv : Nat) (sourceMv : Nat), p < t1lCount s ∧ s.rd Od.fld_pse_state p = 7 ∧ portMv * 10 < sourceMv * 9 ∧ ∃ t, exec
    (.pseUndervoltage p portMv sourceMv) s = .next t ∧ (t.rd Od.fld_pse_state p = 8 ∨ t.rd Od.fld_pse_state p = 9)) ∧
    (∃ (s : State) (p : Nat) (ma : Nat), p < t1lCount s ∧ s.rd Od.fld_pse_state p = 7 ∧ ma < 5 ∧ s.rd Od.fld_pse_enable p = 1 ∧ ∃ t, exec
    (.pseDisconnect p ma) s = .next t ∧ t.rd Od.fld_pse_state p = 0 ∧ t.rd Od.fld_pse_class p = 0) ∧
    (∃ (s : State) (p : Nat), p < t1lCount s ∧ s.rd Od.fld_pse_state p = 8 ∧ s.rd Od.fld_pse_enable p = 1 ∧ entryOff s = false ∧ exec (.pseFaultRetry
    p) s = .next ((s.wr Od.fld_pse_state 0 p).wr Od.fld_pse_class 0 p)) :=
  ⟨⟨{ st .run [(Od.fld_pse_state, 15, 7), (Od.fld_pse_class, 15, 15)] with now := 700000000000, fld := { faultTimes := [(15, [600000000000, 100000000000])] } },
    15, 1900, by decide +kernel, by decide +kernel, by decide +kernel, by decide +kernel, ⟨_, rfl, by decide +kernel⟩⟩,
    ⟨{ st .run [(Od.fld_pse_state, 15, 6), (Od.fld_pse_class, 15, 14)] with now := 700000000000, fld := { faultTimes := [(15, [600000000000, 100000000001])] } },
    15, 1200, by decide +kernel, by decide +kernel, by decide +kernel, by decide +kernel, ⟨_, rfl, by decide +kernel⟩⟩,
    ⟨st .run [(Od.fld_pse_state, 15, 6), (Od.fld_pse_class, 15, 10)], 15, 102, by decide +kernel, by decide +kernel, by decide +kernel, ⟨_, rfl,
    by decide +kernel⟩⟩,
    ⟨st .run [(Od.fld_pse_state, 15, 7), (Od.fld_pse_class, 15, 10)], 15, 44999, 50000, by decide +kernel, by decide +kernel, by decide +kernel, ⟨_,
    rfl, by decide +kernel⟩⟩,
    ⟨st .run [(Od.fld_pse_state, 15, 7), (Od.fld_pse_class, 15, 10), (Od.fld_pse_enable, 15, 1)], 15, 4, by decide +kernel, by decide +kernel,
    by decide +kernel, by decide +kernel, ⟨_, rfl, by decide +kernel⟩⟩,
    ⟨st .run [(Od.fld_pse_state, 15, 8), (Od.fld_pse_class, 15, 10), (Od.fld_pse_enable, 15, 1)], 15, by decide +kernel, by decide +kernel,
    by decide +kernel, by decide +kernel, congrArg Host.Outcome.next (by decide +kernel)⟩⟩

theorem witness_FieldPowerAndBudget :
    (∃ (s : State) (mv : Nat) (p : Nat), powered s = true ∧ (mv < 42000 ∨ 58000 < mv) ∧ p < t1lCount s ∧ s.rd Od.fld_pse_state p ≠ 9 ∧ ∃ t, exec
    (.fieldPwrOutOfRange mv) s = .next t ∧ t.rd Od.fld_pse_state p = 0 ∧ t.fld.pwrBad = true ∧ t.rdBit Od.sys_env_status envFIELD_PWR = true) ∧
    (∃ (s : State) (mv : Nat) (p : Nat), powered s = true ∧ s.fld.pwrBad = true ∧ 44000 ≤ mv ∧ mv ≤ 57000 ∧ p < t1lCount s ∧ s.rd Od.fld_pse_enable p
    = 1 ∧ s.rd Od.fld_pse_state p ≠ 9 ∧ ∃ t, exec (.fieldPwrRecovered mv) s = .next t ∧ t.rd Od.fld_pse_state p = 0 ∧ t.fld.pwrBad = false ∧ t.rdBit
    Od.sys_env_status envFIELD_PWR = false) ∧
    (∃ (s : State) (m : List (Nat × Nat)), pseInput s m * 100 ≤ s.rd Od.fld_pse_budget * 105 ∧ ∃ t, exec (.pseInputOverBudget m) s = .next t ∧ t.rd
    Od.fld_pse_input = min (pseInput s m) 65535 ∧ (∀ p, p < t1lCount s → t.rd Od.fld_pse_state p = s.rd Od.fld_pse_state p) ∧ (∀ p, p < t1lCount s →
    t.rd Od.fld_pse_current p = min (m.getD p (0, 0)).2 2000)) ∧
    (∃ (s : State) (m : List (Nat × Nat)) (p : Nat), s.rd Od.fld_pse_budget * 105 < pseInput s m * 100 ∧ p < t1lCount s ∧ s.rd Od.fld_pse_prio p ≤ 3 ∧
    psePowered s p = true ∧ (∀ q, q < t1lCount s → q ≠ p → psePowered s q = false) ∧ ∃ t, exec (.pseInputOverBudget m) s = .next t ∧ t.rd
    Od.fld_pse_state p = 5 ∧ t.rd Od.fld_pse_input = 0) :=
  ⟨⟨st .run [(Od.fld_pse_state, 15, 7), (Od.fld_pse_class, 15, 10), (Od.fld_pse_enable, 15, 1)], 58001, 15, by decide +kernel, by decide +kernel,
    by decide +kernel, by decide +kernel, ⟨_, rfl, by decide +kernel⟩⟩,
    ⟨{ st .run [(Od.fld_pse_enable, 15, 1)] with fld := { pwrBad := true } }, 57000, 15, by decide +kernel, by decide +kernel, by decide +kernel,
    by decide +kernel, by decide +kernel, by decide +kernel, by decide +kernel, ⟨_, rfl, by decide +kernel⟩⟩,
    ⟨st .run [(Od.fld_pse_budget, 0, 100)], [(50000, 2100)], by decide +kernel, ⟨_, rfl, by decide +kernel⟩⟩,
    ⟨st .run [(Od.fld_pse_budget, 0, 100), (Od.fld_pse_state, 1, 7), (Od.fld_pse_class, 1, 13)], [(0, 0), (50000, 300)], 1, by decide +kernel,
    by decide +kernel, by decide +kernel, by decide +kernel, by decide +kernel, ⟨_, rfl, by decide +kernel⟩⟩⟩

theorem witness_T1sSegments :
    (∃ (s : State) (seg : Nat) (burst : Nat) (meanUs : Nat), running s = true ∧ seg < t1sCount s ∧ s.rd Od.fld_t1s_enable seg = 1 ∧ tabGet false seg
    s.fld.beaconStopped = false ∧ ∃ t, exec (.plcaCycle seg burst meanUs) s = .next t ∧ t.out = .fieldTx (16 + seg) (min ((txOf s (16 +
    seg)).high.length + (txOf s (16 + seg)).low.length) (min burst (s.rd Od.fld_plca_burst seg) + 1)) :: .beacon seg :: s.out ∧ (s.rd Od.fld_t1s_state
    seg = 3 → t.rd Od.fld_t1s_state seg = 1)) ∧
    (∃ (s : State) (seg : Nat), t1sRuns s seg = true ∧ ∃ t, exec (.t1sForeignBeacon seg) s = .next t ∧ t.rd Od.fld_t1s_state seg = 2) ∧
    (∃ (s : State) (seg : Nat), t1sRuns s seg = true ∧ s.rd Od.fld_t1s_state seg = 2 ∧ exec (.t1sForeignClear seg) s = .next (s.wr Od.fld_t1s_state 1
    seg)) ∧
    (∃ (s : State) (seg : Nat), t1sRuns s seg = true ∧ s.rd Od.fld_t1s_collisions seg + 1 < 2 ^ 32 ∧ ∃ t, exec (.t1sCollision ⟨seg, false⟩) s = .next
    t ∧ t.rd Od.fld_t1s_collisions seg = s.rd Od.fld_t1s_collisions seg + 1) ∧
    (∃ (s : State) (seg : Nat) (f : PortFrame), t1sRuns s seg = true ∧ (txOf s (16 + seg)).sent = [f] ∧ f.tries < 15 ∧ ∃ t, exec (.t1sCollision ⟨seg,
    true⟩) s = .next t ∧ txOf t (16 + seg) =
    { txOf s (16 + seg) with high := { f with tries := f.tries + 1 } :: (txOf s (16 + seg)).high, sent := [] }) ∧
    (∃ (s : State) (seg : Nat), t1sRuns s seg = true ∧ s.rd Od.fld_t1s_jabber seg + 1 < 2 ^ 32 ∧ ∃ t, exec (.t1sJabber seg) s = .next t ∧ t.rd
    Od.fld_t1s_jabber seg = s.rd Od.fld_t1s_jabber seg + 1) ∧
    (∃ (s : State) (seg : Nat), t1sRuns s seg = true ∧ ∃ t, exec (.t1sMediumStuck seg) s = .next t ∧ t.rd Od.fld_t1s_state seg = 3 ∧ tabGet false seg
    t.fld.beaconStopped = true) ∧
    (∃ (s : State) (seg : Nat), ∃ t, exec (.t1sBeaconRestart seg) s = .next t ∧ t.od = s.od ∧ tabGet false seg t.fld.beaconStopped = false) :=
  ⟨⟨{ st .run [(Od.fld_t1s_enable, 7, 1), (Od.fld_t1s_state, 7, 3), (Od.fld_plca_burst, 7, 2)] with fld := { tx := [(23, { high := [⟨0, 64, 0⟩], low := [⟨0, 64, 0⟩, ⟨1, 64, 0⟩, ⟨2, 64, 0⟩] })] } },
    7, 1, 900, by decide +kernel, by decide +kernel, by decide +kernel, by decide +kernel, ⟨_, rfl, by decide +kernel⟩⟩,
    ⟨st .run [(Od.fld_t1s_enable, 7, 1), (Od.fld_t1s_state, 7, 1)], 7, by decide +kernel, ⟨_, rfl, by decide +kernel⟩⟩,
    ⟨st .run [(Od.fld_t1s_enable, 7, 1), (Od.fld_t1s_state, 7, 2)], 7, by decide +kernel, by decide +kernel, congrArg Host.Outcome.next
    (by decide +kernel)⟩,
    ⟨st .run [(Od.fld_t1s_enable, 7, 1), (Od.fld_t1s_collisions, 7, 8)], 7, by decide +kernel, by decide +kernel, ⟨_, rfl, by decide +kernel⟩⟩,
    ⟨{ st .run [(Od.fld_t1s_enable, 7, 1)] with fld := { tx := [(23, { sent := [⟨0, 64, 14⟩] })] } }, 7, ⟨0, 64, 14⟩, by decide +kernel,
    by decide +kernel, by decide +kernel, ⟨_, rfl, by decide +kernel⟩⟩,
    ⟨st .run [(Od.fld_t1s_enable, 7, 1), (Od.fld_t1s_jabber, 7, 8)], 7, by decide +kernel, by decide +kernel, ⟨_, rfl, by decide +kernel⟩⟩,
    ⟨st .run [(Od.fld_t1s_enable, 7, 1), (Od.fld_t1s_state, 7, 1)], 7, by decide +kernel, ⟨_, rfl, by decide +kernel⟩⟩,
    ⟨{ st .run [] with fld := { beaconStopped := [(7, true)] } }, 7, ⟨_, rfl, by decide +kernel⟩⟩⟩

theorem witness_MstpPorts :
    (∃ (s : State) (p : Nat) (waiting : Nat) (reply : Bool), rsRuns s p 1 = true ∧ (mstpOf s p).tokens < 49 ∧ exec (.mstpToken p waiting ⟨[], reply,
    0⟩) s = .next ((putMstp s p { mstpOf s p with tokens := (mstpOf s p).tokens + 1 }).send (.mstpSent p (min waiting (s.rd Od.fld_mstp_max_info p))
    (nextMaster s p)))) ∧
    (∃ (s : State) (p : Nat) (waiting : Nat), rsRuns s p 1 = true ∧ (mstpOf s p).tokens = 49 ∧ pollNext s p (polledLast s p) ≠ nextMaster s p ∧
    pollNext s p (polledLast s p) ≠ s.rd Od.fld_mstp_mac p ∧ ∃ t, exec (.mstpToken p waiting ⟨[], false, 0⟩) s = .next t ∧ (mstpOf t p).tokens = 0 ∧
    t.od = s.od ∧ t.out = .mstpSent p (min waiting (s.rd Od.fld_mstp_max_info p)) (nextMaster s p) :: .mstpPoll p (pollNext s p (polledLast s p)) ::
    s.out) ∧
    (∃ (s : State) (p : Nat) (waiting : Nat), rsRuns s p 1 = true ∧ (mstpOf s p).tokens < 49 ∧ nextMaster s p ≠ s.rd Od.fld_mstp_mac p ∧ ∃ t, exec
    (.mstpToken p waiting ⟨[], false, 1⟩) s = .next t ∧ t.out = .mstpRetry p (nextMaster s p) :: .mstpSent p (min waiting (s.rd Od.fld_mstp_max_info
    p)) (nextMaster s p) :: s.out) ∧
    (∃ (s : State) (p : Nat), rsRuns s p 1 = true ∧ ∃ t, exec (.mstpTokenLoss p) s = .next t ∧ t.od = (s.count Od.fld_mstp_token_loss p).od ∧ t.out =
    .mstpPoll p (pollNext s p (s.rd Od.fld_mstp_mac p)) :: s.out) ∧
    (∃ (s : State) (p : Nat) (request : Bool), rsRuns s p 1 = true ∧ ∃ t, exec (.mstpFrameRx p (s.rd Od.fld_mstp_mac p) false request) s = .next t ∧
    t.rd Od.fld_rs_state p = 3) ∧
    (∃ (s : State) (p : Nat) (src : Nat) (request : Bool), rsRuns s p 1 = true ∧ exec (.mstpFrameRx p src true request) s = .next (s.count
    Od.fld_rs_errors p)) ∧
    (∃ (s : State) (p : Nat), rsRuns s p 1 = true ∧ s.rd Od.fld_rs_state p = 3 ∧ exec (.mstpDupClear p) s = .next (s.wr Od.fld_rs_state 1 p)) ∧
    (∃ (s : State) (p : Nat) (station : Nat), p < rsCount s ∧ station < 128 ∧ exec (.mstpMasterAgeout p station) s = .next (s.wrBit
    Od.fld_mstp_masters (stationBit station) false p)) :=
  ⟨⟨{ st .run [(Od.fld_rs_mode, 3, 1), (Od.fld_rs_state, 3, 1), (Od.fld_mstp_max_info, 3, 2)] with fld := { mstp := [(3, { tokens := 48 })] } }, 3,
    5, true, by decide +kernel, by decide +kernel, congrArg Host.Outcome.next (by decide +kernel)⟩,
    ⟨{ st .run [(Od.fld_rs_mode, 3, 1), (Od.fld_rs_state, 3, 1), (Od.fld_mstp_mac, 3, 9)] with fld := { mstp := [(3, { tokens := 49, polled := some 126 })] } },
    3, 5, by decide +kernel, by decide +kernel, by decide +kernel, by decide +kernel, ⟨_, rfl, by decide +kernel⟩⟩,
    ⟨st .run [(Od.fld_rs_mode, 3, 1), (Od.fld_rs_state, 3, 1), (Od.fld_mstp_mac, 3, 9), (Od.fld_mstp_masters, 3, 2 ^ 7)], 3, 0, by decide +kernel,
    by decide +kernel, by decide +kernel, ⟨_, rfl, by decide +kernel⟩⟩,
    ⟨st .run [(Od.fld_rs_mode, 3, 1), (Od.fld_rs_state, 3, 1)], 3, by decide +kernel, ⟨_, rfl, by decide +kernel⟩⟩,
    ⟨st .run [(Od.fld_rs_mode, 3, 1), (Od.fld_rs_state, 3, 1), (Od.fld_mstp_mac, 3, 9)], 3, true, by decide +kernel, ⟨_, rfl, by decide +kernel⟩⟩,
    ⟨st .run [(Od.fld_rs_mode, 3, 1), (Od.fld_rs_state, 3, 1)], 3, 4, true, by decide +kernel, congrArg Host.Outcome.next (by decide +kernel)⟩,
    ⟨st .run [(Od.fld_rs_mode, 3, 1), (Od.fld_rs_state, 3, 3)], 3, by decide +kernel, by decide +kernel, congrArg Host.Outcome.next
    (by decide +kernel)⟩,
    ⟨st .run [(Od.fld_mstp_masters, 3, 2 ^ 7)], 3, 127, by decide +kernel, by decide +kernel, congrArg Host.Outcome.next (by decide +kernel)⟩⟩

theorem witness_ModbusPorts :
    (∃ (s : State) (p : Nat) (k : Nat) (at_ : Nat), mbReady s p = true ∧ tabGet [] p s.fld.mbDue = [] ∧ k < 256 ∧ (mbEntry s p k).func = 3 ∧ (mbEntry
    s p k).fmt = 1 ∧ (mbEntry s p k).station ≠ 0 ∧ (mbEntry s p k).period ≠ 0 ∧ mbHeld s p (mbEntry s p k).station = false ∧ ∃ t, exec (.modbusPollDue
    p k at_) s = .next t ∧ t.od = s.od ∧ t.out = .modbus p (mbEntry s p k).station 3 (mbEntry s p k).addr [1] :: s.out ∧ t.fld.mbOut = tabPut p ⟨k,
    s.rd Od.fld_mb_retries p, false⟩ s.fld.mbOut) ∧
    (∃ (s : State) (p : Nat) (k : Nat) (at_ : Nat) (o : MbOut), rsRuns s p 2 = true ∧ s.rd Od.fld_rs_state p = 1 ∧ mbOutOf s p = some o ∧ tabGet [] p
    s.fld.mbDue = [] ∧ k < 256 ∧ (mbEntry s p k).period ≠ 0 ∧ mbHeld s p (mbEntry s p k).station = false ∧ ∃ t, exec (.modbusPollDue p k at_) s =
    .next t ∧ t.od = s.od ∧ t.out = s.out ∧ tabGet [] p t.fld.mbDue = [(min at_ s.now, k)]) ∧
    (∃ (s : State) (p : Nat) (code : Nat) (o : MbOut), rsRuns s p 2 = true ∧ tabGet [] p s.fld.mbDue = [] ∧ mbOutOf s p = some o ∧ code < 256 ∧ ∃ t,
    exec (.modbusReplyRx p (.exception code)) s = .next t ∧ t.rd Od.fld_mb_status (p * 256 + o.entry) = code * 256 + 3 ∧ t.fld.mbOut = tabDel p
    s.fld.mbOut) ∧
    (∃ (s : State) (p : Nat) (o : MbOut) (ws : List Nat), rsRuns s p 2 = true ∧ mbOutOf s p = some o ∧ 0 < o.left ∧ (mbWrites (mbEntry s p
    o.entry).func = false ∨ s.mode ≠ .safeHold) ∧ mbRequest s p o.entry (mbEntry s p o.entry) = some (some ws) ∧ ∃ t, exec (.modbusReplyTimeout p) s =
    .next t ∧ t.od = s.od ∧ t.fld.mbOut = tabPut p ⟨o.entry, o.left - 1, false⟩ s.fld.mbOut) ∧
    (∃ (s : State) (p : Nat) (o : MbOut), rsRuns s p 2 = true ∧ tabGet [] p s.fld.mbDue = [] ∧ mbOutOf s p = some o ∧ o.left = 0 ∧ o.crcBad = false ∧
    (mbWrites (mbEntry s p o.entry).func = false ∨ s.mode ≠ .safeHold) ∧ s.rd Od.fld_mb_status (p * 256 + o.entry) < 65536 ∧ ∃ t, exec
    (.modbusReplyTimeout p) s = .next t ∧ t.rd Od.fld_mb_status (p * 256 + o.entry) % 256 = 2 ∧ t.fld.mbOut = tabDel p s.fld.mbOut) ∧
    (∃ (s : State) (p : Nat) (k : Nat) (ws : List Nat), mbReady s p = true ∧ tabGet [] p s.fld.mbDue = [] ∧ k < 256 ∧ (mbEntry s p k).func = 6 ∧
    (mbEntry s p k).flags = 1 ∧ (mbEntry s p k).station ≠ 0 ∧ (mbEntry s p k).period ≠ 0 ∧ s.mode ≠ .safeHold ∧ mbRequest s p k (mbEntry s p k) = some
    (some ws) ∧ mbHeld s p (mbEntry s p k).station = false ∧ ∃ t, exec (.modbusOutChange p k) s = .next t ∧ t.od = s.od ∧ t.out = .modbus p (mbEntry s
    p k).station 6 (mbEntry s p k).addr ws :: s.out) ∧
    (∃ (s : State) (p : Nat), running s = true ∧ p < rsCount s ∧ s.rd Od.fld_rs_mode p ≠ 0 ∧ ∃ t, exec (.rs485BusFault p) s = .next t ∧ t.rd
    Od.fld_rs_state p = 2 ∧ t.fld.mbOut = tabDel p s.fld.mbOut) ∧
    (∃ (s : State) (p : Nat), running s = true ∧ p < rsCount s ∧ s.rd Od.fld_rs_state p = 2 ∧ exec (.rs485BusIdle p) s = .next (s.wr Od.fld_rs_state 1
    p)) :=
  ⟨⟨st .run [(Od.fld_rs_mode, 3, 2), (Od.fld_rs_state, 3, 1), (Od.fld_mb_poll, 1023, pollRead)], 3, 255, 0, by decide +kernel, by decide +kernel,
    by decide +kernel, by decide +kernel, by decide +kernel, by decide +kernel, by decide +kernel, by decide +kernel, ⟨_, rfl, by decide +kernel⟩⟩,
    ⟨{ st .run [(Od.fld_rs_mode, 3, 2), (Od.fld_rs_state, 3, 1), (Od.fld_mb_poll, 1023, pollRead)] with fld := { mbOut := [(3, ⟨4, 1, false⟩)] }, now := 77 },
    3, 255, 76, ⟨4, 1, false⟩, by decide +kernel, by decide +kernel, by decide +kernel, by decide +kernel, by decide +kernel, by decide +kernel,
    by decide +kernel, ⟨_, rfl, by decide +kernel⟩⟩,
    ⟨{ st .run [(Od.fld_rs_mode, 3, 2), (Od.fld_rs_state, 3, 1)] with fld := { mbOut := [(3, ⟨255, 1, false⟩)] } }, 3, 2, ⟨255, 1, false⟩,
    by decide +kernel, by decide +kernel, by decide +kernel, by decide +kernel, ⟨_, rfl, by decide +kernel⟩⟩,
    ⟨{ st .run [(Od.fld_mb_poll, 1023, pollRead), (Od.fld_rs_mode, 3, 2), (Od.fld_rs_state, 3, 1)] with fld := { mbOut := [(3, ⟨255, 1, false⟩)] } },
    3, ⟨255, 1, false⟩, [1], by decide +kernel, by decide +kernel, by decide +kernel, by decide +kernel, by decide +kernel, ⟨_, rfl,
    by decide +kernel⟩⟩,
    ⟨{ st .run [(Od.fld_mb_poll, 1023, pollRead), (Od.fld_rs_mode, 3, 2), (Od.fld_rs_state, 3, 1)] with fld := { mbOut := [(3, ⟨255, 0, false⟩)] } },
    3, ⟨255, 0, false⟩, by decide +kernel, by decide +kernel, by decide +kernel, by decide +kernel, by decide +kernel, by decide +kernel,
    by decide +kernel, ⟨_, rfl, by decide +kernel⟩⟩,
    ⟨st .run [(Od.fld_rs_mode, 3, 2), (Od.fld_rs_state, 3, 1), (Od.fld_mb_poll, 1023, pollWrite), (Od.fld_mb_out, 1023, 0x42C80000)], 3, 255, [100],
    by decide +kernel, by decide +kernel, by decide +kernel, by decide +kernel, by decide +kernel, by decide +kernel, by decide +kernel,
    by decide +kernel, by decide +kernel, by decide +kernel, ⟨_, rfl, by decide +kernel⟩⟩,
    ⟨{ st .run [(Od.fld_rs_mode, 3, 2), (Od.fld_rs_state, 3, 1)] with fld := { mbOut := [(3, ⟨255, 0, false⟩)] } }, 3, by decide +kernel,
    by decide +kernel, by decide +kernel, ⟨_, rfl, by decide +kernel⟩⟩,
    ⟨st .run [(Od.fld_rs_mode, 3, 2), (Od.fld_rs_state, 3, 2)], 3, by decide +kernel, by decide +kernel, by decide +kernel, congrArg Host.Outcome.next
    (by decide +kernel)⟩⟩

theorem witness_LocalBusQueueAndWindow :
    (∃ (s : State) (a : Nat) (v : Nat) (full : Bool), lbServed s = true ∧ lbWritable a = true ∧ a ≠ 0x2003 ∧ s.lbs.queue = [] ∧ ∃ t, exec
    (.lbPostedWrite a v ⟨false, full⟩) s = .next t ∧ t.od = s.od ∧ t.lbs.queue = [] ∧ t.lbs.regs = tabPut a (v % 2 ^ 32) s.lbs.regs) ∧
    (∃ (s : State) (a : Nat) (v : Nat) (full : Bool), lbServed s = true ∧ lbWritable a = false ∧ exec (.lbPostedWrite a v ⟨false, full⟩) s = .next
    (s.count Od.lbs_wr_lost)) ∧
    (∃ (s : State), lbServed s = true ∧ ∃ t, exec .lbwDoneRead s = .next t ∧ t.out = .lbwDone s.lbs.done :: s.out ∧ t.lbs.done = 0 ∧ t.od = s.od) ∧
    (∃ (s : State) (v : Nat), serves s = true ∧ s.lbs.queue = [⟨0x2003, v, false⟩] ∧ lbReg s 0x2002 % 128 = 0 ∧ lbReg s 0x2001 ≠ 0 ∧ duplicateOf s ⟨0,
    0, lbReg s 0x2001, localBus⟩ = none ∧ lbTxn s = none ∧ ∃ t, exec .lbwGo s = .next t ∧ t.od = (s.count Od.od_port_hits 0).od ∧ t.lbs.queue = [] ∧
    tabGet ⟨0, 0, 0, 0⟩ (lbReg s 0x2001 % 16) t.lbs.slots = ⟨lbReg s 0x2001, 2, Status.zeroLength.code, 0⟩ ∧ t.lbs.done.testBit (lbReg s 0x2001 % 16)
    = true) ∧
    (∃ (s : State) (v : Nat), serves s = true ∧ s.lbs.queue = [⟨0x2003, v, true⟩] ∧ ∃ t, exec .lbwGo s = .next t ∧ t.lbs.queue = [] ∧ t.od = ((s.count
    Od.od_port_hits 0).count Od.od_queue_full).od ∧ tabGet ⟨0, 0, 0, 0⟩ (lbReg s 0x2001 % 16) t.lbs.slots = ⟨lbReg s 0x2001, 2, Status.busyRetry.code,
    0⟩) ∧
    (∃ (s : State) (v : Nat), serves s = true ∧ s.lbs.queue = [⟨0x2003, v, false⟩] ∧ lbReg s 0x2001 ≠ 0 ∧ lbRangeBad s = false ∧ lbTxn s = none ∧
    ((lbItem s).index < Od.txn_begin ∨ Od.txn_rollback < (lbItem s).index) ∧ Accepts (lbTaken s) ⟨0, 0, lbReg s 0x2001, localBus⟩ false [lbItem s] ∧
    s.rd Od.txn_next_seq + 1 < 2 ^ 64 ∧ ∃ t r, exec .lbwGo s = .next t ∧ r ∈ t.mer.recs ∧ RecordOf s ⟨0, 0, lbReg s 0x2001, localBus⟩ [lbItem s] r ∧
    t.lbs.queue = [] ∧ t.rd Od.txn_next_seq = s.rd Od.txn_next_seq + 1) ∧
    (∃ (s : State) (period : Nat) (w : Nat) (i : Nat) (e : Nat) (d : EntryDef), lbServed s = true ∧ (lbMapped s).filter (fun m => s.rd
    Od.lbs_map_period m.1 == period) = [(w, i * 65536 + e)] ∧ e < 65536 ∧ entryDef? i = some d ∧ ∃ t, exec (.waferRefresh period) s = .next t ∧ t.od =
    s.od ∧ tabGet 0 w t.lbs.words = lbWord d.ty (s.rd Od.lbs_map_part w) (readElem s i e) ∧ tabGet 0 period t.lbs.gens = if 65535 ≤ tabGet 0 period
    s.lbs.gens then 1 else tabGet 0 period s.lbs.gens + 1) :=
  ⟨⟨st .boot [], 0x201F, 0x12345678, true, by decide +kernel, by decide +kernel, by decide +kernel, by decide +kernel, ⟨_, rfl, by decide +kernel⟩⟩,
    ⟨st .run [], 0x2004, 1, true, by decide +kernel, by decide +kernel, congrArg Host.Outcome.next (by decide +kernel)⟩,
    ⟨{ st .run [] with lbs := { done := 0x8001 } }, by decide +kernel, ⟨_, rfl, by decide +kernel⟩⟩,
    ⟨{ st .run [] with lbs := { queue := [⟨0x2003, 1, false⟩], regs := [(0x2001, 0x4F)], slots := [] } }, 1, by decide +kernel, by decide +kernel,
    by decide +kernel, by decide +kernel, by decide +kernel, by decide +kernel, ⟨_, rfl, by decide +kernel⟩⟩,
    ⟨{ st .run [] with lbs := { queue := [⟨0x2003, 1, true⟩], regs := [(0x2001, 0x4F)] } }, 1, by decide +kernel, by decide +kernel, ⟨_, rfl,
    by decide +kernel⟩⟩,
    ⟨{ st .run rights with lbs := { queue := [⟨0x2003, 1, false⟩], regs := [(0x2000, Od.ctl_sp * 65536 + 1023), (0x2001, 9), (0x2002, 9 * 65536 + 4), (0x2010, 0x41200000)] } },
    1, by decide +kernel, by decide +kernel, by decide +kernel, by decide +kernel, by decide +kernel, by decide +kernel,
    by unfold Accepts; decide +kernel, by decide +kernel, ⟨_, _, rfl, List.getLast_mem (by decide +kernel), by unfold RecordOf; decide +kernel,
    by decide +kernel⟩⟩,
    ⟨{ st .run [(Od.lbs_map_src, 4095, Od.ana_term_v * 65536 + 31), (Od.lbs_map_period, 4095, 1000), (Od.ana_term_v, 31, 0x40A00000)] with lbs := { gens := [(1000, 65535)] } },
    1000, 4095, Od.ana_term_v, 31, (entryDef? Od.ana_term_v).get (by decide), by decide +kernel, by decide +kernel, by decide +kernel, by decide, ⟨_,
    rfl, by decide +kernel⟩⟩⟩

theorem witness_BulkStreamLink :
    (∃ (s : State), lbServed s = true ∧ s.rd Od.lbs_bsp_enable = 1 ∧ s.rd Od.lbs_bsp_state = 0 ∧ exec .bspTrain s = .next (s.wr Od.lbs_bsp_state 1)) ∧
    (∃ (s : State), lbServed s = true ∧ s.rd Od.lbs_bsp_state = 1 ∧ s.lbs.unacked = [] ∧ s.lbs.withheld = [] ∧ s.lbs.xfers = [] ∧ ∃ t, exec
    .bspAligned s = .next t ∧ t.rd Od.lbs_bsp_state = 2 ∧ t.rd Od.lbs_bsp_credits 0 = 16 ∧ t.rd Od.lbs_bsp_credits 1 = 16) ∧
    (∃ (s : State) (invalid : Nat), s.rd Od.lbs_bsp_state = 2 ∧ 1000 ≤ invalid ∧ ∃ t, exec (.bspRetrain invalid) s = .next t ∧ t.rd Od.lbs_bsp_state =
    3 ∧ t.rd Od.lbs_bsp_credits 0 = 0 ∧ t.lbs.timeouts = 0) ∧
    (∃ (s : State) (bytes : List Nat), s.rd Od.lbs_bsp_state = 2 ∧ s.rd Od.lbs_bsp_credits 1 ≠ 0 ∧ bspGood bytes = false ∧ s.sys.appUp = true ∧ s.rd
    Od.lbs_bsp_crc_err 1 + 1 < 2 ^ 32 ∧ ∃ t, exec (.bspFrameRx bytes) s = .next t ∧ t.out = .bspCredit s.lbs.rxSeq 1 :: s.out ∧ t.lbs.rxSeq =
    s.lbs.rxSeq ∧ t.rd Od.lbs_bsp_crc_err 1 = s.rd Od.lbs_bsp_crc_err 1 + 1) ∧
    (∃ (s : State) (bytes : List Nat), s.rd Od.lbs_bsp_state = 2 ∧ s.rd Od.lbs_bsp_credits 1 ≠ 0 ∧ bspGood bytes = true ∧ ofBytes (slice bytes 4 2) =
    s.lbs.rxSeq ∧ s.sys.appUp = true ∧ ∃ t, exec (.bspFrameRx bytes) s = .next t ∧ t.out = .bspCredit s.lbs.rxSeq 0 :: s.out ∧ t.lbs.rxSeq =
    (s.lbs.rxSeq + 1) % 65536 ∧ (bspTenant s ≠ none → bytes.getD 0 0 = 4 → ofBytes (slice bytes 2 2) ≠ 0 → bitOf (bytes.getD 1 0) 0 = true → ofBytes
    (slice bytes 8 4) = 0 → t.lbs.imgDone = s.lbs.imgDone ++ [slice bytes 12 (ofBytes (slice bytes 2 2))])) ∧
    (∃ (s : State) (seq : Nat), s.rd Od.lbs_bsp_state = 2 ∧ s.lbs.unacked.any (fun f => f.seq == seq) = true ∧ s.lbs.xfers = [] ∧ ∃ t, exec
    (.bspCreditRx seq 0 255) s = .next t ∧ t.lbs.unacked = s.lbs.unacked.filter (fun f => f.seq != seq) ∧ t.rd Od.lbs_bsp_credits 0 = min 16 (s.rd
    Od.lbs_bsp_credits 0 + 1)) ∧
    (∃ (s : State) (f : BspFrame) (fs : List BspFrame), s.rd Od.lbs_bsp_state = 2 ∧ s.lbs.unacked = f :: fs ∧ ∃ t, exec .bspCreditTimeout s = .next t
    ∧ t.out = .bspFrame f :: s.out ∧ t.lbs.timeouts = s.lbs.timeouts + 1 ∧ t.lbs.unacked = s.lbs.unacked ∧ (s.rd Od.lbs_bsp_resends 0 + 1 < 2 ^ 32 →
    t.rd Od.lbs_bsp_resends 0 = s.rd Od.lbs_bsp_resends 0 + 1)) :=
  ⟨⟨st .run [(Od.lbs_bsp_enable, 0, 1)], by decide +kernel, by decide +kernel, by decide +kernel, congrArg Host.Outcome.next (by decide +kernel)⟩,
    ⟨st .run [(Od.lbs_bsp_enable, 0, 1), (Od.lbs_bsp_state, 0, 1)], by decide +kernel, by decide +kernel, by decide +kernel, by decide +kernel,
    by decide +kernel, ⟨_, rfl, by decide +kernel⟩⟩,
    ⟨{ st .run [(Od.lbs_bsp_enable, 0, 1), (Od.lbs_bsp_state, 0, 2), (Od.lbs_bsp_credits, 0, 16)] with lbs := { timeouts := 2 } }, 1000,
    by decide +kernel, by decide +kernel, ⟨_, rfl, by decide +kernel⟩⟩,
    ⟨{ st .run [(Od.lbs_bsp_enable, 0, 1), (Od.lbs_bsp_state, 0, 2), (Od.lbs_bsp_credits, 1, 16)] with lbs := { rxSeq := 9 } }, [1, 2, 3],
    by decide +kernel, by decide +kernel, by decide +kernel, by decide +kernel, by decide +kernel, ⟨_, rfl, by decide +kernel⟩⟩,
    ⟨{ st .run [(Od.od_port_kind, 255, 6), (Od.lbs_bsp_enable, 0, 1), (Od.lbs_bsp_state, 0, 2), (Od.lbs_bsp_credits, 1, 16)] with lbs := { rxSeq := 65535 } },
    imageFrame, by decide +kernel, by decide +kernel, by decide +kernel, by decide +kernel, by decide +kernel, ⟨_, rfl, by decide +kernel⟩⟩,
    ⟨{ st .run [(Od.lbs_bsp_enable, 0, 1), (Od.lbs_bsp_state, 0, 2), (Od.lbs_bsp_credits, 0, 15)] with lbs := { unacked := [⟨1, true, 4, 7, 0, [9]⟩], txSeq := 5 } },
    4, by decide +kernel, by decide +kernel, by decide +kernel, ⟨_, rfl, by decide +kernel⟩⟩,
    ⟨{ st .run [(Od.lbs_bsp_enable, 0, 1), (Od.lbs_bsp_state, 0, 2)] with lbs := { unacked := [⟨1, true, 4, 7, 0, [9]⟩], txSeq := 5 } }, ⟨1, true, 4,
    7, 0, [9]⟩, [], by decide +kernel, by decide +kernel, ⟨_, rfl, by decide +kernel⟩⟩⟩

theorem witness_AnalogueChannels :
    (∃ (s : State) (c : Nat) (live : Nat) (spare : Nat) (term : Nat) (m : Nat), anaSampling s c = true ∧ s.rd Od.ana_mode c = 1 ∧ anaBit s c
    anaNOTREADY = false ∧ anaBit s c anaMISWIRE = false ∧ finite32 live = true ∧ finite32 spare = true ∧ term < 2 ^ 32 ∧ anaDead s c = false ∧ anaFade
    s c = none ∧ qf32 (anaReading s c (servingConv s (c / 8) (c % 8)) live) = m ∧ m < 2 ^ 32 ∧ ∃ t, exec (.analogueSample c live spare term) s = .next
    t ∧ t.rd Od.ana_meas c = m ∧ t.rd Od.ana_term_v c = term ∧ t.rd Od.ana_value c = anaValue s c 1 (f32q m) % 2 ^ 32 ∧ ((f32q m).lt ⟨36, 10⟩ = true →
    anaBit t c anaUNDER = true) ∧ ((Frac.mk 21 1).lt (f32q m) = true → anaBit t c anaOVER = true)) ∧
    (∃ (s : State) (c : Nat) (live : Nat) (spare : Nat) (term : Nat), anaSampling s c = true ∧ s.rd Od.ana_mode c = 0 ∧ finite32 live = true ∧
    finite32 spare = true ∧ exec (.analogueSample c live spare term) s = .next (s.wr Od.ana_term_v term c)) ∧
    (∃ (s : State) (c : Nat) (live : Nat) (spare : Nat) (term : Nat), anaSampling s c = true ∧ s.rd Od.ana_mode c ≠ 0 ∧ anaBit s c anaNOTREADY = false
    ∧ finite32 live = true ∧ finite32 spare = true ∧ anaDead s c = true ∧ ∃ t, exec (.analogueSample c live spare term) s = .next t ∧ t.rd
    Od.ana_value c = f32NaN ∧ t.rd Od.ana_meas c = f32NaN) ∧
    (∃ (s : State) (c : Nat) (x : Nat) (term : Nat) (m : Nat), anaSampling s c = true ∧ s.rd Od.ana_mode c ≠ 0 ∧ anaBit s c anaNOTREADY = true ∧
    anaDead s c = false ∧ finite32 x = true ∧ qf32 (anaReading s c (servingConv s (c / 8) (c % 8)) x) = m ∧ m < 2 ^ 32 ∧ ∃ t, exec
    (.channelFirstSample c x term) s = .next t ∧ anaBit t c anaNOTREADY = false ∧ t.rd Od.ana_meas c = m ∧ t.ana.reconf.contains c = false) ∧
    (∃ (s : State) (c : Nat) (m : Nat) (limit : Bool), running s = true ∧ c < anaCount s ∧ s.rd Od.ana_mode c = 1 ∧ anaBit s c anaNOTREADY = false ∧
    anaBit s c anaMISWIRE = false ∧ anaBit s c anaSHORT = false ∧ finite32 m = true ∧ (Frac.mk 245 10).le (f32q m) = true ∧ s.rd Od.ana_faults c + 1 <
    2 ^ 32 ∧ ∃ t, exec (.anaConditionChange c anaSHORT m limit) s = .next t ∧ anaBit t c anaSHORT = true ∧ anaBit t c anaCOMPLIANCE = false ∧ t.rd
    Od.ana_faults c = s.rd Od.ana_faults c + 1) ∧
    (∃ (s : State) (c : Nat) (m : Nat), anaOn s c = true ∧ s.rd Od.ana_mode c = 7 ∧ finite32 m = true ∧ (Frac.mk 1 2).le (f32q m) = true ∧ anaBit s c
    anaMISWIRE = false ∧ anaBit s c anaSHORT = false ∧ anaBit s c anaOPEN = false ∧ anaBit s c anaCOMPLIANCE = false ∧ ∃ t, exec (.complianceSet c m
    true) s = .next t ∧ anaBit t c anaCOMPLIANCE = true ∧ t.rd Od.ana_compliance c = 1) ∧
    (∃ (s : State) (c : Nat) (m : Nat), anaOn s c = true ∧ finite32 m = true ∧ anaBit s c anaCOMPLIANCE = true ∧ ((f32q m).sub (f32q (tabGet 0 c
    s.ana.drive))).abs.le ((anaSpan (s.rd Od.ana_mode c)).div ⟨2000, 1⟩) = true ∧ ∃ t, exec (.complianceClear c ⟨m, false⟩) s = .next t ∧ anaBit t c
    anaCOMPLIANCE = false ∧ t.rd Od.ana_compliance c = 0) ∧
    (∃ (s : State) (c : Nat) (lp : Int) (io : Int) (drive : Int) (readback : Int), anaSampling s c = true ∧ wiresOf s c = (0, 0) ∧ 26000 < lp ∧ ∃ t,
    exec (.miswireDetect c lp io drive readback) s = .next t ∧ t.rd Od.ana_miswire c = 1 ∧ anaBit t c anaMISWIRE = true ∧ anaLp t c = false) ∧
    (∃ (s : State) (c : Nat) (lp : Int) (io : Int) (drive : Int) (readback : Int), anaSampling s c = true ∧ wiresOf s c = (0, 0) ∧ -2000 ≤ lp ∧ lp ≤
    26000 ∧ io < -2000 ∧ ∃ t, exec (.miswireDetect c lp io drive readback) s = .next t ∧ t.rd Od.ana_miswire c = 4 ∧ anaBit t c anaMISWIRE = true ∧
    t.ana.drive = tabDel c s.ana.drive) ∧
    (∃ (s : State) (c : Nat) (lp : Int) (io : Int), anaSampling s c = true ∧ wiresOf s c = (1, 0) ∧ -2000 ≤ lp ∧ lp ≤ 26000 ∧ -2000 ≤ io ∧ io ≤ 26000
    ∧ ∃ t, exec (.miswireClear c lp io) s = .next t ∧ t.rd Od.ana_miswire c = 0 ∧ anaBit t c anaMISWIRE = false ∧ wiresOf t c = (0, 0)) :=
  ⟨⟨st .boot [(Od.ana_status, 31, 0), (Od.ana_mode, 31, 1), (Od.ana_eng_hi, 31, 0x42C80000)], 31, 0x41AC0000, 0x41200000, 0x40A00000, 0x41AC0000,
    by decide +kernel, by decide +kernel, by decide +kernel, by decide +kernel, by decide +kernel, by decide +kernel, by decide +kernel,
    by decide +kernel, by decide +kernel, by decide +kernel, by decide +kernel, ⟨_, rfl, by decide +kernel⟩⟩,
    ⟨st .run [(Od.ana_mode, 31, 0)], 31, 0x41AC0000, 0x41200000, 0x40A00000, by decide +kernel, by decide +kernel, by decide +kernel,
    by decide +kernel, congrArg Host.Outcome.next (by decide +kernel)⟩,
    ⟨{ st .run [(Od.ana_mode, 31, 8), (Od.ana_status, 31, 0)] with turn := { dead := [55] } }, 31, 0x41AC0000, 0x41200000, 0x40A00000,
    by decide +kernel, by decide +kernel, by decide +kernel, by decide +kernel, by decide +kernel, by decide +kernel, ⟨_, rfl, by decide +kernel⟩⟩,
    ⟨{ st .run [(Od.ana_mode, 31, 1), (Od.ana_status, 31, 2 ^ anaNOTREADY)] with ana := { reconf := [31] } }, 31, 0x41200000, 0x40A00000, 0x41200000,
    by decide +kernel, by decide +kernel, by decide +kernel, by decide +kernel, by decide +kernel, by decide +kernel, by decide +kernel, ⟨_, rfl,
    by decide +kernel⟩⟩,
    ⟨st .run [(Od.ana_mode, 31, 1), (Od.ana_status, 31, 2 ^ anaCOMPLIANCE)], 31, 0x41C40000, false, by decide +kernel, by decide +kernel,
    by decide +kernel, by decide +kernel, by decide +kernel, by decide +kernel, by decide +kernel, by decide +kernel, by decide +kernel, ⟨_, rfl,
    by decide +kernel⟩⟩,
    ⟨st .run [(Od.ana_status, 31, 0), (Od.ana_mode, 31, 7)], 31, 0x3F000000, by decide +kernel, by decide +kernel, by decide +kernel,
    by decide +kernel, by decide +kernel, by decide +kernel, by decide +kernel, by decide +kernel, ⟨_, rfl, by decide +kernel⟩⟩,
    ⟨{ st .run [(Od.ana_mode, 31, 7), (Od.ana_compliance, 31, 1), (Od.ana_status, 31, 2 ^ anaCOMPLIANCE)] with ana := { drive := [(31, 0x41200000)] } },
    31, 0x41200000, by decide +kernel, by decide +kernel, by decide +kernel, by decide +kernel, ⟨_, rfl, by decide +kernel⟩⟩,
    ⟨st .run [(Od.ana_mode, 31, 1)], 31, 26001, -2000, 0, 0, by decide +kernel, by decide +kernel, by decide +kernel, ⟨_, rfl, by decide +kernel⟩⟩,
    ⟨{ st .run [(Od.ana_mode, 31, 7)] with ana := { drive := [(31, 0x41200000)] } }, 31, 26000, -2001, 0, 0, by decide +kernel, by decide +kernel,
    by decide +kernel, by decide +kernel, by decide +kernel, ⟨_, rfl, by decide +kernel⟩⟩,
    ⟨{ st .run [(Od.ana_mode, 31, 1), (Od.ana_miswire, 31, 1), (Od.ana_status, 31, 2 ^ anaMISWIRE)] with ana := { wires := [(31, (1, 0))] } }, 31,
    -2000, 26000, by decide +kernel, by decide +kernel, by decide +kernel, by decide +kernel, by decide +kernel, by decide +kernel, ⟨_, rfl,
    by decide +kernel⟩⟩⟩

theorem witness_HartTransactions :
    (∃ (s : State) (c : Nat), hartOn s c = true ∧ s.rd Od.ana_hart_state c = 1 ∧ hartTxOf s (hartModem s c) = none ∧ ∃ t, exec (.hartIdentify c) s =
    .next t ∧ t.od = s.od ∧ t.out = .hart c (s.rd Od.ana_hart_role == 1) none 0 [] :: s.out ∧ hartTxOf t (hartModem s c) = some ⟨c, 0, false⟩) ∧
    (∃ (s : State) (c : Nat), hartOn s c = true ∧ s.rd Od.ana_hart_state c = 3 ∧ hartTxOf s (hartModem s c) = none ∧ ∃ t, exec (.hartIdentifyRetry c)
    s = .next t ∧ t.od = s.od ∧ t.out = .hart c (s.rd Od.ana_hart_role == 1) none 0 [] :: s.out ∧ hartTxOf t (hartModem s c) = some ⟨c, 0, false⟩) ∧
    (∃ (s : State) (m : Nat) (c : Nat) (cs : List Nat), running s = true ∧ hartTxOf s m = none ∧ hartChannels s m = c :: cs ∧ tabGet 0xFFFF m
    s.ana.visited = 0xFFFF ∧ s.rd Od.ana_hart_state c = 2 ∧ hartRspState s c = 1 ∧ hartCmd (tabGet 0 c s.ana.pass) ≤ 255 ∧ ∃ t, exec (.hartModemVisit
    m) s = .next t ∧ t.out = .hart c (s.rd Od.ana_hart_role == 1) (some (s.rd Od.ana_hart_uid c)) (hartCmd (tabGet 0 c s.ana.pass)) (hartData (tabGet
    0 c s.ana.pass)) :: s.out ∧ hartTxOf t m = some ⟨c, 2, false⟩ ∧ t.rd Od.ana_hart_last_tag c = hartTag (tabGet 0 c s.ana.pass)) ∧
    (∃ (s : State) (m : Nat) (c : Nat) (cs : List Nat), running s = true ∧ hartTxOf s m = none ∧ hartChannels s m = c :: cs ∧ tabGet 0xFFFF m
    s.ana.visited = 0xFFFF ∧ s.rd Od.ana_hart_state c = 2 ∧ hartRspState s c ≠ 1 ∧ s.rd Od.ana_hart_poll c ≠ 0 ∧ s.ana.lastPoll = [] ∧ ∃ t, exec
    (.hartModemVisit m) s = .next t ∧ t.od = s.od ∧ t.out = .hart c (s.rd Od.ana_hart_role == 1) (some (s.rd Od.ana_hart_uid c)) 3 [] :: s.out ∧
    hartTxOf t m = some ⟨c, 1, false⟩) ∧
    (∃ (s : State) (m : Nat) (c : Nat) (again : Bool) (r : HartReply), hartTxOf s m = some ⟨c, 0, again⟩ ∧ s.rd Od.ana_hart_enable c = 1 ∧ running s =
    true ∧ r.burst = false ∧ r.bad = false ∧ r.dev < 2 ^ 8 ∧ r.uid < 2 ^ 40 ∧ ∃ t, exec (.hartReplyRx m r) s = .next t ∧ t.rd Od.ana_hart_state c = 2
    ∧ anaBit t c anaHARTFAULT = false ∧ t.rd Od.ana_hart_dev_status c = r.dev ∧ t.rd Od.ana_hart_uid c = r.uid ∧ hartTxOf t m = none) ∧
    (∃ (s : State) (m : Nat) (c : Nat) (k : Nat), running s = true ∧ hartTxOf s m = some ⟨c, k, false⟩ ∧ ∃ t, exec (.hartReplyTimeout m) s = .next t ∧
    t.od = s.od ∧ hartTxOf t m = some ⟨c, k, true⟩ ∧ t.out.length = s.out.length + 1) ∧
    (∃ (s : State) (m : Nat) (c : Nat) (k : Nat), running s = true ∧ hartTxOf s m = some ⟨c, k, true⟩ ∧ s.rd Od.ana_hart_enable c = 1 ∧ (k = 0 ∨ s.rd
    Od.ana_hart_state c ≠ 1) ∧ ∃ t, exec (.hartReplyTimeout m) s = .next t ∧ t.rd Od.ana_hart_state c = (if k = 0 then 3 else 4) ∧ anaBit t c
    anaHARTFAULT = true ∧ hartTxOf t m = none) ∧
    (∃ (s : State) (m : Nat) (r : HartReply), r.burst = true ∧ exec (.hartReplyRx m r) s = .next s) :=
  ⟨⟨st .run [(Od.ana_hart_enable, 31, 1), (Od.ana_hart_state, 31, 1)], 31, by decide +kernel, by decide +kernel, by decide +kernel, ⟨_, rfl,
    by decide +kernel⟩⟩,
    ⟨st .run [(Od.ana_hart_enable, 31, 1), (Od.ana_hart_state, 31, 3)], 31, by decide +kernel, by decide +kernel, by decide +kernel, ⟨_, rfl,
    by decide +kernel⟩⟩,
    ⟨{ st .run [(Od.ana_hart_enable, 31, 1), (Od.ana_hart_state, 31, 2), (Od.ana_hart_rsp, 31, 0x1234010000 * 2 ^ 520)] with ana := { pass := [(31, 0x12340030010055 * 2 ^ 504)] } },
    7, 31, [], by decide +kernel, by decide +kernel, by decide +kernel, by decide +kernel, by decide +kernel, by decide +kernel, by decide +kernel,
    ⟨_, rfl, by decide +kernel⟩⟩,
    ⟨st .run [(Od.ana_hart_enable, 31, 1), (Od.ana_hart_state, 31, 2), (Od.ana_hart_poll, 31, 100)], 7, 31, [], by decide +kernel, by decide +kernel,
    by decide +kernel, by decide +kernel, by decide +kernel, by decide +kernel, by decide +kernel, by decide +kernel, ⟨_, rfl, by decide +kernel⟩⟩,
    ⟨{ st .run [(Od.ana_hart_enable, 31, 1), (Od.ana_hart_state, 31, 1)] with ana := { hartTx := [(7, ⟨31, 0, true⟩)] } }, 7, 31, true, ⟨false, false,
    0, 0x40, 0x2612345678, 0, [], []⟩, by decide +kernel, by decide +kernel, by decide +kernel, by decide +kernel, by decide +kernel,
    by decide +kernel, by decide +kernel, ⟨_, rfl, by decide +kernel⟩⟩,
    ⟨{ st .run [(Od.ana_hart_enable, 31, 1), (Od.ana_hart_state, 31, 2)] with ana := { hartTx := [(7, ⟨31, 1, false⟩)] } }, 7, 31, 1,
    by decide +kernel, by decide +kernel, ⟨_, rfl, by decide +kernel⟩⟩,
    ⟨{ st .run [(Od.ana_hart_enable, 31, 1), (Od.ana_hart_state, 31, 2)] with ana := { hartTx := [(7, ⟨31, 1, true⟩)] } }, 7, 31, 1,
    by decide +kernel, by decide +kernel, by decide +kernel, by decide +kernel, ⟨_, rfl, by decide +kernel⟩⟩,
    ⟨{ st .run [(Od.ana_hart_enable, 31, 1), (Od.ana_hart_state, 31, 2)] with ana := { hartTx := [(7, ⟨31, 1, true⟩)] } }, 7, ⟨true, false, 0, 0x40,
    0x2612345678, 0, [], []⟩, by decide +kernel, congrArg Host.Outcome.next (by decide +kernel)⟩⟩

theorem witness_TurnoverSteps :
    (∃ (s : State) (vref : Int) (iref : Int), powered s = true ∧ 1000 < vref.natAbs ∧ 2 ≤ s.turn.vrefBad ∧ ∃ t, exec (.referenceCompare vref iref) s =
    .next t ∧ t.rdBit Od.cal_ref 0 = true ∧ t.turn.stopped = true ∧ t.rdBit Od.sys_health 15 = true) ∧
    (∃ (s : State) (b : Nat), bankExists s b = true ∧ running s = true ∧ s.rd Od.cal_run b = 1 ∧ s.rd Od.cal_state b = 1 ∧ (bankOf s b).again = false
    ∧ (bankOf s b).againAt = none ∧ ∃ t, exec (.turnoverStepDue b) s = .next t ∧ t.rd Od.cal_state b = 2) ∧
    (∃ (s : State) (b : Nat), bankExists s b = true ∧ running s = true ∧ 2 ≤ s.rd Od.cal_state b ∧ s.rd Od.cal_state b ≤ 6 ∧ (bankOf s b).again =
    false ∧ (bankOf s b).againAt = none ∧ ∃ t, exec (.turnoverStepDue b) s = .next t ∧ t.od = s.od ∧ (bankOf t b).due = true) ∧
    (∃ (s : State) (b : Nat) (classes : List CalClass) (delay : Int), bankExists s b = true ∧ running s = true ∧ s.rd Od.cal_state b = 2 ∧ (∀ c <
    bankClasses b, (judgeClass b c delay (classes.getD c ⟨0, 0, 0, false⟩)).result = 1) ∧ ∃ t, exec (.spareCalibrationDone b classes delay) s = .next
    t ∧ t.rd Od.cal_state b = 3 ∧ ∀ c < bankClasses b, t.rd Od.cal_result (calElem b (s.rd Od.cal_spare b) c) = 1) ∧
    (∃ (s : State) (b : Nat) (c : Nat) (classes : List CalClass) (delay : Int), bankExists s b = true ∧ running s = true ∧ s.rd Od.cal_state b = 2 ∧ c
    < bankClasses b ∧ (judgeClass b c delay (classes.getD c ⟨0, 0, 0, false⟩)).result ≠ 1 ∧ (bankOf s b).second = true ∧ ∃ t, exec
    (.spareCalibrationDone b classes delay) s = .next t ∧ t.rd Od.cal_state b = 7 ∧ t.rd Od.cal_spare b = 0xFF ∧ t.rdBit Od.sys_health 15 = true) ∧
    (∃ (s : State) (b : Nat) (diff : Nat), bankExists s b = true ∧ running s = true ∧ s.rd Od.cal_state b = 3 ∧ (bankOf s b).repeatDue = false ∧
    (bankOf s b).repeats = 3 ∧ (bankOf s b).due = false ∧ s.rd Od.cal_run b = 1 ∧ s.turn.stopped = false ∧ s.rd Od.cal_spare b ≠ 0xFF ∧ s.rd
    Od.cal_late b + 1 < 2 ^ 32 ∧ ∃ t, exec (.turnoverCheckEnd b diff true) s = .next t ∧ t.rd Od.cal_state b = 1 ∧ t.rd Od.cal_late b = s.rd
    Od.cal_late b + 1) ∧
    (∃ (s : State) (b : Nat) (diff : Nat), bankExists s b = true ∧ running s = true ∧ s.rd Od.cal_state b = 3 ∧ (bankOf s b).repeatDue = false ∧ diff
    < 2 ^ 32 ∧ (f32q diff).abs.le ⟨s.rd Od.cal_agree b, 1⟩ = true ∧ ∃ t, exec (.turnoverCheckEnd b diff false) s = .next t ∧ t.rd Od.cal_state b = 4 ∧
    t.rd Od.cal_disagree b = diff) ∧
    (∃ (s : State) (b : Nat), running s = true ∧ s.rd Od.cal_state b = 3 ∧ (bankOf s b).repeatDue = true ∧ ∃ t, exec (.checkRepeat b) s = .next t ∧
    t.od = s.od ∧ (bankOf t b).repeatDue = false) ∧
    (∃ (s : State) (b : Nat) (first : Nat) (cause : FadeCause), bankExists s b = true ∧ running s = true ∧ s.rd Od.cal_state b = 4 ∧ fadeMayStart s b
    cause = true ∧ ∃ t, exec (.crossFadeStart ⟨b, cause, first⟩) s = .next t ∧ t.rd Od.cal_state b = 5 ∧ (bankOf t b).faded = 0 ∧ (4 ≤ b → tabGet ⟨0,
    0, 0, false⟩ (b * 16 + stepTarget s b) t.turn.handed = ⟨first, servingConv s b (stepTarget s b), s.rd Od.cal_spare b, true⟩)) ∧
    (∃ (s : State) (b : Nat), bankExists s b = true ∧ running s = true ∧ s.rd Od.cal_state b = 5 ∧ fadeComplete s b = true ∧ s.rd Od.cal_next b <
    bankChannels b ∧ s.rd Od.cal_spare b < 2 ^ 8 ∧ s.rd Od.cal_map b < 2 ^ 128 ∧ ∃ t, exec (.crossFadeEnd b) s = .next t ∧ t.rd Od.cal_state b = 6 ∧
    servingConv t b (s.rd Od.cal_next b) = s.rd Od.cal_spare b ∧ t.rd Od.cal_spare b = servingConv s b (s.rd Od.cal_next b) ∧ t.rd Od.cal_next b =
    (s.rd Od.cal_next b + 1) % bankChannels b) ∧
    (∃ (s : State) (b : Nat) (classes : List CalClass) (delay : Int), bankExists s b = true ∧ running s = true ∧ s.rd Od.cal_state b = 6 ∧
    (recordCalibration s b (bankOf s b).released classes delay true).2 = true ∧ (bankOf s b).due = false ∧ s.rd Od.cal_run b = 1 ∧ s.turn.stopped =
    false ∧ s.rd Od.cal_spare b ≠ 0xFF ∧ s.rd Od.cal_steps b + 1 < 2 ^ 32 ∧ ∃ t, exec (.releasedCalibrationDone b classes delay) s = .next t ∧ t.rd
    Od.cal_state b = 1 ∧ t.rd Od.cal_steps b = s.rd Od.cal_steps b + 1) ∧
    (∃ (s : State) (b : Nat) (j : Nat) (gapUs : Nat) (first : Nat), bankExists s b = true ∧ running s = true ∧ j < bankChannels b ∧
    s.turn.dead.contains (b * 16 + j) = false ∧ s.rd Od.cal_spare b < 2 ^ 8 ∧ s.rd Od.cal_spare b ≠ 0xFF ∧ s.rd Od.cal_map b < 2 ^ 128 ∧ ∃ t, exec
    (.liveConverterFailure b j ⟨gapUs, first⟩) s = .next t ∧ servingConv t b j = s.rd Od.cal_spare b ∧ t.rd Od.cal_spare b = 0xFF ∧ t.rd Od.cal_state
    b = 7 ∧ t.rdBit Od.sys_health 15 = true) ∧
    (∃ (s : State) (b : Nat) (j : Nat) (gapUs : Nat) (first : Nat), bankExists s b = true ∧ running s = true ∧ j < bankChannels b ∧
    s.turn.dead.contains (b * 16 + j) = false ∧ s.rd Od.cal_spare b = 0xFF ∧ ∃ t, exec (.liveConverterFailure b j ⟨gapUs, first⟩) s = .next t ∧
    t.turn.dead.contains (b * 16 + j) = true ∧ servingConv t b j = servingConv s b j ∧ t.rdBit Od.sys_health 15 = true) :=
  ⟨⟨{ st .run [] with turn := { vrefBad := 2 } }, -1001, 0, by decide +kernel, by decide +kernel, by decide +kernel, ⟨_, rfl, by decide +kernel⟩⟩,
    ⟨st .run [(Od.cal_run, 5, 1), (Od.cal_state, 5, 1)], 5, by decide +kernel, by decide +kernel, by decide +kernel, by decide +kernel,
    by decide +kernel, by decide +kernel, ⟨_, rfl, by decide +kernel⟩⟩,
    ⟨st .run [(Od.cal_run, 5, 1), (Od.cal_state, 5, 6)], 5, by decide +kernel, by decide +kernel, by decide +kernel, by decide +kernel,
    by decide +kernel, by decide +kernel, ⟨_, rfl, by decide +kernel⟩⟩,
    ⟨st .run [(Od.cal_state, 5, 2), (Od.cal_spare, 5, 15)], 5, [⟨625000000, -625000000, 0, true⟩, ⟨312500000, -312500000, 0, true⟩], 512,
    by decide +kernel, by decide +kernel, by decide +kernel, by decide +kernel, ⟨_, rfl, by decide +kernel⟩⟩,
    ⟨{ st .run [(Od.cal_state, 5, 2), (Od.cal_spare, 5, 15)] with turn := { banks := [(5, { second := true })] } }, 5, 1, [⟨625000000, -625000000, 0,
    true⟩, ⟨312500000, -312500000, 0, true⟩], 513, by decide +kernel, by decide +kernel, by decide +kernel, by decide +kernel, by decide +kernel,
    by decide +kernel, ⟨_, rfl, by decide +kernel⟩⟩,
    ⟨{ st .run [(Od.cal_state, 3, 3), (Od.cal_spare, 3, 8), (Od.cal_run, 3, 1)] with turn := { banks := [(3, { repeats := 3 })] } }, 3, 0,
    by decide +kernel, by decide +kernel, by decide +kernel, by decide +kernel, by decide +kernel, by decide +kernel, by decide +kernel,
    by decide +kernel, by decide +kernel, by decide +kernel, ⟨_, rfl, by decide +kernel⟩⟩,
    ⟨st .run [(Od.cal_state, 3, 3), (Od.cal_spare, 3, 8), (Od.cal_agree, 3, 100)], 3, 0xC2C80000, by decide +kernel, by decide +kernel,
    by decide +kernel, by decide +kernel, by decide +kernel, by decide +kernel, ⟨_, rfl, by decide +kernel⟩⟩,
    ⟨{ st .run [(Od.cal_state, 3, 3)] with turn := { banks := [(3, { repeatDue := true })] } }, 3, by decide +kernel, by decide +kernel,
    by decide +kernel, ⟨_, rfl, by decide +kernel⟩⟩,
    ⟨st .run [(Od.cal_state, 5, 4), (Od.cal_spare, 5, 15), (Od.cal_next, 5, 14)], 5, 77, .crossing 5, by decide +kernel, by decide +kernel,
    by decide +kernel, by decide +kernel, ⟨_, rfl, by decide +kernel⟩⟩,
    ⟨st .run [(Od.cal_state, 3, 5), (Od.cal_spare, 3, 8), (Od.cal_next, 3, 7)], 3, by decide +kernel, by decide +kernel, by decide +kernel,
    by decide +kernel, by decide +kernel, by decide +kernel, by decide +kernel, ⟨_, rfl, by decide +kernel⟩⟩,
    ⟨{ st .run [(Od.cal_state, 5, 6), (Od.cal_spare, 5, 7), (Od.cal_run, 5, 1)] with turn := { banks := [(5, { released := 7 })] } }, 5, [⟨625000000,
    -625000000, 0, true⟩, ⟨312500000, -312500000, 0, true⟩], 0, by decide +kernel, by decide +kernel, by decide +kernel, by decide +kernel,
    by decide +kernel, by decide +kernel, by decide +kernel, by decide +kernel, by decide +kernel, ⟨_, rfl, by decide +kernel⟩⟩,
    ⟨st .run [(Od.cal_state, 5, 1), (Od.cal_spare, 5, 15)], 5, 14, 20, 9, by decide +kernel, by decide +kernel, by decide +kernel, by decide +kernel,
    by decide +kernel, by decide +kernel, by decide +kernel, ⟨_, rfl, by decide +kernel⟩⟩,
    ⟨st .run [(Od.cal_state, 5, 7), (Od.cal_spare, 5, 255)], 5, 14, 20, 9, by decide +kernel, by decide +kernel, by decide +kernel, by decide +kernel,
    by decide +kernel, ⟨_, rfl, by decide +kernel⟩⟩⟩

theorem witness_EnergyIsAccumulated :
    (∃ (s : State) (x : Crossing) (d : LineCycle), running s = true ∧ d.circuit < circuitCount s ∧ refPhase s d.circuit = some x.phase ∧ isCrossing x
    = true ∧ cycleOf s d.circuit = none ∧ ∃ t, exec (.lineCycleEnd ⟨x, d⟩) s = .next t ∧ t.od = s.od ∧ cycleOf t d.circuit = some ⟨x.phase, crossingAt
    x⟩) ∧
    (∃ (s : State) (x : Crossing) (d : LineCycle) (r : CycleRef), running s = true ∧ d.circuit < circuitCount s ∧ refPhase s d.circuit = some x.phase
    ∧ isCrossing x = true ∧ cycleOf s d.circuit = some r ∧ r.start < crossingAt x ∧ (cycleResults s d (samplesFrom r.start) (samplesFrom (crossingAt
    x) - samplesFrom r.start)).any (·.2) = false) ∧
    (∃ (s : State) (x : Crossing) (d : LineCycle) (r : CycleRef) (rs : List (PhaseResult × Bool)) (n : Nat), running s = true ∧ d.circuit <
    circuitCount s ∧ refPhase s d.circuit = some x.phase ∧ isCrossing x = true ∧ cycleOf s d.circuit = some r ∧ r.start < crossingAt x ∧ (nrgCfg s
    d.circuit).enable = true ∧ (nrgCfg s d.circuit).sums = [] ∧ rs = cycleResults s d (samplesFrom r.start) (samplesFrom (crossingAt x) - samplesFrom
    r.start) ∧ rs.any (·.2) = true ∧ n = (if 0 ≤ (netOf (·.ep) rs).num then 0 else 1)) ∧
    (∃ (s : State) (d : LineCycle) (r : CycleRef), running s = true ∧ d.circuit < circuitCount s ∧ refPhase s d.circuit = none ∧ cycleOf s d.circuit =
    some r) ∧
    (∃ (s : State) (v : Nat), running s = true ∧ v < s.perVariant 6 3 ∧ s.rd Od.nrg_vloss v = 0 ∧ ∃ t, exec (.voltageLoss v) s = .next t ∧ t.rd
    Od.nrg_vloss v = 1) ∧
    (∃ (s : State) (at_ : Nat), powered s = true ∧ at_ % (s.rd Od.nrg_int_period * 1000000000) = 0 ∧ at_ < 2 ^ 64 ∧ ∃ t, exec (.intervalBoundary at_)
    s = .next t ∧ t.rd Od.nrg_int_end = at_ ∧ ∀ e < 72, s.rd Od.nrg_acc e ≠ 0 → t.rd Od.nrg_int_last e = (s.rd Od.nrg_acc e + 2 ^ 64 - tabGet 0 e
    s.mer.nrgBase) % 2 ^ 64 ∧ tabGet 0 e t.mer.nrgBase = s.rd Od.nrg_acc e) ∧
    (∃ (s : State) (o : Nat), running s = true ∧ o < s.perVariant 8 4 ∧ s.rd Od.nrg_pulse_backlog o ≠ 0 ∧ s.nrg.closed.contains o = false ∧ ∃ t, exec
    (.pulseStart o) s = .next t ∧ t.od = s.od ∧ t.nrg.closed = o :: s.nrg.closed) ∧
    (∃ (s : State) (o : Nat), s.nrg.closed.contains o = true ∧ s.rd Od.nrg_pulse_backlog o < 2 ^ 32 ∧ ∃ t, exec (.pulseEnd o) s = .next t ∧ t.rd
    Od.nrg_pulse_count o = (s.rd Od.nrg_pulse_count o + 1) % 2 ^ 64 ∧ t.rd Od.nrg_pulse_backlog o = s.rd Od.nrg_pulse_backlog o - 1 ∧
    t.nrg.closed.contains o = false) ∧
    (∃ (s : State) (first : Nat), running s = true ∧ s.rd Od.nrg_cap_state = 1 ∧ s.nrg.capFrom ≤ first ∧ ∃ t, exec (.captureStart first) s = .next t ∧
    t.rd Od.nrg_cap_state = 2 ∧ t.nrg.cap = some ⟨s.nrg.capCircuit, s.rd Od.nrg_cap_cycles, s.nrg.capFrom, s.now, []⟩) ∧
    (∃ (s : State) (c : Nat) (a : Nat) (n : Nat) (rs : List PhaseResult) (y : Capture), s.nrg.cap = some y ∧ s.rd Od.nrg_cap_state = 2 ∧ y.circuit = c
    ∧ y.first ≤ a ∧ y.left = 1 ∧ bspUp s = true ∧ (captureTake s c a n rs).nrg.cap = none ∧ (captureTake s c a n rs).rd Od.nrg_cap_transfer =
    s.nextXfer % 65536) ∧
    (∃ (s : State) (failed : Bool), s.rd Od.nrg_cap_state = 2 ∧ s.nrg.cap = none ∧ ∃ t, exec (.captureComplete failed) s = .next t ∧ t.rd
    Od.nrg_cap_state = (if failed then 3 else 0)) :=
  ⟨⟨st .run [(Od.nrg_vloss, 3, 1)], ⟨1, 0xBF800000, 0xBF000000, 0x3F000000, 36⟩, ⟨7, []⟩, by decide +kernel, by decide +kernel, by decide +kernel,
    by decide +kernel, by decide +kernel, ⟨_, rfl, rfl, by decide +kernel⟩⟩,
    ⟨{ st .run [(Od.nrg_acc, 42, 5)] with nrg := { cfg := [(7, plainCfg)], ref := [(7, ⟨1, 98304⟩)] } }, ⟨0, 0xBF800000, 0xBF000000, 0x3F000000, 36⟩,
    idleCycle, ⟨1, 98304⟩, by decide +kernel, by decide +kernel, by decide +kernel, by decide +kernel, by decide +kernel, by decide +kernel,
    by decide +kernel⟩,
    ⟨{ st .run [(Od.nrg_acc, 43, 2 ^ 64 - 1)] with nrg := { cfg := [(7, plainCfg)], ref := [(7, ⟨0, 98304⟩)] }, mer := { nrgFrac := [(43, 2 ^ 32 - 1)] } },
    ⟨0, 0xBF800000, 0xBF000000, 0x3F000000, 36⟩, loadedCycle, ⟨0, 98304⟩, _, 1, by decide +kernel, by decide +kernel, by decide +kernel,
    by decide +kernel, by decide +kernel, by decide +kernel, by decide +kernel, by decide +kernel, rfl, by decide +kernel, by decide +kernel⟩,
    ⟨{ st .run [(Od.nrg_vloss, 3, 1), (Od.nrg_vloss, 4, 1), (Od.nrg_vloss, 5, 1)] with nrg := { ref := [(7, ⟨2, 98304⟩)] } }, ⟨7, []⟩, ⟨2, 98304⟩,
    by decide +kernel, by decide +kernel, by decide +kernel, by decide +kernel⟩,
    ⟨st .run [], 5, by decide +kernel, by decide +kernel, by decide +kernel, ⟨_, rfl, by decide +kernel⟩⟩,
    ⟨{ st .run [(Od.nrg_acc, 71, 3)] with mer := { nrgBase := [(71, 5)] } }, 1800000000000, by decide +kernel, by decide +kernel, by decide +kernel,
    ⟨_, rfl, by decide +kernel⟩⟩,
    ⟨st .run [(Od.nrg_pulse_backlog, 7, 1)], 7, by decide +kernel, by decide +kernel, by decide +kernel, by decide +kernel, ⟨_, rfl,
    by decide +kernel⟩⟩,
    ⟨{ st .run [(Od.nrg_pulse_backlog, 7, 1), (Od.nrg_pulse_count, 7, 2 ^ 64 - 1)] with nrg := { closed := [7] } }, 7, by decide +kernel,
    by decide +kernel, ⟨_, rfl, by decide +kernel⟩⟩,
    ⟨{ st .run [(Od.nrg_cap_state, 0, 1)] with nrg := { capCircuit := 7, capFrom := 36 } }, 36, by decide +kernel, by decide +kernel,
    by decide +kernel, ⟨_, rfl, by decide +kernel⟩⟩,
    ⟨{ st .run [(Od.nrg_cap_state, 0, 2), (Od.lbs_bsp_state, 0, 2)] with nextXfer := 65536, nrg := { cap := some ⟨7, 1, 36, 5, [1, 2, 3, 4, 5, 6]⟩ } },
    7, 36, 0, [], ⟨7, 1, 36, 5, [1, 2, 3, 4, 5, 6]⟩, by decide +kernel, by decide +kernel, by decide +kernel, by decide +kernel, by decide +kernel,
    by decide +kernel, by decide +kernel⟩,
    ⟨st .run [(Od.nrg_cap_state, 0, 2)], true, by decide +kernel, by decide +kernel, ⟨_, rfl, by decide +kernel⟩⟩⟩

theorem witness_LoopsDeliverTheirOutputs :
    (∃ (s : State) (k : Nat), running s = true ∧ entryOff s = false ∧ s.mode ≠ .safeHold ∧ k < loopCount s ∧ sampleDue s k = true ∧ s.rd
    Od.ctl_instance ≠ 4 ∧ s.rd Od.ctl_mode k = 0 ∧ s.rd Od.ctl_safe_out k < 2 ^ 32 ∧ ∃ t, exec (.loopSample k false) s = .next t ∧ t.rd Od.ctl_out k =
    s.rd Od.ctl_safe_out k) ∧
    (∃ (s : State) (k : Nat) (pv : Frac), running s = true ∧ entryOff s = false ∧ s.mode ≠ .safeHold ∧ k < loopCount s ∧ sampleDue s k = true ∧ s.rd
    Od.ctl_instance ≠ 4 ∧ s.rd Od.ctl_mode k = 1 ∧ loopPv readElem s (s.rd Od.ctl_pv_src k) = some pv ∧ ∃ t, exec (.loopSample k false) s = .next t ∧
    t.rd Od.ctl_pv k = qf32 pv % 2 ^ 32 ∧ t.rdBit Od.ctl_status 7 k = false ∧ t.rd Od.ctl_out k = qf32 (Frac.clamp (s.rdQ Od.ctl_out_min k) (s.rdQ
    Od.ctl_out_max k) (s.rdQ Od.ctl_man_out k)) % 2 ^ 32) ∧
    (∃ (s : State) (k : Nat) (pv : Frac) (err : Frac), running s = true ∧ entryOff s = false ∧ s.mode ≠ .safeHold ∧ s.mode ≠ .commission ∧ k <
    loopCount s ∧ sampleDue s k = true ∧ s.rd Od.ctl_instance ≠ 4 ∧ s.rd Od.ctl_mode k = 2 ∧ loopPv readElem s (s.rd Od.ctl_pv_src k) = some pv ∧
    s.rdBit Od.ctl_status 7 k = false ∧ s.rd Od.ctl_sections k = 0 ∧ repsOf s k = [] ∧ (slotOf s k).transfer = false ∧ (s.rdQ Od.ctl_ramp_rate k).num
    = 0 ∧ s.rd Od.ctl_dir k = 0 ∧ err = (((s.rdQ Od.ctl_sp k).sub pv).mul (Frac.ofInt 1)).div (s.rdQ Od.ctl_pv_span k) ∧ ∃ t, exec (.loopSample k
    false) s = .next t ∧ t.rd Od.ctl_out k = qf32 (outConv s k (accOut (accProd (s.rdInt Od.ctl_gain k) (sigClamp (roundAway (err.num * 2 ^ 40)
    err.den)).1)).1).y % 2 ^ 32) ∧
    (∃ (s : State) (k : Nat), running s = true ∧ entryOff s = false ∧ s.mode ≠ .safeHold ∧ s.mode ≠ .commission ∧ k < loopCount s ∧ sampleDue s k =
    true ∧ s.rd Od.ctl_instance ≠ 4 ∧ s.rd Od.ctl_mode k = 2 ∧ loopPv readElem s (s.rd Od.ctl_pv_src k) = none ∧ s.rd Od.ctl_fault_act k = 1 ∧ s.rd
    Od.ctl_safe_out k < 2 ^ 32 ∧ ∃ t, exec (.loopSample k false) s = .next t ∧ t.rdBit Od.ctl_status 7 k = true ∧ t.rd Od.ctl_out k = s.rd
    Od.ctl_safe_out k) ∧
    (∃ (s : State) (k : Nat), running s = true ∧ entryOff s = false ∧ s.mode ≠ .safeHold ∧ k < loopCount s ∧ sampleDue s k = true ∧ s.rd
    Od.ctl_instance = 0 ∧ s.rd Od.ctl_mismatches + 1 < 2 ^ 32 ∧ ∃ t, exec (.loopSample k true) s = .next t ∧ t.rd Od.ctl_out k = s.rd Od.ctl_out k ∧
    t.rd Od.ctl_mismatches = s.rd Od.ctl_mismatches + 1 ∧ t.ctl.checking = true) ∧
    (∃ (s : State), s.ctl.checking = true ∧ s.rd Od.ctl_instance = 0 ∧ s.rd Od.ctl_transients + 1 < 2 ^ 32 ∧ ∃ t, exec (.selfCheckDone true true true)
    s = .next t ∧ t.rd Od.ctl_transients = s.rd Od.ctl_transients + 1 ∧ t.ctl.checking = false) ∧
    (∃ (s : State) (agree : Bool), s.ctl.checking = true ∧ s.rd Od.ctl_instance = 0 ∧ s.rdBit Od.sys_health 8 = false ∧ ∃ t, exec (.selfCheckDone true
    false agree) s = .next t ∧ t.rd Od.ctl_instance = 1 ∧ t.rdBit Od.sys_health 9 = true) ∧
    (∃ (s : State), s.rd Od.ctl_instance = 3 ∧ s.rdBit Od.sys_health 8 = false ∧ s.rdBit Od.sys_health 9 = false ∧ exec .engineResyncComplete s =
    .next (s.wr Od.ctl_instance 0)) :=
  ⟨⟨st .run [(Od.ctl_period, 1023, 1), (Od.ctl_mode, 1023, 0), (Od.ctl_safe_out, 1023, 0x41200000)], 1023, by decide +kernel, by decide +kernel,
    by decide +kernel, by decide +kernel, by decide +kernel, by decide +kernel, by decide +kernel, by decide +kernel, ⟨_, rfl, by decide +kernel⟩⟩,
    ⟨st .run [(Od.ctl_period, 1023, 1), (Od.ctl_mode, 1023, 1), (Od.ctl_man_out, 1023, 0x43480000), (Od.ctl_pv_src, 1023, Od.ana_term_v * 65536 + 31),
    (Od.ana_term_v, 31, 0x40A00000)], 1023, f32q 0x40A00000, by decide +kernel, by decide +kernel, by decide +kernel, by decide +kernel,
    by decide +kernel, by decide +kernel, by decide +kernel, by decide +kernel, ⟨_, rfl, by decide +kernel⟩⟩,
    ⟨st .run [(Od.ctl_period, 1023, 1), (Od.ctl_mode, 1023, 2), (Od.ctl_sp, 1023, 0x42480000), (Od.ctl_gain, 1023, 0x1000000), (Od.ctl_pv_src, 1023,
    Od.ana_term_v * 65536 + 31), (Od.ana_term_v, 31, 0x40A00000)], 1023, f32q 0x40A00000, (((f32q 0x42480000).sub (f32q 0x40A00000)).mul (Frac.ofInt
    1)).div (f32q 0x42C80000), by decide +kernel, by decide +kernel, by decide +kernel, by decide +kernel, by decide +kernel, by decide +kernel,
    by decide +kernel, by decide +kernel, by decide +kernel, by decide +kernel, by decide +kernel, by decide +kernel, by decide +kernel,
    by decide +kernel, by decide +kernel, by decide +kernel, ⟨_, rfl, by decide +kernel⟩⟩,
    ⟨st .run [(Od.ctl_period, 1023, 1), (Od.ctl_mode, 1023, 2), (Od.ctl_fault_act, 1023, 1), (Od.ctl_safe_out, 1023, 0x41200000), (Od.ctl_pv_src,
    1023, Od.ana_meas * 65536 + 31)], 1023, by decide +kernel, by decide +kernel, by decide +kernel, by decide +kernel, by decide +kernel,
    by decide +kernel, by decide +kernel, by decide +kernel, by decide +kernel, by decide +kernel, by decide +kernel, ⟨_, rfl, by decide +kernel⟩⟩,
    ⟨st .run [(Od.ctl_period, 1023, 1), (Od.ctl_mode, 1023, 1), (Od.ctl_out, 1023, 0x41200000), (Od.ctl_man_out, 1023, 0x43480000), (Od.ctl_pv_src,
    1023, Od.ana_term_v * 65536 + 31), (Od.ana_term_v, 31, 0x40A00000)], 1023, by decide +kernel, by decide +kernel, by decide +kernel,
    by decide +kernel, by decide +kernel, by decide +kernel, by decide +kernel, ⟨_, rfl, by decide +kernel⟩⟩,
    ⟨{ st .run [] with ctl := { checking := true } }, by decide +kernel, by decide +kernel, by decide +kernel, ⟨_, rfl, by decide +kernel⟩⟩,
    ⟨{ st .run [] with ctl := { checking := true } }, false, by decide +kernel, by decide +kernel, by decide +kernel, ⟨_, rfl, by decide +kernel⟩⟩,
    ⟨st .run [(Od.ctl_instance, 0, 3)], by decide +kernel, by decide +kernel, by decide +kernel, congrArg Host.Outcome.next (by decide +kernel)⟩⟩

theorem witness_MotionFollowsItsPlan :
    (∃ (s : State) (c : Nat) (d : Nat) (j : Nat) (r : List (Nat × Nat)), running s = true ∧ entryOff s = false ∧ liveChans s = [c] ∧ (chanOf s c).plan
    = (d, j) :: r ∧ (q64 d).le ⟨1, 32000⟩ = false ∧ (chanOf s c).phase = 0 ∧ (chanOf s c).replan = false ∧ (chanOf s c).relim = false ∧ (chanOf s
    c).shift = 0 ∧ ∃ t, exec (.motionTick [] none) s = .next t ∧ (chanOf t c).x = word64 (segAt (kinOf (chanOf s c)) (q64 j) ⟨1, 32000⟩).x ∧ (chanOf t
    c).v = word64 (segAt (kinOf (chanOf s c)) (q64 j) ⟨1, 32000⟩).v ∧ (chanOf t c).a = word64 (segAt (kinOf (chanOf s c)) (q64 j) ⟨1, 32000⟩).a ∧
    (chanOf t c).plan = (word64 (r64 ((q64 d).sub ⟨1, 32000⟩)), j) :: r) ∧
    (∃ (s : State) (c : Nat) (d : Nat) (j : Nat) (g : Int), running s = true ∧ entryOff s = false ∧ liveChans s = [c] ∧ (chanOf s c).plan = [(d, j)] ∧
    (q64 d).le ⟨1, 32000⟩ = true ∧ (chanOf s c).phase = 0 ∧ (chanOf s c).replan = false ∧ (chanOf s c).relim = false ∧ (chanOf s c).shift = 0 ∧
    (chanOf s c).goal = some g ∧ ∃ t, exec (.motionTick [] none) s = .next t ∧ (chanOf t c).x = word64 (nq g) ∧ (chanOf t c).plan = []) ∧
    (∃ (s : State) (agree : Bool), running s = true ∧ entryOff s = false ∧ s.rdBit Od.sys_health 11 = false ∧ s.mot.resync = false ∧ ∃ t, exec
    (.motionTick [] (some ⟨true, false, agree⟩)) s = .next t ∧ t.rdBit Od.sys_health 11 = true) ∧
    (∃ (s : State) (c : Nat) (gapNs : Nat), running s = true ∧ entryOff s = false ∧ c < motCount s ∧ carUse s c = false ∧ (chanOf s c).sent < cmdCount
    (chanOf s c) ∧ (chanOf s c).lastUp = true ∧ s.rd Od.mot_late_steps c + 1 < 2 ^ 32 ∧ ∃ t, exec (.stepPulse c gapNs) s = .next t ∧ t.out = .step c
    true :: s.out ∧ (chanOf t c).sent = (chanOf s c).sent + 1 ∧ t.rd Od.mot_late_steps c = s.rd Od.mot_late_steps c + (if gapNs < 2 * s.rd
    Od.mot_step_width c then 1 else 0)) ∧
    (∃ (s : State) (c : Nat), running s = true ∧ c < motCount s ∧ useOf s c ≠ 0 ∧ (chanOf s c).plan = [] ∧ (chanOf s c).phase = 0 ∧ s.rd
    Od.mot_idle_red c ≠ 0 ∧ ∃ t, exec (.idleCurrentReduce c) s = .next t ∧ motBit t c motCURRED = true) ∧
    (∃ (s : State) (c : Nat), running s = true ∧ s.mode ≠ .safeHold ∧ (chanOf s c).phase = 2 ∧ ∃ t, exec (.referenceSettled c) s = .next t ∧ (chanOf t
    c).phase = 3 ∧ motBit t c motCURRED = true) ∧
    (∃ (s : State) (c : Nat), (chanOf s c).phase = 4 ∧ (chanOf s c).plan = [] ∧ ∃ t, exec (.referenceBackoffDone c) s = .next t ∧ (chanOf t c).phase =
    0 ∧ motBit t c motREFERENCED = true ∧ t.rd Od.mot_ref_result c = 1 ∧ t.rd Od.mot_state c = 1) ∧
    (∃ (s : State) (k : Nat) (input : Nat) (level : Bool) (count : Int) (time : Nat), powered s = true ∧ s.variant = .x ∧ k < 2 ∧ input < 3 ∧ time < 2
    ^ 64 ∧ s.rd Od.mot_latch_seq (k * 3 + input) + 1 < 2 ^ 32 ∧ ∃ t, exec (.switchEdgeLatch k input level count time) s = .next t ∧ t.rd
    Od.mot_latch_count (k * 3 + input) = ofInt 64 count ∧ t.rd Od.mot_latch_time (k * 3 + input) = time ∧ t.rd Od.mot_latch_level (k * 3 + input) =
    b2n level ∧ t.rd Od.mot_latch_seq (k * 3 + input) = s.rd Od.mot_latch_seq (k * 3 + input) + 1 ∧ (carUse s (14 + k) = true → (chanOf s (14 +
    k)).phase = 5 → s.rd Od.mot_ref_edge k = input + (if level then 0 else 4) → motBit t (14 + k) motREFERENCED = true ∧ t.rd Od.mot_ref_result (14 +
    k) = 1 ∧ encPos t (14 + k) = toInt 64 (s.rd Od.mot_latch_pos k) + (toInt 64 (s.rd Od.mot_enc_count k) - count))) ∧
    (∃ (s : State) (k : Nat), powered s = true ∧ s.variant = .x ∧ k < 2 ∧ s.rd Od.mot_enc_err k + 1 < 2 ^ 32 ∧ ∃ t, exec (.encoderIllegalTransition k)
    s = .next t ∧ t.rd Od.mot_enc_err k = s.rd Od.mot_enc_err k + 1) ∧
    (∃ (s : State) (k : Nat) (up : Bool), powered s = true ∧ s.variant = .x ∧ k < 2 ∧ ∃ t, exec (.encoderEdgeCount k up) s = .next t ∧ t.rd
    Od.mot_enc_count k = ofInt 64 (toInt 64 (s.rd Od.mot_enc_count k) + (if up then 1 else -1))) :=
  ⟨⟨{ st .run [(Od.mot_use, 13, 1)] with mot := { chans := [(13, { plan := [(0x3FF0000000000000, 0x4024000000000000)] })] } }, 13,
    0x3FF0000000000000, 0x4024000000000000, [], by decide +kernel, by decide +kernel, by decide +kernel, by decide +kernel, by decide +kernel,
    by decide +kernel, by decide +kernel, by decide +kernel, by decide +kernel, ⟨_, rfl, by decide +kernel⟩⟩,
    ⟨{ st .run [(Od.mot_use, 13, 1)] with mot := { chans := [(13, { x := 0x3FF0000000000000, v := 0x3FF0000000000000, plan := [(0x3EF0000000000000, 0)], goal := some 2 })] } },
    13, 0x3EF0000000000000, 0, 2, by decide +kernel, by decide +kernel, by decide +kernel, by decide +kernel, by decide +kernel, by decide +kernel,
    by decide +kernel, by decide +kernel, by decide +kernel, by decide +kernel, ⟨_, rfl, by decide +kernel⟩⟩,
    ⟨st .run [], true, by decide +kernel, by decide +kernel, by decide +kernel, by decide +kernel, ⟨_, rfl, by decide +kernel⟩⟩,
    ⟨{ st .run [(Od.mot_use, 13, 1), (Od.mot_step_width, 13, 1000)] with mot := { chans := [(13, { x := 0x4000000000000000 })] } }, 13, 1999,
    by decide +kernel, by decide +kernel, by decide +kernel, by decide +kernel, by decide +kernel, by decide +kernel, by decide +kernel, ⟨_, rfl,
    by decide +kernel⟩⟩,
    ⟨st .run [(Od.mot_use, 15, 1), (Od.mot_idle_red, 15, 50)], 15, by decide +kernel, by decide +kernel, by decide +kernel, by decide +kernel,
    by decide +kernel, by decide +kernel, ⟨_, rfl, by decide +kernel⟩⟩,
    ⟨{ st .run [(Od.mot_use, 13, 2)] with mot := { chans := [(13, { phase := 2 })] } }, 13, by decide +kernel, by decide +kernel, by decide +kernel,
    ⟨_, rfl, by decide +kernel⟩⟩,
    ⟨{ st .run [(Od.mot_use, 13, 2)] with mot := { chans := [(13, { phase := 4 })] } }, 13, by decide +kernel, by decide +kernel, ⟨_, rfl,
    by decide +kernel⟩⟩,
    ⟨{ st .run [(Od.mot_use, 15, 9), (Od.mot_ref_edge, 1, 6), (Od.mot_enc_count, 1, 70), (Od.mot_latch_pos, 1, 5000)] with mot := { chans := [(15, { phase := 5 })] } },
    1, 2, false, 60, 123456, by decide +kernel, by decide +kernel, by decide +kernel, by decide +kernel, by decide +kernel, by decide +kernel, ⟨_,
    rfl, by decide +kernel⟩⟩,
    ⟨st .run [], 1, by decide +kernel, by decide +kernel, by decide +kernel, by decide +kernel, ⟨_, rfl, by decide +kernel⟩⟩,
    ⟨st .run [], 1, false, by decide +kernel, by decide +kernel, by decide +kernel, ⟨_, rfl, by decide +kernel⟩⟩⟩

theorem witness_LiftRuns :
    (∃ (s : State) (k : Nat), running s = true ∧ s.variant = .x ∧ k < 2 ∧ carWired s k = true ∧ s.lft.calls = [] ∧ s.mer.recs = [] ∧ ∃ t, exec
    .liftCycle s = .next t ∧ (t.out.filter (toDrive k)).length = (s.out.filter (toDrive k)).length + (if s.rd Od.lft_drive_mac k = 0 then 0 else 1)) ∧
    (∃ (s : State) (k : Nat), running s = true ∧ s.variant = .x ∧ k < 2 ∧ carWired s k = false ∧ s.lft.calls = [] ∧ s.mer.recs = [] ∧ ∃ t, exec
    .liftCycle s = .next t ∧ t.rd Od.lft_state k = 0) ∧
    (∃ (s : State) (k : Nat) (bytes : List Nat), running s = true ∧ k < 2 ∧ carWired s k = true ∧ s.rd Od.lft_drive_mac k ≠ 0 ∧ bytes.getD 0 0 = 1 ∧
    bytes.getD 1 0 = 2 ∧ 16 ≤ bytes.length ∧ ∃ t, exec (.driveStatusFrameRx k (s.rd Od.lft_drive_mac k) bytes) s = .next t ∧ (liftCar t k).drive =
    ofBytes (slice bytes 8 2) ∧ (liftCar t k).missed = 0 ∧ t.rd Od.lft_drive_fault k = ofBytes (slice bytes 10 2)) ∧
    (∃ (s : State) (k : Nat), running s = true ∧ k < 2 ∧ carWired s k = true ∧ (liftCar s k).lost = false ∧ 3 ≤ (liftCar s k).missed ∧ s.rd
    Od.lft_sref_enable k = 0 ∧ carMoving s k = true ∧ s.rd Od.lft_link_lost k + 1 < 2 ^ 32 ∧ s.rd Od.lft_state k ≠ 0 ∧ (liftCar s k).due = [] ∧ ∃ t,
    exec (.driveLinkLost k) s = .next t ∧ t.rd Od.lft_state k = s.rd Od.lft_state k ∧ t.rd Od.lft_fault k = 1 ∧ t.rd Od.lft_link_lost k = s.rd
    Od.lft_link_lost k + 1 ∧ (liftCar t k).brakeReq = false ∧ (dueStep t k).rd Od.lft_state k = 9) ∧
    (∃ (s : State) (k : Nat), running s = true ∧ k < 2 ∧ carWired s k = true ∧ (liftCar s k).lost = true ∧ (liftCar s k).missed < 3 ∧ ∃ t, exec
    (.driveLinkRestored k) s = .next t ∧ (liftCar t k).lost = false ∧ t.rdBit Od.lft_status 7 k = true ∧ t.rdBit Od.lft_status 8 k = false) ∧
    (∃ (s : State) (k : Nat), running s = true ∧ k < 2 ∧ runAt s k 1 = true ∧ (liftCar s k).drive.testBit 1 = false ∧ s.rd Od.lft_state k ≠ 0 ∧
    (liftCar s k).due = [] ∧ ∃ t, exec (.magnetiseTimeout k) s = .next t ∧ t.rd Od.lft_fault k = 4 ∧ t.rd Od.lft_state k = s.rd Od.lft_state k ∧
    (dueStep t k).rd Od.lft_state k = 10 ∧ (liftCar (dueStep t k) k).run = none) ∧
    (∃ (s : State) (k : Nat), running s = true ∧ k < 2 ∧ runAt s k 2 = true ∧ brakeOpen s k = false ∧ s.rd Od.lft_state k ≠ 0 ∧ (liftCar s k).due = []
    ∧ ∃ t, exec (.brakeOpenTimeout k) s = .next t ∧ t.rd Od.lft_fault k = 5 ∧ t.rd Od.lft_state k = s.rd Od.lft_state k ∧ (dueStep t k).rd
    Od.lft_state k = 10 ∧ (liftCar (dueStep t k) k).run = none) ∧
    (∃ (s : State) (k : Nat), running s = true ∧ k < 2 ∧ runAt s k 3 = true ∧ s.rd Od.lft_state k ≠ 9 ∧ s.rd Od.lft_state k ≠ 0 ∧ (liftCar s k).due =
    [] ∧ (s.rdQ Od.lft_follow_max k).lt (mmOf s k (motPos s (14 + k) - cmdCount (chanOf s (14 + k)))).abs = true ∧ ∃ t, exec (.followingError k) s =
    .next t ∧ t.rd Od.lft_fault k = 2 ∧ t.rd Od.lft_state k = s.rd Od.lft_state k ∧ (dueStep t k).rd Od.lft_state k = 9) ∧
    (∃ (s : State) (k : Nat) (r : LiftRun), running s = true ∧ k < 2 ∧ (liftCar s k).run = some r ∧ r.step = 4 ∧ ∃ t, exec (.brakeReleaseDelay k) s =
    .next t ∧ (liftCar t k).brakeReq = false ∧ (liftCar t k).run = some { r with step := 5 }) ∧
    (∃ (s : State) (k : Nat) (n : Nat), running s = true ∧ k < 2 ∧ (liftCar s k).learnDone = true ∧ (liftCar s k).edges ≠ [] ∧ n = (learnedVanes
    (liftCar s k).edges none).length ∧ ∃ t, exec (.learnRunEnd k) s = .next t ∧ t.rd Od.lft_learn_result k = (if n = s.rd Od.lft_landings k then 1
    else if n < s.rd Od.lft_landings k then 2 else 3)) ∧
    (∃ (s : State) (k : Nat) (l : Nat), running s = true ∧ s.mode ≠ .safeHold ∧ k < 2 ∧ inService s k = true ∧ s.rd Od.lft_state k = 3 ∧ (liftCar s
    k).run = none ∧ refd s k = true ∧ s.rd Od.lft_landing k = l ∧ l < landings s k ∧ (s.rdQ Od.lft_relevel k).lt (mmOf s k (carPos s k - landPos s k
    l)).abs = true ∧ vaneLo s k l ≤ carPos s k ∧ carPos s k ≤ vaneHi s k l ∧ vaneLo s k l ≤ landPos s k l ∧ landPos s k l ≤ vaneHi s k l ∧ mayRun s k
    = true ∧ (liftCar s k).due = [] ∧ ∃ t, exec (.relevelStart k) s = .next t ∧ t.od = s.od ∧ (dueStep t k).rd Od.lft_state k = 8 ∧ (liftCar (dueStep
    t k) k).driveReq = true) :=
  ⟨⟨lift [(Od.lft_drive_mac, 1, 5)] {}, 1, by decide +kernel, by decide +kernel, by decide +kernel, by decide +kernel, by decide +kernel,
    by decide +kernel, ⟨_, rfl, by decide +kernel⟩⟩,
    ⟨st .run [(Od.lft_state, 1, 3)], 1, by decide +kernel, by decide +kernel, by decide +kernel, by decide +kernel, by decide +kernel,
    by decide +kernel, ⟨_, rfl, by decide +kernel⟩⟩,
    ⟨lift [(Od.lft_drive_mac, 1, 0x123456)] {}, 1, [1, 2, 0, 0, 0, 0, 0, 0, 0, 3, 0, 9, 0, 0, 0, 0], by decide +kernel, by decide +kernel,
    by decide +kernel, by decide +kernel, by decide +kernel, by decide +kernel, by decide +kernel, ⟨_, rfl, by decide +kernel⟩⟩,
    ⟨lift [(Od.lft_state, 1, 4), (Od.lft_sref_enable, 1, 0)] { run := some { kind := 0, dest := 2, step := 3 }, brakeReq := true }, 1,
    by decide +kernel, by decide +kernel, by decide +kernel, by decide +kernel, by decide +kernel, by decide +kernel, by decide +kernel,
    by decide +kernel, by decide +kernel, by decide +kernel, ⟨_, rfl, by decide +kernel⟩⟩,
    ⟨lift [(Od.lft_state, 1, 10), (Od.lft_status, 1, 2 ^ 8)] { lost := true, missed := 0 }, 1, by decide +kernel, by decide +kernel,
    by decide +kernel, by decide +kernel, by decide +kernel, ⟨_, rfl, by decide +kernel⟩⟩,
    ⟨lift [(Od.lft_state, 1, 4)] { run := some { kind := 0, dest := 2, step := 1 } }, 1, by decide +kernel, by decide +kernel, by decide +kernel,
    by decide +kernel, by decide +kernel, by decide +kernel, ⟨_, rfl, by decide +kernel⟩⟩,
    ⟨lift [(Od.lft_state, 1, 4)] { run := some { kind := 0, dest := 2, step := 2 } }, 1, by decide +kernel, by decide +kernel, by decide +kernel,
    by decide +kernel, by decide +kernel, by decide +kernel, ⟨_, rfl, by decide +kernel⟩⟩,
    ⟨lift [(Od.lft_state, 1, 4), (Od.lft_cpm, 1, 1000), (Od.mot_enc_count, 1, 500), (Od.lft_follow_max, 1, 0x42C80000)]
    { run := some { kind := 0, dest := 2, step := 3 } }, 1, by decide +kernel, by decide +kernel, by decide +kernel, by decide +kernel,
    by decide +kernel, by decide +kernel, by decide +kernel, ⟨_, rfl, by decide +kernel⟩⟩,
    ⟨lift [(Od.lft_state, 1, 4)] { run := some { kind := 0, dest := 2, step := 4 }, brakeReq := true }, 1, { kind := 0, dest := 2, step := 4 },
    by decide +kernel, by decide +kernel, by decide +kernel, by decide +kernel, ⟨_, rfl, by decide +kernel⟩⟩,
    ⟨lift [(Od.lft_landings, 1, 2)]
    { run := some { kind := 2, dest := 0, step := 3 }, learnDone := true, edges := [(true, 10), (false, 20), (true, 110), (false, 120)] }, 1, 2,
    by decide +kernel, by decide +kernel, by decide +kernel, by decide +kernel, by decide +kernel, ⟨_, rfl, by decide +kernel⟩⟩,
    ⟨{ lift [(Od.lft_landings, 1, 2), (Od.lft_learn_result, 1, 1), (Od.lft_state, 1, 3), (Od.lft_status, 1, 2), (Od.lft_landing, 1, 1), (Od.lft_cpm, 1, 1000), (Od.mot_status, 15, 1), (Od.mot_enc_count, 1, 3030), (Od.lft_relevel, 1, 0x41200000), (Od.lft_land_pos, 129, 3000), (Od.lft_vane_lo, 129, 2900), (Od.lft_vane_hi, 129, 3100)] {} with saf := { cars := [(1, { run := true })] } },
    1, 1, by decide +kernel, by decide +kernel, by decide +kernel, by decide +kernel, by decide +kernel, by decide +kernel, by decide +kernel,
    by decide +kernel, by decide +kernel, by decide +kernel, by decide +kernel, by decide +kernel, by decide +kernel, by decide +kernel,
    by decide +kernel, by decide +kernel, ⟨_, rfl, by decide +kernel⟩⟩⟩

theorem witness_LiftWaits :
    (∃ (s : State) (k : Nat), running s = true ∧ s.mode ≠ .safeHold ∧ k < 2 ∧ inService s k = true ∧ s.rd Od.lft_state k = 3 ∧ s.mode ≠ .commission ∧
    called s k = [] ∧ opOf s k = 0 ∧ s.rd Od.lft_park_landing k ≠ 0xFF ∧ s.rd Od.lft_park_landing k ≠ s.rd Od.lft_landing k ∧ refd s k = true ∧ mayRun
    s k = true ∧ (liftCar s k).due = [] ∧ ∃ t, exec (.parkTimeout k) s = .next t ∧ t.od = s.od ∧ (dueStep t k).rd Od.lft_state k = 5 ∧ (dueStep t
    k).rd Od.lft_dir k = (if carPos s k < landPos s k (s.rd Od.lft_park_landing k) then 1 else 2)) ∧
    (∃ (s : State) (k : Nat) (d : Nat) (c : Nat), running s = true ∧ s.mode ≠ .safeHold ∧ k < 2 ∧ inService s k = true ∧ s.rd Od.lft_state k = 4 ∧
    opOf s k = 0 ∧ carDoors s k = [d] ∧ doorChan s d = some c ∧ doorState s d = 5 ∧ curtainBroken s d = false ∧ (liftCar s k).nudge = false ∧ (doorOf
    s d).needRef = false ∧ ∃ t, exec (.doorDwellExpiry k) s = .next t ∧ doorState t d = 6) ∧
    (∃ (s : State) (k : Nat), running s = true ∧ k < 2 ∧ (liftCar s k).nudgeRun = true ∧ nudgeAllowed s k = true ∧ ∃ t, exec (.nudgeTimeout k) s =
    .next t ∧ (liftCar t k).nudge = true ∧ t.rdBit Od.lft_status 10 k = true) ∧
    (∃ (s : State) (d : Nat) (c : Nat), running s = true ∧ s.mode ≠ .safeHold ∧ d < 4 ∧ doorState s d = 9 ∧ (doorOf s d).held = 4 ∧ doorChan s d =
    some c ∧ ∃ t, exec (.blockedOpeningRetry d) s = .next t ∧ doorState t d = 9 ∧ (doorOf t d).held = 6 ∧ motBit t c motSTALL = false ∧ (doorPermitted
    s (d / 2) = true → lsState s (d / 2) ≠ 8 → opOf s (d / 2) ≠ 2 → opOf s (d / 2) ≠ 4 → doorState (doorStep readElem t (d / 2) d) d = 4)) ∧
    (∃ (s : State) (k : Nat), running s = true ∧ s.variant = .x ∧ k < 2 ∧ s.rd Od.lft_pub_period ≠ 0 ∧ maySend s 0 .traffic = true ∧ ∃ t, exec
    (.liftStatusPublish k) s = .next t ∧ t.out.head? = some (.liftStatus k (statusBytes s k))) :=
  ⟨⟨{ lift [(Od.mot_status, 15, 1), (Od.lft_learn_result, 1, 1), (Od.lft_state, 1, 3), (Od.lft_status, 1, 2), (Od.lft_park_landing, 1, 1), (Od.lft_landing, 1, 0), (Od.lft_land_pos, 129, 3000)] {} with saf := { cars := [(1, { run := true })] } },
    1, by decide +kernel, by decide +kernel, by decide +kernel, by decide +kernel, by decide +kernel, by decide +kernel, by decide +kernel,
    by decide +kernel, by decide +kernel, by decide +kernel, by decide +kernel, by decide +kernel, by decide +kernel, ⟨_, rfl, by decide +kernel⟩⟩,
    ⟨lift [(Od.lft_learn_result, 1, 1), (Od.lft_state, 1, 4), (Od.mot_use, 2, 7), (Od.lft_door_state, 3, 5), (Od.lft_door_lc, 3, 0xFF)] {}, 1, 3, 2,
    by decide +kernel, by decide +kernel, by decide +kernel, by decide +kernel, by decide +kernel, by decide +kernel, by decide +kernel,
    by decide +kernel, by decide +kernel, by decide +kernel, by decide +kernel, by decide +kernel, ⟨_, rfl, by decide +kernel⟩⟩,
    ⟨lift [] { nudgeRun := true }, 1, by decide +kernel, by decide +kernel, by decide +kernel, by decide +kernel, ⟨_, rfl, by decide +kernel⟩⟩,
    ⟨{ lift [(Od.mot_use, 2, 7), (Od.lft_door_state, 3, 9)] {} with lft := { doors := [(3, { held := 4 })] }, saf := { cars := [(1, { door := true })] } },
    3, 2, by decide +kernel, by decide +kernel, by decide +kernel, by decide +kernel, by decide +kernel, by decide +kernel, ⟨_, rfl,
    by decide +kernel⟩⟩,
    ⟨st .run (upBoth ++ [(Od.lft_pub_period, 0, 100)]), 1, by decide +kernel, by decide +kernel, by decide +kernel, by decide +kernel,
    by decide +kernel, ⟨_, rfl, rfl⟩⟩⟩

theorem witness_SafetyIslandCycle :
    (∃ (s : State) (i : IslandIn) (p : Nat), powered s = true ∧ p < safPairs s ∧ ∃ t, exec (.islandCycle i) s = .next t ∧ (pairOf t p).a = (if
    i.a.testBit p = (pairOf s p).a then (pairOf s p).a else if s.rd Od.saf_in_filter p ≤ 250 * (pairOf s p).offA then i.a.testBit p else (pairOf s
    p).a) ∧ (pairOf t p).b = (if i.b.testBit p = (pairOf s p).b then (pairOf s p).b else if s.rd Od.saf_in_filter p ≤ 250 * (pairOf s p).offB then
    i.b.testBit p else (pairOf s p).b)) ∧
    (∃ (s : State) (i : IslandIn) (p : Nat), powered s = true ∧ p < safPairs s ∧ s.rd Od.saf_in_kind p = 1 ∧ ((filtered i s p).a && (filtered i s
    p).b) = false ∧ ∃ t, exec (.islandCycle i) s = .next t ∧ t.rd Od.saf_in_result p = 0) ∧
    (∃ (s : State) (i : IslandIn) (p : Nat), powered s = true ∧ p < safPairs s ∧ s.rd Od.saf_in_kind p = 1 ∧ (filtered i s p).a = true ∧ (filtered i s
    p).b = true ∧ vsafeLow s = false ∧ s.rd Od.saf_in_latch p = 0 ∧ s.rd Od.saf_in_restart p = 0 ∧ ∃ t, exec (.islandCycle i) s = .next t ∧ t.rd
    Od.saf_in_result p = 1) ∧
    (∃ (s : State) (i : IslandIn), powered s = true ∧ (i.coreA && i.coreB && i.clockOk) = false ∧ ∃ t, exec (.islandCycle i) s = .next t ∧ t.rdBit
    Od.saf_trip_cause 0 = true ∧ t.rdBit Od.sys_health 14 = true ∧ (∀ o < safOuts s, (outOf t o).on = false) ∧ (running s = true → t.mode =
    .safeHold)) ∧
    (∃ (s : State) (p : Nat) (b : Bool) (siA : Bool) (siB : Bool), powered s = true ∧ p < safPairs s ∧ s.rd Od.saf_in_tp p = 1 ∧ s.rd Od.saf_in_kind p
    = 1 ∧ pulseFault (pairOf s p) b siA siB = true ∧ vsafeLow s = false ∧ s.rdBit Od.saf_in_status 4 p = false ∧ s.rd Od.saf_in_faults p + 1 < 2 ^ 32
    ∧ ∃ t, exec (.inputTestPulse p b siA siB) s = .next t ∧ t.rd Od.saf_in_latch p = 2 ∧ t.rd Od.saf_in_result p = 0 ∧ t.rd Od.saf_in_faults p = s.rd
    Od.saf_in_faults p + 1 ∧ t.rd Od.saf_latch_gen = (s.rd Od.saf_latch_gen + 1) % 2 ^ 16) ∧
    (∃ (s : State) (o : Nat) (soH : Nat) (soL : Nat), powered s = true ∧ o < safOuts s ∧ vsafeLow s = false ∧ (outOf s o).on = false ∧ soL < 5000 ∧
    s.rd Od.saf_trip_cause = 0 ∧ ∃ t, exec (.outputTestPulse o true soH soL false false) s = .next t ∧ t.od = s.od ∧ (outOf t o).tests = (outOf s
    o).tests - 1) ∧
    (∃ (s : State) (o : Nat) (soH : Nat) (soL : Nat), powered s = true ∧ o < safOuts s ∧ vsafeLow s = false ∧ (outOf s o).on = false ∧ 5000 ≤ soL ∧
    s.rd Od.saf_out_fault o = 0 ∧ ∃ t, exec (.outputTestPulse o true soH soL false false) s = .next t ∧ t.rd Od.saf_out_fault o = 4 ∧ t.rdBit
    Od.saf_trip_cause 1 = true ∧ t.rd Od.saf_out_state o = 2) ∧
    (∃ (s : State) (o : Nat), powered s = true ∧ o < safOuts s ∧ s.rd Od.saf_out_fault o = 0 ∧ ∃ t, exec (.outputOverload o) s = .next t ∧ t.rd
    Od.saf_out_fault o = 5 ∧ t.rd Od.saf_out_state o = 2 ∧ (outOf t o).on = false) :=
  ⟨⟨{ st .run [(Od.saf_in_filter, 15, 500)] with saf := { pairs := [(15, { offA := 2, offB := 1 })] } }, ⟨0x8000, 0x8000, 0, 0, [], true, true,
    true⟩, 15, by decide +kernel, by decide +kernel, ⟨_, rfl, by decide +kernel⟩⟩,
    ⟨st .run [(Od.saf_in_kind, 15, 1), (Od.saf_in_result, 15, 1)], ⟨0x8000, 0, 0, 0, [], true, true, true⟩, 15, by decide +kernel, by decide +kernel,
    by decide +kernel, by decide +kernel, ⟨_, rfl, by decide +kernel⟩⟩,
    ⟨{ st .run [(Od.saf_in_kind, 15, 1), (Od.saf_in_restart, 15, 0)] with saf := { pairs := [(15, { a := true, b := true })] } }, ⟨0x8000, 0x8000, 0,
    0, [], true, true, true⟩, 15, by decide +kernel, by decide +kernel, by decide +kernel, by decide +kernel, by decide +kernel, by decide +kernel,
    by decide +kernel, by decide +kernel, ⟨_, rfl, by decide +kernel⟩⟩,
    ⟨{ st .run [] with saf := { outs := [(7, { on := true })] } }, ⟨0, 0, 0, 0, [], true, false, true⟩, by decide +kernel, by decide +kernel, ⟨_, rfl,
    by decide +kernel⟩⟩,
    ⟨{ st .run [(Od.saf_in_kind, 15, 1), (Od.saf_in_tp, 15, 1), (Od.saf_in_result, 15, 1), (Od.saf_latch_gen, 0, 65535)] with saf := { pairs := [(15, { b := true })] } },
    15, false, false, false, by decide +kernel, by decide +kernel, by decide +kernel, by decide +kernel, by decide +kernel, by decide +kernel,
    by decide +kernel, by decide +kernel, ⟨_, rfl, by decide +kernel⟩⟩,
    ⟨{ st .run [] with saf := { outs := [(7, { tests := 2 })] } }, 7, 24000, 4999, by decide +kernel, by decide +kernel, by decide +kernel,
    by decide +kernel, by decide +kernel, by decide +kernel, ⟨_, rfl, by decide +kernel⟩⟩,
    ⟨st .run [], 7, 0, 5000, by decide +kernel, by decide +kernel, by decide +kernel, by decide +kernel, by decide +kernel, by decide +kernel, ⟨_,
    rfl, by decide +kernel⟩⟩,
    ⟨{ st .run [(Od.saf_out_state, 7, 1)] with saf := { outs := [(7, { on := true })] } }, 7, by decide +kernel, by decide +kernel, by decide +kernel,
    ⟨_, rfl, by decide +kernel⟩⟩⟩

theorem witness_MacaronConnections :
    (∃ (s : State) (c : Nat) (n : Nat), running s = true ∧ c < 32 ∧ macDir s c = 1 ∧ upUsable s 0 = true ∧ (connOf s c).last = some n ∧ n < 2 ^ 32 ∧
    s.rd Od.saf_trip_cause = 0 ∧ ∃ t, exec (.macaronProducerSend c) s = .next t ∧ t.rd Od.saf_mac_seq c = macNext n ∧ t.rd Od.saf_mac_state c = 2 ∧
    t.out.head? = some (.macaron c (s.rd Od.saf_mac_peer c) (macNext n) (macPdu (s.rd Od.saf_mac_id c) (macNext n) (macData s c)))) ∧
    (∃ (s : State) (c : Nat) (lan : Nat) (src : Nat) (bytes : List Nat), running s = true ∧ lan < 2 ∧ upUsable s lan = true ∧ consumerOf s (ofBytes
    (slice bytes 2 2)) = some c ∧ copyValid s c src (copyPdu s c bytes) = false ∧ s.rd Od.saf_trip_cause = 0 ∧ s.rd Od.saf_mac_crc_err c + 1 < 2 ^ 32
    ∧ ∃ t, exec (.macaronCopyRx lan src bytes) s = .next t ∧ t.rd Od.saf_mac_crc_err c = s.rd Od.saf_mac_crc_err c + 1 ∧ t.saf = s.saf) ∧
    (∃ (s : State) (c : Nat) (lan : Nat) (src : Nat) (bytes : List Nat), running s = true ∧ lan < 2 ∧ upUsable s lan = true ∧ consumerOf s (ofBytes
    (slice bytes 2 2)) = some c ∧ copyValid s c src (copyPdu s c bytes) = true ∧ s.rd Od.saf_trip_cause = 0 ∧ (connOf s c).held = [] ∧ (connOf s
    c).last = none ∧ (connOf s c).singles = [] ∧ ∃ t, exec (.macaronCopyRx lan src bytes) s = .next t ∧ t.od = s.od ∧ (connOf t c).held = [(lan,
    ofBytes (slice (copyPdu s c bytes) 4 4), copyPdu s c bytes)]) ∧
    (∃ (s : State) (c : Nat) (lan : Nat) (src : Nat) (bytes : List Nat), running s = true ∧ lan < 2 ∧ upUsable s lan = true ∧ consumerOf s (ofBytes
    (slice bytes 2 2)) = some c ∧ copyValid s c src (copyPdu s c bytes) = true ∧ s.rd Od.saf_trip_cause = 0 ∧ (connOf s c).held = [(1 - lan, ofBytes
    (slice (copyPdu s c bytes) 4 4), copyPdu s c bytes)] ∧ s.rd Od.saf_mac_state c = 2 ∧ s.rd Od.saf_mac_rx c + 1 < 2 ^ 32 ∧ ∃ t, exec (.macaronCopyRx
    lan src bytes) s = .next t ∧ t.rd Od.saf_mac_rx c = s.rd Od.saf_mac_rx c + 1 ∧ t.rd Od.saf_mac_seq c = ofBytes (slice (copyPdu s c bytes) 4 4) ∧
    (connOf t c).applied = pduBits (copyPdu s c bytes) ∧ (connOf t c).held = []) ∧
    (∃ (s : State) (c : Nat) (lan : Nat) (num : Nat) (pdu : List Nat), running s = true ∧ macDir s c = 2 ∧ (connOf s c).held = [(lan, num, pdu)] ∧ lan
    < 2 ∧ s.rd Od.saf_mac_state c = 2 ∧ s.rd Od.saf_mac_missing (c * 2 + (1 - lan)) < 3 ∧ s.rd Od.saf_trip_cause = 0 ∧ s.rd Od.saf_mac_rx c + 1 < 2 ^
    32 ∧ ∃ t, exec (.macaronSkewExpiry c) s = .next t ∧ t.rd Od.saf_mac_rx c = s.rd Od.saf_mac_rx c + 1 ∧ t.rd Od.saf_mac_missing (c * 2 + (1 - lan))
    = s.rd Od.saf_mac_missing (c * 2 + (1 - lan)) + 1 ∧ (connOf t c).applied = pduBits pdu ∧ (connOf t c).held = []) ∧
    (∃ (s : State) (c : Nat), running s = true ∧ c < 32 ∧ macDir s c = 2 ∧ s.rd Od.saf_mac_state c ≠ 0 ∧ s.rd Od.saf_mac_state c ≠ 4 ∧ s.rd
    Od.saf_trip_cause = 0 ∧ ∃ t, exec (.macaronWatchdog c) s = .next t ∧ t.rd Od.saf_mac_state c = 3 ∧ (connOf t c).applied = 0) :=
  ⟨⟨{ st .run (upBoth ++ [(Od.saf_mac_dir, 31, 1), (Od.saf_mac_id, 31, 0x77), (Od.saf_mac_len, 31, 2)]) with saf := { conns := [(31, { last := some 0xFFFFFFFF })] } },
    31, 0xFFFFFFFF, by decide +kernel, by decide +kernel, by decide +kernel, by decide +kernel, by decide +kernel, by decide +kernel,
    by decide +kernel, ⟨_, rfl, by decide +kernel⟩⟩,
    ⟨st .run consumer, 31, 1, 5, macPdu 0x77 9 [1, 2, 3], by decide +kernel, by decide +kernel, by decide +kernel, by decide +kernel,
    by decide +kernel, by decide +kernel, by decide +kernel, ⟨_, rfl, by decide +kernel⟩⟩,
    ⟨st .run consumer, 31, 1, 5, macPdu 0x77 9 [1, 2], by decide +kernel, by decide +kernel, by decide +kernel, by decide +kernel, by decide +kernel,
    by decide +kernel, by decide +kernel, by decide +kernel, by decide +kernel, ⟨_, rfl, by decide +kernel⟩⟩,
    ⟨{ st .run consumer with saf := { conns := [(31, { last := some 8, held := [(0, 9, macPdu 0x77 9 [1, 2])] })] } }, 31, 1, 5, macPdu 0x77 9 [1, 2],
    by decide +kernel, by decide +kernel, by decide +kernel, by decide +kernel, by decide +kernel, by decide +kernel, by decide +kernel,
    by decide +kernel, by decide +kernel, ⟨_, rfl, by decide +kernel⟩⟩,
    ⟨{ st .run consumer with saf := { conns := [(31, { last := some 8, held := [(0, 9, macPdu 0x77 9 [1, 2])] })] } }, 31, 0, 9, macPdu 0x77 9 [1, 2],
    by decide +kernel, by decide +kernel, by decide +kernel, by decide +kernel, by decide +kernel, by decide +kernel, by decide +kernel,
    by decide +kernel, ⟨_, rfl, by decide +kernel⟩⟩,
    ⟨{ st .run consumer with saf := { conns := [(31, { last := some 8, applied := 3 })] } }, 31, by decide +kernel, by decide +kernel,
    by decide +kernel, by decide +kernel, by decide +kernel, by decide +kernel, ⟨_, rfl, by decide +kernel⟩⟩⟩

theorem witness_ProgramCycles :
    (∃ (s : State) (p : Nat) (at_ : Nat), running s = true ∧ s.mode ≠ .commission ∧ p < 4 ∧ (∀ q < 4, (slotPrg s q).cyc = none) ∧ turnAt s at_ = some
    p ∧ ∃ t, exec (.programCycleStart p at_) s = .next t ∧ (slotPrg t p).cyc = some (latchInputs readElem s (slotPrg s p)) ∧ (slotPrg t p).started =
    true ∧ (slotPrg t p).startAt = at_ ∧ t.prg.turn = p) ∧
    (∃ (s : State) (p : Nat) (at_ : Nat) (us : Nat) (writes : List (Nat × List Nat)) (d : List Nat), (slotPrg s p).cyc = some d ∧ us = sinceStart s p
    at_ ∧ us < s.rd Od.prg_max_cycle p ∧ us < 2 ^ 32 ∧ s.rd Od.prg_cycles p + 1 < 2 ^ 64 ∧ (slotPrg s p).first = none ∧ (slotPrg s p).pend = [] ∧ ∃ t,
    exec (.programCycleEnd p at_ writes) s = .next t ∧ t.rd Od.prg_cycles p = s.rd Od.prg_cycles p + 1 ∧ t.rd Od.prg_cycle_last p = us ∧ (slotPrg t
    p).cyc = none ∧ (slotPrg t p).data = writes.foldl (fun d w => splice d w.1 w.2) d) ∧
    (∃ (s : State) (p : Nat), p < 4 ∧ (slotPrg s p).cyc.isSome = true ∧ (slotPrg s p).first = none ∧ (slotPrg s p).pend = [] ∧ s.rd Od.prg_overruns p
    + 1 < 2 ^ 32 ∧ prgState s p = 2 ∧ ∃ t, exec (.programOverrun p) s = .next t ∧ t.rd Od.prg_overruns p = s.rd Od.prg_overruns p + 1 ∧ (slotPrg t
    p).cyc = none ∧ (slotPrg t p).data = (slotPrg s p).data ∧ t.rdBit Od.prg_status 5 p = true ∧ (s.rd Od.prg_overrun_limit p ≠ 0 → s.rd
    Od.prg_overrun_limit p ≤ (slotPrg s p).overruns + 1 → prgState t p = 4 ∧ t.rd Od.prg_fault p = 1)) ∧
    (∃ (s : State) (p : Nat), p < 4 ∧ ∃ t, exec (.overrunWarnClear p) s = .next t ∧ t.rdBit Od.prg_status 5 p = false) ∧
    (∃ (s : State) (p : Nat) (pc : Nat) (illegal : Bool), p < 4 ∧ (slotPrg s p).cyc.isSome = true ∧ (slotPrg s p).first = none ∧ (slotPrg s p).pend =
    [] ∧ prgState s p = 2 ∧ ∃ t, exec (.programTrap p illegal pc) s = .next t ∧ prgState t p = 4 ∧ t.rd Od.prg_fault p = (if illegal then 2 else 3) ∧
    (slotPrg t p).cyc = none ∧ (slotPrg t p).data = (slotPrg s p).data) ∧
    (∃ (s : State) (p : Nat) (r : Nat), powered s = true ∧ p < 4 ∧ s.rd Od.prg_stage_state p = 1 ∧ r = imageResult s p (tenantOf s (slotPrg s
    p).checkPort) (stagedBytes s p) (s.rd Od.prg_stage_len p) ∧ ∃ t, exec (.stageCheckDone p) s = .next t ∧ t.rd Od.prg_stage_result p = r ∧ t.rd
    Od.prg_stage_state p = (if r = 1 then 2 else 3)) :=
  ⟨⟨{ st .run [(Od.prg_state, 3, 2), (Od.prg_state, 1, 2)] with prg := { slots := [(1, { started := true, startAt := 980000 }), (3, { data := [1, 2] })], turn := 0 } },
    3, 1000000, by decide +kernel, by decide +kernel, by decide +kernel, by decide +kernel, by decide +kernel, ⟨_, rfl, by decide +kernel⟩⟩,
    ⟨{ st .run [(Od.prg_state, 3, 2), (Od.prg_max_cycle, 3, 1000)] with prg := { slots := [(3, { data := [1, 2], cyc := some [5, 6], started := true, startAt := 1000 })] } },
    3, 1000999, 999, [(1, [9])], [5, 6], by decide +kernel, by decide +kernel, by decide +kernel, by decide +kernel, by decide +kernel,
    by decide +kernel, by decide +kernel, ⟨_, rfl, by decide +kernel⟩⟩,
    ⟨{ st .run [(Od.prg_state, 3, 2), (Od.prg_overrun_limit, 3, 2)] with prg := { slots := [(3, { data := [1, 2], cyc := some [5, 6], overruns := 1 })] } },
    3, by decide +kernel, by decide +kernel, by decide +kernel, by decide +kernel, by decide +kernel, by decide +kernel, ⟨_, rfl, by decide +kernel⟩⟩,
    ⟨st .run [(Od.prg_status, 3, 2 ^ 5)], 3, by decide +kernel, ⟨_, rfl, by decide +kernel⟩⟩,
    ⟨{ st .run [(Od.prg_state, 3, 2)] with prg := { slots := [(3, { data := [1, 2], cyc := some [5, 6] })] } }, 3, 0x1000, false, by decide +kernel,
    by decide +kernel, by decide +kernel, by decide +kernel, by decide +kernel, ⟨_, rfl, by decide +kernel⟩⟩,
    ⟨st .run [(Od.prg_stage_state, 3, 1)], 3, 2, by decide +kernel, by decide +kernel, by decide +kernel, by decide +kernel, ⟨_, rfl,
    by decide +kernel⟩⟩⟩

theorem witness_RealTimeClock :
    (∃ (s : State), s.rd Od.rtc_shift = 0 ∧ s.rd Od.rtc_subsec < 32768 ∧ s.rd Od.rtc_seconds + 1 < 2 ^ 64 ∧ ∃ t, exec .rtcSecondBoundary s = .next t ∧
    t.rd Od.rtc_seconds = s.rd Od.rtc_seconds + 1 ∧ t.rd Od.rtc_subsec = 0 ∧ t.crystal = s.crystal + (32768 - s.rd Od.rtc_subsec)) ∧
    (∃ (s : State) (d : Int), mpRuns s = true ∧ s.rd Od.rtc_sync = 1 ∧ s.rd Od.net_ptp_state = 3 ∧ s.rd Od.rtc_shift = 0 ∧ timePending s = false ∧ d =
    (rtcTime s : Int) - s.now ∧ d.natAbs * 32768 ≤ 32 * 1000000000 ∧ ∃ t, exec .rtcSyncCompare s = .next t ∧ t.rdBit Od.rtc_status 4 = true ∧ t.rd
    Od.rtc_shift = 0) ∧
    (∃ (s : State) (d : Int), mpRuns s = true ∧ s.rd Od.rtc_sync = 1 ∧ s.rd Od.net_ptp_state = 3 ∧ s.rd Od.rtc_shift = 0 ∧ timePending s = false ∧ d =
    (rtcTime s : Int) - s.now ∧ 32 * 1000000000 < d.natAbs * 32768 ∧ d.natAbs < s.rd Od.rtc_sync_step * 1000000000 ∧ ∃ t, exec .rtcSyncCompare s =
    .next t ∧ t.rdBit Od.rtc_status 4 = false ∧ t.rd Od.rtc_lost = s.rd Od.rtc_lost ∧ t.rdInt Od.rtc_shift = clampInt (-32767) 32767 (-(Frac.mk (d *
    32768) 1000000000).round)) ∧
    (∃ (s : State), s.rdInt Od.rtc_shift ≠ 0 ∧ s.rtc.shiftInternal = true ∧ ∃ t, exec .rtcSecondBoundary s = .next t ∧ t.rd Od.rtc_shift = 0 ∧ t.rd
    Od.rtc_lost = 0) ∧
    (∃ (s : State), s.rtc.onVbat = false ∧ ∃ t, exec .vbatSwitchOver s = .next t ∧ t.rtc.onVbat = true ∧ t.rd Od.nrg_vbat_gen = (s.rd Od.nrg_vbat_gen
    + 1) % 2 ^ 16 ∧ (s.rd Od.nrg_first_vbat = 0 → t.rd Od.nrg_first_vbat = rtcTime s)) ∧
    (∃ (s : State), exec .vaonSwitchBack s = .next { s with rtc := { s.rtc with onVbat := false } }) ∧
    (∃ (s : State) (mv : Nat), powered s = true ∧ mv < 1000 ∧ ∃ t, exec (.vbatMeasure mv) s = .next t ∧ t.rd Od.rtc_vbat = 0 ∧ t.rdBit Od.rtc_status 3
    = true ∧ t.rdBit Od.rtc_status 2 = true) ∧
    (∃ (s : State) (mv : Nat), powered s = true ∧ 2300 ≤ mv ∧ mv < 2 ^ 16 ∧ ∃ t, exec (.vbatMeasure mv) s = .next t ∧ t.rd Od.rtc_vbat = mv ∧ t.rdBit
    Od.rtc_status 3 = false ∧ t.rdBit Od.rtc_status 2 = false) ∧
    (∃ (s : State), s.rd Od.rtc_lost < 2 ^ 8 ∧ ∃ t, exec .backupDomainBrownout s = .next t ∧ t.rd Od.rtc_seconds = 0 ∧ t.rd Od.nrg_first_vbat = 2 ^ 64
    - 1 ∧ t.rtc.resetFlag = true ∧ t.rd Od.rtc_lost = s.rd Od.rtc_lost ∧ t.rtc.lossGen = s.rtc.lossGen + 1) :=
  ⟨⟨st .run [(Od.rtc_subsec, 0, 32767), (Od.rtc_seconds, 0, 2 ^ 64 - 2)], by decide +kernel, by decide +kernel, by decide +kernel, ⟨_, rfl,
    by decide +kernel⟩⟩,
    ⟨{ st .run [(Od.rtc_sync, 0, 1), (Od.net_ptp_state, 0, 3), (Od.rtc_seconds, 0, 100), (Od.rtc_tai_offset, 0, 0)] with now := 100000976562 },
    -976562, by decide +kernel, by decide +kernel, by decide +kernel, by decide +kernel, by decide +kernel, by decide +kernel, by decide +kernel, ⟨_,
    rfl, by decide +kernel⟩⟩,
    ⟨{ st .run [(Od.rtc_sync, 0, 1), (Od.net_ptp_state, 0, 3), (Od.rtc_seconds, 0, 100), (Od.rtc_tai_offset, 0, 0), (Od.rtc_status, 0, 16), (Od.rtc_lost, 0, 1)] with now := 100000976563 },
    -976563, by decide +kernel, by decide +kernel, by decide +kernel, by decide +kernel, by decide +kernel, by decide +kernel, by decide +kernel,
    by decide +kernel, ⟨_, rfl, by decide +kernel⟩⟩,
    ⟨{ st .run [(Od.rtc_shift, 0, 65535), (Od.rtc_lost, 0, 1)] with rtc := { shiftInternal := true } }, by decide +kernel, by decide +kernel, ⟨_, rfl,
    by decide +kernel⟩⟩,
    ⟨st .run [(Od.rtc_seconds, 0, 100), (Od.nrg_vbat_gen, 0, 65535)], by decide +kernel, ⟨_, rfl, by decide +kernel⟩⟩,
    ⟨{ st .run [] with rtc := { onVbat := true } }, congrArg Host.Outcome.next (by decide +kernel)⟩,
    ⟨st .run [(Od.rtc_vbat, 0, 3000)], 999, by decide +kernel, by decide +kernel, ⟨_, rfl, by decide +kernel⟩⟩,
    ⟨st .run [(Od.rtc_status, 0, 0xC)], 2300, by decide +kernel, by decide +kernel, by decide +kernel, ⟨_, rfl, by decide +kernel⟩⟩,
    ⟨st .run [(Od.rtc_seconds, 0, 100), (Od.rtc_lost, 0, 1)], by decide +kernel, ⟨_, rfl, by decide +kernel⟩⟩⟩

theorem witness_StoresIntoTheBanks :
    (∃ (s : State) (c : Nat) (at_ : Nat) (b : Nat) (cs : List (Nat × Nat)), powered s = true ∧ s.sys.qualified = true ∧ s.nvs.storing = none ∧
    s.nvs.queued = (c, at_) :: cs ∧ c < 2 ^ 8 ∧ at_ < 2 ^ 64 ∧ b = 1 - (selNow s).bank ∧ (selNow s).gen + 1 < 2 ^ 64 ∧ s.rd Od.nvs_store_count b + 1 <
    2 ^ 32 ∧ ∃ t, exec .storeStart s = .next t ∧ t.nvs.storing.isSome = true ∧ t.nvs.queued = cs ∧ t.nvs.target = b ∧ t.rd Od.nvs_generation = (selNow
    s).gen + 1 ∧ t.rd Od.nvs_last_cause = c ∧ t.rd Od.nvs_last_store = at_ ∧ t.rd Od.nvs_store_count b = s.rd Od.nvs_store_count b + 1) ∧
    (∃ (s : State) (us : Nat) (cause : Nat) (snap : Bank), powered s = true ∧ s.nvs.storing = some (cause, snap) ∧ entryOff s = false ∧ s.txn.held =
    [] ∧ s.nvs.target < 2 ∧ ∃ t, exec (.storeComplete false us) s = .next t ∧ t.nvs.storing = none ∧ t.nvs.sel0 = selWord 1 s.nvs.target snap.gen ∧
    t.nvs.sel1 = t.nvs.sel0 ∧ selNow t = t.nvs.sel0 ∧ shadowOf t s.nvs.target = some snap ∧ t.rd Od.nvs_active_bank = s.nvs.target ∧ t.rd Od.nvs_lost
    = 0 ∧ t.rd Od.nvs_stale = 0 ∧ t.rdBit Od.sys_health (2 + s.nvs.target) = false) ∧
    (∃ (s : State) (us : Nat) (cause : Nat) (snap : Bank), powered s = true ∧ s.nvs.storing = some (cause, snap) ∧ s.nvs.inPlace = false ∧
    s.nvs.target < 2 ∧ ∃ t, exec (.storeComplete true us) s = .next t ∧ t.nvs.storing.isSome = true ∧ t.nvs.inPlace = true ∧ t.nvs.target = 1 -
    s.nvs.target ∧ shadowOf t s.nvs.target = none ∧ t.rd Od.nvs_bank_state s.nvs.target = 1 ∧ t.rd Od.nvs_bank_state (1 - s.nvs.target) = 2 ∧ t.rdBit
    Od.sys_health (2 + s.nvs.target) = true) ∧
    (∃ (s : State), powered s = true ∧ s.rd Od.nvs_allowance < 32 ∧ exec .allowanceReplenish s = .next (s.wr Od.nvs_allowance (s.rd Od.nvs_allowance +
    1))) :=
  ⟨⟨{ st .run [] with nvs := { sel0 := selWord 1 1 (2 ^ 64 - 2), queued := [(5, 77), (2, 78)] } }, 5, 77, 0, [(2, 78)], by decide +kernel,
    by decide +kernel, by decide +kernel, by decide +kernel, by decide +kernel, by decide +kernel, by decide +kernel, by decide +kernel,
    by decide +kernel, ⟨_, rfl, by decide +kernel⟩⟩,
    ⟨{ st .run [(Od.nvs_lost, 0, 1), (Od.sys_health, 0, 4)] with nvs := { sel0 := selWord 1 1 8, storing := some (5, ⟨[], {}, 9⟩), target := 0 } },
    900, 5, ⟨[], {}, 9⟩, by decide +kernel, by decide +kernel, by decide +kernel, by decide +kernel, by decide +kernel, ⟨_, rfl, by decide +kernel⟩⟩,
    ⟨{ st .run [] with nvs := { sel0 := selWord 1 1 8, storing := some (5, ⟨[], {}, 9⟩), target := 0, bank0 := some ⟨[], {}, 7⟩ } }, 900, 5, ⟨[], {},
    9⟩, by decide +kernel, by decide +kernel, by decide +kernel, by decide +kernel, ⟨_, rfl, by decide +kernel⟩⟩,
    ⟨st .run [(Od.nvs_allowance, 0, 31)], by decide +kernel, by decide +kernel, congrArg Host.Outcome.next (by decide +kernel)⟩⟩

theorem witness_RecorderMoves :
    (∃ (s : State), mpRuns s = true ∧ sramOpen s = true ∧ s.recd.dropped = 0 ∧ recUnmoved s + s.recd.buf.length ≤ 2048 ∧ ∃ t, exec .recorderFlush s =
    .next t ∧ t.recd.buf = [] ∧ t.mer.region = (s.recd.buf ++ s.mer.region).take 2048 ∧ t.od = s.od) ∧
    (∃ (s : State), mpRuns s = true ∧ 128 ≤ recUnmoved s ∧ s.recd.flash.length + 128 ≤ 65536 ∧ ∃ t, exec (.recordMove false) s = .next t ∧
    t.recd.flash.length = s.recd.flash.length + 128 ∧ t.recd.flash.drop 128 = s.recd.flash ∧ t.recd.tail = s.recd.tail) ∧
    (∃ (s : State) (r : Nat), tabGet false r s.recd.owned = true ∧ ∃ t, exec (.recContextExpiry r) s = .next t ∧ tabGet false r t.recd.owned = false ∧
    ∀ e, t.rd Od.rec_rd_data e = s.rd Od.rec_rd_data e) ∧
    (∃ (s : State) (failed : Bool), s.rd Od.rec_dump_state = 1 ∧ ∃ t, exec (.recDumpComplete failed) s = .next t ∧ t.rd Od.rec_dump_state = (if failed
    then 3 else 2) ∧ t.recd.dump = []) ∧
    (∃ (s : State), s.recd.eraseWaits = true ∧ s.rd Od.rec_dump_state = 1 ∧ mpRuns s = true ∧ ∃ t, exec .recDumpEraseTimeout s = .next t ∧ t.rd
    Od.rec_dump_state = 3 ∧ t.recd.eraseWaits = false) ∧
    (∃ (s : State) (seq : Nat) (rest : List (Nat × Nat)), powered s = true ∧ s.recd.clears = (seq, recHead s) :: rest ∧ recRoom s = true ∧ s.recd.next
    < 2 ^ 64 ∧ ∃ t, exec .recClearApply s = .next t ∧ t.recd.clears = rest ∧ t.rd Od.rec_clear_seq = s.recd.next ∧ t.recd.tail = s.recd.next) :=
  ⟨⟨{ st .run [] with recd := { buf := [⟨2, 3, 0, 0, 0⟩, ⟨1, 3, 0, 0, 0⟩], next := 3 } }, by decide +kernel, by decide +kernel, by decide +kernel,
    by decide +kernel, ⟨_, rfl, by decide +kernel⟩⟩,
    ⟨{ st .run [] with mer := { region := (List.range 128).map (fun k => ⟨128 - k, 3, 0, 0, 0⟩) }, recd := { next := 129 } }, by decide +kernel,
    by decide +kernel, by decide +kernel, ⟨_, rfl, by decide +kernel⟩⟩,
    ⟨{ st .run [(Od.rec_rd_data, 2, 77)] with recd := { owned := [(3, true)] } }, 3, by decide +kernel, ⟨_, rfl, by decide +kernel, fun _ => rfl⟩⟩,
    ⟨{ st .run [(Od.rec_dump_state, 0, 1)] with recd := { dump := [⟨1, 3, 0, 0, 0⟩] } }, true, by decide +kernel, ⟨_, rfl, by decide +kernel⟩⟩,
    ⟨{ st .run [(Od.rec_dump_state, 0, 1)] with recd := { dump := [⟨1, 3, 0, 0, 0⟩], eraseWaits := true } }, by decide +kernel, by decide +kernel,
    by decide +kernel, ⟨_, rfl, by decide +kernel⟩⟩,
    ⟨{ st .run [] with recd := { flash := [⟨7, 3, 0, 0, 0⟩], next := 8, clears := [(9, 7)] } }, 9, [], by decide +kernel, by decide +kernel,
    by decide +kernel, by decide +kernel, ⟨_, rfl, by decide +kernel⟩⟩⟩

theorem witness_UpdateSteps :
    (∃ (s : State) (b : Nat) (data : List Nat), powered s = true ∧ s.upd.prog = some (b, data) ∧ b < 960 ∧ ∃ t, exec .blockProgrammed s = .next t ∧
    t.upd.prog = none ∧ tabGet [] b t.upd.proof = data ∧ mapHas (t.rd Od.upd_map) b = true) ∧
    (∃ (s : State) (bytes : List Nat) (rest : List (List Nat)) (tenant : Nat) (hdr : Nat), powered s = true ∧ s.lbs.imgDone = bytes :: rest ∧ 16 ≤
    bytes.length ∧ hdr = ofBytes (bytes.take 16) ∧ bspTenant s = some tenant ∧ hasRight s tenant rightUPDATE = true ∧ granted s tenant 1 0x1800 = true
    ∧ blockRefusal s (s.upd.prog.isSome || blockAccepted s) hdr (bytes.drop 16) = .ok ∧ ∃ t, exec .bspImageBlock s = .next t ∧ t.lbs.imgDone = rest ∧
    t.upd.prog = some (bytesAt 16 hdr 0 2, (bytes.drop 16).take (bytesAt 16 hdr 2 4))) ∧
    (∃ (s : State) (bytes : List Nat) (rest : List (List Nat)), powered s = true ∧ s.lbs.imgDone = bytes :: rest ∧ bspTenant s = none ∧ s.rd
    Od.upd_blk_refused + 1 < 2 ^ 32 ∧ ∃ t, exec .bspImageBlock s = .next t ∧ t.lbs.imgDone = rest ∧ t.upd = s.upd ∧ t.rd Od.upd_blk_refused = s.rd
    Od.upd_blk_refused + 1) ∧
    (∃ (s : State) (bad : Bool), mpRuns s = true ∧ s.rd Od.upd_state = 2 ∧ s.rdBit Od.sys_mp_deferred 0 = false ∧ ∃ t, exec (.verifyComplete bad) s =
    .next t ∧ t.rd Od.upd_result = verifyResult s bad ∧ t.rd Od.upd_state = (if verifyResult s bad = 1 then 3 else 4)) ∧
    (∃ (s : State), s.mode = .probation ∧ s.rd Od.upd_probation_left = 0 ∧ s.sys.resetDue = none ∧ ∃ t, exec .probationExpiry s = .next t ∧
    t.sys.resetDue = some .wdr) :=
  ⟨⟨{ st .run [] with upd := { prog := some (959, [1, 2]) } }, 959, [1, 2], by decide +kernel, by decide +kernel, by decide +kernel, ⟨_, rfl,
    by decide +kernel⟩⟩,
    ⟨{ st .run [(Od.od_port_kind, 255, 6), (Od.od_port_tenant, 255, 3), (Od.od_tenant_rights, 3, 2 ^ rightUPDATE), (Od.od_grant_lo, 127, 0x1000), (Od.od_grant_hi, 127, 0x1FFF), (Od.od_grant_rights, 127, 2), (Od.upd_state, 0, 1), (Od.upd_length, 0, 4)] with lbs := { imgDone := [[0, 0, 0, 0, 0, 4] ++ beBytes 4 (crc32c [1, 2, 3, 4]) ++ [0, 0, 0, 0, 0, 0, 1, 2, 3, 4]] } },
    [0, 0, 0, 0, 0, 4] ++ beBytes 4 (crc32c [1, 2, 3, 4]) ++ [0, 0, 0, 0, 0, 0, 1, 2, 3, 4], [], 3, ofBytes ([0, 0, 0, 0, 0, 4] ++ beBytes 4 (crc32c
    [1, 2, 3, 4]) ++ [0, 0, 0, 0, 0, 0]), by decide +kernel, by decide +kernel, by decide +kernel, by decide +kernel, by decide +kernel,
    by decide +kernel, by decide +kernel, by decide +kernel, ⟨_, rfl, by decide +kernel⟩⟩,
    ⟨{ st .run [] with lbs := { imgDone := [[1, 2, 3]] } }, [1, 2, 3], [], by decide +kernel, by decide +kernel, by decide +kernel, by decide +kernel,
    ⟨_, rfl, by decide +kernel⟩⟩,
    ⟨st .run [(Od.upd_state, 0, 2), (Od.upd_length, 0, 300)], true, by decide +kernel, by decide +kernel, by decide +kernel, ⟨_, rfl,
    by decide +kernel⟩⟩,
    ⟨st .probation [], by decide +kernel, by decide +kernel, by decide +kernel, ⟨_, rfl, by decide +kernel⟩⟩⟩

theorem witness_EnvironmentIsMeasured :
    (∃ (s : State) (vmain : Nat) (vsafe : Nat) (power : Nat), powered s = true ∧ ∃ t, exec (.vmainMeasure vmain vsafe power) s = .next t ∧ t.rd
    Od.sys_vmain = min vmain 65535 ∧ t.rd Od.sys_vsafe = min vsafe 65535 ∧ t.rd Od.sys_power = min power 0xFFFFFFFF ∧ t.rdBit Od.sys_env_status 2 =
    decide (32000 < vmain)) ∧
    (∃ (s : State) (mv : Nat), powered s = true ∧ mv < 19000 ∧ ∃ t, exec (.vsafeLow mv) s = .next t ∧ t.rd Od.sys_vsafe = mv ∧ t.rdBit
    Od.sys_env_status 1 = true) ∧
    (∃ (s : State) (mv : Nat), powered s = true ∧ s.rdBit Od.sys_env_status 1 = true ∧ 20000 ≤ mv ∧ mv < 2 ^ 16 ∧ ∃ t, exec (.vsafeRecover mv) s =
    .next t ∧ t.rd Od.sys_vsafe = mv ∧ t.rdBit Od.sys_env_status 1 = false ∧ ∀ o < safOuts s, (outOf t o).tests = 2) ∧
    (∃ (s : State) (land : Int) (soc : Int), powered s = true ∧ -32768 ≤ land ∧ land < 32768 ∧ -32768 ≤ soc ∧ soc < 32768 ∧ ∃ t, exec (.tempMeasure
    land soc) s = .next t ∧ t.rdInt Od.sys_temp_land = land ∧ t.rdInt Od.sys_temp_soc = soc ∧ t.rdInt Od.sys_temp_max = max (s.rdInt Od.sys_temp_max)
    soc ∧ (1050 < soc → t.rdBit Od.sys_env_status 3 = true) ∧ (soc ≤ 1000 → t.rdBit Od.sys_env_status 3 = false)) :=
  ⟨⟨st .run [], 32001, 70000, 5000000000, by decide +kernel, ⟨_, rfl, by decide +kernel⟩⟩,
    ⟨st .run [], 18999, by decide +kernel, by decide +kernel, ⟨_, rfl, by decide +kernel⟩⟩,
    ⟨st .run [(Od.sys_env_status, 0, 2)], 20000, by decide +kernel, by decide +kernel, by decide +kernel, by decide +kernel, ⟨_, rfl,
    by decide +kernel⟩⟩,
    ⟨st .run [(Od.sys_env_status, 0, 8)], -400, 1000, by decide +kernel, by decide +kernel, by decide +kernel, by decide +kernel, by decide +kernel,
    ⟨_, rfl, by decide +kernel⟩⟩⟩

theorem witness_EntryWritesAreAccepted :
    (∃ (s : State) (w : Who) (e : Nat) (v : Nat) (x : Instr × Nat × Nat), x ∈ ([(.holdTestCmd w v, Od.sys_hold_test, 0), (.modeRequest w v,
    Od.sys_mode_req, 0), (.faultRetestCmd w v, Od.sys_fault_retest, 0), (.trendDumpCmd w v, Od.sys_trend_dump, 0), (.txStartWrite w e v,
    Od.net_tx_start, e), (.speedMaxWrite w e v, Od.net_speed_max, e), (.downshiftDisable w v, Od.net_downshift, 0), (.pseResetCmd w v,
    Od.fld_pse_reset, 0), (.bspEnableWrite w v, Od.lbs_bsp_enable, 0), (.anaOutWrite w e v, Od.ana_out, e), (.hartPassthroughReq w e v,
    Od.ana_hart_req, e), (.calStepNow w e v, Od.cal_step_now, e), (.calRunClear w e v, Od.cal_run, e), (.pulseConstWrite w e v, Od.nrg_pulse_const,
    e), (.vbatClear w v, Od.nrg_vbat_clear, 0), (.captureCmd w v, Od.nrg_cap_circuit, 0), (.softSetpointWrite w e v, Od.ctl_sp_soft, e),
    (.ctlModeWrite w e v, Od.ctl_mode, e), (.repMemoryClear w e v, Od.ctl_rep_clear, e), (.motTargetWrite w e v, Od.mot_target, e), (.referenceCmd w e
    v, Od.mot_ref_cmd, e), (.learnRunCmd w e v, Od.lft_learn, e), (.liftFaultReset w e v, Od.lft_fault_reset, e), (.liftCall w e v, Od.lft_call, e),
    (.safAck w v, Od.saf_ack, 0), (.safUcmAck w e v, Od.saf_ucm_ack, e), (.safHoldExit w v, Od.saf_hold_exit, 0), (.programRunWrite w e v, Od.prg_run,
    e), (.stageCheckCmd w e v, Od.prg_stage_check, e), (.programExchange w e v, Od.prg_exchange, e), (.rtcSecondsWrite w v, Od.rtc_seconds, 0),
    (.rtcCalWrite w v, Od.rtc_cal, 0), (.rtcShiftWrite w v, Od.rtc_shift, 0), (.storeCmd w v, Od.nvs_store_cmd, 0), (.recReadRequest w e v,
    Od.rec_rd_req, e), (.recDump w v, Od.rec_dump, 0), (.recClear w v, Od.rec_clear, 0), (.updBegin w v, Od.upd_begin, 0), (.updBlock w v,
    Od.upd_block, 0), (.updVerify w v, Od.upd_verify, 0), (.updActivate w v, Od.upd_activate, 0), (.updHealthOk w v, Od.upd_health_ok, 0),
    (.keyReplace w v, Od.key_replace, 0)] : List (Instr × Nat × Nat)) ∧ Accepts s w false [entryItem x.2.1 x.2.2 v] ∧ w.port ≠ 0 ∧ w.reqid ≠ 0 ∧ s.rd
    Od.txn_next_seq + 1 < 2 ^ 64 ∧ ∃ t r, exec x.1 s = .next t ∧ r ∈ t.mer.recs ∧ RecordOf s w [entryItem x.2.1 x.2.2 v] r ∧ t.rd Od.txn_next_seq =
    s.rd Od.txn_next_seq + 1 ∧ (entryKind x.2.1 = 0 → v < 2 ^ widthOf x.2.1 → r.writes = [⟨x.2.1, x.2.2, v⟩] ∧ r.completed = false)) ∧
    (∃ (c : Instr) (s : State) (w : Who) (i : Nat) (e : Nat) (v : Nat), elementWrite c = some (w, i, e, v) ∧ Accepts (lbPending s w.reqid) w false
    [entryItem i e v] ∧ w.port = 0 ∧ w.reqid ≠ 0 ∧ lbTxn s = none ∧ (i < Od.txn_begin ∨ Od.txn_rollback < i) ∧ s.rd Od.txn_next_seq + 1 < 2 ^ 64 ∧ ∃ t
    r, exec c s = .next t ∧ r ∈ t.mer.recs ∧ RecordOf s w [entryItem i e v] r ∧ t.rd Od.txn_next_seq = s.rd Od.txn_next_seq + 1) ∧
    (∃ (s : State) (w : Who) (i : Nat) (e : Nat) (ty : Nat) (v : Nat), Accepts s w false [oneItem i e ty v] ∧ w.port ≠ 0 ∧ w.reqid ≠ 0 ∧ s.rd
    Od.txn_next_seq + 1 < 2 ^ 64 ∧ ∃ t r, exec (.entryWrite w i e ty v) s = .next t ∧ r ∈ t.mer.recs ∧ RecordOf s w [oneItem i e ty v] r ∧ t.rd
    Od.txn_next_seq = s.rd Od.txn_next_seq + 1) ∧
    (∃ (s : State) (w : Who) (items : List WItem), Accepts s w false items ∧ w.port ≠ 0 ∧ w.reqid ≠ 0 ∧ s.rd Od.txn_next_seq + 1 < 2 ^ 64 ∧ ∃ t r,
    exec (.copWrite w 0 items) s = .next t ∧ r ∈ t.mer.recs ∧ RecordOf s w items r ∧ t.rd Od.txn_next_seq = s.rd Od.txn_next_seq + 1 ∧ (writeKind
    items = 0 → r.writes = itemWrites (liveItems items) ∧ r.completed = false)) :=
  ⟨⟨st .run rights, client, 1023, 0x41200000, (.softSetpointWrite client 1023 0x41200000, Od.ctl_sp_soft, 1023), by simp,
    by unfold Accepts; decide +kernel, by decide +kernel, by decide +kernel, by decide +kernel, ⟨_, _, rfl, List.getLast_mem (by decide +kernel),
    by unfold RecordOf; decide +kernel, by decide +kernel⟩⟩,
    ⟨.softSetpointWrite busClient 1023 0x41200000, st .run rights, busClient, Od.ctl_sp_soft, 1023, 0x41200000, by decide +kernel,
    by unfold Accepts; decide +kernel, by decide +kernel, by decide +kernel, by decide +kernel, by decide +kernel, by decide +kernel, ⟨_, _, rfl,
    List.getLast_mem (by decide +kernel), by unfold RecordOf; decide +kernel, by decide +kernel⟩⟩,
    ⟨st .run rights, client, Od.ctl_sp, 1023, 9, 0x41200000, by unfold Accepts; decide +kernel, by decide +kernel, by decide +kernel,
    by decide +kernel, ⟨_, _, rfl, List.getLast_mem (by decide +kernel), by unfold RecordOf; decide +kernel, by decide +kernel⟩⟩,
    ⟨st .run rights, client, [entryItem Od.ctl_sp 1023 0x41200000, entryItem Od.ctl_man_out 5 0x41200000], by unfold Accepts; decide +kernel,
    by decide +kernel, by decide +kernel, by decide +kernel, ⟨_, _, rfl, List.getLast_mem (by decide +kernel), by unfold RecordOf; decide +kernel,
    by decide +kernel⟩⟩⟩

theorem witness_RequestsAreAnswered :
    (∃ (s : State) (w : Who) (items : List WItem) (rs : List (Status × List Nat)), serves s = true ∧ w.port ≠ 0 ∧ w.port < 256 ∧ s.rd Od.od_port_kind
    w.port ≠ 0 ∧ w.reqid ≠ 0 ∧ duplicateOf s w = none ∧ openTxn s 0 = none ∧ rs = items.map (readItem (s.count Od.od_port_hits w.port) w.port []) ∧
    rs.foldl (fun a r => a + 12 + pad4 r.2.length) 0 ≤ 1424 ∧ ∃ t, exec (.copRead w 0 items) s = .next t ∧ t.mer = s.mer ∧ t.out = .cop w (answerPorts
    s w.origin) opREAD (firstBad (rs.map (fun r => r.1))).code 0 (degraded s) 0 ((items.zip rs).map (fun p => ⟨p.1.index, p.1.first, p.1.count,
    p.1.ty, p.2.1.code, p.2.2⟩)) :: s.out) ∧
    (∃ (s : State) (w : Who) (items : List WItem) (rs : List (Status × List Nat)), serves s = true ∧ w.port ≠ 0 ∧ w.port < 256 ∧ s.rd Od.od_port_kind
    w.port ≠ 0 ∧ w.reqid ≠ 0 ∧ duplicateOf s w = none ∧ rs = items.map (describeItem (s.count Od.od_port_hits w.port) w.port) ∧ rs.foldl (fun a r => a
    + 12 + pad4 r.2.length) 0 ≤ 1424 ∧ ∃ t, exec (.copDescribe w 0 items) s = .next t ∧ t.mer = s.mer ∧ t.out = .cop w (answerPorts s w.origin)
    opDESCRIBE (firstBad (rs.map (fun r => r.1))).code 0 (degraded s) 0 ((items.zip rs).map (fun p => ⟨p.1.index, p.1.first, p.1.count, p.1.ty,
    p.2.1.code, p.2.2⟩)) :: s.out) ∧
    (∃ (s : State) (rx : RxInfo) (bytes : List Nat) (f : CopFrame) (n : Nat), serves s = true ∧ rx.discard = false ∧ bytes.length ≤ 1452 ∧ parseCop
    bytes = some f ∧ classify s rx = some n ∧ n ≠ 0 ∧ f.version = 1 ∧ rx.queueFull = false ∧ exec (.copDatagramRx rx bytes) s = .next (request s f.op
    ⟨n, f.client, f.reqid, rx.toSource⟩ f.handle f.items (decide (4 ≤ f.flags)))) ∧
    (∃ (s : State) (rx : RxInfo) (bytes : List Nat), serves s = true ∧ rx.discard = false ∧ bytes.length ≤ 1452 ∧ parseCop bytes = none ∧ s.rd
    Od.od_malformed + 1 < 2 ^ 32 ∧ ∃ t, exec (.copDatagramRx rx bytes) s = .next t ∧ t.rd Od.od_malformed = s.rd Od.od_malformed + 1 ∧ t.out = s.out) ∧
    (∃ (s : State) (seq : Nat) (x : Waiting), running s = true ∧ s.sys.appUp = true ∧ s.txn.waiting.find? (fun y => y.seq == seq) = some x ∧
    x.who.port ≠ 0 ∧ x.op ≠ opBACNET ∧ ∃ t, exec (.responseTimeout seq) s = .next t ∧ t.out = .cop x.who (answerPorts s x.who.origin) x.op 0 x.handle
    (degraded s) seq (okItems x.items) :: s.out ∧ t.txn.waiting.any (fun y => y.seq == seq) = false) :=
  ⟨⟨st .run rights, client, [⟨Od.ctl_mode, 0, 2, 2, []⟩, ⟨Od.ctl_mode, 1023, 2, 2, []⟩], [(.ok, [0, 0]), (.noSuchIndex, [])], by decide +kernel,
    by decide +kernel, by decide +kernel, by decide +kernel, by decide +kernel, by decide +kernel, by decide +kernel, by decide +kernel,
    by decide +kernel, ⟨_, rfl, by decide +kernel⟩⟩,
    ⟨st .run rights, client, [], [], by decide +kernel, by decide +kernel, by decide +kernel, by decide +kernel, by decide +kernel, by decide +kernel,
    by decide +kernel, by decide +kernel, ⟨_, rfl, by decide +kernel⟩⟩,
    ⟨st .run rights, origin, readBytes, (parseCop readBytes).get (by decide +kernel), 255, by decide +kernel, by decide +kernel, by decide +kernel,
    rfl, by decide +kernel, by decide +kernel, by decide +kernel, by decide +kernel, rfl⟩,
    ⟨st .run rights, origin, readBytes.drop 1, by decide +kernel, by decide +kernel, by decide +kernel, by decide +kernel, by decide +kernel, ⟨_, rfl,
    by decide +kernel⟩⟩,
    ⟨{ st .run [] with txn := { waiting := [⟨4, opWRITE, client, 0, []⟩] } }, 4, ⟨4, opWRITE, client, 0, []⟩, by decide +kernel, by decide +kernel,
    by decide +kernel, by decide +kernel, by decide +kernel, ⟨_, rfl, by decide +kernel⟩⟩⟩

theorem witness_CommitTicksAndScans :
    (∃ (s : State), powered s = true ∧ ∃ t, exec .commitTick s = .next t ∧ t.now = (s.now / 31250 + 1) * 31250 % 2 ^ 64) ∧
    (∃ (s : State) (r : LedgerRec), powered s = true ∧ s.mode ≠ .boot ∧ s.nvs.storing = none ∧ s.sys.replayTo = none ∧ s.txn.held = [] ∧ r ∈
    s.mer.recs ∧ r.kind = 0 ∧ r.specDone = true ∧ r.ordDone = false ∧ r.completed = false ∧ ∃ t r', exec .commitTick s = .next t ∧ r' ∈ t.mer.recs ∧
    r'.seq = r.seq ∧ r'.completed = true) ∧
    (∃ (s : State) (n : Nat) (i : Nat) (e : Nat) (d : EntryDef), running s = true ∧ usedPoints s = [n] ∧ kindInput (ptKind s n) = true ∧ ptLink s n =
    some (i, e) ∧ linkAbsent s (i, e) = false ∧ entryDef? i = some d ∧ s.pts.failed = [] ∧ s.rd Od.od_bacnet_dev = 4194303 ∧ ∃ t, exec .pointScan s =
    .next t ∧ t.rd (ptIndex n) 0 = toPoint d.ty (readElem s i e) % 2 ^ 32) :=
  ⟨⟨{ st .run [] with now := 31250 }, by decide +kernel, ⟨_, rfl, by decide +kernel⟩⟩,
    ⟨{ st .run [(Od.txn_next_seq, 0, 2)] with mer := { recs := [⟨1, 0, 255, 7, 9, 0, 40, false, 0, [⟨Od.ctl_mode, 1023, 2⟩], false, true, true, 0, 0⟩] } },
    ⟨1, 0, 255, 7, 9, 0, 40, false, 0, [⟨Od.ctl_mode, 1023, 2⟩], false, true, true, 0, 0⟩, by decide +kernel, by decide +kernel, by decide +kernel,
    by decide +kernel, by decide +kernel, by decide +kernel, by decide +kernel, by decide +kernel, by decide +kernel, by decide +kernel, ⟨_, _, rfl,
    List.getLast_mem (by decide +kernel), by decide +kernel⟩⟩,
    ⟨st .run [(Od.od_pt_kind, 8191, 1), (Od.od_pt_link, 8191, Od.ana_term_v * 65536 + 31), (Od.ana_term_v, 31, 0x40A00000)], 8191, Od.ana_term_v, 31,
    (entryDef? Od.ana_term_v).get (by decide), by decide +kernel, by decide +kernel, by decide +kernel, by decide +kernel, by decide +kernel,
    by decide +kernel, by decide +kernel, by decide +kernel, ⟨_, rfl, by decide +kernel⟩⟩⟩

theorem witness_TransactionsOpenAndClose :
    (∃ (s : State) (w : Who) (k : Nat), serves s = true ∧ w.port ≠ 0 ∧ w.port < 256 ∧ s.rd Od.od_port_kind w.port ≠ 0 ∧ w.reqid ≠ 0 ∧ duplicateOf s w
    = none ∧ s.nvs.storing = none ∧ hasRight s (tenantOf s w.port) rightTXN = true ∧ s.sys.qualified = true ∧ standbyAccepted s = false ∧ (List.range
    8).find? (fun k => (descOf s (k + 1)).isNone && (openTxn s (k + 1)).isNone) = some k ∧ ∃ t, exec (.txnBegin w) s = .next t ∧ (openTxn t (k +
    1)).isSome = true ∧ descOf t (k + 1) = some ⟨k + 1, w.port, w.client, w.reqid, 0, 0⟩ ∧ t.out = .cop w (answerPorts s w.origin) opBEGIN 0 (k + 1)
    (degraded s) 0 [] :: s.out) ∧
    (∃ (s : State) (s1 : State) (w : Who) (h : Nat) (x : TxnOpen), serves s = true ∧ w.port ≠ 0 ∧ w.port < 256 ∧ s.rd Od.od_port_kind w.port ≠ 0 ∧
    w.reqid ≠ 0 ∧ duplicateOf s w = none ∧ s1 = touchTxn (s.count Od.od_port_hits w.port) h ∧ gate s opCOMMIT w h = none ∧ s.nvs.storing = none ∧
    commitAwaits s = false ∧ h ≠ 0 ∧ openTxn s1 h = some x ∧ commitVerdict s1 w x = (.ok, 1) ∧ acceptRefusal s1 (8 + runsSize (runsOf x.staged)) = .ok
    ∧ ∃ t r, exec (.txnCommit w h) s = .next t ∧ r ∈ t.mer.recs ∧ r.seq = s.rd Od.txn_next_seq ∧ r.kind = 1 ∧ r.reqid = w.reqid ∧ openTxn t h = none) ∧
    (∃ (s : State) (w : Who) (h : Nat), serves s = true ∧ w.port ≠ 0 ∧ w.port < 256 ∧ s.rd Od.od_port_kind w.port ≠ 0 ∧ w.reqid ≠ 0 ∧ duplicateOf s w
    = none ∧ gate s opCOMMIT w h = none ∧ commitAwaits s = true ∧ ∃ t, exec (.txnCommit w h) s = .next t ∧ t.mer = s.mer ∧ t.out = s.out ∧ t.txn.held
    = s.txn.held ++ [⟨opCOMMIT, w, h, [], false⟩]) ∧
    (∃ (s : State) (w : Who) (h : Nat), serves s = true ∧ w.port ≠ 0 ∧ w.port < 256 ∧ s.rd Od.od_port_kind w.port ≠ 0 ∧ w.reqid ≠ 0 ∧ duplicateOf s w
    = none ∧ gate s opROLLBACK w h = none ∧ s.nvs.storing = none ∧ h ≠ 0 ∧ h < 256 ∧ ∃ t, exec (.txnRollback w h) s = .next t ∧ openTxn t h = none ∧
    descOf t h = none ∧ byteAt 16 (t.rd Od.txn_closure 0) 0 = h ∧ byteAt 16 (t.rd Od.txn_closure 0) 1 = 2) ∧
    (∃ (s : State) (h : Nat) (x : TxnOpen), serves s = true ∧ openTxn s h = some x ∧ (descOf s h).isSome = true ∧ x.committing = false ∧ x.last + s.rd
    Od.txn_timeout * 1000000000 ≤ s.now ∧ s.rd Od.txn_expired + 1 < 2 ^ 32 ∧ ∃ t, exec (.txnIdleTimeout h) s = .next t ∧ openTxn t h = none ∧ byteAt
    16 (t.rd Od.txn_closure 0) 1 = 4 ∧ t.rd Od.txn_expired = s.rd Od.txn_expired + 1) ∧
    (∃ (s : State) (s1 : State) (w : Who) (v : Nat) (k : Nat), serves s = true ∧ w.port = 0 ∧ s.rd Od.od_port_kind 0 ≠ 0 ∧ w.reqid ≠ 0 ∧ duplicateOf s
    w = none ∧ s1 = lbPending (s.count Od.od_port_hits 0) w.reqid ∧ checkItem s1 ⟨0, w.client, 0, false, false, none⟩ (entryItem Od.txn_begin 0 v) =
    .ok ∧ lbTxn s = none ∧ s.nvs.storing = none ∧ hasRight s (tenantOf s 0) rightTXN = true ∧ s.sys.qualified = true ∧ standbyAccepted s = false ∧
    (List.range 8).find? (fun k => (descOf s (k + 1)).isNone && (openTxn s (k + 1)).isNone) = some k ∧ ∃ t, exec (.lbTxnBegin w v) s = .next t ∧
    (openTxn t (k + 1)).isSome = true) ∧
    (∃ (s : State) (s1 : State) (w : Who) (v : Nat) (h : Nat) (x : TxnOpen), serves s = true ∧ w.port = 0 ∧ s.rd Od.od_port_kind 0 ≠ 0 ∧ w.reqid ≠ 0 ∧
    duplicateOf s w = none ∧ s1 = lbPending (s.count Od.od_port_hits 0) w.reqid ∧ checkItem s1 ⟨0, w.client, 0, false, false, none⟩ (entryItem
    Od.txn_commit 0 v) = .ok ∧ closureFor s w = none ∧ lbTxn s = some h ∧ s.nvs.storing = none ∧ commitAwaits s = false ∧ openTxn s h = some x ∧
    x.committing = false ∧ commitVerdict s1 w x = (.ok, 1) ∧ acceptRefusal s1 (8 + runsSize (runsOf x.staged)) = .ok ∧ ∃ t r, exec (.lbTxnCommit w v)
    s = .next t ∧ r ∈ t.mer.recs ∧ r.kind = 1 ∧ r.seq = s.rd Od.txn_next_seq ∧ openTxn t h = none) ∧
    (∃ (s : State) (s1 : State) (w : Who) (v : Nat) (h : Nat) (x : TxnOpen), serves s = true ∧ w.port = 0 ∧ s.rd Od.od_port_kind 0 ≠ 0 ∧ w.reqid ≠ 0 ∧
    duplicateOf s w = none ∧ s1 = lbPending (s.count Od.od_port_hits 0) w.reqid ∧ checkItem s1 ⟨0, w.client, 0, false, false, none⟩ (entryItem
    Od.txn_rollback 0 v) = .ok ∧ closureFor s w = none ∧ lbTxn s = some h ∧ s.nvs.storing = none ∧ openTxn s h = some x ∧ x.committing = false ∧ ∃ t,
    exec (.lbTxnRollback w v) s = .next t ∧ openTxn t h = none) :=
  ⟨⟨{ st .run rights with mer := { descs := (List.range 7).map (fun k => ⟨k + 1, 1, 1, 1, 0, 0⟩) } }, client, 7, by decide +kernel,
    by decide +kernel, by decide +kernel, by decide +kernel, by decide +kernel, by decide +kernel, by decide +kernel, by decide +kernel,
    by decide +kernel, by decide +kernel, by decide +kernel, ⟨_, rfl, by decide +kernel⟩⟩,
    ⟨opened 255 7 [], touchTxn ((opened 255 7 []).count Od.od_port_hits 255) 8, client, 8, { handle := 8, staged := [⟨Od.ctl_sp, 5, 0x41200000⟩] },
    by decide +kernel, by decide +kernel, by decide +kernel, by decide +kernel, by decide +kernel, by decide +kernel, by decide +kernel,
    by decide +kernel, by decide +kernel, by decide +kernel, by decide +kernel, by decide +kernel, by decide +kernel, by decide +kernel, ⟨_, _, rfl,
    List.getLast_mem (by decide +kernel), by decide +kernel⟩⟩,
    ⟨{ opened 255 7 [] with mer := { descs := [⟨8, 255, 7, 1, 0, 0⟩], recs := [⟨1, 1, 2, 3, 4, 0, 8, false, 0, [], false, true, true, 0, 0⟩] } },
    client, 8, by decide +kernel, by decide +kernel, by decide +kernel, by decide +kernel, by decide +kernel, by decide +kernel, by decide +kernel,
    by decide +kernel, ⟨_, rfl, by decide +kernel⟩⟩,
    ⟨opened 255 7 [], client, 8, by decide +kernel, by decide +kernel, by decide +kernel, by decide +kernel, by decide +kernel, by decide +kernel,
    by decide +kernel, by decide +kernel, by decide +kernel, by decide +kernel, ⟨_, rfl, by decide +kernel⟩⟩,
    ⟨{ opened 255 7 [(Od.txn_timeout, 0, 30)] with now := 30000000000 }, 8, { handle := 8, staged := [⟨Od.ctl_sp, 5, 0x41200000⟩] },
    by decide +kernel, by decide +kernel, by decide +kernel, by decide +kernel, by decide +kernel, by decide +kernel, ⟨_, rfl, by decide +kernel⟩⟩,
    ⟨st .run rights, lbPending ((st .run rights).count Od.od_port_hits 0) 9, busClient, 1, 0, by decide +kernel, by decide +kernel, by decide +kernel,
    by decide +kernel, by decide +kernel, by decide +kernel, by decide +kernel, by decide +kernel, by decide +kernel, by decide +kernel,
    by decide +kernel, by decide +kernel, by decide +kernel, ⟨_, rfl, by decide +kernel⟩⟩,
    ⟨opened 0 0 [], lbPending ((opened 0 0 []).count Od.od_port_hits 0) 9, busClient, 1, 8, { handle := 8, staged := [⟨Od.ctl_sp, 5, 0x41200000⟩] },
    by decide +kernel, by decide +kernel, by decide +kernel, by decide +kernel, by decide +kernel, by decide +kernel, by decide +kernel,
    by decide +kernel, by decide +kernel, by decide +kernel, by decide +kernel, by decide +kernel, by decide +kernel, by decide +kernel,
    by decide +kernel, ⟨_, _, rfl, List.getLast_mem (by decide +kernel), by decide +kernel⟩⟩,
    ⟨opened 0 0 [], lbPending ((opened 0 0 []).count Od.od_port_hits 0) 9, busClient, 1, 8, { handle := 8, staged := [⟨Od.ctl_sp, 5, 0x41200000⟩] },
    by decide +kernel, by decide +kernel, by decide +kernel, by decide +kernel, by decide +kernel, by decide +kernel, by decide +kernel,
    by decide +kernel, by decide +kernel, by decide +kernel, by decide +kernel, by decide +kernel, ⟨_, rfl, by decide +kernel⟩⟩⟩

theorem witness_BacnetServices :
    (∃ (s : State) (s1 : State) (rx : RxInfo) (port : Nat) (n : Nat) (objType : Nat) (inst : Nat), s1 = bacCounted rx s ∧ bacPort rx s = some port ∧
    answerPorts s rx.toSource ≠ [] ∧ objType ≠ bacDEVICE ∧ bacPoint s1 objType inst = some n ∧ mayReadTenant s1 (tenantOf s1 port) (ptIndex n) = true
    ∧ ∃ t, exec (.bacnetReadProperty rx [(objType, inst, 85)]) s = .next t ∧ t.out = .bacValues port [.num (bacPv (ptKind s n) (s.rd (ptIndex n) 0))]
    :: s.out) ∧
    (∃ (s : State) (s1 : State) (rx : RxInfo) (port : Nat) (props : List (Nat × Nat × Nat)), s1 = bacCounted rx s ∧ bacPort rx s = some port ∧
    answerPorts s rx.toSource ≠ [] ∧ bacRoom rx < bacAnswerSize (props.map (fun p => (bacKind s1 p.1 p.2.1, p.2.2))) (bacReadAll port props s1).2 ∧ ∃
    t, exec (.bacnetReadProperty rx props) s = .next t ∧ t.out = .bacAbort port :: s.out) ∧
    (∃ (s : State) (s1 : State) (rx : RxInfo) (port : Nat) (n : Nat) (p : Nat) (r : BacWrite) (it : WItem), s1 = bacCounted rx s ∧ bacPort rx s = some
    port ∧ r.objType ≠ bacDEVICE ∧ bacPoint s1 r.objType r.inst = some n ∧ r.prop = bacPRESENT_VALUE ∧ r.typeOk = true ∧ r.priority = some p ∧ 1 ≤ p ∧
    p ≤ 16 ∧ it = entryItem (ptIndex n) p (bacWord (ptKind s1 n) r.value) ∧ (checkItems s1 ⟨port, 0, 0, false, true, none⟩ [] [it]).all (· == .ok) =
    true ∧ liveItems [it] ≠ [] ∧ s.nvs.storing = none ∧ acceptRefusal s1 (8 + itemsSize [it]) = .ok ∧ s.rd Od.txn_next_seq + 1 < 2 ^ 64 ∧ ∃ t x, exec
    (.bacnetWriteProperty rx [r]) s = .next t ∧ x ∈ t.mer.recs ∧ RecordOf s ⟨port, 0, 0, rx.toSource⟩ [it] x ∧ t.rd Od.txn_next_seq = s.rd
    Od.txn_next_seq + 1) ∧
    (∃ (s : State) (s1 : State) (rx : RxInfo) (port : Nat) (client : Nat) (process : Nat) (objType : Nat) (inst : Nat) (lifetime : Nat) (n : Nat)
    (confirmed : Bool), s1 = bacCounted rx s ∧ bacPort rx s = some port ∧ answerPorts s rx.toSource ≠ [] ∧ bacPoint s1 objType inst = some n ∧
    mayReadTenant s1 (tenantOf s1 port) (ptIndex n) = true ∧ lifetime ≤ 86400 ∧ s.pts.covs.length < 512 ∧ ∃ t c, exec (.bacnetSubscribeCov rx client
    process objType inst (some confirmed) lifetime) s = .next t ∧ c ∈ t.pts.covs ∧ sameSub client process objType inst c = true ∧ c.lifetime =
    lifetime ∧ t.out.head? = some (.bacCov port client process objType inst confirmed (s.rd (ptIndex n) 0) (ptFlags s1 n))) ∧
    (∃ (s : State) (rx : RxInfo) (port : Nat) (client : Nat) (process : Nat) (objType : Nat) (inst : Nat) (lifetime : Nat) (n : Nat), bacPort rx s =
    some port ∧ answerPorts s rx.toSource ≠ [] ∧ bacPoint (bacCounted rx s) objType inst = some n ∧ ∃ t, exec (.bacnetSubscribeCov rx client process
    objType inst none lifetime) s = .next t ∧ t.out = .bacAck port 0 :: s.out ∧ t.pts.covs = s.pts.covs.filter (fun c => !(sameSub client process
    objType inst c))) ∧
    (∃ (s : State) (client : Nat) (process : Nat) (objType : Nat) (inst : Nat), ∃ t, exec (.bacnetCovExpiry client process objType inst) s = .next t ∧
    t.od = s.od ∧ t.pts.covs.all (fun c => !(sameSub client process objType inst c) || c.lifetime == 0) = true) ∧
    (∃ (s : State) (rx : RxInfo) (port : Nat) (lo : Nat) (hi : Nat), bacPort rx s = some port ∧ answerPorts s rx.toSource ≠ [] ∧ lo ≤ s.rd
    Od.od_bacnet_dev ∧ s.rd Od.od_bacnet_dev ≤ hi ∧ ∃ t, exec (.bacnetWhoIs rx lo hi) s = .next t ∧ t.out = .bacIAm port (s.rd Od.od_bacnet_dev) (if
    rx.kind = 4 then 480 else 1476) :: s.out) ∧
    (∃ (s : State) (s1 : State) (rx : RxInfo) (range : Option (Nat × Nat)) (port : Nat) (objType : Nat) (inst : Nat) (n : Nat), s1 = bacCounted rx s ∧
    bacPort rx s = some port ∧ answerPorts s rx.toSource ≠ [] ∧ bacAsked s range = true ∧ objType ≠ bacDEVICE ∧ bacPoint s1 objType inst = some n ∧
    mayReadTenant s1 (tenantOf s1 port) (ptIndex n) = true ∧ ∃ t, exec (.bacnetWhoHas rx range (.object objType inst)) s = .next t ∧ t.out = .bacIHave
    port (s.rd Od.od_bacnet_dev) objType inst (bacName s n) :: s.out) ∧
    (∃ (s : State) (s1 : State) (rx : RxInfo) (range : Option (Nat × Nat)) (port : Nat) (n : Nat) (name : List Nat), s1 = bacCounted rx s ∧ bacPort rx
    s = some port ∧ answerPorts s rx.toSource ≠ [] ∧ bacAsked s range = true ∧ (usedPoints s1).find? (fun n => decide (1 ≤ ptKind s1 n) && decide
    (ptKind s1 n ≤ 9) && bacName s1 n == name) = some n ∧ mayReadTenant s1 (tenantOf s1 port) (ptIndex n) = true) ∧
    (∃ (s : State) (rx : RxInfo) (port : Nat) (invoke : Nat), bacPort rx s = some port ∧ answerPorts s rx.toSource ≠ [] ∧ ∃ t, exec
    (.bacnetUnsupportedService rx true invoke) s = .next t ∧ t.out = .bacReject port invoke :: s.out) ∧
    (∃ (s : State), bacOn s = true ∧ s.rd Od.od_bacnet_bbmd ≠ 0 ∧ maySend s 0 .traffic = true ∧ ∃ t, exec .bacnetFdRegistration s = .next t ∧ t.out =
    .bacRegister (s.rd Od.od_bacnet_bbmd) 300 :: s.out) :=
  ⟨⟨bacnet, bacCounted origin bacnet, origin, 255, 8191, 1, 3, by decide +kernel, by decide +kernel, by decide +kernel, by decide +kernel,
    by decide +kernel, by decide +kernel, ⟨_, rfl, by decide +kernel⟩⟩,
    ⟨bacnet, bacCounted origin bacnet, origin, 255, List.replicate 60 (1, 3, 87), rfl, by decide +kernel, by decide +kernel, by decide +kernel, ⟨_,
    rfl, by decide +kernel⟩⟩,
    ⟨bacnet, bacCounted origin bacnet, origin, 255, 8191, 16, ⟨1, 3, 85, some 16, some 0x41A00000, true⟩, entryItem (ptIndex 8191) 16 0x41A00000, rfl,
    by decide +kernel, by decide +kernel, by decide +kernel, by decide +kernel, by decide +kernel, by decide +kernel, by decide +kernel,
    by decide +kernel, by decide +kernel, by decide +kernel, by decide +kernel, by decide +kernel, by decide +kernel, by decide +kernel, ⟨_, _, rfl,
    List.getLast_mem (by decide +kernel), by unfold RecordOf; decide +kernel, by decide +kernel⟩⟩,
    ⟨bacnet, bacCounted origin bacnet, origin, 255, 7, 4, 1, 3, 86400, 8191, true, rfl, by decide +kernel, by decide +kernel, by decide +kernel,
    by decide +kernel, by decide +kernel, by decide +kernel, ⟨_, _, rfl, List.getLast_mem (by decide +kernel), by decide +kernel⟩⟩,
    ⟨{ bacnet with pts := { covs := [⟨255, 7, origin.toSource, 4, 1, 3, true, 60, 0, 0⟩] } }, origin, 255, 7, 4, 1, 3, 0, 8191, by decide +kernel,
    by decide +kernel, by decide +kernel, ⟨_, rfl, by decide +kernel⟩⟩,
    ⟨{ bacnet with pts := { covs := [⟨255, 7, origin.toSource, 4, 1, 3, true, 60, 0, 0⟩] } }, 7, 4, 1, 3, ⟨_, rfl, by decide +kernel⟩⟩,
    ⟨bacnet, origin, 255, 5, 5, by decide +kernel, by decide +kernel, by decide +kernel, by decide +kernel, ⟨_, rfl, by decide +kernel⟩⟩,
    ⟨bacnet, bacCounted origin bacnet, origin, some (5, 5), 255, 1, 3, 8191, rfl, by decide +kernel, by decide +kernel, by decide +kernel,
    by decide +kernel, by decide +kernel, by decide +kernel, ⟨_, rfl, by decide +kernel⟩⟩,
    ⟨bacnet, bacCounted origin bacnet, origin, none, 255, 8191, [80, 56, 49, 57, 49], rfl, by decide +kernel, by decide +kernel, by decide +kernel,
    by decide +kernel, by decide +kernel⟩,
    ⟨bacnet, origin, 255, 77, by decide +kernel, by decide +kernel, ⟨_, rfl, by decide +kernel⟩⟩,
    ⟨(((bacnet.wr Od.od_bacnet_bbmd 5).wr Od.net_link_state 2 0).wr Od.net_dot1x_state 3 0), by decide +kernel, by decide +kernel, by decide +kernel,
    ⟨_, rfl, by decide +kernel⟩⟩⟩

theorem witness_UndefinedIndicesAnswerNoSuchIndex :
    (∃ (s : State) (port : Nat) (staged : List ElemW) (c : Ctx) (it : WItem), entryDef? it.index = none ∧ it.count ≠ 0 ∧ readItem s port staged it =
    (.noSuchIndex, []) ∧ checkItem s c it = .noSuchIndex) ∧
    (∃ (i : Nat), (i < 0x1000 ∨ (0x6000 ≤ i ∧ i ≤ 0x7FFF) ∨ 0x8100 ≤ i) ∧ entryDef? i = none) ∧
    (∃ (s : State) (i : Nat) (e : Nat) (v : Nat) (c : Ctx), s.variant = .s ∧ 0x4800 ≤ i ∧ i ≤ 0x5FFF ∧ e < 18 ∧ (entryDef? i).isSome = true ∧ readElem
    s i e = 0 ∧ checkItem s c (entryItem i e v) = .wrongVariant) :=
  ⟨⟨State.reset, 255, [], ⟨255, 7, 0, false, false, none⟩, ⟨0x6000, 0, 1, 1, []⟩, by decide +kernel, by decide +kernel, by decide +kernel⟩,
    ⟨0x8100, by decide +kernel, by decide +kernel⟩,
    ⟨{ State.reset with variant := .s }, 0x5FFF, 17, 0, ⟨255, 7, 0, false, false, none⟩, by decide +kernel, by decide +kernel, by decide +kernel,
    by decide +kernel, by decide +kernel⟩⟩

theorem witness_ItemsPastTheElementsAreRefused :
    (∃ (s : State) (port : Nat) (staged : List ElemW) (c : Ctx) (it : WItem) (d : EntryDef), entryDef? it.index = some d ∧ it.count ≠ 0 ∧ d.nX <
    it.first + it.count ∧ readItem s port staged it = (.noSuchIndex, []) ∧ checkItem s c it = .noSuchIndex) ∧
    (∃ (s : State) (port : Nat) (k : Nat) (it : WItem) (d : EntryDef), entryDef? it.index = some d ∧ it.first + it.count ≤ d.nX ∧ d.acc ≠ .wo ∧
    mayReadTenant s (tenantOf s port) it.index = true ∧ it.ty = d.ty.code ∧ it.data = [] ∧ k < it.count ∧ absent s.variant d (it.first + k) = true ∧
    (readItem s port [] it).1 = .ok ∧ slice (readItem s port [] it).2 (k * d.ty.size) d.ty.size = List.replicate d.ty.size 0) ∧
    (∃ (s : State) (c : Ctx) (k : Nat) (it : WItem) (d : EntryDef), entryDef? it.index = some d ∧ it.first + it.count ≤ d.nX ∧ k < it.count ∧ absent
    s.variant d (it.first + k) = true ∧ checkItem s c it = .wrongVariant) :=
  ⟨⟨State.reset, 255, [], ⟨255, 7, 0, false, false, none⟩, ⟨Od.ctl_mode, 1023, 2, 2, [0, 0]⟩, (entryDef? Od.ctl_mode).get (by decide),
    by decide +kernel, by decide +kernel, by decide +kernel, by decide +kernel⟩,
    ⟨{ st .run rights with variant := .s }, 255, 1, ⟨Od.ctl_mode, 255, 2, 2, []⟩, (entryDef? Od.ctl_mode).get (by decide), by decide +kernel,
    by decide +kernel, by decide +kernel, by decide +kernel, by decide +kernel, by decide +kernel, by decide +kernel, by decide +kernel,
    by decide +kernel⟩,
    ⟨{ st .run rights with variant := .s }, ⟨255, 7, 0, false, false, none⟩, 1, ⟨Od.ctl_mode, 255, 2, 2, [0, 0]⟩, (entryDef? Od.ctl_mode).get (by
    decide), by decide +kernel, by decide +kernel, by decide +kernel, by decide +kernel, by decide +kernel⟩⟩

theorem witness_VariantsLackTheirFeatures :
    (∃ (s : State) (w : Who), s.variant = .s ∧ serves s = true ∧ w.port ≠ 0 ∧ w.port < 256 ∧ s.rd Od.od_port_kind w.port ≠ 0 ∧ w.reqid ≠ 0 ∧
    duplicateOf s w = none ∧ ∃ t items, exec (.modeRequest w 5) s = .next t ∧ t.mode = s.mode ∧ t.out.head? = some (.cop w (answerPorts s w.origin)
    opWRITE Status.wrongVariant.code 0 (degraded s) 0 items)) ∧
    (∃ (s : State) (w : Who) (v : Nat), s.variant = .x ∧ serves s = true ∧ w.port ≠ 0 ∧ w.port < 256 ∧ s.rd Od.od_port_kind w.port ≠ 0 ∧ w.reqid ≠ 0 ∧
    duplicateOf s w = none ∧ readElem s Od.net_downshift 0 = 0 ∧ ∃ t items, exec (.downshiftDisable w v) s = .next t ∧ t.mer = s.mer ∧ t.out.head? =
    some (.cop w (answerPorts s w.origin) opWRITE Status.wrongVariant.code 0 (degraded s) 0 items)) :=
  ⟨⟨{ st .run rights with variant := .s }, client, by decide +kernel, by decide +kernel, by decide +kernel, by decide +kernel, by decide +kernel,
    by decide +kernel, by decide +kernel, ⟨_, _, rfl, by decide +kernel, rfl⟩⟩,
    ⟨st .run rights, client, 1, by decide +kernel, by decide +kernel, by decide +kernel, by decide +kernel, by decide +kernel, by decide +kernel,
    by decide +kernel, ⟨by decide +kernel, _, _, rfl, by decide +kernel, rfl⟩⟩⟩

theorem witness_NonFiniteValuesAreRefused :
    ∃ (s : State) (c : Ctx) (i : Nat) (e : Nat) (v : Nat) (d : EntryDef), entryDef? i = some d ∧ d.ty = .f32 ∧ v < 2 ^ 32 ∧ finite32 v = false ∧
    (d.rng = .f32nan → isNaN32 v = false) ∧ e < d.nX ∧ absent s.variant d e = false ∧ (extraOf s c i e v).variant = false ∧ accOf d e ≠ .ro ∧
    mayWriteTenant s (tenantOf s c.port) i = true ∧ (extraOf s c i e v).denied = false ∧ (d.acc = .rwt → c.handle ≠ 0) ∧ (d.acc = .rwm → rwmMode s =
    true) ∧ (extraOf s c i e v).mode = false ∧ checkItem s c (entryItem i e v) = .outOfRange :=
  ⟨st .run rights, ⟨255, 7, 0, false, false, none⟩, Od.ctl_sp, 1023, 0x7F800000, (entryDef? Od.ctl_sp).get (by decide), by decide +kernel,
  by decide +kernel, by decide +kernel, by decide +kernel, by decide +kernel, by decide +kernel, by decide +kernel, by decide +kernel,
  by decide +kernel, by decide +kernel, by decide +kernel, by decide +kernel, by decide +kernel, by decide +kernel, by decide +kernel⟩

theorem witness_FaultsDegradeTheMode :
    (∃ (s : State) (b : Nat) (d : Nat), b < 16 ∧ s.rdBit Od.sys_health b = false ∧ s.sys.standbyEntry = false ∧ (raiseFault s b d).rdBit Od.sys_health
    b = true ∧ (raiseFault s b d).mode = (if s.mode = .run ∨ s.mode = .doze then .runDegraded else s.mode) ∧ (s.mode ≠ .run → s.mode ≠ .doze → s.mode
    ≠ .runDegraded → (readElem (raiseFault s b d) Od.sys_status 0).testBit 0 = true)) ∧
    (∃ (s : State) (b : Nat), b < 16 ∧ s.mode = .runDegraded ∧ s.rd Od.sys_health = 2 ^ b ∧ (clearFault s b).rd Od.sys_health = 0 ∧ (clearFault s
    b).mode = (if s.sys.degradedFrom = .doze then .doze else .run)) ∧
    (∃ (s : State) (initiator : Nat) (w : Nat) (address : Nat) (replays : List Nat) (cls : PageClass), (replays.take 3).any parityOk = true ∧ ∃ t,
    exec (.parityMismatch initiator w replays address cls) s = .next t ∧ t.rd Od.sys_health = s.rd Od.sys_health ∧ t.mode = s.mode) :=
  ⟨⟨st .maintenance [], 15, 3, by decide +kernel, by decide +kernel, by decide +kernel, by decide +kernel⟩,
    ⟨{ st .runDegraded [(Od.sys_health, 0, 2 ^ 15)] with sys := { degradedFrom := .doze } }, 15, by decide +kernel, by decide +kernel,
    by decide +kernel, by decide +kernel⟩,
    ⟨st .run [], 14, 0, 0, [0, 1, 0], .duplicated, by decide +kernel, ⟨_, rfl, by decide +kernel⟩⟩⟩

theorem witness_TheCalendarEnds :
    (∃ (s : State), s.rd Od.rtc_shift = 0 ∧ s.rd Od.rtc_subsec < 32768 ∧ 12622780799 ≤ s.rd Od.rtc_seconds ∧ s.rd Od.rtc_seconds + 1 < 2 ^ 64 ∧ ∃ t,
    exec .rtcSecondBoundary s = .next t ∧ t.rd Od.rtc_seconds = s.rd Od.rtc_seconds + 1 ∧ t.rd Od.rtc_cal_end = 1 ∧ readElem t Od.rtc_cal 0 = ofBytes
    [0x09, 0x5F, 12, 31, 23, 59, 59, 5] ∧ rtcTime t = (((s.rd Od.rtc_seconds : Int) + 1 + s.rdInt Od.rtc_tai_offset) * 1000000000).toNat % 2 ^ 64) ∧
    (∃ (s : State) (port : Nat) (client : Nat) (v : Nat), v ≤ 12622780799 ∧ (applyElem s port client s.crystal Od.rtc_seconds 0 v).rd Od.rtc_cal_end =
    0 ∧ (applyElem s port client s.crystal Od.rtc_seconds 0 v).rd Od.rtc_seconds = v) :=
  ⟨⟨st .run [(Od.rtc_seconds, 0, 12622780799)], by decide +kernel, by decide +kernel, by decide +kernel, by decide +kernel, ⟨_, rfl,
    by decide +kernel⟩⟩,
    ⟨st .run [(Od.rtc_cal_end, 0, 1)], 255, 7, 12622780799, by decide +kernel, by decide +kernel⟩⟩

theorem witness_StepTakesTheFrontCommand :
    ∃ (s : State) (c : Instr) (q : List Instr), s.pending = c :: q ∧ step s = exec c { s with pending := q } :=
  ⟨{ State.reset with pending := [.vaonSwitchBack, .commitTick] }, .vaonSwitchBack, [.commitTick], by decide +kernel, rfl⟩

theorem witness_EmptyQueueIsACrystalPeriod :
    ∃ (s : State), s.pending = [] ∧ s.rd Od.rtc_subsec < 32767 ∧ step s = .next ({ s with crystal := s.crystal + 1 }.wr Od.rtc_subsec (s.rd
    Od.rtc_subsec + 1)) :=
  ⟨st .run [(Od.rtc_subsec, 0, 32766)], by decide +kernel, by decide +kernel, congrArg Host.Outcome.next (by decide +kernel)⟩

theorem witness_CommandFrame :
    ∃ (c : Instr) (s : State) (t : State), exec c s = .next t :=
  ⟨.vaonSwitchBack, State.reset, { State.reset with rtc := {} }, rfl⟩

theorem witness_StepKeepsTheStoreCanonical :
    ∃ (s : State) (t : State), Canonical s ∧ step s = .next t :=
  ⟨{ st .run [(Od.ctl_mode, 1023, 2)] with pending := [.vaonSwitchBack] }, st .run [(Od.ctl_mode, 1023, 2)], by unfold Canonical; decide +kernel, rfl⟩

theorem witness_TheQueueDrains :
    ∃ (s : State) (q : List Instr) (r : List Instr), s.pending = q ++ r ∧ ∃ t, steps q.length s = some t ∧ t.pending = r :=
  ⟨{ State.reset with pending := [.vaonSwitchBack, .commitTick] }, [.vaonSwitchBack], [.commitTick], by decide +kernel, ⟨_, rfl, by decide +kernel⟩⟩

theorem witness_SamplesChangeTheirChannelAlone :
    ∃ (s : State) (t : State) (c : Nat) (a : Nat) (b : Nat) (m : Nat) (i : Nat) (e : Nat), e ≠ c ∧ i ≠ Od.rec_dropped ∧ (exec (.analogueSample c a b
    m) s = .next t ∨ exec (.channelFirstSample c a m) s = .next t) ∧ t.rd i e = s.rd i e :=
  ⟨st .run [(Od.ana_mode, 31, 1), (Od.ana_status, 31, 0)], analogueSample 31 0x41200000 0 0 (st .run [(Od.ana_mode, 31, 1), (Od.ana_status, 31, 0)]),
  31, 0x41200000, 0, 0, Od.ana_meas, 30, by decide +kernel, by decide +kernel, .inl rfl, by decide +kernel⟩

end Sys2Proof.Tests
end

/-!
## The canonical store: at reset and over every step

What each command may change is known operation by operation (`Laws/Frame*`); `exec_within` gathers these frames into the frame of every
command, and `crystalTick_within` is that of the step with no command waiting.
-/
namespace Sys2Proof.Proofs

open Sys2Proof.Machine Sys2Proof.Safety Sys2Proof.Laws

/-! ### Reset (R12) -/

/-- Settles O55: the store after reset lists no cell. -/
theorem resetState : Obligations.ResetState :=
  ⟨rfl, rfl, rfl, rfl, fun _ _ => rfl⟩

/-! ### What a step may change -/

/-- A meaning that is one operation stays within any wider frame. -/
theorem within_of_next {w w' : Option (List Nat)} {ps ps' : List Part} {s t u : State} (h : Within w ps s u)
    (he : (.next u : StepOut) = .next t) (hw : subEntries w w' = true := by rfl) (hp : ps.all ps'.contains = true := by rfl) :
    Within w' ps' s t := by
  cases he
  exact h.mono hw hp

/-- A meaning that is one operation `h` and then another, `h'`, stays within any frame wider than both. -/
theorem within_of_next_after {w₁ w₂ w' : Option (List Nat)} {ps₁ ps₂ ps' : List Part} {s t u v : State} (h' : Within w₂ ps₂ u v)
    (h : Within w₁ ps₁ s u) (he : (.next v : StepOut) = .next t) (hw₁ : subEntries w₁ w' = true := by rfl)
    (hp₁ : ps₁.all ps'.contains = true := by rfl) (hw₂ : subEntries w₂ w' = true := by rfl)
    (hp₂ : ps₂.all ps'.contains = true := by rfl) : Within w' ps' s t := by
  cases he
  exact .after h' hw₂ hp₂ (h.mono hw₁ hp₁)

/-- The frame of every command: nothing changes but the entries of `mayWrite` and the parts of `mayChange`. -/
theorem exec_within (c : Instr) (s t : State) (h : exec c s = .next t) : Within (mayWrite c) (mayChange c) s t := by
  cases c with
  | holdTestCmd | modeRequest | faultRetestCmd | trendDumpCmd | lbTxnBegin | lbTxnCommit | lbTxnRollback | txStartWrite
  | speedMaxWrite | downshiftDisable | pseResetCmd | bspEnableWrite | anaOutWrite | hartPassthroughReq | calStepNow
  | calRunClear | pulseConstWrite | vbatClear | captureCmd | softSetpointWrite | ctlModeWrite | repMemoryClear | motTargetWrite
  | referenceCmd | learnRunCmd | liftFaultReset | liftCall | safAck | safUcmAck | safHoldExit | programRunWrite | stageCheckCmd
  | programExchange | rtcSecondsWrite | rtcCalWrite | rtcShiftWrite | storeCmd | recReadRequest | recDump | recClear | updBegin
  | updBlock | updVerify | updActivate | updHealthOk | keyReplace => exact within_of_next (writeEntry_within ..) h
  | copRead | copWrite | copDescribe | txnBegin | txnCommit | txnRollback | entryWrite => exact within_of_next (request_within ..) h
  | powerOnReset => exact within_of_next (powerOnReset_within ..) h
  | bootEnd => exact within_of_next (bootEnd_within ..) h
  | powerFail => exact within_of_next (powerFail_within ..) h
  | internalRailFault => exact within_of_next (internalRailFault_within ..) h
  | vmainReturnInHoldup => exact within_of_next (vmainReturnInHoldup_within ..) h
  | holdupStoreComplete => exact within_of_next (holdupStoreComplete_within ..) h
  | standbyVmainFail => exact within_of_next (standbyVmainFail_within ..) h
  | watchdogReset => exact within_of_next (watchdogReset_within ..) h
  | softwareReset => exact within_of_next (softwareReset_within ..) h
  | mprCommand => exact within_of_next (mprCommand_within ..) h
  | appWatchdogExpiry => exact within_of_next (appWatchdogExpiry_within ..) h
  | mprComplete => exact within_of_next (mprComplete_within ..) h
  | actReset => exact within_of_next (actReset_within ..) h
  | mpRestart => exact within_of_next (mpRestart_within ..) h
  | reservoirCharged => exact within_of_next (reservoirCharged_within ..) h
  | reservoirChargeTimeout => exact within_of_next (reservoirChargeTimeout_within ..) h
  | reservoirChargeRetry => exact within_of_next (reservoirChargeRetry_within ..) h
  | hourlyHoldTest => exact within_of_next (hourlyHoldTest_within ..) h
  | holdTestComplete => exact within_of_next (holdTestComplete_within ..) h
  | modeTransitionStart => exact within_of_next (modeTransitionStart_within ..) h
  | standbyEntryComplete => exact within_of_next (standbyEntryComplete_within ..) h
  | wakePin => exact within_of_next (wakePin_within ..) h
  | wakeTimed => exact within_of_next (wakeTimed_within ..) h
  | wakePatternMatch => exact within_of_next (wakePatternMatch_within ..) h
  | parityMismatch => exact within_of_next (parityMismatch_within ..) h
  | dramPageRetireComplete => exact within_of_next (dramPageRetireComplete_within ..) h
  | fabricAccessRefused => exact within_of_next (fabricAccessRefused_within ..) h
  | faultRetestComplete => exact within_of_next (faultRetestComplete_within ..) h
  | clockStart => exact within_of_next (clockStart_within ..) h
  | clockGate => exact within_of_next (clockGate_within ..) h
  | mpFrame => exact within_of_next (mpFrame_within ..) h
  | mpLoadUpdate => exact within_of_next (mpLoadUpdate_within ..) h
  | trendSample => exact within_of_next (trendSample_within ..) h
  | trendArchiveMove => exact within_of_next (trendArchiveMove_within ..) h
  | trendTransferComplete => exact within_of_next (trendTransferComplete_within ..) h
  | copDatagramRx => exact within_of_next (copDatagramRx_within ..) h
  | commitTick => exact within_of_next (commitTick_within ..) h
  | responseTimeout => exact within_of_next (responseTimeout_within ..) h
  | txnIdleTimeout => exact within_of_next (txnIdleTimeout_within ..) h
  | pointScan => exact within_of_next (pointScan_within ..) h
  | bacnetReadProperty => exact within_of_next (bacnetReadProperty_within ..) h
  | bacnetWriteProperty => exact within_of_next (bacnetWriteProperty_within ..) h
  | bacnetCovExpiry => exact within_of_next (bacnetCovExpiry_within ..) h
  | bacnetWhoIs => exact within_of_next (bacnetWhoIs_within ..) h
  | bacnetWhoHas => exact within_of_next (bacnetWhoHas_within ..) h
  | bacnetUnsupportedService => exact within_of_next (bacnetUnsupportedService_within ..) h
  | bacnetFdRegistration => exact within_of_next (bacnetFdRegistration_within ..) h
  | eapolStartRepeat => exact within_of_next (eapolStartRepeat_within ..) h
  | eapolFrameRx => exact within_of_next (eapolFrameRx_within ..) h
  | dot1xExchangeTimeout => exact within_of_next (dot1xExchangeTimeout_within ..) h
  | dot1xHoldEnd => exact within_of_next (dot1xHoldEnd_within ..) h
  | commissionAdmission => exact within_of_next (commissionAdmission_within ..) h
  | uplinkLinkUp => exact within_of_next (uplinkLinkUp_within ..) h
  | uplinkLinkDown => exact within_of_next (uplinkLinkDown_within ..) h
  | prpSilenceTimeout => exact within_of_next (prpSilenceTimeout_within ..) h
  | uplinkFaultClear => exact within_of_next (uplinkFaultClear_within ..) h
  | uplinkFrameRx => exact within_of_next (uplinkFrameRx_within ..) h
  | prpForgetExpiry => exact within_of_next (prpForgetExpiry_within ..) h
  | prpSupervisionTx => exact within_of_next (prpSupervisionTx_within ..) h
  | proxyEntryAgeout => exact within_of_next (proxyEntryAgeout_within ..) h
  | txFrameStart => exact within_of_next (txFrameStart_within ..) h
  | txUnderrun => exact within_of_next (txUnderrun_within ..) h
  | ptpMessageRx => exact within_of_next (ptpMessageRx_within ..) h
  | ptpAnnounceTimeout => exact within_of_next (ptpAnnounceTimeout_within ..) h
  | mkaSecured => exact within_of_next (mkaSecured_within ..) h
  | mkaRetry => exact within_of_next (mkaRetry_within ..) h
  | mkaBRestartTimeout => exact within_of_next (mkaBRestartTimeout_within ..) h
  | standbyLinkRetry => exact within_of_next (standbyLinkRetry_within ..) h
  | downshiftWindow => exact within_of_next (downshiftWindow_within ..) h
  | speedShiftEnd => exact within_of_next (speedShiftEnd_within ..) h
  | mkaFailed => exact within_of_next (mkaFailed_within ..) h
  | fieldFrameRx => exact within_of_next (fieldFrameRx_within ..) h
  | bcastWindowReset => exact within_of_next (bcastWindowReset_within ..) h
  | pseStart => exact within_of_next (pseStart_within ..) h
  | pseCheckRepeat => exact within_of_next (pseCheckRepeat_within ..) h
  | pseClassificationDone => exact within_of_next (pseClassificationDone_within ..) h
  | psePowerGoodCheck => exact within_of_next (psePowerGoodCheck_within ..) h
  | pseOvercurrentTrip => exact within_of_next (pseOvercurrentTrip_within ..) h
  | pseOverload => exact within_of_next (pseOverload_within ..) h
  | pseUndervoltage => exact within_of_next (pseUndervoltage_within ..) h
  | pseDisconnect => exact within_of_next (pseDisconnect_within ..) h
  | fieldPwrOutOfRange => exact within_of_next (fieldPwrOutOfRange_within ..) h
  | fieldPwrRecovered => exact within_of_next (fieldPwrRecovered_within ..) h
  | pseFaultRetry => exact within_of_next (pseFaultRetry_within ..) h
  | pseInputOverBudget => exact within_of_next (pseInputOverBudget_within ..) h
  | plcaCycle => exact within_of_next (plcaCycle_within ..) h
  | t1sForeignBeacon => exact within_of_next (t1sForeignBeacon_within ..) h
  | t1sForeignClear => exact within_of_next (t1sForeignClear_within ..) h
  | t1sCollision => exact within_of_next (t1sCollision_within ..) h
  | t1sJabber => exact within_of_next (t1sJabber_within ..) h
  | t1sMediumStuck => exact within_of_next (t1sMediumStuck_within ..) h
  | t1sBeaconRestart => exact within_of_next (t1sBeaconRestart_within ..) h
  | mstpToken => exact within_of_next (mstpToken_within ..) h
  | mstpTokenLoss => exact within_of_next (mstpTokenLoss_within ..) h
  | mstpFrameRx => exact within_of_next (mstpFrameRx_within ..) h
  | mstpDupClear => exact within_of_next (mstpDupClear_within ..) h
  | modbusPollDue => exact within_of_next (modbusPollDue_within ..) h
  | modbusReplyRx => exact within_of_next (modbusReplyRx_within ..) h
  | modbusReplyTimeout => exact within_of_next (modbusReplyTimeout_within ..) h
  | modbusOutChange => exact within_of_next (modbusOutChange_within ..) h
  | rs485BusFault => exact within_of_next (rs485BusFault_within ..) h
  | rs485BusIdle => exact within_of_next (rs485BusIdle_within ..) h
  | t1lLinkUp => exact within_of_next (t1lLinkUp_within ..) h
  | t1lLinkDown => exact within_of_next (t1lLinkDown_within ..) h
  | plcaPresenceAgeout => exact within_of_next (plcaPresenceAgeout_within ..) h
  | mstpMasterAgeout => exact within_of_next (mstpMasterAgeout_within ..) h
  | lbPostedWrite => exact within_of_next (lbPostedWrite_within ..) h
  | lbwGo => exact within_of_next (lbwGo_within ..) h
  | lbwDoneRead => exact within_of_next (lbwDoneRead_within ..) h
  | waferRefresh => exact within_of_next (waferRefresh_within ..) h
  | bspTrain => exact within_of_next (bspTrain_within ..) h
  | bspAligned => exact within_of_next (bspAligned_within ..) h
  | bspRetrain => exact within_of_next (bspRetrain_within ..) h
  | bspFrameRx => exact within_of_next (bspFrameRx_within ..) h
  | bspCreditRx => exact within_of_next (bspCreditRx_within ..) h
  | bspCreditTimeout => exact within_of_next (bspCreditTimeout_within ..) h
  | analogueSample => exact within_of_next (analogueSample_within ..) h
  | channelFirstSample => exact within_of_next (channelFirstSample_within ..) h
  | anaConditionChange => exact within_of_next (anaConditionChange_within ..) h
  | complianceSet => exact within_of_next (complianceSet_within ..) h
  | complianceClear => exact within_of_next (complianceClear_within ..) h
  | miswireDetect => exact within_of_next (miswireDetect_within ..) h
  | miswireClear => exact within_of_next (miswireClear_within ..) h
  | hartIdentify => exact within_of_next (hartIdentify_within ..) h
  | hartIdentifyRetry => exact within_of_next (hartIdentifyRetry_within ..) h
  | hartModemVisit => exact within_of_next (hartModemVisit_within ..) h
  | hartReplyRx => exact within_of_next (hartReplyRx_within ..) h
  | hartReplyTimeout => exact within_of_next (hartReplyTimeout_within ..) h
  | referenceCompare => exact within_of_next (referenceCompare_within ..) h
  | turnoverStepDue => exact within_of_next (turnoverStepDue_within ..) h
  | spareCalibrationDone => exact within_of_next (spareCalibrationDone_within ..) h
  | turnoverCheckEnd => exact within_of_next (turnoverCheckEnd_within ..) h
  | checkRepeat => exact within_of_next (checkRepeat_within ..) h
  | crossFadeStart => exact within_of_next (crossFadeStart_within ..) h
  | crossFadeEnd => exact within_of_next (crossFadeEnd_within ..) h
  | releasedCalibrationDone => exact within_of_next (releasedCalibrationDone_within ..) h
  | liveConverterFailure => exact within_of_next (liveConverterFailure_within ..) h
  | lineCycleEnd => exact within_of_next_after (settle_within _) (lineCycleEnd_within ..) h
  | voltageLoss => exact within_of_next (voltageLoss_within ..) h
  | intervalBoundary => exact within_of_next (intervalBoundary_within ..) h
  | pulseStart => exact within_of_next (pulseStart_within ..) h
  | pulseEnd => exact within_of_next (pulseEnd_within ..) h
  | captureStart => exact within_of_next (captureStart_within ..) h
  | captureComplete => exact within_of_next (captureComplete_within ..) h
  | timedLineCycleEnd => exact within_of_next_after (settle_within _) (timedLineCycleEnd_within ..) h
  | loopSample => exact within_of_next (loopSampleAll_within ..) h
  | selfCheckDone => exact within_of_next (selfCheckAll_within ..) h
  | engineResyncComplete => exact within_of_next (engineResynced_within ..) h
  | motionTick => exact within_of_next (motionTickAll_within ..) h
  | stepPulse => exact within_of_next (stepPulseAll_within ..) h
  | idleCurrentReduce => exact within_of_next (idleCurrentReduce_within ..) h
  | referenceSettled => exact within_of_next (referenceSettled_within ..) h
  | referenceBackoffDone => exact within_of_next (referenceBackoffDone_within ..) h
  | switchEdgeLatch => exact within_of_next (switchEdgeLatch_within ..) h
  | encoderIllegalTransition => exact within_of_next (encoderIllegalTransition_within ..) h
  | encoderEdgeCount => exact within_of_next (encoderEdgeCount_within ..) h
  | liftCycle => exact within_of_next_after (settle_within _) (liftCycle_within ..) h
  | driveStatusFrameRx => exact within_of_next (driveStatusFrameRx_within ..) h
  | driveLinkLost => exact within_of_next (driveLinkLost_within ..) h
  | driveLinkRestored => exact within_of_next (driveLinkRestored_within ..) h
  | magnetiseTimeout => exact within_of_next (magnetiseTimeout_within ..) h
  | brakeOpenTimeout => exact within_of_next (brakeOpenTimeout_within ..) h
  | followingError => exact within_of_next (followingError_within ..) h
  | brakeReleaseDelay => exact within_of_next (brakeReleaseDelay_within ..) h
  | learnRunEnd => exact within_of_next (learnRunEnd_within ..) h
  | relevelStart => exact within_of_next (relevelStart_within ..) h
  | liftStatusPublish => exact within_of_next (liftStatusPublish_within ..) h
  | parkTimeout => exact within_of_next (parkTimeout_within ..) h
  | doorDwellExpiry => exact within_of_next (doorDwellExpiry_within ..) h
  | nudgeTimeout => exact within_of_next (nudgeTimeout_within ..) h
  | blockedOpeningRetry => exact within_of_next (blockedOpeningRetry_within ..) h
  | islandCycle => exact within_of_next_after (holdIfTripped_within _) (islandCycle_within ..) h
  | inputTestPulse => exact within_of_next_after (holdIfTripped_within _) (inputTestPulse_within ..) h
  | outputTestPulse => exact within_of_next_after (holdIfTripped_within _) (outputTestPulse_within ..) h
  | outputOverload => exact within_of_next_after (holdIfTripped_within _) (outputOverload_within ..) h
  | macaronProducerSend => exact within_of_next_after (holdIfTripped_within _) (macaronProducerSend_within ..) h
  | macaronCopyRx => exact within_of_next_after (holdIfTripped_within _) (macaronCopyRx_within ..) h
  | macaronSkewExpiry => exact within_of_next_after (holdIfTripped_within _) (macaronSkewExpiry_within ..) h
  | macaronWatchdog => exact within_of_next_after (holdIfTripped_within _) (macaronWatchdog_within ..) h
  | programCycleStart => exact within_of_next (programCycleStart_within ..) h
  | programCycleEnd => exact within_of_next_after (settle_within _) (programCycleEnd_within ..) h
  | programOverrun => exact within_of_next_after (settle_within _) (programOverrun_within ..) h
  | overrunWarnClear => exact within_of_next (overrunWarnClear_within ..) h
  | programTrap => exact within_of_next_after (settle_within _) (programTrap_within ..) h
  | stageCheckDone => exact within_of_next (stageCheckDone_within ..) h
  | rtcSecondBoundary => exact within_of_next (rtcSecondBoundary_within ..) h
  | rtcSyncCompare => exact within_of_next (rtcSyncCompare_within ..) h
  | vbatSwitchOver => exact within_of_next (vbatSwitchOver_within ..) h
  | vaonSwitchBack => exact within_of_next (vaonSwitchBack_within ..) h
  | vbatMeasure => exact within_of_next (vbatMeasure_within ..) h
  | backupDomainBrownout => exact within_of_next (backupDomainBrownout_within ..) h
  | storeStart => exact within_of_next (storeStart_within ..) h
  | storeComplete => exact within_of_next (storeReleased_within ..) h
  | allowanceReplenish => exact within_of_next (allowanceReplenish_within ..) h
  | recorderFlush => exact within_of_next (recorderFlush_within ..) h
  | recordMove => exact within_of_next (recordMove_within ..) h
  | recContextExpiry => exact within_of_next (recContextExpiry_within ..) h
  | recDumpEraseTimeout => exact within_of_next (recDumpEraseTimeout_within ..) h
  | recDumpComplete => exact within_of_next (recDumpComplete_within ..) h
  | recClearApply => exact within_of_next_after (settle_within _) (recClearApply_within ..) h
  | blockProgrammed => exact within_of_next (blockProgrammed_within ..) h
  | bspImageBlock => exact within_of_next (bspImageBlock_within ..) h
  | verifyComplete => exact within_of_next (verifyComplete_within ..) h
  | probationExpiry => exact within_of_next (probationExpiry_within ..) h
  | vmainMeasure => exact within_of_next (vmainMeasure_within ..) h
  | vsafeLow => exact within_of_next (vsafeFell_within ..) h
  | vsafeRecover => exact within_of_next (vsafeRecovered_within ..) h
  | tempMeasure => exact within_of_next (tempMeasure_within ..) h
  | bacnetSubscribeCov => exact within_of_next (bacnetSubscribeCov_within ..) h

/-- A step takes the command at the front of the queue, or, with none waiting, one period of the crystal passes. -/
theorem step_next_cases {s t : State} (h : step s = .next t) :
    (∃ c q, s.pending = c :: q ∧ exec c { s with pending := q } = .next t) ∨ (s.pending = [] ∧ t = crystalTick s) := by
  unfold step at h
  split at h
  next c q hq => exact .inl ⟨c, q, hq, h⟩
  next hq =>
    cases h
    exact .inr ⟨hq, rfl⟩

/-- Settles O54, by the frame of every command and that of the crystal's period. -/
theorem stepKeepsTheStoreCanonical : Obligations.StepKeepsTheStoreCanonical := by
  intro s t hs h
  obtain ⟨c, q, -, h⟩ | ⟨-, rfl⟩ := step_next_cases h
  · have hf := exec_within c _ t h
    exact ⟨hf.canonical hs, hf.variant⟩
  · have hf := crystalTick_within s
    exact ⟨hf.canonical hs, hf.variant⟩

end Sys2Proof.Proofs

/-!
## The dictionary: which indices are defined, and the checks of one item (R3, R6, R9, R11)
-/
namespace Sys2Proof.Proofs

open Sys2Proof.Machine Sys2Proof.Laws

/-! ### Undefined indices, and the points of S (R6, R80) -/

/-- The dictionary has rows on the pages 0x10 to 0x38 alone. -/
theorem catPage_eq_nil {p : Nat} (h : p < 0x10 ∨ 0x38 < p) : catPage p = [] := by
  unfold catPage
  split
  case h_20 => rfl
  all_goals omega

/-- R6: the ranges that no module defines. -/
theorem entryDef?_eq_none {i : Nat} (h : i < 0x1000 ∨ (0x6000 ≤ i ∧ i ≤ 0x7FFF) ∨ 0x8100 ≤ i) : entryDef? i = none := by
  have hp : i / 256 < 0x10 ∨ 0x38 < i / 256 := by omega
  rw [entryDef?, if_neg (by omega), if_neg (by omega), catPage_eq_nil hp, List.find?_nil]

/-- The row of a point that S lacks. -/
theorem entryDef?_point_high {i : Nat} (h : 0x4800 ≤ i) (h' : i ≤ 0x5FFF) :
    entryDef? i = some ⟨i, .f32, .rw, .N, 18, 0, 0, 0, .f32nan⟩ := by
  rw [entryDef?, if_pos (by omega), if_neg (by omega)]

/-- No element from 0x2800 on is one that a bare count does not describe. -/
theorem absentSpecial_eq_none {i e : Nat} (h : 0x2800 ≤ i) : absentSpecial i e = none := by
  unfold absentSpecial
  simp only [Od.nrg_delay, Od.nrg_pmax, Od.nrg_max_read, Od.nrg_pnet, Od.nrg_pulse_const, Od.nrg_pulse_stamp]
  repeat rw [if_neg (by omega)]

theorem absent_point_high {i e : Nat} (h : 0x4800 ≤ i) : absent .s ⟨i, .f32, .rw, .N, 18, 0, 0, 0, .f32nan⟩ e = true := by
  simp [absent, absentSpecial_eq_none (e := e) (show 0x2800 ≤ i by omega)]

theorem readElem_absent {s : State} {i e : Nat} {d : EntryDef} (hd : entryDef? i = some d) (ha : absent s.variant d e = true) :
    readElem s i e = 0 := by
  simp [readElem, hd, ha]

theorem readItem_undefined (s : State) (port : Nat) (staged : List ElemW) {it : WItem} (hd : entryDef? it.index = none) :
    readItem s port staged it = (.noSuchIndex, []) := by
  simp [readItem, hd]

theorem checkItem_undefined (s : State) (c : Ctx) {it : WItem} (hd : entryDef? it.index = none) (hc : it.count ≠ 0) :
    checkItem s c it = .noSuchIndex := by
  simp [checkItem, hd, hc]

/-! ### The checks of an item of one element -/

theorem length_beBytes (n v : Nat) : (beBytes n v).length = n := by
  induction n with
  | zero => rfl
  | succ n ih => simp [beBytes, ih]

/-- Reading the bytes of a value after a number shifts that number up and adds the value, cut to its bytes. -/
theorem foldl_beBytes (n v a : Nat) :
    (beBytes n v).foldl (fun a b => a * 256 + b % 256) a = a * 256 ^ n + v % 256 ^ n := by
  induction n generalizing a with
  | zero => simp [beBytes, Nat.mod_one]
  | succ n ih =>
    have hs : v >>> (8 * n) = v / 256 ^ n := by rw [Nat.shiftRight_eq_div_pow, Nat.pow_mul]
    rw [beBytes, List.foldl_cons, ih, hs, Nat.mod_mod, Nat.mod_pow_succ]
    ring

theorem itemVal_beBytes (n v : Nat) : itemVal n 0 (beBytes n v) = v % 256 ^ n := by
  rw [itemVal, slice, Nat.zero_mul, List.drop_zero, List.take_of_length_le (length_beBytes n v).le, ofBytes, foldl_beBytes,
    Nat.zero_mul, Nat.zero_add]

theorem entryItem_of_def {i e v : Nat} {d : EntryDef} (hd : entryDef? i = some d) :
    entryItem i e v = ⟨i, e, 1, d.ty.code, beBytes d.ty.size v⟩ := by
  simp [entryItem, hd]

/-- The checks of R11 on the item that writes the value `v` to element `e`, in their order. -/
theorem checkItem_entryItem (s : State) (c : Ctx) {i e v : Nat} {d : EntryDef} (hd : entryDef? i = some d)
    (hv : v < 256 ^ d.ty.size) :
    checkItem s c (entryItem i e v) =
      if d.nX < e + 1 then .noSuchIndex
      else if absent s.variant d e || (extraOf s c i e v).variant then .wrongVariant
      else if !c.recheck && (accOf d e == .ro || !(mayWriteTenant s (tenantOf s c.port) i || coreRetest s c.port i v) ||
        (extraOf s c i e v).denied) then .accessDenied
      else if d.acc == .rwt && c.handle == 0 && !c.recheck && !c.bacnet then .needsTxn
      else if (d.acc == .rwm && !(rwmMode s) && !coreRetest s c.port i v) || (extraOf s c i e v).mode then .wrongMode
      else if !(rngOk d.ty d.rng v) || (extraOf s c i e v).range || (c.handle != 0 && decide (4 ≤ entryKind i)) then .outOfRange
      else firstBad [(extraOf s c i e v).late] := by
  have he : itemElems d.ty.size ⟨i, e, 1, d.ty.code, beBytes d.ty.size v⟩ = [(e, v)] := by
    simp [itemElems, itemVal_beBytes, Nat.mod_eq_of_lt hv]
  rw [entryItem_of_def hd, checkItem, if_neg Nat.one_ne_zero]
  simp only [hd, he]
  simp [length_beBytes]

/-- An item that covers an element which the variant lacks, or which a chapter refuses for the variant, is refused whole (R67). -/
theorem checkItem_wrongVariant (s : State) (c : Ctx) {it : WItem} {d : EntryDef} {k : Nat} (hd : entryDef? it.index = some d)
    (hn : it.first + it.count ≤ d.nX) (hk : k < it.count)
    (ha : absent s.variant d (it.first + k) = true ∨
      (extraOf s c it.index (it.first + k) (itemVal d.ty.size k it.data)).variant = true) :
    checkItem s c it = .wrongVariant := by
  have hmem : (it.first + k, itemVal d.ty.size k it.data) ∈ itemElems d.ty.size it :=
    List.mem_map_of_mem (List.mem_range.mpr hk)
  rw [checkItem, if_neg (by omega)]
  simp only [hd]
  rw [if_neg (by omega), if_pos]
  rw [Bool.or_eq_true, List.any_eq_true, List.any_map, List.any_eq_true]
  exact ha.imp (⟨_, hmem, ·⟩) (⟨_, hmem, ·⟩)

theorem checkItem_entryItem_wrongVariant (s : State) (c : Ctx) {i e v : Nat} {d : EntryDef} (hd : entryDef? i = some d)
    (he : e < d.nX) (ha : absent s.variant d e = true ∨ (extraOf s c i e (v % 256 ^ d.ty.size)).variant = true) :
    checkItem s c (entryItem i e v) = .wrongVariant := by
  rw [entryItem_of_def hd]
  exact checkItem_wrongVariant s c (k := 0) hd he Nat.one_pos (by simpa [itemVal_beBytes] using ha)

/-- Settles O44: an undefined index fails the first check of both requests; the pages of the named ranges hold no rows; the points of S from
0x4800 on have a row without elements on S. -/
theorem undefinedIndicesAnswerNoSuchIndex : Obligations.UndefinedIndicesAnswerNoSuchIndex := by
  refine ⟨fun s port staged c it hd hc => ⟨readItem_undefined s port staged hd, checkItem_undefined s c hd hc⟩,
    fun i => entryDef?_eq_none, fun s i e v c hs hlo hhi he => ?_⟩
  have hd := entryDef?_point_high hlo hhi
  have ha := hs ▸ absent_point_high (e := e) hlo
  exact ⟨by rw [hd]; rfl, readElem_absent hd ha, checkItem_entryItem_wrongVariant s c hd he (.inl ha)⟩

/-! ### Values that are not finite (R9) -/

/-- An F32 value that is not finite lies in no range but one that admits NaN, and there only as a NaN. -/
theorem rngOk_not_finite {r : Rng} {v : Nat} (hf : finite32 v = false) (hn : r = .f32nan → isNaN32 v = false) :
    rngOk .f32 r v = false := by
  unfold rngOk
  cases r
  case f32nan => simp [hf, hn rfl]
  all_goals simp [hf]

/-- Settles O47: with the checks before it passed, the range check of R11 finds the value. -/
theorem nonFiniteValuesAreRefused : Obligations.NonFiniteValuesAreRefused := by
  intro s c i e v d hd hty hv hfin hnan he habs hvar hro hten hden hrwt hrwm hmode
  have hr : rngOk d.ty d.rng v = false := hty ▸ rngOk_not_finite hfin hnan
  rw [checkItem_entryItem s c hd (by rw [hty]; exact hv)]
  have h1 : ¬d.nX < e + 1 := by omega
  have h4 : (d.acc == .rwt && c.handle == 0) = false := by
    rw [Bool.and_eq_false_imp]
    exact fun h => beq_false_of_ne (hrwt (by simpa using h))
  have h5 : (d.acc == .rwm && !rwmMode s) = false := by
    rw [Bool.and_eq_false_imp]
    exact fun h => by simp [hrwm (by simpa using h)]
  simp [h1, habs, hvar, hro, hten, hden, h4, h5, hmode, hr]

end Sys2Proof.Proofs

/-!
## A WRITE that its checks refuse (R3, R69)

A WRITE of one entry that reaches the object service is counted for its port and goes to the checks of its item; refused there, its one effect is
its answer.
-/
namespace Sys2Proof.Proofs

open Sys2Proof.Machine Sys2Proof.Safety Sys2Proof.Laws

/-! ### What an answer shows -/

/-- The entries that decide on which ports an answer leaves. -/
def answerPortEntries : List Nat := [Od.net_mode, Od.net_link_state, Od.net_dot1x_state, Od.net_macsec, Od.net_macsec_state]

/-- An answer leaves on the same ports after anything that touches neither these entries nor the uplinks. -/
theorem answerPorts_of_within {w : Option (List Nat)} {ps : List Part} {s t : State} (h : Within w ps s t) (o : Source)
    (hw : answerPortEntries.any (admits w) = false := by rfl) (hp : ps.contains .net = false := by rfl) :
    answerPorts t o = answerPorts s o := by
  have hrd : ∀ i ∈ answerPortEntries, ∀ e, t.rd i e = s.rd i e := fun i hi e => h.entries i e (by simpa using List.any_eq_false.mp hw i hi)
  simp only [answerPortEntries, List.forall_mem_cons] at hrd
  obtain ⟨hmode, hlink, hdot1x, hmacsec, hstate, -⟩ := hrd
  have hnet : t.net = s.net := h.parts .net hp
  have hprp : prp t = prp s := by simp only [prp, hmode]
  have hsecure : ∀ u, secureEnough t u = secureEnough s u := fun u => by simp only [secureEnough, macsecOn, hmacsec, hstate, hnet]
  have hsend : ∀ u, maySend t u .traffic = maySend s u .traffic := fun u => by
    simp only [maySend, upUsable, admitted, hlink, hdot1x, hsecure]
  simp only [answerPorts, hprp, hsend]

/-- The answer to a request of a logical port is the last thing sent. -/
theorem respond_out_head (s : State) {op : Nat} {w : Who} (status handle seq : Nat) (items : List RespItem) (hop : op ≠ opBACNET)
    (hw : w.port ≠ 0) :
    (respond s op w status handle seq items).out.head? =
      some (.cop w (answerPorts s w.origin) op status handle (degraded s) seq items) := by
  rw [respond, if_neg hop, if_neg hw]
  rfl

/-! ### From the request to its checks -/

/-- A WRITE with handle 0 from step 5 of R69 on, where it repeats nothing. -/
theorem serve_write {s : State} {w : Who} (items : List WItem) (hr : w.reqid ≠ 0) (hd : duplicateOf s w = none) :
    serve s opWRITE w 0 items = writeRequest s opWRITE w 0 items := by
  have hg : gate s opWRITE w 0 = none := rfl
  simp only [serve, hd, hg]
  simp [hr, opWRITE, opROLLBACK, opBEGIN, opREAD]

/-- The count of a request for its port changes nothing that finds duplicates. -/
theorem duplicateOf_count (s : State) (w : Who) (i e n : Nat) : duplicateOf (s.count i e n) w = duplicateOf s w := rfl

/-- A command that names an entry, from a bound logical port other than the local bus and new to the ledger: counted and checked. -/
theorem writeEntry_served {s : State} {w : Who} (i e v : Nat) (hs : serves s = true) (hp : w.port ≠ 0) (hp' : w.port < 256)
    (hk : s.rd Od.od_port_kind w.port ≠ 0) (hr : w.reqid ≠ 0) (hd : duplicateOf s w = none) :
    writeEntry w i e v s = writeRequest (s.count Od.od_port_hits w.port) opWRITE w 0 [entryItem i e v] := by
  rw [writeEntry, request, if_pos hs, if_neg (by simp [hk, hp'])]
  dsimp only
  rw [if_pos hp, serve_write _ hr (by rw [duplicateOf_count, hd])]

/-- The statuses that refuse an item beside any others of its WRITE and leave nothing behind: OK and BUSY_RETRY give way to an earlier
item's (R355, R371), and VERIFY_FAILED renews a challenge (R410). -/
def refuses (st : Status) : Prop := st ≠ .ok ∧ st ≠ .busyRetry ∧ st ≠ .verifyFailed

theorem besideItems_refused (s : State) (seen : List Nat) (it : WItem) {st : Status} (h : refuses st) :
    besideItems s seen it st = st := by
  obtain ⟨hok, hbusy, -⟩ := h
  simp [besideItems, hok, hbusy]

/-- A WRITE of one item that is refused is answered with its status and has no other effect. -/
theorem writeRequest_refused {s : State} {op : Nat} {w : Who} {handle : Nat} {it : WItem} {st : Status}
    (hc : checkItem s ⟨w.port, w.client, handle, false, op == opBACNET, none⟩ it = st) (h : refuses st) :
    writeRequest s op w handle [it] = respond s op w st.code handle 0 (echoItems [it] [st]) := by
  have ⟨hok, _, hverify⟩ := h
  simp [writeRequest, checkItems, hc, besideItems_refused _ _ _ h, firstBad, hok, hverify, verifyFailures]

/-- A command that names an entry and is refused: the mode and the ledger stay, and the answer carries the status. -/
theorem writeEntry_refused {s : State} {w : Who} {i e v : Nat} {st : Status} (hs : serves s = true) (hp : w.port ≠ 0)
    (hp' : w.port < 256) (hk : s.rd Od.od_port_kind w.port ≠ 0) (hr : w.reqid ≠ 0) (hd : duplicateOf s w = none)
    (hc : checkItem (s.count Od.od_port_hits w.port) ⟨w.port, w.client, 0, false, false, none⟩ (entryItem i e v) = st)
    (h : refuses st) :
    (writeEntry w i e v s).mode = s.mode ∧ (writeEntry w i e v s).mer = s.mer ∧
      (writeEntry w i e v s).out.head? = some (.cop w (answerPorts s w.origin) opWRITE st.code 0 (degraded s) 0
        (echoItems [entryItem i e v] [st])) := by
  have hcount : Within (some [Od.od_port_hits]) [] s (s.count Od.od_port_hits w.port) := .count _ _ _ rfl (.refl _ _ _)
  rw [writeEntry_served i e v hs hp hp' hk hr hd, writeRequest_refused (op := opWRITE) hc h]
  have hw := respond_within (s.count Od.od_port_hits w.port) opWRITE w st.code 0 0 (echoItems [entryItem i e v] [st])
  refine ⟨hw.parts .mode rfl, hw.parts .mer rfl, ?_⟩
  have hdeg : degraded (s.count Od.od_port_hits w.port) = degraded s := by rw [degraded, hcount.keeps _ _, degraded]
  rw [respond_out_head _ _ _ _ _ (by decide) hp, answerPorts_of_within hcount, hdeg]

/-! ### What the variants lack (R3) -/

/-- Settles O46: both entries answer WRONG_VARIANT at their checks, `sys_mode_req` on S by the chapter's refusal of STANDBY and
`net_downshift` on X because it is absent. -/
theorem variantsLackTheirFeatures : Obligations.VariantsLackTheirFeatures := by
  have hrefuses : refuses .wrongVariant := by simp [refuses]
  constructor
  · intro s w hv hs hp hp' hk hr hd
    have hc : checkItem (s.count Od.od_port_hits w.port) ⟨w.port, w.client, 0, false, false, none⟩
        (entryItem Od.sys_mode_req 0 5) = .wrongVariant := by
      refine checkItem_entryItem_wrongVariant _ _ (d := ⟨0x1002, .u8, .rw, .N, 1, 1, 0, 255, _⟩) rfl Nat.one_pos (.inr ?_)
      show (s.variant == .s && 5 == 5) = true
      rw [hv]
      rfl
    obtain ⟨hmode, -, hout⟩ := writeEntry_refused hs hp hp' hk hr hd hc hrefuses
    exact ⟨_, _, rfl, hmode, hout⟩
  · intro s w v hv hs hp hp' hk hr hd
    have hdef : entryDef? Od.net_downshift = some ⟨0x1160, .bool, .rw, .F, 1, 1, 0, 1, .nat 0 1⟩ := rfl
    have ha : absent s.variant ⟨0x1160, .bool, .rw, .F, 1, 1, 0, 1, .nat 0 1⟩ 0 = true := by rw [hv]; rfl
    obtain ⟨-, hmer, hout⟩ := writeEntry_refused (i := Od.net_downshift) (e := 0) (v := v) hs hp hp' hk hr hd
      (checkItem_entryItem_wrongVariant _ _ hdef Nat.one_pos (.inl ha)) hrefuses
    exact ⟨readElem_absent hdef ha, _, _, rfl, hmer, hout⟩

end Sys2Proof.Proofs

/-!
## Rules for the state's operations

What a counter reads after a count, what the fields that the frames leave alone hold, and what a sparse table returns after a change.
-/
namespace Sys2Proof.Proofs

open Sys2Proof Sys2Proof.Machine Sys2Proof.Safety Sys2Proof.Laws

/-- A command answers the state that its operation comes to. -/
theorem next_of_eq {t u : State} (h : t = u) : (.next t : StepOut) = .next u := congrArg Host.Outcome.next h

/-! ### Entries -/

theorem rd_count_self {s : State} {i e n : Nat} (h : s.rd i e + n < 2 ^ widthOf i) : (s.count i e n).rd i e = s.rd i e + n := by
  rw [count_eq, if_pos h, rd_wr_fit _ _ _ _ h]

theorem rd_count_ne (s : State) (i e n j k : Nat) (h : j ≠ i) : (s.count i e n).rd j k = s.rd j k := rd_wr_ne _ _ _ _ _ _ h

theorem rdBit_of_within {w : Option (List Nat)} {ps : List Part} {s t : State} (h : Within w ps s t) (i b e : Nat)
    (hi : admits w i = false := by rfl) : t.rdBit i b e = s.rdBit i b e := rdBit_of_rd (h.keeps i e hi) b

/-! ### Sparse tables -/

@[simp] theorem tabGet_tabPut_self {α : Type} (d : α) (k : Nat) (v : α) (t : Tab α) : tabGet d k (tabPut k v t) = v := by
  induction t with
  | nil => simp [tabPut, tabGet]
  | cons p ps ih =>
    unfold tabPut
    split_ifs with heq hlt
    · simp [tabGet]
    · simp [tabGet]
    · simp [tabGet, heq, ih]

@[simp] theorem tabGet_tabDel_self {α : Type} (d : α) (k : Nat) (t : Tab α) : tabGet d k (tabDel k t) = d := by
  induction t with
  | nil => rfl
  | cons p ps ih =>
    by_cases h : p.1 = k
    · simpa [tabDel, h] using ih
    · simpa [tabDel, tabGet, h] using ih

end Sys2Proof.Proofs

/-!
## The management processor's frames and load, and the gated clocks (R30, R31, R34 to R36)
-/
namespace Sys2Proof.Proofs

open Sys2Proof Sys2Proof.Machine Sys2Proof.Safety Sys2Proof.Laws

theorem mpFrame_of_runs {s : State} (demand : List Nat) (hp : powered s = true) (hh : s.sys.mpHeld = false) :
    (mpFrame demand s).od = s.od ∧
      (mpFrame demand s).sys.classWindow = (mpGrants (s.rd Od.sys_mp_deferred) demand :: s.sys.classWindow).take 10 := by
  simp [mpFrame, hp, hh]

/-- R35: the loads are shown; above 85 % both classes are deferred, and the count of quiet frames begins anew. -/
theorem mpLoadUpdate_above {s : State} {load : Nat} (hp : powered s = true) (hh : s.sys.mpHeld = false)
    (hload : s.sys.loadWindow.foldl (· + ·) 0 / 1000 = load) (h85 : 85 < load) (h100 : load ≤ 100) :
    (mpLoadUpdate s).rd Od.sys_mp_load = load ∧ (mpLoadUpdate s).rd Od.sys_mp_deferred = 3 ∧
      (mpLoadUpdate s).sys.lowFrames = 0 := by
  unfold mpLoadUpdate
  rw [if_pos (by simp [hp, hh])]
  extract_lets shown s1
  have hshown : shown = load := hload
  have hs1 : s1.rd Od.sys_mp_load = load := by
    have hloads : Within (some [Od.sys_mp_class_load]) [] (s.wr Od.sys_mp_load shown) s1 :=
      .foldl (fun _ _ => .wr _ _ _ rfl (.refl _ _ _)) _ (.refl _ _ _)
    rw [hloads.keeps _ _, hshown, rd_wr_fit _ _ _ _ (show load < 2 ^ 8 by omega)]
  clear_value s1
  rw [if_pos (by omega)]
  exact ⟨(rd_wr_ne s1 Od.sys_mp_deferred 3 0 _ _ (by decide)).trans hs1, rd_wr_self s1 _ 3 0, rfl⟩

/-- The real-time and the engine clock, both switched. -/
theorem clk_run_switched (s : State) (on : Bool) :
    ((s.wrBit Od.sys_clk_run 2 on).wrBit Od.sys_clk_run 3 on).rdBit Od.sys_clk_run 2 = on ∧
      ((s.wrBit Od.sys_clk_run 2 on).wrBit Od.sys_clk_run 3 on).rdBit Od.sys_clk_run 3 = on := by
  have hw : widthOf Od.sys_clk_run = 8 := rfl
  simp [rdBit_wrBit, hw]

theorem clockStart_runs {s : State} (aheadUs : Nat) (hr : running s = true) (hh : s.sys.mpHeld = false) :
    (clockStart aheadUs s).rdBit Od.sys_clk_run 2 = true ∧ (clockStart aheadUs s).rdBit Od.sys_clk_run 3 = true := by
  unfold clockStart
  rw [if_pos (by simp [hr, hh])]
  extract_lets gated s1
  have hs1 : s1.rdBit Od.sys_clk_run 2 = true ∧ s1.rdBit Od.sys_clk_run 3 = true := clk_run_switched s true
  split_ifs
  · have hcount : (s1.count Od.sys_clk_late).rd Od.sys_clk_run = s1.rd Od.sys_clk_run := rd_count_ne _ _ _ _ _ _ (by decide)
    rwa [rdBit_of_rd hcount, rdBit_of_rd hcount]
  · exact hs1

/-- The clocks' switching leaves the count of late starts. -/
theorem clk_late_switched (s : State) (on : Bool) :
    ((s.wrBit Od.sys_clk_run 2 on).wrBit Od.sys_clk_run 3 on).rd Od.sys_clk_late = s.rd Od.sys_clk_late := by
  have h : Within (some [Od.sys_clk_run]) [] s ((s.wrBit Od.sys_clk_run 2 on).wrBit Od.sys_clk_run 3 on) :=
    .wrBit _ _ _ _ rfl (.wrBit _ _ _ _ rfl (.refl _ _ _))
  exact h.keeps _ _

theorem clockStart_in_time {s : State} {aheadUs : Nat} (h : 60 ≤ aheadUs) :
    (clockStart aheadUs s).rd Od.sys_clk_late = s.rd Od.sys_clk_late := by
  unfold clockStart
  split_ifs
  · dsimp only
    rw [if_neg (by omega), clk_late_switched]
  · rfl

/-- R31: an activation less than 60 µs ahead of gated clocks starts late. -/
theorem clockStart_late {s : State} {aheadUs : Nat} (hr : running s = true) (hh : s.sys.mpHeld = false)
    (hgated : s.rdBit Od.sys_clk_run 2 = false) (h : aheadUs < 60) (hfit : s.rd Od.sys_clk_late + 1 < 2 ^ 32) :
    (clockStart aheadUs s).rd Od.sys_clk_late = s.rd Od.sys_clk_late + 1 := by
  unfold clockStart
  rw [if_pos (by simp [hr, hh])]
  dsimp only
  rw [if_pos (by simp [hgated, h]), rd_count_self (by rw [clk_late_switched]; exact hfit), clk_late_switched]

theorem clockGate_gates {s : State} {nextUs : Nat} (hr : running s = true) (hh : s.sys.mpHeld = false) (hn : 200 < nextUs)
    (hc : clocksHeld s = false) :
    (clockGate nextUs s).rdBit Od.sys_clk_run 2 = false ∧ (clockGate nextUs s).rdBit Od.sys_clk_run 3 = false := by
  rw [clockGate, if_pos (by simp [hr, hh, hn, hc])]
  exact clk_run_switched s false

theorem mpRestart_passed (s : State) : mpRestart true s = s := by simp [mpRestart]

theorem mpRestart_failed {s : State} (hp : powered s = true) : mpRestart false s = { s with sys := { s.sys with mpHeld := true } } := by
  simp [mpRestart, hp]

/-- Settles O2: a frame's grants, the loads above 85 %, the ROM self-test's two verdicts, and the clocks' starts and gating. -/
theorem managementFramesAndClocks : Obligations.ManagementFramesAndClocks :=
  ⟨fun _ demand hp hh => ⟨_, rfl, mpFrame_of_runs demand hp hh⟩,
    fun _ _ hp hh hl h85 h100 => ⟨_, rfl, mpLoadUpdate_above hp hh hl h85 h100⟩,
    fun s => next_of_eq (mpRestart_passed s),
    fun _ hp => ⟨_, next_of_eq (mpRestart_failed hp), rfl, rfl⟩,
    fun _ aheadUs hr hh =>
      have hclocks := clockStart_runs aheadUs hr hh
      ⟨_, rfl, hclocks.1, hclocks.2, clockStart_in_time⟩,
    fun _ _ hr hh hg h hfit => ⟨_, rfl, clockStart_late hr hh hg h hfit⟩,
    fun _ _ hr hh hn hc => ⟨_, rfl, clockGate_gates hr hh hn hc⟩⟩

end Sys2Proof.Proofs

/-!
## Faults of the fabric: mismatches, retired pages, refused accesses and retests (R22 to R28, R37, R42)
-/
namespace Sys2Proof.Proofs

open Sys2Proof Sys2Proof.Machine Sys2Proof.Safety Sys2Proof.Laws

/-! ### Parity mismatches (R23 to R25) -/

theorem parityMismatch_right (initiator : Nat) {w : Nat} (replays : List Nat) (address : Nat) (cls : PageClass) (s : State)
    (hw : parityOk w = true) : parityMismatch initiator (w :: replays) address cls s = s := by
  simp [parityMismatch, hw]

/-- One of the three replays cures the mismatch: it is counted, and nothing else changes. -/
theorem parityMismatch_cured {initiator w : Nat} {replays : List Nat} (address : Nat) (cls : PageClass) {s : State}
    (hf : fabricRuns s = true) (hi : initiator < 15) (hw : parityOk w = false) (hr : (replays.take 3).any parityOk = true) :
    parityMismatch initiator (w :: replays) address cls s = s.count Od.sys_parity_replays initiator := by
  rw [parityMismatch, if_pos (by simp [hf, hi, hw])]
  exact if_pos hr

/-- No replay cures it: it is counted and recorded, and the escalation of R25 follows. -/
theorem parityMismatch_persistent {initiator w : Nat} {replays : List Nat} (address : Nat) (cls : PageClass) {s : State}
    (hf : fabricRuns s = true) (hi : initiator < 15) (hbad : ∀ x ∈ w :: replays, parityOk x = false) :
    parityMismatch initiator (w :: replays) address cls s =
      holdIfTripped (escalate (recordEvent (s.count Od.sys_parity_persist initiator) 0x0102 initiator 2 (pay [(8, address)]))
        initiator address cls) := by
  have hw : parityOk w = false := hbad w List.mem_cons_self
  have hr : ¬(replays.take 3).any parityOk = true := by
    rw [List.any_eq_true]
    rintro ⟨x, hx, hok⟩
    rw [hbad x (List.mem_cons_of_mem _ (List.mem_of_mem_take hx))] at hok
    cases hok
  rw [parityMismatch, if_pos (by simp [hf, hi, hw])]
  exact if_neg hr

theorem holdIfTripped_of_no_trip {s : State} (h : s.rd Od.saf_trip_cause = 0) : holdIfTripped s = s := if_pos h

/-- R25, initiator 8: the metering lane's bit is set, and with no safety trip nothing holds the module. -/
theorem parityMismatch_metering_lane {w : Nat} {replays : List Nat} (address : Nat) (cls : PageClass) {s : State}
    (hf : fabricRuns s = true) (hbad : ∀ x ∈ w :: replays, parityOk x = false) (htrip : s.rd Od.saf_trip_cause = 0) :
    parityMismatch 8 (w :: replays) address cls s =
      raiseFault (recordEvent (s.count Od.sys_parity_persist 8) 0x0102 8 2 (pay [(8, address)])) bitMetLane address := by
  rw [parityMismatch_persistent address cls hf (by omega) hbad]
  apply holdIfTripped_of_no_trip
  show (raiseFault _ bitMetLane address).rd Od.saf_trip_cause = 0
  rw [(raiseFault_within ..).keeps _ _, (recordEvent_within ..).keeps _ _, rd_count_ne _ _ _ _ _ _ (by decide), htrip]

/-! ### Retired pages (R26 to R28) -/

theorem movePage_pages (s : State) (r : Retiring) (spare : Nat) (c : Tab Nat) :
    (movePage s r spare c).dram.pages = tabPut spare c (tabDel r.page s.dram.pages) := by
  unfold movePage
  cases r.cls <;> rfl

theorem movePage_retired (s : State) (r : Retiring) (spare : Nat) (c : Tab Nat) :
    (movePage s r spare c).mer.retired = s.mer.retired := by
  unfold movePage
  cases r.cls <;> rfl

theorem noteRetired_retiring (s : State) (page spares : Nat) (m : PageMove) :
    (noteRetired s page spares m).sys.retiring = s.sys.retiring.filter (fun r => r.page != page) :=
  congrArg SysState.retiring ((recordEvent_within ..).parts .sys rfl)

theorem noteRetired_retired (s : State) (page spares : Nat) (m : PageMove) :
    (noteRetired s page spares m).mer.retired = tabPut page m s.mer.retired :=
  congrArg Meringue.retired ((recordEvent_within ..).parts .mer rfl)

theorem noteRetired_spares (s : State) (page : Nat) {spares : Nat} (m : PageMove) (h : spares < 2 ^ 32) :
    (noteRetired s page spares m).rd Od.sys_dram_spares = spares - 1 := by
  rw [noteRetired, (recordEvent_within ..).keeps _ _]
  exact rd_wr_fit _ _ _ _ (show spares - 1 < 2 ^ 32 by omega)

/-- The replacement of a page by a spare up to the completion of the stalled read. -/
def pageReplaced (s : State) (r : Retiring) (spare : Nat) (c : Tab Nat) : State :=
  let s1 := noteRetired (movePage s r spare c) r.page (s.rd Od.sys_dram_spares) ⟨some spare, false⟩
  (if r.cls == .nonCritical then loseTrendPage s1 else s1).send (.dramRead r.page r.off (tabGet 0 r.off c))

/-- While spares are left, a page is replaced by one, and DRAM_PAGE clears with the last page. -/
theorem retirePage_by_spare {s : State} (r : Retiring) (spare : Nat) (held : List (Nat × Nat)) (h : 0 < s.rd Od.sys_dram_spares) :
    retirePage s r spare held =
      let t := pageReplaced s r spare (heldApplied held (rebuildSource s r))
      if t.sys.retiring = [] then clearFault t 16 else t := by
  have hs : (s.rd Od.sys_dram_spares == 0) = false := by simp; omega
  simp [retirePage, pageReplaced, hs]

/-- What the last page's replacement leaves. -/
theorem pageReplaced_frame (s : State) (r : Retiring) (spare : Nat) (c : Tab Nat) :
    Within (some []) [.free, .trend, .out] (noteRetired (movePage s r spare c) r.page (s.rd Od.sys_dram_spares) ⟨some spare, false⟩)
      (pageReplaced s r spare c) :=
  .after (State_send_within ..) rfl rfl
    (.ite ((loseTrendPage_within _).mono rfl rfl) (.refl _ _ _))

theorem pageReplaced_retiring (s : State) (r : Retiring) (spare : Nat) (c : Tab Nat) :
    (pageReplaced s r spare c).sys.retiring = s.sys.retiring.filter (fun x => x.page != r.page) := by
  have h1 : (pageReplaced s r spare c).sys = _ := (pageReplaced_frame s r spare c).parts .sys rfl
  have h2 : (movePage s r spare c).sys = s.sys := (movePage_within ..).parts .sys rfl
  rw [h1, noteRetired_retiring, h2]

theorem pageReplaced_retired (s : State) (r : Retiring) (spare : Nat) (c : Tab Nat) :
    (pageReplaced s r spare c).mer.retired = tabPut r.page ⟨some spare, false⟩ s.mer.retired := by
  have h1 : (pageReplaced s r spare c).mer = _ := (pageReplaced_frame s r spare c).parts .mer rfl
  rw [h1, noteRetired_retired, movePage_retired]

theorem pageReplaced_pages (s : State) (r : Retiring) (spare : Nat) (c : Tab Nat) :
    (pageReplaced s r spare c).dram.pages = tabPut spare c (tabDel r.page s.dram.pages) := by
  have h1 : (pageReplaced s r spare c).dram = _ := (pageReplaced_frame s r spare c).parts .dram rfl
  have h2 : (noteRetired (movePage s r spare c) r.page (s.rd Od.sys_dram_spares) ⟨some spare, false⟩).dram = _ :=
    (noteRetired_within ..).parts .dram rfl
  rw [h1, h2, movePage_pages]

/-- R27, R28: the last page under retirement is replaced by a spare. -/
theorem dramPageRetireComplete_last {s : State} {r : Retiring} {spare : Nat} (held : List (Nat × Nat)) (hf : fabricRuns s = true)
    (hr : s.sys.retiring = [r]) (hfree : spareFree s r.page spare = true) (hs : 0 < s.rd Od.sys_dram_spares) :
    dramPageRetireComplete r.page spare held s = clearFault (pageReplaced s r spare (heldApplied held (rebuildSource s r))) 16 := by
  have hlast : (pageReplaced s r spare (heldApplied held (rebuildSource s r))).sys.retiring = [] := by
    rw [pageReplaced_retiring, hr]
    simp
  simp [dramPageRetireComplete, hr, hf, hfree, retirePage_by_spare r spare held hs, hlast]

/-! ### Refused accesses (R22) -/

theorem fabricAccessRefused_admitted {m : FabricMaster} {target : FabricTarget} {way : FabricWay} (address : Nat) (s : State)
    (h : fabricAdmits m target way = true) : fabricAccessRefused m target way address s = s := by
  simp [fabricAccessRefused, h]

theorem fabricAccessRefused_refused {m : FabricMaster} {target : FabricTarget} {way : FabricWay} (address : Nat) {s : State}
    (hf : fabricRuns s = true) (h : fabricAdmits m target way = false) (hfit : s.rd Od.sys_access_refused + 1 < 2 ^ 32) :
    (fabricAccessRefused m target way address s).rd Od.sys_access_refused = s.rd Od.sys_access_refused + 1 ∧
      (fabricAccessRefused m target way address s).out = .fabricError m address :: s.out := by
  rw [fabricAccessRefused, if_pos (by simp [hf, h])]
  constructor
  · rw [(State_send_within ..).keeps _ _, (recordEvent_within ..).keeps _ _, rd_count_self hfit]
  · rw [send_out]
    exact congrArg _ ((recordEvent_within ..).parts .out rfl)

/-! ### Retests (R37, R42) -/

theorem faultRetestComplete_failed {s : State} {bit : Nat} (hp : powered s = true) (hb : s.sys.retest = some bit) :
    faultRetestComplete false s = ({ s with sys := { s.sys with retest := none } } : State).wr Od.sys_fault_retest 3 := by
  simp [faultRetestComplete, hb, hp]

/-- The parts of bits 0 to 7 have no effect of their own beside the clearing of their bit. -/
theorem faultRetestComplete_passed {s : State} {bit : Nat} (hp : powered s = true) (hb : s.sys.retest = some bit) (h8 : bit < 8) :
    faultRetestComplete true s =
      (clearFault { s with sys := { s.sys with retest := none } } bit).wr Od.sys_fault_retest 2 := by
  have hA : ¬(bit = bitEngineA ∨ bit = bitEngineB) := by simp only [bitEngineA, bitEngineB]; omega
  have hcore : bit ≠ bitSafetyCore := by simp only [bitSafetyCore]; omega
  have hturn : bit ≠ bitTurnover := by simp only [bitTurnover]; omega
  have hlane : bit ≠ bitMotLane := by simp only [bitMotLane]; omega
  simp [faultRetestComplete, hb, hp, retestPassed, hA, hcore, hturn, hlane]

/-- Settles O3: by what each command comes to under the clause's premises. -/
theorem fabricFaultsAreCountedAndRetested : Obligations.FabricFaultsAreCountedAndRetested := by
  refine ⟨fun s initiator w1 w2 w3 w4 address cls hf hi hw hr => ?_, fun s initiator w replays address cls hw => ?_,
    fun s w replays address cls hf hbad htrip hfit => ⟨_, next_of_eq
      (parityMismatch_metering_lane address cls hf hbad htrip), ?_, ?_⟩,
    fun s r spare held hf hr hfree hs hfit => ⟨_, next_of_eq (dramPageRetireComplete_last held hf hr hfree hs), ?_⟩,
    fun s m target way address hf h hfit => ⟨_, rfl, fabricAccessRefused_refused address hf h hfit⟩,
    fun s m target way address h => next_of_eq (fabricAccessRefused_admitted address s h),
    fun s bit hp hb => ⟨_, next_of_eq (faultRetestComplete_failed hp hb), ?_⟩,
    fun s bit hp hb h8 => ⟨_, next_of_eq (faultRetestComplete_passed hp hb h8), ?_⟩⟩
  · exact next_of_eq (parityMismatch_cured address cls hf hi hw (by simpa using hr))
  · exact next_of_eq (parityMismatch_right initiator replays address cls s hw)
  · exact raiseFault_bit _ _ _ (by decide)
  · rw [(raiseFault_within ..).keeps _ _, (recordEvent_within ..).keeps _ _, rd_count_self hfit]
  · have hframe := clearFault_within (pageReplaced s r spare (heldApplied held (rebuildSource s r))) 16
    refine ⟨?_, ?_, ?_, clearFault_bit _ _ (by decide), ?_, ?_⟩
    · rw [hframe.keeps _ _, (pageReplaced_frame ..).keeps _ _, noteRetired_spares _ _ _ hfit]
    · rw [hframe.parts .sys rfl, pageReplaced_retiring, hr]
      simp
    · rw [hframe.parts .mer rfl, pageReplaced_retired]
    · rw [hframe.parts .dram rfl, pageReplaced_pages, tabGet_tabPut_self]
    · rw [hframe.parts .out rfl]
      exact List.mem_cons_self
  · exact ⟨rd_wr_self _ _ _ _, rfl, rd_wr_ne _ _ _ _ _ _ (by decide)⟩
  · refine ⟨rd_wr_self _ _ _ _, ?_, ?_⟩
    · exact congrArg SysState.retest ((clearFault_within ..).parts .sys rfl)
    · rw [rdBit_of_rd (rd_wr_ne _ _ _ _ _ _ (by decide))]
      exact clearFault_bit _ _ (by omega)

end Sys2Proof.Proofs

/-!
## Trends (R43)
-/
namespace Sys2Proof.Proofs

open Sys2Proof Sys2Proof.Machine Sys2Proof.Safety Sys2Proof.Laws

theorem trendSample_not_due {s : State} {n : Nat} (h : trendDue s n = false) : trendSample n s = s := by
  simp [trendSample, h]

/-- A due sample, where it can be taken, enters the cache and touches nothing else but the point's gap. -/
theorem trendSample_taken {s : State} {n : Nat} (hn : n < pointCount s) (hperiod : s.rd Od.sys_trend_period n ≠ 0)
    (hr : running s = true) (hup : s.sys.appUp = true) (hdue : trendDue s n = true) (hroom : trendRoom s = true) :
    ∃ flags, trendSample n s = { s with trend := { s.trend with
      cache := ⟨s.now, n, flags, s.rd (Od.od_point + n) 0⟩ :: s.trend.cache
      gaps := s.trend.gaps.filter (· != n) } } := by
  rw [trendSample, if_pos ⟨hn, hperiod, hdue⟩, if_pos ⟨hr, hup, hroom⟩]
  exact ⟨_, rfl⟩

theorem trendArchiveMove_moves {s : State} {capacity : Nat} (hh : housekeeping s = true) (hc : 400000000 ≤ capacity) :
    (trendArchiveMove capacity s).trend = { s.trend with
      archive := (s.trend.cache ++ s.trend.archive).take capacity, cache := [], capacity := capacity } := by
  rw [trendArchiveMove, if_pos ⟨hh, hc⟩]
  rfl

theorem trendTransferComplete_state {s : State} (failed : Bool) (h : s.rd Od.sys_trend_state = 1) :
    (trendTransferComplete failed s).rd Od.sys_trend_state = if failed then 3 else 2 := by
  rw [trendTransferComplete, if_pos h, (bspDrop_within ..).keeps _ _]
  exact rd_wr_fit _ _ _ _ (show (if failed then 3 else 2) < 2 ^ 8 by split <;> decide)

/-- Settles O8: a sample, a move and a transfer's end each follow from their command's one case. -/
theorem trendsAreSampledAndArchived : Obligations.TrendsAreSampledAndArchived := by
  refine ⟨fun s n hn hperiod hr hup hdue hroom => ?_, fun s n h => next_of_eq (trendSample_not_due h),
    fun s capacity hh hc => ⟨_, rfl, ?_, ?_⟩, fun s failed h => ⟨_, rfl, trendTransferComplete_state failed h⟩⟩
  · obtain ⟨flags, h⟩ := trendSample_taken hn hperiod hr hup hdue hroom
    exact ⟨_, next_of_eq h, rfl, rfl, flags, rfl⟩
  · exact congrArg TrendState.cache (trendArchiveMove_moves hh hc)
  · exact congrArg TrendState.archive (trendArchiveMove_moves hh hc)

end Sys2Proof.Proofs

/-!
## Faults and the mode (R39)
-/
namespace Sys2Proof.Proofs

open Sys2Proof Sys2Proof.Machine Sys2Proof.Safety Sys2Proof.Laws

theorem raiseFault_mode {s : State} {b : Nat} (d : Nat) (hb : s.rdBit Od.sys_health b = false) (he : s.sys.standbyEntry = false) :
    (raiseFault s b d).mode = if s.mode = .run ∨ s.mode = .doze then .runDegraded else s.mode := by
  unfold raiseFault
  rw [if_neg (by simp [hb])]
  by_cases hm : s.mode = .run ∨ s.mode = .doze
  · simp only [hm, he, Bool.not_false, and_self, if_true, enterMode_mode]
  · simp only [hm, false_and, if_false, recordEvent_mode, countSat_mode, wrBit_mode]

theorem degraded_of_rdBit {s : State} {b : Nat} (h : s.rdBit Od.sys_health b = true) : degraded s = true := by
  have hne : s.rd Od.sys_health ≠ 0 := fun h0 => by simp [State.rdBit, h0] at h
  simpa [degraded] using hne

/-- Bit 0 of `sys_status` is DEGRADED. -/
theorem statusView_testBit_zero (s : State) : (statusView s).testBit 0 = degraded s := by
  have hmod : statusView s % 2 = b2n (degraded s) % 2 := by
    unfold statusView
    omega
  rw [Nat.testBit_zero, hmod]
  cases degraded s <;> rfl

theorem readElem_sys_status (s : State) : readElem s Od.sys_status 0 = statusView s := by
  have hd : ∃ d, entryDef? Od.sys_status = some d ∧ absent .x d 0 = false ∧ absent .s d 0 = false :=
    ⟨_, rfl, rfl, rfl⟩
  obtain ⟨d, hd, hx, hs⟩ := hd
  have ha : absent s.variant d 0 = false := by cases s.variant <;> assumption
  simp only [readElem, hd, ha]
  rfl

/-- The one bit set, cleared. -/
theorem putBit_two_pow_false (b : Nat) : putBit (2 ^ b) b false = 0 := by
  simp [putBit, Nat.one_shiftLeft]

/-- With its last bit cleared, RUN_DEGRADED is left into the mode it was entered from. -/
theorem clearFault_last {s : State} {b : Nat} (hm : s.mode = .runDegraded) (h : s.rd Od.sys_health = 2 ^ b) :
    (clearFault s b).rd Od.sys_health = 0 ∧
      (clearFault s b).mode = if s.sys.degradedFrom = .doze then .doze else .run := by
  have hbit : s.rdBit Od.sys_health b = true := by simp [State.rdBit, h]
  have hzero : (s.wrBit Od.sys_health b false).rd Od.sys_health = 0 := by
    rw [wrBit_eq, rd_wr_self, h, putBit_two_pow_false, Nat.zero_mod]
  unfold clearFault
  rw [if_pos hbit]
  extract_lets s1
  have h1 : s1.rd Od.sys_health = 0 := ((recordEvent_within ..).keeps _ _).trans hzero
  have hmode : s1.mode = .runDegraded := (recordEvent_mode ..).trans hm
  have hsys : s1.sys = s.sys := (recordEvent_within ..).parts .sys rfl
  clear_value s1
  rw [if_pos ⟨hmode, by simp [degraded, h1]⟩, hsys, (enterMode_within ..).keeps _ _]
  exact ⟨h1, enterMode_mode ..⟩

/-- A mismatch that a replay cures touches neither the health word nor the mode, whatever the initiator. -/
theorem parityMismatch_cured_no_fault (initiator w : Nat) {replays : List Nat} (address : Nat) (cls : PageClass) (s : State)
    (hr : (replays.take 3).any parityOk = true) :
    (parityMismatch initiator (w :: replays) address cls s).rd Od.sys_health = s.rd Od.sys_health ∧
      (parityMismatch initiator (w :: replays) address cls s).mode = s.mode := by
  by_cases h : fabricRuns s = true ∧ initiator < 15 ∧ parityOk w = false
  · obtain ⟨hf, hi, hw⟩ := h
    rw [parityMismatch_cured address cls hf hi hw hr]
    exact ⟨rd_count_ne _ _ _ _ _ _ (by decide), rfl⟩
  · rw [parityMismatch, if_neg (by simpa using h)]
    exact ⟨rfl, rfl⟩

/-- Settles O48: the mode after a fault, after the last fault's clearing, and after a mismatch without a fault. -/
theorem faultsDegradeTheMode : Obligations.FaultsDegradeTheMode := by
  refine ⟨fun s b d hb hclear he => ?_, fun s b _ hm h => clearFault_last hm h,
    fun s initiator w address replays cls hr => ⟨_, rfl, parityMismatch_cured_no_fault initiator w address cls s hr⟩⟩
  have hbit := raiseFault_bit s b d (by omega)
  refine ⟨hbit, raiseFault_mode d hclear he, fun _ _ _ => ?_⟩
  rw [readElem_sys_status, statusView_testBit_zero, degraded_of_rdBit hbit]

end Sys2Proof.Proofs

/-!
## Field bridge ports and 10BASE-T1L links (R131 to R136, R144, R145)
-/
namespace Sys2Proof.Proofs

open Sys2Proof Sys2Proof.Machine Sys2Proof.Safety Sys2Proof.Laws

/-! ### Frames into the bridge's queues (R131, R132) -/

theorem txOf_putTx_self (s : State) (p : Nat) (x : FieldTx) : txOf (putTx s p x) p = x := tabGet_tabPut_self ..

theorem fieldEgress_nil (s : State) (vlan pcp len : Nat) : fieldEgress s vlan pcp len [] = s := rfl

theorem fieldEgress_singleton (s : State) (vlan pcp len p : Nat) : fieldEgress s vlan pcp len [p] = fieldSend s vlan pcp len p := rfl

theorem fieldSend_high {s : State} {vlan pcp len p : Nat} (hp : bridgePort s p = true) (hv : s.rd Od.fld_pvid p = vlan)
    (hpcp : 4 ≤ pcp) (hroom : txBytes (txOf s p).high + len ≤ 32768) :
    fieldSend s vlan pcp len p = putTx s p { txOf s p with high := (txOf s p).high ++ [⟨s.now, len, 0⟩] } := by
  simp [fieldSend, hp, hv, hpcp, hroom]

theorem fieldSend_low_full {s : State} {vlan pcp len p : Nat} (hp : bridgePort s p = true) (hv : s.rd Od.fld_pvid p = vlan)
    (hpcp : pcp < 4) (hfull : 32768 < txBytes (txOf s p).low + len) :
    fieldSend s vlan pcp len p = s.count Od.fld_tx_drops p := by
  simp [fieldSend, hp, hv, Nat.not_le.mpr hpcp, Nat.not_le.mpr hfull]

/-! ### Received frames (R19, R131, R145) -/

/-- On a T1L port a frame shows no node and can always arrive; one with a bad FCS is counted. -/
theorem fieldFrameRx_t1l_bad_fcs {s : State} {p : Nat} {f : FieldFrame} (hr : running s = true) (hp : bridgePort s p = true)
    (h16 : p < 16) (hfcs : f.fcsBad = true) : fieldFrameRx p f s = s.count Od.fld_rx_discards p := by
  simp [fieldFrameRx, fieldCanSend, noteNode, hr, hp, h16, Nat.not_le.mpr h16, hfcs]

theorem fieldFrameRx_t1s_bad_fcs {s : State} {seg : Nat} {f : FieldFrame} (hr : running s = true)
    (hp : bridgePort s (16 + seg) = true) (hnode : f.node < s.rd Od.fld_plca_count seg) (hfcs : f.fcsBad = true) :
    fieldFrameRx (16 + seg) f s = (s.wrBit Od.fld_plca_present f.node true seg).count Od.fld_rx_discards (16 + seg) := by
  simp [fieldFrameRx, fieldCanSend, noteNode, hr, hp, hnode, hfcs]

/-- An untagged frame to one address, received on a T1L port, goes on with the port's VLAN and PCP. -/
theorem fieldFrameRx_t1l {s : State} {p : Nat} {f : FieldFrame} (hr : running s = true) (hp : bridgePort s p = true)
    (h16 : p < 16) (hfcs : f.fcsBad = false) (hvid : f.vid = none) (hmulti : f.multi = false) :
    fieldFrameRx p f s = fieldForward (s.count Od.fld_rx_frames p) p f := by
  simp [fieldFrameRx, fieldCanSend, noteNode, hr, hp, h16, Nat.not_le.mpr h16, hfcs, hvid, hmulti]

theorem fieldForward_own {s : State} {p : Nat} {f : FieldFrame} {k : FrameKind} (hports : f.ports = []) (hup : f.uplink = none)
    (hown : f.own = some k) : fieldForward s p f = s.send (.routed k f.len) := by
  simp [fieldForward, hports, hup, hown, fieldEgress_nil]

theorem fieldForward_bridged {s : State} {p q : Nat} {f : FieldFrame} (hvid : f.vid = none) (hports : f.ports = [q])
    (hup : f.uplink = none) (hown : f.own = none) :
    fieldForward s p f = fieldSend s (s.rd Od.fld_pvid p) (s.rd Od.fld_pcp p) f.len q := by
  simp [fieldForward, hvid, hports, hup, hown, fieldEgress_singleton]

/-- Counting a frame leaves which ports bridge. -/
theorem bridgePort_count (s : State) (p q : Nat) : bridgePort (s.count Od.fld_rx_frames p) q = bridgePort s q := by
  have hrole : (s.count Od.fld_rx_frames p).rd Od.fld_t1l_role q = s.rd Od.fld_t1l_role q := rd_count_ne _ _ _ _ _ _ (by decide)
  rw [bridgePort, hrole]
  rfl

theorem pvid_count (s : State) (p q : Nat) : (s.count Od.fld_rx_frames p).rd Od.fld_pvid q = s.rd Od.fld_pvid q :=
  rd_count_ne _ _ _ _ _ _ (by decide)

/-- An untagged frame for another bridge port, received on a T1L port: counted, and sent there. -/
theorem fieldFrameRx_bridged {s : State} {p q : Nat} {f : FieldFrame} (hr : running s = true) (hp : bridgePort s p = true)
    (h16 : p < 16) (hfcs : f.fcsBad = false) (hvid : f.vid = none) (hmulti : f.multi = false) (hports : f.ports = [q])
    (hup : f.uplink = none) (hown : f.own = none) :
    fieldFrameRx p f s = fieldSend (s.count Od.fld_rx_frames p) (s.rd Od.fld_pvid p) (s.rd Od.fld_pcp p) f.len q := by
  have hpcp : (s.count Od.fld_rx_frames p).rd Od.fld_pcp p = s.rd Od.fld_pcp p := rd_count_ne _ _ _ _ _ _ (by decide)
  rw [fieldFrameRx_t1l hr hp h16 hfcs hvid hmulti, fieldForward_bridged hvid hports hup hown, pvid_count, hpcp]

/-! ### 10BASE-T1L links (R136) -/

theorem t1lLinkUp_auto {s : State} {p : Nat} (snr : Nat) (high : Bool) (hr : running s = true) (hp : p < t1lCount s)
    (hen : s.rd Od.fld_t1l_enable p = 1) (hamp : s.rd Od.fld_t1l_amp p = 0) :
    t1lLinkUp p high snr s = (s.wr Od.fld_t1l_state (if high then 4 else 3) p).wr Od.fld_t1l_snr snr p := by
  simp [t1lLinkUp, hr, hp, hen, hamp]

theorem t1lLinkDown_linked {s : State} {p : Nat} (hp : p < t1lCount s) (hst : 3 ≤ s.rd Od.fld_t1l_state p) :
    t1lLinkDown p s = ((s.wr Od.fld_t1l_state 1 p).wr Od.fld_t1l_snr 0 p).count Od.fld_t1l_downs p := by
  simp [t1lLinkDown, t1lDown, hp, hst]

/-- A port's link state and signal-to-noise ratio, written together. -/
theorem rd_t1l_link (s : State) (p : Nat) {st snr : Nat} (hst : st < 2 ^ 8) (hsnr : snr < 2 ^ 16) :
    ((s.wr Od.fld_t1l_state st p).wr Od.fld_t1l_snr snr p).rd Od.fld_t1l_state p = st ∧
      ((s.wr Od.fld_t1l_state st p).wr Od.fld_t1l_snr snr p).rd Od.fld_t1l_snr p = snr :=
  ⟨(rd_wr_ne _ _ _ _ _ _ (by decide)).trans (rd_wr_fit _ _ _ _ hst), rd_wr_fit _ _ _ _ hsnr⟩

/-- Settles O14: the received frame's case, then what its port's queue or counter gets; the links by what they write. -/
theorem fieldBridgeAndT1lLinks : Obligations.FieldBridgeAndT1lLinks := by
  refine ⟨fun s p f hr hp h16 hfcs => next_of_eq (fieldFrameRx_t1l_bad_fcs hr hp h16 hfcs),
    fun s seg f hr hp hnode hfcs => next_of_eq (fieldFrameRx_t1s_bad_fcs hr hp hnode hfcs),
    fun s p f k hr hp h16 hfcs hvid hmulti hports hup hown => ?_,
    fun s p q f hr hp h16 hfcs hvid hmulti hports hup hown hq hpvid hpcp hroom => ⟨_, next_of_eq
      ((fieldFrameRx_bridged hr hp h16 hfcs hvid hmulti hports hup hown).trans
        (fieldSend_high ((bridgePort_count s p q).trans hq) ((pvid_count s p q).trans hpvid) hpcp hroom)), ?_⟩,
    fun s p q f hr hp h16 hfcs hvid hmulti hports hup hown hq hpvid hpcp hfull => ?_,
    fun s p => ⟨_, rfl, rfl, tabGet_tabDel_self ..⟩,
    fun s seg node hseg h0 hnode => ?_,
    fun s p snr high hr hp hen hamp hsnr => ⟨_, next_of_eq (t1lLinkUp_auto snr high hr hp hen hamp), ?_⟩,
    fun s p hp hst => ⟨_, next_of_eq (t1lLinkDown_linked hp hst), ?_⟩⟩
  · exact next_of_eq ((fieldFrameRx_t1l hr hp h16 hfcs hvid hmulti).trans (fieldForward_own hports hup hown))
  · exact ⟨rfl, txOf_putTx_self ..⟩
  · exact next_of_eq ((fieldFrameRx_bridged hr hp h16 hfcs hvid hmulti hports hup hown).trans
      (fieldSend_low_full ((bridgePort_count s p q).trans hq) ((pvid_count s p q).trans hpvid) hpcp hfull))
  · exact next_of_eq (if_pos ⟨hseg, by omega, hnode⟩)
  · exact rd_t1l_link s p (by split <;> decide) (by omega)
  · obtain ⟨hstate, hsnr⟩ := rd_t1l_link s p (st := 1) (snr := 0) (by decide) (by decide)
    exact ⟨(rd_count_ne _ _ _ _ _ _ (by decide)).trans hstate, (rd_count_ne _ _ _ _ _ _ (by decide)).trans hsnr⟩

end Sys2Proof.Proofs

/-!
## Rules for the uplinks' operations

An uplink's own record after a change, what the operations leave of the rest of the network state, and what the shared effects (the start of
802.1X, a lost link, MKA's start, an uplink fault) show.
-/
namespace Sys2Proof.Proofs

open Sys2Proof Sys2Proof.Machine Sys2Proof.Safety Sys2Proof.Laws

/-! ### The uplinks' records and the rest of the network state -/

@[simp] theorem upOf_putUp_self (s : State) (u : Nat) (x : UplinkState) : upOf (putUp s u x) u = x := by
  unfold upOf putUp
  by_cases hu : u = 0 <;> simp [hu]

theorem upOf_of_net {s t : State} (h : t.net = s.net) (u : Nat) : upOf t u = upOf s u := by rw [upOf, upOf, h]

/-- The network state without the two uplinks' own records. -/
def besideUplinks (n : NetState) : NetState := { n with a := {}, b := {} }

theorem mkaBWaits_of_beside {m n : NetState} (h : besideUplinks m = besideUplinks n) : m.mkaBWaits = n.mkaBWaits :=
  (congrArg NetState.mkaBWaits h :)

theorem prpSeq_of_beside {m n : NetState} (h : besideUplinks m = besideUplinks n) : m.prpSeq = n.prpSeq :=
  (congrArg NetState.prpSeq h :)

theorem putUp_beside (s : State) (u : Nat) (x : UplinkState) : besideUplinks (putUp s u x).net = besideUplinks s.net := by
  unfold putUp
  split <;> rfl

theorem enqueue_beside (s : State) (u q : Nat) (f : TxFrame) : besideUplinks (enqueue s u q f).net = besideUplinks s.net := by
  unfold enqueue
  dsimp only
  split_ifs
  · rfl
  · exact putUp_beside ..
  · rfl

theorem sendLink_beside (s : State) (u len : Nat) (k : TxKind) (o : Out) :
    besideUplinks (sendLink s u len k o).net = besideUplinks s.net := by
  have h : (offer s u k o).net = s.net := (offer_within ..).parts .net rfl
  exact (enqueue_beside ..).trans (congrArg besideUplinks h)

theorem frameBoundary_beside (s : State) (u : Nat) : besideUplinks (frameBoundary s u).net = besideUplinks s.net := by
  unfold frameBoundary
  extract_lets x s1
  have h : besideUplinks s1.net = besideUplinks s.net := putUp_beside ..
  split
  · rw [sendLink_beside, h]
  · exact h

/-! ### What an uplink may send -/

theorem offer_of_maySend {s : State} {u : Nat} {k : TxKind} (o : Out) (h : maySend s u k = true) : offer s u k o = s.send o := if_pos h

/-- A frame of one link and what it carries: the queue changes, and the one thing sent is what it carries. -/
theorem sendLink_out {s : State} {u : Nat} {k : TxKind} (len : Nat) (o : Out) (h : maySend s u k = true) :
    (sendLink s u len k o).out = o :: s.out := by
  have henq : (sendLink s u len k o).out = (offer s u k o).out := (enqueue_within ..).parts .out rfl
  rw [henq, offer_of_maySend o h, send_out]

/-- Traffic that is no EAPOL or MKA goes out on a usable uplink. -/
theorem maySend_of_usable {s : State} {u : Nat} {k : TxKind} (h : upUsable s u = true) (he : k ≠ .eapol) (hm : k ≠ .mka) :
    maySend s u k = true := by
  cases k with
  | eapol => exact absurd rfl he
  | mka => exact absurd rfl hm
  | traffic => simp [maySend, h]
  | ptpEvent => simp [maySend, h]

/-! ### Faults -/

theorem enterMode_net {m : Mode} (s : State) (cause : Nat) (h : m ≠ .run) : (enterMode s m cause).net = s.net := by
  unfold enterMode
  split
  · rfl
  · extract_lets s0 s1 s2
    have h0 : s0.net = s.net := by unfold s0; split <;> rfl
    have h1 : s1.net = s0.net := (modeEvent_within ..).parts .net rfl
    exact h1.trans h0

theorem raiseFault_net (s : State) (b d : Nat) : (raiseFault s b d).net = s.net := by
  unfold raiseFault
  split
  · rfl
  · extract_lets s1 s2 s3
    have h2 : s2.net = s.net := (recordEvent_within ..).parts .net rfl
    have h3 : s3.net = s2.net := enterMode_net _ _ (by decide)
    split
    · exact h3.trans h2
    · exact h2

theorem upBit_lt (u : Nat) : upBit u < 32 := by
  unfold upBit
  split <;> decide

theorem upFault_bit (s : State) (u : Nat) : (upFault s u).rdBit Od.sys_health (upBit u) = true := raiseFault_bit _ _ _ (upBit_lt u)

theorem stampUsable_keepsBit (s : State) (u i b e : Nat) : (stampUsable s u).rdBit i b e = s.rdBit i b e :=
  rdBit_of_within (stampUsable_within s u) i b e

/-! ### 802.1X, lost links and MKA -/

theorem eapolStart_dot1x (s : State) (u : Nat) : (eapolStart s u).rd Od.net_dot1x_state u = 1 := by
  rw [eapolStart, (sendLink_within ..).keeps _ _]
  exact rd_wr_fit _ _ _ _ (by decide)

/-- Beside the three entries a lost link puts down, its loss touches the secure session, the uplink's fault and the events alone. -/
theorem linkLost_after_entries (s : State) (u linkState : Nat) :
    Within (some [Od.sys_health, Od.sys_fault_count, Od.net_macsec_state, Od.rec_dropped]) [.mode, .net, .recd, .sys]
      (((s.wr Od.net_link_state linkState u).wr Od.net_speed 0 u).wr Od.net_dot1x_state 0 u) (linkLost s u linkState) :=
  .after (stampUsable_within ..) rfl rfl <| .after (upFault_within ..) rfl rfl <| .wr _ _ _ rfl <|
    .after (offerAll_within ..) rfl rfl <| .after (reauthDone_within ..) rfl rfl <| .refl _ _ _

theorem linkLost_fault (s : State) (u linkState : Nat) : (linkLost s u linkState).rdBit Od.sys_health (upBit u) = true := by
  rw [linkLost, stampUsable_keepsBit]
  exact upFault_bit ..

theorem linkLost_entries (s : State) (u : Nat) {linkState : Nat} (h : linkState < 2 ^ 8) :
    (linkLost s u linkState).rd Od.net_link_state u = linkState ∧ (linkLost s u linkState).rd Od.net_speed u = 0 ∧
      (linkLost s u linkState).rd Od.net_dot1x_state u = 0 := by
  have hframe := linkLost_after_entries s u linkState
  refine ⟨?_, ?_, ?_⟩
  · rw [hframe.keeps _ _, rd_wr_ne _ _ _ _ _ _ (by decide), rd_wr_ne _ _ _ _ _ _ (by decide)]
    exact rd_wr_fit _ _ _ _ h
  · rw [hframe.keeps _ _, rd_wr_ne _ _ _ _ _ _ (by decide)]
    exact rd_wr_fit _ _ _ _ (by decide)
  · rw [hframe.keeps _ _]
    exact rd_wr_fit _ _ _ _ (by decide)

/-- Once MKA negotiates, its frame, the key's use and the uplink's fault leave `net_macsec_state`. -/
theorem startMka_macsec (s : State) (u : Nat) : (startMka s u).rd Od.net_macsec_state u = 1 := by
  unfold startMka
  extract_lets n s1 s2
  have h1 : s1.rd Od.net_macsec_state u = 1 := rd_wr_fit _ _ _ _ (by decide)
  have h2 : s2.rd Od.net_macsec_state u = s1.rd Od.net_macsec_state u := by
    unfold s2
    split
    · exact rd_wr_ne _ _ _ _ _ _ (by decide)
    · rfl
  rw [(upFault_within ..).keeps _ _, (sendLink_within ..).keeps _ _, h2, h1]

theorem startMka_beside (s : State) (u : Nat) : besideUplinks (startMka s u).net = besideUplinks s.net := by
  unfold startMka
  extract_lets n s1 s2
  have h2 : s2.net = s.net := by
    unfold s2
    split <;> rfl
  rw [upFault, raiseFault_net, sendLink_beside, h2]

end Sys2Proof.Proofs

/-!
## Uplink links and their faults (R37, R107, R108, R126)
-/
namespace Sys2Proof.Proofs

open Sys2Proof Sys2Proof.Machine Sys2Proof.Safety Sys2Proof.Laws

theorem powered_not_standby {s : State} (h : powered s = true) : s.mode ≠ .standby := by
  rintro hm
  simp [powered, hm] at h

/-- R108, R76: a link that had none comes up at a speed it advertises, outside a speed shift. -/
theorem uplinkLinkUp_offered {s : State} {u speed : Nat} (hp : powered s = true) (hoff : speedOffered s u speed = true)
    (hst : s.rd Od.net_link_state u ≤ 1) :
    uplinkLinkUp u speed s =
      upFault (stampUsable (eapolStart ((s.wr Od.net_link_state 2 u).wr Od.net_speed speed u) u) u) u := by
  have h2 : s.rd Od.net_link_state u ≠ 2 := by omega
  have h3 : s.rd Od.net_link_state u ≠ 3 := by omega
  simp [uplinkLinkUp, powered_not_standby hp, hp, hoff, h2, h3]

/-- The link state, the speed and 802.1X as such a link shows them. -/
theorem linkUp_entries (s : State) (u : Nat) {speed : Nat} (h : speed < 2 ^ 16) :
    let t := upFault (stampUsable (eapolStart ((s.wr Od.net_link_state 2 u).wr Od.net_speed speed u) u) u) u
    t.rd Od.net_link_state u = 2 ∧ t.rd Od.net_speed u = speed ∧ t.rd Od.net_dot1x_state u = 1 := by
  refine ⟨?_, ?_, ?_⟩
  · rw [(upFault_within ..).keeps _ _, (stampUsable_within ..).keeps _ _, (eapolStart_within ..).keeps _ _,
      rd_wr_ne _ _ _ _ _ _ (by decide)]
    exact rd_wr_fit _ _ _ _ (by decide)
  · rw [(upFault_within ..).keeps _ _, (stampUsable_within ..).keeps _ _, (eapolStart_within ..).keeps _ _]
    exact rd_wr_fit _ _ _ _ h
  · rw [(upFault_within ..).keeps _ _, (stampUsable_within ..).keeps _ _, eapolStart_dot1x]

theorem uplinkLinkDown_powered {s : State} (u : Nat) (hp : powered s = true) : uplinkLinkDown u s = linkLost s u 0 := by
  simp [uplinkLinkDown, powered_not_standby hp, hp]

theorem prpSilenceTimeout_usable {s : State} {u : Nat} (hp : powered s = true) (hprp : s.rd Od.net_mode = 1)
    (hu : upUsable s u = true) : prpSilenceTimeout u s = upFault s u := by
  simp [prpSilenceTimeout, prp, hp, hprp, hu]

theorem uplinkFaultClear_usable {s : State} {u : Nat} (hp : powered s = true) (hu : upUsable s u = true) :
    uplinkFaultClear u s = clearFault s (upBit u) := by
  simp [uplinkFaultClear, hp, hu]

theorem standbyLinkRetry_lost {s : State} {u : Nat} (hm : s.mode = .standby) (h : (upOf s u).standbyLink = false) :
    standbyLinkRetry u s = negotiate s u [100] true := by
  simp [standbyLinkRetry, hm, h]

theorem uplinkLinkUp_standby {s : State} (u : Nat) (hm : s.mode = .standby) :
    uplinkLinkUp u 100 s = putUp s u { upOf s u with standbyLink := true } := by
  simp [uplinkLinkUp, hm]

theorem putUp_od (s : State) (u : Nat) (x : UplinkState) : (putUp s u x).od = s.od := by
  unfold putUp
  split <;> rfl

/-- A negotiation begins with what it sends and with the speeds it advertises. -/
theorem negotiate_effect (s : State) (u : Nat) (speeds : List Nat) (eee : Bool) :
    (negotiate s u speeds eee).out = .negotiate u speeds eee :: s.out ∧ (negotiate s u speeds eee).od = s.od ∧
      (upOf (negotiate s u speeds eee) u).advertised = speeds := by
  refine ⟨?_, putUp_od .., ?_⟩
  · exact congrArg _ ((putUp_within ..).parts .out rfl)
  · rw [negotiate, upOf_of_net (send_net ..), upOf_putUp_self]

/-- Settles O10: what each command comes to, and what the link's, the fault's and the negotiation's rules say of it. -/
theorem uplinkLinksAndFaults : Obligations.UplinkLinksAndFaults := by
  refine ⟨fun s u speed hp hspeed hoff hst => ⟨_, next_of_eq (uplinkLinkUp_offered hp hoff hst), ?_⟩,
    fun s u hp => ⟨_, next_of_eq (uplinkLinkDown_powered u hp), ?_⟩,
    fun s u hp hprp hu => ⟨_, next_of_eq (prpSilenceTimeout_usable hp hprp hu), upFault_bit ..⟩,
    fun s u hp hu => ⟨_, next_of_eq (uplinkFaultClear_usable hp hu), clearFault_bit _ _ (upBit_lt u)⟩,
    fun s u hm h => ⟨_, next_of_eq (standbyLinkRetry_lost hm h), negotiate_effect ..⟩,
    fun s u hm _ => ⟨_, next_of_eq (uplinkLinkUp_standby u hm), ?_, putUp_od ..⟩⟩
  · have hfit : speed < 2 ^ 16 := by
      fin_cases hspeed <;> decide
    obtain ⟨hlink, hshown, hdot1x⟩ := linkUp_entries s u hfit
    exact ⟨hlink, hshown, hdot1x, upFault_bit ..⟩
  · obtain ⟨hlink, hshown, hdot1x⟩ := linkLost_entries s u (linkState := 0) (by decide)
    exact ⟨hlink, hshown, hdot1x, linkLost_fault ..⟩
  · rw [upOf_putUp_self]

end Sys2Proof.Proofs

/-!
## Frames on the uplinks: PRP, supervision, proxies and queues (R19, R110 to R116, R121)
-/
namespace Sys2Proof.Proofs

open Sys2Proof Sys2Proof.Machine Sys2Proof.Safety Sys2Proof.Laws

/-! ### Received frames (R19, R106, R114, R121) -/

theorem macsecOn_of_off {s : State} (u : Nat) (h : s.rd Od.net_macsec = 0) : macsecOn s u = false := by
  simp [macsecOn, h]

theorem macsecOn_of_secured {s : State} {u : Nat} (h : s.rd Od.net_macsec ≠ 0) (hst : s.rd Od.net_macsec_state u = 2) :
    macsecOn s u = true := by
  simp [macsecOn, h, hst]

theorem uplinkFrameRx_oversize {s : State} (u : Nat) {f : UplinkFrame} (hr : running s = true) (hlen : 2048 < f.len) :
    uplinkFrameRx u f s = s.count Od.net_rx_oversize u := by
  simp [uplinkFrameRx, hr, hlen]

/-- Without MACsec a frame for the module on a usable uplink is accepted. -/
theorem uplinkFrameRx_own {s : State} {u : Nat} {f : UplinkFrame} (hr : running s = true) (hlen : f.len ≤ 2048)
    (hk : f.kind = .own) (hm : s.rd Od.net_macsec = 0) (hu : upUsable s u = true) : uplinkFrameRx u f s = acceptFrame s u f := by
  simp [uplinkFrameRx, hr, Nat.not_lt.mpr hlen, hk, macsecOn_of_off u hm, hu]

theorem acceptFrame_own_without_prp {s : State} (u : Nat) {f : UplinkFrame} (hk : f.kind = .own) (hmode : s.rd Od.net_mode = 0) :
    acceptFrame s u f = s.send (.routed .own f.len) := by
  simp [acceptFrame, prp, hmode, deliver, hk]

/-- R121: a packet number below what the replay window admits. -/
theorem macsecRefuses_replay {s : State} {u : Nat} {f : UplinkFrame} {x : SecTag} (hx : f.sec = some x)
    (hpn : x.pn + s.rd Od.net_macsec_window < (upOf s u).rxPn) : macsecRefuses s u f = true := by
  simp [macsecRefuses, hx, hpn]

theorem uplinkFrameRx_replayed {s : State} {u : Nat} {f : UplinkFrame} {x : SecTag} (hr : running s = true) (hlen : f.len ≤ 2048)
    (hk : f.kind = .own) (hm : s.rd Od.net_macsec ≠ 0) (hst : s.rd Od.net_macsec_state u = 2) (hx : f.sec = some x)
    (hpn : x.pn + s.rd Od.net_macsec_window < (upOf s u).rxPn) : uplinkFrameRx u f s = s.count Od.net_macsec_drops u := by
  simp [uplinkFrameRx, hr, Nat.not_lt.mpr hlen, hk, macsecOn_of_secured hm hst, hst, macsecRefuses_replay hx hpn]

/-- R114: on LAN A a second copy with LAN A's own identifier is counted, discarded and noted. -/
theorem acceptFrame_second_copy {s : State} {f : UplinkFrame} {seq : Nat} {d : DupEntry} (hprp : s.rd Od.net_mode = 1)
    (hk : f.kind = .own) (ht : f.trailer = some (seq, 0xA))
    (hd : s.net.dup.find? (fun d => d.src == f.src && d.seq == seq) = some d) (hfirst : d.second = false) :
    acceptFrame s 0 f = dupSeen ((s.count Od.net_prp_rx 0).count Od.net_prp_discarded) f.src seq := by
  have hcheck : dupCheck (s.count Od.net_prp_rx 0) 0 f.src seq = none := by
    simp [dupCheck, hd, hfirst]
  simp [acceptFrame, prp, hprp, ht, hk, hcheck]

/-! ### Forgotten copies, supervision and proxies (R114 to R116) -/

/-- The table's only entry is a first copy: it is counted on its LAN and forgotten. -/
theorem prpForgetExpiry_single {s : State} {d : DupEntry} (hd : s.net.dup = [d]) (hfirst : d.second = false) :
    prpForgetExpiry d.src d.seq s = ({ s with net := { s.net with dup := [] } } : State).count Od.net_prp_single d.lan := by
  simp [prpForgetExpiry, hd, hfirst]

/-- Under PRP a frame takes the next sequence number of its destination. -/
theorem sendUp_prpSeq {s : State} (u q len dst : Nat) (hprp : prp s = true) :
    (sendUp s u q len dst).net.prpSeq = tabPut dst ((tabGet 0 dst s.net.prpSeq + 1) % 65536) s.net.prpSeq := by
  rw [sendUp, if_pos hprp]
  exact prpSeq_of_beside ((enqueue_beside ..).trans (enqueue_beside ..))

theorem sendUp_out (s : State) (u q len dst : Nat) : (sendUp s u q len dst).out = s.out := (sendUp_within ..).parts .out rfl

/-- Without proxies one supervision frame goes out for the module itself, offered to both LANs. -/
theorem prpSupervisionTx_alone {s : State} (hr : running s = true) (hprp : prp s = true) (hp : s.net.proxies = [])
    (h0 : maySend s 0 .traffic = true) (h1 : maySend s 1 .traffic = true) :
    prpSupervisionTx s = sendOwn ((s.send (.supervision 0 0)).send (.supervision 1 0)) 0 3 64 0x01154E000100 := by
  have h1' : maySend (s.send (.supervision 0 0)) 1 .traffic = true := h1
  simp [prpSupervisionTx, hr, hprp, hp, offer_of_maySend _ h0, offer_of_maySend _ h1']

theorem proxyEntryAgeout_count {s : State} (mac : Nat) (h : s.net.proxies.length ≤ 4096) :
    (proxyEntryAgeout mac s).rd Od.net_prp_proxied = (proxyEntryAgeout mac s).net.proxies.length := by
  have hle : (s.net.proxies.filter (· != mac)).length ≤ s.net.proxies.length := List.length_filter_le ..
  exact rd_wr_fit s Od.net_prp_proxied _ 0 (show (s.net.proxies.filter (· != mac)).length < 2 ^ 16 by omega)

/-! ### Transmission (R110, R112, R113) -/

/-- What decides whether MACsec protects a frame stays over a frame boundary. -/
theorem secured_frameBoundary (s : State) (u : Nat) (k : TxKind) : secured (frameBoundary s u) u k = secured s u k := by
  have hrd : ∀ i e, i ≠ Od.net_q_drops → (frameBoundary s u).rd i e = s.rd i e := fun i e hi =>
    (frameBoundary_within s u).entries i e (by simpa [admits] using hi)
  have hwaits : (frameBoundary s u).net.mkaBWaits = s.net.mkaBWaits := mkaBWaits_of_beside (frameBoundary_beside s u)
  have hon : macsecOn (frameBoundary s u) u = macsecOn s u := by
    rw [macsecOn, macsecOn, hrd _ _ (by decide), hrd _ _ (by decide), hwaits]
  rw [secured, secured, hon]

theorem txFrameStart_picked {s : State} {u q : Nat} {have_ : List Nat} {f : TxFrame} (hr : running s = true)
    (hs : s.rd Od.net_speed u ≠ 0) (hpick : pickQueue (frameBoundary s u) u have_ = some (q, f)) :
    txFrameStart u have_ s = startFrame (frameBoundary s u) u q f := by
  simp [txFrameStart, hr, hs, hpick]

theorem startFrame_out_of_unsecured {s : State} {u : Nat} (q : Nat) {f : TxFrame} (h : secured s u f.kind = false) :
    .txStart u q f.len f.resend f.trailer none ∈ (startFrame s u q f).out := by
  simp [startFrame, h]

theorem startFrame_started (s : State) (u q : Nat) (f : TxFrame) : (upOf (startFrame s u q f) u).started = some (q, f) := by
  rw [startFrame, upOf_of_net (send_net ..), upOf_of_net (count_net ..), upOf_putUp_self]

/-- The uplink after an underrun of the frame on its wire, which waits again at the head of its queue (R113). -/
def underrunUplink (x : UplinkState) (q : Nat) (f : TxFrame) : UplinkState :=
  { x with started := none, egress := none, queues := modAt (fun l => { f with resend := true } :: l) q x.queues }

theorem txUnderrun_started {s : State} {u q : Nat} {f : TxFrame} (hst : (upOf s u).started = some (q, f)) (hf : f.resend = false) :
    txUnderrun u s =
      blockEvent (((((putUp s u (underrunUplink (upOf s u) q f)).send (.txAborted u q)).wr Od.net_tx_thresh
        (min (s.rd Od.net_tx_thresh u + 256) 2048) u)).count Od.net_underruns u) 0x03 1 u 1 true (pay [(1, q)]) := by
  simp [txUnderrun, hst, hf, underrunUplink]

/-- Settles O11: the case each command takes, and what that case leaves. -/
theorem uplinkFrames : Obligations.UplinkFrames := by
  refine ⟨fun s u f hr hlen hk hm hmode hu => next_of_eq
      ((uplinkFrameRx_own hr hlen hk hm hu).trans (acceptFrame_own_without_prp u hk hmode)),
    fun s u f x hr hlen hk hm hst hx hpn => next_of_eq (uplinkFrameRx_replayed hr hlen hk hm hst hx hpn),
    fun s f seq hr hlen hk ht hm hmode hu hdup => ?_,
    fun s u f hr hlen => next_of_eq (uplinkFrameRx_oversize u hr hlen),
    fun s d hd hfirst hfit => ⟨_, next_of_eq (prpForgetExpiry_single hd hfirst), rfl, rd_count_self hfit⟩,
    fun s hr hmode hp h0 h1 => ?_,
    fun s mac h => ⟨_, rfl, rfl, proxyEntryAgeout_count mac h⟩,
    fun s u q have_ f hr hs hpick hsec => ⟨_, next_of_eq (txFrameStart_picked hr hs hpick), ?_, startFrame_started ..⟩,
    fun s u q f hst hf => ⟨_, next_of_eq (txUnderrun_started hst hf), ?_, ?_, ?_⟩⟩
  · have hd : s.net.dup.find? (fun d => d.src == f.src && d.seq == seq) = some ⟨f.src, seq, 1, false⟩ := by simp [hdup]
    refine ⟨_, next_of_eq ((uplinkFrameRx_own hr hlen hk hm hu).trans (acceptFrame_second_copy hmode hk ht hd rfl)),
      rfl, ?_⟩
    simp [dupSeen, hdup]
  · have hprp : prp s = true := by simp [prp, hmode]
    refine ⟨_, next_of_eq (prpSupervisionTx_alone hr hprp hp h0 h1), ?_, ?_⟩
    · exact sendUp_out ..
    · have hprp' : prp ((s.send (.supervision 0 0)).send (.supervision 1 0)) = true := hprp
      rw [sendOwn, sendUp_prpSeq _ _ _ _ hprp', tabGet_tabPut_self]
      rfl
  · exact startFrame_out_of_unsecured q ((secured_frameBoundary ..).trans hsec)
  · rw [(blockEvent_within ..).keeps _ _, rd_count_ne _ _ _ _ _ _ (by decide)]
    exact rd_wr_fit _ _ _ _ (show min (s.rd Od.net_tx_thresh u + 256) 2048 < 2 ^ 16 by omega)
  · rw [upOf_of_net ((blockEvent_within ..).parts .net rfl), upOf_of_net (count_net ..), upOf_of_net (wr_net ..),
      upOf_of_net (send_net ..), upOf_putUp_self, underrunUplink]
  · rw [(blockEvent_within ..).parts .out rfl]
    exact congrArg _ ((putUp_within ..).parts .out rfl)

end Sys2Proof.Proofs

/-!
## PTP and MACsec on the uplinks (R32, R118 to R122)
-/
namespace Sys2Proof.Proofs

open Sys2Proof Sys2Proof.Machine Sys2Proof.Safety Sys2Proof.Laws

/-! ### PTP (R32, R118 to R120) -/

/-- R32: once RUN has been entered the servo slews and steps no more. -/
theorem servo_slewing {s : State} (offset freq : Int) (h : s.net.ran = true) :
    servo s offset freq = { s with net := { s.net with freq := clampInt (-100000) 100000 freq, slew := -offset } } := by
  simp [servo, h]

/-- A measurement that locks, on the port in use, in state 2: both results are shown, and the servo takes it in state 3. -/
theorem ptpMessageRx_sync_locks {s : State} {u : Nat} (offset : Int) (delay : Nat) (freq : Int) (hr : running s = true)
    (hu : upUsable s u = true) (hprofile : s.rd Od.net_ptp_profile ≠ 0) (hport : s.rd Od.net_ptp_port = u)
    (hst : s.rd Od.net_ptp_state = 2) :
    ptpMessageRx u (.sync offset delay true freq) s =
      servo (((s.wrInt Od.net_ptp_offset (clampInt (-2147483647) 2147483647 offset) u).wr Od.net_ptp_delay delay u).wr
        Od.net_ptp_state 3) offset freq := by
  simp [ptpMessageRx, hr, hu, hprofile, hport, hst]

/-- A peer-delay request is answered under the profiles that use the peer mechanism. -/
theorem ptpMessageRx_pdelayReq_out {s : State} {u : Nat} (hr : running s = true) (hu : upUsable s u = true)
    (hprofile : 2 ≤ s.rd Od.net_ptp_profile) :
    (ptpMessageRx u .pdelayReq s).out = .pdelayResp u (ptpTransport s) :: s.out := by
  have h0 : s.rd Od.net_ptp_profile ≠ 0 := by omega
  rw [ptpMessageRx, if_neg (by simp [hr, hu, h0])]
  rw [if_pos hprofile]
  exact sendLink_out _ _ (maySend_of_usable hu (by simp) (by simp))

/-- R119: with the only master lost the timebase holds over. -/
theorem ptpAnnounceTimeout_last_master {s : State} (hr : running s = true) (hport : s.rd Od.net_ptp_port = 0)
    (hb : s.net.b.master = none) :
    ptpAnnounceTimeout s = (putUp s 0 { upOf s 0 with master := none }).wr Od.net_ptp_state 4 := by
  have hbest : bestPort (putUp s 0 { upOf s 0 with master := none }) = 0xFF := by
    simp [bestPort, putUp, hb]
  simp [ptpAnnounceTimeout, hr, hport, hbest]

/-! ### MACsec (R121, R122) -/

theorem mkaRestartB_idle {s : State} (h : s.net.mkaBWaits = false) : mkaRestartB s = s := by
  simp [mkaRestartB, h]

/-- With no restart of uplink B waiting, a secured session concerns its own uplink alone. -/
theorem mkaSecured_negotiating {s : State} {u : Nat} (sci : Nat) (hr : running s = true) (hm : s.rd Od.net_macsec ≠ 0)
    (hst : s.rd Od.net_macsec_state u = 1) (hw : s.net.mkaBWaits = false) :
    mkaSecured u sci s =
      (putUp s u { upOf s u with peerSci := some sci, rxPn := 1, txPn := 1 }).wr Od.net_macsec_state 2 u := by
  have hidle : ((putUp s u { upOf s u with peerSci := some sci, rxPn := 1, txPn := 1 }).wr Od.net_macsec_state 2 u).net.mkaBWaits =
      false := (mkaBWaits_of_beside (putUp_beside ..)).trans hw
  simp only [mkaSecured, hr, hm, hst, ne_eq, not_false_eq_true, and_self, if_true, mkaRestartB_idle hidle, ite_self]

theorem mkaFailed_configured {s : State} (u : Nat) (hr : running s = true) (hm : s.rd Od.net_macsec ≠ 0) :
    mkaFailed u s = upFault (s.wr Od.net_macsec_state 3 u) u := by
  simp [mkaFailed, hr, hm]

theorem mkaRetry_failed {s : State} {u : Nat} (hr : running s = true) (hst : s.rd Od.net_macsec_state u = 3) :
    mkaRetry u s = startMka s u := by
  simp [mkaRetry, hr, hst]

/-- R122: the restart of uplink B that waited is made. -/
theorem mkaBRestartTimeout_waiting {s : State} (hr : running s = true) (hw : s.net.mkaBWaits = true)
    (hm : s.rd Od.net_macsec ≠ 0) :
    mkaBRestartTimeout s = startMka { s with net := { s.net with mkaBWaits := false } } 1 := by
  have hm' : ({ s with net := { s.net with mkaBWaits := false } } : State).rd Od.net_macsec ≠ 0 := hm
  rw [mkaBRestartTimeout, if_pos hr, mkaRestartB, if_pos hw, mkaRestart, if_neg hm']

/-- Settles O12: each command's one case, and what its write, its frame or its fault shows. -/
theorem ptpAndMacsec : Obligations.PtpAndMacsec := by
  refine ⟨fun s u offset delay freq hr hu hprofile hport hst hran => ⟨_, next_of_eq
      ((ptpMessageRx_sync_locks offset delay freq hr hu hprofile hport hst).trans (servo_slewing _ _ hran)), ?_, rfl, rfl, rfl⟩,
    fun s hr hport hb => ⟨_, next_of_eq (ptpAnnounceTimeout_last_master hr hport hb), rd_wr_self _ _ _ _, rfl, rfl⟩,
    fun s u hr hu hprofile => ⟨_, rfl, ptpMessageRx_pdelayReq_out hr hu hprofile⟩,
    fun s u sci hr hm hst hw => ⟨_, next_of_eq (mkaSecured_negotiating sci hr hm hst hw), rd_wr_self _ _ _ _, ?_⟩,
    fun s u hr hm => ⟨_, next_of_eq (mkaFailed_configured u hr hm), ?_, upFault_bit ..⟩,
    fun s u hr hst => ⟨_, next_of_eq (mkaRetry_failed hr hst), startMka_macsec ..⟩,
    fun s hr hw hm => ⟨_, next_of_eq (mkaBRestartTimeout_waiting hr hw hm), ?_, startMka_macsec ..⟩⟩
  · exact rd_wr_self _ Od.net_ptp_state 3 0
  · rw [upOf_of_net (wr_net ..), upOf_putUp_self]
  · rw [(upFault_within ..).keeps _ _]
    exact rd_wr_self _ _ _ _
  · exact mkaBWaits_of_beside (startMka_beside ..)

end Sys2Proof.Proofs

/-!
## A reservoir number beyond the health word (R42, R64)

The tests of R64 are of two reservoirs, 0 and 1, and every command that starts one names one of these. The last clause of
`Obligations.ReservoirsChargeAndTest` speaks of every number that the test under way may name: of 32 too, whose bit the 32 bits of
`sys_health` do not have, so that no verdict shows there.
-/
namespace Sys2Proof.Proofs

open Sys2Proof Sys2Proof.Machine Sys2Proof.Safety Sys2Proof.Laws

/-- A canonical `sys_health` has the bits 0 to 31 and no other. -/
theorem rdBit_sys_health_beyond {s : State} {b : Nat} (h : Canonical s) (hb : 32 ≤ b) : s.rdBit Od.sys_health b = false := by
  have hdflt : dfltOf s.variant Od.sys_health 0 < 2 ^ widthOf Od.sys_health := by
    cases s.variant <;> decide
  have hlt : s.rd Od.sys_health < 2 ^ 32 := widthOf_health ▸ rd_lt s _ 0 h hdflt
  exact Nat.testBit_lt_two_pow (hlt.trans_le (Nat.pow_le_pow_right (by decide) hb))

/-- The module as reset, with a test of a reservoir 32 under way: a state that no command leads to. -/
def testingReservoir32 : State := { State.reset with sys := { testing := some (32, false) } }

/-- A fall of 65,535 mV is one of 5 µF, far from the 60 mJ of R62. -/
theorem holdQualifies_steepest_fall : holdQualifies 32 ((600000 + 65535) / (2 * 65535)) 0 = false := by decide

/-- Refutes O1: a failed test of a reservoir numbered 32 sets no bit, since the health word has none of that number. The failing clause is
the last, for want of a bound on the reservoir under test. -/
theorem not_reservoirsChargeAndTest : ¬ Obligations.ReservoirsChargeAndTest := by
  rintro ⟨-, -, -, -, -, hcomplete⟩
  obtain ⟨t, ht, -, -, -, hbit, -⟩ := hcomplete testingReservoir32 32 0 65535 rfl (by decide) (by decide) (by decide)
  obtain rfl : holdTestComplete 0 65535 testingReservoir32 = t := Host.Outcome.next.inj ht
  have hcanonical : Canonical (holdTestComplete 0 65535 testingReservoir32) := (holdTestComplete_within ..).canonical rfl
  rw [rdBit_sys_health_beyond hcanonical (Nat.le_refl 32), holdQualifies_steepest_fall] at hbit
  exact Bool.false_ne_true hbit

end Sys2Proof.Proofs

/-!
## Power failure, HOLDUP and BACKUP (R52, R58, R60, R61)
-/
namespace Sys2Proof.Proofs

open Sys2Proof Sys2Proof.Machine Sys2Proof.Safety Sys2Proof.Laws

/-! ### The power-failure sequence (R52, R60) -/

/-- What a power failure leaves in HOLDUP: the object service stopped, nobody waiting for an answer, and whether VMAIN is back. -/
def HeldUp (back : Bool) (t : State) : Prop :=
  t.mode = .holdup ∧ t.txn.waiting = [] ∧ t.sys.appUp = false ∧ t.sys.vmainBack = back

theorem HeldUp.of_within {back : Bool} {w : Option (List Nat)} {ps : List Part} {s t : State} (hs : HeldUp back s)
    (h : Within w ps s t) (hm : ps.contains .mode = false := by rfl) (htx : ps.contains .txn = false := by rfl)
    (hsys : ps.contains .sys = false := by rfl) : HeldUp back t := by
  have hmode : t.mode = s.mode := h.parts .mode hm
  have htxn : t.txn = s.txn := h.parts .txn htx
  have hsy : t.sys = s.sys := h.parts .sys hsys
  rwa [HeldUp, hmode, htxn, hsy]

theorem shedLoads_service (s : State) (partials : List (Nat × LineCycle)) :
    (shedLoads s partials).txn.waiting = [] ∧ (shedLoads s partials).sys.appUp = false := ⟨rfl, rfl⟩

theorem heldUp_lastStore {s : State} (back : Bool) (hm : s.mode = .holdup) (hw : s.txn.waiting = []) (hup : s.sys.appUp = false) :
    HeldUp back (lastStore s back) := ⟨hm, hw, hup, rfl⟩

/-- The last store, begun or taken over from what was stored, leaves what the sequence has left so far. -/
theorem powerFailure_heldUp {s : State} (vmain : Nat) (partials : List (Nat × LineCycle)) (back : Bool) (hp : powered s = true) :
    HeldUp back (powerFailure s vmain partials back) := by
  have hm : ¬(s.mode = .standby ∨ s.mode = .holdup ∨ s.mode = .backup) := by
    rintro (h | h | h) <;> simp [powered, h] at hp
  unfold powerFailure
  rw [if_neg hm]
  extract_lets v s1 s2 s4
  obtain ⟨hwaiting, hup⟩ : s1.txn.waiting = [] ∧ s1.sys.appUp = false := shedLoads_service ..
  have h4 : HeldUp back s4 := by
    clear_value s1
    have hframe : Within (some [Od.rec_dropped]) [.mode, .net, .recd] s1
        (recordEvent s2 0x0005 0xFF 3 (pay [(2, v), (1, s.mode.code)])) :=
      .after (recordEvent_within ..) rfl rfl (enterMode_within ..)
    exact heldUp_lastStore back ((recordEvent_mode ..).trans (enterMode_mode ..))
      ((congrArg TxnState.waiting (hframe.parts .txn rfl)).trans hwaiting)
      ((congrArg SysState.appUp (hframe.parts .sys rfl)).trans hup)
  clear_value s4
  split_ifs
  · exact h4.of_within (asPowerFail_within s4)
  · exact (h4.of_within (flushRecords_within s4)).of_within (beginStore_within ..)

/-! ### The end of HOLDUP and of STANDBY (R58, R60, R61) -/

theorem storePassed_ends (s : State) (snap : Bank) (us : Nat) : (storePassed s snap us).nvs.storing = none := by
  unfold storePassed
  extract_lets b s1 n s2 s3
  have h3 : s3.nvs = s2.nvs := (clearFault_within ..).parts .nvs rfl
  exact congrArg NvsState.storing h3

/-- A store that is not found bad has ended, and whether VMAIN is back stays noted. -/
theorem storeComplete_good (s : State) (us : Nat) :
    (storeComplete false us s).nvs.storing = none ∧ (storeComplete false us s).sys = s.sys := by
  unfold storeComplete
  split
  next h => exact ⟨h, rfl⟩
  next => exact ⟨storePassed_ends .., (storePassed_within ..).parts .sys rfl⟩

theorem holdupStoreComplete_without_vmain {s : State} (us : Nat) (f : StartFacts) (hm : s.mode = .holdup)
    (hback : s.sys.vmainBack = false) :
    holdupStoreComplete false us f s = enterMode ((storeComplete false us s).wr Od.sys_clk_run 0) .backup causePOWER := by
  obtain ⟨hstoring, hsys⟩ := storeComplete_good s us
  simp [holdupStoreComplete, hm, hstoring, hsys, hback]

/-- Neither STANDBY nor BACKUP takes a record, so the mode is all that changes. -/
theorem standbyVmainFail_standby {s : State} (h : s.mode = .standby) : standbyVmainFail s = { s with mode := .backup } := by
  simp [standbyVmainFail, enterMode, modeEvent, recordEvent, h]

/-- Settles O4: the power failure's sequence, the noted return of VMAIN, the end of the store, and the loss of VMAIN in STANDBY. -/
theorem powerFailureLeadsThroughHoldup : Obligations.PowerFailureLeadsThroughHoldup := by
  refine ⟨fun s vmain partials hp hv => ⟨_, next_of_eq (if_pos hv), powerFailure_heldUp vmain partials false hp⟩,
    fun s vmain partials hp hv => ⟨_, next_of_eq (if_pos hv), powerFailure_heldUp vmain partials true hp⟩,
    fun s hm => next_of_eq (if_pos hm),
    fun s us f hm hback => ⟨_, next_of_eq (holdupStoreComplete_without_vmain us f hm hback), enterMode_mode .., ?_⟩,
    fun s hm => ⟨_, next_of_eq (standbyVmainFail_standby hm), rfl, rfl, rfl⟩⟩
  have hnvs := (enterMode_within ((storeComplete false us s).wr Od.sys_clk_run 0) .backup causePOWER).parts .nvs rfl
  exact (congrArg NvsState.storing hnvs).trans (storeComplete_good s us).1

end Sys2Proof.Proofs

/-!
## Every start (R44, R50, R52, R53, R57, R123)
-/
namespace Sys2Proof.Proofs

open Sys2Proof Sys2Proof.Machine Sys2Proof.Safety Sys2Proof.Laws

/-! ### The self-tests leave BOOT as the mode (R50) -/

/-- Outside RUN and DOZE a fault changes neither the mode nor the mode machine's state (R39). -/
theorem raiseFault_keeps {s : State} (b d : Nat) (hr : s.mode ≠ .run) (hd : s.mode ≠ .doze) :
    (raiseFault s b d).mode = s.mode ∧ (raiseFault s b d).sys = s.sys := by
  unfold raiseFault
  split
  · exact ⟨rfl, rfl⟩
  · rw [if_neg (by simp [hr, hd])]
    exact ⟨recordEvent_mode .., (recordEvent_within ..).parts .sys rfl⟩

theorem mode_ite {c : Prop} [Decidable c] {s t : State} {m : Mode} (hs : s.mode = m) (ht : t.mode = m) :
    (if c then s else t).mode = m := by
  split
  · exact hs
  · exact ht

theorem raiseFault_boot {s : State} (b d : Nat) (h : s.mode = .boot) : (raiseFault s b d).mode = .boot :=
  (raiseFault_keeps b d (by simp [h]) (by simp [h])).1.trans h

theorem setTrip_boot {s : State} (b : Nat) (h : s.mode = .boot) : (setTrip s b).mode = .boot :=
  ((setTrip_within s b).parts .mode rfl).trans h

theorem engineFailed_boot {s : State} (a b : Bool) (h : s.mode = .boot) : (engineFailed s a b).mode = .boot := by
  unfold engineFailed
  extract_lets s1 s2 fa fb
  have h1 : s1.mode = .boot := mode_ite (raiseFault_boot _ _ h) h
  have h2 : s2.mode = .boot := mode_ite (raiseFault_boot _ _ h1) h1
  exact h2

theorem islandFault_boot {s : State} (h : s.mode = .boot) : (islandFault s).mode = .boot :=
  ((outsOff_within _).parts .mode rfl).trans (setTrip_boot _ (raiseFault_boot _ _ h))

theorem sequencerStop_boot {s : State} (h : s.mode = .boot) : (sequencerStop s).mode = .boot := by
  unfold sequencerStop
  extract_lets s1
  have h1 : Within (some [Od.cal_state]) [.turn] s s1 :=
    .foldl (fun _ _ => .ite (.after (putBank_within ..) rfl rfl (.wr _ _ _ rfl (.refl _ _ _))) (.refl _ _ _)) _ (.refl _ _ _)
  have hmode : s1.mode = s.mode := h1.parts .mode rfl
  clear_value s1
  exact raiseFault_boot _ _ (hmode.trans h)

theorem raiseFaults_boot {s : State} (bad : Nat → Bool) (bits : List Nat) (h : s.mode = .boot) :
    (bits.foldl (fun t b => if bad b then raiseFault t b else t) s).mode = .boot := by
  induction bits generalizing s with
  | nil => exact h
  | cons b bits ih => exact ih (mode_ite (raiseFault_boot _ _ h) h)

theorem selfTests_boot {s : State} (f : StartFacts) (h : s.mode = .boot) : (selfTests f s).mode = .boot := by
  unfold selfTests
  extract_lets bad s1 s2 s3 s4 s5
  have h1 : s1.mode = .boot := raiseFaults_boot bad _ h
  have h2 : s2.mode = .boot := mode_ite (setTrip_boot _ h1) (mode_ite h1 h1)
  have h3 : s3.mode = .boot := mode_ite (engineFailed_boot _ _ h2) h2
  have h4 : s4.mode = .boot := mode_ite (setTrip_boot _ h3) h3
  have h5 : s5.mode = .boot := mode_ite (islandFault_boot h4) h4
  exact mode_ite (sequencerStop_boot h5) h5

/-! ### What a start leaves (R53, R163) -/

/-- What every start leaves: BOOT, with the points, the field ports and the local bus as at reset (R53, R163; the local bus descriptor words
by log entry 184). -/
def Started (t : State) : Prop := t.mode = .boot ∧ t.pts = {} ∧ t.fld = {} ∧ t.lbs = {}

theorem Started.of_within {w : Option (List Nat)} {ps : List Part} {s t : State} (hs : Started s) (h : Within w ps s t)
    (hm : ps.contains .mode = false := by rfl) (hp : ps.contains .pts = false := by rfl)
    (hf : ps.contains .fld = false := by rfl) (hl : ps.contains .lbs = false := by rfl) : Started t := by
  obtain ⟨hmode, hpts, hfld, hlbs⟩ := hs
  exact ⟨(h.parts .mode hm).trans hmode, (h.parts .pts hp).trans hpts, (h.parts .fld hf).trans hfld, (h.parts .lbs hl).trans hlbs⟩

theorem Started.selfTests {s : State} (f : StartFacts) (hs : Started s) : Started (selfTests f s) := by
  obtain ⟨hmode, hpts, hfld, hlbs⟩ := hs
  have h := selfTests_within f s
  exact ⟨selfTests_boot f hmode, (h.parts .pts rfl).trans hpts, (h.parts .fld rfl).trans hfld, (h.parts .lbs rfl).trans hlbs⟩

theorem clearVolatile_started {s : State} (k : StartKind) (f : StartFacts) (h : s.mode = .boot) :
    Started (clearVolatile k f s) := ⟨h, rfl, rfl, rfl⟩

/-- The start-up sequence clears in BOOT; what follows the clearing up to the self-tests touches none of it. -/
theorem startOnce_started (k : StartKind) (f : StartFacts) (wake : Option (Nat × Nat)) (s : State) :
    Started (startOnce k f wake s) := by
  unfold startOnce
  extract_lets recd old s0 s1 s2 s3
  have h0 : s0.mode = .boot := enterMode_mode ..
  have hfound : (sramFound k s0).mode = .boot := ((sramFound_within k s0).parts .mode rfl).trans h0
  have h1 : Started s1 := (clearVolatile_started k f hfound).of_within (meringueRow_within ..)
  clear_value s0 s1
  have h2 : Started s2 := (h1.of_within (startEntries_within ..)).of_within (thresholds_within ..)
  clear_value s2
  have h3 : Started s3 :=
    ((h2.of_within (keysBoot_within _)).of_within (selectImage_within ..)).of_within (updBoot_within _)
  clear_value s3
  exact ((h3.of_within (islandBoot_within _)).of_within (prgBoot_within _)).selfTests f

theorem startUp_started (k : StartKind) (f : StartFacts) (wake : Option (Nat × Nat)) (s : State) :
    Started (startUp k f wake s) := by
  unfold startUp
  dsimp only
  split <;> exact startOnce_started ..

/-! ### The starts (R44, R52, R57, R123, R402) -/

theorem watchdogReset_resets {s : State} (f : StartFacts) (hh : s.mode ≠ .holdup) (hb : s.mode ≠ .backup) :
    watchdogReset f s = startUp .wdr f none s := by
  simp [watchdogReset, resettable, hh, hb]

theorem softwareReset_due {s : State} (w : Who) (f : StartFacts) (h : s.sys.resetDue = some .swr) :
    softwareReset w f s = startUp .swr f none s := by
  simp [softwareReset, h]

theorem wakeUp_standby {s : State} (bits hit : Nat) (f : StartFacts) (h : s.mode = .standby) :
    wakeUp bits hit f s = startUp .wake f (some (bits, hit)) s := if_pos h

theorem wakePin_wakes {s : State} (f : StartFacts) (hm : s.mode = .standby) (hsrc : s.rdBit Od.sys_wake_src 2 = true) :
    wakePin f s = startUp .wake f (some (4, 0xFFFF)) s := by
  rw [wakePin, if_pos hsrc, wakeUp_standby _ _ _ hm]

theorem wakeTimed_wakes {s : State} (f : StartFacts) (hm : s.mode = .standby) (hsrc : s.rdBit Od.sys_wake_src 3 = true)
    (ht : s.rd Od.sys_wake_time ≠ 0) (hdue : s.rd Od.sys_wake_time / 1000000000 ≤ rtcTime s / 1000000000) :
    wakeTimed f s = startUp .wake f (some (8, 0xFFFF)) s := by
  rw [wakeTimed, if_pos ⟨hsrc, ht, hdue⟩, wakeUp_standby _ _ _ hm]

theorem wakePatternMatch_wakes {s : State} {u p : Nat} {frame : List Nat} (f : StartFacts) (hu : u < 2) (hm : s.mode = .standby)
    (hsrc : s.rdBit Od.sys_wake_src u = true) (hlink : (upOf s u).standbyLink = true) (hhit : wakeHit s u frame = some p) :
    wakePatternMatch u frame true f s = startUp .wake f (some (2 ^ u, u * 256 + p)) s := by
  simp [wakePatternMatch, hu, hm, hsrc, hlink, hhit]

theorem wakePatternMatch_bad_fcs (u : Nat) (frame : List Nat) (f : StartFacts) (s : State) :
    wakePatternMatch u frame false f s = s := by
  simp [wakePatternMatch]

/-- Settles O5: each command comes to a start, and every start leaves the same. -/
theorem everyStartEntersBoot : Obligations.EveryStartEntersBoot :=
  ⟨fun _ _ hh => ⟨_, next_of_eq (if_neg hh), startUp_started ..⟩,
    fun _ f hh hb => ⟨_, next_of_eq (watchdogReset_resets f hh hb), startUp_started ..⟩,
    fun _ w f hdue => ⟨_, next_of_eq (softwareReset_due w f hdue), startUp_started ..⟩,
    fun _ _ hp hdue => ⟨_, next_of_eq (if_pos ⟨hp, hdue⟩), startUp_started ..⟩,
    fun _ f hm hsrc => ⟨_, next_of_eq (wakePin_wakes f hm hsrc), startUp_started ..⟩,
    fun _ f hm hsrc ht hdue => ⟨_, next_of_eq (wakeTimed_wakes f hm hsrc ht hdue), startUp_started ..⟩,
    fun _ _ _ _ f hu hm hsrc hlink hhit => ⟨_, next_of_eq (wakePatternMatch_wakes f hu hm hsrc hlink hhit), startUp_started ..⟩,
    fun s u frame f => next_of_eq (wakePatternMatch_bad_fcs u frame f s)⟩

end Sys2Proof.Proofs

/-!
## The object service stops at an MPR and starts again (R48, R50, R52, R102, R163)
-/
namespace Sys2Proof.Proofs

open Sys2Proof Sys2Proof.Machine Sys2Proof.Safety Sys2Proof.Laws

/-! ### Transactions rolled back (R53, R94) -/

/-- The Meringue contents without the transaction descriptors. -/
def besideDescs (m : Meringue) : Meringue := { m with descs := [] }

theorem closeTxn_keeps {s : State} (h cause status reqid seq : Nat) (ho : s.txn.opens = []) :
    (closeTxn s h cause status reqid seq).txn.opens = [] ∧
      besideDescs (closeTxn s h cause status reqid seq).mer = besideDescs s.mer := by
  unfold closeTxn
  split
  · exact ⟨ho, rfl⟩
  · extract_lets e old s1 s2
    have h2 : Within (some [Od.txn_closure]) [] s s2 :=
      .wr _ _ _ rfl (.foldl (fun _ _ => .wr _ _ _ rfl (.refl _ _ _)) _ (.refl _ _ _))
    have htxn : s2.txn = s.txn := h2.parts .txn rfl
    have hmer : s2.mer = s.mer := h2.parts .mer rfl
    refine ⟨?_, (congrArg besideDescs hmer :)⟩
    show s2.txn.opens.filter _ = []
    rw [htxn, ho, List.filter_nil]

theorem freeDesc_keeps {s : State} (d : TxnDesc) (ho : s.txn.opens = []) :
    (freeDesc s d).txn.opens = [] ∧ besideDescs (freeDesc s d).mer = besideDescs s.mer := by
  unfold freeDesc
  extract_lets done
  split_ifs
  · exact ⟨ho, rfl⟩
  · exact closeTxn_keeps _ _ _ _ _ ho
  · exact closeTxn_keeps _ _ _ _ _ ho

theorem freeDescs_keep {s : State} (ds : List TxnDesc) (ho : s.txn.opens = []) :
    (ds.foldl freeDesc s).txn.opens = [] ∧ besideDescs (ds.foldl freeDesc s).mer = besideDescs s.mer := by
  induction ds generalizing s with
  | nil => exact ⟨ho, rfl⟩
  | cons d ds ih =>
    obtain ⟨ho', hmer⟩ := freeDesc_keeps d ho
    obtain ⟨hopens, hrest⟩ := ih ho'
    exact ⟨hopens, hrest.trans hmer⟩

/-- No transaction is open any more, and of the Meringue contents only descriptors have gone. -/
theorem rollBackAll_keeps (s : State) : (rollBackAll s).txn.opens = [] ∧ besideDescs (rollBackAll s).mer = besideDescs s.mer :=
  freeDescs_keep (s := { s with txn := { s.txn with opens := [], versions := [] } }) s.mer.descs rfl

/-! ### An MPR and its completion (R52, R163) -/

/-- An MPR stops the object service, shows its cause and leaves no transaction open. -/
theorem mpReset_stops (s : State) :
    (mpReset s).sys.appUp = false ∧ (mpReset s).rd Od.sys_reset_cause = 4 ∧ (mpReset s).txn.opens = [] := by
  unfold mpReset
  extract_lets s1 s2 s3 clk sys txn s4 recd pts
  have h1 : s1.txn.opens = [] := (rollBackAll_keeps _).1
  have h2 : s2.rd Od.sys_reset_cause = 4 := by
    rw [rd_wr_ne _ _ _ _ _ _ (by decide), countSat_eq, rd_wr_ne _ _ _ _ _ _ (by decide)]
    exact rd_wr_fit _ _ _ _ (by decide)
  have h3 : Within (some [Od.upd_state]) [] s2 s3 := .ite (.wr _ _ _ rfl (.refl _ _ _)) (.refl _ _ _)
  have hopens : s3.txn.opens = [] := (congrArg TxnState.opens (h3.parts .txn rfl)).trans h1
  have hcause : s4.rd Od.sys_reset_cause = 4 := (rd_wr_ne _ _ _ _ _ _ (by decide)).trans ((h3.keeps _ _).trans h2)
  exact ⟨congrArg SysState.appUp ((startRecord_within _).parts .sys rfl), ((startRecord_within _).keeps _ _).trans hcause,
    (congrArg TxnState.opens ((startRecord_within _).parts .txn rfl)).trans hopens⟩

theorem mprCommand_due {s : State} (w : Who) (hdue : s.sys.resetDue = some .mpr) (hup : s.sys.appUp = true) :
    mprCommand w s = mpReset s := by
  simp [mprCommand, hdue, hup]

theorem appWatchdogExpiry_serving {s : State} (hr : running s = true) (hup : s.sys.appUp = true) :
    appWatchdogExpiry s = mpReset s := by
  simp [appWatchdogExpiry, serves, hr, hup]

theorem mprComplete_stopped {s : State} (hr : running s = true) (hup : s.sys.appUp = false) :
    mprComplete s = bspResume (serviceStarts s) := by
  simp [mprComplete, hr, hup]

/-- The service's start, with the replay that it asks for, stays over the resumed bulk stream (R102, R163). -/
theorem bspResume_serviceStarts_sys (s : State) :
    (bspResume (serviceStarts s)).sys = { s.sys with appUp := true, replayTo := some (s.rd Od.txn_next_seq - 1) } :=
  (bspResume_within (serviceStarts s)).parts .sys rfl

/-! ### The uplinks at the end of BOOT (R48, log entry 15) -/

theorem upUsable_congr {s t : State} {u : Nat} (hlink : (t.rd Od.net_link_state u == 2) = (s.rd Od.net_link_state u == 2))
    (hdot1x : t.rd Od.net_dot1x_state u = s.rd Od.net_dot1x_state u) (hmacsec : t.rd Od.net_macsec = s.rd Od.net_macsec)
    (hstate : t.rd Od.net_macsec_state u = s.rd Od.net_macsec_state u) (hwaits : t.net.mkaBWaits = s.net.mkaBWaits) :
    upUsable t u = upUsable s u := by
  simp only [upUsable, secureEnough, macsecOn, hlink, hdot1x, hmacsec, hstate, hwaits]

theorem negotiate_beside (s : State) (u : Nat) (speeds : List Nat) (eee : Bool) :
    besideUplinks (negotiate s u speeds eee).net = besideUplinks s.net := putUp_beside ..

/-- A link is sought on an uplink whose state is 0: the first half of what the end of BOOT does for an uplink. -/
def linkSought (s : State) (u : Nat) : State :=
  if s.rd Od.net_link_state u = 0 then negotiate (s.wr Od.net_link_state 1 u) u (allSpeeds s u) false else s

theorem linkSought_within (s : State) (u : Nat) : Within (some [Od.net_link_state]) [.net, .out] s (linkSought s u) :=
  .ite (.after (negotiate_within ..) rfl rfl (.wr _ _ _ rfl (.refl _ _ _))) (.refl _ _ _)

/-- Seeking a link changes no uplink's usability: of the states 0 and 1 neither is up. -/
theorem upUsable_linkSought (s : State) (u v : Nat) : upUsable (linkSought s u) v = upUsable s v := by
  have h := linkSought_within s u
  have hlink : ((linkSought s u).rd Od.net_link_state v == 2) = (s.rd Od.net_link_state v == 2) := by
    unfold linkSought
    split
    next h0 =>
      rw [(negotiate_within ..).keeps _ _]
      by_cases huv : v = u
      · rw [huv, rd_wr_fit _ _ _ _ (by decide), h0]
        rfl
      · rw [rd_wr_elem _ _ _ _ _ _ huv]
    next => rfl
  have hbeside : besideUplinks (linkSought s u).net = besideUplinks s.net := by
    unfold linkSought
    split
    · exact negotiate_beside ..
    · rfl
  exact upUsable_congr hlink (h.keeps _ _) (h.keeps _ _) (h.keeps _ _) (mkaBWaits_of_beside hbeside)

/-- What the end of BOOT does for an uplink: its link is sought, and an uplink that is not usable is a fault. -/
def uplinkBoot (s : State) (u : Nat) : State :=
  if upUsable (linkSought s u) u then linkSought s u else upFault (linkSought s u) u

theorem uplinksBoot_eq (s : State) : uplinksBoot s = uplinkBoot (uplinkBoot s 0) 1 := by
  unfold uplinkBoot
  rfl

theorem upUsable_uplinkBoot (s : State) (u v : Nat) : upUsable (uplinkBoot s u) v = upUsable s v := by
  unfold uplinkBoot
  split
  · exact upUsable_linkSought ..
  · have h := upFault_within (linkSought s u) u
    have hnet : (upFault (linkSought s u) u).net = (linkSought s u).net := raiseFault_net ..
    rw [← upUsable_linkSought s u v]
    exact upUsable_congr (by rw [h.keeps _ _]) (h.keeps _ _) (h.keeps _ _) (h.keeps _ _) (by rw [hnet])

theorem degraded_uplinkBoot (s : State) (u : Nat) : degraded (uplinkBoot s u) = (degraded s || !upUsable s u) := by
  have hsought : degraded (linkSought s u) = degraded s := by rw [degraded, (linkSought_within s u).keeps _ _, degraded]
  unfold uplinkBoot
  rw [upUsable_linkSought]
  cases upUsable s u with
  | true => simp [hsought]
  | false => simp [degraded_of_rdBit (upFault_bit (linkSought s u) u)]

/-- After BOOT the module is degraded where it was, or where an uplink is not usable. -/
theorem degraded_uplinksBoot (s : State) : degraded (uplinksBoot s) = (degraded s || !upUsable s 0 || !upUsable s 1) := by
  rw [uplinksBoot_eq, degraded_uplinkBoot, degraded_uplinkBoot, upUsable_uplinkBoot]

theorem uplinkBoot_keeps {s : State} (u : Nat) (h : s.mode = .boot) :
    (uplinkBoot s u).mode = .boot ∧ (uplinkBoot s u).sys = s.sys := by
  have hsought := linkSought_within s u
  have hmode : (linkSought s u).mode = .boot := (hsought.parts .mode rfl).trans h
  have hsys : (linkSought s u).sys = s.sys := hsought.parts .sys rfl
  unfold uplinkBoot
  split
  · exact ⟨hmode, hsys⟩
  · obtain ⟨hm, hs⟩ := raiseFault_keeps (s := linkSought s u) (upBit u) 0 (by simp [hmode]) (by simp [hmode])
    exact ⟨hm.trans hmode, hs.trans hsys⟩

theorem uplinksBoot_sys {s : State} (h : s.mode = .boot) : (uplinksBoot s).sys = s.sys := by
  obtain ⟨h0, hs0⟩ := uplinkBoot_keeps 0 h
  obtain ⟨-, hs1⟩ := uplinkBoot_keeps 1 h0
  rw [uplinksBoot_eq, hs1, hs0]

/-! ### The mode that ends BOOT (R48) -/

theorem moduleLatch_congr {s t : State} (hv : t.variant = s.variant) (hrd : ∀ o, t.rd Od.saf_out_fault o = s.rd Od.saf_out_fault o)
    (hmer : besideDescs t.mer = besideDescs s.mer) : moduleLatch t = moduleLatch s := by
  have hearlier : t.mer.outEarlier = s.mer.outEarlier := (congrArg Meringue.outEarlier hmer :)
  have hucm : t.mer.ucm = s.mer.ucm := (congrArg Meringue.ucm hmer :)
  have hcodes : codesOf t = codesOf s := funext fun o => by simp only [codesOf, hrd, hearlier]
  simp only [moduleLatch, outCodes, safOuts, State.perVariant, hv, hcodes, hucm]

/-- BOOT's end up to the choice of the mode: the transactions rolled back and the time that BOOT took. -/
def bootClosed (s : State) (ms : Nat) : State := (rollBackAll s).wr Od.sys_boot_ms (min ms (2 ^ 32 - 1))

theorem bootClosed_within (s : State) (ms : Nat) :
    Within (some [Od.txn_closure, Od.sys_boot_ms]) [.mer, .txn] s (bootClosed s ms) :=
  .wr _ _ _ rfl ((rollBackAll_within s).mono rfl rfl)

/-- Closing the transactions bears on no step of R48. -/
theorem bootHolds_bootClosed {s : State} (ms : Nat) (h : s.mode = .boot) :
    bootHolds (uplinksBoot (bootClosed s ms)) = bootHolds s := by
  have hclosed := bootClosed_within s ms
  have hup := uplinksBoot_within (bootClosed s ms)
  have hsys : (uplinksBoot (bootClosed s ms)).sys = s.sys :=
    (uplinksBoot_sys ((hclosed.parts .mode rfl).trans h)).trans (hclosed.parts .sys rfl)
  have hlatch : moduleLatch (uplinksBoot (bootClosed s ms)) = moduleLatch s :=
    moduleLatch_congr (hup.variant.trans hclosed.variant) (fun _ => (hup.keeps _ _).trans (hclosed.keeps _ _))
      ((congrArg besideDescs (hup.parts .mer rfl)).trans (rollBackAll_keeps s).2)
  rw [bootHolds, bootHolds, hsys, hlatch, hup.keeps _ _, hclosed.keeps _ _]

theorem bootSelection_bootClosed {s : State} (ms : Nat) (h : s.mode = .boot) :
    bootSelection (uplinksBoot (bootClosed s ms)) = bootSelection (uplinksBoot s) := by
  have hclosed := bootClosed_within s ms
  have hup := uplinksBoot_within (bootClosed s ms)
  have hup' := uplinksBoot_within s
  have husable : ∀ u, upUsable (bootClosed s ms) u = upUsable s u := fun u =>
    upUsable_congr (by rw [hclosed.keeps _ _]) (hclosed.keeps _ _) (hclosed.keeps _ _) (hclosed.keeps _ _)
      (congrArg NetState.mkaBWaits (hclosed.parts .net rfl))
  have hdegraded : degraded (uplinksBoot (bootClosed s ms)) = degraded (uplinksBoot s) := by
    rw [degraded_uplinksBoot, degraded_uplinksBoot, husable, husable, degraded, hclosed.keeps _ _, degraded]
  have hflash : (uplinksBoot (bootClosed s ms)).flashValid = (uplinksBoot s).flashValid :=
    (hup.parts .flashValid rfl).trans ((hclosed.parts .flashValid rfl).trans (hup'.parts .flashValid rfl).symm)
  have hsys : (uplinksBoot (bootClosed s ms)).sys = (uplinksBoot s).sys :=
    (uplinksBoot_sys ((hclosed.parts .mode rfl).trans h)).trans ((hclosed.parts .sys rfl).trans (uplinksBoot_sys h).symm)
  have hupd : (uplinksBoot (bootClosed s ms)).upd = (uplinksBoot s).upd :=
    (hup.parts .upd rfl).trans ((hclosed.parts .upd rfl).trans (hup'.parts .upd rfl).symm)
  rw [bootSelection, bootSelection, hflash, hsys, hupd, hdegraded]

theorem bootExit_mode (s : State) : (bootExit s).mode = if bootHolds s then .safeHold else bootSelection s := enterMode_mode ..

/-- The parts that BOOT's end may change once the service has started: neither the mode nor the mode machine is among them. -/
def afterServiceParts : List Part :=
  [.ana, .ctl, .fld, .free, .lbs, .lft, .mer, .mot, .net, .out, .pts, .recd, .saf, .turn, .upd]

theorem bootEnd_after_service {s t u : State} (h : Within none afterServiceParts s t)
    (hu : u = startRecord (anchor (trendEntries t) 5)) :
    Within none afterServiceParts s (if u.mode = .safeHold then lftSafeHold (motSafeHold (ctlSafeHold u)) else u) := by
  have hrecord : Within none afterServiceParts s u :=
    hu ▸ .after (startRecord_within _) rfl rfl (.after (anchor_within ..) rfl rfl (.after (trendEntries_within _) rfl rfl h))
  exact .ite (.after (lftSafeHold_within _) rfl rfl (.after (motSafeHold_within _) rfl rfl
    (.after (ctlSafeHold_within _) rfl rfl hrecord))) hrecord

/-- With BOOT's end reached, the mode is chosen and the service starts. -/
theorem bootEnd_effect {s : State} (ms : Nat) (hm : s.mode = .boot) (hw : bootWaits s = false) :
    (bootEnd ms s).sys.appUp = true ∧ (bootEnd ms s).mode = (bootExit (uplinksBoot (bootClosed s ms))).mode := by
  unfold bootEnd
  rw [if_pos (by simp [hm, hw])]
  extract_lets s1 s2 s3
  have hs1 : s1 = bootExit (uplinksBoot (bootClosed s ms)) := rfl
  have hparts : Within none afterServiceParts (serviceStarts s1) s2 :=
    .after (startParts_within _) rfl rfl ((bspResume_within _).mono rfl rfl)
  have hs3 : s3 = startRecord (anchor (trendEntries s2) 5) := rfl
  clear_value s1 s2 s3
  have hrest := bootEnd_after_service hparts hs3
  have hup : (serviceStarts s1).sys.appUp = true := rfl
  have hmode : (serviceStarts s1).mode = s1.mode := rfl
  exact ⟨(congrArg SysState.appUp (hrest.parts .sys rfl)).trans hup, hs1 ▸ (hrest.parts .mode rfl).trans hmode⟩

/-- Settles O6: an MPR of either cause, its completion, and the end of BOOT. -/
theorem serviceStopsAndStarts : Obligations.ServiceStopsAndStarts := by
  refine ⟨fun s w hdue hup => ⟨_, next_of_eq (mprCommand_due w hdue hup), ?_⟩,
    fun s hr hup => ⟨_, next_of_eq (appWatchdogExpiry_serving hr hup), ?_⟩,
    fun s hr hup => ⟨_, next_of_eq (mprComplete_stopped hr hup), ?_⟩,
    fun s ms hm hw => ⟨_, rfl, ?_⟩⟩
  · obtain ⟨hdown, hcause, hopens⟩ := mpReset_stops s
    exact ⟨hdown, hcause, hopens, (mpReset_within s).parts .mode rfl⟩
  · obtain ⟨hdown, hcause, hopens⟩ := mpReset_stops s
    exact ⟨hdown, hcause, hopens, (mpReset_within s).parts .mode rfl⟩
  · rw [bspResume_serviceStarts_sys]
    exact ⟨rfl, rfl, (bspResume_within (serviceStarts s)).parts .mode rfl⟩
  · obtain ⟨hup, hmode⟩ := bootEnd_effect ms hm hw
    exact ⟨hup, by rw [hmode, bootExit_mode, bootHolds_bootClosed ms hm, bootSelection_bootClosed ms hm]⟩

end Sys2Proof.Proofs

/-!
## Transitions of mode (R46, R55, R56)
-/
namespace Sys2Proof.Proofs

open Sys2Proof Sys2Proof.Machine Sys2Proof.Safety Sys2Proof.Laws

/-! ### Requests that start or lapse (R46) -/

/-- What a request's transition comes to: the mode, and the requests that still wait. -/
def InModeWith (m : Mode) (reqs : List (Nat × Nat)) (t : State) : Prop := t.mode = m ∧ t.sys.modeReqs = reqs

theorem InModeWith.of_within {m : Mode} {reqs : List (Nat × Nat)} {w : Option (List Nat)} {ps : List Part} {s t : State}
    (hs : InModeWith m reqs s) (h : Within w ps s t) (hm : ps.contains .mode = false := by rfl)
    (hsys : ps.contains .sys = false := by rfl) : InModeWith m reqs t :=
  ⟨(h.parts .mode hm).trans hs.1, (congrArg SysState.modeReqs (h.parts .sys hsys)).trans hs.2⟩

theorem InModeWith.enterMode {m : Mode} {reqs : List (Nat × Nat)} {s : State} (hs : InModeWith m reqs s) (m' : Mode) (cause : Nat) :
    InModeWith m' reqs (enterMode s m' cause) :=
  ⟨enterMode_mode .., (congrArg SysState.modeReqs ((enterMode_within ..).parts .sys rfl)).trans hs.2⟩

/-- The queue with its only request taken. -/
def requestTaken (s : State) : State := { s with sys := { s.sys with modeReqs := [] } }

/-- The only request, decided: for the mode itself it is no transition; otherwise it starts or lapses. -/
def requestDecided (s : State) (seq v : Nat) : State :=
  if v = s.mode.code then requestTaken s
  else if modeAdmitted (withoutRecord (requestTaken s) seq) v then grantMode (noteGrant (requestTaken s) seq) v
  else lapseMode (requestTaken s) v

theorem requestTaken_inMode (s : State) : InModeWith s.mode [] (requestTaken s) := ⟨rfl, rfl⟩

theorem modeTransitionStart_single {s : State} {seq v : Nat} (hr : running s = true) (hh : s.sys.mpHeld = false)
    (hq : s.sys.modeReqs = [(seq, v)]) : modeTransitionStart s = settle (specialDone (requestDecided s seq v) seq 7) := by
  simp [modeTransitionStart, hq, hr, hh, requestDecided, requestTaken]

/-- Completing the request's record touches neither the mode nor the queue. -/
theorem modeTransitionStart_comes_to {s : State} {seq v : Nat} {m : Mode} (hr : running s = true) (hh : s.sys.mpHeld = false)
    (hq : s.sys.modeReqs = [(seq, v)]) (h : InModeWith m [] (requestDecided s seq v)) :
    InModeWith m [] (modeTransitionStart s) := by
  rw [modeTransitionStart_single hr hh hq]
  exact (h.of_within (specialDone_within ..)).of_within (settle_within _)

/-- Outside COMMISSION a request for MAINTENANCE or DOZE that is granted enters its mode. -/
theorem grantMode_enters {s : State} {v : Nat} {m m' : Mode} {reqs : List (Nat × Nat)} (hs : InModeWith m reqs s)
    (hc : m ≠ .commission) (hv : v = 6 ∧ m' = .maintenance ∨ v = 4 ∧ m' = .doze) : InModeWith m' reqs (grantMode s v) := by
  have h1 : InModeWith m reqs (s.wr Od.sys_mode_req v) := hs
  have hmode : ¬(s.wr Od.sys_mode_req v).mode = .commission := by rw [h1.1]; exact hc
  unfold grantMode
  dsimp only
  rw [if_neg hmode]
  obtain ⟨rfl, rfl⟩ | ⟨rfl, rfl⟩ := hv
  · exact h1.enterMode ..
  · exact h1.enterMode ..

/-- A request that may start leads into the mode it names. -/
theorem requestDecided_enters {s : State} {seq v : Nat} {m' : Mode} (hv : v = 6 ∧ m' = .maintenance ∨ v = 4 ∧ m' = .doze)
    (hne : v ≠ s.mode.code) (hc : s.mode ≠ .commission) (ha : modeAdmitted (withoutRecord (requestTaken s) seq) v = true) :
    InModeWith m' [] (requestDecided s seq v) := by
  rw [requestDecided, if_neg hne, if_pos ha]
  exact grantMode_enters ((requestTaken_inMode s).of_within (noteGrant_within ..)) hc hv

/-- Outside RUN and DOZE a lapse leaves the mode and the queue (R46). -/
theorem lapseMode_keeps {s : State} {m : Mode} {reqs : List (Nat × Nat)} (v : Nat) (hs : InModeWith m reqs s) (hr : m ≠ .run)
    (hd : m ≠ .doze) : InModeWith m reqs (lapseMode s v) := by
  unfold lapseMode
  extract_lets s1 y
  have h1 : InModeWith m reqs s1 := hs.of_within (recordEvent_within ..)
  clear_value s1
  obtain ⟨rfl, hreqs⟩ := h1
  split
  · rw [degradeNow, if_neg (by simp [hr, hd])]
    exact ⟨rfl, hreqs⟩
  · exact ⟨rfl, hreqs⟩

/-- From RUN a request for MAINTENANCE or DOZE may start, from DOZE one for MAINTENANCE, and leads into the mode it names. -/
theorem modeTransitionStart_enters {s : State} {seq v : Nat} {m' : Mode} (hm : s.mode = .run ∨ s.mode = .doze ∧ v = 6)
    (hv : v = 6 ∧ m' = .maintenance ∨ v = 4 ∧ m' = .doze) (hq : s.sys.modeReqs = [(seq, v)]) (hh : s.sys.mpHeld = false) :
    InModeWith m' [] (modeTransitionStart s) := by
  have hrun : running s = true := by
    rcases hm with hm | ⟨hm, -⟩ <;> simp [running, powered, hm]
  have hc : s.mode ≠ .commission := by
    rcases hm with hm | ⟨hm, -⟩ <;> simp [hm]
  have hne : v ≠ s.mode.code := by
    rcases hm with hm | ⟨hm, rfl⟩
    · rcases hv with ⟨rfl, -⟩ | ⟨rfl, -⟩ <;> simp [hm, Mode.code]
    · simp [hm, Mode.code]
  have ha : modeAdmitted (withoutRecord (requestTaken s) seq) v = true := by
    rcases hm with hm | ⟨hm, rfl⟩
    · rcases hv with ⟨rfl, -⟩ | ⟨rfl, -⟩ <;> simp [modeAdmitted, withoutRecord, requestTaken, hm]
    · simp [modeAdmitted, withoutRecord, requestTaken, hm]
  exact modeTransitionStart_comes_to hrun hh hq (requestDecided_enters hv hne hc ha)

theorem modeAdmitted_safeHold {s : State} (v : Nat) (h : s.mode = .safeHold) : modeAdmitted s v = false := by
  simp [modeAdmitted, h]

/-- SAFE_HOLD admits no request: one for the mode itself is no transition, and any other lapses. -/
theorem requestDecided_safeHold {s : State} (seq v : Nat) (hm : s.mode = .safeHold) :
    InModeWith .safeHold [] (requestDecided s seq v) := by
  have h0 : InModeWith .safeHold [] (requestTaken s) := hm ▸ requestTaken_inMode s
  have ha : modeAdmitted (withoutRecord (requestTaken s) seq) v = false := modeAdmitted_safeHold v hm
  by_cases hv : v = s.mode.code
  · rw [requestDecided, if_pos hv]
    exact h0
  · rw [requestDecided, if_neg hv, if_neg (by simp [ha])]
    exact lapseMode_keeps v h0 (by simp) (by simp)

/-! ### The end of a STANDBY entry (R56) -/

/-- What STANDBY is reached with: the object service stopped and no store in progress. -/
def InStandby (t : State) : Prop := t.mode = .standby ∧ t.sys.appUp = false ∧ t.nvs.storing = none

theorem InStandby.of_within {w : Option (List Nat)} {ps : List Part} {s t : State} (hs : InStandby s) (h : Within w ps s t)
    (hm : ps.contains .mode = false := by rfl) (hsys : ps.contains .sys = false := by rfl)
    (hnvs : ps.contains .nvs = false := by rfl) : InStandby t := by
  obtain ⟨hmode, hup, hstoring⟩ := hs
  exact ⟨(h.parts .mode hm).trans hmode, (congrArg SysState.appUp (h.parts .sys hsys)).trans hup,
    (congrArg NvsState.storing (h.parts .nvs hnvs)).trans hstoring⟩

/-- What is switched off is no store, and the uplinks' negotiation touches nothing of it. -/
theorem standbyReached_inStandby {s : State} (h : s.nvs.storing = none) : InStandby (standbyReached s) := by
  unfold standbyReached
  extract_lets linked s1 sys txn nrg s2
  have hmode : s1.mode = .standby := enterMode_mode ..
  have hoff : Within none [.ana, .fld, .lbs, .mode, .net, .recd, .saf] s s1 :=
    .after (enterMode_within ..) rfl rfl (.wr _ _ _ rfl (.after (fieldOff_within _) rfl rfl (.after (lbsOff_within _) rfl rfl
      (.after (islandOff_within _) rfl rfl ((hartOff_within _).mono rfl rfl)))))
  clear_value s1
  have h2 : InStandby s2 := ⟨hmode, rfl, (congrArg NvsState.storing (hoff.parts .nvs rfl)).trans h⟩
  clear_value s2
  have hnegotiated : Within (some []) [.net, .out] s2 (linked.foldl (fun t u => negotiate t u [100] true) s2) :=
    .foldl (fun _ _ => negotiate_within ..) _ (.refl _ _ _)
  exact h2.of_within hnegotiated

/-- The completed store of a STANDBY entry that is under way, with no other waiting and no wake meanwhile, leads into STANDBY. -/
theorem standbyEntryComplete_inStandby {s : State} {b : Bank} (us : Nat) (hstoring : s.nvs.storing = some (3, b))
    (hqueue : s.nvs.queued.any (fun q => q.1 == 3) = false) (hoff : entryOff s = true) (hwake : s.sys.wakeDuringEntry = none) :
    InStandby (standbyEntryComplete us s) := by
  obtain ⟨s', b', h⟩ : ∃ s' b', standbyStored us s = some (standbyReached (storePassed s' b' us)) := by
    simp only [standbyStored, hstoring, hqueue, hoff]
    exact ⟨_, _, rfl⟩
  rw [standbyEntryComplete, h, hwake]
  exact standbyReached_inStandby (storePassed_ends ..)

/-- Settles O7: the three requests that start, those that lapse in SAFE_HOLD, and the completed store of a STANDBY entry. -/
theorem modeTransitions : Obligations.ModeTransitions :=
  ⟨fun _ _ hm hq hh => ⟨_, rfl, modeTransitionStart_enters (.inl hm) (.inl ⟨rfl, rfl⟩) hq hh⟩,
    fun _ _ hm hq hh => ⟨_, rfl, modeTransitionStart_enters (.inr ⟨hm, rfl⟩) (.inl ⟨rfl, rfl⟩) hq hh⟩,
    fun _ _ hm hq hh => ⟨_, rfl, modeTransitionStart_enters (.inl hm) (.inr ⟨rfl, rfl⟩) hq hh⟩,
    fun s seq v hm hq hh =>
      have hrun : running s = true := by simp [running, powered, hm]
      ⟨_, rfl, modeTransitionStart_comes_to hrun hh hq (requestDecided_safeHold seq v hm)⟩,
    fun _ us _ hstoring hqueue hoff hwake => ⟨_, rfl, standbyEntryComplete_inStandby us hstoring hqueue hoff hwake⟩⟩

end Sys2Proof.Proofs

/-!
## Items past the elements, and over absent elements (R67)
-/
namespace Sys2Proof.Proofs

open Sys2Proof Sys2Proof.Machine Sys2Proof.Safety Sys2Proof.Laws

-- On one thread, as the tests are: the package as one text leaves no room for more.
set_option Elab.async false

theorem readItem_past_elements (s : State) (port : Nat) (staged : List ElemW) {it : WItem} {d : EntryDef}
    (hd : entryDef? it.index = some d) (hn : d.nX < it.first + it.count) : readItem s port staged it = (.noSuchIndex, []) := by
  simp [readItem, hd, hn]

theorem checkItem_past_elements (s : State) (c : Ctx) {it : WItem} {d : EntryDef} (hd : entryDef? it.index = some d)
    (hc : it.count ≠ 0) (hn : d.nX < it.first + it.count) : checkItem s c it = .noSuchIndex := by
  simp [checkItem, hd, hc, hn]

/-- A read that the tenant may make, of elements of the entry and in its type, is OK and carries their values. -/
theorem readItem_ok {s : State} {port : Nat} (staged : List ElemW) {it : WItem} {d : EntryDef} (hd : entryDef? it.index = some d)
    (hn : it.first + it.count ≤ d.nX) (hacc : d.acc ≠ .wo) (hmay : mayReadTenant s (tenantOf s port) it.index = true)
    (hty : it.ty = d.ty.code) (hdata : it.data = []) :
    readItem s port staged it =
      (.ok, valsData d.ty.size ((List.range it.count).map (fun k => readStaged s staged it.index (it.first + k)))) := by
  simp [readItem, hd, Nat.not_lt.mpr hn, hacc, hmay, hty, hdata]

theorem readStaged_nothing (s : State) (i e : Nat) : readStaged s [] i e = readElem s i e := rfl

theorem length_valsData (n : Nat) (vs : List Nat) : (valsData n vs).length = vs.length * n := by
  simp [valsData, List.length_flatMap, length_beBytes]

/-- The bytes of the value at a place of a list of values. -/
theorem slice_valsData (n : Nat) {k : Nat} {vs : List Nat} {v : Nat} (h : vs[k]? = some v) :
    slice (valsData n vs) (k * n) n = beBytes n v := by
  obtain ⟨hk, rfl⟩ := List.getElem?_eq_some_iff.mp h
  have hvs : vs = vs.take k ++ vs[k] :: vs.drop (k + 1) := by rw [← List.drop_eq_getElem_cons hk, List.take_append_drop]
  have hsplit : valsData n vs = valsData n (vs.take k) ++ (beBytes n vs[k] ++ valsData n (vs.drop (k + 1))) := by
    rw [valsData, congrArg (List.flatMap _) hvs, List.flatMap_append, List.flatMap_cons]
    rfl
  have hlen : (valsData n (vs.take k)).length = k * n := by rw [length_valsData, List.length_take_of_le hk.le]
  rw [slice, hsplit, ← hlen, List.drop_left]
  exact List.take_left' (length_beBytes ..)

theorem beBytes_zero (n : Nat) : beBytes n 0 = List.replicate n 0 := by
  induction n with
  | zero => rfl
  | succ n ih => simp [beBytes, ih, List.replicate_succ]

/-- Settles O45: the element count is checked first in both requests; an absent element reads 0, whose bytes are zeros, and is the next check of
a write. -/
theorem itemsPastTheElementsAreRefused : Obligations.ItemsPastTheElementsAreRefused := by
  refine ⟨fun s port staged c it d hd hc hn => ⟨readItem_past_elements s port staged hd hn, checkItem_past_elements s c hd hc hn⟩,
    fun s port k it d hd hn hacc hmay hty hdata hk ha => ?_,
    fun s c k it d hd hn hk ha => checkItem_wrongVariant s c hd hn hk (.inl ha)⟩
  rw [readItem_ok [] hd hn hacc hmay hty hdata]
  refine ⟨rfl, ?_⟩
  have hvalue : ((List.range it.count).map (fun k => readStaged s [] it.index (it.first + k)))[k]? = some 0 := by
    simp [hk, readStaged_nothing, readElem_absent hd ha]
  rw [slice_valsData _ hvalue, beBytes_zero]

end Sys2Proof.Proofs

/-!
## 802.1X on an uplink (R76)
-/
namespace Sys2Proof.Proofs

open Sys2Proof Sys2Proof.Machine Sys2Proof.Safety Sys2Proof.Laws

set_option Elab.async false

theorem eapolStart_out (s : State) (u : Nat) : (eapolStart s u).out = .eapolStart u :: s.out := sendLink_out 64 _ rfl

theorem upFault_net (s : State) (u : Nat) : (upFault s u).net = s.net := raiseFault_net ..

theorem reauthDone_reauth (s : State) (u : Nat) : (upOf (reauthDone s u) u).reauth = false := by
  rw [reauthDone, upOf_putUp_self]

/-- The stamp of R128 leaves whether a reauthentication is under way. -/
theorem stampUsable_reauth (s : State) (u : Nat) : (upOf (stampUsable s u) u).reauth = (upOf s u).reauth := by
  unfold stampUsable
  dsimp only
  split
  · rw [upOf_putUp_self]
  · rw [upOf_putUp_self]
  · rfl

/-- What a failed or abandoned exchange leaves: state 4, the uplink's fault, and no reauthentication. -/
theorem dot1xFail_leaves (s : State) (u : Nat) :
    (dot1xFail s u).rd Od.net_dot1x_state u = 4 ∧ (dot1xFail s u).rdBit Od.sys_health (upBit u) = true ∧
      (upOf (dot1xFail s u) u).reauth = false := by
  unfold dot1xFail
  refine ⟨?_, ?_, ?_⟩
  · rw [(stampUsable_within ..).keeps _ _, (upFault_within ..).keeps _ _, (reauthDone_within ..).keeps _ _,
      rd_count_ne _ _ _ _ _ _ (by decide)]
    exact rd_wr_fit _ _ _ _ (by decide)
  · rw [stampUsable_keepsBit]
    exact upFault_bit ..
  · rw [stampUsable_reauth, upOf_of_net (upFault_net ..)]
    exact reauthDone_reauth ..

/-- A success where a supplicant key is named and MACsec is off: the uplink is authorised. -/
theorem dot1xSucceed_authorises {s : State} (u : Nat) (hkey : s.rd Od.net_dot1x_key ≠ 0xFF) (hsec : s.rd Od.net_macsec = 0) :
    (dot1xSucceed s u).rd Od.net_dot1x_state u = 3 := by
  unfold dot1xSucceed
  rw [if_neg hkey]
  extract_lets s1
  have hframe : Within (some []) [.net] (s.wr Od.net_dot1x_state 3 u) s1 := reauthDone_within ..
  have hsec1 : s1.rd Od.net_macsec = 0 := by rw [hframe.keeps _ _, rd_wr_ne _ _ _ _ _ _ (by decide), hsec]
  rw [if_neg (fun h => h.1 hsec1), (stampUsable_within ..).keeps _ _, hframe.keeps _ _]
  exact rd_wr_fit _ _ _ _ (by decide)

/-! ### Frames of the switch -/

section
variable {s : State} {u : Nat}

/-- The switch's first frame takes a connecting uplink into its exchange. -/
theorem eapolFrameRx_connecting (hr : running s = true) (hl : s.rd Od.net_link_state u ≠ 0) (h : s.rd Od.net_dot1x_state u = 1) :
    eapolFrameRx u .proceed s = s.wr Od.net_dot1x_state 2 u := by
  simp [eapolFrameRx, hr, hl, h]

theorem eapolFrameRx_success (hr : running s = true) (hl : s.rd Od.net_link_state u ≠ 0) (h : s.rd Od.net_dot1x_state u = 2) :
    eapolFrameRx u .success s = dot1xSucceed s u := by
  simp [eapolFrameRx, hr, hl, h]

theorem eapolFrameRx_failure (hr : running s = true) (hl : s.rd Od.net_link_state u ≠ 0) (h : s.rd Od.net_dot1x_state u = 2) :
    eapolFrameRx u .failure s = dot1xFail s u := by
  simp [eapolFrameRx, hr, hl, h]

/-- A reauthentication is noted, and the uplink stays authorised (log entry 14). -/
theorem eapolFrameRx_reauth (hr : running s = true) (hl : s.rd Od.net_link_state u ≠ 0) (h : s.rd Od.net_dot1x_state u = 3) :
    eapolFrameRx u .reauth s = putUp s u { upOf s u with reauth := true } := by
  simp [eapolFrameRx, hr, hl, h]

end

/-- Settles O9: what each frame and each timeout comes to in the state of the exchange it meets. -/
theorem uplinkAuthentication : Obligations.UplinkAuthentication := by
  refine ⟨fun s u hr h => ⟨_, next_of_eq (if_pos ⟨hr, h⟩), sendLink_out 64 _ rfl, ((sendLink_within ..).keeps _ _).trans h⟩,
    fun s u hr hl h => ⟨_, next_of_eq (eapolFrameRx_connecting hr hl h), rd_wr_fit _ _ _ _ (by decide)⟩,
    fun s u hr hl h hkey hsec => ⟨_, next_of_eq (eapolFrameRx_success hr hl h), dot1xSucceed_authorises u hkey hsec⟩,
    fun s u hr hl h => ⟨_, next_of_eq (eapolFrameRx_failure hr hl h), ?_⟩,
    fun s u h => ⟨_, next_of_eq (if_pos (.inl h)), ?_⟩,
    fun s u hr hl h => ⟨_, next_of_eq (eapolFrameRx_reauth hr hl h), ((putUp_within ..).keeps _ _).trans h, by rw [upOf_putUp_self]⟩,
    fun s u h hre => ⟨_, next_of_eq (if_pos (.inr ⟨h, hre⟩)), ?_⟩,
    fun s u h => ⟨_, next_of_eq (if_pos h), eapolStart_dot1x s u, eapolStart_out s u⟩,
    fun s u hm h => next_of_eq (if_pos ⟨hm, h⟩)⟩
  all_goals obtain ⟨hstate, hfault, hreauth⟩ := dot1xFail_leaves s u
  · exact ⟨hstate, hfault⟩
  · exact ⟨hstate, hfault⟩
  · exact ⟨hstate, hreauth⟩

end Sys2Proof.Proofs

/-!
## Rules for the object service's answers (R68, R69, R72, R85)

What an answer sends, and what the requests that lead to one leave of the state.
-/
namespace Sys2Proof.Proofs

open Sys2Proof Sys2Proof.Machine Sys2Proof.Safety Sys2Proof.Laws

set_option Elab.async false

/-! ### Where an answer goes -/

/-- An answer leaves on the same ports after anything that keeps the entries they depend on and uplink B's wait for its turn. -/
theorem answerPorts_of_keeps {w : Option (List Nat)} {ps : List Part} {s t : State} (h : Within w ps s t)
    (hb : t.net.mkaBWaits = s.net.mkaBWaits) (o : Source) (hw : answerPortEntries.any (admits w) = false := by rfl) :
    answerPorts t o = answerPorts s o := by
  have hrd : ∀ i ∈ answerPortEntries, ∀ e, t.rd i e = s.rd i e := fun i hi e => h.entries i e (by simpa using List.any_eq_false.mp hw i hi)
  simp only [answerPortEntries, List.forall_mem_cons] at hrd
  obtain ⟨hmode, hlink, hdot1x, hmacsec, hstate, -⟩ := hrd
  have hprp : prp t = prp s := by simp only [prp, hmode]
  have hsecure : ∀ u, secureEnough t u = secureEnough s u := fun u => by simp only [secureEnough, macsecOn, hmacsec, hstate, hb]
  have hsend : ∀ u, maySend t u .traffic = maySend s u .traffic := fun u => by
    simp only [maySend, upUsable, admitted, hlink, hdot1x, hsecure]
  simp only [answerPorts, hprp, hsend]

theorem enqueue_mkaBWaits (s : State) (u q : Nat) (f : TxFrame) : (enqueue s u q f).net.mkaBWaits = s.net.mkaBWaits :=
  mkaBWaits_of_beside (enqueue_beside ..)

theorem sendUp_mkaBWaits (s : State) (u q len dst : Nat) : (sendUp s u q len dst).net.mkaBWaits = s.net.mkaBWaits := by
  unfold sendUp
  split
  · dsimp only
    rw [enqueue_mkaBWaits, enqueue_mkaBWaits]
  · exact enqueue_mkaBWaits ..

theorem answerFrame_mkaBWaits (s : State) (o : Source) (cls n : Nat) :
    (answerFrame s o cls n).net.mkaBWaits = s.net.mkaBWaits := by
  unfold answerFrame
  split_ifs
  · exact sendUp_mkaBWaits ..
  · exact congrArg NetState.mkaBWaits ((fieldSend_within ..).parts .net rfl)
  · exact congrArg NetState.mkaBWaits ((fieldSend_within ..).parts .net rfl)
  · rfl

/-! ### BACnet messages -/

theorem bacSend_out {s : State} {o : Source} (n : Nat) (x : Out) (h : answerPorts s o ≠ []) : (bacSend s o n x).out = x :: s.out := by
  rw [bacSend, if_neg h]
  exact congrArg (x :: ·) ((answerFrame_within ..).parts .out rfl)

theorem bacSend_mkaBWaits (s : State) (o : Source) (n : Nat) (x : Out) : (bacSend s o n x).net.mkaBWaits = s.net.mkaBWaits := by
  unfold bacSend
  split
  · rfl
  · exact answerFrame_mkaBWaits ..

/-- A message does not close the ports for the next one. -/
theorem answerPorts_bacSend (s : State) (o o' : Source) (n : Nat) (x : Out) : answerPorts (bacSend s o n x) o' = answerPorts s o' :=
  answerPorts_of_keeps (bacSend_within ..) (bacSend_mkaBWaits ..) o'

/-! ### Responses to requests -/

/-- A response on a logical port other than the local bus is the one thing sent. -/
theorem respond_out (s : State) {op : Nat} {w : Who} (status handle seq : Nat) (items : List RespItem) (hop : op ≠ opBACNET)
    (hw : w.port ≠ 0) :
    (respond s op w status handle seq items).out =
      .cop w (answerPorts s w.origin) op status handle (degraded s) seq items :: s.out := by
  rw [respond, if_neg hop, if_neg hw]
  exact congrArg (_ :: ·) ((answerFrame_within ..).parts .out rfl)

/-- A response after the count of its request for the port. -/
theorem respond_counted (s : State) {op : Nat} {w : Who} (status handle seq : Nat) (items : List RespItem) (hop : op ≠ opBACNET)
    (hw : w.port ≠ 0) :
    (respond (s.count Od.od_port_hits w.port) op w status handle seq items).mer = s.mer ∧
      (respond (s.count Od.od_port_hits w.port) op w status handle seq items).out =
        .cop w (answerPorts s w.origin) op status handle (degraded s) seq items :: s.out := by
  have hcount : Within (some [Od.od_port_hits]) [] s (s.count Od.od_port_hits w.port) := .count _ _ _ rfl (.refl _ _ _)
  have hdeg : degraded (s.count Od.od_port_hits w.port) = degraded s := by rw [degraded, hcount.keeps _ _, degraded]
  refine ⟨(respond_within ..).parts .mer rfl, ?_⟩
  rw [respond_out _ _ _ _ _ hop hw, answerPorts_of_within hcount, hdeg]
  rfl

/-- A request of a bound logical port other than the local bus is counted and goes on from step 5 of R69. -/
theorem request_bound {s : State} {w : Who} (op handle : Nat) (items : List WItem) (bad : Bool) (hs : serves s = true)
    (hp : w.port ≠ 0) (hp' : w.port < 256) (hk : s.rd Od.od_port_kind w.port ≠ 0) :
    request s op w handle items bad = serve (s.count Od.od_port_hits w.port) op w handle items bad := by
  rw [request, if_pos hs, if_neg (by simp [hk, hp'])]
  exact if_pos hp

end Sys2Proof.Proofs

/-!
## Reads, descriptions and datagrams (R68 to R70, R73, R89)
-/
namespace Sys2Proof.Proofs

open Sys2Proof Sys2Proof.Machine Sys2Proof.Safety Sys2Proof.Laws

set_option Elab.async false

/-! ### Reads and descriptions -/

/-- The items of an answer with their headers, statuses and data. -/
def answered (items : List WItem) (rs : List (Status × List Nat)) : List RespItem :=
  (items.zip rs).map (fun p => ⟨p.1.index, p.1.first, p.1.count, p.1.ty, p.2.1.code, p.2.2⟩)

theorem respondItems_fits (s : State) (op : Nat) (w : Who) (handle : Nat) (items : List WItem) {rs : List (Status × List Nat)}
    (h : rs.foldl (fun a r => a + 12 + pad4 r.2.length) 0 ≤ 1424) :
    respondItems s op w handle items rs = respond s op w (firstBad (rs.map (fun r => r.1))).code handle 0 (answered items rs) :=
  if_neg (Nat.not_lt.mpr h)

/-- A READ outside a transaction from step 5 of R69 on, where it repeats nothing: every item is read as committed. -/
theorem serve_read {s : State} {w : Who} (items : List WItem) (hr : w.reqid ≠ 0) (hd : duplicateOf s w = none)
    (ho : openTxn s 0 = none) :
    serve s opREAD w 0 items = respondItems s opREAD w 0 items (items.map (readItem s w.port [])) := by
  have hg : gate s opREAD w 0 = none := rfl
  simp only [serve, hd, hg]
  simp [hr, readRequest, ho, opREAD, opROLLBACK, opBEGIN]

theorem serve_describe {s : State} {w : Who} (items : List WItem) (hr : w.reqid ≠ 0) (hd : duplicateOf s w = none) :
    serve s opDESCRIBE w 0 items = respondItems s opDESCRIBE w 0 items (items.map (describeItem s w.port)) := by
  have hg : gate s opDESCRIBE w 0 = none := rfl
  simp only [serve, hd, hg]
  simp [hr, opREAD, opWRITE, opDESCRIBE, opROLLBACK, opBEGIN]

/-! ### Datagrams -/

/-- A port that matches a request is one of the 256, and is in use (R73). -/
theorem classify_bound {s : State} {rx : RxInfo} {n : Nat} (h : classify s rx = some n) : n < 256 ∧ s.rd Od.od_port_kind n ≠ 0 := by
  have hmatch : portMatch s rx n = true := List.find?_some h
  refine ⟨List.mem_range.mp (List.mem_of_find?_eq_some h), ?_⟩
  simp only [portMatch, Bool.and_eq_true, bne_iff_ne] at hmatch
  obtain ⟨⟨-, hkind⟩, -⟩ := hmatch
  exact hkind

/-- A datagram that passes step 1 of R69 and matches a logical port acts as its request. -/
theorem copDatagramRx_classified {s : State} {rx : RxInfo} {bytes : List Nat} {f : CopFrame} {n : Nat} (hs : serves s = true)
    (hdiscard : rx.discard = false) (hlen : bytes.length ≤ 1452) (hf : parseCop bytes = some f) (hn : classify s rx = some n)
    (hn0 : n ≠ 0) (hv : f.version = 1) (hq : rx.queueFull = false) :
    copDatagramRx rx bytes s = request s f.op ⟨n, f.client, f.reqid, rx.toSource⟩ f.handle f.items (decide (4 ≤ f.flags)) := by
  obtain ⟨hn256, hkind⟩ := classify_bound hn
  rw [request_bound _ _ _ _ hs hn0 hn256 hkind]
  simp [copDatagramRx, hs, hdiscard, Nat.not_lt.mpr hlen, hf, hn, hv, hq]

theorem copDatagramRx_malformed {s : State} {rx : RxInfo} {bytes : List Nat} (hs : serves s = true) (hdiscard : rx.discard = false)
    (hlen : bytes.length ≤ 1452) (hf : parseCop bytes = none) : copDatagramRx rx bytes s = s.count Od.od_malformed := by
  simp [copDatagramRx, hs, hdiscard, Nat.not_lt.mpr hlen, hf]

/-! ### Responses that wait -/

/-- No response waits for a piece of work any more. -/
def notWaiting (s : State) (seq : Nat) : State :=
  { s with txn := { s.txn with waiting := s.txn.waiting.filter (fun y => y.seq != seq) } }

theorem sendWaiting_some {s : State} {seq : Nat} {x : Waiting} (h : s.txn.waiting.find? (fun y => y.seq == seq) = some x) :
    sendWaiting s seq = respond (notWaiting s seq) x.op x.who 0 x.handle seq (okItems x.items) := by
  simp only [sendWaiting, h]
  rfl

/-- The response that waits for a piece of work is sent, and waits no more. -/
theorem sendWaiting_sends {s : State} {seq : Nat} {x : Waiting} (h : s.txn.waiting.find? (fun y => y.seq == seq) = some x)
    (hp : x.who.port ≠ 0) (hop : x.op ≠ opBACNET) :
    (sendWaiting s seq).out = .cop x.who (answerPorts s x.who.origin) x.op 0 x.handle (degraded s) seq (okItems x.items) :: s.out ∧
      (sendWaiting s seq).txn.waiting.any (fun y => y.seq == seq) = false := by
  rw [sendWaiting_some h]
  refine ⟨respond_out (notWaiting s seq) _ _ _ _ hop hp, ?_⟩
  have htxn : (respond (notWaiting s seq) x.op x.who 0 x.handle seq (okItems x.items)).txn = (notWaiting s seq).txn :=
    (respond_within ..).parts .txn rfl
  rw [htxn]
  simp [notWaiting]

/-- Settles O40: both requests by their answer after the count for the port, the datagrams by what they parse to, and the response by the
work it waits for. -/
theorem requestsAreAnswered : Obligations.RequestsAreAnswered := by
  refine ⟨fun s w items rs hs hp hp' hk hr hd ho hrs hfit => ?_, fun s w items rs hs hp hp' hk hr hd hrs hfit => ?_,
    fun s rx bytes f n hs hdiscard hlen hf hn hn0 hv hq =>
      next_of_eq (copDatagramRx_classified hs hdiscard hlen hf hn hn0 hv hq),
    fun s rx bytes hs hdiscard hlen hf hfit => ⟨_, next_of_eq (copDatagramRx_malformed hs hdiscard hlen hf), rd_count_self hfit, rfl⟩,
    fun s seq x hr hup hx hp hop => ⟨_, next_of_eq (if_pos ⟨hr, hup⟩), sendWaiting_sends hx hp hop⟩⟩
  · have hread := serve_read (s := s.count Od.od_port_hits w.port) items hr hd ho
    rw [← hrs, respondItems_fits _ _ _ _ _ hfit] at hread
    exact ⟨_, next_of_eq ((request_bound opREAD 0 items false hs hp hp' hk).trans hread), respond_counted s _ _ _ _ (by decide) hp⟩
  · have hdescribe := serve_describe (s := s.count Od.od_port_hits w.port) items hr hd
    rw [← hrs, respondItems_fits _ _ _ _ _ hfit] at hdescribe
    exact ⟨_, next_of_eq ((request_bound opDESCRIBE 0 items false hs hp hp' hk).trans hdescribe),
      respond_counted s _ _ _ _ (by decide) hp⟩

end Sys2Proof.Proofs

/-!
## Acceptance (R86, R87, R99)

Accepted work stands in the ledger: its record is the newest when it enters, and what follows within the acceptance changes records, but never what
identifies one, and never takes one out.
-/
namespace Sys2Proof.Proofs

open Sys2Proof Sys2Proof.Machine Sys2Proof.Safety Sys2Proof.Laws

set_option Elab.async false

/-! ### What identifies a record -/

/-- Two records of one request: number, kind, port, client, request identifier and digest agree. -/
def SameRequest (r r' : LedgerRec) : Prop :=
  r'.seq = r.seq ∧ r'.kind = r.kind ∧ r'.port = r.port ∧ r'.client = r.client ∧ r'.reqid = r.reqid ∧ r'.digest = r.digest

theorem SameRequest.refl (r : LedgerRec) : SameRequest r r := ⟨rfl, rfl, rfl, rfl, rfl, rfl⟩

theorem SameRequest.trans {a b c : LedgerRec} : SameRequest a b → SameRequest b c → SameRequest a c
  | ⟨h1, h2, h3, h4, h5, h6⟩, ⟨k1, k2, k3, k4, k5, k6⟩ =>
    ⟨k1.trans h1, k2.trans h2, k3.trans h3, k4.trans h4, k5.trans h5, k6.trans h6⟩

theorem SameRequest.ite {c : Prop} [Decidable c] {r a b : LedgerRec} (ha : SameRequest r a) (hb : SameRequest r b) :
    SameRequest r (if c then a else b) := by
  split
  · exact ha
  · exact hb

/-- Every record of the ledger is still there, with what identifies it. -/
def KeepsRequests (s t : State) : Prop := ∀ r ∈ s.mer.recs, ∃ r' ∈ t.mer.recs, SameRequest r r'

theorem KeepsRequests.of_recs {s t : State} (h : t.mer.recs = s.mer.recs) : KeepsRequests s t :=
  fun r hr => ⟨r, h ▸ hr, .refl r⟩

theorem KeepsRequests.of_within {w : Option (List Nat)} {ps : List Part} {s t : State} (h : Within w ps s t)
    (hp : ps.contains .mer = false := by rfl) : KeepsRequests s t :=
  .of_recs (congrArg Meringue.recs (h.parts .mer hp))

theorem KeepsRequests.of_map {s t : State} {f : LedgerRec → LedgerRec} (h : t.mer.recs = s.mer.recs.map f)
    (hf : ∀ r, SameRequest r (f r)) : KeepsRequests s t :=
  fun r hr => ⟨f r, h ▸ List.mem_map_of_mem hr, hf r⟩

theorem KeepsRequests.trans {s t u : State} (h : KeepsRequests s t) (h' : KeepsRequests t u) : KeepsRequests s u := fun r hr =>
  have ⟨_, hr', hsame⟩ := h r hr
  have ⟨r'', hr'', hsame'⟩ := h' _ hr'
  ⟨r'', hr'', hsame.trans hsame'⟩

theorem KeepsRequests.foldl {α : Type} {f : State → α → State} (h : ∀ t x, KeepsRequests t (f t x)) (l : List α) (s : State) :
    KeepsRequests s (l.foldl f s) := by
  induction l generalizing s with
  | nil => exact .of_recs rfl
  | cons x xs ih => exact (h s x).trans (ih _)

/-! ### The parts of an acceptance -/

theorem acceptElem_keepsRequests (s : State) (w : ElemW) : KeepsRequests s (acceptElem s w) := by
  unfold acceptElem
  split_ifs
  · exact .of_recs rfl
  · exact .of_recs rfl
  · exact .of_recs rfl

theorem noteLedger_keepsRequests (s : State) (added : Nat) : KeepsRequests s (noteLedger s added) := .of_recs rfl

theorem specialDone_keepsRequests (s : State) (seq kind : Nat) : KeepsRequests s (specialDone s seq kind) :=
  .of_map rfl fun r => .ite (.refl r) (.refl r)

theorem beginSpecial_keepsRequests (s : State) (r : LedgerRec) : KeepsRequests s (beginSpecial s r) := by
  unfold beginSpecial
  extract_lets ws s0 s1
  have hbegun : KeepsRequests s (modRec s r.seq (fun x => { x with begun := true })) :=
    .of_map rfl fun x => .ite (.refl x) (.refl x)
  have h0 : KeepsRequests s s0 := hbegun.trans (.of_within (bumpVersions_within ..))
  have h1 : KeepsRequests s s1 := h0.trans (.foldl (fun _ _ => .of_within (beginItem_within ..)) _ _)
  split
  · exact h1.trans (specialDone_keepsRequests _ _ _)
  · exact h1

theorem beginDue_keepsRequests (s : State) : KeepsRequests s (beginDue s) := by
  unfold beginDue
  split
  · exact .of_recs rfl
  · exact .foldl beginSpecial_keepsRequests _ _

theorem settle_keepsRequests (s : State) : KeepsRequests s (settle s) := by
  unfold settle
  split
  · exact .of_recs rfl
  · extract_lets done mer s1
    have h1 : KeepsRequests s s1 := .of_map rfl fun r => .ite (.refl r) (.refl r)
    have h2 : KeepsRequests s (if done = [] then s1 else noteLedger s1 0) := by
      split
      · exact h1
      · exact h1.trans (noteLedger_keepsRequests _ _)
    exact h2.trans (.foldl (fun _ _ => .of_within (sendWaiting_within ..)) _ _)

/-! ### Acceptance -/

/-- The newest record stays when the ledger's window lets the oldest go. -/
theorem mem_window (recs : List LedgerRec) (r : LedgerRec) :
    r ∈ if 16384 < (recs ++ [r]).length then (recs ++ [r]).drop 1 else recs ++ [r] := by
  cases recs with
  | nil => simp
  | cons x xs => split <;> simp

/-- R87: accepted work stands in the ledger. -/
theorem accept_recorded (s : State) (kind : Nat) (w : Who) (digest size : Nat) (ws : List ElemW) (op handle : Nat) (items : List WItem) :
    ∃ r ∈ (accept s kind w digest size ws op handle items).mer.recs, SameRequest (newRecord s kind w digest size ws) r := by
  unfold accept
  extract_lets r recs stamps wait mer txn s1 s2
  have h1 : r ∈ (s1.wr Od.txn_next_seq (r.seq + 1)).mer.recs := mem_window _ _
  have h2 : KeepsRequests (s1.wr Od.txn_next_seq (r.seq + 1)) s2 := .foldl acceptElem_keepsRequests _ _
  exact (h2.trans ((noteLedger_keepsRequests _ _).trans ((beginDue_keepsRequests _).trans (settle_keepsRequests _)))) r h1

theorem accept_next_seq {s : State} (kind : Nat) (w : Who) (digest size : Nat) (ws : List ElemW) (op handle : Nat)
    (items : List WItem) (h : s.rd Od.txn_next_seq + 1 < 2 ^ 64) :
    (accept s kind w digest size ws op handle items).rd Od.txn_next_seq = s.rd Od.txn_next_seq + 1 := by
  unfold accept
  extract_lets r recs stamps wait mer txn s1 s2
  have h2 : Within (some [Od.nvs_allowance]) [.mer] (s1.wr Od.txn_next_seq (r.seq + 1)) s2 :=
    .foldl (fun _ _ => acceptElem_within ..) _ (.refl _ _ _)
  rw [(settle_within _).keeps _ _, (beginDue_within _).keeps _ _, (noteLedger_within ..).keeps _ _, h2.keeps _ _]
  exact rd_wr_fit _ _ _ _ h

/-- A WRITE outside a transaction whose items pass their checks and that the ledger takes is accepted. -/
theorem writeRequest_accepted {s : State} {op : Nat} {w : Who} {items : List WItem} (hne : items ≠ [])
    (hc : firstBad (checkItems s ⟨w.port, w.client, 0, false, op == opBACNET, none⟩ (stagedTimes s 0) items) = .ok)
    (hkey : s.sys.mpHeld = false ∨ items.all (fun it => it.index != Od.key_replace) = true) (hkinds : (writeKinds items).length ≤ 1)
    (hlive : liveItems items ≠ []) (hstore : s.nvs.storing = none) (ha : acceptRefusal s (8 + itemsSize items) = .ok) :
    writeRequest s op w 0 items =
      accept s (writeKind items) w (itemsDigest items) (8 + itemsSize items) (itemWrites (liveItems items)) op 0 items := by
  have hheld : ¬(s.sys.mpHeld = true ∧ items.any (fun it => it.index == Od.key_replace) = true) := by
    rintro ⟨hm, hk⟩
    rcases hkey with h | h
    · exact Bool.false_ne_true (h.symm.trans hm)
    · obtain ⟨it, hit, hindex⟩ := List.any_eq_true.mp hk
      have hother := List.all_eq_true.mp h it hit
      simp only [bne_iff_ne] at hother
      exact hother (beq_iff_eq.mp hindex)
  have hsubmit : submit s op w items =
      accept s (writeKind items) w (itemsDigest items) (8 + itemsSize items) (itemWrites (liveItems items)) op 0 items := by
    simp [submit, hstore, ha]
  rw [writeRequest, if_neg hne]
  dsimp only
  rw [hc, if_neg (fun h => hheld ⟨h.1, h.2.1⟩), if_neg (not_not_intro rfl), if_neg (Nat.not_lt.mpr hkinds),
    if_neg (not_not_intro rfl), if_neg hlive, hsubmit]

theorem firstBad_of_all_ok {l : List Status} (h : l.all (· == .ok) = true) : firstBad l = .ok := by
  induction l with
  | nil => rfl
  | cons st l ih =>
    obtain ⟨rfl, hl⟩ : st = .ok ∧ ∀ x ∈ l, x = .ok := by simpa using h
    exact ih (by simpa using hl)

/-- The count of a request for its port does not change what the ledger takes. -/
theorem acceptRefusal_count (s : State) (port size : Nat) : acceptRefusal (s.count Od.od_port_hits port) size = acceptRefusal s size := by
  have hseq : (s.count Od.od_port_hits port).rd Od.txn_next_seq = s.rd Od.txn_next_seq := rd_count_ne _ _ _ _ _ _ (by decide)
  simp only [acceptRefusal, ledgerFull, hseq]
  rfl

theorem stagedTimes_none {s : State} {h : Nat} (ho : openTxn s h = none) : stagedTimes s h = [] := by
  simp [stagedTimes, ho]

/-- R69, R86, R87: where no transaction has the handle 0, a WRITE of a client that passes every check becomes a record with the next acceptance
number. -/
theorem write_recorded {s : State} {w : Who} {items : List WItem} (h : Accepts s w false items) (ho : openTxn s 0 = none)
    (hp : w.port ≠ 0) (hr : w.reqid ≠ 0) (hseq : s.rd Od.txn_next_seq + 1 < 2 ^ 64) :
    (∃ r ∈ (request s opWRITE w 0 items).mer.recs, RecordOf s w items r) ∧
      (request s opWRITE w 0 items).rd Od.txn_next_seq = s.rd Od.txn_next_seq + 1 := by
  obtain ⟨hs, hp', hk, hd, hkinds, hlive, hc, hstore, ha, hkey⟩ := h
  have hne : items ≠ [] := by
    rintro rfl
    exact hlive rfl
  have hcheck : firstBad (checkItems (s.count Od.od_port_hits w.port) ⟨w.port, w.client, 0, false, opWRITE == opBACNET, none⟩
      (stagedTimes (s.count Od.od_port_hits w.port) 0) items) = .ok := by
    rw [stagedTimes_none (s := s.count Od.od_port_hits w.port) ho]
    exact firstBad_of_all_ok hc
  have hnext : (s.count Od.od_port_hits w.port).rd Od.txn_next_seq = s.rd Od.txn_next_seq := rd_count_ne _ _ _ _ _ _ (by decide)
  rw [request_bound _ _ _ _ hs hp hp' hk, serve_write _ hr (by rw [duplicateOf_count, hd]),
    writeRequest_accepted hne hcheck hkey hkinds hlive hstore (by rw [acceptRefusal_count, ha])]
  constructor
  · obtain ⟨r, hr, hseqr, hrest⟩ := accept_recorded (s.count Od.od_port_hits w.port) (writeKind items) w (itemsDigest items)
      (8 + itemsSize items) (itemWrites (liveItems items)) opWRITE 0 items
    exact ⟨r, hr, hseqr.trans hnext, hrest⟩
  · rw [accept_next_seq _ _ _ _ _ _ _ _ (by rwa [hnext]), hnext]

end Sys2Proof.Proofs

/-!
## BACnet services (R73, R82 to R85)
-/
namespace Sys2Proof.Proofs

open Sys2Proof Sys2Proof.Machine Sys2Proof.Safety Sys2Proof.Laws

set_option Elab.async false

/-! ### The count of a request for its port -/

theorem bacCounted_rd (rx : RxInfo) (s : State) (i e : Nat)
    (hi : admits (some [Od.od_unbound_drops, Od.od_port_hits]) i = false := by rfl) :
    (bacCounted rx s).rd i e = s.rd i e := (bacCounted_within rx s).keeps i e hi

/-- The points' indices come after those of the catalogue. -/
theorem ptIndex_ne (n : Nat) {i : Nat} (h : i < 0x4000) : ptIndex n ≠ i := by
  simp only [ptIndex, Od.od_point]
  omega

theorem bacCounted_rd_point (rx : RxInfo) (s : State) (n e : Nat) : (bacCounted rx s).rd (ptIndex n) e = s.rd (ptIndex n) e := by
  refine bacCounted_rd rx s _ _ ?_
  simp (disch := decide) [admits, ptIndex_ne]

theorem bacCounted_ptKind (rx : RxInfo) (s : State) (n : Nat) : ptKind (bacCounted rx s) n = ptKind s n := bacCounted_rd rx s _ _

theorem bacCounted_bacName (rx : RxInfo) (s : State) (n : Nat) : bacName (bacCounted rx s) n = bacName s n := by
  simp only [bacName, bacCounted_rd rx s Od.od_pt_name n]

theorem bacCounted_out (rx : RxInfo) (s : State) : (bacCounted rx s).out = s.out := (bacCounted_within rx s).parts .out rfl

theorem bacCounted_answerPorts (rx : RxInfo) (s : State) (o : Source) : answerPorts (bacCounted rx s) o = answerPorts s o :=
  answerPorts_of_within (bacCounted_within rx s) o

/-- The answer to a request is the one thing sent, after its count. -/
theorem bacSend_counted {rx : RxInfo} {s : State} (n : Nat) (x : Out) (h : answerPorts s rx.toSource ≠ []) :
    (bacSend (bacCounted rx s) rx.toSource n x).out = x :: s.out := by
  rw [bacSend_out n x (by rwa [bacCounted_answerPorts]), bacCounted_out]

/-! ### Objects -/

/-- What is known of the point of an object (R83): its kind gives the type, and its instance is the object's. -/
theorem bacPoint_some {s : State} {objType inst n : Nat} (h : bacPoint s objType inst = some n) :
    bacType (ptKind s n) = objType ∧ s.rd Od.od_pt_inst n = inst := by
  have hn := List.find?_some h
  simp only [Bool.and_eq_true, beq_iff_eq] at hn
  obtain ⟨⟨-, htype⟩, hinst⟩ := hn
  exact ⟨htype, hinst⟩

theorem entryItem_index (i e v : Nat) : (entryItem i e v).index = i := by
  unfold entryItem
  split <;> rfl

/-! ### Reading -/

/-- The present value of a point that the port's tenant may read. -/
theorem bacRead_present_value {s : State} {port objType inst n : Nat} (hdev : objType ≠ bacDEVICE)
    (hn : bacPoint s objType inst = some n) (hmay : mayReadTenant s (tenantOf s port) (ptIndex n) = true) :
    bacRead s port objType inst 85 = (s, .num (bacPv (ptKind s n) (s.rd (ptIndex n) 0))) := by
  simp [bacRead, hdev, hn, hmay, bacProp]

theorem bacRoom_ge (rx : RxInfo) : 480 ≤ bacRoom rx := by
  unfold bacRoom bacMaxApdu
  split_ifs <;> omega

/-- A present value alone fits every APDU. -/
theorem bacAnswerSize_present_value (k v : Nat) : bacAnswerSize [(k, 85)] [.num v] ≤ 17 := by
  show 12 + bacPvSize k v ≤ 17
  unfold bacPvSize bacUnsigned
  split_ifs <;> omega

theorem bacnetReadProperty_present_value {rx : RxInfo} {s : State} {port n objType inst : Nat} (hport : bacPort rx s = some port)
    (hdev : objType ≠ bacDEVICE) (hn : bacPoint (bacCounted rx s) objType inst = some n)
    (hmay : mayReadTenant (bacCounted rx s) (tenantOf (bacCounted rx s) port) (ptIndex n) = true) :
    ∃ size, bacnetReadProperty rx [(objType, inst, 85)] s =
      bacSend (bacCounted rx s) rx.toSource size (.bacValues port [.num (bacPv (ptKind s n) (s.rd (ptIndex n) 0))]) := by
  have hall : bacReadAll port [(objType, inst, 85)] (bacCounted rx s) =
      (bacCounted rx s, [.num (bacPv (ptKind s n) (s.rd (ptIndex n) 0))]) := by
    simp only [bacReadAll, bacRead_present_value hdev hn hmay, bacCounted_ptKind, bacCounted_rd_point]
  refine ⟨bacAnswerSize [(bacKind (bacCounted rx s) objType inst, 85)] [.num (bacPv (ptKind s n) (s.rd (ptIndex n) 0))], ?_⟩
  simp only [bacnetReadProperty, hport, hall]
  exact if_neg (Nat.not_lt.mpr ((bacAnswerSize_present_value _ _).trans (by have := bacRoom_ge rx; omega)))

/-- An answer longer than the largest APDU is an Abort (R85). -/
theorem bacnetReadProperty_abort {rx : RxInfo} {s : State} {port : Nat} {props : List (Nat × Nat × Nat)}
    (hport : bacPort rx s = some port)
    (hsize : bacRoom rx < bacAnswerSize (props.map (fun p => (bacKind (bacCounted rx s) p.1 p.2.1, p.2.2)))
      (bacReadAll port props (bacCounted rx s)).2) :
    bacnetReadProperty rx props s = bacSend (bacReadAll port props (bacCounted rx s)).1 rx.toSource 3 (.bacAbort port) := by
  simp only [bacnetReadProperty, hport]
  exact if_pos hsize

/-- Reading takes nothing but free values, so the Abort goes where the request came from. -/
theorem bacAbort_out {rx : RxInfo} {s : State} (port : Nat) (props : List (Nat × Nat × Nat)) (h : answerPorts s rx.toSource ≠ []) :
    (bacSend (bacReadAll port props (bacCounted rx s)).1 rx.toSource 3 (.bacAbort port)).out = .bacAbort port :: s.out := by
  have hframe := bacReadAll_within port props (bacCounted rx s)
  rw [bacSend_out _ _ (by rwa [answerPorts_of_within hframe, bacCounted_answerPorts])]
  exact congrArg _ ((hframe.parts .out rfl).trans (bacCounted_out rx s))

/-! ### Writing -/

/-- The item of a write of the present value at a priority. -/
theorem bacWriteItems_present_value {s : State} {port n p : Nat} {r : BacWrite} (hdev : r.objType ≠ bacDEVICE)
    (hn : bacPoint s r.objType r.inst = some n) (hprop : r.prop = bacPRESENT_VALUE) (hty : r.typeOk = true)
    (hprio : r.priority = some p) (h1 : 1 ≤ p) (h16 : p ≤ 16) :
    bacWriteItems s port [r] = .ok [entryItem (ptIndex n) p (bacWord (ptKind s n) r.value)] := by
  simp [bacWriteItems, bacWriteItem, hdev, hn, bacTarget, hprop, hprio, h1, h16, bacTyped, hty]

/-- An item that sets no time and stores nothing is judged alone. -/
theorem besideItems_ordinary (s : State) (seen : List Nat) {it : WItem} (st : Status) (htime : isTimeIndex it.index = false)
    (hstore : it.index ≠ Od.nvs_store_cmd) : besideItems s seen it st = st := by
  simp [besideItems, htime, hstore]

/-- A write of a point that passes its checks is accepted. -/
theorem bacnetWriteProperty_accepted {rx : RxInfo} {s : State} {port n p : Nat} {r : BacWrite} {it : WItem}
    (hport : bacPort rx s = some port) (hdev : r.objType ≠ bacDEVICE) (hn : bacPoint (bacCounted rx s) r.objType r.inst = some n)
    (hprop : r.prop = bacPRESENT_VALUE) (hty : r.typeOk = true) (hprio : r.priority = some p) (h1 : 1 ≤ p) (h16 : p ≤ 16)
    (hit : it = entryItem (ptIndex n) p (bacWord (ptKind (bacCounted rx s) n) r.value))
    (hc : (checkItems (bacCounted rx s) ⟨port, 0, 0, false, true, none⟩ [] [it]).all (· == .ok) = true)
    (hlive : liveItems [it] ≠ []) (hstore : s.nvs.storing = none)
    (ha : acceptRefusal (bacCounted rx s) (8 + itemsSize [it]) = .ok) :
    bacnetWriteProperty rx [r] s =
      accept (bacCounted rx s) (writeKind [it]) ⟨port, 0, 0, rx.toSource⟩ (itemsDigest [it]) (8 + itemsSize [it])
        (itemWrites (liveItems [it])) opBACNET 0 [it] := by
  have hindex : it.index = ptIndex n := hit ▸ entryItem_index ..
  have htime : isTimeIndex it.index = false := by simp (disch := decide) [isTimeIndex, hindex, ptIndex_ne]
  have hcmd : it.index ≠ Od.nvs_store_cmd := hindex ▸ ptIndex_ne n (by decide)
  have hkind : entryKind it.index = 0 := by simp (disch := decide) [entryKind, hindex, ptIndex_ne]
  have hkinds : writeKinds [it] = [] := by
    by_cases hnoop : noopItem it <;> simp [writeKinds, liveItems, hnoop, hkind]
  have hcheck : checkItem (bacCounted rx s) ⟨port, 0, 0, false, true, none⟩ it = .ok := by
    simpa [checkItems, besideItems_ordinary _ _ _ htime hcmd] using hc
  have hreq : bacnetWriteProperty rx [r] s = writeRequest (bacCounted rx s) opBACNET ⟨port, 0, 0, rx.toSource⟩ 0 [it] := by
    simp only [bacnetWriteProperty, hport, bacWriteItems_present_value hdev hn hprop hty hprio h1 h16, hit]
  rw [hreq]
  refine writeRequest_accepted (List.cons_ne_nil _ _) ?_ ?_ (by simp [hkinds]) hlive ?_ ha
  · simpa [checkItems, besideItems_ordinary _ _ _ htime hcmd, firstBad] using hcheck
  · exact .inr (by simp (disch := decide) [hindex, ptIndex_ne])
  · exact (congrArg NvsState.storing ((bacCounted_within rx s).parts .nvs rfl)).trans hstore

/-! ### Subscriptions -/

/-- The subscription a request makes. -/
def newCov (s : State) (o : Source) (port client process objType inst n : Nat) (confirmed : Bool) (lifetime : Nat) : CovSub :=
  ⟨port, client, o, process, objType, inst, confirmed, lifetime, s.rd (ptIndex n) 0, ptFlags s n⟩

theorem sameSub_newCov (s : State) (o : Source) (port client process objType inst n : Nat) (confirmed : Bool) (lifetime : Nat) :
    sameSub client process objType inst (newCov s o port client process objType inst n confirmed lifetime) = true := by
  simp [sameSub, newCov]

/-- The subscriptions with the one of this client, process and object replaced. -/
def withCov (s : State) (c : CovSub) : State :=
  { s with pts := { s.pts with covs := s.pts.covs.filter (fun x => !(sameSub c.client c.process c.objType c.inst x)) ++ [c] } }

theorem covSubscribe_room {s : State} {port n : Nat} (o : Source) (client process objType inst : Nat) (confirmed : Bool) {lifetime : Nat}
    (hmay : mayReadTenant s (tenantOf s port) (ptIndex n) = true) (hlife : lifetime ≤ 86400) (hroom : s.pts.covs.length < 512) :
    covSubscribe s o port client process objType inst n confirmed lifetime =
      let c := newCov s o port client process objType inst n confirmed lifetime
      covNotify (bacSend (withCov s c) o 3 (.bacAck port 0)) c := by
  have hrest : (s.pts.covs.filter (fun c => !(sameSub client process objType inst c))).length < 512 :=
    (List.length_filter_le ..).trans_lt hroom
  simp [covSubscribe, hmay, Nat.not_lt.mpr hlife, Nat.not_le.mpr hrest, newCov, withCov]

/-- What a subscription that is entered leaves: itself among the subscriptions, and its notification as the last thing sent. -/
theorem covSubscribe_leaves {s : State} (o : Source) (n : Nat) (x : Out) (c : CovSub) (ho : c.dest = o) (h : answerPorts s o ≠ []) :
    c ∈ (covNotify (bacSend (withCov s c) o n x) c).pts.covs ∧
      (covNotify (bacSend (withCov s c) o n x) c).out.head? =
        some (.bacCov c.port c.client c.process c.objType c.inst c.confirmed c.value c.flags) := by
  constructor
  · have hpts : (covNotify (bacSend (withCov s c) o n x) c).pts = (withCov s c).pts :=
      ((covNotify_within ..).parts .pts rfl).trans ((bacSend_within ..).parts .pts rfl)
    rw [hpts]
    exact List.mem_append_right _ List.mem_cons_self
  · have hports : answerPorts (bacSend (withCov s c) o n x) c.dest ≠ [] := by
      rw [answerPorts_bacSend, ho]
      exact h
    rw [covNotify, bacSend_out _ _ hports]
    rfl

theorem bacnetSubscribeCov_terms {rx : RxInfo} {s : State} {port objType inst n : Nat} (client process : Nat) (confirmed : Bool)
    (lifetime : Nat) (hport : bacPort rx s = some port) (hn : bacPoint (bacCounted rx s) objType inst = some n) :
    bacnetSubscribeCov rx client process objType inst (some (confirmed, lifetime)) s =
      covSubscribe (bacCounted rx s) rx.toSource port client process objType inst n confirmed lifetime := by
  simp only [bacnetSubscribeCov, hport, hn]

/-- The subscriptions without that of a client, process and object. -/
def withoutCov (s : State) (client process objType inst : Nat) : State :=
  { s with pts := { s.pts with covs := s.pts.covs.filter (fun c => !(sameSub client process objType inst c)) } }

theorem bacnetSubscribeCov_cancel {rx : RxInfo} {s : State} {port objType inst n : Nat} (client process : Nat)
    (hport : bacPort rx s = some port) (hn : bacPoint (bacCounted rx s) objType inst = some n) :
    bacnetSubscribeCov rx client process objType inst none s =
      bacSend (withoutCov (bacCounted rx s) client process objType inst) rx.toSource 3 (.bacAck port 0) := by
  simp only [bacnetSubscribeCov, hport, hn]
  rfl

theorem bacnetCovExpiry_ends (client process objType inst : Nat) (s : State) :
    (bacnetCovExpiry client process objType inst s).pts.covs.all
      (fun c => !(sameSub client process objType inst c) || c.lifetime == 0) = true := by
  simp only [bacnetCovExpiry, List.all_eq_true, List.mem_filter]
  rintro c ⟨-, h⟩
  by_cases hs : sameSub client process objType inst c <;> simp_all

/-! ### Who-Is, Who-Has and the other services -/

theorem bacnetWhoIs_asked {rx : RxInfo} {s : State} {port lo hi : Nat} (hport : bacPort rx s = some port)
    (hlo : lo ≤ s.rd Od.od_bacnet_dev) (hhi : s.rd Od.od_bacnet_dev ≤ hi) :
    bacnetWhoIs rx lo hi s = bacSend (bacCounted rx s) rx.toSource (11 + bacUnsigned (bacMaxApdu rx.kind))
      (.bacIAm port (s.rd Od.od_bacnet_dev) (if rx.kind = 4 then 480 else 1476)) := by
  simp only [bacnetWhoIs, hport]
  exact if_pos ⟨hlo, hhi⟩

/-- Who-Has of an object that is held, where the tenant may read its point if it has one. -/
theorem bacnetWhoHas_held {rx : RxInfo} {s : State} {range : Option (Nat × Nat)} {what : BacHas} {port t i : Nat} {name : List Nat}
    {p : Option Nat} (hport : bacPort rx s = some port) (hasked : bacAsked s range = true)
    (hheld : bacHeld (bacCounted rx s) what = some (t, i, name, p))
    (hmay : ∀ n, p = some n → mayReadTenant (bacCounted rx s) (tenantOf (bacCounted rx s) port) (ptIndex n) = true) :
    bacnetWhoHas rx range what s = bacSend (bacCounted rx s) rx.toSource (12 + bacString name.length)
      (.bacIHave port (s.rd Od.od_bacnet_dev) t i name) := by
  have hasked1 : bacAsked (bacCounted rx s) range = true := by
    simpa only [bacAsked, bacCounted_rd rx s Od.od_bacnet_dev 0] using hasked
  have hdev : (bacCounted rx s).rd Od.od_bacnet_dev = s.rd Od.od_bacnet_dev := bacCounted_rd rx s _ _
  simp only [bacnetWhoHas, hport, hasked1, hheld, if_true]
  rw [← hdev]
  cases p with
  | none => rfl
  | some n => exact if_pos (hmay n rfl)

theorem bacHeld_object {rx : RxInfo} {s : State} {objType inst n : Nat} (hdev : objType ≠ bacDEVICE)
    (hn : bacPoint (bacCounted rx s) objType inst = some n) :
    bacHeld (bacCounted rx s) (.object objType inst) = some (objType, inst, bacName s n, some n) := by
  obtain ⟨htype, hinst⟩ := bacPoint_some hn
  simp [bacHeld, hdev, hn, htype, hinst, bacCounted_bacName]

theorem bacHeld_device (s : State) :
    bacHeld s (.named (Config.deviceName.take 32)) = some (bacDEVICE, s.rd Od.od_bacnet_dev, Config.deviceName.take 32, none) :=
  if_pos rfl

theorem bacHeld_named {rx : RxInfo} {s : State} {name : List Nat} {n : Nat} (hname : name ≠ Config.deviceName.take 32)
    (hn : (usedPoints (bacCounted rx s)).find? (fun n => decide (1 ≤ ptKind (bacCounted rx s) n) &&
      decide (ptKind (bacCounted rx s) n ≤ 9) && bacName (bacCounted rx s) n == name) = some n) :
    bacHeld (bacCounted rx s) (.named name) = some (bacType (ptKind s n), s.rd Od.od_pt_inst n, name, some n) := by
  have hfound := List.find?_some hn
  simp only [Bool.and_eq_true, beq_iff_eq] at hfound
  obtain ⟨-, hnamed⟩ := hfound
  simp only [bacHeld, if_neg hname]
  rw [hn, Option.map_some, hnamed, bacCounted_ptKind, bacCounted_rd rx s _ n]

theorem bacnetUnsupportedService_confirmed {rx : RxInfo} {s : State} {port : Nat} (invoke : Nat) (hport : bacPort rx s = some port) :
    bacnetUnsupportedService rx true invoke s = bacSend (bacCounted rx s) rx.toSource 3 (.bacReject port invoke) := by
  simp only [bacnetUnsupportedService, hport]
  rfl

/-- A datagram of the module's host that uplink A may send is the one thing sent. -/
theorem hostDatagram_out {s : State} (q n addr : Nat) (o : Out) (h : maySend s 0 .traffic = true) :
    (hostDatagram s q n addr o).out = o :: s.out := by
  have hout : hostOut s o = s.send o := if_pos (by rw [h]; rfl)
  unfold hostDatagram
  dsimp only
  rw [hout]
  exact (sendUp_within ..).parts .out rfl

/-- Settles O43: each service by the message it comes to after the request's count, and the write by its acceptance. -/
theorem bacnetServices : Obligations.BacnetServices := by
  refine ⟨?_, ?_, ?_, ?_, ?_, fun s client process objType inst => ⟨_, rfl, rfl, bacnetCovExpiry_ends client process objType inst s⟩,
    fun s rx port lo hi hport hports hlo hhi => ⟨_, next_of_eq (bacnetWhoIs_asked hport hlo hhi), bacSend_counted _ _ hports⟩, ?_, ?_,
    fun s rx port invoke hport hports =>
      ⟨_, next_of_eq (bacnetUnsupportedService_confirmed invoke hport), bacSend_counted _ _ hports⟩,
    fun s hon hbbmd hsend => ⟨_, next_of_eq (if_pos ⟨hon, hbbmd⟩), hostDatagram_out _ _ _ _ hsend⟩⟩
  · rintro s _ rx port n objType inst rfl hport hports hdev hn hmay
    obtain ⟨size, hread⟩ := bacnetReadProperty_present_value hport hdev hn hmay
    exact ⟨_, next_of_eq hread, bacSend_counted _ _ hports⟩
  · rintro s _ rx port props rfl hport hports hsize
    exact ⟨_, next_of_eq (bacnetReadProperty_abort hport hsize), bacAbort_out port props hports⟩
  · rintro s _ rx port n p r it rfl hport hdev hn hprop hty hprio h1 h16 hit hc hlive hstore ha hseq
    have hnext : (bacCounted rx s).rd Od.txn_next_seq = s.rd Od.txn_next_seq := bacCounted_rd rx s _ _
    obtain ⟨x, hx, hseqx, hrest⟩ := accept_recorded (bacCounted rx s) (writeKind [it]) ⟨port, 0, 0, rx.toSource⟩ (itemsDigest [it])
      (8 + itemsSize [it]) (itemWrites (liveItems [it])) opBACNET 0 [it]
    refine ⟨_, x, next_of_eq (bacnetWriteProperty_accepted hport hdev hn hprop hty hprio h1 h16 hit hc hlive hstore ha), hx,
      ⟨hseqx.trans hnext, hrest⟩, ?_⟩
    rw [accept_next_seq _ _ _ _ _ _ _ _ (by rwa [hnext]), hnext]
  · rintro s _ rx port client process objType inst lifetime n confirmed rfl hport hports hn hmay hlife hroom
    have hroom1 : (bacCounted rx s).pts.covs.length < 512 := by rwa [(bacCounted_within rx s).parts .pts rfl]
    have hsub := (bacnetSubscribeCov_terms client process confirmed lifetime hport hn).trans
      (covSubscribe_room rx.toSource client process objType inst confirmed hmay hlife hroom1)
    obtain ⟨hmem, hout⟩ := covSubscribe_leaves (s := bacCounted rx s) rx.toSource 3 (.bacAck port 0)
      (newCov (bacCounted rx s) rx.toSource port client process objType inst n confirmed lifetime) rfl
      (by rwa [bacCounted_answerPorts])
    refine ⟨_, _, next_of_eq hsub, hmem, sameSub_newCov .., rfl, ?_⟩
    rw [hout, ← bacCounted_rd_point rx s n 0]
    rfl
  · rintro s rx port client process objType inst lifetime n hport hports hn
    refine ⟨_, next_of_eq (bacnetSubscribeCov_cancel client process hport hn), ?_, ?_⟩
    · have hports1 : answerPorts (withoutCov (bacCounted rx s) client process objType inst) rx.toSource ≠ [] :=
        (bacCounted_answerPorts rx s rx.toSource).trans_ne hports
      rw [bacSend_out _ _ hports1]
      exact congrArg _ (bacCounted_out rx s)
    · rw [(bacSend_within ..).parts .pts rfl, withoutCov, (bacCounted_within rx s).parts .pts rfl]
  · rintro s _ rx range port objType inst n rfl hport hports hasked hdev hn hmay
    have hhave := bacnetWhoHas_held (what := .object objType inst) hport hasked (bacHeld_object hdev hn)
      (by rintro _ ⟨⟩; exact hmay)
    exact ⟨_, next_of_eq hhave, bacSend_counted _ _ hports⟩
  · rintro s _ rx range port n name rfl hport hports hasked hn hmay
    by_cases hname : name = Config.deviceName.take 32
    · subst hname
      have hhave := bacnetWhoHas_held hport hasked (bacHeld_device (bacCounted rx s)) (by rintro _ ⟨⟩)
      rw [bacCounted_rd rx s Od.od_bacnet_dev 0] at hhave
      refine ⟨_, next_of_eq hhave, ?_⟩
      rw [if_pos rfl]
      exact bacSend_counted _ _ hports
    · have hhave := bacnetWhoHas_held hport hasked (bacHeld_named hname hn) (by rintro _ ⟨⟩; exact hmay)
      refine ⟨_, next_of_eq hhave, ?_⟩
      rw [if_neg hname]
      exact bacSend_counted _ _ hports

end Sys2Proof.Proofs

/-!
## Writes beside a transaction of handle 0 (R69, R91, R355)

The handles of transactions are 1 to 8 (R90), and 0 stands for none. `Accepts` judges the items of a WRITE alone, but the object service judges them
beside the writes that the transaction of the WRITE's handle has staged, and looks for one under 0 too. In a state whose transaction 0 has
staged `rtc_cal`, a write of `rtc_seconds` meets every check of `Accepts` and is refused with OUT_OF_RANGE. Where no
transaction has that handle, `write_recorded` holds.
-/
namespace Sys2Proof.Proofs

open Sys2Proof Sys2Proof.Machine Sys2Proof.Safety Sys2Proof.Laws

set_option Elab.async false

/-- The module as reset, its object service running, with an open transaction of handle 0 that has staged `rtc_cal`: a state that no command
leads to. -/
def servingWithHandle0 : State :=
  { State.reset with
    mode := .run
    sys := { appUp := true, qualified := true }
    txn := { opens := [{ handle := 0, staged := [⟨Od.rtc_cal, 0, 0⟩] }] } }

/-! ### A client's WRITE -/

/-- A client of the factory's logical port 1. -/
def uplinkClient : Who := ⟨1, 7, 9, ⟨1, 0, 0, 0, 0, 0⟩⟩

theorem accepts_servingWithHandle0 : Accepts servingWithHandle0 uplinkClient false [entryItem Od.rtc_seconds 0 0] := by
  unfold Accepts
  decide +kernel

theorem copWrite_servingWithHandle0_recs :
    (request servingWithHandle0 opWRITE uplinkClient 0 [entryItem Od.rtc_seconds 0 0]).mer.recs = [] := by
  decide +kernel

/-- Refutes O39: the write is refused, and the ledger stays empty. The clause on COP_WRITE fails, and with it that on RTC_SECONDS_WRITE, for want of the
premise that no transaction has the handle 0. -/
theorem not_entryWritesAreAccepted : ¬ Obligations.EntryWritesAreAccepted := by
  rintro ⟨-, -, -, hcop⟩
  obtain ⟨t, r, ht, hr, -⟩ := hcop servingWithHandle0 uplinkClient [entryItem Od.rtc_seconds 0 0] accepts_servingWithHandle0
    (by decide) (by decide) (by decide +kernel)
  obtain rfl : request servingWithHandle0 opWRITE uplinkClient 0 [entryItem Od.rtc_seconds 0 0] = t := Host.Outcome.next.inj ht
  rw [copWrite_servingWithHandle0_recs] at hr
  exact List.not_mem_nil hr

/-! ### A GO of the local bus -/

/-- The same module with a GO at the front of the local bus's queue, whose descriptor writes `rtc_seconds`. -/
def goWithHandle0 : State :=
  { servingWithHandle0 with
    lbs := {
      queue := [⟨0x2003, 1, false⟩]
      regs := [(0x2000, Od.rtc_seconds * 2 ^ 16), (0x2001, 9), (0x2002, Ty.u64.code * 2 ^ 16 + 8)] } }

theorem accepts_goWithHandle0 :
    Accepts (lbTaken goWithHandle0) ⟨0, 0, lbReg goWithHandle0 0x2001, localBus⟩ false [lbItem goWithHandle0] := by
  unfold Accepts
  decide +kernel

theorem lbwGo_goWithHandle0_recs : (lbwGo goWithHandle0).mer.recs = [] := by decide +kernel

/-- Refutes O21: the write that the GO launches is refused, and the ledger stays empty. The failing clause is that on the item that passes every check, for
want of the premise that no transaction has the handle 0. -/
theorem not_localBusQueueAndWindow : ¬ Obligations.LocalBusQueueAndWindow := by
  rintro ⟨-, -, -, -, -, hgo, -⟩
  obtain ⟨t, r, ht, hr, -⟩ := hgo goWithHandle0 1 (by decide) rfl (by decide) (by decide) (by decide) (by decide) accepts_goWithHandle0
    (by decide +kernel)
  obtain rfl : lbwGo goWithHandle0 = t := Host.Outcome.next.inj ht
  rw [lbwGo_goWithHandle0_recs] at hr
  exact List.not_mem_nil hr

end Sys2Proof.Proofs

/-!
## Commit ticks (R86, R88, R89)

The numbers of accepted work are never used twice (R88), and a tick marks what it has done by number. In a state whose ledger holds two records of one
number, the tick that does the ordinary work of the first marks the special work of both as outstanding, since the second is a commit whose
pulse constant waits for the end of its meter's cycle. The first record, which has no special work, is then not completed.
-/
namespace Sys2Proof.Proofs

open Sys2Proof Sys2Proof.Machine Sys2Proof.Safety Sys2Proof.Laws

set_option Elab.async false

/-- Accepted work of ordinary entries, number 1: a write of `ctl_mode`. -/
def ordinaryWork : LedgerRec :=
  { seq := 1, kind := 0, port := 255, client := 7, reqid := 9, digest := 0, size := 40, completed := false, outcome := 0
    writes := [⟨Od.ctl_mode, 1023, 2⟩], ordDone := false, specDone := true, begun := false, crystal := 0, lossGen := 0 }

/-- An accepted commit with the number of `ordinaryWork`, which writes a pulse constant. -/
def commitOfSameNumber : LedgerRec :=
  { ordinaryWork with kind := 1, reqid := 10, writes := [⟨Od.nrg_pulse_const, 0, 1⟩], specDone := false }

/-- The module as reset, in RUN, with two records of number 1 in its ledger: a state that no command leads to. -/
def withSharedNumber : State :=
  { State.reset with
    mode := .run
    mer := { recs := [ordinaryWork, commitOfSameNumber] } }

theorem commitTick_withSharedNumber_completes_nothing :
    ∀ r ∈ (commitTick withSharedNumber).mer.recs, r.completed = false := by
  decide +kernel

/-- Refutes O41: the tick completes no record of the ledger. The failing clause is that on the work accepted before the tick, for want of the premise
that no two records have one number. -/
theorem not_commitTicksAndScans : ¬ Obligations.CommitTicksAndScans := by
  rintro ⟨-, hcompletes, -⟩
  obtain ⟨t, r, ht, hr, -, hdone⟩ := hcompletes withSharedNumber ordinaryWork (by decide) (by decide) rfl rfl rfl
    (List.mem_cons_self ..) rfl rfl rfl rfl
  obtain rfl : commitTick withSharedNumber = t := Host.Outcome.next.inj ht
  exact Bool.false_ne_true ((commitTick_withSharedNumber_completes_nothing r hr).symm.trans hdone)

end Sys2Proof.Proofs

/-!
## Rules for the bytes of a value

What one byte of a value spelled by its bytes is.
-/
namespace Sys2Proof.Proofs

open Sys2Proof Sys2Proof.Machine

set_option Elab.async false

theorem ofBytes_append_singleton (bs : List Nat) (b : Nat) : ofBytes (bs ++ [b]) = ofBytes bs * 256 + b % 256 := by
  simp [ofBytes]

theorem ofBytes_lt (bs : List Nat) : ofBytes bs < 256 ^ bs.length := by
  induction bs using List.reverseRecOn with
  | nil => decide
  | append_singleton bs b ih =>
    rw [ofBytes_append_singleton, List.length_append, List.length_singleton, pow_succ]
    omega

/-- The leading bytes of a value are what is left when the trailing ones are shifted out. -/
theorem ofBytes_append_shiftRight (bs cs : List Nat) : ofBytes (bs ++ cs) >>> (8 * cs.length) = ofBytes bs := by
  induction cs using List.reverseRecOn with
  | nil => simp
  | append_singleton cs c ih =>
    have hlow : (ofBytes (bs ++ cs) * 256 + c % 256) >>> 8 = ofBytes (bs ++ cs) := by
      rw [Nat.shiftRight_eq_div_pow]
      omega
    rw [← List.append_assoc, ofBytes_append_singleton, List.length_append, List.length_singleton, Nat.mul_add_one 8,
      Nat.add_comm (8 * cs.length), Nat.shiftRight_add, hlow, ih]

/-- The byte of a value that stands behind `bs` in it. -/
theorem byteAt_ofBytes (bs cs : List Nat) (b : Nat) :
    byteAt (bs.length + 1 + cs.length) (ofBytes (bs ++ [b] ++ cs)) bs.length = b % 256 := by
  have hshift : bs.length + 1 + cs.length - 1 - bs.length = cs.length := by omega
  rw [byteAt, hshift, ofBytes_append_shiftRight, ofBytes_append_singleton]
  omega

end Sys2Proof.Proofs

/-!
## Rules for transactions (R90, R93, R94, R96)

What opens a transaction, what closes it, and what the requests of one leave of the others.
-/
namespace Sys2Proof.Proofs

open Sys2Proof Sys2Proof.Machine Sys2Proof.Safety Sys2Proof.Laws

set_option Elab.async false

theorem openTxn_of_within {w : Option (List Nat)} {ps : List Part} {s t : State} (hst : Within w ps s t) (h : Nat)
    (hp : ps.contains .txn = false := by rfl) : openTxn t h = openTxn s h := by
  rw [openTxn, hst.parts .txn hp, openTxn]

theorem descOf_of_within {w : Option (List Nat)} {ps : List Part} {s t : State} (hst : Within w ps s t) (h : Nat)
    (hp : ps.contains .mer = false := by rfl) : descOf t h = descOf s h := by
  rw [descOf, hst.parts .mer hp, descOf]

/-! ### Closing -/

/-- The closure entry of a transaction as its 16 bytes (R94). -/
def closureBytes (d : TxnDesc) (h cause status reqid seq : Nat) : List Nat :=
  [h, cause, d.port, status] ++ beBytes 4 d.client ++ beBytes 4 reqid ++ beBytes 4 seq

/-- The state whose closure entries have moved on by one place, with `e` as the newest. -/
def withClosure (s : State) (e : Nat) : State :=
  ((List.range 31).foldl (fun t k => t.wr Od.txn_closure (((List.range 31).map (fun k => s.rd Od.txn_closure k)).getD k 0) (k + 1)) s).wr
    Od.txn_closure e 0

theorem withClosure_within (s : State) (e : Nat) : Within (some [Od.txn_closure]) [] s (withClosure s e) :=
  .wr _ _ _ rfl (.foldl (fun _ _ => .wr _ _ _ rfl (.refl _ _ _)) _ (.refl _ _ _))

theorem closureBytes_lt (d : TxnDesc) (h cause status reqid seq : Nat) :
    ofBytes (closureBytes d h cause status reqid seq) < 256 ^ 16 := by
  have hlen : (closureBytes d h cause status reqid seq).length = 16 := by simp [closureBytes, length_beBytes]
  have hlt := ofBytes_lt (closureBytes d h cause status reqid seq)
  rwa [hlen] at hlt

theorem withClosure_newest (s : State) {e : Nat} (he : e < 256 ^ 16) : (withClosure s e).rd Od.txn_closure 0 = e := by
  have hwidth : 2 ^ widthOf Od.txn_closure = 256 ^ 16 := by decide
  exact rd_wr_fit _ _ _ _ (hwidth ▸ he)

theorem closeTxn_some {s : State} {h : Nat} {d : TxnDesc} (cause status reqid seq : Nat) (hd : descOf s h = some d) :
    closeTxn s h cause status reqid seq =
      { withClosure s (ofBytes (closureBytes d h cause status reqid seq)) with
        mer := { s.mer with descs := s.mer.descs.filter (fun x => x.handle != h) }
        txn := { s.txn with opens := s.txn.opens.filter (fun x => x.handle != h) } } := by
  have hw := withClosure_within s (ofBytes (closureBytes d h cause status reqid seq))
  rw [← hw.parts .mer rfl, ← hw.parts .txn rfl, closeTxn, hd]
  rfl

theorem closeTxn_keeps_recs (s : State) (h cause status reqid seq : Nat) :
    (closeTxn s h cause status reqid seq).mer.recs = s.mer.recs := by
  cases hd : descOf s h with
  | none => simp [closeTxn, hd]
  | some d => rw [closeTxn_some _ _ _ _ hd]

theorem openTxn_closeTxn {s : State} {h : Nat} (cause status reqid seq : Nat) (hd : (descOf s h).isSome = true) :
    openTxn (closeTxn s h cause status reqid seq) h = none := by
  obtain ⟨d, hd⟩ := Option.isSome_iff_exists.mp hd
  simp [closeTxn_some _ _ _ _ hd, openTxn]

theorem descOf_closeTxn {s : State} {h : Nat} (cause status reqid seq : Nat) (hd : (descOf s h).isSome = true) :
    descOf (closeTxn s h cause status reqid seq) h = none := by
  obtain ⟨d, hd⟩ := Option.isSome_iff_exists.mp hd
  simp [closeTxn_some _ _ _ _ hd, descOf]

/-- The first two bytes of the newest closure entry: the handle and the cause (R94). -/
theorem closeTxn_closure_bytes {s : State} {h : Nat} (cause status reqid seq : Nat) (hd : (descOf s h).isSome = true) :
    byteAt 16 ((closeTxn s h cause status reqid seq).rd Od.txn_closure 0) 0 = h % 256 ∧
      byteAt 16 ((closeTxn s h cause status reqid seq).rd Od.txn_closure 0) 1 = cause % 256 := by
  obtain ⟨d, hd⟩ := Option.isSome_iff_exists.mp hd
  have hrd : (closeTxn s h cause status reqid seq).rd Od.txn_closure 0 = ofBytes (closureBytes d h cause status reqid seq) := by
    have hbeside : Within (some []) [.mer, .txn] (withClosure s (ofBytes (closureBytes d h cause status reqid seq)))
        (closeTxn s h cause status reqid seq) := by
      rw [closeTxn_some _ _ _ _ hd]
      exact .mer_txn _ _ rfl rfl (.refl _ _ _)
    rw [hbeside.keeps _ _, withClosure_newest s (closureBytes_lt ..)]
  rw [hrd]
  exact ⟨byteAt_ofBytes [] ([cause, d.port, status] ++ beBytes 4 d.client ++ beBytes 4 reqid ++ beBytes 4 seq) h,
    byteAt_ofBytes [h] ([d.port, status] ++ beBytes 4 d.client ++ beBytes 4 reqid ++ beBytes 4 seq) cause⟩

/-! ### Beginning -/

/-- The state with handle `k + 1` opened for a client. -/
def opening (s : State) (w : Who) (k : Nat) : State :=
  { s with
    mer := { s.mer with descs := s.mer.descs ++ [⟨k + 1, w.port, w.client, w.reqid, 0, 0⟩] }
    txn := { s.txn with opens := s.txn.opens ++ [{ handle := k + 1, last := s.now }] } }

/-- Handle `k + 1` is the first that has neither a descriptor nor an open transaction (R90). -/
def FirstFree (s : State) (k : Nat) : Prop :=
  (List.range 8).find? (fun k => (descOf s (k + 1)).isNone && (openTxn s (k + 1)).isNone) = some k

/-- A begin from a tenant with the right, while work is taken, opens the first free handle (R90). -/
theorem beginRequest_opens {s : State} {w : Who} {k : Nat} (op : Nat) (hright : hasRight s (tenantOf s w.port) rightTXN = true)
    (hq : s.sys.qualified = true) (hs : standbyAccepted s = false) (hk : FirstFree s k) :
    beginRequest s op w = respond (opening s w k) op w 0 (k + 1) 0 [] := by
  rw [FirstFree] at hk
  simp [beginRequest, hright, hk, noWork, hq, hs, opening]

theorem openTxn_opening (s : State) (w : Who) (k : Nat) : (openTxn (opening s w k) (k + 1)).isSome = true := by
  simp [openTxn, opening]

theorem descOf_opening {s : State} {k : Nat} (w : Who) (hk : FirstFree s k) :
    descOf (opening s w k) (k + 1) = some ⟨k + 1, w.port, w.client, w.reqid, 0, 0⟩ := by
  have hfree := List.find?_some hk
  simp only [Bool.and_eq_true, Option.isNone_iff_eq_none] at hfree
  obtain ⟨hdesc, -⟩ := hfree
  rw [descOf] at hdesc
  simp [descOf, opening, List.find?_append, hdesc]

/-- A begin that is answered leaves its handle open. -/
theorem openTxn_begun {s : State} {w : Who} {k : Nat} (op : Nat) (hright : hasRight s (tenantOf s w.port) rightTXN = true)
    (hq : s.sys.qualified = true) (hs : standbyAccepted s = false) (hk : FirstFree s k) :
    (openTxn (beginRequest s op w) (k + 1)).isSome = true := by
  rw [beginRequest_opens op hright hq hs hk, openTxn_of_within (respond_within ..), openTxn_opening]

/-! ### Rolling back -/

/-- A rollback closes its transaction with cause 2 (R94). -/
theorem rollbackRequest_closes {s : State} {h : Nat} (op : Nat) (w : Who) (hd : (descOf s h).isSome = true) :
    openTxn (rollbackRequest s op w h) h = none ∧ descOf (rollbackRequest s op w h) h = none ∧
      byteAt 16 ((rollbackRequest s op w h).rd Od.txn_closure 0) 0 = h % 256 ∧
      byteAt 16 ((rollbackRequest s op w h).rd Od.txn_closure 0) 1 = 2 := by
  have hresp := respond_within (closeTxn s h 2 0 w.reqid 0) op w 0 h 0 []
  unfold rollbackRequest
  rw [openTxn_of_within hresp, descOf_of_within hresp, hresp.keeps _ _]
  exact ⟨openTxn_closeTxn _ _ _ _ hd, descOf_closeTxn _ _ _ _ hd, closeTxn_closure_bytes _ _ _ _ hd⟩

/-! ### Committing -/

/-- The transactions' descriptors are what they were. -/
def KeepsDescs (s t : State) : Prop := t.mer.descs = s.mer.descs

theorem KeepsDescs.of_within {w : Option (List Nat)} {ps : List Part} {s t : State} (h : Within w ps s t)
    (hp : ps.contains .mer = false := by rfl) : KeepsDescs s t :=
  congrArg Meringue.descs (h.parts .mer hp)

theorem KeepsDescs.trans {s t u : State} (h : KeepsDescs s t) (h' : KeepsDescs t u) : KeepsDescs s u := Eq.trans h' h

theorem KeepsDescs.foldl {α : Type} {f : State → α → State} (h : ∀ t x, KeepsDescs t (f t x)) (l : List α) (s : State) :
    KeepsDescs s (l.foldl f s) := by
  induction l generalizing s with
  | nil => rfl
  | cons x xs ih => exact (h s x).trans (ih _)

theorem acceptElem_keepsDescs (s : State) (w : ElemW) : KeepsDescs s (acceptElem s w) := by
  unfold acceptElem
  split_ifs <;> rfl

theorem beginSpecial_keepsDescs (s : State) (r : LedgerRec) : KeepsDescs s (beginSpecial s r) := by
  unfold beginSpecial
  extract_lets ws s0 s1
  have h0 : KeepsDescs s s0 := .trans (t := modRec s r.seq (fun x => { x with begun := true })) rfl (.of_within (bumpVersions_within ..))
  have h1 : KeepsDescs s s1 := h0.trans (.foldl (fun _ _ => .of_within (beginItem_within ..)) _ _)
  split
  · exact h1.trans rfl
  · exact h1

theorem beginDue_keepsDescs (s : State) : KeepsDescs s (beginDue s) := by
  unfold beginDue
  split
  · rfl
  · exact .foldl beginSpecial_keepsDescs _ _

theorem settle_keepsDescs (s : State) : KeepsDescs s (settle s) := by
  unfold settle
  split
  · rfl
  · extract_lets done mer s1
    have h1 : KeepsDescs s (if done = [] then s1 else noteLedger s1 0) := by split <;> rfl
    exact h1.trans (.foldl (fun _ _ => .of_within (sendWaiting_within ..)) _ _)

/-- Acceptance opens and closes no transaction. -/
theorem accept_keepsDescs (s : State) (kind : Nat) (w : Who) (digest size : Nat) (ws : List ElemW) (op handle : Nat)
    (items : List WItem) : KeepsDescs s (accept s kind w digest size ws op handle items) := by
  unfold accept
  extract_lets r recs stamps wait mer txn s1 s2
  have h2 : KeepsDescs s s2 := .trans (t := s1.wr Od.txn_next_seq (r.seq + 1)) rfl (.foldl acceptElem_keepsDescs _ _)
  have hnote : KeepsDescs s2 (noteLedger s2 size) := rfl
  exact h2.trans (hnote.trans ((beginDue_keepsDescs _).trans (settle_keepsDescs _)))

theorem descOf_stampDesc_isSome (s : State) (h seq reqid : Nat) : (descOf (stampDesc s h seq reqid) h).isSome = (descOf s h).isSome := by
  simp only [descOf, stampDesc, List.find?_map, Option.isSome_map]
  congr 2
  funext d
  simp only [Function.comp_apply]
  split <;> rfl

/-- A commit that passes its checks and that the ledger takes is accepted, and closes its transaction with cause 1 (R93). -/
theorem commitRequest_accepted {s : State} {op : Nat} {w : Who} {h : Nat} {x : TxnOpen} (hx : openTxn s h = some x)
    (hv : commitVerdict s w x = (.ok, 1)) (ha : acceptRefusal s (8 + runsSize (runsOf x.staged)) = .ok) :
    commitRequest s op w h =
      closeTxn (accept (stampDesc s h (s.rd Od.txn_next_seq) w.reqid) 1 w (crc16 ((runsOf x.staged).flatMap runBytes))
        (8 + runsSize (runsOf x.staged)) x.staged op h []) h 1 0 w.reqid (s.rd Od.txn_next_seq) := by
  simp [commitRequest, hx, hv, ha]

/-- An accepted commit stands in the ledger as a record of kind 1 with the next number, and its transaction is open no more. -/
theorem commitRequest_recorded {s : State} {w : Who} {h : Nat} {x : TxnOpen} (op : Nat) (hd : (descOf s h).isSome = true)
    (hx : openTxn s h = some x) (hv : commitVerdict s w x = (.ok, 1))
    (ha : acceptRefusal s (8 + runsSize (runsOf x.staged)) = .ok) :
    (∃ r ∈ (commitRequest s op w h).mer.recs, r.seq = s.rd Od.txn_next_seq ∧ r.kind = 1 ∧ r.reqid = w.reqid) ∧
      openTxn (commitRequest s op w h) h = none := by
  rw [commitRequest_accepted hx hv ha]
  constructor
  · obtain ⟨r, hr, hseq, hkind, -, -, hreqid, -⟩ := accept_recorded (stampDesc s h (s.rd Od.txn_next_seq) w.reqid) 1 w
      (crc16 ((runsOf x.staged).flatMap runBytes)) (8 + runsSize (runsOf x.staged)) x.staged op h []
    exact ⟨r, by rwa [closeTxn_keeps_recs], hseq, hkind, hreqid⟩
  · refine openTxn_closeTxn _ _ _ _ ?_
    rw [descOf, accept_keepsDescs, ← descOf, descOf_stampDesc_isSome, hd]

/-! ### Requests of a client (R69, R93) -/

theorem sramHeld_begin {s : State} (hstore : s.nvs.storing = none) : sramHeld s opBEGIN = false := by
  simp [sramHeld, hstore, opBEGIN, opCOMMIT]

theorem sramHeld_commit {s : State} (hstore : s.nvs.storing = none) (hc : commitAwaits s = false) : sramHeld s opCOMMIT = false := by
  simp [sramHeld, hstore, hc]

theorem sramHeld_rollback {s : State} (hstore : s.nvs.storing = none) : sramHeld s opROLLBACK = false := by
  simp [sramHeld, hstore, opROLLBACK, opCOMMIT]

theorem sramHeld_commitAwaits {s : State} (hc : commitAwaits s = true) : sramHeld s opCOMMIT = true := by
  simp [sramHeld, hc]

/-- A request that ends a transaction and passes step 7 of R69 names one that has a descriptor. -/
theorem descOf_of_gate {s : State} {op : Nat} {w : Who} {h : Nat} (hop : op = opCOMMIT ∨ op = opROLLBACK)
    (hg : gate s op w h = none) : (descOf s h).isSome = true := by
  have hends : (op == opCOMMIT || op == opROLLBACK) = true := by simpa using hop
  cases hd : descOf s h with
  | some d => rfl
  | none =>
    simp only [gate, hends, hd] at hg
    split at hg <;> simp at hg

/-- The count of a request for its port does not change what step 7 of R69 answers. -/
theorem gate_count (s : State) (op port : Nat) (w : Who) (h : Nat) : gate (s.count Od.od_port_hits port) op w h = gate s op w h := by
  have hclosure : ∀ e, (s.count Od.od_port_hits port).rd Od.txn_closure e = s.rd Od.txn_closure e :=
    fun e => rd_count_ne _ _ _ _ _ _ (by decide)
  simp only [gate, closureFor, hclosure]
  rfl

/-- A TXN_BEGIN from step 5 of R69 on, where it repeats nothing. -/
theorem serve_begin {s : State} {w : Who} (hr : w.reqid ≠ 0) (hd : duplicateOf s w = none) (hstore : s.nvs.storing = none) :
    serve s opBEGIN w 0 [] = beginRequest s opBEGIN w := by
  have hg : gate s opBEGIN w 0 = none := rfl
  simp only [serve, hd, hg, ↓reduceIte, sramHeld_begin hstore]
  simp [hr, opBEGIN, opROLLBACK, opREAD, opWRITE, opDESCRIBE]

/-- The state in which a request is looked at whose transaction it has touched. -/
def touched (s : State) (h : Nat) : State := if h = 0 then s else touchTxn s h

theorem touched_within (s : State) (h : Nat) : Within (some []) [.txn] s (touched s h) :=
  .ite (.refl _ _ _) (touchTxn_within ..)

/-- A request that ends a transaction, from step 5 of R69 on, where it repeats nothing and passes step 7. -/
theorem serve_ends {s : State} {op : Nat} {w : Who} {h : Nat} (hop : op = opCOMMIT ∨ op = opROLLBACK) (hr : w.reqid ≠ 0)
    (hd : duplicateOf s w = none) (hg : gate s op w h = none) :
    serve s op w h [] =
      if sramHeld (touched s h) op then holdTxn (touched s h) op w h
      else if op = opCOMMIT then commitRequest (touched s h) op w h
      else rollbackRequest (touched s h) op w h := by
  simp only [serve, hd, hg]
  rcases hop with rfl | rfl <;> simp [hr, touched, opCOMMIT, opROLLBACK, opREAD, opWRITE, opDESCRIBE, opBEGIN]

/-! ### The local bus (R96, R162) -/

theorem descOf_of_lbTxn {s : State} {h : Nat} (hh : lbTxn s = some h) : (descOf s h).isSome = true := by
  obtain ⟨d, hd, rfl⟩ := Option.map_eq_some_iff.mp hh
  exact List.find?_isSome.mpr ⟨d, List.mem_of_find?_eq_some hd, beq_self_eq_true _⟩

/-- The state in which a write of the local bus is looked at: counted for logical port 0, its status slot pending. -/
def lbCounted (s : State) (w : Who) : State := lbPending (s.count Od.od_port_hits 0) w.reqid

theorem lbCounted_within (s : State) (w : Who) : Within (some [Od.od_port_hits]) [.lbs] s (lbCounted s w) :=
  .lbs _ rfl (.count _ _ _ rfl (.refl _ _ _))

/-- A write of the local bus to one of its transaction entries that repeats nothing and passes its checks (R96). -/
theorem writeEntry_lbTxn {s : State} {w : Who} {i v : Nat} (hi : Od.txn_begin ≤ i) (hi' : i ≤ Od.txn_rollback) (hs : serves s = true)
    (hp : w.port = 0) (hk : s.rd Od.od_port_kind 0 ≠ 0) (hr : w.reqid ≠ 0) (hd : duplicateOf s w = none)
    (hc : checkItem (lbCounted s w) ⟨0, w.client, 0, false, false, none⟩ (entryItem i 0 v) = .ok) :
    writeEntry w i 0 v s = lbTxnWrite (lbCounted s w) w i := by
  have hd' : duplicateOf (lbPending (s.count Od.od_port_hits 0) w.reqid) w = none := hd
  rw [lbCounted] at hc
  simp [writeEntry, request, hs, hp, hk, lbServe, hd', hr, entryItem_index, hi, hi', hc, lbCounted]

theorem lbTxnWrite_begin {s : State} {w : Who} (hh : lbTxn s = none) (hstore : s.nvs.storing = none) :
    lbTxnWrite s w Od.txn_begin = beginRequest s opBEGIN w := by
  simp [lbTxnWrite, hh, sramHeld_begin hstore]

/-- A commit or a rollback of the local bus's open transaction that answers no repetition and need not wait (R96). -/
theorem lbTxnWrite_ends {s : State} {w : Who} {h : Nat} {x : TxnOpen} (hcl : closureFor s w = none) (hh : lbTxn s = some h)
    (hx : openTxn s h = some x) (hcom : x.committing = false) (hstore : s.nvs.storing = none) :
    (commitAwaits s = false → lbTxnWrite s w Od.txn_commit = commitRequest s opCOMMIT w h) ∧
      lbTxnWrite s w Od.txn_rollback = rollbackRequest s opROLLBACK w h := by
  have hcb : Od.txn_commit ≠ Od.txn_begin := by decide
  have hrb : Od.txn_rollback ≠ Od.txn_begin := by decide
  have hrc : Od.txn_rollback ≠ Od.txn_commit := by decide
  have hoc : opCOMMIT ≠ opBEGIN := by decide
  have hob : opROLLBACK ≠ opBEGIN := by decide
  have hor : opROLLBACK ≠ opCOMMIT := by decide
  constructor
  · intro haw
    simp [lbTxnWrite, hcb, hoc, hcl, hh, hx, hcom, sramHeld_commit hstore haw]
  · simp [lbTxnWrite, hrb, hrc, hob, hor, hcl, hh, hx, hcom, sramHeld_rollback hstore]

end Sys2Proof.Proofs

/-!
## Transactions open, commit, roll back and time out (R90, R93 to R97)
-/
namespace Sys2Proof.Proofs

open Sys2Proof Sys2Proof.Machine Sys2Proof.Safety Sys2Proof.Laws

set_option Elab.async false

theorem countHits_within (s : State) (port : Nat) : Within (some [Od.od_port_hits]) [] s (s.count Od.od_port_hits port) :=
  .count _ _ _ rfl (.refl _ _ _)

theorem hasRight_of_within {l : Option (List Nat)} {ps : List Part} {s t : State} (hst : Within l ps s t) (port right : Nat)
    (hr : admits l Od.od_tenant_rights = false := by rfl) (hp : admits l Od.od_port_tenant = false := by rfl) :
    hasRight t (tenantOf t port) right = hasRight s (tenantOf s port) right := by
  simp only [hasRight, State.rdBit, tenantOf, hst.keeps _ _ hp, hst.keeps _ _ hr]

theorem closureFor_of_within {l : Option (List Nat)} {ps : List Part} {s t : State} (hst : Within l ps s t) (w : Who)
    (hl : admits l Od.txn_closure = false := by rfl) : closureFor t w = closureFor s w := by
  simp only [closureFor, hst.keeps _ _ hl]

/-- The answer to a client's begin: the handle that it opened. -/
theorem begin_answered {s : State} {w : Who} {k : Nat} (hp : w.port ≠ 0) (hk : FirstFree s k) :
    (openTxn (respond (opening (s.count Od.od_port_hits w.port) w k) opBEGIN w 0 (k + 1) 0 []) (k + 1)).isSome = true ∧
      descOf (respond (opening (s.count Od.od_port_hits w.port) w k) opBEGIN w 0 (k + 1) 0 []) (k + 1) =
        some ⟨k + 1, w.port, w.client, w.reqid, 0, 0⟩ ∧
      (respond (opening (s.count Od.od_port_hits w.port) w k) opBEGIN w 0 (k + 1) 0 []).out =
        .cop w (answerPorts s w.origin) opBEGIN 0 (k + 1) (degraded s) 0 [] :: s.out := by
  have hopen : Within (some [Od.od_port_hits]) [.mer, .txn] s (opening (s.count Od.od_port_hits w.port) w k) :=
    .mer_txn _ _ rfl rfl ((countHits_within s w.port).mono rfl rfl)
  have hdeg : degraded (opening (s.count Od.od_port_hits w.port) w k) = degraded s := by rw [degraded, hopen.keeps _ _, degraded]
  refine ⟨?_, ?_, ?_⟩
  · rw [openTxn_of_within (respond_within ..), openTxn_opening]
  · rw [descOf_of_within (respond_within ..), descOf_opening w (s := s.count Od.od_port_hits w.port) hk]
  · rw [respond_out _ _ _ _ _ (by decide) hp, answerPorts_of_within hopen, hdeg]
    rfl

/-- The state in which a client's request that ends a transaction is looked at: counted for its port, its transaction touched. -/
def attended (s : State) (w : Who) (h : Nat) : State := touched (s.count Od.od_port_hits w.port) h

theorem attended_within (s : State) (w : Who) (h : Nat) : Within (some [Od.od_port_hits]) [.txn] s (attended s w h) :=
  ((countHits_within s w.port).mono rfl rfl).trans ((touched_within ..).mono rfl rfl)

theorem attended_held (s : State) (w : Who) (h : Nat) : (attended s w h).txn.held = s.txn.held := by
  unfold attended touched
  split <;> rfl

theorem sramHeld_attended (s : State) (w : Who) (h op : Nat) : sramHeld (attended s w h) op = sramHeld s op := by
  unfold attended touched
  split <;> rfl

/-- A client's request that ends a transaction, where it repeats nothing and passes step 7 of R69. -/
theorem request_ends {s : State} {op : Nat} {w : Who} {h : Nat} (hop : op = opCOMMIT ∨ op = opROLLBACK) (hs : serves s = true)
    (hp : w.port ≠ 0) (hp' : w.port < 256) (hk : s.rd Od.od_port_kind w.port ≠ 0) (hr : w.reqid ≠ 0) (hd : duplicateOf s w = none)
    (hg : gate s op w h = none) :
    request s op w h [] =
      if sramHeld s op then holdTxn (attended s w h) op w h
      else if op = opCOMMIT then commitRequest (attended s w h) op w h
      else rollbackRequest (attended s w h) op w h := by
  rw [request_bound op h [] false hs hp hp' hk, serve_ends hop hr ((duplicateOf_count ..).trans hd) ((gate_count ..).trans hg),
    ← attended, sramHeld_attended]

/-- The transaction that such a request names has its descriptor when the request is looked at. -/
theorem descOf_attended {s : State} {op : Nat} {w : Who} {h : Nat} (hop : op = opCOMMIT ∨ op = opROLLBACK)
    (hg : gate s op w h = none) : (descOf (attended s w h) h).isSome = true := by
  rw [descOf_of_within (attended_within ..), descOf_of_gate hop hg]

/-- A commit that waits for the tick of the one before it is put aside, and nothing is answered (R93). -/
theorem holdTxn_attended (s : State) (w : Who) (h : Nat) :
    (holdTxn (attended s w h) opCOMMIT w h).mer = s.mer ∧ (holdTxn (attended s w h) opCOMMIT w h).out = s.out ∧
      (holdTxn (attended s w h) opCOMMIT w h).txn.held = s.txn.held ++ [⟨opCOMMIT, w, h, [], false⟩] := by
  have hput : (holdTxn (attended s w h) opCOMMIT w h).txn.held = (attended s w h).txn.held ++ [⟨opCOMMIT, w, h, [], false⟩] := rfl
  have hw : Within (some [Od.od_port_hits]) [.txn] s (holdTxn (attended s w h) opCOMMIT w h) :=
    (attended_within s w h).trans ((holdTxn_within ..).mono rfl rfl)
  exact ⟨hw.parts .mer rfl, hw.parts .out rfl, by rw [hput, attended_held]⟩

/-- An idle transaction closes with cause 4, and is counted (R95, R97). -/
theorem txnIdleTimeout_closes {s : State} {h : Nat} {x : TxnOpen} (hs : serves s = true) (hx : openTxn s h = some x)
    (hd : (descOf s h).isSome = true) (hcom : x.committing = false) (hidle : x.last + s.rd Od.txn_timeout * 1000000000 ≤ s.now)
    (hfit : s.rd Od.txn_expired + 1 < 2 ^ 32) :
    openTxn (txnIdleTimeout h s) h = none ∧ byteAt 16 ((txnIdleTimeout h s).rd Od.txn_closure 0) 1 = 4 ∧
      (txnIdleTimeout h s).rd Od.txn_expired = s.rd Od.txn_expired + 1 := by
  have hclose : txnIdleTimeout h s = (closeTxn s h 4 0 0 0).count Od.txn_expired := by simp [txnIdleTimeout, hx, hs, hcom, hidle]
  have hcount : Within (some [Od.txn_expired]) [] (closeTxn s h 4 0 0 0) ((closeTxn s h 4 0 0 0).count Od.txn_expired) :=
    .count _ _ _ rfl (.refl _ _ _)
  have hexpired : (closeTxn s h 4 0 0 0).rd Od.txn_expired = s.rd Od.txn_expired := (closeTxn_within ..).keeps _ _
  rw [hclose, openTxn_of_within hcount, hcount.keeps Od.txn_closure _]
  obtain ⟨-, hcause⟩ := closeTxn_closure_bytes 4 0 0 0 hd
  refine ⟨openTxn_closeTxn _ _ _ _ hd, hcause, ?_⟩
  rw [rd_count_self, hexpired]
  rw [hexpired]
  exact hfit

/-- Settles O42: each clause by what its request comes to, and that by the rule for opening, committing or closing a transaction. -/
theorem transactionsOpenAndClose : Obligations.TransactionsOpenAndClose := by
  refine ⟨fun s w k hs hp hp' hk hr hd hstore hright hq hst hfree => ?_,
    fun s s1 w h x hs hp hp' hk hr hd hs1 hg hstore haw h0 hx hv ha => ?_,
    fun s w h hs hp hp' hk hr hd hg haw => ?_,
    fun s w h hs hp hp' hk hr hd hg hstore h0 h256 => ?_,
    fun s h x hs hx hd hcom hidle hfit => ⟨_, rfl, txnIdleTimeout_closes hs hx hd hcom hidle hfit⟩,
    fun s s1 w v k hs hp hk hr hd hs1 hc hh hstore hright hq hst hfree => ?_,
    fun s s1 w v h x hs hp hk hr hd hs1 hc hcl hh hstore haw hx hcom hv ha => ?_,
    fun s s1 w v h x hs hp hk hr hd hs1 hc hcl hh hstore hx hcom => ?_⟩
  · have hbegin := (serve_begin (s := s.count Od.od_port_hits w.port) hr hd hstore).trans
      (beginRequest_opens opBEGIN ((hasRight_of_within (countHits_within ..) ..).trans hright) hq hst hfree)
    exact ⟨_, next_of_eq ((request_bound opBEGIN 0 [] false hs hp hp' hk).trans hbegin), begin_answered hp hfree⟩
  · obtain rfl : s1 = attended s w h := hs1.trans (if_neg h0).symm
    have hcommit := request_ends (.inl rfl) hs hp hp' hk hr hd hg
    rw [sramHeld_commit hstore haw] at hcommit
    obtain ⟨⟨r, hmem, hseq, hkind, hreqid⟩, hclosed⟩ := commitRequest_recorded opCOMMIT (descOf_attended (.inl rfl) hg) hx hv ha
    exact ⟨_, r, next_of_eq hcommit, hmem, hseq.trans ((attended_within ..).keeps _ _), hkind, hreqid, hclosed⟩
  · have hcommit := request_ends (.inl rfl) hs hp hp' hk hr hd hg
    rw [sramHeld_commitAwaits haw] at hcommit
    exact ⟨_, next_of_eq hcommit, holdTxn_attended ..⟩
  · have hrollback := request_ends (.inr rfl) hs hp hp' hk hr hd hg
    rw [sramHeld_rollback hstore] at hrollback
    obtain ⟨hopen, hfreed, hhandle, hcause⟩ := rollbackRequest_closes opROLLBACK w (descOf_attended (.inr rfl) hg)
    exact ⟨_, next_of_eq hrollback, hopen, hfreed, hhandle.trans (Nat.mod_eq_of_lt h256), hcause⟩
  · obtain rfl : s1 = lbCounted s w := hs1
    have hbegin := (writeEntry_lbTxn (by decide) (by decide) hs hp hk hr hd hc).trans (lbTxnWrite_begin hh hstore)
    refine ⟨_, next_of_eq hbegin, openTxn_begun opBEGIN ?_ hq hst hfree⟩
    rw [hp]
    exact (hasRight_of_within (lbCounted_within ..) ..).trans hright
  · obtain rfl : s1 = lbCounted s w := hs1
    obtain ⟨hcommit, -⟩ := lbTxnWrite_ends (s := lbCounted s w) ((closureFor_of_within (lbCounted_within ..) w).trans hcl) hh hx hcom hstore
    obtain ⟨⟨r, hmem, hseq, hkind, -⟩, hclosed⟩ := commitRequest_recorded (s := lbCounted s w) opCOMMIT (descOf_of_lbTxn hh) hx hv ha
    exact ⟨_, r, next_of_eq ((writeEntry_lbTxn (by decide) (by decide) hs hp hk hr hd hc).trans (hcommit haw)), hmem, hkind,
      hseq.trans ((lbCounted_within ..).keeps _ _), hclosed⟩
  · obtain rfl : s1 = lbCounted s w := hs1
    obtain ⟨-, hrollback⟩ := lbTxnWrite_ends (s := lbCounted s w) ((closureFor_of_within (lbCounted_within ..) w).trans hcl) hh hx hcom hstore
    obtain ⟨hclosed, -⟩ := rollbackRequest_closes (s := lbCounted s w) opROLLBACK w (descOf_of_lbTxn hh)
    exact ⟨_, next_of_eq ((writeEntry_lbTxn (by decide) (by decide) hs hp hk hr hd hc).trans hrollback), hclosed⟩

end Sys2Proof.Proofs

/-!
## Power over the data pair: the order of the ports, and what an operation on one port leaves of another (R137 to R142)

Every operation of R138 to R142 works port by port. Faults, grants and disconnections end in a revisit of the denied ports, which leaves a port alone
that is not denied.
-/
namespace Sys2Proof.Proofs

open Sys2Proof Sys2Proof.Machine Sys2Proof.Safety Sys2Proof.Laws

/-! ### Folds over ports -/

/-- An operation done at each of some ports brings a port among them from `P` to `Q`: at the others it keeps `P`, at the port it gives `Q`, and `Q`
stays. -/
theorem foldl_settles {f : State → Nat → State} {P Q : State → Prop} {p : Nat} {l : List Nat} {s : State}
    (hP : ∀ a ∈ l, a ≠ p → ∀ t, P t → P (f t a)) (hself : ∀ t, P t → Q (f t p)) (hQ : ∀ t a, Q t → Q (f t a)) (hp : p ∈ l)
    (hs : P s) : Q (l.foldl f s) := by
  induction l generalizing s with
  | nil => cases hp
  | cons a l ih =>
    by_cases ha : a = p
    · exact List.foldlRecOn l f (ha ▸ hself s hs) fun t ht b _ => hQ t b ht
    · exact ih (fun b hb => hP b (List.mem_cons_of_mem _ hb)) (List.mem_of_ne_of_mem (Ne.symm ha) hp)
        (hP a List.mem_cons_self ha s hs)

theorem mem_pseOrder_lt {s : State} {d : Bool} {p : Nat} (h : p ∈ pseOrder s d) : p < t1lCount s := by
  cases d <;> simp [pseOrder] at h <;> omega

theorem mem_pseOrder {s : State} {p : Nat} (d : Bool) (hp : p < t1lCount s) (hprio : s.rd Od.fld_pse_prio p ≤ 3) : p ∈ pseOrder s d := by
  cases d <;> simp [pseOrder, hp] <;> omega

/-! ### One port's state beside another's -/

theorem pseRestart_rd_ne (s : State) (q i : Nat) {p : Nat} (h : p ≠ q) : (pseRestart s q).rd i p = s.rd i p := by
  unfold pseRestart
  split
  · rw [rd_wr_elem _ _ _ _ _ _ h, rd_wr_elem _ _ _ _ _ _ h]
  · rfl

theorem pseRestart_off {s : State} {p : Nat} (hen : s.rd Od.fld_pse_enable p = 1) (hst : s.rd Od.fld_pse_state p ≠ 9) :
    (pseRestart s p).rd Od.fld_pse_state p = 0 ∧ (pseRestart s p).rd Od.fld_pse_class p = 0 := by
  rw [pseRestart, if_pos ⟨hen, hst⟩]
  exact ⟨(rd_wr_ne _ _ _ _ _ _ (by decide)).trans (rd_wr_fit _ _ _ _ (by decide)), rd_wr_fit _ _ _ _ (by decide)⟩

/-- The turn of a revisit goes to a denied port, and so leaves one that is not denied as it is (R142). -/
theorem pseTurn_rd {s : State} {p : Nat} (ports : List Nat) (i : Nat) (h : s.rd Od.fld_pse_state p ≠ 5) :
    (pseTurn s ports).rd i p = s.rd i p := by
  have hhead := List.head?_dropWhile_not (fun q => s.rd Od.fld_pse_state q != 5) ports
  unfold pseTurn
  extract_lets waiting fld
  cases hw : waiting with
  | nil => rfl
  | cons q qs =>
    have hq : s.rd Od.fld_pse_state q = 5 := by simpa [waiting, hw] using hhead
    have hne : p ≠ q := fun hpq => h (hpq ▸ hq)
    exact pseRestart_rd_ne _ q i hne

theorem pseNoteAlloc_rd (s : State) (i e : Nat) (hi : i ≠ Od.fld_pse_alloc) : (pseNoteAlloc s).rd i e = s.rd i e := rd_wr_ne _ _ _ _ _ _ hi

theorem pseRevisit_rd {s : State} {p : Nat} (i : Nat) (hi : i ≠ Od.fld_pse_alloc) (h : s.rd Od.fld_pse_state p ≠ 5) :
    (pseRevisit s).rd i p = s.rd i p := by
  unfold pseRevisit
  rw [pseNoteAlloc_rd _ _ _ hi]
  split
  · exact pseTurn_rd _ _ h
  · split
    · rfl
    · exact pseTurn_rd _ _ h

end Sys2Proof.Proofs

/-!
## A PoDL port up to power (R134, R138, R139, R141)
-/
namespace Sys2Proof.Proofs

open Sys2Proof Sys2Proof.Machine Sys2Proof.Safety Sys2Proof.Laws

/-! ### Detection (R138) -/

/-- The port begins to detect, and meets a signature. -/
def detecting (s : State) (p : Nat) (sigOk : Bool) : State :=
  { s.wr Od.fld_pse_state 2 p with fld := { s.fld with detects := tabPut p sigOk s.fld.detects } }

/-- The check of a port that is off, or repeats its check: a foreign voltage shows, or detection begins. -/
theorem pseDetect_checks {s : State} {p : Nat} (foreignMv : Nat) (sigOk : Bool) (hr : running s = true) (hp : p < t1lCount s)
    (hen : s.rd Od.fld_pse_enable p = 1) (hpwr : s.fld.pwrBad = false) (hoff : entryOff s = false)
    (hst : s.rd Od.fld_pse_state p ∈ [0, 1, 3]) :
    pseDetect s p foreignMv sigOk = if 3000 ≤ foreignMv then s.wr Od.fld_pse_state 1 p else detecting s p sigOk := by
  simp only [List.mem_cons, List.not_mem_nil, or_false] at hst
  rcases hst with hst | hst | hst <;> simp [pseDetect, psePowered, detecting, hr, hp, hen, hpwr, hoff, hst]

theorem detecting_state (s : State) (p : Nat) (sigOk : Bool) : (detecting s p sigOk).rd Od.fld_pse_state p = 2 :=
  rd_wr_fit s Od.fld_pse_state 2 p (by decide)

/-- The only detection under way ends with its signature. -/
theorem pseDetected_state {s : State} {p : Nat} (sigOk : Bool) (h : s.fld.detects = []) :
    (pseDetected (detecting s p sigOk)).rd Od.fld_pse_state p = if sigOk then 4 else 3 := by
  have hone : (detecting s p sigOk).fld.detects = [(p, sigOk)] := congrArg (tabPut p sigOk) h
  unfold pseDetected
  rw [hone, List.foldl_cons, List.foldl_nil]
  refine (congrArg (State.rd · Od.fld_pse_state p) (if_pos (detecting_state s p sigOk))).trans ?_
  exact rd_wr_fit _ _ _ _ (by split <;> decide)

/-- What such a check shows, and what follows its detection. -/
theorem pseDetect_shows {s : State} {p : Nat} (foreignMv : Nat) (sigOk : Bool) (hr : running s = true) (hp : p < t1lCount s)
    (hen : s.rd Od.fld_pse_enable p = 1) (hpwr : s.fld.pwrBad = false) (hoff : entryOff s = false)
    (hst : s.rd Od.fld_pse_state p ∈ [0, 1, 3]) (hd : s.fld.detects = []) :
    (pseDetect s p foreignMv sigOk).rd Od.fld_pse_state p = (if 3000 ≤ foreignMv then 1 else 2) ∧
      (foreignMv < 3000 → (pseDetected (pseDetect s p foreignMv sigOk)).rd Od.fld_pse_state p = if sigOk then 4 else 3) := by
  rw [pseDetect_checks foreignMv sigOk hr hp hen hpwr hoff hst]
  split
  next hmv => exact ⟨rd_wr_fit _ _ _ _ (by decide), fun h => absurd hmv (Nat.not_le.mpr h)⟩
  next => exact ⟨detecting_state .., fun _ => pseDetected_state sigOk hd⟩

/-! ### The budget step (R141) -/

/-- The port is granted power for its class. -/
def pseGranted (s : State) (p c : Nat) : State := pseNoteAlloc ((s.wr Od.fld_pse_state 6 p).wr Od.fld_pse_class c p)

theorem pseGranted_state (s : State) (p c : Nat) : (pseGranted s p c).rd Od.fld_pse_state p = 6 := by
  rw [pseGranted, pseNoteAlloc_rd _ _ _ (by decide), rd_wr_ne _ _ _ _ _ _ (by decide), rd_wr_fit _ _ _ _ (by decide)]

theorem pseGranted_class (s : State) (p : Nat) {c : Nat} (hc : c < 2 ^ 8) : (pseGranted s p c).rd Od.fld_pse_class p = c := by
  rw [pseGranted, pseNoteAlloc_rd _ _ _ (by decide), rd_wr_fit _ _ _ _ hc]

theorem pseGranted_state_ne (s : State) (c : Nat) {p q : Nat} (h : p ≠ q) :
    (pseGranted s q c).rd Od.fld_pse_state p = s.rd Od.fld_pse_state p := by
  rw [pseGranted, pseNoteAlloc_rd _ _ _ (by decide), rd_wr_elem _ _ _ _ _ _ h, rd_wr_elem _ _ _ _ _ _ h]

theorem pseAdmit_fits {s : State} {p c : Nat} (hmax : c ≤ s.rd Od.fld_pse_max_class p)
    (hfit : (countedAlloc s c).le ((pseBudget s).sub (pseAllocated s)) = true) : pseAdmit s p c = pseGranted s p c := by
  simp only [pseAdmit, if_neg (Nat.not_lt.mpr hmax), hfit, if_true, pseGranted]

/-- Only ports of the list are chosen as victims. -/
theorem mem_pseChoose {s : State} {free need : Frac} {x : Nat} (l : List Nat) (freed : Frac) (chosen : List Nat)
    (h : x ∈ (pseChoose s free need l freed chosen).1) : x ∈ chosen ∨ x ∈ l := by
  induction l generalizing freed chosen with
  | nil => exact .inl h
  | cons q qs ih =>
    unfold pseChoose at h
    split at h
    · exact .inl h
    · rcases ih _ _ h with h | h
      · rcases List.mem_append.mp h with h | h
        · exact .inl h
        · exact .inr (List.mem_singleton.mp h ▸ List.mem_cons_self)
      · exact .inr (List.mem_cons_of_mem _ h)

theorem foldl_pseShed_state_ne {s : State} {p : Nat} {l : List Nat} (h : p ∉ l) :
    (l.foldl pseShed s).rd Od.fld_pse_state p = s.rd Od.fld_pse_state p :=
  List.foldlRecOn (motive := fun t => t.rd Od.fld_pse_state p = s.rd Od.fld_pse_state p) l pseShed rfl fun t ht _ hq =>
    (rd_wr_elem t _ _ _ _ _ (ne_of_mem_of_not_mem hq h).symm).trans ht

/-- Admitting a port takes power from none whose priority number is as low (R141). -/
theorem pseAdmit_keeps_power {s : State} {p q : Nat} (c : Nat) (hne : p ≠ q) (hprio : s.rd Od.fld_pse_prio p ≤ s.rd Od.fld_pse_prio q)
    (h : s.rd Od.fld_pse_state p = 6) : (pseAdmit s q c).rd Od.fld_pse_state p = 6 := by
  have hdenied : (s.wr Od.fld_pse_state 5 q).rd Od.fld_pse_state p = 6 := (rd_wr_elem _ _ _ _ _ _ hne).trans h
  unfold pseAdmit
  split
  · exact hdenied
  · extract_lets need free grant victims r
    split
    · exact (pseGranted_state_ne s c hne).trans h
    · split
      · exact hdenied
      · have hspared : p ∉ r.1 := fun hp => by
          have hv : p ∈ victims := (mem_pseChoose _ _ _ hp).resolve_left List.not_mem_nil
          simp only [victims, List.mem_filter, Bool.and_eq_true, decide_eq_true_eq] at hv
          omega
        have hgrant : (grant (r.1.foldl pseShed s)).rd Od.fld_pse_state p = 6 :=
          (pseGranted_state_ne _ c hne).trans ((foldl_pseShed_state_ne hspared).trans h)
        rw [pseRevisit_rd _ (by decide) (by rw [hgrant]; decide), hgrant]

theorem pseClassified_not_waiting {s : State} {p : Nat} (cls : Option Nat) (h : s.rd Od.fld_pse_state p ≠ 4) : pseClassified p cls s = s :=
  if_neg fun ⟨_, _, hst⟩ => h hst

theorem pseClassified_admits {s : State} {p c : Nat} (hr : running s = true) (hp : p < t1lCount s) (hst : s.rd Od.fld_pse_state p = 4)
    (hlo : 10 ≤ c) (hhi : c ≤ 15) : pseClassified p (some c) s = pseAdmit s p c := by
  simp [pseClassified, hr, hp, hst, Nat.not_lt.mpr hlo, Nat.not_lt.mpr hhi]

theorem pseClassified_keeps_power {s : State} {p q : Nat} (cls : Option Nat) (hprio : s.rd Od.fld_pse_prio p ≤ s.rd Od.fld_pse_prio q)
    (h : s.rd Od.fld_pse_state p = 6) : (pseClassified q cls s).rd Od.fld_pse_state p = 6 := by
  by_cases hne : p = q
  · rw [pseClassified_not_waiting cls (hne ▸ by rw [h]; decide), h]
  · have hwr : ∀ v, (s.wr Od.fld_pse_state v q).rd Od.fld_pse_state p = 6 := fun v => (rd_wr_elem _ _ _ _ _ _ hne).trans h
    unfold pseClassified
    split
    · cases cls with
      | none => exact hwr 3
      | some c =>
        dsimp only
        split
        · exact hwr 5
        · exact pseAdmit_keeps_power c hne hprio h
    · exact h

/-! ### Ports at the budget step (R138) -/

/-- A port's own part in PSE_CLASSIFICATION_DONE. -/
def pseReach (done : List (Nat × Option Nat)) (t : State) (p : Nat) : State :=
  match done.find? (fun d => d.1 == p) with
  | some d => pseClassified p d.2 t
  | none => t

theorem pseClassificationDone_eq (done : List (Nat × Option Nat)) (s : State) :
    pseClassificationDone done s = (pseOrder s false).foldl (pseReach done) s := rfl

theorem pseReach_absent {done : List (Nat × Option Nat)} {p : Nat} (t : State) (h : ∀ d ∈ done, d.1 ≠ p) : pseReach done t p = t := by
  have hfind : done.find? (fun d => d.1 == p) = none := List.find?_eq_none.mpr fun d hd => by simpa using h d hd
  simp only [pseReach, hfind]

theorem pseReach_head (p : Nat) (cls : Option Nat) (others : List (Nat × Option Nat)) (t : State) :
    pseReach ((p, cls) :: others) t p = pseClassified p cls t := by
  simp [pseReach]

/-- One port alone at the budget step. -/
theorem pseClassificationDone_single {s : State} {p : Nat} {cls : Option Nat} (hmem : p ∈ pseOrder s false)
    (hleft : (pseClassified p cls s).rd Od.fld_pse_state p ≠ 4) : pseClassificationDone [(p, cls)] s = pseClassified p cls s := by
  have hother : ∀ t q, q ≠ p → pseReach [(p, cls)] t q = t := fun t q hq => pseReach_absent t (by simpa using hq.symm)
  refine foldl_settles (P := (· = s)) (Q := (· = pseClassified p cls s)) (fun q _ hq t ht => (hother t q hq).trans ht) ?_ ?_ hmem rfl
  · rintro t rfl
    exact pseReach_head ..
  · rintro t q rfl
    show pseReach [(p, cls)] _ q = _
    by_cases hq : q = p
    · rw [hq, pseReach_head, pseClassified_not_waiting cls hleft]
    · exact hother _ q hq

/-- The port has power, and no port goes before it. -/
def FirstPowered (p : Nat) (t : State) : Prop := t.rd Od.fld_pse_state p = 6 ∧ t.rd Od.fld_pse_prio p = 0

theorem FirstPowered.pseReach {t : State} {p : Nat} (h : FirstPowered p t) (done : List (Nat × Option Nat)) (q : Nat) :
    FirstPowered p (pseReach done t q) := by
  obtain ⟨hst, hprio⟩ := h
  unfold Proofs.pseReach
  split
  next d _ =>
    exact ⟨pseClassified_keeps_power d.2 (by rw [hprio]; exact Nat.zero_le _) hst, ((pseClassified_within ..).keeps _ _).trans hprio⟩
  next => exact ⟨hst, hprio⟩

/-- Ports of the first priority come first. -/
theorem pseOrder_eq_append (s : State) :
    ∃ rest, pseOrder s false = (List.range (t1lCount s)).filter (fun p => s.rd Od.fld_pse_prio p == 0) ++ rest := ⟨_, rfl⟩

/-- Of two ports at the budget step together, that of the first priority takes what the budget has. -/
theorem pseClassificationDone_pair {s : State} {p q c : Nat} (cls : Option Nat) (hp : p < t1lCount s) (hp0 : s.rd Od.fld_pse_prio p = 0)
    (hq : s.rd Od.fld_pse_prio q ≠ 0) (hgrant : pseClassified p (some c) s = pseGranted s p c) :
    (pseClassificationDone [(q, cls), (p, some c)] s).rd Od.fld_pse_state p = 6 := by
  have hqp : q ≠ p := fun h => hq (h ▸ hp0)
  obtain ⟨rest, horder⟩ := pseOrder_eq_append s
  have hfirst : FirstPowered p (((List.range (t1lCount s)).filter (fun p => s.rd Od.fld_pse_prio p == 0)).foldl
      (pseReach [(q, cls), (p, some c)]) s) := by
    refine foldl_settles (p := p) (P := (· = s)) (fun a ha hap t ht => ?_) ?_ (fun t a h => h.pseReach _ a) (by simp [hp, hp0]) rfl
    · have ha0 : s.rd Od.fld_pse_prio a = 0 := by simpa using (List.mem_filter.mp ha).2
      have haq : q ≠ a := fun h => hq (h ▸ ha0)
      exact (pseReach_absent t (by simp [haq, hap.symm])).trans ht
    · rintro t rfl
      have hreach : pseReach [(q, cls), (p, some c)] t p = pseGranted t p c := by simp [pseReach, hqp, hgrant]
      have hkeeps : (pseGranted t p c).rd Od.fld_pse_prio p = t.rd Od.fld_pse_prio p := by
        rw [← hgrant, (pseClassified_within ..).keeps _ _]
      exact hreach ▸ ⟨pseGranted_state .., hkeeps.trans hp0⟩
  rw [pseClassificationDone_eq, horder, List.foldl_append]
  exact (List.foldlRecOn rest _ hfirst fun t ht a _ => ht.pseReach _ a).1

/-! ### Power -/

theorem psePowerGoodCheck_good {s : State} {p portMv sourceMv : Nat} (hp : p < t1lCount s) (hst : s.rd Od.fld_pse_state p = 6)
    (hmv : sourceMv * 9 ≤ portMv * 10) : (psePowerGoodCheck p portMv sourceMv s).rd Od.fld_pse_state p = 7 := by
  have hgood : underSource portMv sourceMv = false := by simpa [underSource] using hmv
  have h7 : ((s.wr Od.fld_pse_voltage (portMv / 10) p).wr Od.fld_pse_state 7 p).rd Od.fld_pse_state p = 7 :=
    rd_wr_fit _ _ _ _ (by decide)
  rw [psePowerGoodCheck, if_pos ⟨hp, hst⟩]
  simp only [hgood, Bool.false_eq_true, if_false]
  split
  · exact (rd_wr_ne _ _ _ _ _ _ (by decide)).trans h7
  · exact h7

/-- Settles O15: detection by what it shows and ends in, the budget step by the ports' order, the power by its check. -/
theorem powerIsDetectedAndGranted : Obligations.PowerIsDetectedAndGranted := by
  refine ⟨fun s p mv sigOk hr hp hen hpwr hoff hst hd => ⟨_, rfl, pseDetect_shows mv sigOk hr hp hen hpwr hoff (by simp [hst]) hd⟩,
    fun s p mv sigOk hr hp hen hpwr hoff hst hd => ⟨_, next_of_eq (if_pos hst), pseDetect_shows mv sigOk hr hp hen hpwr hoff
      (by rcases hst with h | h <;> simp [h]) hd⟩,
    fun s p c hr hp hst hprio hlo hhi hmax hfit => ?_,
    fun s p c hr hp hst hprio hc => ?_,
    fun s p q hr hp hq hst _ hp0 hq1 hmax _ hfit => ⟨_, rfl, pseClassificationDone_pair _ hp hp0 (by rw [hq1]; decide)
      ((pseClassified_admits hr hp hst (by decide) (by decide)).trans (pseAdmit_fits hmax hfit))⟩,
    fun s p portMv sourceMv hp hst hmv => ⟨_, rfl, psePowerGoodCheck_good hp hst hmv⟩⟩
  · have hgrant : pseClassified p (some c) s = pseGranted s p c :=
      (pseClassified_admits hr hp hst hlo hhi).trans (pseAdmit_fits hmax hfit)
    have hdone := pseClassificationDone_single (cls := some c) (mem_pseOrder false hp hprio) (by rw [hgrant, pseGranted_state]; decide)
    exact ⟨_, next_of_eq (hdone.trans hgrant), pseGranted_state .., pseGranted_class s p (by omega)⟩
  · have hrefused : pseClassified p (some c) s = s.wr Od.fld_pse_state 5 p := by simp [pseClassified, hr, hp, hst, hc]
    have hdone := pseClassificationDone_single (cls := some c) (mem_pseOrder false hp hprio)
      (by rw [hrefused, rd_wr_fit _ _ _ _ (by decide)]; decide)
    exact next_of_eq (hdone.trans hrefused)

end Sys2Proof.Proofs

/-!
## Faults of a PoDL port (R140)
-/
namespace Sys2Proof.Proofs

open Sys2Proof Sys2Proof.Machine Sys2Proof.Safety Sys2Proof.Laws

/-- The port's faults of the last 10 min. -/
def recentFaults (s : State) (p : Nat) : List Nat :=
  (tabGet [] p s.fld.faultTimes).filter (fun t => decide (s.now < t + 600000000000))

/-- The third fault within 10 min latches the port, and an earlier one does not. -/
theorem pseFault_state (s : State) (p tag : Nat) :
    (pseFault s p tag).rd Od.fld_pse_state p = if 2 ≤ (recentFaults s p).length then 9 else 8 := by
  unfold pseFault
  extract_lets recent times s1 s2
  have hlen : 3 ≤ times.length ↔ 2 ≤ (recentFaults s p).length := Nat.succ_le_succ_iff
  have h1 : s1.rd Od.fld_pse_state p = if 2 ≤ (recentFaults s p).length then 9 else 8 := by
    simp only [← hlen]
    exact (rd_count_ne _ _ _ _ _ _ (by decide)).trans (rd_wr_fit _ _ _ _ (by split <;> decide))
  have h2 : (fieldEvent { s1 with fld := { s1.fld with faultTimes := tabPut p times s1.fld.faultTimes } } tag p).rd Od.fld_pse_state p = _ :=
    ((fieldEvent_within ..).keeps _ _).trans h1
  rw [pseRevisit_rd _ (by decide) (by rw [h2]; split <;> decide), h2]

theorem pseFault_state_cases (s : State) (p tag : Nat) :
    (pseFault s p tag).rd Od.fld_pse_state p = 8 ∨ (pseFault s p tag).rd Od.fld_pse_state p = 9 := by
  rw [pseFault_state]
  split <;> simp

/-- A port whose load is gone restarts. -/
theorem pseDisconnect_restarts {s : State} {p ma : Nat} (hp : p < t1lCount s) (hst : s.rd Od.fld_pse_state p = 7) (hma : ma < 5)
    (hen : s.rd Od.fld_pse_enable p = 1) :
    (pseDisconnect p ma s).rd Od.fld_pse_state p = 0 ∧ (pseDisconnect p ma s).rd Od.fld_pse_class p = 0 := by
  have hnote : ∀ i, i ≠ Od.fld_pse_current → (notePseCurrent s p ma).rd i p = s.rd i p := fun i hi => rd_wr_ne _ _ _ _ _ _ hi
  obtain ⟨hstate, hclass⟩ := pseRestart_off ((hnote _ (by decide)).trans hen) (by rw [hnote _ (by decide), hst]; decide)
  have hkept : (pseRestart (notePseCurrent s p ma) p).rd Od.fld_pse_state p ≠ 5 := by rw [hstate]; decide
  rw [pseDisconnect, if_pos ⟨hp, hst, hma⟩, pseRevisit_rd _ (by decide) hkept, pseRevisit_rd _ (by decide) hkept]
  exact ⟨hstate, hclass⟩

/-- Settles O16: each fault by the faults of the last 10 min, the other two by the restart of R138. -/
theorem powerFaultsLatchAtTheThird : Obligations.PowerFaultsLatchAtTheThird := by
  refine ⟨fun s p ma hp hpow htrip hfew => ⟨_, next_of_eq (if_pos ⟨hp, hpow, htrip⟩), ?_⟩,
    fun s p ma hp hpow htrip hmany => ⟨_, next_of_eq (if_pos ⟨hp, hpow, htrip⟩), ?_⟩,
    fun s p ma hp hpow hover => ⟨_, next_of_eq (if_pos ⟨hp, hpow, hover⟩), pseFault_state_cases ..⟩,
    fun s p portMv sourceMv hp hst hmv => ⟨_, next_of_eq (if_pos ⟨hp, hst, decide_eq_true hmv⟩), pseFault_state_cases ..⟩,
    fun s p ma hp hst hma hen => ⟨_, rfl, pseDisconnect_restarts hp hst hma hen⟩,
    fun s p hp hst hen hoff => ?_⟩
  · exact (pseFault_state ..).trans (if_neg (Nat.not_le.mpr hfew))
  · exact (pseFault_state ..).trans (if_pos hmany)
  · have hretry : pseFaultRetry p s = pseRestart s p := if_pos ⟨hp, hst, by simp [hoff]⟩
    exact next_of_eq (hretry.trans (if_pos ⟨hen, by rw [hst]; decide⟩))

end Sys2Proof.Proofs

/-!
## The common supply and the budget of the PoDL ports (R137, R140 to R142, R432)
-/
namespace Sys2Proof.Proofs

open Sys2Proof Sys2Proof.Machine Sys2Proof.Safety Sys2Proof.Laws

/-! ### FIELD_PWR (R140) -/

theorem setEnv_bit (s : State) {b : Nat} (on : Bool) (hb : b < widthOf Od.sys_env_status) :
    (setEnv s b on).rdBit Od.sys_env_status b = on := by
  unfold setEnv
  split
  next h => exact h
  next =>
    rw [rdBit_of_within (recordEvent_within ..) Od.sys_env_status _ _, rdBit_wrBit _ _ _ _ _ _ hb, if_pos rfl]

/-- The gate of a port opens, unless the port is latched. -/
def gateOpened (t : State) (p : Nat) : State := if t.rd Od.fld_pse_state p = 9 then t else t.wr Od.fld_pse_state 0 p

theorem gateOpened_within (t : State) (p : Nat) : Within (some [Od.fld_pse_state]) [] t (gateOpened t p) :=
  .ite (.refl _ _ _) (.wr _ _ _ rfl (.refl _ _ _))

theorem gateOpened_rd_ne (t : State) (q i : Nat) {p : Nat} (h : p ≠ q) : (gateOpened t q).rd i p = t.rd i p := by
  unfold gateOpened
  split
  · rfl
  · exact rd_wr_elem _ _ _ _ _ _ h

theorem gateOpened_state {t : State} {p : Nat} (h : t.rd Od.fld_pse_state p ≠ 9) : (gateOpened t p).rd Od.fld_pse_state p = 0 := by
  rw [gateOpened, if_neg h, rd_wr_fit _ _ _ _ (by decide)]

/-- Every gate opened: a port that is not latched is off. -/
theorem foldl_gateOpened_state {s : State} {p : Nat} (hp : p < t1lCount s) (h : s.rd Od.fld_pse_state p ≠ 9) (mv : Nat) :
    ((List.range (t1lCount s)).foldl gateOpened (s.wr Od.fld_field_pwr mv)).rd Od.fld_pse_state p = 0 := by
  refine foldl_settles (P := fun t => t.rd Od.fld_pse_state p ≠ 9) (Q := fun t => t.rd Od.fld_pse_state p = 0)
    (fun q _ hq t ht => ?_) (fun t ht => gateOpened_state ht) (fun t q ht => ?_) (List.mem_range.mpr hp) ?_
  · rwa [gateOpened_rd_ne _ _ _ (Ne.symm hq)]
  · by_cases hq : p = q
    · exact hq ▸ gateOpened_state (by rw [ht]; decide)
    · rwa [gateOpened_rd_ne _ _ _ hq]
  · rwa [rd_wr_ne _ _ _ _ _ _ (by decide)]

theorem fieldPwrOutOfRange_opens {s : State} {mv p : Nat} (hpow : powered s = true) (hmv : mv < 42000 ∨ 58000 < mv)
    (hp : p < t1lCount s) (hst : s.rd Od.fld_pse_state p ≠ 9) :
    (fieldPwrOutOfRange mv s).rd Od.fld_pse_state p = 0 ∧ (fieldPwrOutOfRange mv s).fld.pwrBad = true ∧
      (fieldPwrOutOfRange mv s).rdBit Od.sys_env_status envFIELD_PWR = true := by
  have hopen := foldl_gateOpened_state hp hst (mv / 10)
  rw [fieldPwrOutOfRange, if_pos ⟨hpow, hmv⟩]
  refine ⟨?_, ?_, ?_⟩
  · rw [pseNoteAlloc_rd _ _ _ (by decide), (setEnv_within ..).keeps _ _]
    exact hopen
  · rw [(pseNoteAlloc_within _).parts .fld rfl, (setEnv_within ..).parts .fld rfl]
  · rw [rdBit_of_within (pseNoteAlloc_within _) Od.sys_env_status _ _, setEnv_bit _ _ (by decide)]

theorem pseRestart_stays_off {t : State} {p : Nat} (q : Nat) (h : t.rd Od.fld_pse_state p = 0) :
    (pseRestart t q).rd Od.fld_pse_state p = 0 := by
  by_cases hq : p = q
  · subst hq
    by_cases hen : t.rd Od.fld_pse_enable p = 1
    · exact (pseRestart_off hen (by rw [h]; decide)).1
    · rwa [pseRestart, if_neg fun hc => hen hc.1]
  · rwa [pseRestart_rd_ne _ _ _ hq]

/-- Every port restarted: one that is enabled and not latched is off. -/
theorem foldl_pseRestart_state {s : State} {n p : Nat} (hp : p < n) (hen : s.rd Od.fld_pse_enable p = 1)
    (hst : s.rd Od.fld_pse_state p ≠ 9) : ((List.range n).foldl pseRestart s).rd Od.fld_pse_state p = 0 := by
  refine foldl_settles (P := fun t => t.rd Od.fld_pse_enable p = 1 ∧ t.rd Od.fld_pse_state p ≠ 9)
    (Q := fun t => t.rd Od.fld_pse_state p = 0) (fun q _ hq t ht => ?_) (fun t ht => (pseRestart_off ht.1 ht.2).1)
    (fun t q ht => pseRestart_stays_off q ht) (List.mem_range.mpr hp) ⟨hen, hst⟩
  rwa [pseRestart_rd_ne _ _ _ (Ne.symm hq), pseRestart_rd_ne _ _ _ (Ne.symm hq)]

theorem foldl_pseRestart_within (s : State) (l : List Nat) :
    Within (some [Od.fld_pse_state, Od.fld_pse_class]) [] s (l.foldl pseRestart s) :=
  .foldl (fun _ _ => pseRestart_within ..) l (.refl _ _ _)

theorem fieldPwrRecovered_restarts {s : State} {mv p : Nat} (hpow : powered s = true) (hbad : s.fld.pwrBad = true)
    (hlo : 44000 ≤ mv) (hhi : mv ≤ 57000) (hp : p < t1lCount s) (hen : s.rd Od.fld_pse_enable p = 1)
    (hst : s.rd Od.fld_pse_state p ≠ 9) :
    (fieldPwrRecovered mv s).rd Od.fld_pse_state p = 0 ∧ (fieldPwrRecovered mv s).fld.pwrBad = false ∧
      (fieldPwrRecovered mv s).rdBit Od.sys_env_status envFIELD_PWR = false := by
  rw [fieldPwrRecovered, if_pos ⟨hpow, hbad, hlo, hhi⟩]
  extract_lets s1
  have hkept : ∀ i, i ≠ Od.fld_field_pwr → s1.rd i p = s.rd i p := fun i hi => rd_wr_ne _ _ _ _ _ _ hi
  refine ⟨foldl_pseRestart_state hp ?_ ?_, ?_, ?_⟩
  · exact ((setEnv_within ..).keeps _ _).trans ((hkept _ (by decide)).trans hen)
  · rw [(setEnv_within ..).keeps _ _]
    exact fun h => hst ((hkept _ (by decide)).symm.trans h)
  · rw [(foldl_pseRestart_within _ _).parts .fld rfl, (setEnv_within ..).parts .fld rfl]
  · rw [rdBit_of_within (foldl_pseRestart_within _ _) Od.sys_env_status _ _, setEnv_bit _ _ (by decide)]

/-! ### The measured input (R137, R141) -/

theorem t1lCount_of_within {w : Option (List Nat)} {ps : List Part} {s t : State} (h : Within w ps s t) : t1lCount t = t1lCount s := by
  rw [t1lCount, State.perVariant, h.variant, t1lCount, State.perVariant]

theorem psePowered_of_within {w : Option (List Nat)} {ps : List Part} {s t : State} (h : Within w ps s t) (p : Nat)
    (hstate : admits w Od.fld_pse_state = false := by rfl) : psePowered t p = psePowered s p := by
  rw [psePowered, h.keeps _ _ hstate, psePowered]

/-- The measured input depends on the ports' states and classes, and on the rail's efficiency. -/
theorem pseInput_of_within {w : Option (List Nat)} {ps : List Part} {s t : State} (h : Within w ps s t) (m : List (Nat × Nat))
    (hstate : admits w Od.fld_pse_state = false := by rfl) (hclass : admits w Od.fld_pse_class = false := by rfl)
    (heff : admits w Od.fld_pse_lv_eff = false := by rfl) : pseInput t m = pseInput s m := by
  have hport : ∀ p, portInput t m p = portInput s m p := fun p => by
    rw [portInput, h.keeps _ _ hclass, h.keeps _ _ heff, portInput]
  simp only [pseInput, t1lCount_of_within h, psePowered_of_within h _ hstate, hport]

theorem pseInput_of_none_powered {s : State} (m : List (Nat × Nat)) (h : ∀ q, q < t1lCount s → psePowered s q = false) :
    pseInput s m = 0 := by
  have hsum : (List.range (t1lCount s)).foldl (fun (a : Frac) p => if psePowered s p then a.add (portInput s m p) else a) ⟨0, 1⟩ = ⟨0, 1⟩ :=
    List.foldlRecOn (motive := (· = (⟨0, 1⟩ : Frac))) _ _ rfl fun a ha p hp => by rw [h p (List.mem_range.mp hp), if_neg Bool.false_ne_true, ha]
  rw [pseInput, hsum]
  rfl

/-- One port's measurement noted. -/
def pseNoted (m : List (Nat × Nat)) (t : State) (p : Nat) : State :=
  notePseCurrent (t.wr Od.fld_pse_voltage (min ((m.getD p (0, 0)).1 / 10) 65535) p) p (m.getD p (0, 0)).2

theorem pseNoted_current (m : List (Nat × Nat)) (t : State) (p : Nat) :
    (pseNoted m t p).rd Od.fld_pse_current p = min (m.getD p (0, 0)).2 2000 :=
  rd_wr_fit _ _ _ _ (lt_of_le_of_lt (min_le_right _ _) (by decide))

theorem pseNoted_current_ne (m : List (Nat × Nat)) (t : State) {p q : Nat} (h : p ≠ q) :
    (pseNoted m t q).rd Od.fld_pse_current p = t.rd Od.fld_pse_current p :=
  (rd_wr_elem _ _ _ _ _ _ h).trans (rd_wr_elem _ _ _ _ _ _ h)

theorem notePse_current {s : State} (m : List (Nat × Nat)) {p : Nat} (hp : p < t1lCount s) :
    (notePse s m).rd Od.fld_pse_current p = min (m.getD p (0, 0)).2 2000 := by
  refine foldl_settles (f := pseNoted m) (P := fun _ => True) (Q := fun t => t.rd Od.fld_pse_current p = min (m.getD p (0, 0)).2 2000)
    (fun _ _ _ _ _ => trivial) (fun t _ => pseNoted_current m t p) (fun t q ht => ?_) (List.mem_range.mpr hp) trivial
  by_cases hq : p = q
  · exact hq ▸ pseNoted_current m t p
  · exact (pseNoted_current_ne m t hq).trans ht

/-! ### Shedding (R142) -/

/-- Whether the measured input exceeds the budget by no more than 5 %. -/
def inputFits (m : List (Nat × Nat)) (t : State) : Bool := decide (pseInput t m * 100 ≤ t.rd Od.fld_pse_budget * 105)

/-- Noting the measurements changes neither the input nor the budget. -/
theorem inputFits_notePse (s : State) (m : List (Nat × Nat)) : inputFits m (notePse s m) = inputFits m s := by
  rw [inputFits, inputFits, pseInput_of_within (notePse_within s m), (notePse_within s m).keeps _ _]

theorem pseInputOverBudget_eq (m : List (Nat × Nat)) (s : State) :
    pseInputOverBudget m s =
      let t := pseShedUntil (inputFits m) (pseOrder s true) (notePse s m)
      pseNoteAlloc (t.wr Od.fld_pse_input (min (pseInput t m) 65535)) := rfl

theorem pseShedUntil_done {done : State → Bool} (l : List Nat) {s : State} (h : done s = true) : pseShedUntil done l s = s := by
  cases l with
  | nil => rfl
  | cons q qs => exact if_pos h

/-- Of ports among which one alone is powered, shedding until a condition holds sheds that one, where its load is what the condition
waits for. -/
theorem pseShedUntil_single {done : State → Bool} {l : List Nat} {s : State} {p : Nat} (hmem : p ∈ l) (hpow : psePowered s p = true)
    (halone : ∀ q ∈ l, q ≠ p → psePowered s q = false) (hbefore : done s = false) (hafter : done (pseShed s p) = true) :
    pseShedUntil done l s = pseShed s p := by
  induction l with
  | nil => cases hmem
  | cons q qs ih =>
    rw [pseShedUntil, hbefore, if_neg Bool.false_ne_true]
    by_cases hq : q = p
    · rw [hq, if_pos hpow, pseShedUntil_done _ hafter]
    · rw [halone q List.mem_cons_self hq, if_neg Bool.false_ne_true]
      exact ih (List.mem_of_ne_of_mem (Ne.symm hq) hmem) fun r hr => halone r (List.mem_cons_of_mem _ hr)

theorem pseShed_state (s : State) (p : Nat) : (pseShed s p).rd Od.fld_pse_state p = 5 := rd_wr_fit _ _ _ _ (by decide)

theorem psePowered_pseShed (s : State) (p : Nat) : psePowered (pseShed s p) p = false := by
  rw [psePowered, pseShed_state]
  rfl

theorem psePowered_pseShed_ne (s : State) {p q : Nat} (h : q ≠ p) : psePowered (pseShed s p) q = psePowered s q := by
  have hrd : (pseShed s p).rd Od.fld_pse_state q = s.rd Od.fld_pse_state q := rd_wr_elem _ _ _ _ _ _ h
  rw [psePowered, hrd, psePowered]

/-- What the command leaves, from the ports it has shed. -/
theorem pseInputOverBudget_entries {m : List (Nat × Nat)} {s t : State} (h : pseShedUntil (inputFits m) (pseOrder s true) (notePse s m) = t) :
    (pseInputOverBudget m s).rd Od.fld_pse_input = min (pseInput t m) 65535 ∧
      (∀ p, (pseInputOverBudget m s).rd Od.fld_pse_state p = t.rd Od.fld_pse_state p) ∧
      ∀ p, (pseInputOverBudget m s).rd Od.fld_pse_current p = t.rd Od.fld_pse_current p := by
  have hkept : ∀ i p, i ≠ Od.fld_pse_alloc → i ≠ Od.fld_pse_input → (pseInputOverBudget m s).rd i p = t.rd i p := fun i p ha hi => by
    rw [pseInputOverBudget_eq, h, pseNoteAlloc_rd _ _ _ ha, rd_wr_ne _ _ _ _ _ _ hi]
  refine ⟨?_, fun p => hkept _ p (by decide) (by decide), fun p => hkept _ p (by decide) (by decide)⟩
  rw [pseInputOverBudget_eq, h, pseNoteAlloc_rd _ _ _ (by decide)]
  exact rd_wr_fit _ _ _ _ (lt_of_le_of_lt (min_le_right _ _) (by decide))

/-- Settles O17: the gates and the restarts port by port; the input by whether it fits before a port is shed and after. -/
theorem fieldPowerAndBudget : Obligations.FieldPowerAndBudget := by
  refine ⟨fun s mv p hpow hmv hp hst => ⟨_, rfl, fieldPwrOutOfRange_opens hpow hmv hp hst⟩,
    fun s mv p hpow hbad hlo hhi hp hen hst => ⟨_, rfl, fieldPwrRecovered_restarts hpow hbad hlo hhi hp hen hst⟩,
    fun s m hfits => ?_, fun s m p hover hp hprio hpow halone => ?_⟩
  · have hkept : pseShedUntil (inputFits m) (pseOrder s true) (notePse s m) = notePse s m :=
      pseShedUntil_done _ ((inputFits_notePse s m).trans (decide_eq_true hfits))
    obtain ⟨hinput, hstate, hcurrent⟩ := pseInputOverBudget_entries hkept
    refine ⟨_, rfl, hinput.trans (by rw [pseInput_of_within (notePse_within s m)]), fun p _ => ?_, fun p hp => ?_⟩
    · exact (hstate p).trans ((notePse_within s m).keeps _ _)
    · exact (hcurrent p).trans (notePse_current m hp)
  · have hnone : ∀ q, q < t1lCount s → psePowered (pseShed (notePse s m) p) q = false := fun q hq => by
      by_cases hqp : q = p
      · rw [hqp, psePowered_pseShed]
      · rw [psePowered_pseShed_ne _ hqp, psePowered_of_within (notePse_within s m), halone q hq hqp]
    have hzero : pseInput (pseShed (notePse s m) p) m = 0 := by
      refine pseInput_of_none_powered m fun q hq => hnone q ?_
      rwa [t1lCount_of_within (pseShed_within ..), t1lCount_of_within (notePse_within s m)] at hq
    have hshed : pseShedUntil (inputFits m) (pseOrder s true) (notePse s m) = pseShed (notePse s m) p :=
      pseShedUntil_single (mem_pseOrder true hp hprio) ((psePowered_of_within (notePse_within s m) _).trans hpow)
        (fun q hq hqp => (psePowered_of_within (notePse_within s m) _).trans (halone q (mem_pseOrder_lt hq) hqp))
        ((inputFits_notePse s m).trans (decide_eq_false (Nat.not_le.mpr hover))) (by simp [inputFits, hzero])
    obtain ⟨hinput, hstate, -⟩ := pseInputOverBudget_entries hshed
    exact ⟨_, rfl, (hstate p).trans (pseShed_state ..), by rw [hinput, hzero, Nat.zero_min]⟩

end Sys2Proof.Proofs

/-!
## 10BASE-T1S segments (R143, R144, R146)
-/
namespace Sys2Proof.Proofs

open Sys2Proof Sys2Proof.Machine Sys2Proof.Safety Sys2Proof.Laws

/-! ### Cycles (R144) -/

/-- A transmit opportunity takes as many frames as the queues hold, up to its number. -/
theorem txTake_length (n : Nat) (x : FieldTx) : (txTake n x).1.length = min (x.high.length + x.low.length) n := by
  induction n generalizing x with
  | zero => simp [txTake]
  | succ n ih =>
    obtain ⟨high, low, busy, sent⟩ := x
    cases high with
    | cons f fs =>
      simp only [txTake, txNext, List.length_cons, ih]
      omega
    | nil =>
      cases low with
      | cons f fs =>
        simp only [txTake, txNext, List.length_cons, List.length_nil, ih]
        omega
      | nil => simp [txTake, txNext]

theorem plcaCycle_beaconing {s : State} {seg burst : Nat} (meanUs : Nat) (hr : running s = true) (hseg : seg < t1sCount s)
    (hen : s.rd Od.fld_t1s_enable seg = 1) (hbeacon : tabGet false seg s.fld.beaconStopped = false) :
    (plcaCycle seg burst meanUs s).out =
        .fieldTx (16 + seg) (min ((txOf s (16 + seg)).high.length + (txOf s (16 + seg)).low.length)
          (min burst (s.rd Od.fld_plca_burst seg) + 1)) :: .beacon seg :: s.out ∧
      (s.rd Od.fld_t1s_state seg = 3 → (plcaCycle seg burst meanUs s).rd Od.fld_t1s_state seg = 1) := by
  rw [plcaCycle, if_pos ⟨hr, hseg, hen, by rw [hbeacon]; rfl⟩, ← txTake_length]
  extract_lets r x s0 s1 s2
  have hout : s2.out = .fieldTx (16 + seg) r.1.length :: .beacon seg :: s.out := rfl
  have hstate : s2.rd Od.fld_t1s_state seg = s.rd Od.fld_t1s_state seg :=
    (rd_wr_ne _ _ _ _ _ _ (by decide)).trans (rd_count_ne _ _ _ _ _ _ (by decide))
  split
  · exact ⟨hout, fun _ => rd_wr_fit _ _ _ _ (by decide)⟩
  next h => exact ⟨hout, fun h3 => absurd (hstate.trans h3) h⟩

/-! ### Faults of a segment (R146) -/

theorem fieldEvent_rd (s : State) (tag port i e : Nat) (hi : i ≠ Od.rec_dropped) : (fieldEvent s tag port).rd i e = s.rd i e :=
  (fieldEvent_within ..).entries i e (by simpa [admits] using hi)

theorem fieldEvent_fld (s : State) (tag port : Nat) : (fieldEvent s tag port).fld = s.fld := (fieldEvent_within ..).parts .fld rfl

theorem t1sForeignBeacon_state {s : State} {seg : Nat} (hr : t1sRuns s seg = true) :
    (t1sForeignBeacon seg s).rd Od.fld_t1s_state seg = 2 := by
  rw [t1sForeignBeacon, if_pos hr, fieldEvent_rd _ _ _ _ _ (by decide), rd_wr_fit _ _ _ _ (by decide)]

/-- A collision, counted and recorded. -/
def collisionNoted (s : State) (seg : Nat) : State := fieldEvent (s.count Od.fld_t1s_collisions seg) 5 (16 + seg)

theorem t1sCollision_foreign {s : State} {seg : Nat} (hr : t1sRuns s seg = true) : t1sCollision seg false s = collisionNoted s seg := by
  rw [t1sCollision, if_pos hr]
  rfl

theorem t1sCollision_own {s : State} {seg : Nat} (hr : t1sRuns s seg = true) :
    t1sCollision seg true s = t1sRetry (collisionNoted s seg) seg := by
  rw [t1sCollision, if_pos hr]
  rfl

theorem collisionNoted_count {s : State} {seg : Nat} (hfit : s.rd Od.fld_t1s_collisions seg + 1 < 2 ^ 32) :
    (collisionNoted s seg).rd Od.fld_t1s_collisions seg = s.rd Od.fld_t1s_collisions seg + 1 := by
  rw [collisionNoted, fieldEvent_rd _ _ _ _ _ (by decide), rd_count_self hfit]

theorem txOf_collisionNoted (s : State) (seg p : Nat) : txOf (collisionNoted s seg) p = txOf s p := by
  rw [txOf, collisionNoted, fieldEvent_fld]
  rfl

/-- The one frame of an opportunity collided: it is sent again, ahead of what waits. -/
theorem t1sRetry_single {s : State} {seg : Nat} {f : PortFrame} (hsent : (txOf s (16 + seg)).sent = [f]) (hf : f.tries < 15) :
    txOf (t1sRetry s seg) (16 + seg) =
      { txOf s (16 + seg) with high := { f with tries := f.tries + 1 } :: (txOf s (16 + seg)).high, sent := [] } := by
  simp only [t1sRetry, hsent, if_pos hf]
  exact txOf_putTx_self ..

theorem t1sJabber_count {s : State} {seg : Nat} (hr : t1sRuns s seg = true) (hfit : s.rd Od.fld_t1s_jabber seg + 1 < 2 ^ 32) :
    (t1sJabber seg s).rd Od.fld_t1s_jabber seg = s.rd Od.fld_t1s_jabber seg + 1 := by
  rw [t1sJabber, if_pos hr, fieldEvent_rd _ _ _ _ _ (by decide), rd_count_self hfit]

theorem t1sMediumStuck_stops {s : State} {seg : Nat} (hr : t1sRuns s seg = true) :
    (t1sMediumStuck seg s).rd Od.fld_t1s_state seg = 3 ∧ tabGet false seg (t1sMediumStuck seg s).fld.beaconStopped = true := by
  rw [t1sMediumStuck, if_pos hr]
  exact ⟨(fieldEvent_rd _ _ _ _ _ (by decide)).trans (rd_wr_fit _ _ _ _ (by decide)), tabGet_tabPut_self ..⟩

/-- Settles O18: the cycle by what its opportunity takes, each fault by what it counts and leaves. -/
theorem t1sSegments : Obligations.T1sSegments :=
  ⟨fun _ _ _ meanUs hr hseg hen hbeacon => ⟨_, rfl, plcaCycle_beaconing meanUs hr hseg hen hbeacon⟩,
    fun _ _ hr => ⟨_, rfl, t1sForeignBeacon_state hr⟩,
    fun _ _ hr hst => next_of_eq (if_pos ⟨hr, hst⟩),
    fun _ _ hr hfit => ⟨_, next_of_eq (t1sCollision_foreign hr), collisionNoted_count hfit⟩,
    fun s seg f hr hsent hf => ⟨_, next_of_eq (t1sCollision_own hr), by
      rw [t1sRetry_single (by rwa [txOf_collisionNoted]) hf, txOf_collisionNoted]⟩,
    fun _ _ hr hfit => ⟨_, rfl, t1sJabber_count hr hfit⟩,
    fun _ _ hr => ⟨_, rfl, t1sMediumStuck_stops hr⟩,
    fun _ _ => ⟨_, rfl, rfl, tabGet_tabDel_self ..⟩⟩

end Sys2Proof.Proofs

/-!
## MS/TP (R148)
-/
namespace Sys2Proof.Proofs

open Sys2Proof Sys2Proof.Machine Sys2Proof.Safety Sys2Proof.Laws

theorem mstpOf_putMstp_self (s : State) (p : Nat) (x : MstpNode) : mstpOf (putMstp s p x) p = x := tabGet_tabPut_self ..

/-! ### The token -/

/-- A token with no station newly known: the poll when one is due, the frames, and the token passed on. -/
theorem mstpToken_held {s : State} {p : Nat} (waiting : Nat) (reply : Bool) (unused : Nat) (hr : rsRuns s p 1 = true) :
    mstpToken p waiting [] reply unused s =
      mstpPass ((mstpPolls s p reply).send
        (.mstpSent p (min waiting ((mstpPolls s p reply).rd Od.fld_mstp_max_info p)) (nextMaster (mstpPolls s p reply) p))) p reply unused :=
  if_pos hr

/-- Between two polls the token is counted. -/
theorem mstpPolls_not_due {s : State} {p : Nat} (reply : Bool) (h : (mstpOf s p).tokens < 49) :
    mstpPolls s p reply = putMstp s p { mstpOf s p with tokens := (mstpOf s p).tokens + 1 } :=
  if_pos (Nat.succ_lt_succ h)

theorem mstpPolls_due {s : State} {p : Nat} (reply : Bool) (h : (mstpOf s p).tokens = 49)
    (hnext : pollNext s p (polledLast s p) ≠ nextMaster s p) (hown : pollNext s p (polledLast s p) ≠ s.rd Od.fld_mstp_mac p) :
    mstpPolls s p reply = mstpPollOne s p (pollNext s p (polledLast s p)) reply := by
  simp [mstpPolls, mstpPollEvery, h, hnext, hown]

/-- A station polled that does not reply: the poll is sent, and the tokens are counted anew. -/
theorem mstpPollOne_unanswered (s : State) (p station : Nat) :
    mstpPollOne s p station false = (putMstp s p { tokens := 0, polled := some station }).send (.mstpPoll p station) :=
  rfl

theorem mstpPass_used (s : State) (p : Nat) (reply : Bool) : mstpPass s p reply 0 = s := by simp [mstpPass]

/-- The next station leaves the token unused: it is passed once more. -/
theorem mstpPass_unused_once {s : State} {p : Nat} (reply : Bool) (h : nextMaster s p ≠ s.rd Od.fld_mstp_mac p) :
    mstpPass s p reply 1 = s.send (.mstpRetry p (nextMaster s p)) := by
  simp [mstpPass, mstpRetries, h]

theorem mstpToken_not_due {s : State} {p : Nat} (waiting : Nat) (reply : Bool) (unused : Nat) (hr : rsRuns s p 1 = true)
    (h : (mstpOf s p).tokens < 49) :
    mstpToken p waiting [] reply unused s =
      mstpPass ((putMstp s p { mstpOf s p with tokens := (mstpOf s p).tokens + 1 }).send
        (.mstpSent p (min waiting (s.rd Od.fld_mstp_max_info p)) (nextMaster s p))) p reply unused := by
  rw [mstpToken_held waiting reply unused hr, mstpPolls_not_due reply h]
  rfl

theorem mstpToken_due {s : State} {p : Nat} (waiting : Nat) (hr : rsRuns s p 1 = true) (h : (mstpOf s p).tokens = 49)
    (hnext : pollNext s p (polledLast s p) ≠ nextMaster s p) (hown : pollNext s p (polledLast s p) ≠ s.rd Od.fld_mstp_mac p) :
    mstpToken p waiting [] false 0 s =
      ((putMstp s p { tokens := 0, polled := some (pollNext s p (polledLast s p)) }).send
        (.mstpPoll p (pollNext s p (polledLast s p)))).send
        (.mstpSent p (min waiting (s.rd Od.fld_mstp_max_info p)) (nextMaster s p)) := by
  rw [mstpToken_held waiting false 0 hr, mstpPass_used, mstpPolls_due false h hnext hown, mstpPollOne_unanswered]
  rfl

theorem mstpTokenLoss_polls {s : State} {p : Nat} (hr : rsRuns s p 1 = true) :
    mstpTokenLoss p s = (putMstp (s.count Od.fld_mstp_token_loss p) p
      { tokens := 0, polled := some (pollNext s p (s.rd Od.fld_mstp_mac p)) }).send (.mstpPoll p (pollNext s p (s.rd Od.fld_mstp_mac p))) := by
  rw [mstpTokenLoss, if_pos hr, mstpPollOne_unanswered]

/-! ### Frames -/

theorem mstpFrameRx_own_address {s : State} {p : Nat} (request : Bool) (hr : rsRuns s p 1 = true) :
    (mstpFrameRx p (s.rd Od.fld_mstp_mac p) false request s).rd Od.fld_rs_state p = 3 := by
  rw [mstpFrameRx, if_pos hr, if_neg Bool.false_ne_true, if_pos rfl, fieldEvent_rd _ _ _ _ _ (by decide), rd_wr_fit _ _ _ _ (by decide)]

theorem mstpFrameRx_bad {s : State} {p : Nat} (src : Nat) (request : Bool) (hr : rsRuns s p 1 = true) :
    mstpFrameRx p src true request s = s.count Od.fld_rs_errors p := by
  rw [mstpFrameRx, if_pos hr, if_pos rfl]

/-- Settles O19: the token by its poll, its frames and its passing, the rest by the case of each operation. -/
theorem mstpPorts : Obligations.MstpPorts := by
  refine ⟨fun s p waiting reply hr h => next_of_eq ((mstpToken_not_due waiting reply 0 hr h).trans (mstpPass_used ..)),
    fun s p waiting hr h hnext hown => ⟨_, next_of_eq (mstpToken_due waiting hr h hnext hown), ?_, rfl, rfl⟩,
    fun s p waiting hr h hown => ⟨_, next_of_eq ((mstpToken_not_due waiting false 1 hr h).trans (mstpPass_unused_once false hown)), rfl⟩,
    fun s p hr => ⟨_, next_of_eq (mstpTokenLoss_polls hr), rfl, rfl⟩,
    fun s p request hr => ⟨_, rfl, mstpFrameRx_own_address request hr⟩,
    fun s p src request hr => next_of_eq (mstpFrameRx_bad src request hr),
    fun s p hr hst => next_of_eq (if_pos ⟨hr, hst⟩),
    fun s p station hp hst => next_of_eq (if_pos ⟨hp, hst⟩)⟩
  exact congrArg MstpNode.tokens (mstpOf_putMstp_self ..)

end Sys2Proof.Proofs

/-!
## A Modbus entry that starts late (R150)

An entry may start long after it fell due, and one that starts more than one period late is counted in `fld_mb_late`. The clause of
`Obligations.ModbusPorts` on a due read entry speaks of every instant at which it may have fallen due, and says that no entry of the dictionary
changes: where the entry starts late, the count does.
-/
namespace Sys2Proof.Proofs

open Sys2Proof Sys2Proof.Machine Sys2Proof.Safety Sys2Proof.Laws

/-- A poll entry (R149): station 1, function 3, address 0x100, U16, every 500 ms, scale 1.0. -/
def readEvery500ms : Nat := 0x010301000100_01F4_3F800000

/-- The module in RUN 1 s after its reset, with port 0 in mode 2 and free, and a read as its entry 0. -/
def withReadEntry : State :=
  ((({ State.reset with mode := .run, now := 1000000000 }.wr Od.fld_rs_mode 2).wr Od.fld_rs_state 1).wr Od.fld_mb_poll readEvery500ms)

/-- The entry fell due 1 s ago, two periods: it starts late, and that is counted. -/
theorem modbusPollDue_withReadEntry_late : (modbusPollDue 0 0 0 withReadEntry).rd Od.fld_mb_late = 1 := by decide +kernel

/-- Refutes O20: the entry is sent two periods late and the count of late entries rises. The failing clause is the first, for want of the
premise that the entry starts within its period. -/
theorem not_modbusPorts : ¬ Obligations.ModbusPorts := by
  rintro ⟨hdue, -⟩
  obtain ⟨t, ht, hod, -⟩ := hdue withReadEntry 0 0 0 (by decide +kernel) rfl (by decide) (by decide +kernel) (by decide +kernel)
    (by decide +kernel) (by decide +kernel) (by decide +kernel)
  obtain rfl : modbusPollDue 0 0 0 withReadEntry = t := Host.Outcome.next.inj ht
  have hkept : (modbusPollDue 0 0 0 withReadEntry).rd Od.fld_mb_late = withReadEntry.rd Od.fld_mb_late := by
    rw [rd_eq, rd_eq, hod, (modbusPollDue_within ..).variant]
  rw [modbusPollDue_withReadEntry_late] at hkept
  exact absurd hkept (by decide +kernel)

end Sys2Proof.Proofs

/-!
## The bulk stream port (R165 to R167)
-/
namespace Sys2Proof.Proofs

open Sys2Proof Sys2Proof.Machine Sys2Proof.Safety Sys2Proof.Laws

theorem bspUp_iff (s : State) : bspUp s = true ↔ s.rd Od.lbs_bsp_state = 2 := beq_iff_eq

theorem servicePaused_of_appUp {s : State} (h : s.sys.appUp = true) : servicePaused s = false := by simp [servicePaused, h]

/-! ### Sending -/

theorem bspSend1_idle {s : State} (h : s.lbs.xfers = []) : bspSend1 s = s := by
  unfold bspSend1
  rw [h]

/-- With no transfer waiting nothing is sent. -/
theorem bspPump_idle {s : State} (h : s.lbs.xfers = []) : bspPump s = s := List.foldl_fixed' (fun _ => bspSend1_idle h) _

/-! ### Training (R165, R167) -/

theorem bspAligned_fresh {s : State} (hs : lbServed s = true) (hst : s.rd Od.lbs_bsp_state = 1) (hunacked : s.lbs.unacked = [])
    (hwithheld : s.lbs.withheld = []) (hidle : s.lbs.xfers = []) :
    bspAligned s = ((s.wr Od.lbs_bsp_state 2).wr Od.lbs_bsp_credits 16 0).wr Od.lbs_bsp_credits 16 1 := by
  rw [bspAligned, if_pos ⟨hs, .inl hst⟩, hunacked, hwithheld]
  exact bspPump_idle hidle

/-- What a retrain shows of the link; a failed transfer is shown by its owner's entry alone. -/
theorem bspRetrain_rd {s : State} {invalid : Nat} (hst : s.rd Od.lbs_bsp_state = 2) (hinvalid : 1000 ≤ invalid) (i e : Nat)
    (howner : admits (some [Od.sys_trend_state, Od.rec_dump_state, Od.nrg_cap_state]) i = false) :
    (bspRetrain invalid s).rd i e =
      (((s.wr Od.lbs_bsp_state 3).wr Od.lbs_bsp_credits 0 0).wr Od.lbs_bsp_credits 0 1).rd i e := by
  rw [bspRetrain, if_pos ⟨(bspUp_iff s).2 hst, .inl hinvalid⟩]
  exact (Within.ite (bspFail_within _) (.refl _ _ _)).keeps i e howner

theorem bspRetrain_timeouts {s : State} {invalid : Nat} (hst : s.rd Od.lbs_bsp_state = 2) (hinvalid : 1000 ≤ invalid) :
    (bspRetrain invalid s).lbs.timeouts = 0 := by
  rw [bspRetrain, if_pos ⟨(bspUp_iff s).2 hst, .inl hinvalid⟩]

/-! ### Answers to inbound frames -/

theorem bspReturn_unpaused {s : State} (h : s.sys.appUp = true) (seq code : Nat) : bspReturn s seq code = s.send (.bspCredit seq code) := by
  simp [bspReturn, servicePaused_of_appUp h]

/-- A discarded frame is answered with a NAK for the sequence that the link still expects. -/
theorem bspDiscard_unpaused {s : State} (h : s.sys.appUp = true) (seq : Nat) :
    (bspDiscard s seq).out = .bspCredit s.lbs.rxSeq 1 :: s.out ∧ (bspDiscard s seq).lbs.rxSeq = s.lbs.rxSeq := by
  rw [bspDiscard, bspReturn_unpaused (by exact h)]
  exact ⟨rfl, rfl⟩

/-! ### Inbound frames (R166, R167) -/

/-- An inbound frame whose sequence has come before is counted as one resent by the carrier. -/
def bspResentCounted (s : State) (seq : Nat) : State := if bspSeen s seq then s.count Od.lbs_bsp_resends 1 else s

/-- That count changes the store alone, and there the count of resent frames alone. -/
theorem bspResentCounted_within (s : State) (seq : Nat) : Within (some [Od.lbs_bsp_resends]) [] s (bspResentCounted s seq) :=
  .ite (.count _ _ _ rfl (.refl _ _ _)) (.refl _ _ _)

/-- The link expects the sequence after an accepted one, and remembers the accepted. -/
def bspAdvanced (s : State) (seq : Nat) : State :=
  { s with lbs := { s.lbs with
    rxSeq := (seq + 1) % 65536, discarded := s.lbs.discarded.filter (· != seq), accepted := (seq :: s.lbs.accepted).take 16 } }

theorem bspFrameRx_bad {s : State} {bytes : List Nat} (hst : s.rd Od.lbs_bsp_state = 2) (hcredit : s.rd Od.lbs_bsp_credits 1 ≠ 0)
    (hbad : bspGood bytes = false) :
    bspFrameRx bytes s = bspDiscard ((bspResentCounted s (ofBytes (slice bytes 4 2))).count Od.lbs_bsp_crc_err 1) s.lbs.rxSeq := by
  rw [bspFrameRx, if_neg (by simp [(bspUp_iff s).2 hst, hcredit]), hbad]
  rfl

theorem bspFrameRx_inSequence {s : State} {bytes : List Nat} (hst : s.rd Od.lbs_bsp_state = 2) (hcredit : s.rd Od.lbs_bsp_credits 1 ≠ 0)
    (hgood : bspGood bytes = true) (hseq : ofBytes (slice bytes 4 2) = s.lbs.rxSeq) :
    bspFrameRx bytes s =
      bspReturn (bspTaken bytes (bspAdvanced (bspResentCounted s s.lbs.rxSeq) s.lbs.rxSeq)) s.lbs.rxSeq 0 := by
  rw [bspFrameRx, if_neg (by simp [(bspUp_iff s).2 hst, hcredit])]
  simp only [hgood, hseq, ne_eq, not_true_eq_false, Bool.not_true, Bool.false_eq_true, if_false]
  rfl

/-! ### What a good frame carries (R166, R168) -/

theorem bspImage_rxSeq (s : State) (xfer off : Nat) (last : Bool) (payload : List Nat) :
    (bspImage s xfer off last payload).lbs.rxSeq = s.lbs.rxSeq := by
  unfold bspImage
  extract_lets sofar
  cases sofar with
  | none => rfl
  | some bs => cases last <;> rfl

theorem bspTaken_rxSeq (bytes : List Nat) (s : State) : (bspTaken bytes s).lbs.rxSeq = s.lbs.rxSeq := by
  unfold bspTaken
  extract_lets n
  split_ifs
  · rfl
  · rfl
  · rfl
  · exact bspImage_rxSeq ..

theorem bspTaken_image {s : State} {bytes : List Nat} (htenant : bspTenant s ≠ none) (hstream : bytes.getD 0 0 = 4)
    (hlen : ofBytes (slice bytes 2 2) ≠ 0) :
    bspTaken bytes s = bspImage s (ofBytes (slice bytes 6 2)) (ofBytes (slice bytes 8 4)) (bitOf (bytes.getD 1 0) 0)
      (slice bytes 12 (ofBytes (slice bytes 2 2))) := by
  rw [bspTaken, if_neg hlen, if_neg (not_not_intro hstream), if_neg (by simpa using htenant)]

/-- The only frame of an image transfer completes it. -/
theorem bspTaken_onlyFrame {s : State} {bytes : List Nat} (htenant : bspTenant s ≠ none) (hstream : bytes.getD 0 0 = 4)
    (hlen : ofBytes (slice bytes 2 2) ≠ 0) (hlast : bitOf (bytes.getD 1 0) 0 = true) (hoff : ofBytes (slice bytes 8 4) = 0) :
    (bspTaken bytes s).lbs.imgDone = s.lbs.imgDone ++ [slice bytes 12 (ofBytes (slice bytes 2 2))] := by
  rw [bspTaken_image htenant hstream hlen, hoff, hlast]
  rfl

/-- Whether the port has a tenant depends on the kinds of the logical ports alone. -/
theorem bspTenant_eq_none_congr {s t : State} (h : ∀ n, t.rd Od.od_port_kind n = s.rd Od.od_port_kind n) :
    bspTenant t = none ↔ bspTenant s = none := by
  simp [bspTenant, h]

/-! ### What an inbound frame leaves (R166, R167) -/

theorem bspFrameRx_bad_counted {s : State} {bytes : List Nat} (hst : s.rd Od.lbs_bsp_state = 2) (hcredit : s.rd Od.lbs_bsp_credits 1 ≠ 0)
    (hbad : bspGood bytes = false) (happ : s.sys.appUp = true) (hfit : s.rd Od.lbs_bsp_crc_err 1 + 1 < 2 ^ 32) :
    (bspFrameRx bytes s).out = .bspCredit s.lbs.rxSeq 1 :: s.out ∧ (bspFrameRx bytes s).lbs.rxSeq = s.lbs.rxSeq ∧
      (bspFrameRx bytes s).rd Od.lbs_bsp_crc_err 1 = s.rd Od.lbs_bsp_crc_err 1 + 1 := by
  rw [bspFrameRx_bad hst hcredit hbad]
  have hwithin := bspResentCounted_within s (ofBytes (slice bytes 4 2))
  generalize bspResentCounted s (ofBytes (slice bytes 4 2)) = u at hwithin ⊢
  have hlbs : u.lbs = s.lbs := hwithin.parts .lbs rfl
  have hout : u.out = s.out := hwithin.parts .out rfl
  have hsys : u.sys = s.sys := hwithin.parts .sys rfl
  have herr : u.rd Od.lbs_bsp_crc_err 1 = s.rd Od.lbs_bsp_crc_err 1 := hwithin.keeps _ _
  obtain ⟨hdout, hdseq⟩ := bspDiscard_unpaused (s := u.count Od.lbs_bsp_crc_err 1) (by simpa [hsys] using happ) s.lbs.rxSeq
  refine ⟨hdout.trans (by simp [hlbs, hout]), hdseq.trans (by simp [hlbs]), ?_⟩
  rw [(bspDiscard_within ..).keeps _ _, rd_count_self (by rw [herr]; exact hfit), herr]

theorem bspFrameRx_inSequence_taken {s : State} {bytes : List Nat} (hst : s.rd Od.lbs_bsp_state = 2)
    (hcredit : s.rd Od.lbs_bsp_credits 1 ≠ 0) (hgood : bspGood bytes = true) (hseq : ofBytes (slice bytes 4 2) = s.lbs.rxSeq)
    (happ : s.sys.appUp = true) :
    (bspFrameRx bytes s).out = .bspCredit s.lbs.rxSeq 0 :: s.out ∧ (bspFrameRx bytes s).lbs.rxSeq = (s.lbs.rxSeq + 1) % 65536 ∧
      (bspTenant s ≠ none → bytes.getD 0 0 = 4 → ofBytes (slice bytes 2 2) ≠ 0 → bitOf (bytes.getD 1 0) 0 = true →
        ofBytes (slice bytes 8 4) = 0 →
        (bspFrameRx bytes s).lbs.imgDone = s.lbs.imgDone ++ [slice bytes 12 (ofBytes (slice bytes 2 2))]) := by
  rw [bspFrameRx_inSequence hst hcredit hgood hseq]
  have hwithin := bspResentCounted_within s s.lbs.rxSeq
  generalize bspResentCounted s s.lbs.rxSeq = u at hwithin ⊢
  have hlbs : u.lbs = s.lbs := hwithin.parts .lbs rfl
  have hout : (bspTaken bytes (bspAdvanced u s.lbs.rxSeq)).out = s.out :=
    ((bspTaken_within ..).parts .out rfl).trans (hwithin.parts .out rfl)
  have hsys : (bspTaken bytes (bspAdvanced u s.lbs.rxSeq)).sys = s.sys :=
    ((bspTaken_within ..).parts .sys rfl).trans (hwithin.parts .sys rfl)
  rw [bspReturn_unpaused (by rw [hsys]; exact happ)]
  refine ⟨congrArg _ hout, bspTaken_rxSeq .., fun htenant hstream hlen hlast hoff => ?_⟩
  have hadvanced : bspTenant (bspAdvanced u s.lbs.rxSeq) ≠ none :=
    mt (bspTenant_eq_none_congr fun n => hwithin.keeps Od.od_port_kind n).1 htenant
  exact (bspTaken_onlyFrame hadvanced hstream hlen hlast hoff).trans (by simp [bspAdvanced, hlbs])

/-! ### Credits and timeouts of outbound frames (R165, R167) -/

/-- An ACK of an outstanding frame, with nothing more to send: the frame is no longer outstanding, and its credit is back. -/
theorem bspCreditRx_ack {s : State} {seq : Nat} (hst : s.rd Od.lbs_bsp_state = 2)
    (hseq : s.lbs.unacked.any (fun f => f.seq == seq) = true) (hidle : s.lbs.xfers = []) :
    bspCreditRx seq 0 255 s =
      { s with lbs := { s.lbs with timeouts := 0, unacked := s.lbs.unacked.filter (fun f => f.seq != seq) } }.wr Od.lbs_bsp_credits
        (min 16 (s.rd Od.lbs_bsp_credits 0 + 1)) 0 := by
  rw [bspCreditRx, if_pos ⟨(bspUp_iff s).2 hst, rfl, Nat.zero_le _⟩, if_pos rfl, if_pos hseq]
  exact bspPump_idle hidle

/-- The oldest outstanding frame is sent again, and counted. -/
theorem bspCreditTimeout_resends {s : State} {f : BspFrame} {fs : List BspFrame} (hst : s.rd Od.lbs_bsp_state = 2)
    (hunacked : s.lbs.unacked = f :: fs) :
    bspCreditTimeout s =
      ({ s with lbs := { s.lbs with timeouts := s.lbs.timeouts + 1 } }.count Od.lbs_bsp_resends 0).send (.bspFrame f) := by
  rw [bspCreditTimeout, if_pos ⟨(bspUp_iff s).2 hst, by simp [hunacked]⟩, hunacked]
  rfl

/-- Settles O22: each command by what it comes to in its clause's case, no transfer waiting where credits come back. -/
theorem bulkStreamLink : Obligations.BulkStreamLink := by
  refine ⟨fun s hs hen hst => next_of_eq (if_pos ⟨hs, hen, hst⟩),
    fun s hs hst hunacked hwithheld hidle => ⟨_, next_of_eq (bspAligned_fresh hs hst hunacked hwithheld hidle), ?_, ?_, ?_⟩,
    fun s invalid hst hinvalid => ⟨_, rfl, ?_, ?_, bspRetrain_timeouts hst hinvalid⟩,
    fun s bytes hst hcredit hbad happ hfit => ⟨_, rfl, bspFrameRx_bad_counted hst hcredit hbad happ hfit⟩,
    fun s bytes hst hcredit hgood hseq happ => ⟨_, rfl, bspFrameRx_inSequence_taken hst hcredit hgood hseq happ⟩,
    fun s seq hst hseq hidle => ⟨_, next_of_eq (bspCreditRx_ack hst hseq hidle), rfl, ?_⟩,
    fun s f fs hst hunacked => ⟨_, next_of_eq (bspCreditTimeout_resends hst hunacked), rfl, rfl, rfl, fun hfit => ?_⟩⟩
  · rw [rd_wr_ne _ _ _ _ _ _ (by decide), rd_wr_ne _ _ _ _ _ _ (by decide), rd_wr_fit _ _ _ _ (by decide)]
  · rw [rd_wr_elem _ _ _ _ _ _ (by decide), rd_wr_fit _ _ _ _ (by decide)]
  · exact rd_wr_fit _ _ _ _ (by decide)
  · rw [bspRetrain_rd hst hinvalid _ _ rfl, rd_wr_ne _ _ _ _ _ _ (by decide), rd_wr_ne _ _ _ _ _ _ (by decide),
      rd_wr_fit _ _ _ _ (by decide)]
  · rw [bspRetrain_rd hst hinvalid _ _ rfl, rd_wr_elem _ _ _ _ _ _ (by decide), rd_wr_fit _ _ _ _ (by decide)]
  · exact rd_wr_fit _ _ _ _ (Nat.lt_of_le_of_lt (Nat.min_le_left ..) (by decide))
  · exact rd_count_self hfit

end Sys2Proof.Proofs

/-!
## Conditions of an analogue channel (R177, R178, R180, R186)
-/
namespace Sys2Proof.Proofs

open Sys2Proof Sys2Proof.Machine Sys2Proof.Safety Sys2Proof.Laws

/-! ### One bit put -/

theorem anaBit_of_within {w : Option (List Nat)} {ps : List Part} {s t : State} (h : Within w ps s t)
    (hi : admits w Od.ana_status = false) (c b : Nat) : anaBit t c b = anaBit s c b := rdBit_of_within h _ _ _ hi

theorem anaBit_wrBit (s : State) (c b k : Nat) (on : Bool) (hk : k < 16) :
    anaBit (s.wrBit Od.ana_status b on c) c k = if k = b then on else anaBit s c k := rdBit_wrBit _ _ _ _ _ _ hk

theorem anaPut_unchanged {s : State} {c b : Nat} {on : Bool} (force : Bool) (h : anaBit s c b = on) : anaPut s c b on force = s := if_pos h

/-- A condition's bit changed, and with COMPLIANCE the entry that follows it. -/
def conditionShown (s : State) (c b : Nat) (on : Bool) : State :=
  if b = anaCOMPLIANCE then (s.wrBit Od.ana_status b on c).wr Od.ana_compliance (b2n on) c else s.wrBit Od.ana_status b on c

/-- A set of a condition other than UNDER and OVER counted besides. -/
def conditionCounted (s : State) (c b : Nat) (on : Bool) : State :=
  if on ∧ decide (2 ≤ b) then (conditionShown s c b on).count Od.ana_faults c else conditionShown s c b on

theorem conditionShown_within_wrBit (s : State) (c b : Nat) (on : Bool) :
    Within (some [Od.ana_compliance]) [] (s.wrBit Od.ana_status b on c) (conditionShown s c b on) :=
  .ite (.wr _ _ _ rfl (.refl _ _ _)) (.refl _ _ _)

theorem conditionShown_faults (s : State) (c b : Nat) (on : Bool) :
    (conditionShown s c b on).rd Od.ana_faults c = s.rd Od.ana_faults c := by
  rw [(conditionShown_within_wrBit ..).keeps _ _, wrBit_eq, rd_wr_ne _ _ _ _ _ _ (by decide)]

theorem conditionCounted_within_shown (s : State) (c b : Nat) (on : Bool) :
    Within (some [Od.ana_faults]) [] (conditionShown s c b on) (conditionCounted s c b on) :=
  .ite (.count _ _ _ rfl (.refl _ _ _)) (.refl _ _ _)

/-- A change of a condition's bit ends with its event. -/
theorem anaPut_within_counted {s : State} {c b : Nat} {on : Bool} (force : Bool) (h : anaBit s c b ≠ on) :
    Within (some [Od.rec_dropped]) [.recd] (conditionCounted s c b on) (anaPut s c b on force) := by
  rw [anaPut, if_neg h]
  exact .ite (blockEvent_within ..) (.refl _ _ _)

theorem anaBit_anaPut (s : State) (c b k : Nat) (on force : Bool) (hk : k < 16) :
    anaBit (anaPut s c b on force) c k = if k = b then on else anaBit s c k := by
  by_cases h : anaBit s c b = on
  · rw [anaPut_unchanged force h]
    split_ifs with hkb
    · rw [hkb, h]
    · rfl
  · rw [anaBit_of_within (anaPut_within_counted force h) rfl, anaBit_of_within (conditionCounted_within_shown ..) rfl,
      anaBit_of_within (conditionShown_within_wrBit ..) rfl, anaBit_wrBit _ _ _ _ _ hk]

theorem anaBit_anaPut_self (s : State) (c : Nat) {b : Nat} (on force : Bool) (hb : b < 16) : anaBit (anaPut s c b on force) c b = on := by
  rw [anaBit_anaPut _ _ _ _ _ _ hb, if_pos rfl]

theorem anaBit_anaPut_ne (s : State) (c : Nat) {b k : Nat} (on force : Bool) (hk : k < 16) (hne : k ≠ b) :
    anaBit (anaPut s c b on force) c k = anaBit s c k := by
  rw [anaBit_anaPut _ _ _ _ _ _ hk, if_neg hne]

theorem anaPut_compliance {s : State} {c : Nat} {on : Bool} (h : anaBit s c anaCOMPLIANCE ≠ on) :
    (anaPut s c anaCOMPLIANCE on).rd Od.ana_compliance c = b2n on := by
  have hon : b2n on < 2 ^ 8 := by cases on <;> decide
  rw [(anaPut_within_counted _ h).keeps _ _, (conditionCounted_within_shown ..).keeps _ _, conditionShown, if_pos rfl, rd_wr_fit _ _ _ _ hon]

theorem anaPut_faults_set {s : State} {c b : Nat} (hb : 2 ≤ b) (h : anaBit s c b = false) (hfit : s.rd Od.ana_faults c + 1 < 2 ^ 32) :
    (anaPut s c b true).rd Od.ana_faults c = s.rd Od.ana_faults c + 1 := by
  rw [(anaPut_within_counted _ (by simp [h])).keeps _ _, conditionCounted, if_pos (by simp [hb]),
    rd_count_self (by rwa [conditionShown_faults]), conditionShown_faults]

theorem anaPut_faults_cleared (s : State) (c b : Nat) : (anaPut s c b false).rd Od.ana_faults c = s.rd Od.ana_faults c := by
  by_cases h : anaBit s c b = false
  · rw [anaPut_unchanged _ h]
  · rw [(anaPut_within_counted _ h).keeps _ _, conditionCounted, if_neg (by simp), conditionShown_faults]

/-! ### A condition set (R180) -/

/-- MISWIRE holds UNDER and OVER down; otherwise they set. -/
theorem anaSet_level {b : Nat} (s : State) (c : Nat) (hb : b < 2) :
    anaSet s c b = if anaBit s c anaMISWIRE then s else anaPut s c b true := by
  unfold anaSet
  by_cases hm : anaBit s c anaMISWIRE = true
  · rw [if_pos ⟨hm, by omega⟩, if_pos hm]
  · rw [if_neg (by simp [hm]), if_neg (by simp [anaCOMPLIANCE]; omega), if_neg hm]
    dsimp only
    rw [if_neg (by simp [anaMISWIRE]; omega), if_neg (by simp [anaSHORT, anaOPEN]; omega)]

theorem anaSet_short {s : State} {c : Nat} (hm : anaBit s c anaMISWIRE = false) :
    anaSet s c anaSHORT = anaPut (anaPut s c anaSHORT true) c anaCOMPLIANCE false := by
  unfold anaSet
  rw [if_neg (by simp [hm]), if_neg (by simp [anaSHORT, anaCOMPLIANCE])]
  dsimp only
  rw [if_neg (by decide), if_pos (.inl rfl)]

theorem anaSet_compliance {s : State} {c : Nat} (hm : anaBit s c anaMISWIRE = false) (hshort : anaBit s c anaSHORT = false)
    (hopen : anaBit s c anaOPEN = false) : anaSet s c anaCOMPLIANCE = anaPut s c anaCOMPLIANCE true := by
  unfold anaSet
  rw [if_neg (by simp [hm]), if_neg (by simp [hshort, hopen])]
  dsimp only
  rw [if_neg (by decide), if_neg (by decide)]

theorem foldl_anaPut_bit (c k : Nat) (on force : Bool) (hk : k < 16) {bits : List Nat} (hbits : k ∉ bits) (s : State) :
    anaBit (bits.foldl (fun t b => anaPut t c b on force) s) c k = anaBit s c k := by
  induction bits generalizing s with
  | nil => rfl
  | cons b bits ih =>
    rw [List.mem_cons, not_or] at hbits
    rw [List.foldl_cons, ih hbits.2, anaBit_anaPut_ne _ _ _ _ hk hbits.1]

/-- MISWIRE clears the other conditions, and stands itself. -/
theorem anaSet_miswire_bit (s : State) (c : Nat) : anaBit (anaSet s c anaMISWIRE) c anaMISWIRE = true := by
  unfold anaSet
  rw [if_neg (by simp [anaMISWIRE]), if_neg (by simp [anaMISWIRE, anaCOMPLIANCE])]
  dsimp only
  rw [if_pos rfl, foldl_anaPut_bit _ _ _ _ (by decide) (by decide), anaBit_anaPut_self _ _ _ _ (by decide)]

/-! ### A condition judged (R177) -/

/-- Judging UNDER or OVER changes no other bit. -/
theorem anaApply1_level_bit_ne (s : State) (c : Nat) {b k : Nat} (m : Frac) (limit : Bool) (hb : b < 2) (hk : k < 16) (hne : k ≠ b) :
    anaBit (anaApply1 s c b m limit) c k = anaBit s c k := by
  unfold anaApply1
  split
  · rw [anaSet_level _ _ hb]
    split_ifs
    · rfl
    · exact anaBit_anaPut_ne _ _ _ _ hk hne
  · exact anaBit_anaPut_ne _ _ _ _ hk hne
  · rfl

theorem anaApply1_sets {s : State} {c b : Nat} {m : Frac} {limit : Bool} (h : anaJudge s c b m limit = some true) :
    anaApply1 s c b m limit = anaSet s c b := by rw [anaApply1, h]

theorem anaApply1_level_bit {s : State} {c b : Nat} {m : Frac} {limit : Bool} (hb : b < 2) (hm : anaBit s c anaMISWIRE = false)
    (h : anaJudge s c b m limit = some true) : anaBit (anaApply1 s c b m limit) c b = true := by
  rw [anaApply1_sets h, anaSet_level _ _ hb, if_neg (by simp [hm]), anaBit_anaPut_self _ _ _ _ (by omega)]

theorem anaJudge_under {s : State} {c : Nat} {m : Frac} (limit : Bool) (hmode : s.rd Od.ana_mode c = 1)
    (h : m.lt ⟨36, 10⟩ = true) : anaJudge s c anaUNDER m limit = some true := by
  have hm : m.lt ⟨3600, 1000⟩ = true := by
    simp only [Frac.lt, decide_eq_true_eq] at h ⊢
    omega
  simp [anaJudge, anaLimit, hmode, hm]

theorem anaJudge_over {s : State} {c : Nat} {m : Frac} (limit : Bool) (hmode : s.rd Od.ana_mode c = 1)
    (h : (Frac.mk 21 1).lt m = true) : anaJudge s c anaOVER m limit = some true := by
  have hm : (Frac.mk 21000 1000).lt m = true := by
    simp only [Frac.lt, decide_eq_true_eq] at h ⊢
    omega
  simp [anaJudge, anaLimit, anaUNDER, anaOVER, hmode, hm]

theorem anaJudge_short {s : State} {c : Nat} {m : Frac} (limit : Bool) (hmode : s.rd Od.ana_mode c = 1)
    (h : (Frac.mk 245 10).le m = true) : anaJudge s c anaSHORT m limit = some true := by
  have hm : (Frac.mk 24500 1000).le m = true := by
    simp only [Frac.le, decide_eq_true_eq] at h ⊢
    omega
  simp [anaJudge, anaUNDER, anaOVER, anaOPEN, anaSHORT, hmode, hm]

end Sys2Proof.Proofs

/-!
## Samples of one analogue channel (R171, R176)

Every entry that a sample writes is its channel's element, but for the count of dropped records, which a full recorder raises (R384).
-/
namespace Sys2Proof.Proofs

open Sys2Proof Sys2Proof.Machine Sys2Proof.Safety Sys2Proof.Laws

/-- Every element with another number than the channel's stays, but for the count of dropped records. -/
def OtherChannelsKept (c : Nat) (s t : State) : Prop := ∀ i e, e ≠ c → i ≠ Od.rec_dropped → t.rd i e = s.rd i e

namespace OtherChannelsKept

variable {c : Nat} {s t u : State}

theorem refl (c : Nat) (s : State) : OtherChannelsKept c s s := fun _ _ _ _ => rfl

theorem trans (h : OtherChannelsKept c s t) (h' : OtherChannelsKept c t u) : OtherChannelsKept c s u :=
  fun i e he hi => (h' i e he hi).trans (h i e he hi)

theorem wr (h : OtherChannelsKept c s t) (i v : Nat) : OtherChannelsKept c s (t.wr i v c) :=
  h.trans fun _ _ he _ => rd_wr_elem _ _ _ _ _ _ he

theorem ite {p : Prop} [Decidable p] (h : OtherChannelsKept c s t) (h' : OtherChannelsKept c s u) :
    OtherChannelsKept c s (if p then t else u) := by
  split
  · exact h
  · exact h'

/-- An operation that writes no entry but the count of dropped records. -/
theorem within {w : Option (List Nat)} {ps : List Part} (h : OtherChannelsKept c s t) (hw : Within w ps t u)
    (hsub : subEntries w (some [Od.rec_dropped]) = true) : OtherChannelsKept c s u :=
  h.trans fun i e _ hi => hw.keeps i e (admits_sub hsub (by simpa [admits] using hi))

theorem anaPut (h : OtherChannelsKept c s t) (b : Nat) (on force : Bool) : OtherChannelsKept c s (anaPut t c b on force) := by
  by_cases hb : anaBit t c b = on
  · rwa [anaPut_unchanged force hb]
  · have hshown : OtherChannelsKept c s (conditionShown t c b on) := .ite ((h.wr _ _).wr _ _) (h.wr _ _)
    have hcounted : OtherChannelsKept c s (conditionCounted t c b on) := .ite (hshown.wr _ _) hshown
    exact hcounted.within (anaPut_within_counted force hb) rfl

theorem foldl_anaPut (h : OtherChannelsKept c s t) (on force : Bool) (bits : List Nat) :
    OtherChannelsKept c s (bits.foldl (fun t k => Machine.anaPut t c k on force) t) := by
  induction bits generalizing t with
  | nil => exact h
  | cons b bits ih => exact ih (h.anaPut b on force)

theorem anaSet (h : OtherChannelsKept c s t) (b : Nat) : OtherChannelsKept c s (anaSet t c b) := by
  unfold Machine.anaSet
  have hset := h.anaPut b true false
  exact .ite h (.ite h (.ite (hset.foldl_anaPut _ _ _) (.ite (hset.anaPut _ _ _) hset)))

theorem anaApply1 (h : OtherChannelsKept c s t) (k : Nat) (m : Frac) (limit : Bool) : OtherChannelsKept c s (anaApply1 t c k m limit) := by
  unfold Machine.anaApply1
  split
  · exact h.anaSet k
  · exact h.anaPut _ _ _
  · exact h

theorem anaDeliver (h : OtherChannelsKept c s t) (m : Nat) : OtherChannelsKept c s (anaDeliver t c m) :=
  (((h.wr _ _).wr _ _).anaApply1 _ _ _).anaApply1 _ _ _

theorem anaTake (h : OtherChannelsKept c s t) (live spare : Nat) : OtherChannelsKept c s (anaTake t c live spare) := by
  unfold Machine.anaTake
  dsimp only
  split
  · exact h.anaDeliver _
  · exact (h.within (putBank_within ..) rfl).anaDeliver _

end OtherChannelsKept

theorem analogueSample_keeps_other_channels (c live spare term : Nat) (s : State) :
    OtherChannelsKept c s (analogueSample c live spare term s) := by
  have hterm : OtherChannelsKept c s (s.wr Od.ana_term_v term c) := (OtherChannelsKept.refl c s).wr _ _
  exact .ite (.ite hterm (.ite ((hterm.wr _ _).wr _ _) ((hterm.within (closeGap_within ..) rfl).anaTake _ _))) (.refl c s)

theorem channelFirstSample_keeps_other_channels (c m term : Nat) (s : State) :
    OtherChannelsKept c s (channelFirstSample c m term s) := by
  have hterm : OtherChannelsKept c s ((s.wrBit Od.ana_status anaNOTREADY false c).wr Od.ana_term_v term c) :=
    ((OtherChannelsKept.refl c s).wr _ _).wr _ _
  exact .ite (((hterm.within (anaConfigured_within ..) rfl).anaDeliver _).within (anaDrive_within ..) rfl) (.refl c s)

/-- Settles O57: a sample writes its own channel's elements, and its events reach the recorder alone. -/
theorem samplesChangeTheirChannelAlone : Obligations.SamplesChangeTheirChannelAlone := by
  rintro s t c a b m i e he hi (hsample | hfirst)
  · cases hsample
    exact analogueSample_keeps_other_channels c a b m s i e he hi
  · cases hfirst
    exact channelFirstSample_keeps_other_channels c a m s i e he hi

end Sys2Proof.Proofs

/-!
## Analogue samples (R171, R173, R176, R180, R194, R198)
-/
namespace Sys2Proof.Proofs

open Sys2Proof Sys2Proof.Machine Sys2Proof.Safety Sys2Proof.Laws

/-! ### What a reading and a value depend on -/

/-- What a sample may write before its value is shown: no entry that a reading or a value depends on. -/
def beforeDelivery : Option (List Nat) := some [Od.ana_status, Od.ana_term_v]

section BeforeDelivery

variable {ps : List Part} {s t : State} (h : Within beforeDelivery ps s t)
include h

theorem servingConv_beforeDelivery (b j : Nat) : servingConv t b j = servingConv s b j := by
  rw [servingConv, servingConv, h.keeps _ _]

theorem calibrated_beforeDelivery (b k cls : Nat) (x : Frac) : calibrated t b k cls x = calibrated s b k cls x := by
  rw [calibrated, calibrated, State.rdQ, State.rdQ, State.rdQ, State.rdQ, h.keeps Od.cal_offset _, h.keeps Od.cal_gain _]

theorem anaClass_beforeDelivery (c : Nat) : anaClass t c = anaClass s c := by
  rw [anaClass, anaClass, h.keeps Od.ana_mode _, h.keeps Od.ana_hart_enable _]

theorem anaReading_beforeDelivery (c k x : Nat) : anaReading t c k x = anaReading s c k x := by
  rw [anaReading, anaReading, calibrated_beforeDelivery h, anaClass_beforeDelivery h, h.keeps Od.ana_mode _]

theorem anaPoints_beforeDelivery (c : Nat) : anaPoints t c = anaPoints s c := by
  simp only [anaPoints, State.rdQ, h.keeps Od.ana_tab_n _, h.keeps Od.ana_tab_x _, h.keeps Od.ana_tab_f _]

theorem anaChar_beforeDelivery (c : Nat) (x : Frac) : anaChar t c x = anaChar s c x := by
  rw [anaChar, anaChar, State.rdQ, State.rdQ, h.keeps Od.ana_char _, h.keeps Od.ana_sqrt_cut _, anaPoints_beforeDelivery h]

theorem anaValue_beforeDelivery (c mode : Nat) (m : Frac) : anaValue t c mode m = anaValue s c mode m := by
  simp only [anaValue, State.rdQ, h.keeps Od.ana_eng_lo _, h.keeps Od.ana_eng_hi _, anaChar_beforeDelivery h]

end BeforeDelivery

/-! ### A value delivered -/

/-- The measured and the engineering value shown. -/
def valueShown (s : State) (c m : Nat) : State :=
  (s.wr Od.ana_meas m c).wr Od.ana_value (anaValue s c (s.rd Od.ana_mode c) (f32q m)) c

theorem valueShown_within (s : State) (c m : Nat) : Within (some [Od.ana_meas, Od.ana_value]) [] s (valueShown s c m) :=
  .wr _ _ _ rfl (.wr _ _ _ rfl (.refl _ _ _))

theorem anaDeliver_eq (s : State) (c m : Nat) :
    anaDeliver s c m = anaApply1 (anaApply1 (valueShown s c m) c anaUNDER (f32q m) false) c anaOVER (f32q m) false := rfl

/-- The judgement leaves the values shown. -/
theorem anaDeliver_within_valueShown (s : State) (c m : Nat) :
    Within (some [Od.rec_dropped, Od.ana_status, Od.ana_compliance, Od.ana_faults]) [.recd] (valueShown s c m) (anaDeliver s c m) :=
  .after (anaApply1_within ..) rfl rfl (anaApply1_within ..)

theorem anaDeliver_meas (s : State) (c : Nat) {m : Nat} (hm : m < 2 ^ 32) : (anaDeliver s c m).rd Od.ana_meas c = m := by
  rw [(anaDeliver_within_valueShown s c m).keeps _ _, valueShown, rd_wr_ne _ _ _ _ _ _ (by decide), rd_wr_fit _ _ _ _ hm]

theorem anaDeliver_value (s : State) (c m : Nat) :
    (anaDeliver s c m).rd Od.ana_value c = anaValue s c (s.rd Od.ana_mode c) (f32q m) % 2 ^ 32 := by
  rw [(anaDeliver_within_valueShown s c m).keeps _ _, valueShown, rd_wr_self]
  rfl

theorem anaDeliver_under {s : State} {c m : Nat} (hmode : s.rd Od.ana_mode c = 1) (hmis : anaBit s c anaMISWIRE = false)
    (h : (f32q m).lt ⟨36, 10⟩ = true) : anaBit (anaDeliver s c m) c anaUNDER = true := by
  have hshown := valueShown_within s c m
  rw [anaDeliver_eq, anaApply1_level_bit_ne _ _ _ _ (by decide) (by decide) (by decide)]
  exact anaApply1_level_bit (by decide) ((anaBit_of_within hshown rfl _ _).trans hmis) (anaJudge_under _ ((hshown.keeps _ _).trans hmode) h)

theorem anaDeliver_over {s : State} {c m : Nat} (hmode : s.rd Od.ana_mode c = 1) (hmis : anaBit s c anaMISWIRE = false)
    (h : (Frac.mk 21 1).lt (f32q m) = true) : anaBit (anaDeliver s c m) c anaOVER = true := by
  have hshown := valueShown_within s c m
  have hmode' : (anaApply1 (valueShown s c m) c anaUNDER (f32q m) false).rd Od.ana_mode c = 1 := by
    rw [(anaApply1_within ..).keeps _ _, hshown.keeps _ _, hmode]
  have hmis' : anaBit (anaApply1 (valueShown s c m) c anaUNDER (f32q m) false) c anaMISWIRE = false := by
    rw [anaApply1_level_bit_ne _ _ _ _ (by decide) (by decide) (by decide), anaBit_of_within hshown rfl, hmis]
  rw [anaDeliver_eq]
  exact anaApply1_level_bit (by decide) hmis' (anaJudge_over _ hmode' h)

/-- A delivery judges UNDER and OVER alone. -/
theorem anaDeliver_bit (s : State) (c m : Nat) {k : Nat} (hk : 2 ≤ k) (hk' : k < 16) : anaBit (anaDeliver s c m) c k = anaBit s c k := by
  have hunder : k ≠ anaUNDER := by simp only [anaUNDER]; omega
  have hover : k ≠ anaOVER := by simp only [anaOVER]; omega
  rw [anaDeliver_eq, anaApply1_level_bit_ne _ _ _ _ (by decide) hk' hover, anaApply1_level_bit_ne _ _ _ _ (by decide) hk' hunder,
    anaBit_of_within (valueShown_within ..) rfl]

/-! ### The sample's cases -/

section Sample

variable {s : State} {c live spare term : Nat} (hs : anaSampling s c = true) (hlive : finite32 live = true) (hspare : finite32 spare = true)
include hs hlive hspare

theorem analogueSample_off (hmode : s.rd Od.ana_mode c = 0) : analogueSample c live spare term s = s.wr Od.ana_term_v term c := by
  rw [analogueSample, if_pos ⟨hs, hlive, hspare⟩]
  exact if_pos (.inl hmode)

theorem analogueSample_dead (hmode : s.rd Od.ana_mode c ≠ 0) (hready : anaBit s c anaNOTREADY = false) (hdead : anaDead s c = true) :
    analogueSample c live spare term s = ((s.wr Od.ana_term_v term c).wr Od.ana_meas f32NaN c).wr Od.ana_value f32NaN c := by
  rw [analogueSample, if_pos ⟨hs, hlive, hspare⟩]
  dsimp only
  rw [if_neg (by simp [hmode, hready]), if_pos hdead]

theorem analogueSample_takes (hmode : s.rd Od.ana_mode c ≠ 0) (hready : anaBit s c anaNOTREADY = false) (halive : anaDead s c = false) :
    analogueSample c live spare term s = anaTake (closeGap (s.wr Od.ana_term_v term c) c) c live spare := by
  rw [analogueSample, if_pos ⟨hs, hlive, hspare⟩]
  dsimp only
  rw [if_neg (by simp [hmode, hready]), if_neg (by simp [halive])]

end Sample

/-- Before a delivery a sample writes the terminal voltage alone; its gap closes. -/
theorem closeGap_term_within (s : State) (c term : Nat) :
    Within (some [Od.ana_term_v]) [.turn] s (closeGap (s.wr Od.ana_term_v term c) c) :=
  .after (closeGap_within ..) rfl rfl (.wr _ _ _ rfl (.refl _ _ _))

theorem anaFade_eq_none_iff (s : State) (c : Nat) :
    anaFade s c = none ↔ ¬(s.rd Od.cal_state (c / 8) = 5 ∧ stepTarget s (c / 8) = c % 8) := by
  unfold anaFade
  split_ifs with h <;> simp [h]

/-- Outside a fade the serving converter's reading is delivered. -/
theorem anaTake_unfaded {s t : State} {ps : List Part} (h : Within (some [Od.ana_term_v]) ps s t) {c live : Nat} (spare : Nat)
    (hfade : anaFade s c = none) :
    anaTake t c live spare = anaDeliver t c (qf32 (anaReading s c (servingConv s (c / 8) (c % 8)) live)) := by
  have hbefore : Within beforeDelivery ps s t := h.mono rfl (by simp)
  have hfade' : anaFade t c = none := by
    rw [anaFade_eq_none_iff, stepTarget] at hfade ⊢
    rwa [h.keeps Od.cal_state _, h.keeps Od.cal_next _]
  rw [anaTake, hfade', anaReading_beforeDelivery hbefore, servingConv_beforeDelivery hbefore]

/-- A sample of a ready channel outside a fade: the serving converter's reading is delivered. -/
theorem analogueSample_delivers {s : State} {c live spare : Nat} (term : Nat) (hs : anaSampling s c = true)
    (hmode : s.rd Od.ana_mode c ≠ 0) (hready : anaBit s c anaNOTREADY = false) (hlive : finite32 live = true)
    (hspare : finite32 spare = true) (halive : anaDead s c = false) (hfade : anaFade s c = none) :
    analogueSample c live spare term s = anaDeliver (closeGap (s.wr Od.ana_term_v term c) c) c
      (qf32 (anaReading s c (servingConv s (c / 8) (c % 8)) live)) := by
  rw [analogueSample_takes hs hlive hspare hmode hready halive, anaTake_unfaded (closeGap_term_within s c term) spare hfade]

/-- What a delivery in mode 1 shows, where the terminal voltage was shown before it. -/
theorem anaDeliver_shows {s t : State} {c term m : Nat} {ps : List Part} (h : Within (some [Od.ana_term_v]) ps s t)
    (hshown : t.rd Od.ana_term_v c = term) (hmode : s.rd Od.ana_mode c = 1) (hmis : anaBit s c anaMISWIRE = false) (hm : m < 2 ^ 32) :
    (anaDeliver t c m).rd Od.ana_meas c = m ∧ (anaDeliver t c m).rd Od.ana_term_v c = term ∧
      (anaDeliver t c m).rd Od.ana_value c = anaValue s c 1 (f32q m) % 2 ^ 32 ∧
      ((f32q m).lt ⟨36, 10⟩ = true → anaBit (anaDeliver t c m) c anaUNDER = true) ∧
      ((Frac.mk 21 1).lt (f32q m) = true → anaBit (anaDeliver t c m) c anaOVER = true) := by
  have hmode' : t.rd Od.ana_mode c = 1 := (h.keeps _ _).trans hmode
  have hmis' : anaBit t c anaMISWIRE = false := (anaBit_of_within h rfl _ _).trans hmis
  refine ⟨anaDeliver_meas t c hm, ((anaDeliver_within ..).keeps _ _).trans hshown, ?_, anaDeliver_under hmode' hmis',
    anaDeliver_over hmode' hmis'⟩
  rw [anaDeliver_value, hmode', anaValue_beforeDelivery (h.mono (ps' := ps) rfl (by simp))]

/-! ### The first sample of a reconfigured channel (R176) -/

/-- The channel is ready, with its terminal voltage shown and its reconfiguration over. -/
def channelReady (s : State) (c term : Nat) : State :=
  anaConfigured ((s.wrBit Od.ana_status anaNOTREADY false c).wr Od.ana_term_v term c) c

theorem channelReady_within (s : State) (c term : Nat) :
    Within (some [Od.ana_status, Od.ana_term_v]) [.ana, .turn] s (channelReady s c term) :=
  .after (anaConfigured_within ..) rfl rfl (.wr _ _ _ rfl (.wrBit _ _ _ _ rfl (.refl _ _ _)))

theorem channelReady_bit (s : State) (c term : Nat) : anaBit (channelReady s c term) c anaNOTREADY = false := by
  have hterm : Within (some [Od.ana_term_v]) [] (s.wrBit Od.ana_status anaNOTREADY false c)
      ((s.wrBit Od.ana_status anaNOTREADY false c).wr Od.ana_term_v term c) := .wr _ _ _ rfl (.refl _ _ _)
  rw [channelReady, anaBit_of_within (anaConfigured_within ..) rfl, anaBit_of_within hterm rfl,
    anaBit_wrBit _ _ _ _ _ (by decide), if_pos rfl]

theorem stepAgain_ana (s : State) (b j : Nat) : (stepAgain s b j).ana = s.ana := (stepAgain_within ..).parts .ana rfl

theorem anaConfigured_reconf (s : State) (c : Nat) : (anaConfigured s c).ana.reconf.contains c = false := by
  rw [anaConfigured, stepAgain_ana]
  simp

theorem channelReady_reconf (s : State) (c term : Nat) : (channelReady s c term).ana.reconf.contains c = false := anaConfigured_reconf ..

theorem anaDrive_reconf (s : State) (c : Nat) : (anaDrive s c).ana.reconf = s.ana.reconf := rfl

theorem channelFirstSample_delivers {s : State} {c x : Nat} (term : Nat) (hs : anaSampling s c = true)
    (hmode : s.rd Od.ana_mode c ≠ 0) (hunready : anaBit s c anaNOTREADY = true) (halive : anaDead s c = false)
    (hx : finite32 x = true) :
    channelFirstSample c x term s = anaDrive (anaDeliver (channelReady s c term) c
      (qf32 (anaReading s c (servingConv s (c / 8) (c % 8)) x))) c := by
  have hbefore : Within beforeDelivery [.ana, .turn] s (channelReady s c term) := (channelReady_within s c term).mono rfl rfl
  rw [channelFirstSample, if_pos ⟨hs, hmode, hunready, by simp [halive], hx⟩, ← anaReading_beforeDelivery hbefore,
    ← servingConv_beforeDelivery hbefore]
  rfl

end Sys2Proof.Proofs

/-!
## Mis-wiring (R179)
-/
namespace Sys2Proof.Proofs

open Sys2Proof Sys2Proof.Machine Sys2Proof.Safety Sys2Proof.Laws

/-- The codes of a channel's terminals noted and shown. -/
def miswireShown (s : State) (c : Nat) (w : Nat × Nat) : State :=
  ({ s with ana := { s.ana with wires := tabPut c w s.ana.wires } } : State).wr Od.ana_miswire (if w.1 ≠ 0 then w.1 else w.2) c

/-- MISWIRE set or cleared, to match the codes. -/
def miswireFlagged (s : State) (c : Nat) (w : Nat × Nat) : State :=
  if w = (0, 0) then anaPut (miswireShown s c w) c anaMISWIRE false else anaSet (miswireShown s c w) c anaMISWIRE

theorem putWires_eq (s : State) (c : Nat) (w : Nat × Nat) : putWires s c w = anaDrive (miswireFlagged s c w) c := rfl

theorem miswireFlagged_within (s : State) (c : Nat) (w : Nat × Nat) :
    Within (some [Od.rec_dropped, Od.ana_status, Od.ana_compliance, Od.ana_faults]) [.recd] (miswireShown s c w) (miswireFlagged s c w) :=
  .ite (anaPut_within ..) (anaSet_within ..)

theorem miswireFlagged_ana (s : State) (c : Nat) (w : Nat × Nat) :
    (miswireFlagged s c w).ana = { s.ana with wires := tabPut c w s.ana.wires } := (miswireFlagged_within s c w).parts .ana rfl

theorem miswireFlagged_bit (s : State) (c : Nat) (w : Nat × Nat) :
    anaBit (miswireFlagged s c w) c anaMISWIRE = decide (w ≠ (0, 0)) := by
  unfold miswireFlagged
  split_ifs with hw
  · rw [anaBit_anaPut_self _ _ _ _ (by decide)]
    simp [hw]
  · rw [anaSet_miswire_bit]
    simp [hw]

theorem wiresOf_miswireFlagged (s : State) (c : Nat) (w : Nat × Nat) : wiresOf (miswireFlagged s c w) c = w := by
  rw [wiresOf, miswireFlagged_ana, tabGet_tabPut_self]

theorem wiresOf_putWires (s : State) (c : Nat) (w : Nat × Nat) : wiresOf (putWires s c w) c = w := wiresOf_miswireFlagged s c w

theorem putWires_bit (s : State) (c : Nat) (w : Nat × Nat) : anaBit (putWires s c w) c anaMISWIRE = decide (w ≠ (0, 0)) :=
  miswireFlagged_bit s c w

theorem putWires_code (s : State) (c : Nat) {w : Nat × Nat} (hlp : w.1 < 2 ^ 8) (hio : w.2 < 2 ^ 8) :
    (putWires s c w).rd Od.ana_miswire c = if w.1 ≠ 0 then w.1 else w.2 := by
  rw [putWires_eq, (anaDrive_within ..).keeps _ _, (miswireFlagged_within ..).keeps _ _]
  exact rd_wr_fit _ _ _ _ (show (if w.1 ≠ 0 then w.1 else w.2) < 2 ^ 8 by split <;> assumption)

/-- A mis-wired AI_LP is switched off. -/
theorem anaLp_of_miswired {s : State} {c : Nat} (h : (wiresOf s c).1 ≠ 0) : anaLp s c = false := by simp [anaLp, h]

theorem anaOn_of_miswired {s : State} {c : Nat} (h : (wiresOf s c).2 ≠ 0) : anaOn s c = false := by simp [anaOn, h]

theorem anaDrive_of_off {s : State} {c : Nat} (h : anaOn s c = false) : (anaDrive s c).ana.drive = tabDel c s.ana.drive := by
  simp [anaDrive, h]

/-- The stage of a mis-wired AI_IO is disconnected. -/
theorem putWires_disconnects {s : State} {c : Nat} {w : Nat × Nat} (h : w.2 ≠ 0) :
    (putWires s c w).ana.drive = tabDel c s.ana.drive := by
  have hoff : anaOn (miswireFlagged s c w) c = false := anaOn_of_miswired (by rwa [wiresOf_miswireFlagged])
  rw [putWires_eq, anaDrive_of_off hoff, miswireFlagged_ana]

section Miswire

variable {s : State} {c : Nat} (hs : anaSampling s c = true)
include hs

/-- Right wiring found wrong: both terminals get the codes that their voltages give. -/
theorem miswireDetect_puts {lp io : Int} (drive readback : Int) (hw : wiresOf s c = (0, 0))
    (h : (miswireLp lp, miswireIo s c io drive readback) ≠ (0, 0)) :
    miswireDetect c lp io drive readback s = putWires s c (miswireLp lp, miswireIo s c io drive readback) := by
  rw [miswireDetect, hw]
  exact if_pos ⟨hs, h⟩

/-- A mis-wired AI_LP is right again. -/
theorem miswireClear_lp {lp : Int} (io : Int) (hw : wiresOf s c = (1, 0)) (hlp : -2000 ≤ lp) (hlp' : lp ≤ 26000) :
    miswireClear c lp io s = putWires s c (0, 0) := by
  have hgone : miswireGone 1 lp = true := by simp [miswireGone, hlp, hlp']
  rw [miswireClear, hw]
  dsimp only
  rw [if_pos hgone, ite_self]
  exact if_pos ⟨hs, by decide⟩

end Miswire

theorem miswireLp_high {lp : Int} (h : 26000 < lp) : miswireLp lp = 1 := if_pos h

theorem miswireLp_right {lp : Int} (h : -2000 ≤ lp) (h' : lp ≤ 26000) : miswireLp lp = 0 := by
  rw [miswireLp, if_neg (by omega), if_neg (by omega)]

theorem miswireIo_low (s : State) (c : Nat) {io : Int} (drive readback : Int) (h : io < -2000) : miswireIo s c io drive readback = 4 := by
  unfold miswireIo
  dsimp only
  rw [if_neg (by omega), if_pos h]

theorem miswireIo_lt (s : State) (c : Nat) (io drive readback : Int) : miswireIo s c io drive readback < 2 ^ 8 := by
  unfold miswireIo
  dsimp only
  split_ifs <;> decide

end Sys2Proof.Proofs

/-!
## The conditions' commands, and the obligation on analogue channels (R177, R178)
-/
namespace Sys2Proof.Proofs

open Sys2Proof Sys2Proof.Machine Sys2Proof.Safety Sys2Proof.Laws

theorem anaSampling_of_running {s : State} {c : Nat} (hr : running s = true) (hc : c < anaCount s) : anaSampling s c = true := by
  simp [anaSampling, hr, hc]

theorem lt_anaCount_of_anaOn {s : State} {c : Nat} (h : anaOn s c = true) : c < anaCount s := by
  simp only [anaOn, Bool.and_eq_true, decide_eq_true_eq] at h
  obtain ⟨⟨⟨⟨-, hc⟩, -⟩, -⟩, -⟩ := h
  exact hc

theorem anaConditionChange_short {s : State} {c m : Nat} (limit : Bool) (hs : anaSampling s c = true) (hmode : s.rd Od.ana_mode c = 1)
    (hready : anaBit s c anaNOTREADY = false) (hmis : anaBit s c anaMISWIRE = false) (hm : finite32 m = true)
    (h : (Frac.mk 245 10).le (f32q m) = true) :
    anaConditionChange c anaSHORT m limit s = anaPut (anaPut s c anaSHORT true) c anaCOMPLIANCE false := by
  rw [anaConditionChange, if_pos ⟨hs, by decide, by simp [hready], hm⟩, anaApply1_sets (anaJudge_short limit hmode h), anaSet_short hmis]

/-- A short that sets is counted, and takes COMPLIANCE away. -/
theorem anaPut_short_compliance {s : State} {c : Nat} (hshort : anaBit s c anaSHORT = false) (hfit : s.rd Od.ana_faults c + 1 < 2 ^ 32) :
    let t := anaPut (anaPut s c anaSHORT true) c anaCOMPLIANCE false
    anaBit t c anaSHORT = true ∧ anaBit t c anaCOMPLIANCE = false ∧ t.rd Od.ana_faults c = s.rd Od.ana_faults c + 1 := by
  refine ⟨?_, ?_, ?_⟩
  · rw [anaBit_anaPut_ne _ _ _ _ (by decide) (by decide), anaBit_anaPut_self _ _ _ _ (by decide)]
  · exact anaBit_anaPut_self _ _ _ _ (by decide)
  · rw [anaPut_faults_cleared, anaPut_faults_set (by decide) hshort hfit]

theorem complianceSet_voltage {s : State} {c m : Nat} (hon : anaOn s c = true) (hmode : s.rd Od.ana_mode c = 7) (hm : finite32 m = true)
    (h : (Frac.mk 1 2).le (f32q m) = true) : complianceSet c m true s = anaSet s c anaCOMPLIANCE :=
  if_pos ⟨lt_anaCount_of_anaOn hon, hon, hm, rfl, by simp [hmode, h]⟩

theorem complianceClear_clears {s : State} {c m : Nat} (hon : anaOn s c = true) (hm : finite32 m = true)
    (h : ((f32q m).sub (f32q (tabGet 0 c s.ana.drive))).abs.le ((anaSpan (s.rd Od.ana_mode c)).div ⟨2000, 1⟩) = true) :
    complianceClear c m false s = anaPut s c anaCOMPLIANCE false := if_pos ⟨lt_anaCount_of_anaOn hon, hon, hm, rfl, h⟩

/-- COMPLIANCE changed, bit and entry. -/
theorem anaPut_compliance_shown {s : State} {c : Nat} {on : Bool} (h : anaBit s c anaCOMPLIANCE ≠ on) :
    anaBit (anaPut s c anaCOMPLIANCE on) c anaCOMPLIANCE = on ∧ (anaPut s c anaCOMPLIANCE on).rd Od.ana_compliance c = b2n on :=
  ⟨anaBit_anaPut_self _ _ _ _ (by decide), anaPut_compliance h⟩

/-- Settles O23: a sample by what its delivery shows, a condition by what its bit brings, a mis-wiring by what its codes switch. -/
theorem analogueChannels : Obligations.AnalogueChannels := by
  refine ⟨fun s c live spare term m hs hmode hready hmis hlive hspare hterm halive hfade hread hm => ?_,
    fun s c live spare term hs hmode hlive hspare => next_of_eq (analogueSample_off hs hlive hspare hmode),
    fun s c live spare term hs hmode hready hlive hspare hdead =>
      ⟨_, next_of_eq (analogueSample_dead hs hlive hspare hmode hready hdead), rd_wr_fit _ _ _ _ (by decide), ?_⟩,
    fun s c x term m hs hmode hunready halive hx hread hm => ?_,
    fun s c m limit hr hc hmode hready hmis hshort hm h hfit =>
      ⟨_, next_of_eq (anaConditionChange_short limit (anaSampling_of_running hr hc) hmode hready hmis hm h),
        anaPut_short_compliance hshort hfit⟩,
    fun s c m hon hmode hm h hmis hshort hopen hclear =>
      ⟨_, next_of_eq ((complianceSet_voltage hon hmode hm h).trans (anaSet_compliance hmis hshort hopen)),
        anaPut_compliance_shown (by simp [hclear])⟩,
    fun s c m hon hm hset h => ⟨_, next_of_eq (complianceClear_clears hon hm h), anaPut_compliance_shown (by simp [hset])⟩,
    fun s c lp io drive readback hs hw hlp => ?_, fun s c lp io drive readback hs hw hlp hlp' hio => ?_,
    fun s c lp io hs hw hlp hlp' _ _ =>
      ⟨_, next_of_eq (miswireClear_lp hs io hw hlp hlp'), putWires_code s c (by decide) (by decide), putWires_bit s c _,
        wiresOf_putWires s c _⟩⟩
  · have hdelivers := analogueSample_delivers term hs (by simp [hmode]) hready hlive hspare halive hfade
    rw [hread] at hdelivers
    exact ⟨_, next_of_eq hdelivers, anaDeliver_shows (closeGap_term_within s c term) (rd_wr_fit _ _ _ _ hterm) hmode hmis hm⟩
  · rw [rd_wr_ne _ _ _ _ _ _ (by decide), rd_wr_fit _ _ _ _ (by decide)]
  · have hdelivers := channelFirstSample_delivers term hs hmode hunready halive hx
    rw [hread] at hdelivers
    have hdrive := anaDrive_within (anaDeliver (channelReady s c term) c m) c
    refine ⟨_, next_of_eq hdelivers, ?_, ?_, ?_⟩
    · rw [anaBit_of_within hdrive rfl, anaDeliver_bit _ _ _ (by decide) (by decide), channelReady_bit]
    · rw [hdrive.keeps _ _, anaDeliver_meas _ _ hm]
    · have hana : (anaDeliver (channelReady s c term) c m).ana = (channelReady s c term).ana := (anaDeliver_within ..).parts .ana rfl
      rw [anaDrive_reconf, hana, channelReady_reconf]
  · have hputs := miswireDetect_puts hs drive readback (lp := lp) (io := io) hw (by simp [miswireLp_high hlp])
    rw [miswireLp_high hlp] at hputs
    refine ⟨_, next_of_eq hputs, putWires_code s c (show 1 < 2 ^ 8 by decide) (miswireIo_lt ..), (putWires_bit ..).trans (by simp),
      anaLp_of_miswired ?_⟩
    simp [wiresOf_putWires]
  · have hputs := miswireDetect_puts hs drive readback (lp := lp) (io := io) hw (by simp [miswireIo_low _ _ _ _ hio])
    rw [miswireLp_right hlp hlp', miswireIo_low _ _ _ _ hio] at hputs
    exact ⟨_, next_of_eq hputs, putWires_code s c (by decide) (by decide), putWires_bit s c _, putWires_disconnects (by decide)⟩

end Sys2Proof.Proofs

/-!
## HART (R182 to R185)
-/
namespace Sys2Proof.Proofs

open Sys2Proof Sys2Proof.Machine Sys2Proof.Safety Sys2Proof.Laws

/-! ### A modem's transaction -/

theorem find?_tabPut_self {α : Type} (k : Nat) (v : α) (t : Tab α) : (tabPut k v t).find? (fun p => p.1 == k) = some (k, v) := by
  induction t with
  | nil => simp [tabPut]
  | cons p ps ih =>
    unfold tabPut
    split_ifs with heq hlt
    · simp
    · simp
    · simpa [heq] using ih

theorem find?_tabDel_self {α : Type} (k : Nat) (t : Tab α) : (tabDel k t).find? (fun p => p.1 == k) = none := by
  simp [tabDel, List.find?_eq_none]

theorem hartTxOf_tabPut {s : State} {m : Nat} {x : HartTx} {txs : Tab HartTx} (h : s.ana.hartTx = tabPut m x txs) :
    hartTxOf s m = some x := by rw [hartTxOf, h, find?_tabPut_self]; rfl

theorem hartTxOf_tabDel {s : State} {m : Nat} {txs : Tab HartTx} (h : s.ana.hartTx = tabDel m txs) : hartTxOf s m = none := by
  rw [hartTxOf, h, find?_tabDel_self]; rfl

/-! ### Requests that begin (R183 to R185) -/

/-- A request is one message sent. -/
theorem hartSend_sends (s : State) (c kind : Nat) : ∃ o, hartSend s c kind = s.send o := by
  unfold hartSend
  dsimp only
  split_ifs <;> exact ⟨_, rfl⟩

/-- A transaction of a channel noted on a modem. -/
def hartNoted (s : State) (m c kind : Nat) : State :=
  { s with ana := { s.ana with hartTx := tabPut m ⟨c, kind, false⟩ s.ana.hartTx } }

/-- An identification is command 0 in a short frame. -/
theorem hartBegin_identification (s : State) (c : Nat) :
    hartBegin s c 0 = (hartNoted s (hartModem s c) c 0).send (.hart c (s.rd Od.ana_hart_role == 1) none 0 []) := rfl

/-- A cyclic read is command 3 in a long frame. -/
theorem hartBegin_cyclicRead (s : State) (c : Nat) :
    hartBegin s c 1 = (hartNoted { s with ana := { s.ana with lastPoll := tabPut c s.now s.ana.lastPoll } } (hartModem s c) c 1).send
      (.hart c (s.rd Od.ana_hart_role == 1) (some (s.rd Od.ana_hart_uid c)) 3 []) := rfl

/-- The pass-through request of a channel is shown as under way, with its tag as the last one sent. -/
def passThroughShown (s : State) (c : Nat) : State :=
  (s.wr Od.ana_hart_last_tag (hartTag (tabGet 0 c s.ana.pass)) c).wr Od.ana_hart_rsp
    (hartRsp (hartTag (tabGet 0 c s.ana.pass)) 2 0 0 []) c

theorem passThroughShown_within (s : State) (c : Nat) :
    Within (some [Od.ana_hart_last_tag, Od.ana_hart_rsp]) [] s (passThroughShown s c) := .wr _ _ _ rfl (.wr _ _ _ rfl (.refl _ _ _))

theorem hartTag_lt (v : Nat) : hartTag v < 2 ^ 16 := Nat.mod_lt _ (by decide)

theorem passThroughShown_tag (s : State) (c : Nat) :
    (passThroughShown s c).rd Od.ana_hart_last_tag c = hartTag (tabGet 0 c s.ana.pass) := by
  rw [passThroughShown, rd_wr_ne _ _ _ _ _ _ (by decide), rd_wr_fit _ _ _ _ (hartTag_lt _)]

theorem hartSend_passThrough {s : State} {c : Nat} (h : hartCmd (tabGet 0 c s.ana.pass) ≤ 255) :
    hartSend s c 2 = hartOut s c true (hartCmd (tabGet 0 c s.ana.pass)) (hartData (tabGet 0 c s.ana.pass)) := by
  unfold hartSend
  rw [if_neg (by decide), if_neg (by decide)]
  exact if_neg (Nat.not_lt.mpr h)

theorem hartNoted_rd (s : State) (m c kind i e : Nat) : (hartNoted s m c kind).rd i e = s.rd i e := rfl

theorem hartNoted_pass (s : State) (m c kind : Nat) : (hartNoted s m c kind).ana.pass = s.ana.pass := rfl

/-- A pass-through command that fits one byte is sent as it is, in a long frame, and shown as under way. -/
theorem hartBegin_passThrough {s : State} {c : Nat} (h : hartCmd (tabGet 0 c s.ana.pass) ≤ 255) :
    ∃ u, Within (some [Od.ana_hart_last_tag, Od.ana_hart_rsp]) [] s u ∧
      u.rd Od.ana_hart_last_tag c = hartTag (tabGet 0 c s.ana.pass) ∧
      hartBegin s c 2 = (hartNoted u (hartModem s c) c 2).send (.hart c (s.rd Od.ana_hart_role == 1) (some (s.rd Od.ana_hart_uid c))
        (hartCmd (tabGet 0 c s.ana.pass)) (hartData (tabGet 0 c s.ana.pass))) := by
  have hshown := passThroughShown_within s c
  have hbegin : hartBegin s c 2 = hartSend (hartNoted (passThroughShown s c) (hartModem s c) c 2) c 2 := by
    rw [hartBegin, if_pos rfl]
    rfl
  refine ⟨_, hshown, passThroughShown_tag s c, ?_⟩
  rw [hbegin]
  generalize passThroughShown s c = u at hshown ⊢
  have hpass : (hartNoted u (hartModem s c) c 2).ana.pass = s.ana.pass :=
    (hartNoted_pass ..).trans (congrArg AnaState.pass (hshown.parts .ana rfl))
  rw [hartSend_passThrough (by rwa [hpass]), hpass, hartOut, hartNoted_rd, hartNoted_rd, hshown.keeps _ _, hshown.keeps _ _,
    if_pos rfl]

/-! ### Identification and visits (R183, R184) -/

theorem hartIdentify_begins {s : State} {c : Nat} (hon : hartOn s c = true) (hst : s.rd Od.ana_hart_state c = 1)
    (hfree : hartTxOf s (hartModem s c) = none) : hartIdentify c s = hartBegin s c 0 := if_pos ⟨hon, hst, hfree⟩

theorem hartIdentifyRetry_begins {s : State} {c : Nat} (hon : hartOn s c = true) (hst : s.rd Od.ana_hart_state c = 3)
    (hfree : hartTxOf s (hartModem s c) = none) : hartIdentifyRetry c s = hartBegin s c 0 := if_pos ⟨hon, hst, hfree⟩

theorem hartModem_of_mem {s : State} {m c : Nat} (h : c ∈ hartChannels s m) : hartModem s c = m := by
  have h := (List.mem_filter.mp h).2
  simp only [Bool.and_eq_true, beq_iff_eq] at h
  exact h.1

/-- The modem has visited a channel. -/
def hartVisited (s : State) (m c : Nat) : State := { s with ana := { s.ana with visited := tabPut m c s.ana.visited } }

/-- Whether a channel's cyclic read is due: it is enabled, and there was none before, or none within its period. -/
def cyclicReadDue (s : State) (c : Nat) : Bool :=
  s.rd Od.ana_hart_poll c != 0 && (match s.ana.lastPoll.find? (fun p => p.1 == c) with
    | none => true
    | some p => decide (p.2 + s.rd Od.ana_hart_poll c * 1000000000 ≤ s.now))

theorem cyclicReadDue_of_never {s : State} {c : Nat} (hpoll : s.rd Od.ana_hart_poll c ≠ 0) (hnever : s.ana.lastPoll = []) :
    cyclicReadDue s c = true := by simp [cyclicReadDue, hpoll, hnever]

/-- A free modem that has visited no channel yet visits the first of its channels. -/
theorem hartModemVisit_first {s : State} {m c : Nat} {cs : List Nat} (hr : running s = true) (hfree : hartTxOf s m = none)
    (hcs : hartChannels s m = c :: cs) (hvisited : tabGet 0xFFFF m s.ana.visited = 0xFFFF) (hst : s.rd Od.ana_hart_state c = 2) :
    hartModemVisit m s =
      if hartRspState s c = 1 then hartBegin (hartVisited s m c) c 2
      else if cyclicReadDue s c then hartBegin (hartVisited s m c) c 1
      else hartVisited s m c := by
  have hnone : (hartChannels s m).find? (fun c => tabGet 0xFFFF m s.ana.visited != 0xFFFF &&
      decide (tabGet 0xFFFF m s.ana.visited < c)) = none := by simp [hvisited]
  unfold hartModemVisit
  rw [if_neg (by simp [hr, hfree])]
  dsimp only
  rw [hnone, hcs]
  exact if_neg (by simp [hst])

/-! ### Replies and their absence (R183) -/

theorem hartState_state (s : State) (c : Nat) {st : Nat} (h : st < 2 ^ 8) : (hartState s c st).rd Od.ana_hart_state c = st := by
  rw [hartState, wrBit_eq, rd_wr_ne _ _ _ _ _ _ (by decide), rd_wr_fit _ _ _ _ h]

theorem hartState_fault (s : State) (c st : Nat) : anaBit (hartState s c st) c anaHARTFAULT = (st == 3 || st == 4) := by
  rw [hartState, anaBit_wrBit _ _ _ _ _ (by decide), if_pos rfl]

theorem hartResult_taken {s : State} {t : HartTx} (st : Nat) (hen : s.rd Od.ana_hart_enable t.chan = 1)
    (h : t.kind = 0 ∨ s.rd Od.ana_hart_state t.chan ≠ 1) : hartResult s t st = hartState s t.chan st := if_pos ⟨hen, h⟩

theorem hartReplyRx_burst {s : State} {m : Nat} {r : HartReply} (h : r.burst = true) : hartReplyRx m r s = s := by
  unfold hartReplyRx
  split
  · rfl
  · exact if_pos (.inr h)

/-- A device identified: state 2, its status and its address. -/
theorem hartReplyRx_identifies {s : State} {m c : Nat} {again : Bool} {r : HartReply} (htx : hartTxOf s m = some ⟨c, 0, again⟩)
    (hen : s.rd Od.ana_hart_enable c = 1) (hr : running s = true) (hburst : r.burst = false) (hbad : r.bad = false) :
    hartReplyRx m r s = ((hartState (hartEnd s m) c 2).wr Od.ana_hart_dev_status r.dev c).wr Od.ana_hart_uid r.uid c := by
  have htaken : hartResult (hartEnd s m) ⟨c, 0, again⟩ 2 = hartState (hartEnd s m) c 2 := hartResult_taken 2 hen (.inl rfl)
  unfold hartReplyRx
  rw [htx]
  dsimp only
  rw [if_neg (by simp [hr, hburst]), if_neg (by simp [hbad]), if_pos rfl, htaken]

theorem hartReplyTimeout_fails {s : State} {m : Nat} {x : HartTx} (hr : running s = true) (htx : hartTxOf s m = some x) :
    hartReplyTimeout m s = hartFail s m x 4 := by
  unfold hartReplyTimeout
  rw [htx]
  exact if_pos hr

/-- The request is sent a second time. -/
theorem hartFail_first (s : State) (m c k rsp : Nat) :
    ∃ o, hartFail s m ⟨c, k, false⟩ rsp =
      { s with ana := { s.ana with hartTx := tabPut m ⟨c, k, true⟩ s.ana.hartTx } }.send o := hartSend_sends _ c k

/-- After the second failure nothing but a pass-through response follows the device's new state. -/
theorem hartFail_second_within {s : State} {m c k : Nat} (rsp : Nat) (hen : s.rd Od.ana_hart_enable c = 1)
    (h : k = 0 ∨ s.rd Od.ana_hart_state c ≠ 1) :
    Within (some [Od.ana_hart_rsp]) [] (hartState (hartEnd s m) c (if k = 0 then 3 else 4)) (hartFail s m ⟨c, k, true⟩ rsp) := by
  have htaken : hartResult (hartEnd s m) ⟨c, k, true⟩ (if k = 0 then 3 else 4) =
      hartState (hartEnd s m) c (if k = 0 then 3 else 4) := hartResult_taken _ hen h
  unfold hartFail
  dsimp only
  rw [htaken, if_neg (show ¬(!true) = true by decide)]
  exact .ite (.wr _ _ _ rfl (.refl _ _ _)) (.refl _ _ _)

theorem hartFail_second {s : State} {m c k : Nat} (rsp : Nat) (hen : s.rd Od.ana_hart_enable c = 1)
    (h : k = 0 ∨ s.rd Od.ana_hart_state c ≠ 1) :
    (hartFail s m ⟨c, k, true⟩ rsp).rd Od.ana_hart_state c = (if k = 0 then 3 else 4) ∧
      anaBit (hartFail s m ⟨c, k, true⟩ rsp) c anaHARTFAULT = true ∧ hartTxOf (hartFail s m ⟨c, k, true⟩ rsp) m = none := by
  have hwithin := hartFail_second_within (m := m) rsp hen h
  refine ⟨?_, ?_, hartTxOf_tabDel (congrArg AnaState.hartTx (hwithin.parts .ana rfl))⟩
  · rw [hwithin.keeps _ _, hartState_state _ _ (by split <;> decide)]
  · rw [anaBit_of_within hwithin rfl, hartState_fault]
    split <;> rfl

/-- Settles O24: each command by the request it begins, or by what the reply or its absence leaves. -/
theorem hartTransactions : Obligations.HartTransactions := by
  refine ⟨fun s c hon hst hfree => ⟨_, next_of_eq ((hartIdentify_begins hon hst hfree).trans (hartBegin_identification s c)), rfl, rfl,
      hartTxOf_tabPut rfl⟩,
    fun s c hon hst hfree => ⟨_, next_of_eq ((hartIdentifyRetry_begins hon hst hfree).trans (hartBegin_identification s c)), rfl, rfl,
      hartTxOf_tabPut rfl⟩,
    fun s m c cs hr hfree hcs hvisited hst hrsp hcmd => ?_, fun s m c cs hr hfree hcs hvisited hst hrsp hpoll hnever => ?_,
    fun s m c again r htx hen hr hburst hbad hdev huid =>
      ⟨_, next_of_eq (hartReplyRx_identifies htx hen hr hburst hbad), ?_, ?_, ?_, rd_wr_fit _ _ _ _ huid, hartTxOf_tabDel rfl⟩,
    fun s m c k hr htx => ?_,
    fun s m c k hr htx hen h => ⟨_, next_of_eq (hartReplyTimeout_fails hr htx), hartFail_second 4 hen h⟩,
    fun s m r hburst => next_of_eq (hartReplyRx_burst hburst)⟩
  · have hm : hartModem s c = m := hartModem_of_mem (hcs ▸ List.mem_cons_self)
    have hvisit : hartModemVisit m s = hartBegin (hartVisited s m c) c 2 := by
      rw [hartModemVisit_first hr hfree hcs hvisited hst, if_pos hrsp]
    obtain ⟨u, hu, htag, hbegin⟩ := hartBegin_passThrough (s := hartVisited s m c) hcmd
    exact ⟨_, next_of_eq (hvisit.trans hbegin), congrArg _ (hu.parts .out rfl), hm ▸ hartTxOf_tabPut rfl, htag⟩
  · have hm : hartModem s c = m := hartModem_of_mem (hcs ▸ List.mem_cons_self)
    have hvisit : hartModemVisit m s = hartBegin (hartVisited s m c) c 1 := by
      rw [hartModemVisit_first hr hfree hcs hvisited hst, if_neg hrsp, if_pos (cyclicReadDue_of_never hpoll hnever)]
    exact ⟨_, next_of_eq (hvisit.trans (hartBegin_cyclicRead ..)), rfl, rfl, hm ▸ hartTxOf_tabPut rfl⟩
  · rw [rd_wr_ne _ _ _ _ _ _ (by decide), rd_wr_ne _ _ _ _ _ _ (by decide), hartState_state _ _ (by decide)]
  · have hwithin : Within (some [Od.ana_hart_dev_status, Od.ana_hart_uid]) [] (hartState (hartEnd s m) c 2)
        (((hartState (hartEnd s m) c 2).wr Od.ana_hart_dev_status r.dev c).wr Od.ana_hart_uid r.uid c) :=
      .wr _ _ _ rfl (.wr _ _ _ rfl (.refl _ _ _))
    rw [anaBit_of_within hwithin rfl, hartState_fault]
    rfl
  · rw [rd_wr_ne _ _ _ _ _ _ (by decide), rd_wr_fit _ _ _ _ hdev]
  · obtain ⟨o, ho⟩ := hartFail_first s m c k 4
    exact ⟨_, next_of_eq ((hartReplyTimeout_fails hr htx).trans ho), rfl, hartTxOf_tabPut rfl, rfl⟩

end Sys2Proof.Proofs

/-!
## The banks of Turnover: their hidden state, rest, failure and assignment word (R188, R192, R193, R198)
-/
namespace Sys2Proof.Proofs

open Sys2Proof Sys2Proof.Machine Sys2Proof.Safety Sys2Proof.Laws

-- On one thread, as the tests are: as one text the package leaves no memory for more threads.
set_option Elab.async false

/-! ### A bank's hidden state -/

-- The pause lets the proofs that are still running elsewhere end: a thread that waited for them here would be one too many for the memory.
set_option linter.unusedTactic false in
@[simp] theorem bankOf_putBank_self (s : State) (b : Nat) (x : TurnBank) : bankOf (putBank s b x) b = x := by
  sleep 30000
  simp [bankOf, putBank]

@[simp] theorem putBank_rd (s : State) (b : Nat) (x : TurnBank) (i e : Nat) : (putBank s b x).rd i e = s.rd i e := rfl

theorem bankOf_of_turn {s t : State} (h : t.turn = s.turn) (b : Nat) : bankOf t b = bankOf s b := by rw [bankOf, bankOf, h]

/-- The entry of a bank's state, written with one of the values of R201. -/
theorem calState_written (s : State) (b : Nat) {st : Nat} (x : TurnBank) (h : st < 2 ^ 8) :
    (putBank (s.wr Od.cal_state st b) b x).rd Od.cal_state b = st := rd_wr_fit _ _ _ _ h

/-! ### Steps begun and ended (R192) -/

theorem startStep_starts {s : State} {b : Nat} (hb : bankExists s b = true) (hr : running s = true) (hrun : s.rd Od.cal_run b = 1)
    (hst : s.rd Od.cal_state b = 1) : startStep s b = putBank (s.wr Od.cal_state 2 b) b {} := if_pos ⟨hb, hr, hrun, hst⟩

/-- A rotating bank for which no step fell due waits for the next. -/
theorem bankRest_waits {s : State} {b : Nat} (hdue : (bankOf s b).due = false) (hrun : s.rd Od.cal_run b = 1)
    (hstop : s.turn.stopped = false) (hspare : s.rd Od.cal_spare b ≠ 0xFF) : (bankRest s b).rd Od.cal_state b = 1 := by
  have hrest : restState s b = 1 := by simp [restState, hrun, hstop, hspare]
  rw [bankRest, hrest, if_neg (by simp [hdue])]
  exact calState_written _ _ _ (by decide)

/-! ### Failures (R189, R198) -/

theorem converterFailed_shown (s : State) (b k : Nat) :
    (converterFailed s b k).rd Od.cal_state b = 7 ∧ (converterFailed s b k).rd Od.cal_spare b = 0xFF ∧
      (converterFailed s b k).rdBit Od.sys_health 15 = true := by
  have hfault := raiseFault_within ((s.wr Od.cal_spare 0xFF b).wr Od.cal_state 7 b) bitTurnover (b * 16 + k)
  refine ⟨?_, ?_, raiseFault_bit _ _ _ (by decide)⟩
  · rw [converterFailed, putBank_rd, hfault.keeps _ _, rd_wr_fit _ _ _ _ (by decide)]
  · rw [converterFailed, putBank_rd, hfault.keeps _ _, rd_wr_ne _ _ _ _ _ _ (by decide), rd_wr_fit _ _ _ _ (by decide)]

theorem sequencerStop_stopped (s : State) : (sequencerStop s).turn.stopped = true :=
  congrArg TurnState.stopped ((raiseFault_within ..).parts .turn rfl)

theorem sequencerStop_health (s : State) : (sequencerStop s).rdBit Od.sys_health 15 = true := raiseFault_bit _ _ _ (by decide)

/-- The third comparison in a row that finds VREF off stops the sequencer, with VREF's bit among those shown. -/
theorem referenceCompare_vref {s : State} {vref : Int} (iref : Int) (hp : powered s = true) (hoff : 1000 < vref.natAbs)
    (hbad : 2 ≤ s.turn.vrefBad) :
    ∃ (u : State) (bits : Nat), bits.testBit 0 = true ∧ referenceCompare vref iref s = sequencerStop (u.wr Od.cal_ref bits) := by
  have hthird : 3 ≤ s.turn.vrefBad + 1 := by omega
  unfold referenceCompare
  rw [if_pos hp, if_pos hoff]
  extract_lets v i turn u bits
  have hbit : bits.testBit 0 = true := by simp [bits, v, hthird]
  rw [if_pos (ne_of_apply_ne (·.testBit 0) (by simp [hbit]))]
  exact ⟨u, u.rd Od.cal_ref ||| bits, by rw [Nat.testBit_or, hbit, Bool.or_true], rfl⟩

/-! ### The assignment word (R193) -/

/-- A byte put in a word is read back. -/
theorem byteAt_putBytes (n v k : Nat) {x : Nat} (hx : x < 2 ^ 8) : byteAt n (putBytes n v k 1 x) k = x := by
  unfold byteAt putBytes
  rw [show n - 1 - k = n - k - 1 by omega]
  generalize 8 * (n - k - 1) = sh
  simp only [Nat.shiftRight_eq_div_pow, Nat.shiftLeft_eq, pow_one]
  have hP : 0 < 2 ^ sh := by positivity
  generalize 2 ^ sh = P at hP
  have hlow := Nat.mod_lt v hP
  have hword := Nat.div_add_mod v P
  have hbyte := Nat.div_add_mod (v / P) 256
  have hput : v - v / P % 256 * P + x % 256 * P = P * (256 * (v / P / 256) + x) + v % P := by
    rw [Nat.mod_eq_of_lt (show x < 256 from hx)]
    generalize v / P / 256 = q at *
    generalize v / P % 256 = d at *
    rw [← hbyte] at hword
    have hrest : v = d * P + (P * (256 * q) + v % P) := by linarith
    rw [Nat.sub_eq_of_eq_add' hrest]
    ring
  rw [hput, Nat.mul_add_div hP, Nat.div_eq_of_lt hlow]
  omega

/-- Words that agree in their lower 16 bytes have the same bytes. -/
theorem byteAt_mod (v : Nat) {j : Nat} (hj : j < 16) : byteAt 16 (v % 2 ^ 128) j = byteAt 16 v j := by
  unfold byteAt
  refine Nat.eq_of_testBit_eq fun i => ?_
  rw [show 256 = 2 ^ 8 from rfl, Nat.testBit_mod_two_pow, Nat.testBit_mod_two_pow, Nat.testBit_shiftRight, Nat.testBit_shiftRight,
    Nat.testBit_mod_two_pow]
  by_cases hi : i < 8
  · have hlow : 8 * (16 - 1 - j) + i < 128 := by omega
    simp [hlow]
  · simp [hi]

theorem servingConv_lt (s : State) (b j : Nat) : servingConv s b j < 2 ^ 8 := Nat.mod_lt _ (by decide)

theorem servingConv_of_rd {s t : State} {b : Nat} (h : t.rd Od.cal_map b = s.rd Od.cal_map b) (j : Nat) :
    servingConv t b j = servingConv s b j := by rw [servingConv, servingConv, h]

theorem bankChannels_lt (b : Nat) : bankChannels b < 16 := by
  unfold bankChannels
  split <;> decide

/-- The spare and the converter of a channel change places. -/
theorem assignSpare_swaps {s : State} {b j : Nat} (hj : j < bankChannels b) (hspare : s.rd Od.cal_spare b < 2 ^ 8) :
    servingConv (assignSpare s b j) b j = s.rd Od.cal_spare b ∧ (assignSpare s b j).rd Od.cal_spare b = servingConv s b j := by
  have hw : widthOf Od.cal_map = 128 := rfl
  constructor
  · rw [assignSpare, servingConv, rd_wr_ne _ _ _ _ _ _ (by decide), rd_wr_self, hw, byteAt_mod _ (hj.trans (bankChannels_lt b)),
      byteAt_putBytes _ _ _ hspare]
  · exact rd_wr_fit _ _ _ _ (servingConv_lt s b j)

end Sys2Proof.Proofs

/-!
## Calibrations recorded (R190, R198, R201)
-/
namespace Sys2Proof.Proofs

open Sys2Proof Sys2Proof.Machine Sys2Proof.Safety Sys2Proof.Laws

set_option Elab.async false

/-! ### The classes of a calibration -/

/-- What a calibration measured of a range class, judged by the limits of R190. -/
def judgedClass (b : Nat) (classes : List CalClass) (delay : Int) (c : Nat) : CalResult :=
  judgeClass b c delay (classes.getD c ⟨0, 0, 0, false⟩)

/-- The result shown for a class: a released converter is held to the shift limit of R198 besides. -/
def classOutcome (s : State) (b k : Nat) (classes : List CalClass) (delay : Int) (released : Bool) (c : Nat) : Nat :=
  let r := judgedClass b classes delay c
  if r.result = 1 ∧ (released && (Frac.mk 250 1).lt (shiftOf s (calElem b k c) r).abs) then 7 else r.result

/-- A class shown as passed has met the limits of R190. -/
theorem judgedClass_of_classOutcome {s : State} {b k : Nat} {classes : List CalClass} {delay : Int} {released : Bool} {c : Nat}
    (h : classOutcome s b k classes delay released c = 1) : (judgedClass b classes delay c).result = 1 := by
  unfold classOutcome at h
  dsimp only at h
  split at h
  · cases h
  · exact h

/-- The shift limit is for released converters alone. -/
theorem classOutcome_spare (s : State) (b k : Nat) (classes : List CalClass) (delay : Int) (c : Nat) :
    classOutcome s b k classes delay false c = (judgedClass b classes delay c).result := by simp [classOutcome]

theorem calElem_ne {b k c d : Nat} (h : c ≠ d) : calElem b k c ≠ calElem b k d := by
  unfold calElem
  omega

/-! ### The record of one class -/

theorem recordClass_result (s : State) (b k c : Nat) (r : CalResult) {result : Nat} (delay : Nat) (passed : Bool) (h : result < 2 ^ 8) :
    (recordClass s b k c r result delay passed).rd Od.cal_result (calElem b k c) = result := by
  rw [recordClass, (calEvent_within ..).keeps _ _, rd_wr_fit _ _ _ _ h]

theorem recordClass_result_ne (s : State) (b k c : Nat) (r : CalResult) (result delay : Nat) (passed : Bool) {e : Nat}
    (h : e ≠ calElem b k c) :
    (recordClass s b k c r result delay passed).rd Od.cal_result e = s.rd Od.cal_result e := by
  unfold recordClass
  extract_lets el shift s1 s2
  have hs1 : Within (some [Od.cal_gain, Od.cal_offset, Od.cal_linearity, Od.cal_delay, Od.cal_time]) [] s s1 :=
    .ite (.wr _ _ _ rfl (.wr _ _ _ rfl (.wrQ _ _ _ rfl (.wrQ _ _ _ rfl (.wrQ _ _ _ rfl (.refl _ _ _)))))) (.refl _ _ _)
  have hshift : Within (some [Od.cal_shift]) [] s1 (if r.result = 6 then s1 else s1.wr Od.cal_shift shift el) :=
    .ite (.refl _ _ _) (.wr _ _ _ rfl (.refl _ _ _))
  rw [(calEvent_within ..).keeps _ _, rd_wr_elem _ _ _ _ _ _ h, hshift.keeps _ _, hs1.keeps _ _]

/-! ### The record of a calibration -/

/-- The classes recorded one after the other. -/
def classesRecorded (s : State) (b k : Nat) (classes : List CalClass) (delay : Int) (released passed : Bool) : State :=
  (List.range (bankClasses b)).foldl (fun t c => recordClass t b k c (judgedClass b classes delay c)
    (classOutcome s b k classes delay released c) (ofInt 16 delay) passed) s

/-- A class's result stands in its own element, whatever is recorded of the other classes. -/
theorem classesRecorded_result {s : State} {b k : Nat} {classes : List CalClass} {delay : Int} {released : Bool} (passed : Bool) {c : Nat}
    (hc : c < bankClasses b) (h : classOutcome s b k classes delay released c < 2 ^ 8) :
    (classesRecorded s b k classes delay released passed).rd Od.cal_result (calElem b k c) =
      classOutcome s b k classes delay released c := by
  refine foldl_settles (P := fun _ => True)
    (Q := fun t => t.rd Od.cal_result (calElem b k c) = classOutcome s b k classes delay released c)
    (fun _ _ _ _ _ => trivial) (fun t _ => recordClass_result t b k c _ _ passed h) (fun t a ht => ?_) (List.mem_range.mpr hc) trivial
  by_cases ha : c = a
  · exact ha ▸ recordClass_result t b k c _ _ passed h
  · rw [recordClass_result_ne _ _ _ _ _ _ _ _ (calElem_ne ha), ht]

/-- A calibration records every class with its result, and passes where every class does. -/
theorem recordCalibration_spec (s : State) (b k : Nat) (classes : List CalClass) (delay : Int) (released : Bool) :
    (∃ passed, Within (some []) [.mer] (classesRecorded s b k classes delay released passed)
        (recordCalibration s b k classes delay released).1) ∧
      ((recordCalibration s b k classes delay released).2 = true ↔
        ∀ c < bankClasses b, classOutcome s b k classes delay released c = 1) := by
  unfold recordCalibration
  extract_lets n rs passed exceeds fin done
  have hfin : fin = (List.range n).map fun c => (c, judgedClass b classes delay c, classOutcome s b k classes delay released c) := by
    refine List.map_congr_left fun c hc => ?_
    have hr : rs.getD c ⟨⟨1, 1⟩, ⟨0, 1⟩, ⟨0, 1⟩, ⟨0, 1⟩, 6⟩ = judgedClass b classes delay c := by
      simp [rs, List.mem_range.mp hc, judgedClass]
    dsimp only
    rw [hr]
    rfl
  have hdone : done = classesRecorded s b k classes delay released passed := by
    unfold done
    rw [hfin, List.foldl_map]
    rfl
  constructor
  · exact ⟨passed, hdone ▸ .ite (calStore_within ..) (.refl _ _ _)⟩
  · simp [hfin, n]

theorem recordCalibration_passes {s : State} {b : Nat} (k : Nat) {classes : List CalClass} {delay : Int}
    (h : ∀ c < bankClasses b, (judgedClass b classes delay c).result = 1) : (recordCalibration s b k classes delay false).2 = true :=
  (recordCalibration_spec ..).2.mpr fun c hc => (classOutcome_spare ..).trans (h c hc)

theorem recordCalibration_fails {s : State} {b c : Nat} (k : Nat) {classes : List CalClass} {delay : Int} (released : Bool)
    (hc : c < bankClasses b) (h : (judgedClass b classes delay c).result ≠ 1) :
    (recordCalibration s b k classes delay released).2 = false :=
  Bool.eq_false_iff.mpr fun hpass => h (judgedClass_of_classOutcome ((recordCalibration_spec ..).2.mp hpass c hc))

/-- A class of the spare that meets the limits is shown as passed. -/
theorem recordCalibration_result {s : State} {b c : Nat} (k : Nat) {classes : List CalClass} {delay : Int} (hc : c < bankClasses b)
    (h : (judgedClass b classes delay c).result = 1) :
    (recordCalibration s b k classes delay false).1.rd Od.cal_result (calElem b k c) = 1 := by
  obtain ⟨⟨passed, hrecorded⟩, -⟩ := recordCalibration_spec s b k classes delay false
  have hout : classOutcome s b k classes delay false c = 1 := (classOutcome_spare ..).trans h
  rw [hrecorded.keeps _ _, classesRecorded_result passed hc (by rw [hout]; decide), hout]

end Sys2Proof.Proofs

/-!
## Turnover's commands, and the obligation (R189, R190, R192 to R196, R198, R200)
-/
namespace Sys2Proof.Proofs

open Sys2Proof Sys2Proof.Machine Sys2Proof.Safety Sys2Proof.Laws

set_option Elab.async false

/-! ### A step that falls due (R192) -/

section StepDue

variable {s : State} {b : Nat} (hb : bankExists s b = true) (hr : running s = true) (hagain : (bankOf s b).again = false)
  (hat : (bankOf s b).againAt = none)
include hb hr hagain hat

theorem turnoverStepDue_starts (hrun : s.rd Od.cal_run b = 1) (hst : s.rd Od.cal_state b = 1) :
    turnoverStepDue b s = putBank (s.wr Od.cal_state 2 b) b {} := by
  unfold turnoverStepDue
  dsimp only
  rw [if_neg (by simp [hagain, hat]), if_neg (by simp [hst]), startStep_starts hb hr hrun hst]

theorem turnoverStepDue_waits (hlo : 2 ≤ s.rd Od.cal_state b) (hhi : s.rd Od.cal_state b ≤ 6) :
    turnoverStepDue b s = putBank s b { bankOf s b with due := true } := by
  unfold turnoverStepDue
  dsimp only
  rw [if_neg (by simp [hagain, hat]), if_pos ⟨hr, hb, hlo, hhi⟩]

end StepDue

/-! ### The stages of a step (R190, R193 to R196, R198, R200) -/

theorem checkRepeat_runs {s : State} {b : Nat} (hr : running s = true) (hst : s.rd Od.cal_state b = 3)
    (hdue : (bankOf s b).repeatDue = true) : checkRepeat b s = putBank s b { bankOf s b with repeatDue := false } :=
  if_pos ⟨hr, hst, hdue⟩

section Stage

variable {s : State} {b : Nat} (hb : bankExists s b = true) (hr : running s = true)
include hb hr

theorem spareCalibrationDone_passes {classes : List CalClass} {delay : Int} (hst : s.rd Od.cal_state b = 2)
    (hpass : (recordCalibration s b (s.rd Od.cal_spare b) classes delay false).2 = true) :
    spareCalibrationDone b classes delay s =
      putBank ((recordCalibration s b (s.rd Od.cal_spare b) classes delay false).1.wr Od.cal_state 3 b) b
        { bankOf s b with second := false, repeats := 0, repeatDue := false } := by
  rw [spareCalibrationDone, if_pos ⟨hr, hb, hst⟩]
  exact if_pos hpass

theorem spareCalibrationDone_fails {classes : List CalClass} {delay : Int} (hst : s.rd Od.cal_state b = 2)
    (hfail : (recordCalibration s b (s.rd Od.cal_spare b) classes delay false).2 = false) (hsecond : (bankOf s b).second = true) :
    spareCalibrationDone b classes delay s =
      converterFailed (recordCalibration s b (s.rd Od.cal_spare b) classes delay false).1 b (s.rd Od.cal_spare b) := by
  rw [spareCalibrationDone, if_pos ⟨hr, hb, hst⟩]
  dsimp only
  rw [if_neg (by simp [hfail]), if_pos (.inl hsecond)]

theorem turnoverCheckEnd_skips (diff : Nat) (hst : s.rd Od.cal_state b = 3) (hdue : (bankOf s b).repeatDue = false)
    (hrepeats : (bankOf s b).repeats = 3) : turnoverCheckEnd b diff true s = bankRest (s.count Od.cal_late b) b := by
  unfold turnoverCheckEnd
  dsimp only
  rw [if_pos ⟨hr, hb, hst, by simp [hdue]⟩, if_pos rfl, if_pos hrepeats]

theorem turnoverCheckEnd_agrees {diff : Nat} (hst : s.rd Od.cal_state b = 3) (hdue : (bankOf s b).repeatDue = false)
    (hagree : (f32q diff).abs.le ⟨s.rd Od.cal_agree b, 1⟩ = true) :
    turnoverCheckEnd b diff false s = (s.wr Od.cal_disagree diff b).wr Od.cal_state 4 b := by
  unfold turnoverCheckEnd
  dsimp only
  rw [if_pos ⟨hr, hb, hst, by simp [hdue]⟩, if_neg (by decide), if_pos (.inl hagree)]

theorem crossFadeStart_fades {cause : FadeCause} (first : Nat) (hst : s.rd Od.cal_state b = 4) (hmay : fadeMayStart s b cause = true) :
    crossFadeStart b cause first s =
      if b < 4 then putBank (s.wr Od.cal_state 5 b) b { bankOf s b with faded := 0 }
      else handOver (putBank (s.wr Od.cal_state 5 b) b { bankOf s b with faded := 0 }) b (stepTarget s b)
        ⟨first, servingConv s b (stepTarget s b), s.rd Od.cal_spare b, true⟩ := if_pos ⟨hr, hb, hst, hmay⟩

theorem crossFadeEnd_assigns (hst : s.rd Od.cal_state b = 5) (hdone : fadeComplete s b = true) :
    crossFadeEnd b s =
      putBank (((assignSpare s b (stepTarget s b)).wr Od.cal_next ((stepTarget s b + 1) % bankChannels b) b).wr Od.cal_state 6 b) b
        { bankOf s b with released := servingConv s b (stepTarget s b) } := if_pos ⟨hr, hb, hst, hdone⟩

theorem releasedCalibrationDone_passes {classes : List CalClass} {delay : Int} (hst : s.rd Od.cal_state b = 6)
    (hpass : (recordCalibration s b (bankOf s b).released classes delay true).2 = true) :
    releasedCalibrationDone b classes delay s =
      bankRest ((recordCalibration s b (bankOf s b).released classes delay true).1.count Od.cal_steps b) b := by
  rw [releasedCalibrationDone, if_pos ⟨hr, hb, hst⟩]
  exact if_pos hpass

end Stage

/-- A started fade: the bank's state 5, no sample faded yet, and on an energy bank the hand-over noted. -/
theorem crossFadeStart_shown {s : State} {b first : Nat} {cause : FadeCause} (hb : bankExists s b = true) (hr : running s = true)
    (hst : s.rd Od.cal_state b = 4) (hmay : fadeMayStart s b cause = true) :
    let t := crossFadeStart b cause first s
    t.rd Od.cal_state b = 5 ∧ (bankOf t b).faded = 0 ∧
      (4 ≤ b → tabGet ⟨0, 0, 0, false⟩ (b * 16 + stepTarget s b) t.turn.handed =
        ⟨first, servingConv s b (stepTarget s b), s.rd Od.cal_spare b, true⟩) := by
  rw [crossFadeStart_fades hb hr first hst hmay]
  have hstate := calState_written s b (st := 5) { bankOf s b with faded := 0 } (by decide)
  have hbank := bankOf_putBank_self (s.wr Od.cal_state 5 b) b { bankOf s b with faded := 0 }
  split_ifs with henergy
  · exact ⟨hstate, congrArg TurnBank.faded hbank, fun h => absurd henergy (by omega)⟩
  · exact ⟨hstate, congrArg TurnBank.faded hbank, fun _ => tabGet_tabPut_self ..⟩

/-- An ended fade: the spare serves the target, the former converter is the spare, and the next channel is the next target. -/
theorem crossFadeEnd_shown {s : State} {b : Nat} (hb : bankExists s b = true) (hr : running s = true) (hst : s.rd Od.cal_state b = 5)
    (hdone : fadeComplete s b = true) (hnext : stepTarget s b < bankChannels b) (hspare : s.rd Od.cal_spare b < 2 ^ 8) :
    let t := crossFadeEnd b s
    t.rd Od.cal_state b = 6 ∧ servingConv t b (stepTarget s b) = s.rd Od.cal_spare b ∧
      t.rd Od.cal_spare b = servingConv s b (stepTarget s b) ∧ t.rd Od.cal_next b = (stepTarget s b + 1) % bankChannels b := by
  rw [crossFadeEnd_assigns hb hr hst hdone]
  obtain ⟨hserving, hreleased⟩ := assignSpare_swaps hnext hspare
  generalize assignSpare s b (stepTarget s b) = u at hserving hreleased
  have hnext' : (stepTarget s b + 1) % bankChannels b < 2 ^ 8 :=
    (Nat.mod_lt _ (Nat.zero_lt_of_lt hnext)).trans ((bankChannels_lt b).trans (by decide))
  refine ⟨calState_written _ _ _ (by decide), ?_, ?_, ?_⟩
  · rw [servingConv_of_rd (s := u) (by simp [rd_wr]), hserving]
  · simpa [rd_wr] using hreleased
  · rw [putBank_rd, rd_wr_ne _ _ _ _ _ _ (by decide), rd_wr_fit _ _ _ _ hnext']

/-! ### Failures of live converters (R198) -/

/-- The failure of the converter that serves a channel, recorded. -/
def failureNoted (s : State) (b j gapUs : Nat) : State :=
  calEvent s 3 (b * 16 + servingConv s b j) 2 true (pay [(1, 3), (4, gapUs)])

/-- A channel without a converter. -/
def leftUnserved (s : State) (b j : Nat) : State := { s with turn := { s.turn with dead := (b * 16 + j) :: s.turn.dead } }

theorem failureNoted_within (s : State) (b j gapUs : Nat) : Within (some [Od.rec_dropped]) [.recd] s (failureNoted s b j gapUs) :=
  calEvent_within ..

theorem leftUnserved_within (s : State) (b j : Nat) : Within (some []) [.turn] s (leftUnserved s b j) := .turn _ rfl (.refl _ _ _)

section LiveFailure

variable {s : State} {b j : Nat} (gapUs first : Nat) (hb : bankExists s b = true) (hr : running s = true) (hj : j < bankChannels b)
  (hlive : s.turn.dead.contains (b * 16 + j) = false)
include hb hr hj hlive

theorem liveConverterFailure_unserved (hspare : s.rd Od.cal_spare b = 0xFF) :
    liveConverterFailure b j gapUs first s =
      raiseFault (leftUnserved (failureNoted s b j gapUs) b j) bitTurnover (b * 16 + servingConv s b j) := by
  rw [liveConverterFailure, if_pos ⟨hb, hj, .inl hr, congrArg not hlive⟩]
  exact if_pos hspare

theorem liveConverterFailure_spared (hspare : s.rd Od.cal_spare b ≠ 0xFF) :
    liveConverterFailure b j gapUs first s =
      converterFailed (assignSpare (openGap (failureNoted s b j gapUs) b j first) b j) b (servingConv s b j) := by
  rw [liveConverterFailure, if_pos ⟨hb, hj, .inl hr, congrArg not hlive⟩]
  exact if_neg hspare

end LiveFailure

theorem converterFailed_servingConv (s : State) (b k j : Nat) : servingConv (converterFailed s b k) b j = servingConv s b j :=
  servingConv_of_rd ((converterFailed_within ..).keeps _ _) j

/-- Settles O25: each command by the bank that it leaves. -/
theorem turnoverSteps : Obligations.TurnoverSteps := by
  refine ⟨fun s vref iref hp hoff hbad => ?_,
    fun s b hb hr hrun hst hagain hat =>
      ⟨_, next_of_eq (turnoverStepDue_starts hb hr hagain hat hrun hst), calState_written _ _ _ (by decide)⟩,
    fun s b hb hr hlo hhi hagain hat =>
      ⟨_, next_of_eq (turnoverStepDue_waits hb hr hagain hat hlo hhi), rfl, congrArg TurnBank.due (bankOf_putBank_self ..)⟩,
    fun s b classes delay hb hr hst hpass =>
      ⟨_, next_of_eq (spareCalibrationDone_passes hb hr hst (recordCalibration_passes _ hpass)), calState_written _ _ _ (by decide),
        fun c hc => ?_⟩,
    fun s b c classes delay hb hr hst hc hfail hsecond =>
      ⟨_, next_of_eq (spareCalibrationDone_fails hb hr hst (recordCalibration_fails _ _ hc hfail) hsecond), converterFailed_shown ..⟩,
    fun s b diff hb hr hst hrepeat hrepeats hdue hrun hstop hspare hfit =>
      ⟨_, next_of_eq (turnoverCheckEnd_skips hb hr diff hst hrepeat hrepeats), ?_, ?_⟩,
    fun s b diff hb hr hst hrepeat hdiff hagree =>
      ⟨_, next_of_eq (turnoverCheckEnd_agrees hb hr hst hrepeat hagree), rd_wr_fit _ _ _ _ (by decide),
        (rd_wr_ne _ _ _ _ _ _ (by decide)).trans (rd_wr_fit _ _ _ _ hdiff)⟩,
    fun s b hr hst hrepeat =>
      ⟨_, next_of_eq (checkRepeat_runs hr hst hrepeat), rfl, congrArg TurnBank.repeatDue (bankOf_putBank_self ..)⟩,
    fun s b first cause hb hr hst hmay => ⟨_, rfl, crossFadeStart_shown hb hr hst hmay⟩,
    fun s b hb hr hst hdone hnext hspare _ => ⟨_, rfl, crossFadeEnd_shown hb hr hst hdone hnext hspare⟩,
    fun s b classes delay hb hr hst hpass hdue hrun hstop hspare hfit =>
      ⟨_, next_of_eq (releasedCalibrationDone_passes hb hr hst hpass), ?_⟩,
    fun s b j gapUs first hb hr hj hlive hspare hhas _ => ?_, fun s b j gapUs first hb hr hj hlive hspare => ?_⟩
  · obtain ⟨u, bits, hbit, hstops⟩ := referenceCompare_vref iref hp hoff hbad
    refine ⟨_, next_of_eq hstops, ?_, sequencerStop_stopped _, sequencerStop_health _⟩
    rw [rdBit_of_within (sequencerStop_within _) _ _ _, State.rdBit, rd_wr_self, testBit_mod _ _ _ (by decide), hbit]
  · rw [putBank_rd, rd_wr_ne _ _ _ _ _ _ (by decide)]
    exact recordCalibration_result _ hc (hpass c hc)
  · refine bankRest_waits hdue ?_ hstop ?_ <;> rwa [rd_count_ne _ _ _ _ _ _ (by decide)]
  · rw [(bankRest_within ..).keeps _ _, rd_count_self hfit]
  · have hrecord := recordCalibration_within s b (bankOf s b).released classes delay true
    generalize (recordCalibration s b (bankOf s b).released classes delay true).1 = u at hrecord ⊢
    have hturn : u.turn = s.turn := hrecord.parts .turn rfl
    constructor
    · refine bankRest_waits ?_ ?_ (hturn ▸ hstop) ?_
      · rwa [bankOf_of_turn (s := s) (by rw [count_turn, hturn])]
      · rwa [rd_count_ne _ _ _ _ _ _ (by decide), hrecord.keeps _ _]
      · rwa [rd_count_ne _ _ _ _ _ _ (by decide), hrecord.keeps _ _]
    · have hsteps : u.rd Od.cal_steps b = s.rd Od.cal_steps b := hrecord.keeps _ _
      rw [(bankRest_within ..).keeps _ _, rd_count_self (by rwa [hsteps]), hsteps]
  · have hnoted : Within (some [Od.rec_dropped]) [.recd, .turn] s (openGap (failureNoted s b j gapUs) b j first) :=
      .after (openGap_within ..) rfl rfl ((failureNoted_within ..).mono rfl rfl)
    have hfails := liveConverterFailure_spared gapUs first hb hr hj hlive hhas
    generalize openGap (failureNoted s b j gapUs) b j first = u at hnoted hfails
    have hkept : u.rd Od.cal_spare b = s.rd Od.cal_spare b := hnoted.keeps _ _
    obtain ⟨hstate, hnone, hhealth⟩ := converterFailed_shown (assignSpare u b j) b (servingConv s b j)
    refine ⟨_, next_of_eq hfails, ?_, hnone, hstate, hhealth⟩
    rw [converterFailed_servingConv, (assignSpare_swaps hj (by rwa [hkept])).1, hkept]
  · have hfault := raiseFault_within (leftUnserved (failureNoted s b j gapUs) b j) bitTurnover (b * 16 + servingConv s b j)
    refine ⟨_, next_of_eq (liveConverterFailure_unserved gapUs first hb hr hj hlive hspare), ?_, servingConv_of_rd ?_ j,
      raiseFault_bit _ _ _ (by decide)⟩
    · rw [hfault.parts .turn rfl]
      simp [leftUnserved]
    · rw [hfault.keeps _ _, (leftUnserved_within ..).keeps _ _, (failureNoted_within ..).keeps _ _]

end Sys2Proof.Proofs

/-!
## Energy metering (R86, R89, R132, R205)

A crossing ends with the completion of the accepted work that is done, and the answer that waits for it goes out (R86, R89). In a state whose ledger
holds such work, the answer of which would leave on a bridge port with a full queue, the first crossing of the reference begins a cycle and the frame
of the answer is dropped and counted (R132): an entry changes.
-/
namespace Sys2Proof.Proofs

open Sys2Proof Sys2Proof.Machine Sys2Proof.Safety Sys2Proof.Laws

set_option Elab.async false

/-- The response that waits for `ordinaryWork`, to a request that came in at bridge port 0. -/
def waitingAnswer : Waiting :=
  { seq := ordinaryWork.seq, op := opWRITE
    who := ⟨ordinaryWork.port, ordinaryWork.client, ordinaryWork.reqid, ⟨2, 0, 0, 0, 0, 0⟩⟩
    handle := 0, items := [] }

/-- The module as reset, in RUN, with `ordinaryWork` done but not completed, and 32 KiB in the low queue of bridge port 0: a state about whose
ledger and queues the premises say nothing. -/
def withDoneWork : State :=
  { State.reset with
    mode := .run
    mer := { recs := [{ ordinaryWork with ordDone := true }] }
    txn := { waiting := [waitingAnswer] }
    fld := { tx := [(0, { low := [⟨0, 32768, 0⟩] })] } }

/-- A crossing of L1: from -1.0 to -0.5 V, and to 0.5 V at sample 36. -/
def crossingOfL1 : Crossing := { phase := 0, low := 0xBF800000, before := 0xBF000000, after := 0x3F000000, sample := 36 }

/-- Circuit 0 without the samples of a cycle, as at its first crossing. -/
def firstCycle : LineCycle := ⟨0, []⟩

theorem lineCycleEnd_first {s : State} {x : Crossing} {d : LineCycle} (hr : running s = true) (hc : d.circuit < circuitCount s)
    (hphase : refPhase s d.circuit = some x.phase) (hx : isCrossing x = true) (hnone : cycleOf s d.circuit = none) :
    lineCycleEnd x d s = cycleBegins s d.circuit x.phase (crossingAt x) := by
  rw [lineCycleEnd, if_pos ⟨hr, hc, hphase, hx⟩, hnone]

/-- The cycle begins, and the answer that the completion sends is dropped. -/
theorem settle_cycleBegins_withDoneWork :
    (settle (cycleBegins withDoneWork firstCycle.circuit crossingOfL1.phase (crossingAt crossingOfL1))).od = [⟨Od.fld_tx_drops, 0, 1⟩] := by
  decide +kernel

/-- Refutes O26: the crossing that begins a cycle also sends the answer of work that is done, and counts its drop. The failing clause is the first,
that the crossing leaves every entry, for want of the premise that no work waits for its completion. -/
theorem not_energyIsAccumulated : ¬ Obligations.EnergyIsAccumulated := by
  rintro ⟨hfirst, -⟩
  have hr : running withDoneWork = true := by decide
  have hc : firstCycle.circuit < circuitCount withDoneWork := by decide
  have hphase : refPhase withDoneWork firstCycle.circuit = some crossingOfL1.phase := by decide +kernel
  have hx : isCrossing crossingOfL1 = true := by decide +kernel
  obtain ⟨t, ht, hod, -⟩ := hfirst withDoneWork crossingOfL1 firstCycle hr hc hphase hx rfl
  obtain rfl : settle (lineCycleEnd crossingOfL1 firstCycle withDoneWork) = t := Host.Outcome.next.inj ht
  rw [lineCycleEnd_first hr hc hphase hx rfl] at hod
  exact List.cons_ne_nil _ _ (settle_cycleBegins_withDoneWork.symm.trans hod)

end Sys2Proof.Proofs

/-!
## The control-law engine: samples of a loop (R227, R230, R233, R237, R240)

A sample shows the process value and then delivers by the slot's mode; the conversion of its output depends on no entry that was written before. One
that is held for a mismatch writes no output in any mode.
-/
namespace Sys2Proof.Proofs

open Sys2Proof Sys2Proof.Machine Sys2Proof.Safety Sys2Proof.Laws

set_option Elab.async false

theorem rdQ_of_within {w : Option (List Nat)} {ps : List Part} {s t : State} (h : Within w ps s t) (i e : Nat)
    (hi : admits w i = false := by rfl) : t.rdQ i e = s.rdQ i e := congrArg f32q (h.keeps i e hi)

/-! ### The units of a slot and the slot's states -/

theorem filterMap_odInsert_of_none {α : Type} {f : Cell → Option α} {i e v : Nat} (hf : f ⟨i, e, v⟩ = none) (cs : List Cell) :
    (odInsert i e v cs).filterMap f = cs.filterMap f := by
  induction cs with
  | nil => simp [odInsert, hf]
  | cons c cs ih =>
    unfold odInsert
    split
    · simp [hf]
    · simp [List.filterMap_cons, ih]

/-- What takes nothing of an index does not see its writes. -/
theorem filterMap_odPut_of_none {α : Type} {f : Cell → Option α} {i : Nat} (hf : ∀ c, c.index = i → f c = none) (d e v : Nat)
    (cs : List Cell) : (odPut d i e v cs).filterMap f = cs.filterMap f := by
  have hrest : (cs.filter (fun c => !(c.index == i && c.elem == e))).filterMap f = cs.filterMap f := by
    rw [List.filterMap_filter]
    refine List.filterMap_congr fun c _ => ?_
    by_cases hc : c.index = i <;> simp [hf, hc]
  unfold odPut
  dsimp only
  split
  · exact hrest
  · rw [filterMap_odInsert_of_none (hf _ rfl), hrest]

theorem repsOf_wr {s : State} {i : Nat} (v e k : Nat) (h : i ≠ Od.ctl_rep_loop) : repsOf (s.wr i v e) k = repsOf s k :=
  filterMap_odPut_of_none (fun _ hc => if_neg fun hcell => h (hc.symm.trans hcell.1)) _ _ _ _

@[simp] theorem slotOf_putSlot_self (s : State) (k : Nat) (x : LoopState) : slotOf (putSlot s k x) k = x := tabGet_tabPut_self ..

theorem clearReps_unattached {s : State} {k : Nat} (h : repsOf s k = []) : clearReps s k = s := by rw [clearReps, h, List.foldl_nil]

/-! ### The status word (R248) -/

/-- A sample's bits are the seven lowest: the fault's bit stays. -/
theorem sampleBits_faultBit (s : State) (k : Nat) (sat frozen lo hi rate ramp learn : Bool) :
    (sampleBits s k sat frozen lo hi rate ramp learn).rdBit Od.ctl_status 7 k = s.rdBit Od.ctl_status 7 k := by
  have hbits : b2n sat + 2 * b2n frozen + 4 * b2n lo + 8 * b2n hi + 16 * b2n rate + 32 * b2n ramp + 64 * b2n learn < 2 ^ 7 := by
    have hone (b : Bool) : b2n b ≤ 1 := by cases b <;> decide
    have := hone sat; have := hone frozen; have := hone lo; have := hone hi
    have := hone rate; have := hone ramp; have := hone learn
    omega
  rw [sampleBits, State.rdBit, State.rdBit, rd_wr_self, testBit_mod _ _ _ (by decide), show 128 = 2 ^ 7 from rfl, Nat.mul_comm,
    Nat.testBit_two_pow_mul_add _ hbits, if_neg (by decide), Nat.testBit_div_two_pow]

theorem noLearning_faultBit (s : State) (k : Nat) : (noLearning s k).rdBit Od.ctl_status 7 k = s.rdBit Od.ctl_status 7 k := by
  rw [noLearning, rdBit_wrBit _ _ _ _ _ _ (by decide), if_neg (by decide)]

theorem restBits_faultBit (s : State) (k : Nat) : (restBits s k).rdBit Od.ctl_status 7 k = s.rdBit Od.ctl_status 7 k := by
  rw [restBits, noLearning_faultBit, sampleBits_faultBit]

/-! ### Off and manual slots (R237) -/

theorem offSample_out {s : State} {k : Nat} (h : s.rd Od.ctl_safe_out k < 2 ^ 32) :
    (offSample s k false).rd Od.ctl_out k = s.rd Od.ctl_safe_out k := by
  rw [offSample, if_neg Bool.false_ne_true, (anaFromLoop_within ..).keeps _ _, rd_wr_fit _ _ _ _ h]

theorem manualSample_out (s : State) (k : Nat) :
    (manualSample s k false).rd Od.ctl_out k =
      qf32 (Frac.clamp (s.rdQ Od.ctl_out_min k) (s.rdQ Od.ctl_out_max k) (s.rdQ Od.ctl_man_out k)) % 2 ^ 32 := by
  rw [manualSample, if_neg Bool.false_ne_true, (anaFromLoop_within ..).keeps _ _, State.wrQ, rd_wr_self]
  rfl

theorem manualSample_faultBit (s : State) (k : Nat) :
    (manualSample s k false).rdBit Od.ctl_status 7 k = s.rdBit Od.ctl_status 7 k := by
  rw [manualSample, if_neg Bool.false_ne_true, rdBit_of_within (anaFromLoop_within ..) _ _ _, State.wrQ,
    rdBit_of_rd (rd_wr_ne _ _ _ _ _ _ (by decide)), noLearning_faultBit, sampleBits_faultBit]

/-! ### The process value shown (R240) -/

/-- A good process value is shown, and an earlier fault's bit cleared with its event. -/
def pvShown (s : State) (k : Nat) (pv : Frac) : State :=
  if (s.wrQ Od.ctl_pv pv k).rdBit Od.ctl_status 7 k then ctlEvent ((s.wrQ Od.ctl_pv pv k).wrBit Od.ctl_status 7 false k) 1 k 0 false
  else s.wrQ Od.ctl_pv pv k

/-- A faulted process value is flagged, with its event where it was good before. -/
def pvFaulted (s : State) (k : Nat) : State :=
  if (restBits s k).rdBit Od.ctl_status 7 k then restBits s k
  else ctlEvent ((restBits s k).wrBit Od.ctl_status 7 true k) 1 k 1 true

theorem pvShown_within (s : State) (k : Nat) (pv : Frac) :
    Within (some [Od.rec_dropped, Od.ctl_pv, Od.ctl_status]) [.recd] s (pvShown s k pv) :=
  have hpv : Within (some [Od.rec_dropped, Od.ctl_pv, Od.ctl_status]) [.recd] s (s.wrQ Od.ctl_pv pv k) := .wrQ _ _ _ rfl (.refl _ _ _)
  .ite (.after (ctlEvent_within ..) rfl rfl (hpv.wrBit _ _ _ _ rfl)) hpv

theorem pvShown_pv (s : State) (k : Nat) (pv : Frac) : (pvShown s k pv).rd Od.ctl_pv k = qf32 pv % 2 ^ 32 := by
  have hpv : (s.wrQ Od.ctl_pv pv k).rd Od.ctl_pv k = qf32 pv % 2 ^ 32 := rd_wr_self ..
  unfold pvShown
  split
  · rw [(ctlEvent_within ..).keeps _ _, State.wrBit, rd_wr_ne _ _ _ _ _ _ (by decide), hpv]
  · exact hpv

theorem pvShown_faultBit (s : State) (k : Nat) (pv : Frac) : (pvShown s k pv).rdBit Od.ctl_status 7 k = false := by
  unfold pvShown
  split
  · rw [rdBit_of_within (ctlEvent_within ..) _ _ _, rdBit_wrBit _ _ _ _ _ _ (by decide), if_pos rfl]
  · exact eq_false_of_ne_true ‹_›

theorem pvShown_unfaulted {s : State} {k : Nat} (pv : Frac) (h : s.rdBit Od.ctl_status 7 k = false) :
    pvShown s k pv = s.wrQ Od.ctl_pv pv k := by
  have hbit : (s.wrQ Od.ctl_pv pv k).rdBit Od.ctl_status 7 k = false := (rdBit_of_rd (rd_wr_ne _ _ _ _ _ _ (by decide)) _).trans h
  exact if_neg (by simp [hbit])

theorem pvFaulted_within (s : State) (k : Nat) : Within (some [Od.rec_dropped, Od.ctl_status]) [.recd] s (pvFaulted s k) :=
  have hrest : Within (some [Od.rec_dropped, Od.ctl_status]) [.recd] s (restBits s k) := (restBits_within ..).mono rfl rfl
  .ite hrest (.after (ctlEvent_within ..) rfl rfl (hrest.wrBit _ _ _ _ rfl))

theorem pvFaulted_faultBit (s : State) (k : Nat) : (pvFaulted s k).rdBit Od.ctl_status 7 k = true := by
  unfold pvFaulted
  split
  · assumption
  · rw [rdBit_of_within (ctlEvent_within ..) _ _ _, rdBit_wrBit _ _ _ _ _ _ (by decide), if_pos rfl]

/-! ### Automatic slots (R227 to R233, R240) -/

theorem deliverLoop_out (s : State) (k y : Nat) : (deliverLoop s k y).rd Od.ctl_out k = y % 2 ^ 32 := by
  rw [deliverLoop, (anaFromLoop_within ..).keeps _ _, rd_wr_ne _ _ _ _ _ _ (by decide), rd_wr_self]
  rfl

/-- By the fault action 1 the safe output is delivered, and the slot will return by a transfer with soft-start. -/
theorem faultedSample_safe {s : State} {k : Nat} (hmode : s.rd Od.ctl_mode k = 2) (hact : s.rd Od.ctl_fault_act k = 1) :
    faultedSample s k false = deliverLoop (putSlot (pvFaulted s k) k { slotOf (pvFaulted s k) k with transfer := true, soft := true }) k
      (s.rd Od.ctl_safe_out k) := by
  have hshown := pvFaulted_within s k
  have hmode' : (pvFaulted s k).rd Od.ctl_mode k = 2 := (hshown.keeps _ _).trans hmode
  have hact' : (pvFaulted s k).rd Od.ctl_fault_act k = 1 := (hshown.keeps _ _).trans hact
  rw [← hshown.keeps Od.ctl_safe_out]
  unfold faultedSample
  extract_lets s0 s1 x s2
  rw [show s1 = pvFaulted s k from rfl, if_neg (by simp [hmode']), hact']
  rfl

/-- An error as it enters the engine, clamped to the signal format (R229). -/
def signalOf (err : Frac) : Int := (sigClamp (roundAway (err.num * 2 ^ 40) err.den)).1

/-- The output of a slot of gain alone, in normalised units (R230). -/
def gainOutput (s : State) (k : Nat) (err : Frac) : Int := (accOut (accProd (s.rdInt Od.ctl_gain k) (signalOf err))).1

theorem sigClamp_sigClamp (x : Int) : (sigClamp (sigClamp x).1).1 = (sigClamp x).1 := by
  simp only [sigClamp, clampInt]
  split_ifs <;> omega

/-- The conversion of an output does not depend on the process value shown. -/
theorem outConv_of_within {ps : List Part} {s t : State} (h : Within (some [Od.ctl_pv]) ps s t) (k : Nat) (v : Int) :
    outConv t k v = outConv s k v := by
  have hperiod : periodSecs t k = periodSecs s k := by rw [periodSecs, periodSecs, h.keeps _ _]
  unfold outConv
  rw [hperiod, rdQ_of_within h Od.ctl_out_lo _, rdQ_of_within h Od.ctl_out_hi _, rdQ_of_within h Od.ctl_out_min _,
    rdQ_of_within h Od.ctl_out_max _, rdQ_of_within h Od.ctl_rate_max _, rdQ_of_within h Od.ctl_out _]

/-- A slot of gain alone with direct action: it has no section and no unit, and neither a ramp nor a transfer is under way. -/
structure GainAlone (s : State) (k : Nat) : Prop where
  sections : s.rd Od.ctl_sections k = 0
  units : repsOf s k = []
  transfer : (slotOf s k).transfer = false
  ramp : (s.rdQ Od.ctl_ramp_rate k).num = 0
  dir : s.rd Od.ctl_dir k = 0

/-- The error of a slot with direct action, in units of the span (R229). -/
def directError (s : State) (k : Nat) (pv : Frac) : Frac :=
  (((s.rdQ Od.ctl_sp k).sub pv).mul (Frac.ofInt 1)).div (s.rdQ Od.ctl_pv_span k)

theorem autoSample_gain_out {s : State} {k : Nat} (h : GainAlone s k) (pv : Frac) :
    (autoSample s k pv false).rd Od.ctl_out k = qf32 (outConv s k (gainOutput s k (directError s k pv))).y % 2 ^ 32 := by
  unfold autoSample
  extract_lets x sp d eq e secs n isec presets um st p c units r v o limited yn gap xk freeze keep clean learns reps sat frozenLearn s1 s2 s3 s4
  have hsp : sp.1 = s.rdQ Od.ctl_sp k := by simp [sp, spAdvance, h.ramp]
  have hn : n = 0 := by simp [n, secs, sectionsOf, h.sections]
  have hpresets : presets = false := by simp [presets, x, h.transfer]
  have heq : eq = directError s k pv := by rw [directError, ← hsp, ← show d = 1 from if_pos h.dir]
  have hc : c.out = gainOutput s k (directError s k pv) := by
    rw [← heq]
    exact congrArg Cascade.out (if_pos hn)
  have hr : r = 0 := by simp [r, x, h.transfer, units, h.units]
  have hv : v.1 = gainOutput s k (directError s k pv) := by
    rw [show v = sigClamp (c.out + r) from rfl, hc, hr, Int.add_zero]
    exact sigClamp_sigClamp _
  rw [if_neg Bool.false_ne_true, deliverLoop_out, hpresets, if_neg Bool.false_ne_true, ← hv]

/-! ### What a held sample may write (R244) -/

/-- The entries of a sample that delivers nothing: no output is among them. -/
def heldEntries : Option (List Nat) :=
  some [Od.rec_dropped, Od.ctl_mode, Od.ctl_man_out, Od.ctl_status, Od.ctl_sat_count, Od.ctl_pv, Od.ctl_rep_index, Od.ctl_rep_peak]

section Held

variable {s t : State} (h : Within heldEntries [.ctl, .recd] s t) (k : Nat)
include h

theorem offSample_held_within : Within heldEntries [.ctl, .recd] s (offSample t k true) :=
  .after (noLearning_within ..) rfl rfl (.after (sampleBits_within ..) rfl rfl h)

theorem manualSample_held_within : Within heldEntries [.ctl, .recd] s (manualSample t k true) :=
  .after (noLearning_within ..) rfl rfl (.after (sampleBits_within ..) rfl rfl h)

theorem faultedSample_held_within : Within heldEntries [.ctl, .recd] s (faultedSample t k true) := by
  have hshown : Within heldEntries [.ctl, .recd] s (pvFaulted t k) := .after (pvFaulted_within ..) rfl rfl h
  unfold faultedSample
  extract_lets s0 s1 x s2
  have hslot : Within heldEntries [.ctl, .recd] s s2 := .after (putSlot_within ..) rfl rfl hshown
  refine .ite hshown ?_
  split
  · exact hslot
  · exact hslot
  · exact (hshown.wr _ _ _ rfl).wr _ _ _ rfl

theorem autoSample_held_within (pv : Frac) : Within heldEntries [.ctl, .recd] s (autoSample t k pv true) := by
  unfold autoSample
  extract_lets x sp d eq e secs n isec presets um st p c units r v o limited yn gap xk freeze keep clean learns reps sat frozenLearn
    s1 s2 s3 s4
  have hslot : Within heldEntries [.ctl, .recd] s s1 := .after (putSlot_within ..) rfl rfl h
  have hreps : Within heldEntries [.ctl, .recd] s s2 := .foldl (fun _ _ => (putRep_within ..).mono rfl rfl) _ hslot
  have hbits : Within heldEntries [.ctl, .recd] s s3 := .after (sampleBits_within ..) rfl rfl hreps
  have hcounted : Within heldEntries [.ctl, .recd] s s4 := .ite (hbits.count _ _ _ rfl) hbits
  rwa [if_pos rfl]

theorem sampleOf_held_within (read : State → Nat → Nat → Nat) (from_ : State) :
    Within heldEntries [.ctl, .recd] s (sampleOf read from_ t k true) := by
  unfold sampleOf
  refine .ite (offSample_held_within h k) (.ite (.after (putSlot_within ..) rfl rfl (.after (restBits_within ..) rfl rfl h)) ?_)
  split
  · have hfaulted := faultedSample_held_within (h.wr Od.ctl_pv f32NaN k rfl) k
    exact .ite (manualSample_held_within hfaulted k) hfaulted
  next pv _ =>
    have hshown : Within heldEntries [.ctl, .recd] s (pvShown t k pv) := .after (pvShown_within ..) rfl rfl h
    exact .ite (manualSample_held_within hshown k) (autoSample_held_within hshown k pv)

end Held

end Sys2Proof.Proofs

/-!
## The control-law engine: samples, self-checks and the resynchronisation, and the obligation (R227, R233, R237, R240, R244 to R246)
-/
namespace Sys2Proof.Proofs

open Sys2Proof Sys2Proof.Machine Sys2Proof.Safety Sys2Proof.Laws

set_option Elab.async false

/-! ### The sample by the slot's mode (R237, R240) -/

section Mode

variable {read : State → Nat → Nat → Nat} {from_ s : State} {k : Nat} (held : Bool)

theorem sampleOf_off (hmode : s.rd Od.ctl_mode k = 0) : sampleOf read from_ s k held = offSample s k held := if_pos hmode

theorem sampleOf_manual {pv : Frac} (hmode : s.rd Od.ctl_mode k = 1) (hpv : loopPv read from_ (from_.rd Od.ctl_pv_src k) = some pv) :
    sampleOf read from_ s k held = manualSample (pvShown s k pv) k held := by
  unfold sampleOf
  simp only [hmode, hpv]
  rfl

variable (hmode : s.rd Od.ctl_mode k = 2) (hc : s.mode ≠ .commission)
include hmode hc

theorem sampleOf_auto {pv : Frac} (hpv : loopPv read from_ (from_.rd Od.ctl_pv_src k) = some pv) :
    sampleOf read from_ s k held = autoSample (pvShown s k pv) k pv held := by
  unfold sampleOf
  simp only [hmode, hpv, hc]
  rfl

theorem sampleOf_auto_faulted (hpv : loopPv read from_ (from_.rd Od.ctl_pv_src k) = none) :
    sampleOf read from_ s k held = faultedSample (s.wr Od.ctl_pv f32NaN k) k held := by
  unfold sampleOf
  simp only [hmode, hpv, hc]
  rfl

end Mode

/-! ### The command LOOP_SAMPLE (R227, R228, R244) -/

/-- A slot marked as sampled at its tick. -/
def sampleMarked (s : State) (k : Nat) : State := putSlot s k { slotOf s k with last := some s.now }

/-- What a sample starts from: the slot is marked, and its units are cleared where that is due. -/
def sampleStart (s : State) (k : Nat) : State := clearReps (sampleMarked s k) k

theorem sampleMarked_within (s : State) (k : Nat) : Within (some []) [.ctl] s (sampleMarked s k) := putSlot_within ..

theorem sampleStart_within (s : State) (k : Nat) : Within (some [Od.ctl_rep_index, Od.ctl_rep_peak]) [.ctl] s (sampleStart s k) :=
  .after (clearReps_within ..) rfl rfl ((sampleMarked_within ..).mono rfl rfl)

theorem sampleStart_unattached {s : State} {k : Nat} (h : repsOf s k = []) : sampleStart s k = sampleMarked s k := clearReps_unattached h

theorem sampleMarked_transfer (s : State) (k : Nat) : (slotOf (sampleMarked s k) k).transfer = (slotOf s k).transfer := by
  rw [sampleMarked, slotOf_putSlot_self]

/-- The process value of a marked slot, written. -/
theorem markedPv_within (s : State) (k : Nat) (pv : Frac) :
    Within (some [Od.ctl_pv]) [.ctl] s ((sampleMarked s k).wrQ Od.ctl_pv pv k) := .wrQ _ _ _ rfl ((sampleMarked_within ..).mono rfl rfl)

theorem GainAlone.marked {s : State} {k : Nat} (h : GainAlone s k) (pv : Frac) : GainAlone ((sampleMarked s k).wrQ Od.ctl_pv pv k) k where
  sections := ((markedPv_within ..).keeps _ _).trans h.sections
  units := (repsOf_wr _ _ _ (by decide)).trans h.units
  transfer := (sampleMarked_transfer ..).trans h.transfer
  ramp := (congrArg Frac.num (rdQ_of_within (markedPv_within ..) _ _)).trans h.ramp
  dir := ((markedPv_within ..).keeps _ _).trans h.dir

theorem sampleStart_off_out (read : State → Nat → Nat → Nat) {s : State} {k : Nat} (hmode : s.rd Od.ctl_mode k = 0)
    (hfit : s.rd Od.ctl_safe_out k < 2 ^ 32) :
    (sampleOf read s (sampleStart s k) k false).rd Od.ctl_out k = s.rd Od.ctl_safe_out k := by
  have hstart := sampleStart_within s k
  have hsafe : (sampleStart s k).rd Od.ctl_safe_out k = s.rd Od.ctl_safe_out k := hstart.keeps _ _
  rw [sampleOf_off false ((hstart.keeps _ _).trans hmode), offSample_out (by rwa [hsafe]), hsafe]

theorem sampleStart_manual_shows (read : State → Nat → Nat → Nat) {s : State} {k : Nat} {pv : Frac} (hmode : s.rd Od.ctl_mode k = 1)
    (hpv : loopPv read s (s.rd Od.ctl_pv_src k) = some pv) :
    let t := sampleOf read s (sampleStart s k) k false
    t.rd Od.ctl_pv k = qf32 pv % 2 ^ 32 ∧ t.rdBit Od.ctl_status 7 k = false ∧
      t.rd Od.ctl_out k = qf32 (Frac.clamp (s.rdQ Od.ctl_out_min k) (s.rdQ Od.ctl_out_max k) (s.rdQ Od.ctl_man_out k)) % 2 ^ 32 := by
  have hstart := sampleStart_within s k
  have hshown : Within (some [Od.ctl_rep_index, Od.ctl_rep_peak, Od.rec_dropped, Od.ctl_pv, Od.ctl_status]) [.ctl, .recd] s
      (pvShown (sampleStart s k) k pv) := .after (pvShown_within ..) rfl rfl (hstart.mono rfl rfl)
  rw [sampleOf_manual false ((hstart.keeps _ _).trans hmode) hpv]
  refine ⟨?_, ?_, ?_⟩
  · rw [(manualSample_within ..).keeps _ _, pvShown_pv]
  · rw [manualSample_faultBit, pvShown_faultBit]
  · rw [manualSample_out, rdQ_of_within hshown _ _, rdQ_of_within hshown _ _, rdQ_of_within hshown _ _]

theorem sampleStart_faulted_safe (read : State → Nat → Nat → Nat) {s : State} {k : Nat} (hmode : s.rd Od.ctl_mode k = 2)
    (hc : s.mode ≠ .commission) (hpv : loopPv read s (s.rd Od.ctl_pv_src k) = none) (hact : s.rd Od.ctl_fault_act k = 1)
    (hfit : s.rd Od.ctl_safe_out k < 2 ^ 32) :
    let t := sampleOf read s (sampleStart s k) k false
    t.rdBit Od.ctl_status 7 k = true ∧ t.rd Od.ctl_out k = s.rd Od.ctl_safe_out k := by
  have hstart := sampleStart_within s k
  have hsame : (sampleStart s k).mode = s.mode := hstart.parts .mode rfl
  have hnan : Within (some [Od.ctl_rep_index, Od.ctl_rep_peak, Od.ctl_pv]) [.ctl] s ((sampleStart s k).wr Od.ctl_pv f32NaN k) :=
    .wr _ _ _ rfl (hstart.mono rfl rfl)
  rw [sampleOf_auto_faulted false ((hstart.keeps _ _).trans hmode) (by rwa [hsame]) hpv,
    faultedSample_safe ((hnan.keeps _ _).trans hmode) ((hnan.keeps _ _).trans hact)]
  constructor
  · rw [rdBit_of_within (deliverLoop_within ..) _ _ _, rdBit_of_within (putSlot_within ..) _ _ _, pvFaulted_faultBit]
  · rw [deliverLoop_out, hnan.keeps _ _, Nat.mod_eq_of_lt hfit]

/-- A sample of gain alone: by the error and the conversion of the state before it. -/
theorem sampleStart_gain_out (read : State → Nat → Nat → Nat) {s : State} {k : Nat} {pv : Frac} (h : GainAlone s k)
    (hmode : s.rd Od.ctl_mode k = 2) (hc : s.mode ≠ .commission) (hpv : loopPv read s (s.rd Od.ctl_pv_src k) = some pv)
    (hgood : s.rdBit Od.ctl_status 7 k = false) :
    (sampleOf read s (sampleStart s k) k false).rd Od.ctl_out k =
      qf32 (outConv s k (gainOutput s k (directError s k pv))).y % 2 ^ 32 := by
  have hw := markedPv_within s k pv
  rw [sampleStart_unattached h.units, sampleOf_auto (s := sampleMarked s k) false hmode hc hpv,
    pvShown_unfaulted (s := sampleMarked s k) pv hgood, autoSample_gain_out (h.marked pv), outConv_of_within hw]
  simp only [gainOutput, directError, State.rdInt, hw.keeps Od.ctl_gain _, rdQ_of_within hw Od.ctl_sp _, rdQ_of_within hw Od.ctl_pv_span _]

/-- A held sample leaves the output; it is counted, and the self-checks start. -/
theorem sampleStart_held_counts (read : State → Nat → Nat → Nat) {s : State} {k : Nat} (hfit : s.rd Od.ctl_mismatches + 1 < 2 ^ 32) :
    let t := engineMismatch (sampleOf read s (sampleStart s k) k true)
    t.rd Od.ctl_out k = s.rd Od.ctl_out k ∧ t.rd Od.ctl_mismatches = s.rd Od.ctl_mismatches + 1 ∧ t.ctl.checking = true := by
  have hheld := sampleOf_held_within ((sampleStart_within s k).mono rfl rfl) k read s
  generalize sampleOf read s (sampleStart s k) k true = u at hheld ⊢
  have hcount : u.rd Od.ctl_mismatches = s.rd Od.ctl_mismatches := hheld.keeps _ _
  refine ⟨?_, ?_, rfl⟩
  · rw [(engineMismatch_within ..).keeps _ _, hheld.keeps _ _]
  · exact hcount ▸ rd_count_self (hcount ▸ hfit)

section Command

variable {s : State} {k : Nat} (hr : running s = true) (hoff : entryOff s = false) (hsafe : s.mode ≠ .safeHold) (hk : k < loopCount s)
  (hdue : sampleDue s k = true)
include hr hoff hsafe hk hdue

/-- Where the instances agree the sample is the slot's. -/
theorem exec_loopSample_agreed (hinst : s.rd Od.ctl_instance ≠ 4) :
    exec (.loopSample k false) s = .next (motFromLoop (sampleOf readElem s (sampleStart s k) k false) k) := by
  have hsamples : loopSample readElem k false s = sampleOf readElem s (sampleStart s k) k false :=
    if_neg (by simp [hr, hoff, hsafe, hk, hdue, hinst])
  exact next_of_eq ((if_neg (by simp [hoff])).trans (by rw [hsamples]))

/-- In duplex a sample on which the instances differ is held and counted. -/
theorem exec_loopSample_mismatch (hinst : s.rd Od.ctl_instance = 0) :
    exec (.loopSample k true) s =
      .next (motFromLoop (engineMismatch (sampleOf readElem s (sampleStart s k) k true)) k) := by
  have hinst' : (sampleStart s k).rd Od.ctl_instance = 0 := ((sampleStart_within s k).keeps _ _).trans hinst
  have hsamples : loopSample readElem k true s = engineMismatch (sampleOf readElem s (sampleStart s k) k true) := by
    rw [loopSample, if_neg (by simp [hr, hoff, hsafe, hk, hdue, hinst]), ← sampleMarked, ← sampleStart]
    dsimp only
    rw [hinst']
    rfl
  exact next_of_eq ((if_neg (by simp [hoff])).trans (by rw [hsamples]))

end Command

/-! ### Self-checks (R245) -/

/-- The self-checks are over. -/
def checksOver (s : State) : State := { s with ctl := { s.ctl with checking := false } }

section Verdict

variable {s : State} (hcheck : s.ctl.checking = true) (hinst : s.rd Od.ctl_instance = 0)
include hcheck hinst

theorem selfCheckAll_transient : selfCheckAll true true true s = (checksOver s).count Od.ctl_transients := by
  simp [selfCheckAll, selfCheck, hcheck, hinst, checksOver]

theorem selfCheckAll_bFailed (agree : Bool) : selfCheckAll true false agree s = engineFailed (checksOver s) false true := by
  simp [selfCheckAll, selfCheck, hcheck, hinst, checksOver]

end Verdict

/-- With B failed and A not, A runs alone. -/
theorem engineFailed_b {s : State} (h : s.rdBit Od.sys_health bitEngineA = false) :
    (engineFailed s false true).rd Od.ctl_instance = 1 ∧ (engineFailed s false true).rdBit Od.sys_health bitEngineB = true := by
  have ha : (raiseFault s bitEngineB).rdBit Od.sys_health bitEngineA = false := by
    rw [raiseFault_bit_ne _ _ _ _ (by decide) (by decide), h]
  have hb : (raiseFault s bitEngineB).rdBit Od.sys_health bitEngineB = true := raiseFault_bit _ _ _ (by decide)
  have hfailed : engineFailed s false true = (raiseFault s bitEngineB).wr Od.ctl_instance 1 := by simp [engineFailed, ha, hb]
  rw [hfailed, rdBit_of_rd (rd_wr_ne _ _ _ _ _ _ (by decide)), hb]
  exact ⟨rd_wr_fit _ _ _ _ (by decide), rfl⟩

/-- Where neither of the two has failed, a completed copy ends in duplex (R246). -/
theorem engineResynced_duplex {s : State} (hinst : s.rd Od.ctl_instance = 3) (ha : s.rdBit Od.sys_health bitEngineA = false)
    (hb : s.rdBit Od.sys_health bitEngineB = false) : engineResynced s = s.wr Od.ctl_instance 0 := by
  simp [engineResynced, hinst, ha, hb]

/-- Settles O27: a sample by its slot's mode and process value, a mismatch by what a held sample keeps, a verdict by what it comes to. -/
theorem loopsDeliverTheirOutputs : Obligations.LoopsDeliverTheirOutputs := by
  refine ⟨fun s k hr hoff hsafe hk hdue hinst hmode hfit => ⟨_, exec_loopSample_agreed hr hoff hsafe hk hdue hinst, ?_⟩,
    fun s k pv hr hoff hsafe hk hdue hinst hmode hpv => ⟨_, exec_loopSample_agreed hr hoff hsafe hk hdue hinst, ?_⟩,
    fun s k pv err hr hoff hsafe hcom hk hdue hinst hmode hpv hgood hsec hreps htransfer hramp hdir herr =>
      ⟨_, exec_loopSample_agreed hr hoff hsafe hk hdue hinst, ?_⟩,
    fun s k hr hoff hsafe hcom hk hdue hinst hmode hpv hact hfit => ⟨_, exec_loopSample_agreed hr hoff hsafe hk hdue hinst, ?_⟩,
    fun s k hr hoff hsafe hk hdue hinst hfit => ⟨_, exec_loopSample_mismatch hr hoff hsafe hk hdue hinst, ?_⟩,
    fun s hcheck hinst hfit => ⟨_, next_of_eq (selfCheckAll_transient hcheck hinst), rd_count_self hfit, rfl⟩,
    fun s agree hcheck hinst ha => ⟨_, next_of_eq (selfCheckAll_bFailed hcheck hinst agree), engineFailed_b ha⟩,
    fun s hinst ha hb => next_of_eq (engineResynced_duplex hinst ha hb)⟩
  · rw [(motFromLoop_within ..).keeps _ _]
    exact sampleStart_off_out readElem hmode hfit
  · rw [(motFromLoop_within ..).keeps _ _, rdBit_of_within (motFromLoop_within ..) _ _ _, (motFromLoop_within ..).keeps _ _]
    exact sampleStart_manual_shows readElem hmode hpv
  · rw [(motFromLoop_within ..).keeps _ _, herr]
    exact sampleStart_gain_out readElem ⟨hsec, hreps, htransfer, hramp, hdir⟩ hmode hcom hpv hgood
  · rw [rdBit_of_within (motFromLoop_within ..) _ _ _, (motFromLoop_within ..).keeps _ _]
    exact sampleStart_faulted_safe readElem hmode hcom hpv hact hfit
  · rw [(motFromLoop_within ..).keeps _ _, (motFromLoop_within ..).keeps _ _, (motFromLoop_within ..).parts .ctl rfl]
    exact sampleStart_held_counts readElem hfit

end Sys2Proof.Proofs

/-!
## Steps and the queue: the frame of a command, its answer, the order of the queue, the crystal's period (R350)
-/
namespace Sys2Proof.Proofs

open Sys2Proof Sys2Proof.Machine Sys2Proof.Safety Sys2Proof.Laws

/-- Settles O53, as the frames of the commands gathered give it. -/
theorem commandFrame : Obligations.CommandFrame := exec_within

/-- Settles O52: every arm of the dispatch is a next state. -/
theorem everyCommandAnswers : Obligations.EveryCommandAnswers := by
  intro c s
  cases c <;> exact ⟨_, rfl⟩

theorem step_of_pending {s : State} {c : Instr} {q : List Instr} (h : s.pending = c :: q) : step s = exec c { s with pending := q } := by
  simp only [step, h]

/-- Settles O50. -/
theorem stepTakesTheFrontCommand : Obligations.StepTakesTheFrontCommand := fun _ _ _ => step_of_pending

theorem step_of_empty {s : State} (h : s.pending = []) : step s = .next (crystalTick s) := by
  simp only [step, h]

/-- Settles O51: within a second the crystal's period counts the prescaler up. -/
theorem emptyQueueIsACrystalPeriod : Obligations.EmptyQueueIsACrystalPeriod := by
  intro s hq hsub
  rw [step_of_empty hq, crystalTick, if_pos hsub]

/-- The command at the front is answered, and the rest of the queue waits as before. -/
theorem step_takes_front {s : State} {c : Instr} {q : List Instr} (h : s.pending = c :: q) : ∃ t, step s = .next t ∧ t.pending = q := by
  obtain ⟨t, ht⟩ := everyCommandAnswers c { s with pending := q }
  exact ⟨t, (step_of_pending h).trans ht, (exec_within c _ t ht).pending⟩

/-- Settles O56, by induction on the commands taken: each step takes the front command and adds none. -/
theorem theQueueDrains : Obligations.TheQueueDrains := by
  intro s q
  induction q generalizing s with
  | nil => exact fun r h => ⟨s, rfl, h⟩
  | cons c q ih =>
    intro r h
    obtain ⟨t, ht, hq⟩ := step_takes_front h
    obtain ⟨u, hu, hr⟩ := ih t r hq
    exact ⟨u, by rw [List.length_cons, steps, ht]; exact hu, hr⟩

end Sys2Proof.Proofs

/-!
## Signed entries (R8)
-/
namespace Sys2Proof.Proofs

open Sys2Proof Sys2Proof.Machine Sys2Proof.Safety Sys2Proof.Laws

theorem ofInt_lt (w : Nat) (x : Int) : ofInt w x < 2 ^ w := by
  have hpos : (0 : Int) < ((2 ^ w : Nat) : Int) := by exact_mod_cast Nat.two_pow_pos w
  have hlo := Int.emod_nonneg x hpos.ne'
  have hhi := Int.emod_lt_of_pos x hpos
  rw [ofInt]
  omega

/-- The word of a number within its width is that number again. -/
theorem toInt_ofInt {n : Nat} {x : Int} (hlo : -(2 ^ n : Nat) ≤ x) (hhi : x < (2 ^ n : Nat)) : toInt (n + 1) (ofInt (n + 1) x) = x := by
  have hpow : 2 ^ (n + 1) = 2 * 2 ^ n := Nat.pow_succ'
  rw [toInt, Nat.mod_eq_of_lt (ofInt_lt ..), Nat.add_sub_cancel, ofInt, hpow]
  generalize 2 ^ n = p at *
  by_cases hx : 0 ≤ x
  · rw [Int.emod_eq_of_lt hx (by omega), if_pos (by omega)]
    omega
  · have hmod : x % ((2 * p : Nat) : Int) = x + (2 * p : Nat) := by
      rw [← Int.add_emod_right, Int.emod_eq_of_lt (by omega) (by omega)]
    rw [hmod, if_neg (by omega)]
    omega

theorem rdInt_of_within {w : Option (List Nat)} {ps : List Part} {s t : State} (h : Within w ps s t) (i e : Nat)
    (hi : admits w i = false := by rfl) : t.rdInt i e = s.rdInt i e := by
  rw [State.rdInt, h.keeps i e hi, State.rdInt]

/-- A signed entry reads as the number whose word it was given. -/
theorem rdInt_wr_ofInt (s : State) {i n : Nat} {x : Int} (e : Nat) (hw : widthOf i = n + 1) (hlo : -(2 ^ n : Nat) ≤ x)
    (hhi : x < (2 ^ n : Nat)) : (s.wr i (ofInt (n + 1) x) e).rdInt i e = x := by
  rw [State.rdInt, rd_wr_fit _ _ _ _ (hw ▸ ofInt_lt ..), hw, toInt_ofInt hlo hhi]

theorem clampInt_bounds {lo hi : Int} (h : lo ≤ hi) (x : Int) : lo ≤ clampInt lo hi x ∧ clampInt lo hi x ≤ hi := by
  unfold clampInt
  split_ifs <;> omega

end Sys2Proof.Proofs

/-!
## The clock: the count, the calendar, the comparison, VBAT and the brown-out (R350 to R364)
-/
namespace Sys2Proof.Proofs

open Sys2Proof Sys2Proof.Machine Sys2Proof.Safety Sys2Proof.Laws

/-! ### The count set (R354, R356) -/

theorem setCount_seconds (s : State) {c : Nat} (sub : Nat) (hc : c < 2 ^ 64) : (setCount s c sub).rd Od.rtc_seconds = c := by
  refine (rd_wr_ne _ _ _ _ _ _ (by decide)).trans ((rd_wr_ne _ _ _ _ _ _ (by decide)).trans ?_)
  exact rd_wr_fit _ _ _ _ hc

theorem setCount_subsec (s : State) (c : Nat) {sub : Nat} (hsub : sub < 2 ^ 16) : (setCount s c sub).rd Od.rtc_subsec = sub :=
  (rd_wr_ne _ _ _ _ _ _ (by decide)).trans (rd_wr_fit _ _ _ _ hsub)

theorem setCount_calEnd (s : State) (c sub : Nat) : (setCount s c sub).rd Od.rtc_cal_end = b2n (decide (calEnd < c)) :=
  rd_wr_fit _ _ _ _ (by cases decide (calEnd < c) <;> decide)

/-! ### A second boundary (R350, R357) -/

/-- The prescaler that a pending shift leaves at a boundary. -/
def boundarySub (s : State) : Nat := if 0 < s.rdInt Od.rtc_shift then (s.rdInt Od.rtc_shift).toNat else 0

/-- A boundary sets the count one further; besides it ends a shift, and writes anchors. -/
theorem secondBoundary_within_setCount (s : State) :
    Within (some [Od.rtc_shift, Od.rtc_lost, Od.rec_dropped]) [.mer, .recd, .rtc] (setCount s (s.rd Od.rtc_seconds + 1) (boundarySub s))
      (secondBoundary s) := by
  unfold secondBoundary boundarySub
  extract_lets sh c s1 rtc s2 mer s3 s4
  have h3 : Within (some [Od.rtc_shift, Od.rtc_lost, Od.rec_dropped]) [.mer, .recd, .rtc] s1 s3 :=
    .ite (.mer _ rfl (.rtc _ rfl (.refl _ _ _))) (.rtc _ rfl (.refl _ _ _))
  have h4 : Within (some [Od.rtc_shift, Od.rtc_lost, Od.rec_dropped]) [.mer, .recd, .rtc] s1 s4 :=
    .ite h3 (.after (anchor_within ..) rfl rfl (.wr _ _ _ rfl (.ite (.wr _ _ _ rfl h3) h3)))
  exact .ite (.after (anchor_within ..) rfl rfl h4) h4

/-- A boundary that makes an internal shift ends it and shows the time as no longer lost. -/
theorem secondBoundary_internal_shift {s : State} (hsh : s.rdInt Od.rtc_shift ≠ 0) (hint : s.rtc.shiftInternal = true) :
    (secondBoundary s).rd Od.rtc_shift = 0 ∧ (secondBoundary s).rd Od.rtc_lost = 0 := by
  unfold secondBoundary
  extract_lets sh c s1 rtc s2 mer s3 s4
  have hanchor : Within (some [Od.rec_dropped]) [.recd] ((s3.wr Od.rtc_lost 0).wr Od.rtc_shift 0) s4 := by
    have h4 : s4 = anchor ((s3.wr Od.rtc_lost 0).wr Od.rtc_shift 0) 3 := by simp [s4, sh, hsh, hint]
    exact h4 ▸ anchor_within ..
  have hall : Within (some [Od.rec_dropped]) [.recd] ((s3.wr Od.rtc_lost 0).wr Od.rtc_shift 0)
      (if c % 60 = 0 then anchor s4 0 else s4) := .ite (.after (anchor_within ..) rfl rfl hanchor) hanchor
  rw [hall.keeps _ _, hall.keeps _ _]
  exact ⟨rd_wr_fit _ _ _ _ (by decide), (rd_wr_ne _ _ _ _ _ _ (by decide)).trans (rd_wr_fit _ _ _ _ (by decide))⟩

/-- The crystal counts left in a second are passed. -/
def secondPassed (s : State) (left : Nat) : State := { s with crystal := s.crystal + left }

theorem rdInt_eq_zero {s : State} {i e : Nat} (h : s.rd i e = 0) : s.rdInt i e = 0 := by
  rw [State.rdInt, h, toInt, Nat.zero_mod, if_pos (Nat.two_pow_pos _)]
  rfl

theorem rtcSecondBoundary_unshifted {s : State} (h : s.rd Od.rtc_shift = 0) :
    rtcSecondBoundary s = secondBoundary (secondPassed s (32768 - s.rd Od.rtc_subsec)) := by
  simp [rtcSecondBoundary, secondPassed, rdInt_eq_zero h]

/-- A boundary without a shift, from the state at the end of the second. -/
theorem rtcSecondBoundary_counts {s : State} (hsh : s.rd Od.rtc_shift = 0) :
    Within (some [Od.rtc_shift, Od.rtc_lost, Od.rec_dropped]) [.mer, .recd, .rtc]
      (setCount (secondPassed s (32768 - s.rd Od.rtc_subsec)) (s.rd Od.rtc_seconds + 1) 0) (rtcSecondBoundary s) := by
  have hsub : boundarySub (secondPassed s (32768 - s.rd Od.rtc_subsec)) = 0 := by
    have hsh' : (secondPassed s (32768 - s.rd Od.rtc_subsec)).rd Od.rtc_shift = 0 := hsh
    simp [boundarySub, rdInt_eq_zero hsh']
  have h := secondBoundary_within_setCount (secondPassed s (32768 - s.rd Od.rtc_subsec))
  rwa [hsub, ← rtcSecondBoundary_unshifted hsh] at h

/-! ### Comparison with the timebase (R359) -/

section Comparison

variable {s : State} {d : Int} (hmp : mpRuns s = true) (hsync : s.rd Od.rtc_sync = 1) (hptp : s.rd Od.net_ptp_state = 3)
  (hsh : s.rd Od.rtc_shift = 0) (hpend : timePending s = false) (hd : d = (rtcTime s : Int) - s.now)

/-- The difference shown in counts, and whether it is within 32 of them. -/
def differenceShown (s : State) (d : Int) : State :=
  (s.wr Od.rtc_sync_diff (ofInt 32 (clampInt (-2147483647) 2147483647 (Frac.mk (d * 32768) 1000000000).round))).wrBit Od.rtc_status 4
    (decide (d.natAbs * 32768 ≤ 32 * 1000000000))

/-- The shift that a difference starts. -/
def shiftOf (d : Int) : Int := clampInt (-32767) 32767 (-(Frac.mk (d * 32768) 1000000000).round)

theorem differenceShown_within (s : State) (d : Int) : Within (some [Od.rtc_sync_diff, Od.rtc_status]) [] s (differenceShown s d) :=
  .wrBit _ _ _ _ rfl (.wr _ _ _ rfl (.refl _ _ _))

theorem differenceShown_synchronised (s : State) (d : Int) :
    (differenceShown s d).rdBit Od.rtc_status 4 = decide (d.natAbs * 32768 ≤ 32 * 1000000000) := by
  rw [differenceShown, rdBit_wrBit _ _ _ _ _ _ (by decide), if_pos rfl]

include hmp hsync hptp hsh hpend hd

theorem rtcSyncCompare_near (hnear : d.natAbs * 32768 ≤ 32 * 1000000000) : rtcSyncCompare s = differenceShown s d := by
  subst hd
  simp only [rtcSyncCompare, differenceShown, hmp, hsync, hptp, rdInt_eq_zero hsh, hpend]
  simp [hnear]

theorem rtcSyncCompare_shifts (hfar : 32 * 1000000000 < d.natAbs * 32768) (hstep : d.natAbs < s.rd Od.rtc_sync_step * 1000000000) :
    Within (some [Od.rec_dropped]) [.recd, .rtc] ((differenceShown s d).wr Od.rtc_shift (ofInt 16 (shiftOf d))) (rtcSyncCompare s) := by
  subst hd
  have hnear : ¬((rtcTime s : Int) - s.now).natAbs * 32768 ≤ 32 * 1000000000 := Nat.not_le.mpr hfar
  simp only [rtcSyncCompare, differenceShown, shiftOf, hmp, hsync, hptp, rdInt_eq_zero hsh, hpend]
  simp only [hnear, hstep, decide_false, if_true, if_false, Bool.false_eq_true, Bool.not_false, and_self]
  exact .after (timeEvent_within ..) rfl rfl (.rtc _ rfl (.refl _ _ _))

end Comparison

/-! ### The supply of the domain (R361 to R363) -/

/-- The switch-over counted, and its time noted where none is. -/
def vbatCounted (s : State) : State :=
  let s1 := s.countMod Od.nrg_vbat_gen
  if s1.rd Od.nrg_first_vbat = 0 then s1.wr Od.nrg_first_vbat (rtcTime s) else s1

theorem vbatSwitchOver_counts {s : State} (h : s.rtc.onVbat = false) :
    vbatSwitchOver s = carryDomain { vbatCounted s with rtc := { (vbatCounted s).rtc with onVbat := true } } := by
  simp [vbatSwitchOver, vbatCounted, h]

theorem vbatCounted_gen (s : State) : (vbatCounted s).rd Od.nrg_vbat_gen = (s.rd Od.nrg_vbat_gen + 1) % 2 ^ 16 := by
  have hgen : (s.countMod Od.nrg_vbat_gen).rd Od.nrg_vbat_gen = (s.rd Od.nrg_vbat_gen + 1) % 2 ^ 16 := rd_wr_self ..
  unfold vbatCounted
  dsimp only
  split
  · rw [rd_wr_ne _ _ _ _ _ _ (by decide), hgen]
  · exact hgen

theorem rtcTime_lt (s : State) : rtcTime s < 2 ^ 64 := Nat.mod_lt _ (Nat.two_pow_pos 64)

theorem vbatCounted_first {s : State} (h : s.rd Od.nrg_first_vbat = 0) : (vbatCounted s).rd Od.nrg_first_vbat = rtcTime s := by
  have hkept : (s.countMod Od.nrg_vbat_gen).rd Od.nrg_first_vbat = 0 := (rd_wr_ne _ _ _ _ _ _ (by decide)).trans h
  rw [vbatCounted, if_pos hkept, rd_wr_fit _ _ _ _ (rtcTime_lt s)]

/-- A measurement shown, with the bit of no battery. -/
def vbatShown (s : State) (mv : Nat) : State :=
  (s.wr Od.rtc_vbat (if mv < 1000 then 0 else mv)).wrBit Od.rtc_status 3 (decide (mv < 1000))

theorem vbatShown_vbat (s : State) {mv : Nat} (h : mv < 2 ^ 16) : (vbatShown s mv).rd Od.rtc_vbat = if mv < 1000 then 0 else mv := by
  have hfit : (if mv < 1000 then 0 else mv) < 2 ^ 16 := by split_ifs <;> omega
  exact (rd_wr_ne _ _ _ _ _ _ (by decide)).trans (rd_wr_fit _ _ _ _ hfit)

theorem vbatShown_absent (s : State) (mv : Nat) : (vbatShown s mv).rdBit Od.rtc_status 3 = decide (mv < 1000) := by
  rw [vbatShown, rdBit_wrBit _ _ _ _ _ _ (by decide), if_pos rfl]

theorem vbatMeasure_low {s : State} {mv : Nat} (hp : powered s = true) (h : mv < 2200) :
    Within (some [Od.rec_dropped]) [.recd] ((vbatShown s mv).wrBit Od.rtc_status 2 true) (vbatMeasure mv s) := by
  rw [vbatMeasure, if_pos hp, if_pos h]
  exact blockEvent_within ..

theorem vbatMeasure_good {s : State} {mv : Nat} (hp : powered s = true) (h : 2300 ≤ mv) :
    vbatMeasure mv s = (vbatShown s mv).wrBit Od.rtc_status 2 false := by
  rw [vbatMeasure, if_pos hp, if_neg (by omega), if_pos h]
  rfl

/-- The store without some of its cells: an entry of the dropped ones reads its default. -/
theorem odGet_filter_dropped {p : Cell → Bool} {i e : Nat} (h : ∀ v, p ⟨i, e, v⟩ = false) (cs : List Cell) :
    odGet i e (cs.filter p) = none := by
  induction cs with
  | nil => rfl
  | cons c cs ih =>
    rw [List.filter_cons]
    split
    next hc =>
      have hne : ¬(c.index = i ∧ c.elem = e) := by
        rintro ⟨rfl, rfl⟩
        exact Bool.false_ne_true ((h c.value).symm.trans hc)
      rw [odGet, if_neg hne, ih]
    next => exact ih

theorem backupDefaults_seconds (s : State) : (backupDefaults s).rd Od.rtc_seconds = 0 := by
  rw [State.rd, backupDefaults, odGet_filter_dropped fun _ => by dsimp only; decide]
  cases s.variant <;> rfl

/-- The sign of a brown-out and the kept mark of lost time. -/
theorem backupDomainBrownout_entries {s : State} (h : s.rd Od.rtc_lost < 2 ^ 8) :
    (backupDomainBrownout s).rd Od.rtc_seconds = 0 ∧ (backupDomainBrownout s).rd Od.nrg_first_vbat = 2 ^ 64 - 1 ∧
      (backupDomainBrownout s).rd Od.rtc_lost = s.rd Od.rtc_lost := by
  refine ⟨?_, ?_, rd_wr_fit _ _ _ _ h⟩
  · exact (rd_wr_ne _ _ _ _ _ _ (by decide)).trans ((rd_wr_ne _ _ _ _ _ _ (by decide)).trans (backupDefaults_seconds s))
  · exact (rd_wr_ne _ _ _ _ _ _ (by decide)).trans (rd_wr_fit _ _ _ _ (by decide))

/-- Settles O34: the boundary by the count it sets, the comparison by the difference it shows, VBAT by what its measurement shows. -/
theorem realTimeClock : Obligations.RealTimeClock := by
  refine ⟨fun s hsh _ hfit => ⟨_, rfl, ?_⟩, fun s d hmp hsync hptp hsh hpend hd hnear => ⟨_, rfl, ?_⟩,
    fun s d hmp hsync hptp hsh hpend hd hfar hstep => ⟨_, rfl, ?_⟩, fun s hsh hint => ⟨_, rfl, secondBoundary_internal_shift hsh hint⟩,
    fun s hoff => ⟨_, rfl, ?_⟩, fun s => rfl, fun s mv hp hlow => ⟨_, rfl, ?_⟩, fun s mv hp hgood hfit => ⟨_, rfl, ?_⟩,
    fun s hlost => ⟨_, rfl, ?_⟩⟩
  · have h := rtcSecondBoundary_counts hsh
    rw [h.keeps _ _, h.keeps _ _, h.parts .crystal rfl]
    exact ⟨setCount_seconds _ _ hfit, setCount_subsec _ _ (by decide), rfl⟩
  · rw [rtcSyncCompare_near hmp hsync hptp hsh hpend hd hnear, (differenceShown_within s d).keeps _ _, differenceShown_synchronised]
    exact ⟨decide_eq_true hnear, hsh⟩
  · have h := rtcSyncCompare_shifts hmp hsync hptp hsh hpend hd hfar hstep
    have hdiff := differenceShown_within s d
    obtain ⟨hlo, hhi⟩ := clampInt_bounds (show (-32767 : Int) ≤ 32767 by decide) (-(Frac.mk (d * 32768) 1000000000).round)
    refine ⟨?_, ?_, ?_⟩
    · rw [rdBit_of_within h _ _ _, rdBit_of_rd (rd_wr_ne _ _ _ _ _ _ (by decide)), differenceShown_synchronised]
      exact decide_eq_false (Nat.not_le.mpr hfar)
    · rw [h.keeps _ _, rd_wr_ne _ _ _ _ _ _ (by decide), hdiff.keeps _ _]
    · rw [rdInt_of_within h _ _]
      exact rdInt_wr_ofInt _ 0 rfl (by unfold shiftOf; omega) (by unfold shiftOf; omega)
  · rw [vbatSwitchOver_counts hoff]
    have h := carryDomain_within { vbatCounted s with rtc := { (vbatCounted s).rtc with onVbat := true } }
    rw [h.parts .rtc rfl, h.keeps _ _, h.keeps _ _]
    exact ⟨rfl, vbatCounted_gen s, vbatCounted_first⟩
  · have h := vbatMeasure_low hp (show mv < 2200 by omega)
    rw [rdBit_of_within h _ _ _, rdBit_of_within h _ _ _, h.keeps _ _, wrBit_eq, rd_wr_ne _ _ _ _ _ _ (by decide), ← wrBit_eq,
      rdBit_wrBit _ _ _ _ _ _ (by decide), rdBit_wrBit _ _ _ _ _ _ (by decide), vbatShown_vbat _ (by omega), vbatShown_absent]
    simp [hlow]
  · have hnot : ¬mv < 1000 := by omega
    rw [vbatMeasure_good hp hgood, rdBit_wrBit _ _ _ _ _ _ (by decide), rdBit_wrBit _ _ _ _ _ _ (by decide), vbatShown_absent,
      wrBit_eq, rd_wr_ne _ _ _ _ _ _ (by decide), vbatShown_vbat _ hfit]
    simp [hnot]
  · obtain ⟨hseconds, hfirst, hkept⟩ := backupDomainBrownout_entries hlost
    exact ⟨hseconds, hfirst, rfl, hkept, rfl⟩

/-! ### The end of the calendar (R354) -/

/-- Past its last second the calendar stands there. -/
theorem calOf_past_end {c : Nat} (h : calEnd ≤ c) : calOf c = ofBytes [0x09, 0x5F, 12, 31, 23, 59, 59, 5] := by
  have hstand : calOf c = calOf calEnd := by rw [calOf, calOf, Nat.min_eq_right h, Nat.min_self]
  rw [hstand]
  decide

theorem readElem_rtc_cal (s : State) : readElem s Od.rtc_cal 0 = calOf (s.rd Od.rtc_seconds) := by
  cases hv : s.variant <;> simp [readElem, absent, hv] <;> rfl

/-- A time write brings the count to its value at once where the crystal stands as at its acceptance. -/
theorem applyElem_seconds (s : State) (port client v : Nat) :
    Within (some [Od.rtc_lost, Od.rec_dropped]) [.recd] (setCount (cancelShift s) v 0)
      (applyElem s port client s.crystal Od.rtc_seconds 0 v) := by
  have happly : applyElem s port client s.crystal Od.rtc_seconds 0 v = applyTime s v s.crystal := rfl
  rw [happly, applyTime, Nat.sub_self]
  exact .after (anchor_within ..) rfl rfl (.wr _ _ _ rfl (.refl _ _ _))

/-- Settles O49: the boundary past the end by the count it sets, the write by the count it brings back. -/
theorem theCalendarEnds : Obligations.TheCalendarEnds := by
  refine ⟨fun s hsh _ hend hfit => ⟨_, rfl, ?_⟩, fun s port client v hv => ?_⟩
  · have h := rtcSecondBoundary_counts hsh
    have hseconds := (h.keeps Od.rtc_seconds 0).trans (setCount_seconds _ 0 hfit)
    have hsub := (h.keeps Od.rtc_subsec 0).trans (setCount_subsec _ _ (by decide))
    have htai : (rtcSecondBoundary s).rdInt Od.rtc_tai_offset = s.rdInt Od.rtc_tai_offset := rdInt_of_within (rtcSecondBoundary_within s) _ _
    refine ⟨hseconds, ?_, ?_, ?_⟩
    · rw [h.keeps _ _, setCount_calEnd, decide_eq_true (show calEnd < s.rd Od.rtc_seconds + 1 by unfold calEnd; omega)]
      rfl
    · rw [readElem_rtc_cal, hseconds, calOf_past_end (by unfold calEnd; omega)]
    · rw [rtcTime, hseconds, hsub, htai]
      simp
  · have h := applyElem_seconds s port client v
    rw [h.keeps _ _, h.keeps _ _, setCount_calEnd, decide_eq_false (show ¬calEnd < v by unfold calEnd; omega)]
    exact ⟨rfl, setCount_seconds _ _ (by omega)⟩

end Sys2Proof.Proofs

/-!
## The store: its start, a copy that passes, one that fails, and the allowance (R371 to R376)
-/
namespace Sys2Proof.Proofs

open Sys2Proof Sys2Proof.Machine Sys2Proof.Safety Sys2Proof.Laws

/-! ### Banks and the bank-select word (R373) -/

theorem selNow_of_nvs {s t : State} (h : t.nvs = s.nvs) : selNow t = selNow s := by simp only [selNow, selFound, h]

/-- Of two equal copies either is the word that stores follow. -/
theorem selNow_of_equal {s : State} (h : s.nvs.sel1 = s.nvs.sel0) : selNow s = s.nvs.sel0 := by
  simp only [selNow, selFound, h, lt_irrefl, if_false]
  split_ifs <;> rfl

theorem shadowOf_of_nvs {s t : State} (h : t.nvs = s.nvs) (b : Nat) : shadowOf t b = shadowOf s b := by simp only [shadowOf, h]

theorem shadowOf_putShadow_self (s : State) (b : Nat) (x : Option Bank) : shadowOf (putShadow s b x) b = x := by
  unfold putShadow shadowOf
  split_ifs <;> rfl

theorem shadowOf_putShadow_other (s : State) (x : Option Bank) {b : Nat} (h : b < 2) :
    shadowOf (putShadow s (1 - b) x) b = shadowOf s b := by
  unfold putShadow shadowOf
  obtain rfl | rfl : b = 0 ∨ b = 1 := by omega
  · rfl
  · rfl

/-! ### A store starts (R372, R374) -/

/-- The values that a store leaves, read back. -/
theorem storeCounters_entries {s : State} {b gen cause at_ : Nat} (hcount : s.rd Od.nvs_store_count b + 1 < 2 ^ 32) (hgen : gen < 2 ^ 64)
    (hcause : cause < 2 ^ 8) (hat : at_ < 2 ^ 64) :
    (storeCounters s b gen cause at_).rd Od.nvs_generation = gen ∧ (storeCounters s b gen cause at_).rd Od.nvs_last_cause = cause ∧
      (storeCounters s b gen cause at_).rd Od.nvs_last_store = at_ ∧
      (storeCounters s b gen cause at_).rd Od.nvs_store_count b = s.rd Od.nvs_store_count b + 1 := by
  unfold storeCounters
  refine ⟨?_, ?_, rd_wr_fit _ _ _ _ hat, ?_⟩
  · rw [rd_wr_ne _ _ _ _ _ _ (by decide), rd_wr_ne _ _ _ _ _ _ (by decide), rd_wr_fit _ _ _ _ hgen]
  · rw [rd_wr_ne _ _ _ _ _ _ (by decide), rd_wr_fit _ _ _ _ hcause]
  · rw [rd_wr_ne _ _ _ _ _ _ (by decide), rd_wr_ne _ _ _ _ _ _ (by decide), rd_wr_ne _ _ _ _ _ _ (by decide), rd_count_self hcount]

/-- The next trigger taken from the queue, and before the store of a STANDBY entry the recorder's buffer flushed. -/
def triggerTaken (s : State) (c : Nat) (cs : List (Nat × Nat)) : State :=
  let t := { s with nvs := { s.nvs with queued := cs } }
  if c = 3 then overflowRecord (flushRecords t) else t

theorem triggerTaken_within (s : State) (c : Nat) (cs : List (Nat × Nat)) :
    Within (some [Od.rec_dropped]) [.mer, .recd] { s with nvs := { s.nvs with queued := cs } } (triggerTaken s c cs) :=
  .ite (.after (overflowRecord_within _) rfl rfl (.after (flushRecords_within _) rfl rfl (.refl _ _ _))) (.refl _ _ _)

theorem storeStart_begins {s : State} {c at_ : Nat} {cs : List (Nat × Nat)} (hp : powered s = true) (hq : s.sys.qualified = true)
    (hs : s.nvs.storing = none) (hqueue : s.nvs.queued = (c, at_) :: cs) : storeStart s = beginStore (triggerTaken s c cs) c at_ := by
  simp only [storeStart, triggerTaken, hs, hqueue, hp, hq, and_self, if_true]

/-- What a store leaves as it begins. -/
theorem beginStore_leaves {s : State} {cause at_ b : Nat} (hb : b = 1 - (selNow s).bank) (hgen : (selNow s).gen + 1 < 2 ^ 64)
    (hcount : s.rd Od.nvs_store_count b + 1 < 2 ^ 32) (hcause : cause < 2 ^ 8) (hat : at_ < 2 ^ 64) :
    (beginStore s cause at_).nvs.storing.isSome = true ∧ (beginStore s cause at_).nvs.queued = s.nvs.queued ∧
      (beginStore s cause at_).nvs.target = b ∧ (beginStore s cause at_).rd Od.nvs_generation = (selNow s).gen + 1 ∧
      (beginStore s cause at_).rd Od.nvs_last_cause = cause ∧ (beginStore s cause at_).rd Od.nvs_last_store = at_ ∧
      (beginStore s cause at_).rd Od.nvs_store_count b = s.rd Od.nvs_store_count b + 1 := by
  unfold beginStore
  extract_lets gen target mer s0 s1 nvs
  have htarget : target = b := hb.symm
  have h := storeCounters_entries (s := s0) (b := target) (gen := gen) (cause := cause) (at_ := at_) (htarget ▸ hcount) hgen hcause hat
  clear_value target
  subst htarget
  have hnvs : nvs = s.nvs := (storeCounters_within ..).parts .nvs rfl
  have hqueued : nvs.queued = s.nvs.queued := by rw [hnvs]
  exact ⟨rfl, hqueued, rfl, h⟩

/-! ### A copy that passes (R372 to R376) -/

theorem storePassed_nvs (s : State) (snap : Bank) (us : Nat) :
    (storePassed s snap us).nvs =
      { (writeSel (putShadow s s.nvs.target (some snap)) (selWord 1 s.nvs.target snap.gen)).nvs with storing := none, inPlace := false } := by
  unfold storePassed
  extract_lets b s1 n s2 s3
  have h3 : s3.nvs = s2.nvs := (clearFault_within ..).parts .nvs rfl
  exact h3

/-- The marks that a passed copy leaves. -/
theorem storePassed_entries {s : State} (snap : Bank) (us : Nat) (hb : s.nvs.target < 2) :
    (storePassed s snap us).rd Od.nvs_active_bank = s.nvs.target ∧ (storePassed s snap us).rd Od.nvs_lost = 0 ∧
      (storePassed s snap us).rd Od.nvs_stale = 0 ∧ (storePassed s snap us).rdBit Od.sys_health (2 + s.nvs.target) = false := by
  unfold storePassed
  extract_lets b s1 n s2 s3
  have h3 : Within (some [Od.sys_health, Od.rec_dropped]) [.mode, .net, .recd]
    (((s2.wr Od.nvs_bank_state 0 b).wr Od.nvs_store_time us).wr Od.nvs_active_bank b) s3 := clearFault_within ..
  have hbit : s3.rdBit Od.sys_health (bankBit b) = false := clearFault_bit _ _ (by unfold bankBit; omega)
  refine ⟨?_, ?_, rd_wr_fit _ _ _ _ (by decide), ?_⟩
  · rw [rd_wr_ne _ _ _ _ _ _ (by decide), rd_wr_ne _ _ _ _ _ _ (by decide), h3.keeps _ _, rd_wr_fit _ _ _ _ (show _ < 2 ^ 8 by omega)]
  · rw [rd_wr_ne _ _ _ _ _ _ (by decide), rd_wr_fit _ _ _ _ (by decide)]
  · rwa [rdBit_of_rd (rd_wr_ne _ _ _ _ _ _ (by decide)), rdBit_of_rd (rd_wr_ne _ _ _ _ _ _ (by decide))]

theorem storeComplete_passes {s : State} {cause : Nat} {snap : Bank} (us : Nat) (hs : s.nvs.storing = some (cause, snap)) :
    storeComplete false us s = storePassed s snap us := by
  rw [storeComplete, hs]
  rfl

theorem standbyStored_outside_entry {s : State} (us : Nat) (h : entryOff s = false) : standbyStored us s = none := by
  rw [standbyStored, h]
  split <;> rfl

/-- With no STANDBY entry and no request held, the SRAM is released and work is settled. -/
theorem storeReleased_passes {s : State} {cause : Nat} {snap : Bank} (us : Nat) (hp : powered s = true)
    (hs : s.nvs.storing = some (cause, snap)) (he : entryOff s = false) (hh : s.txn.held = []) :
    Within (some [Od.net_q_drops, Od.fld_tx_drops]) [.fld, .lbs, .mer, .net, .out, .txn] (storePassed s snap us)
      (storeReleased false us s) := by
  have hheld : (storePassed s snap us).txn.held = [] := by rw [(storePassed_within ..).parts .txn rfl, hh]
  have hserve : Within (some []) [.txn] (storePassed s snap us) (serveAllHeld (storePassed s snap us)) := by
    rw [serveAllHeld, hheld]
    exact .txn _ rfl (.refl _ _ _)
  simp only [storeReleased, hp, standbyStored_outside_entry us he, storeComplete_passes us hs, storePassed_ends, if_true, if_false,
    Bool.false_eq_true, Option.isSome_none]
  exact .after (settle_within _) rfl rfl (hserve.mono rfl rfl)

/-! ### A copy that fails (R374) -/

/-- The failed bank marked, with its fault. -/
def bankFailed (s : State) : State :=
  raiseFault ((putShadow s s.nvs.target none).wr Od.nvs_bank_state 1 s.nvs.target) (bankBit s.nvs.target)

theorem storeReleased_fails {s : State} {cause : Nat} {snap : Bank} (us : Nat) (hp : powered s = true)
    (hs : s.nvs.storing = some (cause, snap)) (hfirst : s.nvs.inPlace = false) :
    storeReleased true us s = beginInPlace (bankFailed s) (1 - s.nvs.target) snap := by
  have hc : storeComplete true us s = beginInPlace (bankFailed s) (1 - s.nvs.target) snap := by
    rw [storeComplete, hs]
    simp [hfirst, bankFailed]
  rw [storeReleased, if_pos hp]
  simp only [if_true, hc]
  exact if_pos rfl

theorem bankFailed_nvs (s : State) : (bankFailed s).nvs = (putShadow s s.nvs.target none).nvs := (raiseFault_within ..).parts .nvs rfl

theorem bankFailed_marks {s : State} (hb : s.nvs.target < 2) :
    (bankFailed s).rd Od.nvs_bank_state s.nvs.target = 1 ∧ (bankFailed s).rdBit Od.sys_health (2 + s.nvs.target) = true := by
  refine ⟨?_, raiseFault_bit _ _ _ (by unfold bankBit; omega)⟩
  rw [bankFailed, (raiseFault_within ..).keeps _ _, rd_wr_fit _ _ _ _ (by decide)]

/-- The other bank takes the copy in place: the rest of what stands of the failed one stays. -/
theorem beginInPlace_leaves (s : State) (snap : Bank) {b : Nat} (hb : b < 2) :
    (beginInPlace s (1 - b) snap).nvs.storing.isSome = true ∧ (beginInPlace s (1 - b) snap).nvs.inPlace = true ∧
      (beginInPlace s (1 - b) snap).nvs.target = 1 - b ∧ shadowOf (beginInPlace s (1 - b) snap) b = shadowOf s b ∧
      (beginInPlace s (1 - b) snap).rd Od.nvs_bank_state b = s.rd Od.nvs_bank_state b ∧
      (beginInPlace s (1 - b) snap).rd Od.nvs_bank_state (1 - b) = 2 ∧
      ∀ c, (beginInPlace s (1 - b) snap).rdBit Od.sys_health c = s.rdBit Od.sys_health c := by
  unfold beginInPlace
  extract_lets s1 m n s2 snap' x
  have hcounters : Within (some [Od.nvs_store_count, Od.nvs_generation, Od.nvs_last_store, Od.nvs_last_cause]) [] s s1 :=
    storeCounters_within ..
  have hput := putShadow_within s1 (1 - b) none
  have hsel : Within (some []) [.nvs] (((putShadow s1 (1 - b) none).wr Od.nvs_bank_state 2 (1 - b)).wr Od.nvs_active_bank (1 - b)) s2 :=
    writeSel_within ..
  refine ⟨rfl, rfl, rfl, ?_, ?_, ?_, fun c => ?_⟩
  · exact (shadowOf_putShadow_other s1 none hb).trans (shadowOf_of_nvs (hcounters.parts .nvs rfl) b)
  · refine (hsel.keeps _ _).trans ((rd_wr_ne _ _ _ _ _ _ (by decide)).trans ((rd_wr_elem _ _ _ _ _ _ (by omega)).trans ?_))
    rw [hput.keeps _ _, hcounters.keeps _ _]
  · exact (hsel.keeps _ _).trans ((rd_wr_ne _ _ _ _ _ _ (by decide)).trans (rd_wr_fit _ _ _ _ (by decide)))
  · refine rdBit_of_rd ((hsel.keeps _ _).trans ((rd_wr_ne _ _ _ _ _ _ (by decide)).trans ((rd_wr_ne _ _ _ _ _ _ (by decide)).trans ?_))) c
    rw [hput.keeps _ _, hcounters.keeps _ _]

/-- Settles O35: the start by the trigger it takes, the end by the copy that passed or the bank that failed. -/
theorem storesIntoTheBanks : Obligations.StoresIntoTheBanks := by
  refine ⟨fun s c at_ b cs hp hq hs hqueue hc hat hb hgen hcount => ⟨_, rfl, ?_⟩,
    fun s us cause snap hp hs he hh hb => ⟨_, rfl, ?_⟩, fun s us cause snap hp hs hfirst hb => ⟨_, rfl, ?_⟩,
    fun s hp hroom => next_of_eq (if_pos ⟨hp, hroom⟩)⟩
  · have htaken := triggerTaken_within s c cs
    have hnvs : (triggerTaken s c cs).nvs = { s.nvs with queued := cs } := htaken.parts .nvs rfl
    have hsel : selNow (triggerTaken s c cs) = selNow s := by simp only [selNow, selFound, hnvs]
    have hrd : (triggerTaken s c cs).rd Od.nvs_store_count b = s.rd Od.nvs_store_count b := htaken.keeps _ _
    have h := beginStore_leaves (s := triggerTaken s c cs) (b := b) (by rwa [hsel]) (by rwa [hsel]) (by rwa [hrd]) hc hat
    rw [← storeStart_begins hp hq hs hqueue, hnvs, hsel, hrd] at h
    exact h
  · have h := storeReleased_passes us hp hs he hh
    have hnvs := (h.parts .nvs rfl).trans (storePassed_nvs s snap us)
    have hequal : (storeReleased false us s).nvs.sel1 = (storeReleased false us s).nvs.sel0 := by rw [hnvs]; rfl
    refine ⟨by rw [hnvs], by rw [hnvs]; rfl, hequal, selNow_of_equal hequal, ?_, ?_⟩
    · have hshadow := shadowOf_putShadow_self s s.nvs.target (some snap)
      simp only [shadowOf] at hshadow ⊢
      rw [hnvs]
      exact hshadow
    · obtain ⟨hactive, hlost, hstale, hbit⟩ := storePassed_entries snap us hb
      rw [h.keeps _ _, h.keeps _ _, h.keeps _ _, rdBit_of_within h _ _ _]
      exact ⟨hactive, hlost, hstale, hbit⟩
  · obtain ⟨hstate, hbit⟩ := bankFailed_marks hb
    obtain ⟨hstoring, hplace, htarget, hshadow, hkept, hother, hhealth⟩ := beginInPlace_leaves (bankFailed s) snap hb
    rw [storeReleased_fails us hp hs hfirst]
    refine ⟨hstoring, hplace, htarget, ?_, hkept.trans hstate, hother, (hhealth _).trans hbit⟩
    rw [hshadow, shadowOf_of_nvs (bankFailed_nvs s), shadowOf_putShadow_self]

end Sys2Proof.Proofs

/-!
## Sparse tables and bytes of wide words
-/
namespace Sys2Proof.Proofs

open Sys2Proof Sys2Proof.Machine Sys2Proof.Safety Sys2Proof.Laws

theorem tabGet_tabPut_ne {α : Type} (d : α) {j k : Nat} (v : α) (t : Tab α) (h : j ≠ k) : tabGet d j (tabPut k v t) = tabGet d j t := by
  induction t with
  | nil => simp [tabPut, tabGet, h.symm]
  | cons p ps ih =>
    unfold tabPut
    split_ifs with heq hlt
    · simp [tabGet, heq, h.symm]
    · simp [tabGet, h.symm]
    · simp [tabGet, ih]

/-- Words that agree in their lower `n` bytes have the same bytes. -/
theorem byteAt_mod_width (n v : Nat) {j : Nat} (hj : j < n) : byteAt n (v % 2 ^ (8 * n)) j = byteAt n v j := by
  unfold byteAt
  refine Nat.eq_of_testBit_eq fun i => ?_
  rw [show 256 = 2 ^ 8 from rfl, Nat.testBit_mod_two_pow, Nat.testBit_mod_two_pow, Nat.testBit_shiftRight, Nat.testBit_shiftRight,
    Nat.testBit_mod_two_pow]
  by_cases hi : i < 8
  · have hlow : 8 * (n - 1 - j) + i < 8 * n := by omega
    simp [hlow]
  · simp [hi]

end Sys2Proof.Proofs

/-!
## The recorder: flush, moves, contexts, dumps and clears (R386 to R392)
-/
namespace Sys2Proof.Proofs

open Sys2Proof Sys2Proof.Machine Sys2Proof.Safety Sys2Proof.Laws

/-! ### What records entering and leaving the buffer do not touch -/

/-- The recorder but for its buffer, the numbers that follow it and the drops. -/
def besideBuffer (r : RecState) : RecState := { r with buf := [], next := 0, dropped := 0, flushed := 0 }

theorem flash_of_beside {a b : RecState} (h : besideBuffer a = besideBuffer b) : a.flash = b.flash := (congrArg RecState.flash h :)

theorem tail_of_beside {a b : RecState} (h : besideBuffer a = besideBuffer b) : a.tail = b.tail := (congrArg RecState.tail h :)

theorem clears_of_beside {a b : RecState} (h : besideBuffer a = besideBuffer b) : a.clears = b.clears := (congrArg RecState.clears h :)

theorem dump_of_beside {a b : RecState} (h : besideBuffer a = besideBuffer b) : a.dump = b.dump := (congrArg RecState.dump h :)

theorem eraseWaits_of_beside {a b : RecState} (h : besideBuffer a = besideBuffer b) : a.eraseWaits = b.eraseWaits :=
  (congrArg RecState.eraseWaits h :)

theorem recordEvent_beside (s : State) (code inst flags payload : Nat) :
    besideBuffer (recordEvent s code inst flags payload).recd = besideBuffer s.recd := by
  unfold recordEvent
  split_ifs <;> rfl

theorem overflowRecord_beside (s : State) : besideBuffer (overflowRecord s).recd = besideBuffer s.recd := by
  unfold overflowRecord
  split
  · exact recordEvent_beside ..
  · rfl

theorem flushRecords_beside (s : State) : besideBuffer (flushRecords s).recd = besideBuffer s.recd := rfl

theorem overflowRecord_none {s : State} (h : s.recd.dropped = 0) : overflowRecord s = s := by simp [overflowRecord, h]

/-! ### Flush and moves (R386 to R388) -/

/-- The recorder after a buffer that fits has been copied whole. -/
theorem flushRecords_fits {s : State} (h : recUnmoved s + s.recd.buf.length ≤ 2048) :
    (flushRecords s).recd.buf = [] ∧ (flushRecords s).mer.region = (s.recd.buf ++ s.mer.region).take 2048 := by
  have hroom : s.recd.buf.length ≤ 2048 - recUnmoved s := by omega
  unfold recUnmoved at hroom
  simp [flushRecords, hroom]

theorem recorderFlush_fits {s : State} (hmp : mpRuns s = true) (hopen : sramOpen s = true) (hdrop : s.recd.dropped = 0) :
    recorderFlush s = flushRecords s := by
  rw [recorderFlush, if_pos ⟨hmp, hopen⟩]
  exact overflowRecord_none hdrop

/-- The records of the region that are not moved yet. -/
def unmovedRecs (s : State) : List Rec := s.mer.region.filter fun r => decide (s.recd.moved < r.seq)

/-- A moved block ends an erase's wait and leaves a dump's records; one that the ring has room for joins it. Records that enter or leave the
buffer after it change none of this. -/
theorem moveBlock_leaves (s : State) (n : Nat) :
    (moveBlock s n).recd.eraseWaits = false ∧ (moveBlock s n).recd.dump = s.recd.dump ∧
      (s.recd.flash.length + n ≤ 65536 →
        (moveBlock s n).recd.flash = (unmovedRecs s).drop ((unmovedRecs s).length - n) ++ s.recd.flash ∧
          (moveBlock s n).recd.tail = s.recd.tail) := by
  unfold moveBlock
  extract_lets unmoved block full flash low top recd s1
  have hbeside : besideBuffer (if sramOpen s1 then overflowRecord (if s1.recd.dropped = 0 then s1 else flushRecords s1) else s1).recd =
      besideBuffer s1.recd := by
    split_ifs
    · exact overflowRecord_beside _
    · exact overflowRecord_beside _
    · rfl
  have hdump := dump_of_beside hbeside
  refine ⟨eraseWaits_of_beside hbeside, hdump, fun hroom => ?_⟩
  have hfull : full = false := decide_eq_false (Nat.not_lt.mpr hroom)
  refine ⟨(flash_of_beside hbeside).trans ?_, (tail_of_beside hbeside).trans ?_⟩
  · simp [s1, flash, hfull, block, unmoved, unmovedRecs]
  · simp [s1, hfull]

theorem recordMove_room {s : State} (hmp : mpRuns s = true) (hheld : 128 ≤ recUnmoved s) (hroom : s.recd.flash.length + 128 ≤ 65536) :
    recordMove false s = moveBlock s 128 := by
  simp [recordMove, hmp, hheld, Nat.not_lt.mpr hroom]

/-! ### Contexts and dumps (R389, R391) -/

theorem recContextExpiry_owned {s : State} {r : Nat} (h : tabGet false r s.recd.owned = true) :
    tabGet false r (recContextExpiry r s).recd.owned = false := by
  rw [recContextExpiry, if_pos h]
  exact tabGet_tabPut_self ..

theorem waitedErase_dump (s : State) : (waitedErase s).recd.dump = s.recd.dump := by
  unfold waitedErase
  split
  · exact (moveBlock_leaves _ _).2.1
  · rfl

theorem waitedErase_proceeds {s : State} (h : mpRuns s = true) : (waitedErase s).recd.eraseWaits = false := by
  unfold waitedErase
  by_cases hw : s.recd.eraseWaits = true
  · rw [if_pos ⟨hw, h⟩]
    exact (moveBlock_leaves _ _).1
  · rw [if_neg fun hc => hw hc.1]
    exact Bool.not_eq_true _ ▸ hw

/-- The end of a dump shown, its stream given up and its records let go. -/
def dumpEnded (s : State) (failed : Bool) : State :=
  let t := bspDrop (s.wr Od.rec_dump_state (if failed then 3 else 2)) 3
  { t with recd := { t.recd with dump := [] } }

theorem recDumpComplete_running {s : State} (failed : Bool) (h : s.rd Od.rec_dump_state = 1) :
    recDumpComplete failed s = waitedErase (dumpEnded s failed) := if_pos h

theorem recDumpComplete_leaves {s : State} (failed : Bool) (h : s.rd Od.rec_dump_state = 1) :
    (recDumpComplete failed s).rd Od.rec_dump_state = (if failed then 3 else 2) ∧ (recDumpComplete failed s).recd.dump = [] ∧
      (mpRuns s = true → (recDumpComplete failed s).recd.eraseWaits = false) := by
  rw [recDumpComplete_running failed h, (waitedErase_within _).keeps _ _, waitedErase_dump]
  exact ⟨rd_wr_fit _ _ _ _ (by cases failed <;> decide), rfl, fun hmp => waitedErase_proceeds hmp⟩

/-! ### Clears (R392) -/

/-- The clear at the front of its queue done: its record entered, and the tail past what was held. -/
def clearDone (s : State) (seq : Nat) (rest : List (Nat × Nat)) : State :=
  let t := recordEvent { s with recd := { s.recd with clears := rest } } 0x0003 0xFF 0 (pay [(8, seq), (8, recTail s)])
  { t.wr Od.rec_clear_seq s.recd.next with recd := { t.recd with tail := s.recd.next } }

theorem recClearApply_front {s : State} {seq : Nat} {rest : List (Nat × Nat)} (hp : powered s = true)
    (hc : s.recd.clears = (seq, recHead s) :: rest) (hroom : recRoom s = true) :
    recClearApply s = overflowRecord (specialDone (clearDone s seq rest) seq 5) := by
  rw [recClearApply, hc]
  simp only [hp, hroom, and_self, if_true]
  rfl

theorem clearDone_clears (s : State) (seq : Nat) (rest : List (Nat × Nat)) : (clearDone s seq rest).recd.clears = rest :=
  clears_of_beside (recordEvent_beside ..)

theorem recClearApply_leaves {s : State} {seq : Nat} {rest : List (Nat × Nat)} (hp : powered s = true)
    (hc : s.recd.clears = (seq, recHead s) :: rest) (hroom : recRoom s = true) (hnext : s.recd.next < 2 ^ 64) :
    (recClearApply s).recd.clears = rest ∧ (recClearApply s).rd Od.rec_clear_seq = s.recd.next ∧
      (recClearApply s).recd.tail = s.recd.next := by
  have hspecial := specialDone_within (clearDone s seq rest) seq 5
  have hrecd : (specialDone (clearDone s seq rest) seq 5).recd = (clearDone s seq rest).recd := hspecial.parts .recd rfl
  rw [recClearApply_front hp hc hroom, clears_of_beside (overflowRecord_beside _), tail_of_beside (overflowRecord_beside _), hrecd,
    (overflowRecord_within _).keeps _ _, hspecial.keeps _ _]
  exact ⟨clearDone_clears .., rd_wr_fit _ _ _ _ hnext, rfl⟩

/-- Settles O36: each move by what it leaves of the recorder beside its buffer. -/
theorem recorderMoves : Obligations.RecorderMoves := by
  refine ⟨fun s hmp hopen hdrop hfits => ⟨_, next_of_eq (recorderFlush_fits hmp hopen hdrop), ?_⟩,
    fun s hmp hheld hroom => ⟨_, next_of_eq (recordMove_room hmp hheld hroom), ?_⟩,
    fun s r howned => ⟨_, rfl, recContextExpiry_owned howned, fun e => (recContextExpiry_within r s).keeps _ _⟩,
    fun s failed hrun => ⟨_, rfl, ?_⟩, fun s hwaits hrun hmp => ⟨_, next_of_eq (if_pos hwaits), ?_⟩,
    fun s seq rest hp hc hroom hnext => ⟨_, rfl, ?_⟩⟩
  · obtain ⟨hbuf, hregion⟩ := flushRecords_fits hfits
    exact ⟨hbuf, hregion, rfl⟩
  · obtain ⟨-, -, hjoined⟩ := moveBlock_leaves s 128
    obtain ⟨hflash, htail⟩ := hjoined hroom
    have hblock : ((unmovedRecs s).drop ((unmovedRecs s).length - 128)).length = 128 := by
      have hlen : 128 ≤ (unmovedRecs s).length := hheld
      rw [List.length_drop]
      omega
    refine ⟨by rw [hflash, List.length_append, hblock, Nat.add_comm], ?_, htail⟩
    rw [hflash, List.drop_left' hblock]
  · obtain ⟨hstate, hdump, -⟩ := recDumpComplete_leaves failed hrun
    exact ⟨hstate, hdump⟩
  · obtain ⟨hstate, -, herase⟩ := recDumpComplete_leaves true hrun
    exact ⟨hstate, herase hmp⟩
  · have hsettle := settle_within (recClearApply s)
    have hrecd : (settle (recClearApply s)).recd = (recClearApply s).recd := hsettle.parts .recd rfl
    rw [hrecd, hsettle.keeps _ _]
    exact recClearApply_leaves hp hc hroom hnext

end Sys2Proof.Proofs

/-!
## Firmware update: blocks, verification and probation (R398 to R405)
-/
namespace Sys2Proof.Proofs

open Sys2Proof Sys2Proof.Machine Sys2Proof.Safety Sys2Proof.Laws

/-! ### Blocks (R397 to R399) -/

theorem mapHas_mapPut (m : Nat) {b : Nat} (on : Bool) (h : b < 960) : mapHas (mapPut m b on % 2 ^ (8 * 120)) b = on := by
  have hbyte : putBit (byteAt 120 m (b / 8)) (b % 8) on < 2 ^ 8 := putBit_lt _ _ _ _ (by omega) (Nat.mod_lt _ (by decide))
  have hindex : b / 8 < 120 := by omega
  rw [mapHas, byteAt_mod_width 120 _ hindex, mapPut, byteAt_putBytes _ _ _ hbyte, testBit_putBit, if_pos rfl]

theorem setMap_map (s : State) (m : Nat) : (setMap s m).rd Od.upd_map = m % 2 ^ widthOf Od.upd_map :=
  (rd_wr_ne _ _ _ _ _ _ (by decide)).trans (rd_wr_self ..)

/-- The block in programming stands in the Proofing area. -/
def blockHeld (s : State) (b : Nat) (data : List Nat) : State :=
  { s with upd := { s.upd with prog := none, proof := tabPut b data s.upd.proof } }

theorem blockProgrammed_holds {s : State} {b : Nat} {data : List Nat} (hp : powered s = true) (hprog : s.upd.prog = some (b, data)) :
    blockProgrammed s = setMap (blockHeld s b data) (mapPut (s.rd Od.upd_map) b true) := by
  simp only [blockProgrammed, blockHeld, hprog, hp, if_true]

/-- The oldest complete transfer taken. -/
def imageTaken (s : State) (rest : List (List Nat)) : State := { s with lbs := { s.lbs with imgDone := rest } }

theorem bspImageBlock_accepted {s : State} {bytes : List Nat} {rest : List (List Nat)} {tenant hdr : Nat} (hp : powered s = true)
    (hdone : s.lbs.imgDone = bytes :: rest) (hlen : 16 ≤ bytes.length) (hhdr : hdr = ofBytes (bytes.take 16))
    (htenant : bspTenant s = some tenant) (hright : hasRight s tenant rightUPDATE = true) (hgrant : granted s tenant 1 0x1800 = true)
    (hok : blockRefusal s (s.upd.prog.isSome || blockAccepted s) hdr (bytes.drop 16) = .ok) :
    bspImageBlock s = programBlock (imageTaken s rest) (bytesAt 16 hdr 0 2) ((bytes.drop 16).take (bytesAt 16 hdr 2 4)) := by
  have hfull : (bytes.take 16).length = 16 := by rw [List.length_take]; omega
  subst hhdr
  simp [bspImageBlock, imageTaken, hdone, hp, htenant, hright, hgrant, hfull, hok]

/-- A transfer without a tenant is counted as refused (log entry 85). -/
theorem bspImageBlock_refused {s : State} {bytes : List Nat} {rest : List (List Nat)} (hp : powered s = true)
    (hdone : s.lbs.imgDone = bytes :: rest) (htenant : bspTenant s = none) :
    Within (some [Od.rec_dropped]) [.recd] ((imageTaken s rest).count Od.upd_blk_refused) (bspImageBlock s) := by
  simp only [bspImageBlock, imageTaken, hdone, hp, htenant, if_true, Bool.not_false, reduceCtorEq, if_false]
  exact blockEvent_within ..

/-! ### Verification and probation (R401, R405) -/

theorem verifyResult_le (s : State) (bad : Bool) : verifyResult s bad ≤ 7 := by
  unfold verifyResult
  dsimp only
  split_ifs <;> omega

/-- A verification ends: its result, and the state it leaves; the staged image's marks follow a good one. -/
theorem verifyComplete_ends {s : State} {bad : Bool} (hmp : mpRuns s = true) (hst : s.rd Od.upd_state = 2)
    (hdef : s.rdBit Od.sys_mp_deferred 0 = false) :
    Within (some [Od.upd_stage_id, Od.upd_stage_version, Od.upd_stage_build]) []
      ((s.wr Od.upd_result (verifyResult s bad)).wr Od.upd_state (if verifyResult s bad = 1 then 3 else 4)) (verifyComplete bad s) := by
  simp only [verifyComplete, hmp, hst, hdef, Bool.not_false, and_self, if_true]
  split_ifs
  · exact .wr _ _ _ rfl (.wr _ _ _ rfl (.wr _ _ _ rfl (.refl _ _ _)))
  · exact .refl _ _ _

theorem probationExpiry_expires {s : State} (hm : s.mode = .probation) (hleft : s.rd Od.upd_probation_left = 0)
    (hdue : s.sys.resetDue = none) : (probationExpiry s).sys.resetDue = some .wdr := by
  simp [probationExpiry, hm, hleft, hdue]

/-- Settles O37: each step by the block it puts or counts, the result it shows, or the reset it leaves due. -/
theorem updateSteps : Obligations.UpdateSteps := by
  refine ⟨fun s b data hp hprog hb => ⟨_, next_of_eq (blockProgrammed_holds hp hprog), ?_⟩,
    fun s bytes rest tenant hdr hp hdone hlen hhdr htenant hright hgrant hok =>
      ⟨_, next_of_eq (bspImageBlock_accepted hp hdone hlen hhdr htenant hright hgrant hok), rfl, rfl⟩,
    fun s bytes rest hp hdone htenant hfit => ⟨_, rfl, ?_⟩, fun s bad hmp hst hdef => ⟨_, rfl, ?_⟩,
    fun s hm hleft hdue => ⟨_, rfl, probationExpiry_expires hm hleft hdue⟩⟩
  · rw [setMap_map, show widthOf Od.upd_map = 8 * 120 from rfl, mapHas_mapPut _ _ hb]
    exact ⟨rfl, tabGet_tabPut_self .., rfl⟩
  · have h := bspImageBlock_refused hp hdone htenant
    rw [h.parts .lbs rfl, h.parts .upd rfl, h.keeps _ _]
    exact ⟨rfl, rfl, rd_count_self (s := imageTaken s rest) hfit⟩
  · have h := verifyComplete_ends (bad := bad) hmp hst hdef
    have hresult := verifyResult_le s bad
    rw [h.keeps _ _, h.keeps _ _]
    refine ⟨(rd_wr_ne _ _ _ _ _ _ (by decide)).trans (rd_wr_fit _ _ _ _ (show _ < 2 ^ 8 by omega)), rd_wr_fit _ _ _ _ ?_⟩
    show (if verifyResult s bad = 1 then 3 else 4) < 2 ^ 8
    split_ifs <;> decide

end Sys2Proof.Proofs

/-!
## Measurements of the supply and the temperature (R421, R422, R429, R432)
-/
namespace Sys2Proof.Proofs

open Sys2Proof Sys2Proof.Machine Sys2Proof.Safety Sys2Proof.Laws

/-- The measurements of a millisecond shown. -/
def supplyShown (s : State) (vmain vsafe power : Nat) : State :=
  ((s.wr Od.sys_vmain (min vmain 65535)).wr Od.sys_vsafe (min vsafe 65535)).wr Od.sys_power (min power 0xFFFFFFFF)

theorem supplyShown_entries (s : State) (vmain vsafe power : Nat) :
    (supplyShown s vmain vsafe power).rd Od.sys_vmain = min vmain 65535 ∧
      (supplyShown s vmain vsafe power).rd Od.sys_vsafe = min vsafe 65535 ∧
      (supplyShown s vmain vsafe power).rd Od.sys_power = min power 0xFFFFFFFF := by
  have hword : ∀ n, min n 65535 < 2 ^ 16 := fun n => by omega
  unfold supplyShown
  refine ⟨?_, ?_, rd_wr_fit _ _ _ _ (show _ < 2 ^ 32 by omega)⟩
  · rw [rd_wr_ne _ _ _ _ _ _ (by decide), rd_wr_ne _ _ _ _ _ _ (by decide), rd_wr_fit _ _ _ _ (hword _)]
  · rw [rd_wr_ne _ _ _ _ _ _ (by decide), rd_wr_fit _ _ _ _ (hword _)]

theorem vmainMeasure_shows {s : State} (vmain vsafe power : Nat) (hp : powered s = true) :
    vmainMeasure vmain vsafe power s = setEnv (supplyShown s vmain vsafe power) envVMAIN_HIGH (decide (32000 < vmain)) := if_pos hp

/-- VSAFE's value and mark, whichever way the mark goes. -/
theorem setEnv_vsafe (s : State) {mv : Nat} (on : Bool) (h : mv < 2 ^ 16) :
    (setEnv (s.wr Od.sys_vsafe mv) envVSAFE_LOW on).rd Od.sys_vsafe = mv ∧
      (setEnv (s.wr Od.sys_vsafe mv) envVSAFE_LOW on).rdBit Od.sys_env_status 1 = on := by
  rw [(setEnv_within ..).keeps _ _]
  exact ⟨rd_wr_fit _ _ _ _ h, setEnv_bit _ _ (by decide)⟩

/-- An output's first tests due. -/
def testsDue (t : State) (o : Nat) : State := putOut t o { outOf t o with tests := 2 }

theorem outOf_putOut_self (s : State) (o : Nat) (x : OutState) : outOf (putOut s o x) o = x := tabGet_tabPut_self ..

theorem outOf_putOut_ne (s : State) {o p : Nat} (x : OutState) (h : p ≠ o) : outOf (putOut s o x) p = outOf s p :=
  tabGet_tabPut_ne _ _ _ h

theorem foldl_testsDue {s : State} {n o : Nat} (ho : o < n) : (outOf ((List.range n).foldl testsDue s) o).tests = 2 := by
  refine foldl_settles (P := fun _ => True) (Q := fun t => (outOf t o).tests = 2) (fun _ _ _ _ _ => trivial)
    (fun t _ => by rw [testsDue, outOf_putOut_self]) (fun t a ht => ?_) (List.mem_range.mpr ho) trivial
  by_cases h : o = a
  · rw [testsDue, h, outOf_putOut_self]
  · rwa [testsDue, outOf_putOut_ne _ _ h]

theorem vsafeRecovered_tests {s : State} {mv : Nat} (hp : powered s = true) (hlow : vsafeLow s = true) (hmv : 20000 ≤ mv)
    (hfit : mv < 2 ^ 16) :
    vsafeRecovered mv s = (List.range (safOuts s)).foldl testsDue (setEnv (s.wr Od.sys_vsafe mv) envVSAFE_LOW false) := by
  have hmin : min mv 65535 = mv := by omega
  rw [vsafeRecovered, if_pos ⟨hp, hlow, hmv⟩, hmin]
  rfl

theorem foldl_testsDue_within (s : State) (l : List Nat) : Within (some []) [.saf] s (l.foldl testsDue s) :=
  .foldl (fun _ _ => putOut_within ..) l (.refl _ _ _)

theorem tempWord_fits {x : Int} (hlo : -32768 ≤ x) (hhi : x < 32768) : tempWord x = x := by
  unfold tempWord clampInt
  split_ifs <;> omega

/-- The two temperatures shown, and the highest. -/
def tempShown (s : State) (land soc : Int) : State :=
  ((s.wrInt Od.sys_temp_land (tempWord land)).wrInt Od.sys_temp_soc (tempWord soc)).wrInt Od.sys_temp_max
    (max (s.rdInt Od.sys_temp_max) (tempWord soc))

theorem toInt_bounds (n v : Nat) : -(2 ^ n : Nat) ≤ toInt (n + 1) v ∧ toInt (n + 1) v < (2 ^ n : Nat) := by
  have hmod := Nat.mod_lt v (Nat.two_pow_pos (n + 1))
  rw [toInt, Nat.add_sub_cancel]
  rw [show 2 ^ (n + 1) = 2 * 2 ^ n from Nat.pow_succ'] at hmod ⊢
  generalize 2 ^ n = p at *
  split_ifs <;> omega

theorem rdInt_wrInt_ne (s : State) (i : Nat) (x : Int) (e j k : Nat) (h : j ≠ i) : (s.wrInt i x e).rdInt j k = s.rdInt j k := by
  rw [State.rdInt, wrInt_eq, rd_wr_ne _ _ _ _ _ _ h, State.rdInt]

theorem tempShown_entries {s : State} {land soc : Int} (hland : -32768 ≤ land) (hland' : land < 32768) (hsoc : -32768 ≤ soc)
    (hsoc' : soc < 32768) :
    (tempShown s land soc).rdInt Od.sys_temp_land = land ∧ (tempShown s land soc).rdInt Od.sys_temp_soc = soc ∧
      (tempShown s land soc).rdInt Od.sys_temp_max = max (s.rdInt Od.sys_temp_max) soc := by
  have hmax := toInt_bounds 15 (s.rd Od.sys_temp_max)
  have hmax' : toInt (15 + 1) (s.rd Od.sys_temp_max) = s.rdInt Od.sys_temp_max := rfl
  rw [hmax'] at hmax
  rw [tempShown, tempWord_fits hland hland', tempWord_fits hsoc hsoc']
  refine ⟨?_, ?_, rdInt_wr_ofInt (n := 15) _ _ rfl (by omega) (by omega)⟩
  · rw [rdInt_wrInt_ne _ _ _ _ _ _ (by decide), rdInt_wrInt_ne _ _ _ _ _ _ (by decide)]
    exact rdInt_wr_ofInt (n := 15) _ _ rfl (by omega) (by omega)
  · rw [rdInt_wrInt_ne _ _ _ _ _ _ (by decide)]
    exact rdInt_wr_ofInt (n := 15) _ _ rfl (by omega) (by omega)

/-- The mark of a high temperature is the only other thing that a measurement changes. -/
theorem tempMeasure_shows {s : State} (land soc : Int) (hp : powered s = true) :
    Within (some [Od.sys_env_status, Od.rec_dropped]) [.recd] (tempShown s land soc) (tempMeasure land soc s) ∧
      (1050 < soc → (tempMeasure land soc s).rdBit Od.sys_env_status 3 = true) ∧
      (soc ≤ 1000 → (tempMeasure land soc s).rdBit Od.sys_env_status 3 = false) := by
  have hset : ∀ on, (setEnv (tempShown s land soc) envTEMP_HIGH on).rdBit Od.sys_env_status 3 = on := fun on => setEnv_bit _ _ (by decide)
  have hcase : tempMeasure land soc s = if 1050 < soc then setEnv (tempShown s land soc) envTEMP_HIGH true
      else if soc ≤ 1000 then setEnv (tempShown s land soc) envTEMP_HIGH false else tempShown s land soc := if_pos hp
  rw [hcase]
  refine ⟨.ite (setEnv_within ..) (.ite (setEnv_within ..) (.refl _ _ _)), fun h => ?_, fun h => ?_⟩
  · rw [if_pos h, hset]
  · rw [if_neg (by omega), if_pos h, hset]

/-- Settles O38: each measurement by what it shows and the mark that follows it. -/
theorem environmentIsMeasured : Obligations.EnvironmentIsMeasured := by
  refine ⟨fun s vmain vsafe power hp => ⟨_, next_of_eq (vmainMeasure_shows vmain vsafe power hp), ?_⟩,
    fun s mv hp hlow => ⟨_, next_of_eq (if_pos ⟨hp, hlow⟩), setEnv_vsafe s true (by omega)⟩,
    fun s mv hp hlow hmv hfit => ⟨_, next_of_eq (vsafeRecovered_tests hp hlow hmv hfit), ?_⟩,
    fun s land soc hp hland hland' hsoc hsoc' => ⟨_, rfl, ?_⟩⟩
  · obtain ⟨hvmain, hvsafe, hpower⟩ := supplyShown_entries s vmain vsafe power
    rw [(setEnv_within ..).keeps _ _, (setEnv_within ..).keeps _ _, (setEnv_within ..).keeps _ _]
    exact ⟨hvmain, hvsafe, hpower, setEnv_bit _ _ (by decide)⟩
  · have h := foldl_testsDue_within (setEnv (s.wr Od.sys_vsafe mv) envVSAFE_LOW false) (List.range (safOuts s))
    obtain ⟨hvsafe, hbit⟩ := setEnv_vsafe s false hfit
    rw [h.keeps _ _, rdBit_of_within h _ _ _]
    exact ⟨hvsafe, hbit, fun o ho => foldl_testsDue ho⟩
  · obtain ⟨hwithin, hhigh, hlow⟩ := tempMeasure_shows (s := s) land soc hp
    obtain ⟨hl, hs, hm⟩ := tempShown_entries (s := s) hland hland' hsoc hsoc'
    rw [rdInt_of_within hwithin _ _, rdInt_of_within hwithin _ _, rdInt_of_within hwithin _ _]
    exact ⟨hl, hs, hm, hhigh, hlow⟩

end Sys2Proof.Proofs

/-!
## Cyclic programs: cycles, overruns, traps and the check of a staged image (R335 to R341)
-/
namespace Sys2Proof.Proofs

open Sys2Proof Sys2Proof.Machine Sys2Proof.Safety Sys2Proof.Laws

/-! ### Slots -/

theorem slotPrg_putPrg_self (s : State) (p : Nat) (x : PrgSlot) : slotPrg (putPrg s p x) p = x := tabGet_tabPut_self ..

theorem slotPrg_of_within {w : Option (List Nat)} {ps : List Part} {s t : State} (h : Within w ps s t) (p : Nat)
    (hp : ps.contains .prg = false := by rfl) : slotPrg t p = slotPrg s p := by
  rw [slotPrg, h.parts .prg hp, slotPrg]

/-! ### The boundary of a cycle that no exchange waits for (R344) -/

theorem exchangeDue_idle {s : State} {p : Nat} (h : (slotPrg s p).pend = []) : exchangeDue s p = s := by
  rw [exchangeDue, h]

theorem cycleBoundary_idle {s : State} {p : Nat} (hfirst : (slotPrg s p).first = none) (hpend : (slotPrg s p).pend = []) :
    Within (some [Od.prg_state]) [] s (cycleBoundary s p) := by
  have hdue : ∀ st, exchangeDue (setPrg s p st) p = setPrg s p st := fun st => exchangeDue_idle hpend
  simp only [cycleBoundary, hfirst]
  split_ifs
  · rw [hdue]
    exact setPrg_within ..
  · rw [exchangeDue_idle hpend]
    exact .refl _ _ _

/-- A program that its own cycle stops with a fault. -/
def faultStopped (s : State) (p code : Nat) : State := (setPrg s p 4).wr Od.prg_fault code p

theorem faultStopped_within (s : State) (p code : Nat) : Within (some [Od.prg_state, Od.prg_fault]) [] s (faultStopped s p code) :=
  .wr _ _ _ rfl (.wr _ _ _ rfl (.refl _ _ _))

theorem faultStopped_shows (s : State) (p : Nat) {code : Nat} (h : code < 2 ^ 8) :
    prgState (faultStopped s p code) p = 4 ∧ (faultStopped s p code).rd Od.prg_fault p = code :=
  ⟨(rd_wr_ne _ _ _ _ _ _ (by decide)).trans (rd_wr_fit _ _ _ _ (by decide)), rd_wr_fit _ _ _ _ h⟩

/-! ### A cycle's start and end (R335 to R337) -/

theorem programCycleStart_starts {s : State} {p at_ : Nat} (hr : running s = true) (hm : s.mode ≠ .commission) (hp : p < 4)
    (hidle : ∀ q < 4, (slotPrg s q).cyc = none) (hturn : turnAt s at_ = some p) :
    slotPrg (programCycleStart readElem p at_ s) p =
        { slotPrg s p with cyc := some (latchInputs readElem s (slotPrg s p)), started := true, startAt := at_ } ∧
      (programCycleStart readElem p at_ s).prg.turn = p := by
  have hall : (List.range 4).all (fun q => (slotPrg s q).cyc.isNone) = true :=
    List.all_eq_true.mpr fun q hq => by rw [hidle q (List.mem_range.mp hq)]; rfl
  unfold programCycleStart
  extract_lets x us idle s1 s2 s3
  rw [if_pos ⟨hr, hm, hp, hall, hturn⟩]
  exact ⟨slotPrg_putPrg_self .., rfl⟩

/-- A slot whose cycle has ended in time. -/
def cycleDone (s : State) (p : Nat) (d : List Nat) : PrgSlot :=
  { slotPrg s p with
    data := d, cyc := none, overruns := 0
    due := (imgIo (slotPrg s p).image).filterMap (fun y =>
      if y.output then (match ioDef s y with
        | some e => some ⟨y.index, y.elem, ofBytes (slice d y.off e.ty.size)⟩
        | none => none) else none) }

/-- A cycle that ended in time, counted with its time. -/
def cycleCounted (s : State) (p us : Nat) : State := (s.count Od.prg_cycles p).wr Od.prg_cycle_last us p

/-- A cycle that ends in time commits its data and comes to its boundary counted. -/
theorem programCycleEnd_counted {s : State} {p at_ us : Nat} {d : List Nat} (writes : List (Nat × List Nat))
    (hcyc : (slotPrg s p).cyc = some d) (hus : us = sinceStart s p at_) (hmax : us < s.rd Od.prg_max_cycle p) :
    ∃ u, programCycleEnd p at_ writes s = cycleBoundary u p ∧
      slotPrg u p = cycleDone s p (writes.foldl (fun d w => splice d w.1 w.2) d) ∧
      Within (some [Od.prg_cycle_max]) [.prg, .mer] (cycleCounted s p us) u := by
  subst hus
  unfold programCycleEnd
  extract_lets x us
  split
  next h => exact absurd (hcyc.symm.trans h) (by simp)
  next d0 h =>
    obtain rfl : d = d0 := Option.some.inj (hcyc.symm.trans h)
    extract_lets d1 outs x1 s1 s2 s3 s4 prg
    rw [if_neg (Nat.not_le.mpr hmax)]
    refine ⟨_, rfl, ?_, ?_⟩
    · have h3 : Within (some [Od.prg_cycles, Od.prg_cycle_last, Od.prg_cycle_max]) [.mer] (putPrg s p x1) s3 :=
        .ite (.wr _ _ _ rfl (.wr _ _ _ rfl (.count _ _ _ rfl (.mer _ rfl (.refl _ _ _)))))
          (.wr _ _ _ rfl (.count _ _ _ rfl (.mer _ rfl (.refl _ _ _))))
      exact (slotPrg_of_within h3 p).trans (slotPrg_putPrg_self ..)
    · have h2 : Within (some [Od.prg_cycle_max]) [.prg, .mer] (cycleCounted s p us) s2 := .prg _ rfl (.mer _ rfl (.refl _ _ _))
      exact .prg _ rfl (.prg _ rfl (.ite (.wr _ _ _ rfl h2) h2))

/-! ### Overruns and traps (R338, R339) -/

/-- An overrun counted and shown, its cycle discarded. -/
def overrunNoted (s : State) (p : Nat) : State :=
  let s1 := (usedPair (discardCycle s p) (s.rd Od.prg_max_cycle p)).count Od.prg_overruns p
  let s2 := prgEvent (s1.wrBit Od.prg_status prgOVERRUNWARN true p) 1 p 1 1 (s.rd Od.prg_max_cycle p)
  putPrg s2 p { slotPrg s2 p with overruns := (slotPrg s p).overruns + 1 }

theorem slotPrg_discarded (s : State) (p us : Nat) :
    slotPrg (usedPair (discardCycle s p) us) p = { slotPrg s p with cyc := none } := slotPrg_putPrg_self ..

theorem overrunNoted_slot (s : State) (p : Nat) :
    slotPrg (overrunNoted s p) p = { slotPrg s p with cyc := none, overruns := (slotPrg s p).overruns + 1 } := by
  unfold overrunNoted
  extract_lets s1 s2
  have h2 : Within none [.recd] (usedPair (discardCycle s p) (s.rd Od.prg_max_cycle p)) s2 :=
    .after (prgEvent_within ..) rfl rfl (.wrBit _ _ _ _ rfl (.count _ _ _ rfl (.refl _ _ _)))
  have hslot : slotPrg s2 p = { slotPrg s p with cyc := none } := (slotPrg_of_within h2 p).trans (slotPrg_discarded ..)
  exact (slotPrg_putPrg_self ..).trans (congrArg (fun x : PrgSlot => { x with overruns := (slotPrg s p).overruns + 1 }) hslot)

theorem overrunWarn_wrBit (s : State) (p : Nat) (on : Bool) : (s.wrBit Od.prg_status prgOVERRUNWARN on p).rdBit Od.prg_status 5 p = on :=
  (rdBit_wrBit _ _ _ _ _ _ (by decide)).trans (if_pos rfl)

theorem overrunNoted_entries {s : State} {p : Nat} (hfit : s.rd Od.prg_overruns p + 1 < 2 ^ 32) :
    (overrunNoted s p).rd Od.prg_overruns p = s.rd Od.prg_overruns p + 1 ∧ (overrunNoted s p).rdBit Od.prg_status 5 p = true := by
  unfold overrunNoted
  extract_lets s1 s2
  have h : Within (some [Od.rec_dropped]) [.recd, .prg] (s1.wrBit Od.prg_status prgOVERRUNWARN true p)
      (putPrg s2 p { slotPrg s2 p with overruns := (slotPrg s p).overruns + 1 }) :=
    .prg _ rfl (.after (prgEvent_within ..) rfl rfl (.refl _ _ _))
  rw [h.keeps _ _, rdBit_of_within h _ _ _]
  exact ⟨(rd_wr_ne _ _ _ _ _ _ (by decide)).trans (rd_count_self (s := usedPair (discardCycle s p) _) hfit), overrunWarn_wrBit ..⟩

theorem programOverrun_notes {s : State} {p : Nat} (hp : p < 4) (hcyc : (slotPrg s p).cyc.isSome = true) :
    programOverrun p s =
      if s.rd Od.prg_overrun_limit p ≠ 0 ∧ s.rd Od.prg_overrun_limit p ≤ (slotPrg s p).overruns + 1 ∧
          (slotPrg (cycleBoundary (overrunNoted s p) p) p).pend.length = (slotPrg s p).pend.length
      then faultStopped (cycleBoundary (overrunNoted s p) p) p 1 else cycleBoundary (overrunNoted s p) p := if_pos ⟨hp, hcyc⟩

/-- A trap's cycle discarded, and the event recorded. -/
def trapNoted (s : State) (p code pc : Nat) : State := prgEvent (usedPair (discardCycle s p) (sinceStart s p s.now)) 2 p 2 code pc

theorem trapNoted_slot (s : State) (p code pc : Nat) : slotPrg (trapNoted s p code pc) p = { slotPrg s p with cyc := none } :=
  (slotPrg_of_within (prgEvent_within ..) p).trans (slotPrg_discarded ..)

/-- A trap in a slot that no exchange waits for stops the program. -/
theorem programTrap_stops {s : State} {p pc : Nat} {illegal : Bool} (hp : p < 4) (hcyc : (slotPrg s p).cyc.isSome = true)
    (hfirst : (slotPrg s p).first = none) (hpend : (slotPrg s p).pend = []) :
    ∃ u, programTrap p illegal pc s = faultStopped u p (if illegal then 2 else 3) ∧ slotPrg u p = { slotPrg s p with cyc := none } := by
  have hslot := trapNoted_slot s p (if illegal then 2 else 3) pc
  have hsame := (slotPrg_of_within (cycleBoundary_idle (by rw [hslot]; exact hfirst) (by rw [hslot]; exact hpend)) p).trans hslot
  refine ⟨_, ?_, hsame⟩
  unfold programTrap
  rw [if_pos ⟨hp, hcyc⟩]
  exact if_pos (congrArg (fun x : PrgSlot => x.pend.length) hsame)

/-! ### The check of a staged image (R341) -/

theorem imageResult_le (s : State) (p tenant : Nat) (img : List Nat) (len : Nat) : imageResult s p tenant img len ≤ 8 := by
  unfold imageResult
  dsimp only
  split_ifs <;> omega

theorem stageCheckDone_shows {s : State} {p r : Nat} (hp : powered s = true) (hp4 : p < 4) (hst : s.rd Od.prg_stage_state p = 1)
    (hr : r = imageResult s p (tenantOf s (slotPrg s p).checkPort) (stagedBytes s p) (s.rd Od.prg_stage_len p)) :
    (stageCheckDone p s).rd Od.prg_stage_result p = r ∧ (stageCheckDone p s).rd Od.prg_stage_state p = (if r = 1 then 2 else 3) := by
  subst hr
  have hfit := imageResult_le s p (tenantOf s (slotPrg s p).checkPort) (stagedBytes s p) (s.rd Od.prg_stage_len p)
  unfold stageCheckDone
  extract_lets img x r s1
  have hresult : s1.rd Od.prg_stage_result p = r := rd_wr_fit _ _ _ _ (show r < 2 ^ 8 from Nat.lt_of_le_of_lt hfit (by decide))
  rw [if_pos ⟨hp, hp4, hst⟩]
  split_ifs with h1
  · refine ⟨(rd_wr_ne _ _ _ _ _ _ (by decide)).trans ((rd_wr_ne _ _ _ _ _ _ (by decide)).trans hresult), ?_⟩
    exact (rd_wr_ne _ _ _ _ _ _ (by decide)).trans (rd_wr_fit _ _ _ _ (by decide))
  · exact ⟨(rd_wr_ne _ _ _ _ _ _ (by decide)).trans hresult, rd_wr_fit _ _ _ _ (by decide)⟩

/-- Settles O33: each command by the slot it leaves and the entries it shows; at a boundary that no exchange waits for only the
program's state may change, and what follows (`settle`) touches neither slots nor program entries. -/
theorem programCycles : Obligations.ProgramCycles := by
  refine ⟨fun s p at_ hr hm hp hidle hturn => ⟨_, rfl, ?_⟩, fun s p at_ us writes d hcyc hus hmax hus32 hfit hfirst hpend => ⟨_, rfl, ?_⟩,
    fun s p hp hcyc hfirst hpend hfit hst => ⟨_, rfl, ?_⟩, fun s p hp => ⟨_, next_of_eq (if_pos hp), overrunWarn_wrBit ..⟩,
    fun s p pc illegal hp hcyc hfirst hpend hst => ⟨_, rfl, ?_⟩, fun s p r hp hp4 hst hr => ⟨_, rfl, stageCheckDone_shows hp hp4 hst hr⟩⟩
  · obtain ⟨hslot, hturn'⟩ := programCycleStart_starts hr hm hp hidle hturn
    rw [hslot]
    exact ⟨rfl, rfl, rfl, hturn'⟩
  · obtain ⟨u, hu, hslot, hwithin⟩ := programCycleEnd_counted writes hcyc hus hmax
    have hsettle := settle_within (programCycleEnd p at_ writes s)
    have hidle := cycleBoundary_idle (by rw [hslot]; exact hfirst) (by rw [hslot]; exact hpend)
    have hentries : (cycleCounted s p us).rd Od.prg_cycles p = s.rd Od.prg_cycles p + 1 ∧ (cycleCounted s p us).rd Od.prg_cycle_last p = us :=
      ⟨(rd_wr_ne _ _ _ _ _ _ (by decide)).trans (rd_count_self hfit), rd_wr_fit _ _ _ _ hus32⟩
    rw [hsettle.keeps _ _, hsettle.keeps _ _, slotPrg_of_within hsettle, hu, hidle.keeps _ _, hidle.keeps _ _, hwithin.keeps _ _,
      hwithin.keeps _ _, slotPrg_of_within hidle, hslot]
    exact ⟨hentries.1, hentries.2, rfl, rfl⟩
  · have hslot := overrunNoted_slot s p
    have hidle := cycleBoundary_idle (by rw [hslot]; exact hfirst) (by rw [hslot]; exact hpend)
    have hsame := (slotPrg_of_within hidle p).trans hslot
    have hpends : (slotPrg (cycleBoundary (overrunNoted s p) p) p).pend.length = (slotPrg s p).pend.length := by rw [hsame]
    have hstop := faultStopped_within (cycleBoundary (overrunNoted s p) p) p 1
    have hwithin : Within (some [Od.prg_state, Od.prg_fault]) [] (overrunNoted s p) (programOverrun p s) := by
      have hidle' : Within (some [Od.prg_state, Od.prg_fault]) [] (overrunNoted s p) _ := hidle.mono rfl rfl
      rw [programOverrun_notes hp hcyc]
      exact .ite (.after hstop rfl rfl hidle') hidle'
    have hsettle := settle_within (programOverrun p s)
    obtain ⟨hcount, hwarn⟩ := overrunNoted_entries hfit
    rw [hsettle.keeps _ _, slotPrg_of_within hsettle, rdBit_of_within hsettle _ _ _, prgState, hsettle.keeps _ _, hsettle.keeps _ _,
      hwithin.keeps _ _, slotPrg_of_within hwithin, rdBit_of_within hwithin _ _ _, hslot]
    refine ⟨hcount, rfl, rfl, hwarn, fun hlim hle => ?_⟩
    rw [programOverrun_notes hp hcyc, if_pos ⟨hlim, hle, hpends⟩]
    exact faultStopped_shows _ _ (by decide)
  · obtain ⟨u, hu, hslot⟩ := programTrap_stops (pc := pc) (illegal := illegal) hp hcyc hfirst hpend
    have hsettle := settle_within (programTrap p illegal pc s)
    obtain ⟨hstate, hfault⟩ := faultStopped_shows u p (code := if illegal then 2 else 3) (by cases illegal <;> decide)
    rw [prgState, hsettle.keeps _ _, hsettle.keeps _ _, slotPrg_of_within hsettle, hu, slotPrg_of_within (faultStopped_within ..), hslot]
    exact ⟨hstate, hfault, rfl, rfl⟩

end Sys2Proof.Proofs

/-!
## Macaron connections: producers, copies, skew and watchdog (R319 to R322)
-/
namespace Sys2Proof.Proofs

open Sys2Proof Sys2Proof.Machine Sys2Proof.Safety Sys2Proof.Laws

/-- A command of the island that leaves the trip causes at none answers its operation's state. -/
theorem next_untripped {s t : State} {w : Option (List Nat)} {ps : List Part} (h : Within w ps s t) (htrip : s.rd Od.saf_trip_cause = 0)
    (hw : admits w Od.saf_trip_cause = false := by rfl) : (.next (holdIfTripped t) : StepOut) = .next t :=
  next_of_eq (holdIfTripped_of_no_trip ((h.keeps _ _ hw).trans htrip))

theorem connOf_putConn_self (s : State) (c : Nat) (x : MacConn) : connOf (putConn s c x) c = x := tabGet_tabPut_self ..

theorem connOf_of_within {w : Option (List Nat)} {ps : List Part} {s t : State} (h : Within w ps s t) (c : Nat)
    (hp : ps.contains .saf = false := by rfl) : connOf t c = connOf s c := by
  rw [connOf, h.parts .saf hp, connOf]

theorem connOf_wr (s : State) (i v e c : Nat) : connOf (s.wr i v e) c = connOf s c := rfl

theorem connOf_count (s : State) (i e n c : Nat) : connOf (s.count i e n) c = connOf s c := rfl

/-! ### Message numbers (R319) -/

theorem macNext_lt {n : Nat} (h : n < 2 ^ 32) : macNext n < 2 ^ 32 := by
  unfold macNext
  split_ifs <;> omega

/-- A number is not past itself. -/
theorem macPast_self (n : Nat) : macPast (some n) n = false := by
  have hnext : (n == macNext n) = false := by
    rw [beq_eq_false_iff_ne, macNext]
    split_ifs <;> omega
  simp [macPast, hnext]

theorem copyNumber_lt (pdu : List Nat) : ofBytes (slice pdu 4 4) < 2 ^ 32 := by
  have hlen : (slice pdu 4 4).length ≤ 4 := List.length_take_le ..
  exact lt_of_lt_of_le (ofBytes_lt _) (Nat.pow_le_pow_right (by decide) hlen)

/-! ### A producer (R320) -/

/-- A producer's message on both LANs. -/
def producerQueued (s : State) (c : Nat) : State :=
  if prp s then sendUp s 0 7 64 (s.rd Od.saf_mac_peer c) else enqueue (enqueue s 0 7 { len := 64 }) 1 7 { len := 64 }

theorem producerQueued_within (s : State) (c : Nat) : Within (some [Od.net_q_drops]) [.net] s (producerQueued s c) :=
  .ite (sendUp_within ..) (.after (enqueue_within ..) rfl rfl (enqueue_within ..))

/-- The connection shows the number that its producer last sent. -/
def producerShown (s : State) (c n : Nat) : State :=
  ((putConn (producerQueued s c) c { connOf (producerQueued s c) c with last := some n }).wr Od.saf_mac_state 2 c).wr Od.saf_mac_seq n c

theorem macaronProducerSend_sends {s : State} {c n : Nat} (hr : running s = true) (hc : c < 32) (hdir : macDir s c = 1)
    (hup : upUsable s 0 = true) (hlast : (connOf s c).last = some n) :
    macaronProducerSend c s = (producerShown s c (macNext n)).send
      (.macaron c (s.rd Od.saf_mac_peer c) (macNext n) (macPdu (s.rd Od.saf_mac_id c) (macNext n) (macData s c))) := by
  unfold macaronProducerSend
  extract_lets num pdu dst s1 x s2
  rw [if_pos ⟨hr, hc, hdir, .inl hup⟩]
  have hnum : num = macNext n := by simp only [num, hlast]
  simp only [pdu, s2, hnum]
  rfl

theorem producerShown_shows (s : State) (c : Nat) {n : Nat} (h : n < 2 ^ 32) :
    (producerShown s c n).rd Od.saf_mac_seq c = n ∧ (producerShown s c n).rd Od.saf_mac_state c = 2 :=
  ⟨rd_wr_fit _ _ _ _ h, (rd_wr_ne _ _ _ _ _ _ (by decide)).trans (rd_wr_fit _ _ _ _ (by decide))⟩

/-! ### Copies (R321) -/

theorem consumerOf_lt {s : State} {id c : Nat} (h : consumerOf s id = some c) : c < 32 := List.mem_range.mp (List.mem_of_find?_eq_some h)

section Copy

variable {s : State} {c lan src : Nat} {bytes : List Nat} (hr : running s = true) (hlan : lan < 2) (hup : upUsable s lan = true)
  (hc : consumerOf s (ofBytes (slice bytes 2 2)) = some c)

include hr hlan hup hc

theorem macaronCopyRx_invalid (hbad : copyValid s c src (copyPdu s c bytes) = false) :
    macaronCopyRx lan src bytes s = s.count Od.saf_mac_crc_err c := by
  simp [macaronCopyRx, hr, hlan, hup, hc, hbad]

theorem macaronCopyRx_first (hok : copyValid s c src (copyPdu s c bytes) = true) (hheld : (connOf s c).held = [])
    (hlast : (connOf s c).last = none) (hsingles : (connOf s c).singles = []) :
    macaronCopyRx lan src bytes s = macHold s c lan (ofBytes (slice (copyPdu s c bytes) 4 4)) (copyPdu s c bytes) := by
  simp [macaronCopyRx, macFresh, hr, hlan, hup, hc, hok, hheld, hlast, hsingles]

theorem macaronCopyRx_second (hok : copyValid s c src (copyPdu s c bytes) = true)
    (hheld : (connOf s c).held = [(1 - lan, ofBytes (slice (copyPdu s c bytes) 4 4), copyPdu s c bytes)]) :
    macaronCopyRx lan src bytes s = macAccept s c (ofBytes (slice (copyPdu s c bytes) 4 4)) (copyPdu s c bytes) none := by
  have hother : 1 - lan ≠ lan := by omega
  simp [macaronCopyRx, hr, hlan, hup, hc, hok, hheld, hother]

end Copy

/-! ### Acceptance (R321, R322) -/

/-- A message done with leaves no copy of it held. -/
theorem macDone_held {s : State} {c lan num : Nat} {pdu : List Nat} (h : (connOf s c).held = [(lan, num, pdu)]) :
    (connOf (macDone s c num) c).held = [] := by
  unfold macDone
  rw [connOf_putConn_self, h]
  simp [macPast_self]

/-- A message done with, counted and shown. -/
def accepted (s : State) (c num : Nat) : State := ((macDone s c num).count Od.saf_mac_rx c).wr Od.saf_mac_seq num c

theorem accepted_rx {s : State} {c num : Nat} (hfit : s.rd Od.saf_mac_rx c + 1 < 2 ^ 32) :
    (accepted s c num).rd Od.saf_mac_rx c = s.rd Od.saf_mac_rx c + 1 := by
  have hrx : (macDone s c num).rd Od.saf_mac_rx c = s.rd Od.saf_mac_rx c := (macDone_within ..).keeps _ _
  rw [← hrx]
  exact (rd_wr_ne _ _ _ _ _ _ (by decide)).trans (rd_count_self (by rw [hrx]; exact hfit))

theorem accepted_missing (s : State) (c num e : Nat) : (accepted s c num).rd Od.saf_mac_missing e = s.rd Od.saf_mac_missing e :=
  (rd_wr_ne _ _ _ _ _ _ (by decide)).trans ((rd_count_ne _ _ _ _ _ _ (by decide)).trans ((macDone_within ..).keeps _ _))

/-- Both copies: besides the acceptance only the state and the absence counts are written. -/
theorem macAccept_both {s : State} {c num lan : Nat} {pdu : List Nat} (hst : s.rd Od.saf_mac_state c = 2)
    (hheld : (connOf s c).held = [(lan, num, pdu)]) :
    Within (some [Od.saf_mac_state, Od.saf_mac_missing]) [.saf] (accepted s c num) (macAccept s c num pdu none) ∧
      (connOf (macAccept s c num pdu none) c).applied = pduBits pdu ∧ (connOf (macAccept s c num pdu none) c).held = [] := by
  simp only [macAccept, hst, true_or, if_true]
  refine ⟨.after (putConn_within ..) rfl rfl (.wr _ _ _ rfl (.wr _ _ _ rfl (.wr _ _ _ rfl (.refl _ _ _)))), ?_⟩
  rw [connOf_putConn_self]
  exact ⟨rfl, macDone_held hheld⟩

/-- A message accepted whose copy is absent on a LAN. -/
def absenceCounted (s : State) (c num absent : Nat) : State :=
  ((accepted s c num).wr Od.saf_mac_missing 0 (c * 2 + (1 - absent))).count Od.saf_mac_missing (c * 2 + absent)

theorem absenceCounted_missing {s : State} {c num absent : Nat} (h2 : absent < 2) (hmiss : s.rd Od.saf_mac_missing (c * 2 + absent) < 3) :
    (absenceCounted s c num absent).rd Od.saf_mac_missing (c * 2 + absent) = s.rd Od.saf_mac_missing (c * 2 + absent) + 1 := by
  have hother : ((accepted s c num).wr Od.saf_mac_missing 0 (c * 2 + (1 - absent))).rd Od.saf_mac_missing (c * 2 + absent) =
      s.rd Od.saf_mac_missing (c * 2 + absent) := (rd_wr_elem _ _ _ _ _ _ (by omega)).trans (accepted_missing ..)
  rw [← hother]
  exact rd_count_self (show _ < 2 ^ 32 by omega)

/-- One copy: the limit of absences sends the connection to its safe state. -/
theorem macAccept_one {s : State} {c num lan : Nat} {pdu : List Nat} (absent : Nat) (hst : s.rd Od.saf_mac_state c = 2)
    (hheld : (connOf s c).held = [(lan, num, pdu)]) :
    ∃ x : MacConn, x.applied = pduBits pdu ∧ x.held = [] ∧ macAccept s c num pdu (some absent) =
      if 4 ≤ (absenceCounted s c num absent).rd Od.saf_mac_missing (c * 2 + absent)
      then macSafe (putConn (absenceCounted s c num absent) c x) c else putConn (absenceCounted s c num absent) c x := by
  have hnone : (connOf (accepted s c num) c).held = [] := macDone_held hheld
  unfold macAccept
  extract_lets st s1 x place x1 s2
  exact ⟨{ x1 with singles := x1.singles ++ [⟨num, pdu, absent, place⟩], applied := pduBits pdu }, rfl, hnone, by
    simp only [st, hst, if_true]; rfl⟩

theorem macSafe_shows {s : State} {c : Nat} (h : s.rd Od.saf_mac_state c ≠ 4) :
    (macSafe s c).rd Od.saf_mac_state c = 3 ∧ (connOf (macSafe s c) c).applied = 0 := by
  rw [macSafe, if_neg h, connOf_putConn_self]
  exact ⟨((putConn_within ..).keeps _ _).trans (rd_wr_fit _ _ _ _ (by decide)), rfl⟩

/-- Settles O32: each command by the state of its connection after it; no trip is set, so nothing holds the module. -/
theorem macaronConnections : Obligations.MacaronConnections := by
  refine ⟨fun s c n hr hc hdir hup hlast hn htrip => ⟨_, next_untripped (macaronProducerSend_within ..) htrip, ?_⟩,
    fun s c lan src bytes hr hlan hup hc hbad htrip hfit => ⟨_, next_untripped (macaronCopyRx_within ..) htrip, ?_⟩,
    fun s c lan src bytes hr hlan hup hc hok htrip hheld hlast hsingles => ⟨_, next_untripped (macaronCopyRx_within ..) htrip, ?_⟩,
    fun s c lan src bytes hr hlan hup hc hok htrip hheld hst hfit => ⟨_, next_untripped (macaronCopyRx_within ..) htrip, ?_⟩,
    fun s c lan num pdu hr hdir hheld hlan hst hmiss htrip hfit => ⟨_, next_untripped (macaronSkewExpiry_within ..) htrip, ?_⟩,
    fun s c hr hc hdir hst hst4 htrip => ⟨_, next_untripped (macaronWatchdog_within ..) htrip, ?_⟩⟩
  · obtain ⟨hseq, hstate⟩ := producerShown_shows s c (macNext_lt hn)
    rw [macaronProducerSend_sends hr hc hdir hup hlast]
    exact ⟨hseq, hstate, rfl⟩
  · rw [macaronCopyRx_invalid hr hlan hup hc hbad]
    exact ⟨rd_count_self hfit, rfl⟩
  · rw [macaronCopyRx_first hr hlan hup hc hok hheld hlast hsingles, macHold, connOf_putConn_self, hheld]
    exact ⟨rfl, rfl⟩
  · obtain ⟨hwithin, happlied, hnone⟩ := macAccept_both hst hheld
    rw [macaronCopyRx_second hr hlan hup hc hok hheld, hwithin.keeps _ _, hwithin.keeps _ _]
    exact ⟨accepted_rx hfit, rd_wr_fit _ _ _ _ (copyNumber_lt _), happlied, hnone⟩
  · have haccept : macaronSkewExpiry c s = macAccept s c num pdu (some (1 - lan)) := by simp [macaronSkewExpiry, hheld, hr, hdir]
    have hmissing := absenceCounted_missing (num := num) (show 1 - lan < 2 by omega) hmiss
    obtain ⟨x, happlied, hnone, hx⟩ := macAccept_one (1 - lan) hst hheld
    rw [haccept, hx, if_neg (by omega), connOf_putConn_self]
    refine ⟨((putConn_within ..).keeps _ _).trans ?_, hmissing, happlied, hnone⟩
    exact (rd_count_ne _ _ _ _ _ _ (by decide)).trans ((rd_wr_ne _ _ _ _ _ _ (by decide)).trans (accepted_rx hfit))
  · rw [macaronWatchdog, if_pos ⟨hr, hc, hdir, hst⟩]
    exact macSafe_shows hst4

end Sys2Proof.Proofs

/-!
## The safety island: outputs, latches and what holds the module (R314 to R316, R323)
-/
namespace Sys2Proof.Proofs

open Sys2Proof Sys2Proof.Machine Sys2Proof.Safety Sys2Proof.Laws

theorem outOf_of_within {w : Option (List Nat)} {ps : List Part} {s t : State} (h : Within w ps s t) (o : Nat)
    (hp : ps.contains .saf = false := by rfl) : outOf t o = outOf s o := by
  rw [outOf, h.parts .saf hp, outOf]

/-! ### Causes (R323) -/

theorem setTrip_within_wrBit {s : State} {b : Nat} (h : s.rdBit Od.saf_trip_cause b = false) :
    Within (some [Od.saf_trip_gen, Od.rec_dropped]) [.recd, .sys] (s.wrBit Od.saf_trip_cause b true) (setTrip s b) := by
  unfold setTrip
  extract_lets s1 s2
  rw [if_neg (by simp [h])]
  have h2 : Within (some [Od.saf_trip_gen, Od.rec_dropped]) [.recd, .sys] (s.wrBit Od.saf_trip_cause b true) s2 :=
    .after (blockEvent_within ..) rfl rfl (.countMod _ _ rfl (.refl _ _ _))
  exact .ite (.sys _ rfl h2) h2

/-- A cause set is set, and every other is as it was. -/
theorem setTrip_rdBit (s : State) (b : Nat) {k : Nat} (hk : k < 16) :
    (setTrip s b).rdBit Od.saf_trip_cause k = if k = b then true else s.rdBit Od.saf_trip_cause k := by
  cases h : s.rdBit Od.saf_trip_cause b with
  | true =>
    rw [setTrip, if_pos h]
    split_ifs with hb
    · rw [hb, h]
    · rfl
  | false => rw [rdBit_of_within (setTrip_within_wrBit h) _ _ _, rdBit_wrBit _ _ _ _ _ _ hk]

theorem trip_ne_zero {s : State} {k : Nat} (h : s.rdBit Od.saf_trip_cause k = true) : s.rd Od.saf_trip_cause ≠ 0 := by
  intro h0
  rw [State.rdBit, h0, Nat.zero_testBit] at h
  exact Bool.false_ne_true h

/-! ### What only opens outputs -/

/-- From `s` to `t` no output is switched on, the input pairs stay and no cause clears. -/
structure OnlyOpens (s t : State) : Prop where
  pairs : t.saf.pairs = s.saf.pairs
  on : ∀ o, (outOf t o).on = true → (outOf s o).on = true
  trip : ∀ k < 16, s.rdBit Od.saf_trip_cause k = true → t.rdBit Od.saf_trip_cause k = true

namespace OnlyOpens

variable {s t u : State}

theorem refl (s : State) : OnlyOpens s s := ⟨rfl, fun _ h => h, fun _ _ h => h⟩

theorem trans (h : OnlyOpens s t) (h' : OnlyOpens t u) : OnlyOpens s u :=
  ⟨h'.pairs.trans h.pairs, fun o ho => h.on o (h'.on o ho), fun k hk hb => h'.trip k hk (h.trip k hk hb)⟩

theorem ite {p : Prop} [Decidable p] (h : OnlyOpens s t) (h' : OnlyOpens s u) : OnlyOpens s (if p then t else u) := by
  split
  · exact h
  · exact h'

/-- What leaves the island's own state and the causes alone opens nothing and closes nothing. -/
theorem within {w : Option (List Nat)} {ps : List Part} (h : Within w ps s t) (hw : admits w Od.saf_trip_cause = false := by rfl)
    (hp : ps.contains .saf = false := by rfl) : OnlyOpens s t :=
  ⟨congrArg _ (h.parts .saf hp), fun o ho => outOf_of_within h o hp ▸ ho, fun k _ hb => (rdBit_of_within h _ k _ hw).trans hb⟩

theorem putOut {o : Nat} {x : OutState} (hx : x.on = true → (outOf s o).on = true) : OnlyOpens s (putOut s o x) := by
  refine ⟨rfl, fun q hq => ?_, fun _ _ hb => hb⟩
  by_cases h : q = o
  · subst h
    exact hx (by rwa [outOf_putOut_self] at hq)
  · rwa [outOf_putOut_ne _ _ h] at hq

theorem setTrip (s : State) (b : Nat) : OnlyOpens s (setTrip s b) := by
  have h := setTrip_within s b
  refine ⟨congrArg _ (h.parts .saf rfl), fun o ho => outOf_of_within h o ▸ ho, fun k hk hb => ?_⟩
  rw [setTrip_rdBit s b hk, hb, ite_self]

theorem foldl {α : Type} {f : State → α → State} (hf : ∀ t x, OnlyOpens t (f t x)) (l : List α) (s : State) :
    OnlyOpens s (l.foldl f s) := by
  induction l generalizing s with
  | nil => exact refl s
  | cons x l ih => exact (hf s x).trans (ih _)

end OnlyOpens

theorem switchOff_off (s : State) (o : Nat) : (outOf (switchOff s o) o).on = false := by
  unfold switchOff
  extract_lets x
  by_cases h : x.on = true
  · rw [if_pos h, outOf_putOut_self]
  · rw [if_neg h]
    exact Bool.eq_false_iff.mpr h

theorem switchOff_onlyOpens (s : State) (o : Nat) : OnlyOpens s (switchOff s o) := .ite (.putOut (by simp)) (.refl s)

theorem showOut_onlyOpens (s : State) (o : Nat) : OnlyOpens s (showOut s o) := .within (showOut_within ..)

theorem outsOff_onlyOpens (s : State) : OnlyOpens s (outsOff s) :=
  .foldl (fun t o => (switchOff_onlyOpens t o).trans (showOut_onlyOpens _ o)) _ s

theorem off_of_onlyOpens {s t : State} {o : Nat} (h : OnlyOpens s t) (hoff : (outOf s o).on = false) : (outOf t o).on = false :=
  Bool.eq_false_iff.mpr fun hon => Bool.false_ne_true (hoff.symm.trans (h.on o hon))

theorem outsOff_off {s : State} {o : Nat} (ho : o < safOuts s) : (outOf (outsOff s) o).on = false := by
  have hstep : ∀ t q, OnlyOpens t (showOut (switchOff t q) q) := fun t q => (switchOff_onlyOpens t q).trans (showOut_onlyOpens _ q)
  exact foldl_settles (P := fun _ => True) (Q := fun t => (outOf t o).on = false) (fun _ _ _ _ _ => trivial)
    (fun t _ => off_of_onlyOpens (showOut_onlyOpens _ o) (switchOff_off t o)) (fun t q ht => off_of_onlyOpens (hstep t q) ht)
    (List.mem_range.mpr ho) trivial

/-! ### A latch of an output (R316) -/

/-- An output before a code that it does not hold is latched: off, and marked where the code is its stage's. -/
def outMarked (s : State) (o code : Nat) : State :=
  if stageModule code then putOut (switchOff s o) o { outOf (switchOff s o) o with bad := true } else switchOff s o

/-- The code latched, counted and recorded. -/
def outLatched (s : State) (o code : Nat) : State :=
  safEvent (latchSet (((noteCode s o).wr Od.saf_out_fault code o).count Od.saf_out_faults o)) (if edmCode code then 3 else 2) o 2 code

/-- The cause that a module latch sets. -/
def outTripped (s : State) (code : Nat) : State :=
  if stageModule code then setTrip s tripOUTPUT else if edmModule code then setTrip s tripEDM else s

theorem latchOut_eq (s : State) (o code : Nat) :
    latchOut s o code = if (codesOf (outMarked s o code) o).contains code then showOut (outMarked s o code) o
      else showOut (outTripped (outLatched (outMarked s o code) o code) code) o := rfl

theorem outMarked_within (s : State) (o code : Nat) : Within (some []) [.saf] s (outMarked s o code) :=
  .ite (.after (putOut_within ..) rfl rfl (switchOff_within ..)) (switchOff_within ..)

theorem outMarked_onlyOpens (s : State) (o code : Nat) : OnlyOpens s (outMarked s o code) :=
  .ite ((switchOff_onlyOpens s o).trans (.putOut (fun h => h))) (switchOff_onlyOpens s o)

theorem outMarked_off (s : State) (o code : Nat) : (outOf (outMarked s o code) o).on = false := by
  unfold outMarked
  split_ifs
  · rw [outOf_putOut_self]
    exact switchOff_off s o
  · exact switchOff_off s o

theorem outLatched_within (s : State) (o code : Nat) :
    Within (some [Od.saf_out_faults, Od.saf_latch_gen, Od.rec_dropped]) [.mer, .recd] (s.wr Od.saf_out_fault code o) (outLatched s o code) :=
  .after (safEvent_within ..) rfl rfl (.after (latchSet_within ..) rfl rfl (.count _ _ _ rfl (.mer _ rfl (.refl _ _ _))))

theorem outTripped_within (s : State) (code : Nat) :
    Within (some [Od.rec_dropped, Od.saf_trip_cause, Od.saf_trip_gen]) [.recd, .sys] s (outTripped s code) :=
  .ite (setTrip_within ..) (.ite (setTrip_within ..) (.refl _ _ _))

theorem outTripped_onlyOpens (s : State) (code : Nat) : OnlyOpens s (outTripped s code) :=
  .ite (.setTrip ..) (.ite (.setTrip ..) (.refl s))

theorem latchOut_onlyOpens (s : State) (o code : Nat) : OnlyOpens s (latchOut s o code) := by
  have hmark := outMarked_onlyOpens s o code
  have hlatch : OnlyOpens (outMarked s o code) (outLatched (outMarked s o code) o code) :=
    .trans (t := (outMarked s o code).wr Od.saf_out_fault code o) (.within (w := some [Od.saf_out_fault]) (ps := []) (.wr _ _ _ rfl (.refl _ _ _)))
      (.within (outLatched_within ..))
  rw [latchOut_eq]
  exact .ite (hmark.trans (showOut_onlyOpens _ o)) (((hmark.trans hlatch).trans (outTripped_onlyOpens _ code)).trans (showOut_onlyOpens _ o))

/-- An output that is off and holds a code shows 2. -/
theorem showOut_latched {s : State} {o : Nat} (hoff : (outOf s o).on = false) (hcode : s.rd Od.saf_out_fault o ≠ 0) :
    (showOut s o).rd Od.saf_out_state o = 2 := by
  rw [showOut, hoff, if_neg Bool.false_ne_true, if_pos hcode]
  exact rd_wr_fit _ _ _ _ (by decide)

/-- The first code of an output: it shows the code, is off, and shows 2. -/
theorem latchOut_first {s : State} {o code : Nat} (hnone : s.rd Od.saf_out_fault o = 0) (hcode : code ≠ 0) (hfit : code < 2 ^ 8) :
    (latchOut s o code).rd Od.saf_out_fault o = code ∧ (latchOut s o code).rd Od.saf_out_state o = 2 ∧
      (outOf (latchOut s o code) o).on = false ∧
      (stageModule code = true → (latchOut s o code).rdBit Od.saf_trip_cause 1 = true) := by
  have hcodes : codesOf (outMarked s o code) o = [] := if_pos (((outMarked_within ..).keeps _ _).trans hnone)
  have hoff : (outOf (outTripped (outLatched (outMarked s o code) o code) code) o).on = false := by
    rw [outOf_of_within (outTripped_within ..), outOf_of_within (outLatched_within ..)]
    exact outMarked_off s o code
  have hshown : (outTripped (outLatched (outMarked s o code) o code) code).rd Od.saf_out_fault o = code := by
    rw [(outTripped_within ..).keeps _ _, (outLatched_within ..).keeps _ _]
    exact rd_wr_fit _ _ _ _ hfit
  rw [latchOut_eq, hcodes, if_neg (by simp)]
  refine ⟨?_, showOut_latched hoff (hshown.symm ▸ hcode), ?_, fun hstage => ?_⟩
  · rw [(showOut_within ..).keeps _ _, hshown]
  · rw [outOf_of_within (showOut_within ..), hoff]
  · rw [rdBit_of_within (showOut_within ..) _ _ _, outTripped, if_pos hstage, setTrip_rdBit _ _ (by decide)]
    rfl

/-! ### A tripped module (R45, R323) -/

/-- The entries that the switching off of the motion, the loops and the cars in SAFE_HOLD writes. -/
def holdEntries : List Nat :=
  [Od.ctl_man_out, Od.ctl_out, Od.ctl_status, Od.rec_dropped, Od.mot_cmd_pos, Od.mot_cmd_vel, Od.mot_cmd_acc, Od.mot_state, Od.mot_status,
    Od.mot_ref_result, Od.lft_learn_result, Od.lft_door_state]

/-- The entries that the change of mode itself writes. -/
def changeEntries : List Nat :=
  [Od.net_q_drops, Od.net_dot1x_state, Od.fld_pse_state, Od.fld_pse_class, Od.nvs_last_cause, Od.rec_dropped]

/-- SAFE_HOLD is entered: the mode changes, the outputs go off, and the island's own state is left alone by the rest. -/
theorem enterSafeHold_outs {s : State} (cause : Nat) (hr : running s = true) (hm : s.mode ≠ .safeHold) :
    ∃ u, Within (some changeEntries) [.ana, .mode, .net, .nvs, .out, .recd, .sys] s u ∧ u.mode = .safeHold ∧
      Within (some holdEntries) [.ana, .mot, .lft, .recd] (outsOff u) (enterSafeHold s cause) := by
  unfold enterSafeHold
  extract_lets begun s0 s1 sys s2 s3
  rw [if_pos ⟨hr, hm⟩]
  have h0 : Within (some changeEntries) [.ana, .mode, .net, .nvs, .out, .recd, .sys] s s0 :=
    .ite (.after (abandonEntry_within ..) rfl rfl (.refl _ _ _)) (.refl _ _ _)
  have h1 : Within (some changeEntries) [.ana, .mode, .net, .nvs, .out, .recd, .sys] s s1 :=
    .ite (.after (endAdmission_within ..) rfl rfl h0) h0
  have h2 : Within (some changeEntries) [.ana, .mode, .net, .nvs, .out, .recd, .sys] s s2 :=
    .after (enterMode_within ..) rfl rfl (.sys _ rfl h1)
  have hresume : Within (some []) [.ana] s2 s3 := .ite (anaResume_within ..) (.refl _ _ _)
  refine ⟨s3, .after hresume rfl rfl h2, (hresume.parts .mode rfl).trans (enterMode_mode ..), ?_⟩
  exact .after (lftSafeHold_within ..) rfl rfl (.after (motSafeHold_within ..) rfl rfl (.after (ctlSafeHold_within ..) rfl rfl (.refl _ _ _)))

theorem holdIfTripped_outs (s : State) :
    holdIfTripped s = s ∨ ∃ u, Within (some changeEntries) [.ana, .mode, .net, .nvs, .out, .recd, .sys] s u ∧
      Within (some holdEntries) [.ana, .mot, .lft, .recd] (outsOff u) (holdIfTripped s) := by
  unfold holdIfTripped
  split_ifs with htrip
  · exact .inl rfl
  · by_cases h : running s = true ∧ s.mode ≠ .safeHold
    · obtain ⟨u, hu, -, hafter⟩ := enterSafeHold_outs causeTRIP h.1 h.2
      exact .inr ⟨u, hu, hafter⟩
    · exact .inl (if_neg h)

theorem holdIfTripped_onlyOpens (s : State) : OnlyOpens s (holdIfTripped s) := by
  rcases holdIfTripped_outs s with h | ⟨u, hu, hafter⟩
  · rw [h]
    exact .refl s
  · exact ((OnlyOpens.within hu).trans (outsOff_onlyOpens u)).trans (.within hafter)

/-- An output that is off, holds a code and shows 2. -/
def ShownLatched (o : Nat) (s : State) : Prop :=
  (outOf s o).on = false ∧ s.rd Od.saf_out_fault o ≠ 0 ∧ s.rd Od.saf_out_state o = 2

theorem ShownLatched.within {o : Nat} {s t : State} {w : Option (List Nat)} {ps : List Part} (h : ShownLatched o s) (hw : Within w ps s t)
    (hfault : admits w Od.saf_out_fault = false := by rfl) (hstate : admits w Od.saf_out_state = false := by rfl)
    (hp : ps.contains .saf = false := by rfl) : ShownLatched o t := by
  rw [ShownLatched, outOf_of_within hw o hp, hw.keeps _ _ hfault, hw.keeps _ _ hstate]
  exact h

/-- Every output going off leaves such an output as it is. -/
theorem ShownLatched.outsOff {o : Nat} {s : State} (h : ShownLatched o s) : ShownLatched o (outsOff s) := by
  refine List.foldlRecOn _ _ h fun t ht q _ => ?_
  obtain ⟨hoff, hfault, hstate⟩ := ht
  have hopens := (switchOff_onlyOpens t q).trans (showOut_onlyOpens _ q)
  have hfault' : (switchOff t q).rd Od.saf_out_fault o ≠ 0 := by rwa [(switchOff_within ..).keeps _ _]
  refine ⟨off_of_onlyOpens hopens hoff, by rwa [(showOut_within ..).keeps _ _], ?_⟩
  by_cases hq : o = q
  · subst hq
    exact showOut_latched (switchOff_off t o) hfault'
  · rw [showOut, rd_wr_elem _ _ _ _ _ _ hq, (switchOff_within ..).keeps _ _, hstate]

theorem ShownLatched.holdIfTripped {o : Nat} {s : State} (h : ShownLatched o s) : ShownLatched o (holdIfTripped s) := by
  rcases holdIfTripped_outs s with h' | ⟨u, hu, hafter⟩
  · rwa [h']
  · exact ((h.within hu).outsOff).within hafter

/-- A set cause holds a running module. -/
theorem holdIfTripped_mode {s : State} (hr : running s = true) (htrip : s.rd Od.saf_trip_cause ≠ 0) : (holdIfTripped s).mode = .safeHold := by
  rw [holdIfTripped, if_neg htrip]
  by_cases hm : s.mode = .safeHold
  · rw [enterSafeHold, if_neg (by simp [hm]), hm]
  · obtain ⟨u, -, hmode, hafter⟩ := enterSafeHold_outs causeTRIP hr hm
    rw [hafter.parts .mode rfl, (outsOff_within ..).parts .mode rfl, hmode]

end Sys2Proof.Proofs

/-!
## The safety island: input pairs, the cycle and the test pulses (R307 to R311, R315, R323)
-/
namespace Sys2Proof.Proofs

open Sys2Proof Sys2Proof.Machine Sys2Proof.Safety Sys2Proof.Laws

theorem pairOf_putPair_self (s : State) (p : Nat) (x : PairState) : pairOf (putPair s p x) p = x := tabGet_tabPut_self ..

theorem pairOf_putPair_ne (s : State) {p q : Nat} (x : PairState) (h : p ≠ q) : pairOf (putPair s q x) p = pairOf s p :=
  tabGet_tabPut_ne _ _ _ h

theorem pairOf_of_pairs {s t : State} (h : t.saf.pairs = s.saf.pairs) (p : Nat) : pairOf t p = pairOf s p := by
  rw [pairOf, h, pairOf]

theorem pairs_of_within {w : Option (List Nat)} {ps : List Part} {s t : State} (h : Within w ps s t)
    (hp : ps.contains .saf = false := by rfl) : t.saf.pairs = s.saf.pairs := congrArg _ (h.parts .saf hp)

/-! ### The filter (R307) -/

theorem passLevel_fst (us off : Nat) (level raw : Bool) :
    (passLevel us level off raw).1 = if raw = level then level else if us ≤ 250 * off then raw else level := by
  unfold passLevel
  split_ifs <;> rfl

/-- Every pair with the levels that its filter passes in this cycle. -/
def pairsFiltered (i : IslandIn) (s : State) : State :=
  (List.range (safPairs s)).foldl (fun t p => putPair t p (filtered i t p)) (s.wr Od.saf_state (1 + 2 * b2n i.coreA + 4 * b2n i.coreB))

theorem filtered_congr {i : IslandIn} {s t : State} {p : Nat} (hpair : pairOf t p = pairOf s p)
    (hfilter : t.rd Od.saf_in_filter p = s.rd Od.saf_in_filter p) : filtered i t p = filtered i s p := by
  rw [filtered, hpair, hfilter, filtered]

theorem pairsFiltered_within (i : IslandIn) (s : State) : Within (some [Od.saf_state]) [.saf] s (pairsFiltered i s) :=
  .foldl (fun _ _ => (putPair_within ..).mono rfl rfl) _ (.wr _ _ _ rfl (.refl _ _ _))

/-- `foldl_settles` for an operation done once at each port, which the port's second turn need not keep. -/
theorem foldl_settles_once {f : State → Nat → State} {P Q : State → Prop} {p : Nat} {l : List Nat} {s : State} (hl : l.Nodup)
    (hP : ∀ a ≠ p, ∀ t, P t → P (f t a)) (hself : ∀ t, P t → Q (f t p)) (hQ : ∀ a ≠ p, ∀ t, Q t → Q (f t a)) (hp : p ∈ l)
    (hs : P s) : Q (l.foldl f s) := by
  induction l generalizing s with
  | nil => cases hp
  | cons a l ih =>
    obtain ⟨hal, hl'⟩ := List.nodup_cons.mp hl
    by_cases ha : a = p
    · exact List.foldlRecOn l f (ha ▸ hself s hs) fun t ht b hb => hQ b (fun h => hal (ha.trans h.symm ▸ hb)) t ht
    · exact ih hl' (List.mem_of_ne_of_mem (Ne.symm ha) hp) (hP a ha s hs)

theorem pairOf_pairsFiltered {i : IslandIn} {s : State} {p : Nat} (hp : p < safPairs s) : pairOf (pairsFiltered i s) p = filtered i s p := by
  refine foldl_settles_once (P := fun t => pairOf t p = pairOf s p ∧ t.rd Od.saf_in_filter p = s.rd Od.saf_in_filter p)
    (Q := fun t => pairOf t p = filtered i s p) List.nodup_range (fun q hq t ht => ?_) (fun t ht => ?_) (fun q hq t ht => ?_)
    (List.mem_range.mpr hp) ⟨rfl, rd_wr_ne _ _ _ _ _ _ (by decide)⟩
  · exact ⟨(pairOf_putPair_ne _ _ hq.symm).trans ht.1, ht.2⟩
  · rw [pairOf_putPair_self, filtered_congr ht.1 ht.2]
  · rwa [pairOf_putPair_ne _ _ hq.symm]

/-! ### One pair in one cycle (R308 to R311) -/

/-- From `s` to `t` pair `q` alone is judged: the other pairs and their elements stay, and so do its own filtered levels. -/
structure JudgesPair (q : Nat) (s t : State) : Prop where
  entries : ∀ i e, e ≠ q → i ≠ Od.rec_dropped → i ≠ Od.saf_latch_gen → t.rd i e = s.rd i e
  pairs : ∀ p, p ≠ q → pairOf t p = pairOf s p
  levels : (pairOf t q).a = (pairOf s q).a ∧ (pairOf t q).b = (pairOf s q).b

namespace JudgesPair

variable {q : Nat} {s t u : State}

theorem refl (q : Nat) (s : State) : JudgesPair q s s := ⟨fun _ _ _ _ _ => rfl, fun _ _ => rfl, rfl, rfl⟩

theorem trans (h : JudgesPair q s t) (h' : JudgesPair q t u) : JudgesPair q s u :=
  ⟨fun i e he hi hg => (h'.entries i e he hi hg).trans (h.entries i e he hi hg), fun p hp => (h'.pairs p hp).trans (h.pairs p hp),
    h'.levels.1.trans h.levels.1, h'.levels.2.trans h.levels.2⟩

theorem ite {p : Prop} [Decidable p] (h : JudgesPair q s t) (h' : JudgesPair q s u) : JudgesPair q s (if p then t else u) := by
  split
  · exact h
  · exact h'

theorem wr (h : JudgesPair q s t) (i v : Nat) : JudgesPair q s (t.wr i v q) :=
  h.trans ⟨fun _ _ he _ _ => rd_wr_elem _ _ _ _ _ _ he, fun _ _ => rfl, rfl, rfl⟩

theorem putPair (h : JudgesPair q s t) {x : PairState} (ha : x.a = (pairOf t q).a) (hb : x.b = (pairOf t q).b) :
    JudgesPair q s (putPair t q x) :=
  h.trans ⟨fun _ _ _ _ _ => rfl, fun _ hp => pairOf_putPair_ne _ _ hp, by rw [pairOf_putPair_self, ha], by rw [pairOf_putPair_self, hb]⟩

/-- An operation that writes no entry but the latch generation and the count of dropped records. -/
theorem within {w : Option (List Nat)} {ps : List Part} (h : JudgesPair q s t) (hw : Within w ps t u)
    (hsub : subEntries w (some [Od.rec_dropped, Od.saf_latch_gen]) = true := by rfl) (hp : ps.contains .saf = false := by rfl) :
    JudgesPair q s u := by
  have hpair := pairOf_of_pairs (pairs_of_within hw hp)
  refine h.trans ⟨fun i e _ hi hg => hw.keeps i e (admits_sub hsub (by simpa [admits] using ⟨hi, hg⟩)), fun p _ => hpair p, ?_, ?_⟩
  · rw [hpair]
  · rw [hpair]

end JudgesPair

theorem latchPair_judges (s : State) (p code : Nat) : JudgesPair p s (latchPair s p code) := by
  unfold latchPair
  extract_lets bit s1 s2
  have h1 : JudgesPair p s s1 := (((JudgesPair.refl p s).wr _ _).wr _ _).wr _ _
  have hevent : Within (some [Od.rec_dropped, Od.saf_latch_gen]) [.recd] s1 s2 :=
    .after (safEvent_within ..) rfl rfl (.countMod _ _ rfl (.refl _ _ _))
  have h2 : JudgesPair p s s2 := h1.within hevent
  exact .ite (.refl p s) ((h2.wr _ _).putPair rfl rfl)

theorem pairResult_judges (s : State) (p : Nat) (x : PairState) (v : PairView) (level a b : Bool) (ha : x.a = (pairOf s p).a)
    (hb : x.b = (pairOf s p).b) : JudgesPair p s (pairResult s p x v level a b) :=
  (((JudgesPair.refl p s).wr _ _).wr _ _).putPair ha hb

theorem evalPair_judges (i : IslandIn) (s : State) (p : Nat) : JudgesPair p s (evalPair i s p) := by
  unfold evalPair
  extract_lets kind dark a b latched x hands pulses speeds r v up base x1 s1 s2
  have hr : r.1.a = x.a ∧ r.1.b = x.b := by
    simp only [r, apply_ite Prod.fst]
    split_ifs <;> exact ⟨rfl, rfl⟩
  have h1 : JudgesPair p s s1 := ((JudgesPair.refl p s).wr _ _).putPair hr.1 hr.2
  have h2 : JudgesPair p s s2 := .ite (h1.trans (latchPair_judges ..)) h1
  exact .ite ((((JudgesPair.refl p s).wr _ _).wr _ _).wr _ _) (h2.trans (pairResult_judges _ _ _ _ _ _ _ rfl rfl))

/-- A view that is not good gives 0. -/
theorem pairResult_not_ok (s : State) (p : Nat) (x : PairState) {v : PairView} (level a b : Bool) (h : v.ok = false) :
    (pairResult s p x v level a b).rd Od.saf_in_result p = 0 := by
  unfold pairResult
  extract_lets kind latch phase reset free may res wait st
  have hres : res = false := by simp [res, may, h]
  rw [(putPair_within ..).keeps _ _, rd_wr_ne _ _ _ _ _ _ (by decide), hres]
  exact rd_wr_fit _ _ _ _ (by decide)

/-- A good view gives 1 where no latch and no restart hold it back. -/
theorem pairResult_ok {s : State} {p : Nat} (x : PairState) {v : PairView} (level a b : Bool) (h : v.ok = true)
    (hkind : s.rd Od.saf_in_kind p ≠ 6) (hlatch : s.rd Od.saf_in_latch p = 0) (hrestart : s.rd Od.saf_in_restart p = 0) :
    (pairResult s p x v level a b).rd Od.saf_in_result p = 1 := by
  unfold pairResult
  extract_lets kind latch phase reset free may res wait st
  have hres : res = true := by simp [res, may, free, kind, latch, h, hkind, hlatch, hrestart]
  rw [(putPair_within ..).keeps _ _, rd_wr_ne _ _ _ _ _ _ (by decide), hres]
  exact rd_wr_fit _ _ _ _ (by decide)

theorem evalPair_demand {i : IslandIn} {s : State} {p : Nat} (hkind : s.rd Od.saf_in_kind p = 1)
    (hopen : ((pairOf s p).a && (pairOf s p).b) = false) : (evalPair i s p).rd Od.saf_in_result p = 0 := by
  unfold evalPair
  extract_lets kind dark a b latched x hands pulses speeds r v up base x1 s1 s2
  have hk : kind = 1 := hkind
  have hv : v.ok = false := by
    cases hd : dark p with
    | true => simp [v, hd]
    | false => simpa [v, r, hk, hd, levelView, a, b] using hopen
  rw [if_neg (by omega)]
  exact pairResult_not_ok _ _ _ _ _ _ hv

theorem evalPair_closed {i : IslandIn} {s : State} {p : Nat} (hkind : s.rd Od.saf_in_kind p = 1) (ha : (pairOf s p).a = true)
    (hb : (pairOf s p).b = true) (hsafe : vsafeLow s = false) (hlatch : s.rd Od.saf_in_latch p = 0)
    (hrestart : s.rd Od.saf_in_restart p = 0) : (evalPair i s p).rd Od.saf_in_result p = 1 := by
  unfold evalPair
  extract_lets kind dark a b latched x hands pulses speeds r v up base x1 s1 s2
  have hk : kind = 1 := hkind
  have hd : dark p = false := by simp [dark, hsafe]
  have hv : v = ⟨true, false, false, false, false⟩ := by simp [v, r, hk, hd, levelView, a, b, ha, hb]
  have h2 : s2 = s1 := if_neg (by simp [x1, up, hv])
  have hkept : ∀ j, j ≠ Od.saf_speed → s2.rd j p = s.rd j p := fun j hj => by
    rw [h2, (putPair_within ..).keeps _ _, rd_wr_ne _ _ _ _ _ _ hj]
  rw [if_neg (by omega)]
  exact pairResult_ok _ _ _ _ (by rw [hv]) (by rw [hkept _ (by decide), hkind]; decide) ((hkept _ (by decide)).trans hlatch)
    ((hkept _ (by decide)).trans hrestart)

/-! ### Every pair in one cycle -/

/-- Every pair judged. -/
def pairsJudged (i : IslandIn) (s : State) : State := (List.range (safPairs s)).foldl (evalPair i) (pairsFiltered i s)

theorem judged_levels {i : IslandIn} (l : List Nat) (s : State) (p : Nat) :
    (pairOf (l.foldl (evalPair i) s) p).a = (pairOf s p).a ∧ (pairOf (l.foldl (evalPair i) s) p).b = (pairOf s p).b := by
  refine List.foldlRecOn (motive := fun t => (pairOf t p).a = (pairOf s p).a ∧ (pairOf t p).b = (pairOf s p).b) l _ ⟨rfl, rfl⟩
    fun t ht q _ => ?_
  have h := evalPair_judges i t q
  by_cases hq : p = q
  · subst hq
    exact ⟨h.levels.1.trans ht.1, h.levels.2.trans ht.2⟩
  · rw [h.pairs p hq]
    exact ht

theorem judged_result {i : IslandIn} {s : State} {p r : Nat} (hp : p < safPairs s) {P : State → Prop} (hs : P (pairsFiltered i s))
    (hothers : ∀ q ≠ p, ∀ t, P t → P (evalPair i t q)) (hself : ∀ t, P t → (evalPair i t p).rd Od.saf_in_result p = r) :
    (pairsJudged i s).rd Od.saf_in_result p = r :=
  foldl_settles_once (Q := fun t => t.rd Od.saf_in_result p = r) List.nodup_range hothers hself
    (fun q hq t ht => ((evalPair_judges i t q).entries _ _ hq.symm (by decide) (by decide)).trans ht) (List.mem_range.mpr hp) hs

theorem judged_demand {i : IslandIn} {s : State} {p : Nat} (hp : p < safPairs s) (hkind : s.rd Od.saf_in_kind p = 1)
    (hopen : ((filtered i s p).a && (filtered i s p).b) = false) : (pairsJudged i s).rd Od.saf_in_result p = 0 := by
  refine judged_result hp (P := fun t => t.rd Od.saf_in_kind p = 1 ∧ ((pairOf t p).a && (pairOf t p).b) = false)
    ⟨((pairsFiltered_within i s).keeps _ _).trans hkind, by rw [pairOf_pairsFiltered hp]; exact hopen⟩ (fun q hq t ht => ?_)
    (fun t ht => evalPair_demand ht.1 ht.2)
  have h := evalPair_judges i t q
  rw [h.pairs p hq.symm, h.entries _ _ hq.symm (by decide) (by decide)]
  exact ht

/-- What a pair of kind 1 with both channels closed needs to give 1. -/
structure PairClosed (p : Nat) (s : State) : Prop where
  kind : s.rd Od.saf_in_kind p = 1
  a : (pairOf s p).a = true
  b : (pairOf s p).b = true
  supply : vsafeLow s = false
  latch : s.rd Od.saf_in_latch p = 0
  restart : s.rd Od.saf_in_restart p = 0

theorem judged_closed {i : IslandIn} {s : State} {p : Nat} (hp : p < safPairs s) (h : PairClosed p (pairsFiltered i s)) :
    (pairsJudged i s).rd Od.saf_in_result p = 1 := by
  refine judged_result hp (P := PairClosed p) h (fun q hq t ht => ?_) (fun t ht => ?_)
  · have hj := evalPair_judges i t q
    have hkeep : ∀ j, j ≠ Od.rec_dropped → j ≠ Od.saf_latch_gen → (evalPair i t q).rd j p = t.rd j p := fun j => hj.entries j p hq.symm
    refine ⟨(hkeep _ (by decide) (by decide)).trans ht.kind, by rw [hj.pairs p hq.symm, ht.a], by rw [hj.pairs p hq.symm, ht.b], ?_,
      (hkeep _ (by decide) (by decide)).trans ht.latch, (hkeep _ (by decide) (by decide)).trans ht.restart⟩
    exact (rdBit_of_within (evalPair_within i t q) _ _ _).trans ht.supply
  · exact evalPair_closed ht.kind ht.a ht.b ht.supply ht.latch ht.restart

end Sys2Proof.Proofs

/-!
## The safety island's cycle as a whole, its test pulses and overloads
-/
namespace Sys2Proof.Proofs

open Sys2Proof Sys2Proof.Machine Sys2Proof.Safety Sys2Proof.Laws

/-! ### The cycle after the pairs (R294, R314, R323) -/

/-- The cars' permits and the causes that follow a present condition. -/
def causesTaken (i : IslandIn) (s : State) : State :=
  let s1 := pairsJudged i s
  liveCauses (if s.variant = .x then evalCar (evalCar s1 0) 1 else s1)

/-- The state in which the outputs are judged. -/
def edmShown (i : IslandIn) (s : State) : State :=
  (List.range (safOuts s)).foldl (fun t e => t.wr Od.saf_edm_level (b2n (i.edm.testBit e)) e)
    (if i.coreA ∧ i.coreB ∧ i.clockOk then causesTaken i s else islandFault (causesTaken i s))

theorem islandCycle_powered {i : IslandIn} {s : State} (hp : powered s = true) :
    islandCycle i s = (List.range (safOuts s)).foldl (evalOut i) (edmShown i s) := if_pos hp

theorem evalCar_pairs (s : State) (k : Nat) : (evalCar s k).saf.pairs = s.saf.pairs := by
  unfold evalCar
  extract_lets c lock dz p slow hasBrake hit mer t s1 ucm
  have h1 : Within none [.mer, .recd, .sys] s s1 :=
    .ite (.after (setTrip_within ..) rfl rfl (.after (safEvent_within ..) rfl rfl (.after (latchSet_within ..) rfl rfl (.mer _ rfl (.refl _ _ _)))))
      (.refl _ _ _)
  have hpairs : s1.saf.pairs = s.saf.pairs := pairs_of_within h1
  exact hpairs

theorem islandFault_onlyOpens (s : State) : OnlyOpens s (islandFault s) :=
  (OnlyOpens.within (raiseFault_within ..)).trans ((OnlyOpens.setTrip _ tripCORE).trans (outsOff_onlyOpens _))

theorem causesTaken_pairs (i : IslandIn) (s : State) : (causesTaken i s).saf.pairs = (pairsJudged i s).saf.pairs := by
  unfold causesTaken
  extract_lets s1
  rw [pairs_of_within (liveCauses_within _)]
  split_ifs
  · rw [evalCar_pairs, evalCar_pairs]
  · rfl

theorem edmShown_pairs (i : IslandIn) (s : State) : (edmShown i s).saf.pairs = (pairsJudged i s).saf.pairs := by
  have hedm : ∀ (l : List Nat) (t : State), Within (some [Od.saf_edm_level]) [] t
      (l.foldl (fun t e => t.wr Od.saf_edm_level (b2n (i.edm.testBit e)) e) t) := fun l t =>
    .foldl (fun _ _ => .wr _ _ _ rfl (.refl _ _ _)) l (.refl _ _ _)
  rw [edmShown, pairs_of_within (hedm ..)]
  split_ifs
  · exact causesTaken_pairs i s
  · rw [(islandFault_onlyOpens _).pairs, causesTaken_pairs]

/-- An output's turn opens it or leaves it, except that a permitted one may be switched on. -/
theorem evalOut_onlyOpens (i : IslandIn) (s : State) (o : Nat) :
    OnlyOpens s (evalOut i s o) ∨ outPermitted s o = true ∧ (evalOut i s o).saf.pairs = s.saf.pairs := by
  unfold evalOut
  extract_lets x ins allHigh allLow lim perm s1
  have hlatch : ∀ {t : State} code, OnlyOpens s t → OnlyOpens s (latchOut t o code) := fun code h => h.trans (latchOut_onlyOpens ..)
  have hput : ∀ {t : State} {y : OutState}, OnlyOpens s t → (y.on = true → (outOf t o).on = true) → OnlyOpens s (putOut t o y) :=
    fun h hy => h.trans (.putOut hy)
  have h1 : OnlyOpens s s1 := .ite (hput (.refl s) fun h => h) (.refl s)
  by_cases hon : x.on = true
  · rw [if_pos hon]
    exact .inl (.ite ((switchOff_onlyOpens s o).trans (showOut_onlyOpens _ o)) (.ite (hput (.refl s) fun h => h)
      (.ite (hlatch _ (.refl s)) (.ite (hlatch _ (.refl s)) (hput (.refl s) fun h => h)))))
  rw [if_neg hon]
  by_cases hso : i.soHigh.testBit o = true ∧ (!vsafeLow s) = true
  · rw [if_pos hso]
    exact .inl (hlatch _ (.refl s))
  rw [if_neg hso]
  by_cases hstage : x.stage = 1
  · rw [if_pos hstage]
    exact .inl (.ite (hput h1 fun h => h) (.ite (hlatch _ (hput h1 fun h => h)) (hput h1 fun h => h)))
  rw [if_neg hstage]
  by_cases hperm : perm = true ∧ x.tests = 0
  · rw [if_pos hperm]
    by_cases hedm : allHigh = true
    · rw [if_pos hedm]
      exact .inr ⟨hperm.1, ((showOut_onlyOpens ..).pairs).trans h1.pairs⟩
    · rw [if_neg hedm]
      exact .inl (hlatch _ h1)
  · rw [if_neg hperm]
    exact .inl h1

theorem evalOut_pairs (i : IslandIn) (s : State) (o : Nat) : (evalOut i s o).saf.pairs = s.saf.pairs := by
  rcases evalOut_onlyOpens i s o with h | ⟨-, h⟩
  · exact h.pairs
  · exact h

theorem islandCycle_pairs {i : IslandIn} {s : State} (hp : powered s = true) : (islandCycle i s).saf.pairs = (pairsJudged i s).saf.pairs := by
  rw [islandCycle_powered hp, ← edmShown_pairs]
  exact List.foldlRecOn (motive := fun t => t.saf.pairs = (edmShown i s).saf.pairs) _ _ rfl fun t ht o _ => (evalOut_pairs i t o).trans ht

/-- The levels of a pair after the cycle, held or not. -/
theorem islandCycle_levels {i : IslandIn} {s : State} {p : Nat} (hp : powered s = true) (hpair : p < safPairs s) :
    (pairOf (holdIfTripped (islandCycle i s)) p).a = (filtered i s p).a ∧
      (pairOf (holdIfTripped (islandCycle i s)) p).b = (filtered i s p).b := by
  have hjudged := judged_levels (i := i) (List.range (safPairs s)) (pairsFiltered i s) p
  rw [pairOf_of_pairs ((holdIfTripped_onlyOpens _).pairs.trans (islandCycle_pairs hp)), ← pairOf_pairsFiltered hpair]
  exact hjudged

/-! ### What the cycle shows -/

/-- The entries of the island that the cycle writes after the pairs. -/
def cycleEntries : List Nat :=
  [Od.sys_health, Od.sys_fault_count, Od.rec_dropped, Od.saf_trip_cause, Od.saf_trip_gen, Od.saf_latch_gen, Od.saf_out_state,
    Od.saf_out_fault, Od.saf_out_faults, Od.saf_edm_level]

theorem pairsJudged_within (i : IslandIn) (s : State) :
    Within (some [Od.rec_dropped, Od.saf_state, Od.saf_latch_gen, Od.saf_in_result, Od.saf_in_status, Od.saf_speed, Od.saf_in_faults,
      Od.saf_in_latch]) [.recd, .saf] s (pairsJudged i s) :=
  .foldl (fun _ _ => (evalPair_within ..).mono rfl rfl) _ ((pairsFiltered_within i s).mono rfl rfl)

theorem causesTaken_within (i : IslandIn) (s : State) :
    Within (some cycleEntries) [.mer, .recd, .saf, .sys] (pairsJudged i s) (causesTaken i s) := by
  unfold causesTaken
  extract_lets s1
  exact .after (liveCauses_within ..) rfl rfl (.ite (.after (evalCar_within ..) rfl rfl (.after (evalCar_within ..) rfl rfl (.refl _ _ _))) (.refl _ _ _))

theorem edmShown_within (i : IslandIn) (s : State) :
    Within (some cycleEntries) [.mer, .mode, .net, .recd, .saf, .sys] (pairsJudged i s) (edmShown i s) :=
  .foldl (fun _ _ => .wr _ _ _ rfl (.refl _ _ _)) _ (.ite ((causesTaken_within i s).mono rfl rfl)
    (.after (islandFault_within ..) rfl rfl ((causesTaken_within i s).mono rfl rfl)))

theorem evalOuts_within (i : IslandIn) (s : State) (l : List Nat) :
    Within (some [Od.rec_dropped, Od.saf_trip_cause, Od.saf_trip_gen, Od.saf_latch_gen, Od.saf_out_state, Od.saf_out_fault, Od.saf_out_faults])
      [.mer, .recd, .saf, .sys] s (l.foldl (evalOut i) s) :=
  .foldl (fun _ _ => evalOut_within ..) l (.refl _ _ _)

/-- A pair's result after the cycle is the one that its turn gave. -/
theorem islandCycle_result {i : IslandIn} {s : State} (p : Nat) (hp : powered s = true) :
    (holdIfTripped (islandCycle i s)).rd Od.saf_in_result p = (pairsJudged i s).rd Od.saf_in_result p := by
  rw [(holdIfTripped_within _).keeps _ _, islandCycle_powered hp, (evalOuts_within ..).keeps _ _, (edmShown_within i s).keeps _ _]

/-! ### A core or the clock fails (R25, R323) -/

theorem raiseFault_running {s : State} (bit detail : Nat) (h : running s = true) : running (raiseFault s bit detail) = true := by
  unfold raiseFault
  extract_lets s1 s2 s3
  split_ifs
  · exact h
  · have h3 : s3.mode = .runDegraded := enterMode_mode ..
    simp [running, powered, h3]
  · have h2 : s2.mode = s.mode := recordEvent_mode ..
    simpa [running, powered, h2] using h

theorem running_of_within {w : Option (List Nat)} {ps : List Part} {s t : State} (h : Within w ps s t) (hr : running s = true)
    (hp : ps.contains .mode = false := by rfl) : running t = true := by
  have hmode : t.mode = s.mode := h.parts .mode hp
  rw [running, powered, hmode]
  exact hr

theorem islandFault_shows (s : State) :
    (islandFault s).rdBit Od.saf_trip_cause 0 = true ∧ (islandFault s).rdBit Od.sys_health 14 = true ∧
      (∀ o < safOuts s, (outOf (islandFault s) o).on = false) ∧ (running s = true → running (islandFault s) = true) := by
  have htrip : Within (some [Od.rec_dropped, Od.saf_trip_cause, Od.saf_trip_gen]) [.recd, .sys] (raiseFault s bitSafetyCore) _ :=
    setTrip_within _ tripCORE
  have hvariant : (setTrip (raiseFault s bitSafetyCore) tripCORE).variant = s.variant := htrip.variant.trans (raiseFault_within ..).variant
  have houts : safOuts (setTrip (raiseFault s bitSafetyCore) tripCORE) = safOuts s := by rw [safOuts, State.perVariant, hvariant]; rfl
  refine ⟨?_, ?_, fun o ho => outsOff_off (houts ▸ ho), fun hr => ?_⟩
  · rw [islandFault, rdBit_of_within (outsOff_within _) _ _ _, setTrip_rdBit _ _ (by decide)]
    rfl
  · rw [islandFault, rdBit_of_within (outsOff_within _) _ _ _, rdBit_of_within htrip _ _ _]
    exact raiseFault_bit _ _ _ (by decide)
  · exact running_of_within (outsOff_within _) (running_of_within htrip (raiseFault_running _ _ hr))

/-- With a cause set no turn switches an output on. -/
theorem evalOut_tripped {i : IslandIn} {s : State} (o : Nat) {k : Nat} (h : s.rdBit Od.saf_trip_cause k = true) : OnlyOpens s (evalOut i s o) := by
  rcases evalOut_onlyOpens i s o with hopen | ⟨hperm, -⟩
  · exact hopen
  · exact absurd hperm (by simp [outPermitted, trip_ne_zero h])

theorem evalOuts_tripped {i : IslandIn} {s : State} (l : List Nat) (h : s.rdBit Od.saf_trip_cause 0 = true) :
    OnlyOpens s (l.foldl (evalOut i) s) :=
  List.foldlRecOn l _ (.refl s) fun t ht o _ => ht.trans (evalOut_tripped o (ht.trip 0 (by decide) h))

/-- A failed check sets CORE and the core's fault, opens every output and holds a running module. -/
theorem islandCycle_fault {i : IslandIn} {s : State} (hp : powered s = true) (hbad : (i.coreA && i.coreB && i.clockOk) = false) :
    (holdIfTripped (islandCycle i s)).rdBit Od.saf_trip_cause 0 = true ∧ (holdIfTripped (islandCycle i s)).rdBit Od.sys_health 14 = true ∧
      (∀ o < safOuts s, (outOf (holdIfTripped (islandCycle i s)) o).on = false) ∧
      (running s = true → (holdIfTripped (islandCycle i s)).mode = .safeHold) := by
  obtain ⟨htrip, hhealth, hoff, hrun⟩ := islandFault_shows (causesTaken i s)
  have hbad' : ¬(i.coreA = true ∧ i.coreB = true ∧ i.clockOk = true) := by
    rintro ⟨ha, hb, hc⟩
    simp [ha, hb, hc] at hbad
  have hedm : Within (some [Od.saf_edm_level]) [] (islandFault (causesTaken i s)) (edmShown i s) := by
    rw [edmShown, if_neg hbad']
    exact .foldl (fun _ _ => .wr _ _ _ rfl (.refl _ _ _)) _ (.refl _ _ _)
  have houts : safOuts (causesTaken i s) = safOuts s := by
    rw [safOuts, State.perVariant, (causesTaken_within i s).variant, (pairsJudged_within i s).variant]
    rfl
  have htrip' : (edmShown i s).rdBit Od.saf_trip_cause 0 = true := (rdBit_of_within hedm _ _ _).trans htrip
  have hopens : OnlyOpens (edmShown i s) (islandCycle i s) := by
    rw [islandCycle_powered hp]
    exact evalOuts_tripped _ htrip'
  have hafter : Within none [.mer, .recd, .saf, .sys] (edmShown i s) (islandCycle i s) := by
    rw [islandCycle_powered hp]
    exact (evalOuts_within ..).mono rfl rfl
  have hheld := holdIfTripped_onlyOpens (islandCycle i s)
  have hset := hopens.trip 0 (by decide) htrip'
  refine ⟨hheld.trip 0 (by decide) hset, ?_, fun o ho => ?_, fun hr => ?_⟩
  · rw [rdBit_of_within (holdIfTripped_within _) _ _ _, islandCycle_powered hp, rdBit_of_within (evalOuts_within ..) _ _ _,
      rdBit_of_within hedm _ _ _]
    exact hhealth
  · have hedm' : (outOf (edmShown i s) o).on = false := by
      rw [outOf_of_within hedm]
      exact hoff o (houts ▸ ho)
    exact off_of_onlyOpens (hopens.trans hheld) hedm'
  · have hr' : running (causesTaken i s) = true := running_of_within (causesTaken_within i s) (running_of_within (pairsJudged_within i s) hr)
    exact holdIfTripped_mode (running_of_within hafter (running_of_within hedm (hrun hr'))) (trip_ne_zero hset)

/-! ### Test pulses (R307, R309, R315, R316) -/

theorem inputTestPulse_latches {s : State} {p : Nat} {b siA siB : Bool} (hp : powered s = true) (hpair : p < safPairs s)
    (htp : s.rd Od.saf_in_tp p = 1) (hkind : s.rd Od.saf_in_kind p = 1) (hfault : pulseFault (pairOf s p) b siA siB = true)
    (hsafe : vsafeLow s = false) : inputTestPulse p b siA siB s = latchPair s p 2 := by
  have hjudge : judgeOf s p = p := if_neg (by simp [hkind])
  simp [inputTestPulse, hjudge, hp, hpair, htp, hkind, hfault, hsafe]

/-- A test pulse's latch: shown, counted, and the result 0. -/
theorem latchPair_pulse {s : State} {p : Nat} (hbit : s.rdBit Od.saf_in_status 4 p = false) (hfit : s.rd Od.saf_in_faults p + 1 < 2 ^ 32) :
    (latchPair s p 2).rd Od.saf_in_latch p = 2 ∧ (latchPair s p 2).rd Od.saf_in_result p = 0 ∧
      (latchPair s p 2).rd Od.saf_in_faults p = s.rd Od.saf_in_faults p + 1 ∧
      (latchPair s p 2).rd Od.saf_latch_gen = (s.rd Od.saf_latch_gen + 1) % 2 ^ 16 := by
  unfold latchPair
  extract_lets bit s1 s2
  have h2 : Within (some [Od.rec_dropped]) [.recd] (s1.countMod Od.saf_latch_gen) s2 := safEvent_within ..
  have hafter : ∀ x, Within (some [Od.rec_dropped, Od.saf_in_result]) [.recd, .saf] (s1.countMod Od.saf_latch_gen)
      (putPair (s2.wr Od.saf_in_result 0 p) p x) := fun x => .after (putPair_within ..) rfl rfl (.wr _ _ _ rfl (h2.mono rfl rfl))
  have hne : ¬s.rdBit Od.saf_in_status bit p = true := Bool.eq_false_iff.mp hbit
  rw [if_neg hne, (hafter _).keeps Od.saf_in_latch _, (hafter _).keeps Od.saf_in_faults _, (hafter _).keeps Od.saf_latch_gen _]
  refine ⟨?_, ((putPair_within ..).keeps _ _).trans (rd_wr_fit _ _ _ _ (by decide)), ?_, ?_⟩
  · exact (rd_wr_ne _ _ _ _ _ _ (by decide)).trans ((rd_count_ne _ _ _ _ _ _ (by decide)).trans (rd_wr_fit _ _ _ _ (by decide)))
  · have hold : ((s.wrBit Od.saf_in_status bit true p).wr Od.saf_in_latch 2 p).rd Od.saf_in_faults p = s.rd Od.saf_in_faults p :=
      (rd_wr_ne _ _ _ _ _ _ (by decide)).trans (rd_wr_ne _ _ _ _ _ _ (by decide))
    rw [← hold]
    exact (rd_wr_ne _ _ _ _ _ _ (by decide)).trans (rd_count_self (by rw [hold]; exact hfit))
  · have hold : s1.rd Od.saf_latch_gen = s.rd Od.saf_latch_gen :=
      (rd_count_ne _ _ _ _ _ _ (by decide)).trans ((rd_wr_ne _ _ _ _ _ _ (by decide)).trans (rd_wr_ne _ _ _ _ _ _ (by decide)))
    rw [← hold]
    exact rd_wr_self ..

/-- The code that a pulse through the low half of an output that is off comes to. -/
theorem outputTestPulse_low {s : State} {o soH soL : Nat} (hp : powered s = true) (ho : o < safOuts s) (hsafe : vsafeLow s = false)
    (hoff : (outOf s o).on = false) :
    outputTestPulse o true soH soL false false s =
      if soL < 5000 then putOut s o { outOf s o with bad := false, tests := (outOf s o).tests - 1 } else latchOut s o 4 := by
  by_cases h : soL < 5000 <;> simp [outputTestPulse, hp, ho, hsafe, hoff, h]

/-- A code latched first on an output stands after the hold that it may bring about. -/
theorem latchOut_held {s : State} {o code : Nat} (hnone : s.rd Od.saf_out_fault o = 0) (hcode : code ≠ 0) (hfit : code < 2 ^ 8) :
    (holdIfTripped (latchOut s o code)).rd Od.saf_out_fault o = code ∧ (holdIfTripped (latchOut s o code)).rd Od.saf_out_state o = 2 ∧
      (outOf (holdIfTripped (latchOut s o code)) o).on = false ∧
      (stageModule code = true → (holdIfTripped (latchOut s o code)).rdBit Od.saf_trip_cause 1 = true) := by
  obtain ⟨hfault, hstate, hoff, htrip⟩ := latchOut_first hnone hcode hfit
  obtain ⟨hoff', -, hstate'⟩ := ShownLatched.holdIfTripped ⟨hoff, hfault.symm ▸ hcode, hstate⟩
  exact ⟨((holdIfTripped_within _).keeps _ _).trans hfault, hstate', hoff',
    fun h => (rdBit_of_within (holdIfTripped_within _) _ _ _).trans (htrip h)⟩

/-- Settles O31: the pairs by their turn in the cycle and what leaves them alone after it, the outputs by what a latch or a core fault
does to them; where a cause is set the hold that follows keeps what was shown. -/
theorem safetyIslandCycle : Obligations.SafetyIslandCycle := by
  refine ⟨fun s i p hp hpair => ⟨_, rfl, ?_⟩, fun s i p hp hpair hkind hopen => ⟨_, rfl, ?_⟩,
    fun s i p hp hpair hkind ha hb hsafe hlatch hrestart => ⟨_, rfl, ?_⟩, fun s i hp hbad => ⟨_, rfl, islandCycle_fault hp hbad⟩,
    fun s p b siA siB hp hpair htp hkind hfault hsafe hbit hfit => ⟨_, rfl, ?_⟩,
    fun s o soH soL hp ho hsafe hoff hlow htrip => ⟨_, rfl, ?_⟩, fun s o soH soL hp ho hsafe hoff hhigh hnone => ⟨_, rfl, ?_⟩,
    fun s o hp ho hnone => ⟨_, rfl, ?_⟩⟩
  · obtain ⟨ha, hb⟩ := islandCycle_levels (i := i) hp hpair
    exact ⟨ha.trans (passLevel_fst ..), hb.trans (passLevel_fst ..)⟩
  · exact (islandCycle_result p hp).trans (judged_demand hpair hkind hopen)
  · have hfiltered := pairsFiltered_within i s
    have hclosed : PairClosed p (pairsFiltered i s) :=
      ⟨(hfiltered.keeps _ _).trans hkind, by rw [pairOf_pairsFiltered hpair, ha], by rw [pairOf_pairsFiltered hpair, hb],
        (rdBit_of_within hfiltered _ _ _).trans hsafe, (hfiltered.keeps _ _).trans hlatch, (hfiltered.keeps _ _).trans hrestart⟩
    exact (islandCycle_result p hp).trans (judged_closed hpair hclosed)
  · obtain ⟨hlatch, hresult, hcount, hgen⟩ := latchPair_pulse hbit hfit
    rw [inputTestPulse_latches hp hpair htp hkind hfault hsafe]
    have h := holdIfTripped_within (latchPair s p 2)
    rw [h.keeps _ _, h.keeps _ _, h.keeps _ _, h.keeps _ _]
    exact ⟨hlatch, hresult, hcount, hgen⟩
  · rw [outputTestPulse_low hp ho hsafe hoff, if_pos hlow,
      holdIfTripped_of_no_trip (((putOut_within ..).keeps _ _).trans htrip), outOf_putOut_self]
    exact ⟨rfl, rfl⟩
  · obtain ⟨hfault, hstate, -, htrip⟩ := latchOut_held (code := 4) hnone (by decide) (by decide)
    rw [outputTestPulse_low hp ho hsafe hoff, if_neg (by omega)]
    exact ⟨hfault, htrip rfl, hstate⟩
  · obtain ⟨hfault, hstate, hoff, -⟩ := latchOut_held (code := 5) hnone (by decide) (by decide)
    rw [outputOverload, if_pos ⟨hp, ho⟩]
    exact ⟨hfault, hstate, hoff⟩

end Sys2Proof.Proofs

/-!
## Motion: plans, steps, referencing and encoders (R253, R256, R259, R263, R265 to R267)
-/
namespace Sys2Proof.Proofs

open Sys2Proof Sys2Proof.Machine Sys2Proof.Safety Sys2Proof.Laws

theorem chanOf_putChan_self (s : State) (c : Nat) (m : MotChan) : chanOf (putChan s c m) c = m := tabGet_tabPut_self ..

theorem chanOf_of_within {w : Option (List Nat)} {ps : List Part} {s t : State} (h : Within w ps s t) (c : Nat)
    (hp : ps.contains .mot = false := by rfl) : chanOf t c = chanOf s c := by
  rw [chanOf, h.parts .mot hp, chanOf]

/-- A bit of `mot_status` set or cleared reads so, and the others as before. -/
theorem motBit_motPut (s : State) (c b : Nat) {k : Nat} (on : Bool) (hk : k < 16) :
    motBit (motPut s c b on) c k = if k = b then on else motBit s c k := rdBit_wrBit _ _ _ _ _ _ hk

theorem motBit_of_within {w : Option (List Nat)} {ps : List Part} {s t : State} (h : Within w ps s t) (c b : Nat)
    (hw : admits w Od.mot_status = false := by rfl) : motBit t c b = motBit s c b := rdBit_of_within h _ _ _ hw

/-! ### A channel along its plan (R253, R256) -/

theorem advance_underway {d j : Nat} {dt : Frac} (r : List (Nat × Nat)) (k : Kin) (h : (q64 d).le dt = false) :
    advance ((d, j) :: r) k dt = (segAt k (q64 j) dt, (word64 (r64 ((q64 d).sub dt)), j) :: r) := if_neg (Bool.eq_false_iff.mp h)

theorem advance_last {d j : Nat} {dt : Frac} (k : Kin) (h : (q64 d).le dt = true) :
    advance [(d, j)] k dt = (segAt k (q64 j) (q64 d), []) := if_pos h

theorem moveOn_underway {s : State} {c d j : Nat} {r : List (Nat × Nat)} (hplan : (chanOf s c).plan = (d, j) :: r)
    (hleft : (q64 d).le ⟨1, 32000⟩ = false) :
    chanOf (moveOn s c) c = { withKin (chanOf s c) (segAt (kinOf (chanOf s c)) (q64 j) ⟨1, 32000⟩) with
      plan := (word64 (r64 ((q64 d).sub ⟨1, 32000⟩)), j) :: r } := by
  have hadvance : advance (chanOf s c).plan (kinOf (chanOf s c)) ⟨1, 32000⟩ = _ := hplan ▸ advance_underway r _ hleft
  unfold moveOn
  rw [if_neg (by simp [hplan]), hadvance]
  exact (chanOf_of_within (showChan_within ..) c).trans (chanOf_putChan_self ..)

theorem moveOn_arrives {s : State} {c d j : Nat} {g : Int} (hplan : (chanOf s c).plan = [(d, j)])
    (hends : (q64 d).le ⟨1, 32000⟩ = true) (hgoal : (chanOf s c).goal = some g) :
    chanOf (moveOn s c) c = { withKin (chanOf s c) ⟨nq g, nq 0, nq 0⟩ with plan := [], goal := none } := by
  have hadvance : advance (chanOf s c).plan (kinOf (chanOf s c)) ⟨1, 32000⟩ = _ := hplan ▸ advance_last _ hends
  unfold moveOn
  rw [if_neg (by simp [hplan]), hadvance, hgoal]
  refine (chanOf_of_within (showChan_within ..) c).trans ?_
  split_ifs <;> exact chanOf_putChan_self ..

/-- A channel whose load angle is not valid. -/
def unwatched (m : MotChan) : MotChan := { m with loadUp := 0, loadDown := 0, stallUp := 0, lastDelta := none }

/-- Without samples, and with nothing but its plan to follow, a tick does not act on a channel after it has moved on. -/
theorem chanTick_quiet {s : State} {c : Nat} {m : MotChan} (hm : chanOf (moveOn s c) c = m) (hphase : m.phase = 0)
    (hreplan : m.replan = false) (hrelim : m.relim = false) (hshift : m.shift = 0) :
    chanOf (chanTick [] s c) c = m ∨ chanOf (chanTick [] s c) c = unwatched m := by
  have hdue : dueShift (moveOn s c) c = moveOn s c := by
    unfold dueShift
    rw [hm]
    exact if_pos hshift
  have hwatch : chanOf (watchAngle (moveOn s c) c none) c = unwatched m := by
    have h : Within (some [Od.mot_load_angle, Od.mot_status]) [] (putChan (moveOn s c) c (unwatched (chanOf (moveOn s c) c)))
        (watchAngle (moveOn s c) c none) := .wrBit _ _ _ _ rfl (.wr _ _ _ rfl (.refl _ _ _))
    rw [chanOf_of_within h, chanOf_putChan_self, hm]
  have hs2 : ∀ u, chanOf u c = m ∨ chanOf u c = unwatched m → refTick u c false = u ∧ (chanOf u c).replan = false ∧ (chanOf u c).relim = false := by
    rintro u (hu | hu)
    · exact ⟨by simp [refTick, hu, hphase], by rw [hu, hreplan], by rw [hu, hrelim]⟩
    · exact ⟨by simp [refTick, hu, unwatched, hphase], by rw [hu]; exact hreplan, by rw [hu]; exact hrelim⟩
  unfold chanTick
  extract_lets s0 s1 δ s2 s3 m'
  have h1 : s1 = moveOn s c := hdue
  have h2 : chanOf s2 c = m ∨ chanOf s2 c = unwatched m := by
    simp only [s2, h1]
    split_ifs
    · exact .inl hm
    · exact .inr hwatch
  obtain ⟨href, hreplan', hrelim'⟩ := hs2 s2 h2
  have h3 : s3 = s2 := href
  have hm' : m' = chanOf s2 c := congrArg (chanOf · c) h3
  rw [if_neg (by simp [hm', hreplan']), if_neg (by simp [hm', hrelim']), h3]
  exact h2

/-- A retested lane takes the other's state. -/
def laneTaken (s : State) : State := { s with mot := { s.mot with resync := false } }

/-- A tick of one channel alone, with its lanes unchecked. -/
theorem motionTickAll_single {s : State} {c : Nat} (hr : running s = true) (he : entryOff s = false) (hlive : liveChans s = [c]) :
    motionTickAll [] none s = doorForceTick (chanTick [] (laneTaken s) c) := by
  have hlive' : liveChans (laneTaken s) = [c] := hlive
  have htick : motionTick [] none s = ((liveChans (laneTaken s)).foldl (chanTick []) (laneTaken s), false) := if_pos hr
  have hmoves : (running s && !entryOff s) = true := by simp [hr, he]
  rw [motionTickAll, if_pos hmoves, htick, hlive']
  rfl

/-- One lane alone fails: its fault is shown, and the other goes on. -/
theorem motionTickAll_lane {s : State} (agree : Bool) (hr : running s = true) (he : entryOff s = false)
    (hfault : s.rdBit Od.sys_health 11 = false) (hresync : s.mot.resync = false) :
    (motionTickAll [] (some ⟨true, false, agree⟩) s).rdBit Od.sys_health 11 = true := by
  have hverdict : laneVerdict s (some ⟨true, false, agree⟩) = (raiseFault s bitMotLane, false) := by
    have hfault' : s.rdBit Od.sys_health bitMotLane = false := hfault
    simp [laneVerdict, hfault', hresync]
  have hticks : Within (some [5892,11278,11279,11280,11282,11283,11297,11303,11311]) [.mot, .recd] (raiseFault s bitMotLane)
      ((liveChans (laneTaken (raiseFault s bitMotLane))).foldl (chanTick []) (laneTaken (raiseFault s bitMotLane))) :=
    .foldl (fun _ _ => (chanTick_within ..).mono rfl rfl) _ (.mot _ rfl (.refl _ _ _))
  simp only [motionTickAll, motionTick, hverdict, hr, he, Bool.not_false, Bool.and_self, if_true, Bool.false_eq_true, if_false]
  exact (rdBit_of_within (doorForceTick_within _) _ _ _).trans ((rdBit_of_within hticks _ _ _).trans (raiseFault_bit _ _ _ (by decide)))

/-! ### Steps (R259, R260) -/

/-- A step up goes out. -/
def steppedUp (s : State) (c : Nat) : State := (putChan s c { chanOf s c with sent := (chanOf s c).sent + 1, lastUp := true }).send (.step c true)

theorem stepPulse_up {s : State} {c : Nat} (gapNs : Nat) (hr : running s = true) (he : entryOff s = false) (hc : c < motCount s)
    (hcar : carUse s c = false) (hahead : (chanOf s c).sent < cmdCount (chanOf s c)) (hup : (chanOf s c).lastUp = true) :
    stepPulse c gapNs s =
      if gapNs < 2 * s.rd Od.mot_step_width c then (steppedUp s c).count Od.mot_late_steps c else steppedUp s c := by
  unfold stepPulse
  extract_lets m want up w need s1
  have hup' : up = true := decide_eq_true hahead
  have hneed : need = 2 * w := if_pos (hup'.trans hup.symm)
  have hs1 : s1 = steppedUp s c := by
    simp only [s1, hup', if_true]
    rfl
  have hne : want ≠ m.sent := ne_of_gt hahead
  rw [if_neg (by simp [hr, he, hcar, hc, hne]), hneed, hs1]

/-! ### Referencing (R263, R266) -/

theorem planTo_phase (s : State) (c : Nat) (xt : Int) (V : Frac) : (chanOf (planTo s c xt V) c).phase = (chanOf s c).phase := by
  unfold planTo
  extract_lets m p s1 s2
  have h : Within (some [Od.mot_status]) [] s1 s2 := .ite (.refl _ _ _) (.wrBit _ _ _ _ rfl (.refl _ _ _))
  rw [chanOf_of_within (showChan_within ..), chanOf_of_within h, chanOf_putChan_self]

theorem referenceSettled_moves {s : State} {c : Nat} (hr : running s = true) (hm : s.mode ≠ .safeHold) (hphase : (chanOf s c).phase = 2) :
    (chanOf (referenceSettled c s) c).phase = 3 ∧ motBit (referenceSettled c s) c motCURRED = true := by
  unfold referenceSettled
  extract_lets m dir s1
  rw [if_pos ⟨hphase, hr, hm⟩]
  refine ⟨?_, (motBit_motPut _ _ _ _ (by decide)).trans (if_pos rfl)⟩
  rw [chanOf_of_within (motPut_within ..), planTo_phase, chanOf_putChan_self]

theorem refDone_references (s : State) (c : Nat) :
    (chanOf (refDone s c) c).phase = 0 ∧ motBit (refDone s c) c motREFERENCED = true ∧ (refDone s c).rd Od.mot_ref_result c = 1 ∧
      (refDone s c).rd Od.mot_state c = 1 := by
  unfold refDone
  extract_lets s1 s2 m
  have h2 : Within (some [Od.mot_status]) [] s1 s2 :=
    .after (motPut_within ..) rfl rfl (.after (motPut_within ..) rfl rfl (.after (motPut_within ..) rfl rfl (.refl _ _ _)))
  rw [motBit_of_within (putChan_within ..), (putChan_within ..).keeps _ _, (putChan_within ..).keeps _ _, h2.keeps _ _, h2.keeps _ _,
    chanOf_putChan_self]
  refine ⟨rfl, ?_, (rd_wr_ne _ _ _ _ _ _ (by decide)).trans (rd_wr_fit _ _ _ _ (by decide)), rd_wr_fit _ _ _ _ (by decide)⟩
  simp only [s2]
  rw [motBit_motPut _ _ _ _ (by decide), motBit_motPut _ _ _ _ (by decide), motBit_motPut _ _ _ _ (by decide)]
  rfl

/-! ### Encoders and switches (R265, R266) -/

/-- An edge latched. -/
def edgeLatched (s : State) (e : Nat) (level : Bool) (count : Int) (time : Nat) : State :=
  (((s.wr Od.mot_latch_count (cnt count) e).wr Od.mot_latch_time time e).wr Od.mot_latch_level (b2n level) e).count Od.mot_latch_seq e

theorem edgeLatched_within (s : State) (e : Nat) (level : Bool) (count : Int) (time : Nat) :
    Within (some [Od.mot_latch_count, Od.mot_latch_time, Od.mot_latch_level, Od.mot_latch_seq]) [] s (edgeLatched s e level count time) :=
  .count _ _ _ rfl (.wr _ _ _ rfl (.wr _ _ _ rfl (.wr _ _ _ rfl (.refl _ _ _))))

theorem edgeLatched_shows {s : State} {e time : Nat} (level : Bool) (count : Int) (htime : time < 2 ^ 64)
    (hfit : s.rd Od.mot_latch_seq e + 1 < 2 ^ 32) :
    (edgeLatched s e level count time).rd Od.mot_latch_count e = ofInt 64 count ∧
      (edgeLatched s e level count time).rd Od.mot_latch_time e = time ∧
      (edgeLatched s e level count time).rd Od.mot_latch_level e = b2n level ∧
      (edgeLatched s e level count time).rd Od.mot_latch_seq e = s.rd Od.mot_latch_seq e + 1 := by
  have hlevel : b2n level < 2 ^ 8 := by cases level <;> decide
  have hne : ∀ (t : State) i v j, j ≠ i → (t.wr i v e).rd j e = t.rd j e := fun t i v j h => rd_wr_ne _ _ _ _ _ _ h
  have hold : (((s.wr Od.mot_latch_count (cnt count) e).wr Od.mot_latch_time time e).wr Od.mot_latch_level (b2n level) e).rd Od.mot_latch_seq e =
      s.rd Od.mot_latch_seq e := by rw [hne _ _ _ _ (by decide), hne _ _ _ _ (by decide), hne _ _ _ _ (by decide)]
  unfold edgeLatched
  refine ⟨?_, ?_, ?_, ?_⟩
  · rw [rd_count_ne _ _ _ _ _ _ (by decide), hne _ _ _ _ (by decide), hne _ _ _ _ (by decide)]
    exact rd_wr_fit _ _ _ _ (ofInt_lt 64 count)
  · rw [rd_count_ne _ _ _ _ _ _ (by decide), hne _ _ _ _ (by decide)]
    exact rd_wr_fit _ _ _ _ htime
  · rw [rd_count_ne _ _ _ _ _ _ (by decide)]
    exact rd_wr_fit _ _ _ _ hlevel
  · rw [← hold]
    exact rd_count_self (by rw [hold]; exact hfit)

theorem shiftCar_encOff (s : State) (c : Nat) (d : Int) : (chanOf (shiftCar s c d) c).encOff = (chanOf s c).encOff + d := by
  rw [shiftCar, chanOf_of_within (showChan_within ..), chanOf_putChan_self]

/-- A car that looks for this edge is referenced at it. -/
theorem carEdge_references {s : State} {k input : Nat} {level : Bool} {count : Int} (hinput : input < 3) (hphase : (chanOf s (14 + k)).phase = 5)
    (hsel : s.rd Od.mot_ref_edge k = input + (if level then 0 else 4)) :
    motBit (carEdge s (14 + k) input level count) (14 + k) motREFERENCED = true ∧
      (carEdge s (14 + k) input level count).rd Od.mot_ref_result (14 + k) = 1 ∧
      encPos (carEdge s (14 + k) input level count) (14 + k) =
        toInt 64 (s.rd Od.mot_latch_pos k) + (toInt 64 (s.rd Od.mot_enc_count k) - count) := by
  have hmatch : (input + if level then 0 else 4) % 4 = input ∧ level = ((input + if level then 0 else 4) / 4 % 2 == 0) := by
    cases level <;> interval_cases input <;> decide
  have hcount : (carEdge s (14 + k) input level count).rd Od.mot_enc_count k = s.rd Od.mot_enc_count k := (carEdge_within ..).keeps _ _
  have hcar : 14 + k - 14 = k := by omega
  rw [encPos, hcar, hcount]
  unfold carEdge
  rw [hcar]
  extract_lets k' sel m n pos s1 m1 kin s2 s3
  have hsel' : sel = input + if level then 0 else 4 := hsel
  rw [if_pos ⟨hphase, hsel' ▸ hmatch⟩]
  have hencOff : m1.encOff = m.encOff + (pos - encPos s (14 + k)) := shiftCar_encOff ..
  have hchan : (chanOf s2 (14 + k)).encOff = m1.encOff := by rw [chanOf_putChan_self]
  have hshown : Within (some [Od.mot_status]) [] s3
      (motPut (motPut (motPut s3 (14 + k) motREFERENCED true) (14 + k) motSTALL false) (14 + k) motHELD false) :=
    .after (motPut_within ..) rfl rfl (.after (motPut_within ..) rfl rfl (motPut_within ..))
  have h3 : Within (some [Od.mot_ref_result, Od.mot_state]) [] s2 s3 := .wr _ _ _ rfl (.wr _ _ _ rfl (.refl _ _ _))
  refine ⟨?_, ?_, ?_⟩
  · rw [motBit_motPut _ _ _ _ (by decide), motBit_motPut _ _ _ _ (by decide), motBit_motPut _ _ _ _ (by decide)]
    rfl
  · rw [hshown.keeps _ _]
    exact (rd_wr_ne _ _ _ _ _ _ (by decide)).trans (rd_wr_fit _ _ _ _ (by decide))
  · rw [chanOf_of_within hshown, chanOf_of_within h3, hchan, hencOff, encPos, hcar]
    simp only [pos, n, m, k']
    omega

/-- Settles O28: each command by the channel it leaves and the entries it shows; what a tick does after a channel has moved on, and the
door forces after that, touch neither its state nor its plan. -/
theorem motionFollowsItsPlan : Obligations.MotionFollowsItsPlan := by
  refine ⟨fun s c d j r hr he hlive hplan hleft hphase hreplan hrelim hshift => ⟨_, rfl, ?_⟩,
    fun s c d j g hr he hlive hplan hends hphase hreplan hrelim hshift hgoal => ⟨_, rfl, ?_⟩,
    fun s agree hr he hfault hresync => ⟨_, rfl, motionTickAll_lane agree hr he hfault hresync⟩,
    fun s c gapNs hr he hc hcar hahead hup hfit => ⟨_, next_of_eq (if_neg (by simp [he])), ?_⟩,
    fun s c hr hc huse hplan hphase hred => ⟨_, next_of_eq (if_pos ⟨hr, hc, huse, hplan, hphase, hred⟩), ?_⟩,
    fun s c hr hm hphase => ⟨_, rfl, referenceSettled_moves hr hm hphase⟩,
    fun s c hphase hplan => ⟨_, next_of_eq (if_pos ⟨hphase, hplan⟩), refDone_references _ _⟩,
    fun s k input level count time hp hv hk hinput htime hfit => ⟨_, next_of_eq (if_pos ⟨hp, hv, hk, hinput⟩), ?_⟩,
    fun s k hp hv hk hfit => ⟨_, next_of_eq (if_pos ⟨hp, hv, hk⟩), rd_count_self hfit⟩,
    fun s k up hp hv hk => ⟨_, next_of_eq (if_pos ⟨hp, hv, hk⟩), rd_wr_fit _ _ _ _ (ofInt_lt 64 _)⟩⟩
  · have hmoved : chanOf (moveOn (laneTaken s) c) c = _ := moveOn_underway hplan hleft
    rw [motionTickAll_single hr he hlive, chanOf_of_within (doorForceTick_within _)]
    rcases chanTick_quiet hmoved hphase hreplan hrelim hshift with h | h <;> rw [h] <;> exact ⟨rfl, rfl, rfl, rfl⟩
  · have hmoved : chanOf (moveOn (laneTaken s) c) c = _ := moveOn_arrives hplan hends hgoal
    rw [motionTickAll_single hr he hlive, chanOf_of_within (doorForceTick_within _)]
    rcases chanTick_quiet hmoved hphase hreplan hrelim hshift with h | h <;> rw [h] <;> exact ⟨rfl, rfl⟩
  · rw [stepPulse_up gapNs hr he hc hcar hahead hup]
    have hlate : (steppedUp s c).rd Od.mot_late_steps c = s.rd Od.mot_late_steps c := rfl
    have hsent : (chanOf (steppedUp s c) c).sent = (chanOf s c).sent + 1 :=
      congrArg MotChan.sent (chanOf_putChan_self s c { chanOf s c with sent := (chanOf s c).sent + 1, lastUp := true })
    split_ifs
    · exact ⟨rfl, hsent, rd_count_self (s := steppedUp s c) hfit⟩
    · exact ⟨rfl, hsent, hlate⟩
  · exact (motBit_motPut _ _ _ _ (by decide)).trans (if_pos rfl)
  · obtain ⟨hlatch, htime', hlevel, hseq⟩ := edgeLatched_shows level count htime hfit
    have hedge : Within (some [11278,11279,11280,11282,11283,11311]) [.mot] (edgeLatched s (k * 3 + input) level count time)
        (if carUse s (14 + k) then carEdge (edgeLatched s (k * 3 + input) level count time) (14 + k) input level count
          else edgeLatched s (k * 3 + input) level count time) := .ite (carEdge_within ..) (.refl _ _ _)
    refine ⟨(hedge.keeps _ _).trans hlatch, (hedge.keeps _ _).trans htime', (hedge.keeps _ _).trans hlevel, (hedge.keeps _ _).trans hseq,
      fun huse hphase hsel => ?_⟩
    have hkept := edgeLatched_within s (k * 3 + input) level count time
    rw [if_pos huse, ← hkept.keeps Od.mot_latch_pos k, ← hkept.keeps Od.mot_enc_count k]
    exact carEdge_references hinput hphase ((hkept.keeps _ _).trans hsel)

end Sys2Proof.Proofs

/-!
## A lift car's cycle leaves the other car's state (R272, R273)

`lft_state` has an element per car; a cycle of one car writes its own alone.
-/
namespace Sys2Proof.Proofs

open Sys2Proof Sys2Proof.Machine Sys2Proof.Safety Sys2Proof.Laws

/-- From `s` to `t` no car but car `k` changes its state. -/
structure OtherCarKept (k : Nat) (s t : State) : Prop where
  state : ∀ e, e ≠ k → t.rd Od.lft_state e = s.rd Od.lft_state e

namespace OtherCarKept

variable {k : Nat} {s t u : State}

theorem refl (k : Nat) (s : State) : OtherCarKept k s s := ⟨fun _ _ => rfl⟩

theorem trans (h : OtherCarKept k s t) (h' : OtherCarKept k t u) : OtherCarKept k s u :=
  ⟨fun e he => (h'.state e he).trans (h.state e he)⟩

theorem ite {p : Prop} [Decidable p] (h : OtherCarKept k s t) (h' : OtherCarKept k s u) : OtherCarKept k s (if p then t else u) := by
  split
  · exact h
  · exact h'

theorem setLs (h : OtherCarKept k s t) (st : Nat) : OtherCarKept k s (setLs t k st) :=
  h.trans ⟨fun _ he => rd_wr_elem _ _ _ _ _ _ he⟩

/-- An operation that writes no car's state. -/
theorem within {w : Option (List Nat)} {ps : List Part} (h : OtherCarKept k s t) (hw : Within w ps t u)
    (hi : admits w Od.lft_state = false) : OtherCarKept k s u := h.trans ⟨fun e _ => hw.keeps _ e hi⟩

theorem of_within {w : Option (List Nat)} {ps : List Part} (hw : Within w ps s t) (hi : admits w Od.lft_state = false) :
    OtherCarKept k s t := (refl k s).within hw hi

theorem foldl {α : Type} {f : State → α → State} (hf : ∀ t x, OtherCarKept k t (f t x)) (l : List α) (h : OtherCarKept k s t) :
    OtherCarKept k s (l.foldl f t) :=
  List.foldlRecOn l f h fun u hu x _ => hu.trans (hf u x)

end OtherCarKept

/-- As `OtherCarKept`, and a car that is OFF stays so. -/
structure OffCarKept (k : Nat) (s t : State) : Prop where
  state : ∀ e, e ≠ k ∨ s.rd Od.lft_state k = 0 → t.rd Od.lft_state e = s.rd Od.lft_state e

namespace OffCarKept

variable {k : Nat} {s t u : State}

theorem refl (k : Nat) (s : State) : OffCarKept k s s := ⟨fun _ _ => rfl⟩

theorem trans (h : OffCarKept k s t) (h' : OffCarKept k t u) : OffCarKept k s u :=
  ⟨fun e he => (h'.state e (he.imp_right fun h0 => (h.state k (.inr h0)).trans h0)).trans (h.state e he)⟩

theorem ite {p : Prop} [Decidable p] (h : OffCarKept k s t) (h' : OffCarKept k s u) : OffCarKept k s (if p then t else u) := by
  split
  · exact h
  · exact h'

theorem within {w : Option (List Nat)} {ps : List Part} (h : OffCarKept k s t) (hw : Within w ps t u)
    (hi : admits w Od.lft_state = false) : OffCarKept k s u := h.trans ⟨fun e _ => hw.keeps _ e hi⟩

theorem of_within {w : Option (List Nat)} {ps : List Part} (hw : Within w ps s t) (hi : admits w Od.lft_state = false) :
    OffCarKept k s t := (refl k s).within hw hi

theorem other (h : OffCarKept k s t) : OtherCarKept k s t := ⟨fun e he => h.state e (.inl he)⟩

/-- What is done to a car only while it is not OFF. -/
theorem of_on (hon : s.rd Od.lft_state k ≠ 0) (h : OtherCarKept k s t) : OffCarKept k s t :=
  ⟨fun e he => h.state e (he.resolve_right hon)⟩

end OffCarKept

section Car

variable (s : State) (k : Nat)

/-! ### Stops and faults (R281, R282) -/

theorem abandonRun_otherCar : OtherCarKept k s (abandonRun s k) := (OtherCarKept.of_within (dropRun_within ..) rfl).setLs _

theorem brakeStop_otherCar : OtherCarKept k s (brakeStop s k) := (OtherCarKept.of_within (toBrake_within ..) rfl).setLs _

theorem rampStop_otherCar : OtherCarKept k s (rampStop s k) :=
  (((OtherCarKept.of_within (learnAborted_within ..) rfl).within (rampDown_within ..) rfl).within (putCar_within ..) rfl).setLs _

theorem faultAction_otherCar (onBrake : Bool) : OtherCarKept k s (faultAction s k onBrake) :=
  .ite (.ite (brakeStop_otherCar s k) (.ite (.refl k s) (rampStop_otherCar s k))) (.ite (.refl k s) (abandonRun_otherCar s k))

theorem carFault_offCar (code : Nat) (onBrake : Bool) : OffCarKept k s (carFault s k code onBrake) := by
  unfold carFault
  split_ifs with hoff
  · exact .refl k s
  · exact .of_on hoff ((OtherCarKept.of_within (takeFault_within ..) rfl).trans (faultAction_otherCar ..))

theorem watchCar_otherCar (old : Nat) : OtherCarKept k s (watchCar s k old) :=
  .ite (.refl k s) (.ite (carFault_offCar ..).other (.ite (carFault_offCar ..).other (.ite (carFault_offCar ..).other
    (.ite (.ite (.of_within (putCar_within ..) rfl) (.ite (brakeStop_otherCar s k) (abandonRun_otherCar s k))) (.refl k s)))))

theorem carOff_otherCar : OtherCarKept k s (carOff s k) := by
  unfold carOff
  extract_lets s1 s2
  have h1 : OtherCarKept k s s1 := .of_within (learnAborted_within ..) rfl
  have h2 : OtherCarKept k s s2 := .ite (h1.within (w := some [Od.lft_learn_result]) (ps := []) (.wr _ _ _ rfl (.refl _ _ _)) rfl) h1
  exact .ite (.refl k s) ((h2.within (putCar_within ..) rfl).setLs _)

theorem carOff_off : (carOff s k).rd Od.lft_state k = 0 := by
  unfold carOff
  split_ifs with hoff
  · exact hoff.1
  · exact rd_wr_fit _ _ _ _ (by decide)

/-! ### Doors (R289 to R293) -/

variable (d : Nat) (read : State → Nat → Nat → Nat)

theorem doorButtons_offCar : OffCarKept k s (doorButtons read s k d) := by
  unfold doorButtons
  extract_lets st standing open_ close back
  have hclose : ∀ n, OffCarKept k s (doorCloseNow s d n) := fun n => .of_within (doorCloseNow_within ..) rfl
  have hreopen : OffCarKept k s (doorOpenNow s d 7) := .of_within (doorOpenNow_within ..) rfl
  by_cases hstand : opOf s k = 4 ∧ standing = true
  · have hon : s.rd Od.lft_state k ≠ 0 := by
      rintro h0
      simp [standing, lsState, h0] at hstand
    rw [if_pos hstand]
    exact .ite (.of_on hon ((OtherCarKept.of_within (doorOpenNow_within ..) rfl).setLs _)) (.ite (hclose _) (.ite (hclose _)
      (.ite ((hclose _).within (strokeBack_within ..) rfl) (.ite hreopen (.ite (hreopen.within (strokeBack_within ..) rfl) (.refl k s))))))
  · rw [if_neg hstand]
    exact .ite (.refl k s) (.ite (hclose _) (.ite (hclose _) (.refl k s)))

theorem blockedOpening_offCar : OffCarKept k s (blockedOpening s k d) := by
  unfold blockedOpening
  extract_lets x s1 n y s2
  have h2 : OffCarKept k s s2 := (OffCarKept.of_within (doorHold_within ..) rfl).within (putDoor_within ..) rfl
  exact .ite ((h2.within (setDoor_within ..) rfl).trans (carFault_offCar ..)) h2

theorem doorStep_offCar : OffCarKept k s (doorStep read s k d) := by
  unfold doorStep
  have hset : ∀ st, OffCarKept k s (setDoor s d st) := fun st => .of_within (setDoor_within ..) rfl
  have hput : ∀ x, OffCarKept k s (putDoor s d x) := fun x => .of_within (putDoor_within ..) rfl
  have hclose : ∀ n, OffCarKept k s (doorCloseNow s d n) := fun n => .of_within (doorCloseNow_within ..) rfl
  have href : OffCarKept k s (doorRef s d) := .of_within (doorRef_within ..) rfl
  have hbuttons := doorButtons_offCar s k d read
  split
  · exact .ite (.refl k s) (hset _)
  · extract_lets m st still x
    refine .ite (hset _) (.ite (.ite (.refl k s) href) (.ite ?_ (.ite ?_ (.ite ?_ (.ite ?_ hbuttons)))))
    · exact .ite ((hset _).trans (carFault_offCar ..)) (.ite ((hput _).within (doorShutNow_within ..) rfl) (.refl k s))
    · exact .ite (blockedOpening_offCar s k d) (.ite (.of_within (doorHold_within ..) rfl) (.ite ((hput _).within (setDoor_within ..) rfl) hbuttons))
    · exact .ite href (.ite (.of_within (obstruction_within ..) rfl) (.ite ((hput _).within (doorShutNow_within ..) rfl) (.ite (hclose _) hbuttons)))
    · exact .ite (.refl k s) (.ite hbuttons (.ite (.ite (.refl k s) (hclose _)) (.ite (.ite (.refl k s) (.ite
        (.of_within (doorOpenNow_within ..) rfl) (.refl k s))) (.ite (hclose _) (.refl k s)))))

theorem doorSteps_offCar : OffCarKept k s (doorSteps read s k) :=
  List.foldlRecOn _ _ (.refl k s) fun t ht d _ => (ht.trans (doorStep_offCar t k d read)).within (forceRead_within ..) rfl

/-! ### What is due at a cycle (R277, R280, R284) -/

theorem startRun_otherCar (st : Nat) (r : LiftRun) : OtherCarKept k s (startRun s k st r) :=
  ((OtherCarKept.of_within (carSync_within ..) rfl).within (putCar_within ..) rfl).setLs _

theorem findPosition_otherCar (kind : Nat) : OtherCarKept k s (findPosition s k kind) :=
  (OtherCarKept.foldl (fun _ _ => .of_within (putDoor_within ..) rfl) _ (.refl k s)).trans (startRun_otherCar ..)

theorem learnNow_otherCar : OtherCarKept k s (learnNow s k) :=
  .ite (.ite ((OtherCarKept.of_within (putCar_within ..) rfl).trans (findPosition_otherCar ..))
      ((OtherCarKept.of_within (putCar_within ..) rfl).within (refDoors_within ..) rfl))
    (.of_within (w := some [Od.lft_learn_result]) (ps := []) (.wr _ _ _ rfl (.refl _ _ _)) rfl)

theorem linkAction_otherCar : OtherCarKept k s (linkAction s k) := by
  unfold linkAction
  refine .ite (faultAction_otherCar ..) ?_
  split
  · exact .ite (.of_within (redirect_within ..) rfl) (.ite (.of_within (putCar_within ..) rfl) (.ite (.of_within (putCar_within ..) rfl)
      (faultAction_otherCar ..)))
  · exact faultAction_otherCar ..

theorem relevelNow_otherCar : OtherCarKept k s (relevelNow s k) :=
  .ite (.ite (.ite (.ite (startRun_otherCar ..) (.refl k s))
      ((OtherCarKept.foldl (fun _ _ => .of_within (doorKeep_within ..) rfl) _ (.refl k s)).trans (startRun_otherCar ..)))
    (carFault_offCar ..).other) (.refl k s)

theorem runTo_otherCar (l : Nat) : OtherCarKept k s (runTo s k l) :=
  (OtherCarKept.of_within (w := some [Od.lft_dir]) (ps := []) (.wr _ _ _ rfl (.refl _ _ _)) rfl).trans (startRun_otherCar ..)

theorem takeDue_otherCar (x : LiftDue) : OtherCarKept k s (takeDue k s x) := by
  unfold takeDue
  split
  · exact linkAction_otherCar s k
  · exact faultAction_otherCar ..
  · exact relevelNow_otherCar s k
  · exact .ite (runTo_otherCar ..) (.refl k s)
  · exact learnNow_otherCar s k
  · exact .ite (.refl k s) ((OtherCarKept.refl k s).setLs _)

theorem dueStep_otherCar : OtherCarKept k s (dueStep s k) :=
  .foldl (fun t x => takeDue_otherCar t k x) _ (.of_within (putCar_within ..) rfl)

/-! ### A car without a run (R282, R287, R297) -/

theorem correctionDue_otherCar : OtherCarKept k s (correctionDue s k) :=
  .ite (carFault_offCar ..).other (.ite (.ite (findPosition_otherCar ..) (.of_within (refDoors_within ..) rfl)) (.refl k s))

theorem dispatch_otherCar : OtherCarKept k s (dispatch s k) := by
  unfold dispatch
  extract_lets here op wait s1 park
  have hwait : ∀ t, OtherCarKept k t (wait t) := fun t => .ite (.refl k t) ((OtherCarKept.refl k t).setLs _)
  have h1 : OtherCarKept k s s1 := .of_within (w := some [Od.lft_dir]) (ps := []) (.wr _ _ _ rfl (.refl _ _ _)) rfl
  refine .ite (hwait s) (.ite (.ite (.ite (((OtherCarKept.refl k s).setLs _).within (wantOpen_within ..) rfl) (hwait s))
    (.ite (runTo_otherCar ..) (hwait s))) ?_)
  split
  · exact .ite (runTo_otherCar ..) (hwait s)
  · exact .ite (h1.trans (runTo_otherCar ..)) (h1.trans (hwait s1))

theorem levelRun_otherCar : OtherCarKept k s (levelRun s k) := by
  unfold levelRun
  split
  · exact (OtherCarKept.of_within (putCar_within ..) rfl).trans (startRun_otherCar ..)
  · exact .refl k s

theorem heldStep_otherCar : OtherCarKept k s (heldStep s k) := by
  unfold heldStep
  extract_lets x s1 s1' s2
  have h1 : OtherCarKept k s s1 := .of_within (putCar_within ..) rfl
  have h1' : OtherCarKept k s s1' :=
    (OtherCarKept.of_within (w := some [Od.lft_fault]) (ps := []) (.wr _ _ _ rfl (.refl _ _ _)) rfl).within (putCar_within ..) rfl
  have h2 : OtherCarKept k s s2 :=
    .foldl (fun t d => .ite ((OtherCarKept.of_within (setDoor_within ..) rfl).within (putDoor_within ..) rfl) (.refl k t)) _ h1'
  exact .ite (.of_within (openAt_within ..) rfl) (.ite (.ite (h1.setLs _) (.ite ((h1.setLs _).within (wantOpen_within ..) rfl)
    (.ite (.ite (h1.trans (levelRun_otherCar ..)) (.refl k s)) (h1.setLs _))))
    (.ite (.ite (h2.setLs _) ((h2.within (motPut_within ..) rfl).setLs _)) (.refl k s)))

theorem idleStep_otherCar : OtherCarKept k s (idleStep read s k) := by
  unfold idleStep
  extract_lets op
  have hset : ∀ st, OtherCarKept k s (setLs s k st) := fun st => (OtherCarKept.refl k s).setLs st
  have hput : ∀ x, OtherCarKept k s (putCar s k x) := fun x => .of_within (putCar_within ..) rfl
  split
  · exact .ite ((hput _).setLs _) (hset _)
  · exact .ite (hset _) (.ite (hset _) (correctionDue_otherCar s k))
  · exact .ite (hset _) (.ite (correctionDue_otherCar s k) (.ite (.ite (hput _) (.ite (levelRun_otherCar s k) (.refl k s)))
      (.ite ((hset _).within (wantOpen_within ..) rfl) (dispatch_otherCar s k))))
  · exact .ite (hset _) (.ite (.ite (.of_within (openAt_within ..) rfl) (.refl k s)) (.ite (dispatch_otherCar s k) (.refl k s)))
  · exact heldStep_otherCar s k
  · exact .ite ((hput _).setLs _) (.ite (startRun_otherCar ..) (.refl k s))
  · exact .refl k s

/-! ### Operating states (R297) -/

theorem opEntered_otherCar (op : Nat) : OtherCarKept k s (opEntered s k op) := by
  unfold opEntered
  extract_lets s1 s2
  have h1 : OtherCarKept k s s1 := .of_within (clearCalls_within ..) rfl
  have h2 : OtherCarKept k s s2 :=
    .ite (.ite h1 (h1.trans (rampStop_otherCar ..))) (.ite ((h1.within (dropRun_within ..) rfl).setLs _) h1)
  refine .ite (.foldl (fun t d => .ite (.of_within (doorHold_within ..) rfl) (.refl k t)) _ h2) (.ite ?_
    (.ite (.ite (.refl k s) (.of_within (clearCalls_within ..) rfl)) (.refl k s)))
  split
  · exact .ite (.ite (h1.within (redirect_within ..) rfl) ((h1.within (putCar_within ..) rfl).within (carGo_within ..) rfl))
      (.ite (h1.within (putCar_within ..) rfl) h1)
  · exact h1

theorem opStep_otherCar : OtherCarKept k s (opStep read s k) := by
  unfold opStep
  extract_lets n x s1
  have h1 : OtherCarKept k s s1 := .of_within (putCar_within ..) rfl
  exact .ite h1 ((h1.within (w := some [Od.lft_op_state]) (ps := []) (.wr _ _ _ rfl (.refl _ _ _)) rfl).trans (opEntered_otherCar ..))

/-! ### A run (R278, R283) -/

variable (r : LiftRun)

theorem launch_otherCar : OtherCarKept k s (launch read s k r) := by
  unfold launch
  extract_lets put up
  have hput : ∀ t q st, OtherCarKept k t (put t q st) := fun t q st => (OtherCarKept.of_within (putCar_within ..) rfl).setLs _
  exact .ite (((OtherCarKept.of_within (motPut_within ..) rfl).trans (hput _ _ _)).within (carGo_within ..) rfl)
    (.ite ((hput _ _ _).within (carGo_within ..) rfl) (.ite ((hput _ _ _).within (carGo_within ..) rfl)
      (.ite ((hput _ _ _).within (carGo_within ..) rfl) ((hput _ _ _).within (carGo_within ..) rfl))))

theorem correctionMove_otherCar : OtherCarKept k s (correctionMove read s k r) := by
  unfold correctionMove
  extract_lets c m put up
  have hput : ∀ t q, OtherCarKept k t (put t q) := fun t q => .of_within (putCar_within ..) rfl
  have hgo : ∀ t q x v, OtherCarKept k t (carGo (put t q) k x v) := fun t q x v => (hput t q).within (carGo_within ..) rfl
  have hcar : ∀ x, OtherCarKept k s (putCar s k x) := fun x => .of_within (putCar_within ..) rfl
  refine .ite (.ite (.refl k s) (hgo ..)) (.ite (.ite ((hput _ _).within (startReference_within ..) rfl) (.refl k s)) (.ite ?_ (.ite ?_
    (.ite (.ite (hput _ _) (.refl k s)) (.ite (.ite (((hcar _).trans (hput _ _)).within (rampDown_within ..) rfl) (.refl k s))
      (.ite (hput _ _) (.refl k s)))))))
  · exact .ite (.ite (hgo ..) (.refl k s)) (.ite (carFault_offCar ..).other (.refl k s))
  · exact .ite (.ite ((hcar _).trans (hgo ..)) (hput _ _)) (.refl k s)

theorem moveRun_otherCar : OtherCarKept k s (moveRun read s k r) := by
  unfold moveRun
  extract_lets m stopped put dest s1
  have hput : ∀ q, OtherCarKept k s (put s q) := fun q => .of_within (putCar_within ..) rfl
  have h1 : OtherCarKept k s s1 := .ite (.refl k s) ((hput _).within (carGo_within ..) rfl)
  exact .ite (correctionMove_otherCar ..) (.ite (.ite (hput _) (.ite (.ite (.refl k s) ((hput _).within (rampDown_within ..) rfl)) (.refl k s)))
    (.ite (hput _) (.ite (.ite (h1.setLs _) h1) (.ite ((OtherCarKept.refl k s).setLs _) (.refl k s)))))

theorem endRun_otherCar : OtherCarKept k s (endRun s k r) := by
  unfold endRun
  extract_lets x s1 s2
  have h1 : OtherCarKept k s s1 := .of_within (putCar_within ..) rfl
  have h2 : OtherCarKept k s s2 := h1.within (setLanding_within ..) rfl
  exact .ite (h1.setLs _) (.ite (h1.setLs _) (.ite (h1.setLs _) (.ite
    (.ite ((h1.within (wantOpen_within ..) rfl).setLs _) (.ite (h1.setLs _) (h1.trans (startRun_otherCar ..))))
    (.ite ((h2.within (wantOpen_within ..) rfl).setLs _) (.ite (h2.setLs _) ((h2.setLs _).within (wantOpen_within ..) rfl))))))

theorem runStep_otherCar : OtherCarKept k s (runStep read s k r) := by
  unfold runStep
  extract_lets x put
  have hput : ∀ n y, OtherCarKept k s (put n y) := fun n y => .of_within (putCar_within ..) rfl
  split
  · exact .ite (hput _ _) (.refl k s)
  · exact .ite (hput _ _) (.refl k s)
  · exact .ite (launch_otherCar ..) (.refl k s)
  · exact .ite (.ite (hput _ _) (.refl k s)) (moveRun_otherCar ..)
  · exact .refl k s
  · exact .ite (hput _ _) (.refl k s)
  · exact endRun_otherCar ..

/-! ### The cycle -/

theorem vaneStep_otherCar : OtherCarKept k s (vaneStep s k) := by
  unfold vaneStep
  extract_lets c x seq s1 rising count v fast learning
  have h1 : OtherCarKept k s s1 := .of_within (putCar_within ..) rfl
  refine .ite (.refl k s) (.ite (.ite h1 (h1.within (putCar_within ..) rfl)) (.ite h1 ?_))
  split
  · exact h1
  · exact .ite ((h1.within (putChan_within ..) rfl).within (w := some [Od.lft_corr_last, Od.lft_corr_count]) (ps := [])
      (.count _ _ _ rfl (.wrQ _ _ _ rfl (.refl _ _ _))) rfl) ((h1.within (motPut_within ..) rfl).trans (carFault_offCar ..).other)

/-- The cycle of a wired car as far as its faults. -/
def carWatched : State := watchCar (opStep read (dueStep (vaneStep (latchCar s k) k) k) k) k (s.rd Od.lft_status k)

/-- What a car's faults leave it to do in its cycle, before its doors. -/
def carActed (t : State) (k : Nat) (read : State → Nat → Nat → Nat) : State :=
  if !(inService t k) then carOff t k
  else match (liftCar t k).run with
    | some r => runStep read t k r
    | none => if (liftCar t k).due.contains .learn then t else idleStep read t k

/-- The cycle of a wired car as far as its doors. -/
def carRun : State := carActed (carWatched s k read) k read

theorem carWatched_otherCar : OtherCarKept k s (carWatched s k read) :=
  ((((OtherCarKept.of_within (latchCar_within ..) rfl).trans (vaneStep_otherCar ..)).trans (dueStep_otherCar ..)).trans
    (opStep_otherCar ..)).trans (watchCar_otherCar ..)

theorem carRun_otherCar : OtherCarKept k s (carRun s k read) := by
  have h := carWatched_otherCar s k read
  unfold carRun carActed
  refine .ite (h.trans (carOff_otherCar ..)) ?_
  split
  · exact h.trans (runStep_otherCar ..)
  · exact .ite h (h.trans (idleStep_otherCar ..))

variable {s k}

theorem carCycle_unwired (hwired : carWired s k = false) : carCycle read s k = doorSteps read (carOff s k) k := if_pos (by simp [hwired])

theorem carCycle_wired (hwired : carWired s k = true) : carCycle read s k = Machine.commandFrame (doorSteps read (carRun s k read) k) k := by
  unfold carCycle
  extract_lets old s1 s2 s3
  have h2 : s2 = carWatched s k read := rfl
  clear_value s2
  have h3 : s3 = carActed s2 k read := rfl
  rw [if_neg (by simp [hwired]), h3, h2, carRun]

variable (s k)

theorem carCycle_otherCar : OtherCarKept k s (carCycle read s k) := by
  cases hwired : carWired s k with
  | false =>
    rw [carCycle_unwired read hwired]
    exact (carOff_otherCar s k).trans (doorSteps_offCar ..).other
  | true =>
    rw [carCycle_wired read hwired]
    exact ((carRun_otherCar s k read).trans (doorSteps_offCar ..).other).within (commandFrame_within ..) rfl

end Car

end Sys2Proof.Proofs

/-!
## Lift runs: the drive link, faults, the brake and learning (R272, R273, R277, R279 to R284)
-/
namespace Sys2Proof.Proofs

open Sys2Proof Sys2Proof.Machine Sys2Proof.Safety Sys2Proof.Laws

/-! ### What follows a cycle sends no drive command (R86) -/

/-- The drive commands to a car among what has been sent. -/
def driveCount (k : Nat) (s : State) : Nat := (s.out.filter (toDrive k)).length

theorem driveCount_of_out {s t : State} (h : t.out = s.out) (k : Nat) : driveCount k t = driveCount k s := by rw [driveCount, h, driveCount]

theorem driveCount_of_within {w : Option (List Nat)} {ps : List Part} {s t : State} (h : Within w ps s t) (k : Nat)
    (hp : ps.contains .out = false := by rfl) : driveCount k t = driveCount k s := driveCount_of_out (h.parts .out hp) k

theorem driveCount_send (k : Nat) (s : State) (x : Out) : driveCount k (s.send x) = driveCount k s + if toDrive k x then 1 else 0 := by
  unfold driveCount State.send
  rw [List.filter_cons]
  split_ifs <;> simp

theorem bacSend_driveCount (k : Nat) (s : State) (o : Source) (n : Nat) {x : Out} (hx : toDrive k x = false) :
    driveCount k (bacSend s o n x) = driveCount k s := by
  unfold bacSend
  split_ifs
  · rfl
  · rw [driveCount_send, hx, driveCount_of_within (answerFrame_within ..)]
    simp

theorem respond_driveCount (k : Nat) (s : State) (op : Nat) (w : Who) (status handle seq : Nat) (items : List RespItem) :
    driveCount k (respond s op w status handle seq items) = driveCount k s := by
  unfold respond
  split_ifs
  · exact bacSend_driveCount k s _ _ rfl
  · exact bacSend_driveCount k s _ _ rfl
  · exact driveCount_of_within (lbComplete_within ..) k
  · rw [driveCount_send, driveCount_of_within (answerFrame_within ..)]
    simp [toDrive]

theorem sendWaiting_driveCount (k : Nat) (s : State) (seq : Nat) : driveCount k (sendWaiting s seq) = driveCount k s := by
  unfold sendWaiting
  split
  · rfl
  · exact respond_driveCount ..

theorem settle_driveCount (k : Nat) (s : State) : driveCount k (settle s) = driveCount k s := by
  unfold settle
  extract_lets done mer s1
  have h1 : driveCount k (if done = [] then s1 else noteLedger s1 0) = driveCount k s := by
    split_ifs
    · rfl
    · exact driveCount_of_within (noteLedger_within ..) k
  by_cases hstoring : s.nvs.storing.isSome = true
  · rw [if_pos hstoring]
  · rw [if_neg hstoring]
    exact List.foldlRecOn (motive := fun t => driveCount k t = driveCount k s) _ _ h1 fun t ht r _ =>
      (sendWaiting_driveCount k t r.seq).trans ht

/-! ### A cycle (R272, R273, R279, R303) -/

/-- The entries that a car's cycle may write. -/
def carEntries : List Nat :=
  [Od.rec_dropped, Od.mot_target, Od.mot_cmd_pos, Od.mot_cmd_vel, Od.mot_cmd_acc, Od.mot_state, Od.mot_status, Od.mot_ref_dir,
    Od.mot_ref_edge, Od.mot_latch_pos, Od.lft_state, Od.lft_op_state, Od.lft_speed, Od.lft_landing, Od.lft_dir, Od.lft_status, Od.lft_fault,
    Od.lft_corr_last, Od.lft_corr_count, Od.lft_car_calls, Od.lft_hall_up, Od.lft_hall_dn, Od.lft_call_seq, Od.lft_learn_result,
    Od.lft_door_state, Od.lft_door_obstr]

theorem carWatched_within (s : State) (k : Nat) (read : State → Nat → Nat → Nat) :
    Within (some carEntries) [.lft, .mer, .mot, .recd] s (carWatched s k read) :=
  .after (watchCar_within ..) rfl rfl (.after (opStep_within ..) rfl rfl (.after (dueStep_within ..) rfl rfl
    (.after (vaneStep_within ..) rfl rfl (.after (latchCar_within ..) rfl rfl (.refl _ _ _)))))

theorem carRun_within (s : State) (k : Nat) (read : State → Nat → Nat → Nat) :
    Within (some carEntries) [.lft, .mer, .mot, .recd] s (carRun s k read) := by
  have h := carWatched_within s k read
  unfold carRun carActed
  refine .ite (.after (carOff_within ..) rfl rfl h) ?_
  split
  · exact .after (runStep_within ..) rfl rfl h
  · exact .ite h (.after (idleStep_within ..) rfl rfl h)

/-- A car's wiring is its configuration alone. -/
theorem carWired_of_within {ps : List Part} {s t : State} (h : Within (some carEntries) ps s t) (k : Nat) : carWired t k = carWired s k := by
  have hport : liftPort t k = liftPort s k := by
    unfold liftPort
    exact congrArg (fun f => (List.range 16).find? f) (funext fun p => by rw [h.keeps Od.fld_t1l_role p])
  rw [carWired, hport, h.variant, h.keeps Od.lft_enable k, useOf, h.keeps Od.mot_use _, carWired, useOf]

/-- A car's drive is sent a frame where it has an address. -/
theorem commandFrame_driveCount {s : State} {k : Nat} (hwired : carWired s k = true) (j : Nat) :
    driveCount j (Machine.commandFrame s k) = driveCount j s + if j = k ∧ s.rd Od.lft_drive_mac k ≠ 0 then 1 else 0 := by
  obtain ⟨p, hport⟩ : ∃ p, liftPort s k = some p := by
    simp only [carWired, Bool.and_eq_true] at hwired
    exact Option.isSome_iff_exists.mp hwired.2
  unfold Machine.commandFrame
  extract_lets x m zero v a control bytes volts sref s1 mac
  have h1 : driveCount j s1 = driveCount j s := driveCount_of_within (putCar_within ..) j
  simp only [hport]
  by_cases hmac : mac = 0
  · have hmac' : s.rd Od.lft_drive_mac k = 0 := hmac
    simp [hmac, hmac', h1]
  · have hmac' : s.rd Od.lft_drive_mac k ≠ 0 := hmac
    have hto : toDrive j (.driveCmd k p mac bytes) = decide (j = k) := by
      rw [toDrive, Bool.beq_eq_decide_eq, decide_eq_decide]
      exact eq_comm
    rw [if_neg hmac, driveCount_send, h1, hto]
    simp [hmac']

/-- The drive commands of a car's cycle. -/
theorem carCycle_driveCount (s : State) (k j : Nat) (read : State → Nat → Nat → Nat) :
    driveCount j (carCycle read s k) = driveCount j s + if j = k ∧ carWired s k = true ∧ s.rd Od.lft_drive_mac k ≠ 0 then 1 else 0 := by
  cases hwired : carWired s k with
  | false =>
    rw [carCycle_unwired read hwired, driveCount_of_within (doorSteps_within ..), driveCount_of_within (carOff_within ..)]
    simp
  | true =>
    have hrun := carRun_within s k read
    have hdoors : Within (some carEntries) [.lft, .mer, .mot, .recd] s (doorSteps read (carRun s k read) k) := .after (doorSteps_within ..) rfl rfl hrun
    rw [carCycle_wired read hwired, commandFrame_driveCount ((carWired_of_within hdoors k).trans hwired), hdoors.keeps Od.lft_drive_mac k,
      driveCount_of_within hdoors]
    simp

theorem enterCalls_none {s : State} (h : s.lft.calls = []) : Within (some []) [.lft] s (enterCalls s) := by
  rw [enterCalls, h]
  exact .lft _ rfl (.refl _ _ _)

theorem liftCycle_cars {s : State} (hr : running s = true) (hv : s.variant = .x) :
    liftCycle readElem s = carCycle readElem (carCycle readElem (enterCalls s) 0) 1 := if_pos ⟨hr, hv⟩

theorem liftCycle_driveCount {s : State} {k : Nat} (hr : running s = true) (hv : s.variant = .x) (hk : k < 2) (hwired : carWired s k = true)
    (hcalls : s.lft.calls = []) :
    driveCount k (liftCycle readElem s) = driveCount k s + if s.rd Od.lft_drive_mac k = 0 then 0 else 1 := by
  have h0 : Within (some carEntries) [.lft] s (enterCalls s) := (enterCalls_none hcalls).mono rfl rfl
  have h1 : Within (some carEntries) [.lft, .mer, .mot, .out, .recd] s (carCycle readElem (enterCalls s) 0) :=
    .after (carCycle_within ..) rfl rfl (h0.mono rfl rfl)
  rw [liftCycle_cars hr hv, carCycle_driveCount, carCycle_driveCount, driveCount_of_within h0, carWired_of_within h0, carWired_of_within h1,
    h0.keeps Od.lft_drive_mac _, h1.keeps Od.lft_drive_mac _]
  interval_cases k <;> simp [hwired]

/-- An unwired car is OFF after a cycle. -/
theorem liftCycle_unwired {s : State} {k : Nat} (hr : running s = true) (hv : s.variant = .x) (hk : k < 2) (hwired : carWired s k = false)
    (hcalls : s.lft.calls = []) : (liftCycle readElem s).rd Od.lft_state k = 0 := by
  have h0 : Within (some carEntries) [.lft] s (enterCalls s) := (enterCalls_none hcalls).mono rfl rfl
  have h1 : Within (some carEntries) [.lft, .mer, .mot, .out, .recd] s (carCycle readElem (enterCalls s) 0) :=
    .after (carCycle_within ..) rfl rfl (h0.mono rfl rfl)
  have hoff : ∀ t, carWired t k = false → (carCycle readElem t k).rd Od.lft_state k = 0 := fun t ht => by
    rw [carCycle_unwired readElem ht, (doorSteps_offCar ..).state k (.inr (carOff_off t k)), carOff_off]
  rw [liftCycle_cars hr hv]
  interval_cases k
  · rw [(carCycle_otherCar _ 1 readElem).state 0 (by decide)]
    exact hoff _ ((carWired_of_within h0 0).trans hwired)
  · exact hoff _ ((carWired_of_within h1 1).trans hwired)

end Sys2Proof.Proofs

/-!
## Lift runs: the drive link, faults, the brake, learning and relevelling (R277, R279 to R284)
-/
namespace Sys2Proof.Proofs

open Sys2Proof Sys2Proof.Machine Sys2Proof.Safety Sys2Proof.Laws

/-! ### The parts of a car -/

theorem liftCar_putCar_self (s : State) (k : Nat) (x : LiftCar) : liftCar (putCar s k x) k = x := tabGet_tabPut_self ..

theorem liftCar_of_within {w : Option (List Nat)} {ps : List Part} {s t : State} (h : Within w ps s t) (k : Nat)
    (hp : ps.contains .lft = false := by rfl) : liftCar t k = liftCar s k := by
  rw [liftCar, h.parts .lft hp, liftCar]

theorem liftCar_setLs (s : State) (k st : Nat) : liftCar (setLs s k st) k = liftCar s k := liftCar_of_within (setLs_within ..) k

theorem setLs_state (s : State) (k st : Nat) (h : st < 2 ^ widthOf Od.lft_state := by decide) : (setLs s k st).rd Od.lft_state k = st :=
  rd_wr_fit _ _ _ _ h

theorem carMoving_of_run {s t : State} {k : Nat} (h : (liftCar t k).run = (liftCar s k).run) : carMoving t k = carMoving s k := by
  rw [carMoving, h, carMoving]

/-- A run that has yet to get its car moving does not move it; one at step 3 does. -/
theorem carMoving_of_runAt {s : State} {k n : Nat} (h : runAt s k n = true) : carMoving s k = (n == 3) := by
  unfold runAt at h
  unfold carMoving
  split at h
  · simp only [Bool.and_eq_true, beq_iff_eq, bne_iff_ne] at h
    simp [h]
  · contradiction

/-! ### What is due at the next cycle (R282) -/

/-- The car with nothing due any more, as the next cycle takes it. -/
def clearDue (s : State) (k : Nat) : State := putCar s k { liftCar s k with due := [] }

theorem clearDue_run (s : State) (k : Nat) : (liftCar (clearDue s k) k).run = (liftCar s k).run := by rw [clearDue, liftCar_putCar_self]

theorem clearDue_within (s : State) (k : Nat) : Within (some []) [.lft] s (clearDue s k) := putCar_within ..

theorem putDue_first {s : State} {k : Nat} (d : LiftDue) (hdue : (liftCar s k).due = []) :
    putDue s k d = putCar s k { liftCar s k with due := [d] } := by
  unfold putDue
  rw [hdue, if_neg (by simp)]
  rfl

theorem dueStep_single {s : State} {k : Nat} {d : LiftDue} (h : (liftCar s k).due = [d]) : dueStep s k = takeDue k (clearDue s k) d := by
  unfold dueStep
  rw [h]
  rfl

/-! ### A fault between two cycles (R281, R282) -/

theorem takeFault_code (s : State) (k code : Nat) (h : code < 2 ^ widthOf Od.lft_fault) : (takeFault s k code).rd Od.lft_fault k = code :=
  ((liftEvent_within ..).keeps Od.lft_fault k).trans (rd_wr_fit _ _ _ _ h)

section LateFault

variable {s : State} {k code : Nat} (hon : s.rd Od.lft_state k ≠ 0) (hdue : (liftCar s k).due = [])
include hon hdue

theorem lateFault_eq : lateFault s k code = putCar (takeFault s k code) k { liftCar s k with due := [.fault code] } := by
  have hcar : liftCar (takeFault s k code) k = liftCar s k := liftCar_of_within (takeFault_within ..) k
  have hls : lsState s k ≠ 0 := hon
  rw [lateFault, if_neg hls, putDue_first _ (by rw [hcar, hdue]), hcar]

theorem lateFault_code (h : code < 2 ^ widthOf Od.lft_fault) : (lateFault s k code).rd Od.lft_fault k = code := by
  rw [lateFault_eq hon hdue]
  exact ((putCar_within ..).keeps Od.lft_fault k).trans (takeFault_code s k code h)

theorem lateFault_car : liftCar (lateFault s k code) k = { liftCar s k with due := [.fault code] } := by
  rw [lateFault_eq hon hdue, liftCar_putCar_self]

theorem lateFault_dueStep : dueStep (lateFault s k code) k = takeDue k (clearDue (lateFault s k code) k) (.fault code) :=
  dueStep_single (by rw [lateFault_car hon hdue])

/-- The car that the next cycle takes the fault's action on. -/
theorem lateFault_moving : carMoving (clearDue (lateFault s k code) k) k = carMoving s k :=
  carMoving_of_run (by rw [clearDue_run, lateFault_car hon hdue])

omit hon hdue in
theorem lateFault_cleared_within : Within (some [Od.rec_dropped, Od.lft_fault]) [.lft, .recd] s (clearDue (lateFault s k code) k) :=
  .after (clearDue_within ..) rfl rfl (lateFault_within ..)

end LateFault

/-! ### The action of a fault -/

theorem abandonRun_state (s : State) (k : Nat) : (abandonRun s k).rd Od.lft_state k = 10 := setLs_state ..

theorem abandonRun_run (s : State) (k : Nat) : (liftCar (abandonRun s k) k).run = none := by
  rw [abandonRun, liftCar_setLs, dropRun, liftCar_putCar_self]

theorem faultAction_standing {s : State} {k : Nat} (hm : carMoving s k = false) (hon : s.rd Od.lft_state k ≠ 0) (onBrake : Bool) :
    faultAction s k onBrake = abandonRun s k := by
  have hls : lsState s k ≠ 0 := hon
  rw [faultAction, if_neg (by simp [hm]), if_neg hls]

theorem faultAction_moving {s : State} {k : Nat} (hm : carMoving s k = true) (onBrake : Bool) :
    (faultAction s k onBrake).rd Od.lft_state k = 9 := by
  rw [faultAction, if_pos hm]
  split_ifs with hbrake hstopping
  · exact setLs_state ..
  · exact hstopping
  · exact setLs_state ..

/-- A late fault abandons the run of a car that does not move (R282). -/
theorem lateFault_abandons {s : State} {k code : Nat} (hon : s.rd Od.lft_state k ≠ 0) (hdue : (liftCar s k).due = [])
    (hm : carMoving s k = false) (hcode : code ≠ 1) :
    dueStep (lateFault s k code) k = abandonRun (clearDue (lateFault s k code) k) k := by
  have hstate : (clearDue (lateFault s k code) k).rd Od.lft_state k = s.rd Od.lft_state k := lateFault_cleared_within.keeps Od.lft_state k
  rw [lateFault_dueStep hon hdue, takeDue]
  · exact faultAction_standing ((lateFault_moving hon hdue).trans hm) (by rwa [hstate]) false
  · exact hcode

/-- A late fault stops a moving car (R281). -/
theorem lateFault_stops {s : State} {k code : Nat} (hon : s.rd Od.lft_state k ≠ 0) (hdue : (liftCar s k).due = [])
    (hm : carMoving s k = true) (hcode : code ≠ 1) : (dueStep (lateFault s k code) k).rd Od.lft_state k = 9 := by
  rw [lateFault_dueStep hon hdue, takeDue]
  · exact faultAction_moving ((lateFault_moving hon hdue).trans hm) false
  · exact hcode

/-! ### The drive link (R279, R280) -/

theorem wordAt_lt (bytes : List Nat) (i : Nat) : ofBytes (slice bytes i 2) < 2 ^ 16 := by
  have hlen : (slice bytes i 2).length ≤ 2 := List.length_take_le ..
  exact lt_of_lt_of_le (ofBytes_lt _) (Nat.pow_le_pow_right (by decide) hlen)

theorem driveStatusFrameRx_taken {s : State} {k : Nat} {bytes : List Nat} (hr : running s = true) (hk : k < 2) (hwired : carWired s k = true)
    (hmac : s.rd Od.lft_drive_mac k ≠ 0) (h0 : bytes.getD 0 0 = 1) (h1 : bytes.getD 1 0 = 2) (hlen : 16 ≤ bytes.length) :
    driveStatusFrameRx k (s.rd Od.lft_drive_mac k) bytes s =
      (putCar s k { liftCar s k with drive := ofBytes (slice bytes 8 2), missed := 0 }).wr Od.lft_drive_fault (ofBytes (slice bytes 10 2)) k :=
  if_pos ⟨hr, hk, hwired, rfl, hmac, h0, h1, hlen⟩

/-- The car as the loss of the link leaves it at once: shown and counted. -/
def linkLost (s : State) (k : Nat) : State :=
  (((putCar s k { liftCar s k with lost := true }).count Od.lft_link_lost k).wrBit Od.lft_status 7 false k).wrBit Od.lft_status 8
    (s.rd Od.lft_sref_enable k == 1) k

theorem linkLost_car (s : State) (k : Nat) : liftCar (linkLost s k) k = { liftCar s k with lost := true } := by
  have h : Within (some [Od.lft_link_lost, Od.lft_status]) [] (putCar s k { liftCar s k with lost := true }) (linkLost s k) :=
    .wrBit _ _ _ _ rfl (.wrBit _ _ _ _ rfl (.count _ _ _ rfl (.refl _ _ _)))
  rw [liftCar_of_within h, liftCar_putCar_self]

/-- The car whose run request is withdrawn at once, without SREF (R280). -/
def linkDropped (s : State) (k : Nat) : State := putCar (linkLost s k) k (dropRequests { liftCar s k with lost := true })

theorem linkDropped_within (s : State) (k : Nat) : Within (some [Od.lft_link_lost, Od.lft_status]) [.lft] s (linkDropped s k) :=
  .after (putCar_within ..) rfl rfl (.wrBit _ _ _ _ rfl (.wrBit _ _ _ _ rfl (.count _ _ _ rfl (.after (putCar_within ..) rfl rfl (.refl _ _ _)))))

theorem linkDropped_car (s : State) (k : Nat) : liftCar (linkDropped s k) k = dropRequests { liftCar s k with lost := true } :=
  liftCar_putCar_self ..

theorem linkDropped_count {s : State} {k : Nat} (h : s.rd Od.lft_link_lost k + 1 < 2 ^ 32) :
    (linkDropped s k).rd Od.lft_link_lost k = s.rd Od.lft_link_lost k + 1 := by
  rw [linkDropped, (putCar_within ..).keeps Od.lft_link_lost k, linkLost]
  have hbits : ∀ t b, Within (some [Od.lft_status]) [] t ((t.wrBit Od.lft_status 7 false k).wrBit Od.lft_status 8 b k) :=
    fun t b => .wrBit _ _ _ _ rfl (.wrBit _ _ _ _ rfl (.refl _ _ _))
  rw [(hbits _ _).keeps Od.lft_link_lost k]
  exact rd_count_self h

theorem driveLinkLost_eq {s : State} {k : Nat} (hr : running s = true) (hk : k < 2) (hwired : carWired s k = true)
    (hlost : (liftCar s k).lost = false) (hmissed : 3 ≤ (liftCar s k).missed) (hsref : s.rd Od.lft_sref_enable k = 0)
    (hm : carMoving s k = true) : driveLinkLost k s = lateFault (linkDropped s k) k 1 := by
  have hmoving : carMoving (linkLost s k) k = true := (carMoving_of_run (by rw [linkLost_car])).trans hm
  unfold driveLinkLost
  extract_lets x s1 s2 s3
  have h3 : s3 = linkDropped s k := (if_pos ⟨hsref, hmoving⟩).trans (congrArg (fun y => putCar (linkLost s k) k (dropRequests y)) (linkLost_car s k))
  rw [if_pos ⟨hr, hk, hwired, by simp [x, hlost], hmissed⟩, h3]

/-- The loss of the link at the next cycle: a moving car without SREF goes onto its brake. -/
theorem lateLink_stops {s : State} {k : Nat} (hon : s.rd Od.lft_state k ≠ 0) (hdue : (liftCar s k).due = [])
    (hm : carMoving s k = true) (hsref : s.rd Od.lft_sref_enable k = 0) : (dueStep (lateFault s k 1) k).rd Od.lft_state k = 9 := by
  have hsref' : (clearDue (lateFault s k 1) k).rd Od.lft_sref_enable k = 0 := (lateFault_cleared_within.keeps Od.lft_sref_enable k).trans hsref
  rw [lateFault_dueStep hon hdue, takeDue, linkAction, if_pos hsref']
  exact faultAction_moving ((lateFault_moving hon hdue).trans hm) true

theorem driveLinkRestored_eq {s : State} {k : Nat} (hr : running s = true) (hk : k < 2) (hwired : carWired s k = true)
    (hlost : (liftCar s k).lost = true) (hmissed : (liftCar s k).missed < 3) :
    driveLinkRestored k s = ((putCar s k { liftCar s k with lost := false }).wrBit Od.lft_status 7 true k).wrBit Od.lft_status 8 false k :=
  if_pos ⟨hr, hk, hwired, hlost, hmissed⟩

/-! ### A learning run ends (R277) -/

theorem learnRunEnd_result {s : State} {k n : Nat} (hr : running s = true) (hk : k < 2) (hdone : (liftCar s k).learnDone = true)
    (hedges : (liftCar s k).edges ≠ []) (hn : n = (learnedVanes (liftCar s k).edges none).length) :
    (learnRunEnd k s).rd Od.lft_learn_result k = if n = s.rd Od.lft_landings k then 1 else if n < s.rd Od.lft_landings k then 2 else 3 := by
  rw [learnRunEnd, if_pos ⟨hr, hk, hdone, hedges⟩, hn]
  refine rd_wr_fit _ _ _ _ ?_
  split_ifs <;> decide

/-! ### Relevelling (R284) -/

/-- The conditions of a relevelling read the car alone of what the lift logic keeps. -/
theorem relevelWanted_of_car {s : State} {k : Nat} {l : LiftState} (h : tabGet {} k l.cars = liftCar s k) :
    relevelWanted { s with lft := l } k = relevelWanted s k := by
  have hcar : liftCar { s with lft := l } k = liftCar s k := h
  have hserv : inService { s with lft := l } k = inService s k := by
    rw [inService, hcar]
    rfl
  rw [relevelWanted, hserv, hcar]
  rfl

theorem relevelWanted_of_offFloor {s : State} {k l : Nat} (hr : running s = true) (hmode : s.mode ≠ .safeHold) (hk : k < 2)
    (hserv : inService s k = true) (hst : s.rd Od.lft_state k = 3) (hrun : (liftCar s k).run = none) (href : refd s k = true)
    (hl : s.rd Od.lft_landing k = l) (hland : l < landings s k)
    (hoff : (s.rdQ Od.lft_relevel k).lt (mmOf s k (carPos s k - landPos s k l)).abs = true) : relevelWanted s k = true := by
  have hls : lsState s k = 3 := hst
  subst hl
  simp [relevelWanted, hr, hmode, hk, hserv, hls, hrun, href, hland, hoff]

/-- A car with its doors locked and the permit relevels in state 8, its drive requested. -/
theorem relevelNow_starts {s : State} {k l : Nat} (hw : relevelWanted s k = true) (hl : s.rd Od.lft_landing k = l)
    (hpos : vaneLo s k l ≤ carPos s k ∧ carPos s k ≤ vaneHi s k l) (hfloor : vaneLo s k l ≤ landPos s k l ∧ landPos s k l ≤ vaneHi s k l)
    (hmay : mayRun s k = true) : relevelNow s k = startRun s k 8 { kind := 3, dest := l } := by
  subst hl
  obtain ⟨hlock, hpermit⟩ : stBit s k 1 = true ∧ runPermitted s k = true := by simpa [mayRun] using hmay
  rw [relevelNow, if_pos hw, if_pos (by simp [hpos, hfloor]), if_pos hlock, if_pos hpermit]

theorem startRun_state (s : State) (k st : Nat) (r : LiftRun) (h : st < 2 ^ widthOf Od.lft_state := by decide) :
    (startRun s k st r).rd Od.lft_state k = st := setLs_state _ _ _ h

theorem startRun_driveReq (s : State) (k st : Nat) (r : LiftRun) : (liftCar (startRun s k st r) k).driveReq = true := by
  rw [startRun, liftCar_setLs, liftCar_putCar_self]

theorem relevelStart_eq {s : State} {k : Nat} (hdue : (liftCar s k).due = []) (hw : relevelWanted s k = true) :
    relevelStart k s = putCar s k { liftCar s k with due := [.relevel] } := (if_pos hw).trans (putDue_first _ hdue)

/-- A car due to relevel, as its next cycle takes it: nothing but the lift logic's own record has changed. -/
theorem relevelDue_step {s : State} {k l : Nat} (hdue : (liftCar s k).due = []) (hw : relevelWanted s k = true)
    (hl : s.rd Od.lft_landing k = l) (hpos : vaneLo s k l ≤ carPos s k ∧ carPos s k ≤ vaneHi s k l)
    (hfloor : vaneLo s k l ≤ landPos s k l ∧ landPos s k l ≤ vaneHi s k l) (hmay : mayRun s k = true) :
    ∃ u, dueStep (relevelStart k s) k = startRun u k 8 { kind := 3, dest := l } := by
  have hput := relevelStart_eq hdue hw
  have hcar : liftCar (clearDue (relevelStart k s) k) k = liftCar s k := by
    rw [clearDue, liftCar_putCar_self, hput, liftCar_putCar_self, ← hdue]
  have hstep : dueStep (relevelStart k s) k = relevelNow (clearDue (relevelStart k s) k) k :=
    dueStep_single (d := .relevel) (by rw [hput, liftCar_putCar_self])
  obtain ⟨x, hx⟩ : ∃ x : LiftState, clearDue (relevelStart k s) k = { s with lft := x } := ⟨_, by rw [hput]; rfl⟩
  rw [hx] at hcar hstep
  exact ⟨_, hstep.trans (relevelNow_starts ((relevelWanted_of_car hcar).trans hw) hl hpos hfloor hmay)⟩

/-- Settles O29: a cycle's sends and states car by car, and each command's own effect; what a fault leaves due is taken from the state that
the next cycle finds. -/
theorem liftRuns : Obligations.LiftRuns := by
  refine ⟨?cycle, ?unwired, ?frame, ?linkLost, ?linkRestored, ?magnetise, ?brakeOpen, ?following, ?brakeRelease, ?learn, ?relevel⟩
  case cycle =>
    intro s k hr hv hk hwired hcalls _
    exact ⟨_, rfl, (settle_driveCount k _).trans (liftCycle_driveCount hr hv hk hwired hcalls)⟩
  case unwired =>
    intro s k hr hv hk hwired hcalls _
    exact ⟨_, rfl, ((settle_within _).keeps Od.lft_state k).trans (liftCycle_unwired hr hv hk hwired hcalls)⟩
  case frame =>
    intro s k bytes hr hk hwired hmac h0 h1 hlen
    have hcar : liftCar (driveStatusFrameRx k (s.rd Od.lft_drive_mac k) bytes s) k =
        { liftCar s k with drive := ofBytes (slice bytes 8 2), missed := 0 } := by
      rw [driveStatusFrameRx_taken hr hk hwired hmac h0 h1 hlen]
      exact liftCar_putCar_self ..
    refine ⟨_, rfl, by rw [hcar], by rw [hcar], ?_⟩
    rw [driveStatusFrameRx_taken hr hk hwired hmac h0 h1 hlen]
    exact rd_wr_fit _ _ _ _ (wordAt_lt ..)
  case linkLost =>
    intro s k hr hk hwired hlost hmissed hsref hm hcount hon hdue
    have hkept := linkDropped_within s k
    have hcar := linkDropped_car s k
    have hon' : (linkDropped s k).rd Od.lft_state k ≠ 0 := by rwa [hkept.keeps Od.lft_state k]
    have hdue' : (liftCar (linkDropped s k) k).due = [] := by rw [hcar]; exact hdue
    have hm' : carMoving (linkDropped s k) k = true := (carMoving_of_run (by rw [hcar]; rfl)).trans hm
    refine ⟨_, next_of_eq (driveLinkLost_eq hr hk hwired hlost hmissed hsref hm), ?_, lateFault_code hon' hdue' (by decide), ?_, ?_,
      lateLink_stops hon' hdue' hm' ((hkept.keeps Od.lft_sref_enable k).trans hsref)⟩
    · exact ((lateFault_within ..).keeps Od.lft_state k).trans (hkept.keeps Od.lft_state k)
    · exact ((lateFault_within ..).keeps Od.lft_link_lost k).trans (linkDropped_count hcount)
    · rw [lateFault_car hon' hdue', hcar]
      rfl
  case linkRestored =>
    intro s k hr hk hwired hlost hmissed
    refine ⟨_, next_of_eq (driveLinkRestored_eq hr hk hwired hlost hmissed), ?_, ?_, ?_⟩
    · exact congrArg LiftCar.lost (liftCar_putCar_self ..)
    · rw [rdBit_wrBit _ _ _ _ _ _ (by decide), if_neg (by decide), rdBit_wrBit _ _ _ _ _ _ (by decide), if_pos rfl]
    · rw [rdBit_wrBit _ _ _ _ _ _ (by decide), if_pos rfl]
  case magnetise =>
    intro s k hr hk hat hdrive hon hdue
    have hab := lateFault_abandons hon hdue (carMoving_of_runAt hat) (code := 4) (by decide)
    refine ⟨_, next_of_eq (if_pos ⟨hr, hk, hat, by simp [hdrive]⟩), lateFault_code hon hdue (by decide),
      (lateFault_within ..).keeps Od.lft_state k, ?_, ?_⟩
    · rw [hab, abandonRun_state]
    · rw [hab, abandonRun_run]
  case brakeOpen =>
    intro s k hr hk hat hopen hon hdue
    have hab := lateFault_abandons hon hdue (carMoving_of_runAt hat) (code := 5) (by decide)
    refine ⟨_, next_of_eq (if_pos ⟨hr, hk, hat, by simp [hopen]⟩), lateFault_code hon hdue (by decide),
      (lateFault_within ..).keeps Od.lft_state k, ?_, ?_⟩
    · rw [hab, abandonRun_state]
    · rw [hab, abandonRun_run]
  case following =>
    intro s k hr hk hat h9 hon hdue hfar
    exact ⟨_, next_of_eq (if_pos ⟨hr, hk, hat, h9, hfar⟩), lateFault_code hon hdue (by decide), (lateFault_within ..).keeps Od.lft_state k,
      lateFault_stops hon hdue (carMoving_of_runAt hat) (by decide)⟩
  case brakeRelease =>
    intro s k r hr hk hrun hstep
    have hcar : liftCar (brakeReleaseDelay k s) k = { liftCar s k with brakeReq := false, run := some { r with step := 5 } } := by
      simp only [brakeReleaseDelay, hrun]
      rw [if_pos ⟨hr, hk, hstep⟩, liftCar_putCar_self]
    exact ⟨_, rfl, by rw [hcar], by rw [hcar]⟩
  case learn =>
    intro s k n hr hk hdone hedges hn
    exact ⟨_, rfl, learnRunEnd_result hr hk hdone hedges hn⟩
  case relevel =>
    intro s k l hr hmode hk hserv hst hrun href hl hland hoff hlo hhi hflo hfhi hmay hdue
    have hw := relevelWanted_of_offFloor hr hmode hk hserv hst hrun href hl hland hoff
    obtain ⟨u, hu⟩ := relevelDue_step hdue hw hl ⟨hlo, hhi⟩ ⟨hflo, hfhi⟩ hmay
    refine ⟨_, rfl, by rw [relevelStart_eq hdue hw]; rfl, ?_, ?_⟩
    · rw [hu]
      exact startRun_state ..
    · rw [hu, startRun_driveReq]

end Sys2Proof.Proofs
